-- ==== Sys2Proof/Word.lean ====
section
/-! DEFINITION. The words of the AX8120: a 32-bit register word (R8), a byte, and nothing more. -/

namespace Sys2Proof

/-- A register word: every register of the device is 32 bits wide (R8, R578). -/
abbrev W32 := BitVec 32

/-- One byte of a record, a packet or a memory. -/
abbrev Byte := BitVec 8

end Sys2Proof
end

