-- ==== Sys2Proof/Machine/Tab.lean ====
section
/-! DEFINITION. Sparse tables. A table is a list of (key, value) pairs in ONE canonical form: keys strictly rising, no
entry equal to what an unlisted key reads as. What an unlisted key reads as is the table's default function. -/

namespace Sys2Proof.Machine

/-- A sparse table: (key, value) pairs with strictly rising keys. -/
abbrev Tab (α : Type) := List (Nat × α)

/-- The value a table lists for a key, if it lists one. -/
def tfind {α : Type} : Tab α → Nat → Option α
  | [], _ => none
  | (k', v) :: t, k => if k' = k then some v else tfind t k

/-- The value of a key: the listed one, else the default. -/
def tget {α : Type} (d : Nat → α) (t : Tab α) (k : Nat) : α := (tfind t k).getD (d k)

/-- List `v` at `k`, keeping the keys in rising order. -/
def tput {α : Type} : Tab α → Nat → α → Tab α
  | [], k, v => [(k, v)]
  | (k', v') :: t, k, v =>
    if k < k' then (k, v) :: (k', v') :: t
    else if k = k' then (k, v) :: t
    else (k', v') :: tput t k v

/-- Take every entry of `k` out: the one entry, in a table of canonical form. -/
def tdel {α : Type} : Tab α → Nat → Tab α
  | [], _ => []
  | (k', v') :: t, k => if k = k' then tdel t k else (k', v') :: tdel t k

/-- Write `v` at `k`: the entry goes when `v` is what an unlisted `k` reads as. -/
def tset {α : Type} [DecidableEq α] (d : Nat → α) (t : Tab α) (k : Nat) (v : α) : Tab α :=
  if v = d k then tdel t k else tput t k v

/-- Whether the keys of a table rise strictly, all above `lo` when it is given. -/
def tsorted {α : Type} : Option Nat → Tab α → Bool
  | _, [] => true
  | none, (k, _) :: t => tsorted (some k) t
  | some lo, (k, _) :: t => decide (lo < k) && tsorted (some k) t

/-- The canonical form of a table under a default. -/
def twf {α : Type} [DecidableEq α] (d : Nat → α) (t : Tab α) : Bool :=
  tsorted none t && t.all (fun kv => decide (kv.2 ≠ d kv.1))

/-- The keys that a table lists. -/
def tkeys {α : Type} (t : Tab α) : List Nat := t.map Prod.fst

end Sys2Proof.Machine
end

