-- ==== Sys2Proof/Machine/TypesCore.lean ====
section
/-! DEFINITION. The plain data of the device's common parts: the event queue, rate limits, the fault log and the cask, the
timebase, the register mirror, the staging of changes, start-up, and the management port. -/

namespace Sys2Proof.Machine

/-- A control port (R574): HCP, management port, Yudizor, media MACs, the test access port. -/
inductive Port where
  | hcp | mgmt | yz | media | jtag
  deriving DecidableEq, Repr

/-- The number of a port in AUTHORITY section order (R544). -/
def Port.num : Port → Nat
  | .hcp => 0 | .mgmt => 1 | .yz => 2 | .media => 3 | .jtag => 4

/-- An event record (R585). `arg` holds ARG bytes 0 to 11, byte 0 lowest. `ns` holds the NS word, bit 30 included. -/
structure EvRec where
  code  : Nat
  inst  : Nat
  epoch : Nat
  sec   : Nat
  ns    : Nat
  arg   : Nat
  deriving DecidableEq, Repr

/-- The record of an unlisted ring slot: all words 0 (EVQ_RING's reset value). -/
def EvRec.zero : EvRec := ⟨0, 0, 0, 0, 0, 0⟩

/-- The event queue (R588 to R591): counts of records entered and consumed since reset, the ring slots written, and the
discards of hold mode not yet reported by an 0x0501 record. -/
structure Evq where
  wr     : Nat
  rd     : Nat
  ring   : Tab EvRec
  unrep  : Nat
  deriving DecidableEq, Repr

/-- A subscriber of the event stream (R577): its sender, its block mask, the raw time of its last SUBSCRIBE, the count of
its stream datagrams, the records waiting for a datagram with the raw times at which they were queued, the records not sent for the rate cap, and the records sent in
the present second with that second's start. -/
structure Subscriber where
  used    : Bool
  sender  : Nat
  mask    : Nat
  lastRaw : Nat
  tag     : Nat
  queue   : List (Nat × EvRec)
  dropped : Nat
  secRaw  : Nat
  secCnt  : Nat
  deriving DecidableEq, Repr

/-- An unused subscriber place. -/
def Subscriber.zero : Subscriber := ⟨false, 0, 0, 0, 0, [], 0, 0, 0⟩

/-- A rate limit of one record per second (R586): whether one was raised, the raw time of the last one, the occurrences
since it, and the argument of the last occurrence. -/
structure Lim where
  any     : Bool
  lastRaw : Nat
  pend    : Nat
  arg     : Nat
  deriving DecidableEq, Repr

/-- A rate limit with no history. -/
def Lim.zero : Lim := ⟨false, 0, 0, 0⟩

/-- A fault log record (R463). `odd` holds the last two words where software has written something else there than 0 and the CRC of
the others. -/
structure FaultRec where
  rawNs      : Nat
  sec        : Nat
  ns         : Nat
  epoch      : Nat
  boot       : Nat
  code       : Nat
  inst       : Nat
  cls        : Nat
  action     : Nat
  suppressed : Nat
  arg        : Nat
  seq        : Nat
  odd        : Option (W32 × W32)
  deriving DecidableEq, Repr

/-- An empty fault log slot: 64 bytes of 0. -/
def FaultRec.zero : FaultRec := ⟨0, 0, 0, 0, 0, 0, 0, 0, 0, 0, 0, 0, none⟩

/-- A DRAM last-good training record (R496): whether present, the rate code, the parts' identity, the zone temperature, and
the trained values. -/
structure LastGood where
  present : Bool
  rate    : Nat
  ident   : Nat
  temp    : Int
  words   : List W32
  deriving DecidableEq, Repr

/-- An absent last-good record. -/
def LastGood.zero : LastGood := ⟨false, 0, 0, 0, []⟩

/-- The cask (R567): identity values with the readability of the gyle and epoch area (R455), DRAM last-good records, the
fault log ring of 8,192 slots with the number of the next record, and the history of SAFE-mode entries that R462 counts
(CLASS and presented time in ns). -/
structure Cask where
  boot     : Nat
  epoch    : Nat
  gyle     : Nat
  gyleSeen : Nat
  identBad : Bool
  lastGood : Tab LastGood
  log      : Tab FaultRec
  logSeq   : Nat
  safeHist : List (Nat × Nat)
  deriving DecidableEq, Repr

/-- The cask of a new device (R549): every count 0, no training record, an empty fault log. -/
def Cask.new : Cask := ⟨0, 0, 0, 0, false, [], [], 0, []⟩

/-- A trigger in force (R363): the next firing time in presented 2⁻¹⁶ ns with the remainder in units of 1/(den) of a
nanosecond, the period taken at arming, its flags, and whether a late firing is due at once (R359, R364). -/
structure Trig where
  armed    : Bool
  periodic : Bool
  abs      : Bool
  late     : Bool
  time     : Int
  rem      : Nat
  perNs    : Nat
  perNum   : Nat
  perDen   : Nat
  deriving DecidableEq, Repr

/-- A trigger after reset: not armed. -/
def Trig.zero : Trig := ⟨false, false, false, false, 0, 0, 0, 0, 1⟩

/-- The record of a capture unit (R366). -/
structure CapRec where
  valid   : Bool
  timeNs  : Int
  epoch   : Nat
  deriving DecidableEq, Repr

/-- An empty capture unit. -/
def CapRec.zero : CapRec := ⟨false, 0, 0⟩

/-- The timebase (R346 to R369). `raw` counts 2⁻¹⁶ ns and never wraps; `offset` is signed in the same unit; `rate` is
signed in 2⁻⁴⁸; `integ` is the servo integral in units of 1/(2³² · 10⁹) ppb, so that R355 is exact. -/
structure Tb where
  raw       : Nat
  offset    : Int
  rate      : Int
  integ     : Int
  src       : Nat
  startAcq  : Bool
  acqRaw    : Nat
  lastMeas  : Option Nat
  nGood     : Nat
  nBad      : Nat
  preHold   : Nat
  lockHist  : List (Nat × Int)
  lockSince : Nat
  annRaw    : Nat
  annIntNs  : Nat
  master    : Nat
  masterKey : Nat
  foreign   : Tab (Nat × Nat)
  mpdWin    : List Int
  pendSync  : Option (Nat × Int × Int)
  syncDiff  : Option Int
  delayReq  : Option (Nat × Int)
  delIntNs  : Nat
  delLast   : Nat
  yzSum     : Int
  yzMpd     : Tab (List Int)
  yzCnt     : Nat
  yzWin     : Nat
  rebase    : Tab Int
  trigs     : Tab Trig
  caps      : Tab CapRec
  tioOn     : Tab Nat
  latch     : Int
  latched   : Bool
  deriving DecidableEq, Repr

/-- The timebase after power-on reset: raw 0, offset 0, rate 0. -/
def Tb.zero : Tb :=
  { raw := 0, offset := 0, rate := 0, integ := 0, src := 1, startAcq := true, acqRaw := 0, lastMeas := none,
    nGood := 0, nBad := 0, preHold := 0, lockHist := [], lockSince := 0, annRaw := 0, annIntNs := 0, master := 0,
    masterKey := 0, foreign := [], mpdWin := [], pendSync := none, syncDiff := none, delayReq := none, delIntNs := 0,
    delLast := 0, yzSum := 0, yzMpd := [], yzCnt := 0, yzWin := 0, rebase := [], trigs := [], caps := [], tioOn := [], latch := 0,
    latched := false }

/-- A staged record (R217, R266): its type number of R544, its index and its words. -/
structure StagedRec where
  typ   : Nat
  index : Nat
  words : List W32
  deriving DecidableEq, Repr

/-- A pending pitch (R554): identifier, sequence, instant in presented ns, the subsystems (block numbers) that have still
to apply their part, the staged content, its LATE and refused marks, the slot from which a live channel's deferred part may
land (by channel), whether a group committed it (R411), and whether the HCP or the management port staged it (R520). -/
structure Pitch where
  ident   : Nat
  seq     : Nat
  instant : Int
  late    : Bool
  checked : Bool
  refused : Bool
  waiting : List Nat
  writes  : Tab W32
  records : List StagedRec
  skip    : Tab Nat
  group   : Bool
  host    : Bool
  deriving DecidableEq, Repr

/-- A pitch with nothing in it. -/
def Pitch.blank : Pitch := ⟨0, 0, 0, false, false, false, [], [], [], [], false, false⟩

/-- Staging (R550 to R557): the steep bank's staged registers (full words of their ST fields) and records, its owner (the
OWNER code of CFG_STAGE_STAT), a running gravity check and whether it was invalidated, and the pending pitches, oldest
first. -/
structure Stage where
  writes    : Tab W32
  records   : List StagedRec
  owner     : Nat
  checking  : Bool
  invalid   : Bool
  pitches   : List Pitch
  pitchSeq  : Nat
  deriving DecidableEq, Repr

/-- An empty steep bank. -/
def Stage.zero : Stage := ⟨[], [], 0, false, false, [], 0⟩

/-- An image slot of the flash as the device last read it (R542): whether its header was valid, the verdict cause of
CFG_BOOT_STAT.ERR (0 = valid), GENERATION and whether a signature verified it. -/
structure Slot where
  header  : Bool
  err     : Nat
  gen     : Nat
  signed  : Bool
  deriving DecidableEq, Repr

/-- Start-up (R538 to R548): whether the last reset was cold, the raw time at which step 1 began, whether a reset pin is held
low, whether the device is held in BOOT after step 2 (R462), whether no valid image was read (R543), the classes of the ports
(R574, R544), the SERVICE_REGS and RECORDS entries of the image that was booted, and the flash slots as last read. -/
structure Boot where
  cold      : Bool
  startRaw  : Nat
  porHeld   : Bool
  held      : Bool
  noImage   : Bool
  auth      : List Nat
  service   : List (Nat × W32)
  svcRecs   : List StagedRec
  slotImg   : List Slot
  deriving DecidableEq, Repr

/-- Start-up before any image has been read: default classes of R574, the HCP at MAINTAIN (R543). -/
def Boot.zero : Boot := ⟨true, 0, true, false, true, [4, 3, 5, 0, 4], [], [], []⟩

/-- The header of a management request (R569) and the place of one of its operations in the payload: the port it came by (the
management port, or Yudizor VC 0), its sender (a number for the source address and UDP port), ALIVE, TAG and VERSION, the KIND
and address of DST (R405), the index of this item, whether it is the last, and the bytes that the reply to the whole request
takes. -/
structure Req where
  port    : Port
  sender  : Nat
  alive   : Nat
  tag     : Nat
  version : Nat
  kind    : Nat
  dst     : Nat
  item    : Nat
  last    : Bool
  bytes   : Nat
  deriving DecidableEq, Repr

/-- The window of a WINDOW operation (R570); the manual gives the windows, not their codes. -/
inductive MgWin where
  | brg | aud | dsp | cask | punt
  deriving DecidableEq, Repr

/-- A reply (R569, R570, R572): the sender, the echoed ALIVE and TAG, STATUS, and its TLV items (type and value words). -/
structure Reply where
  sender : Nat
  alive  : Nat
  tag    : Nat
  status : Nat
  items  : List (Nat × List W32)
  deriving DecidableEq, Repr

/-- A reply with no content. -/
def Reply.blank : Reply := ⟨0, 0, 0, 0, []⟩

/-- A sender (R571, R572): its number, its last accepted ALIVE, its stored reply (the reply in preparation while a request runs),
the raw time it was last heard, the item that its running request comes to next (none: no request runs), and what the reply
waits for: 0 nothing, 1 the gravity check, 2 the answers of a group (R411). -/
structure Sender where
  ident   : Nat
  alive   : Nat
  reply   : Reply
  lastRaw : Nat
  next    : Option Nat
  waits   : Nat
  deriving DecidableEq, Repr

/-- A sender not heard before. -/
def Sender.fresh (n : Nat) : Sender := ⟨n, 0, Reply.blank, 0, none, 0⟩

/-- What a freeze of the status mirror keeps (R564): registers, event queue, staging and timebase. -/
structure Snap where
  regs  : Tab W32
  evq   : Evq
  stage : Stage
  tb    : Tb
  deriving DecidableEq, Repr

/-- The control ports (R559 to R577): the status mirror that a snapshot froze and its start, the answer of the last access
(data, the STATUS code of R573 and whether it failed under R562), the mirror entries whose last update failed parity, the
ports whose VIEW bit is 1, the senders, the subscribers, and the flash bytes that are not erased, by flash address. `yzSender` is
the sender record of the requests that come over Yudizor, which has no ALIVE of its own (R569). -/
structure Ctl where
  frozen    : Option Snap
  frozenRaw : Nat
  rdData    : W32
  status    : Nat
  failed    : Bool
  stale     : List Nat
  view      : List Nat
  senders   : List Sender
  subs      : Tab Subscriber
  flash     : Tab Byte
  yzSender  : Sender
  deriving DecidableEq, Repr

/-- The control ports after reset. -/
def Ctl.zero : Ctl := ⟨none, 0, 0, 0, false, [], [], [], [], [], Sender.fresh 0⟩

/-- SAFE mode and the safe states (R458 to R462): whether SAFE mode holds, whether safe states are forced, the causes that
force them, the health of the two management pairs, the raw times of the resends of each wort-fabric link in the last
millisecond (R453), rate limits of the fault log, corrected errors by CLASS since the last summary and its raw time (R464). -/
structure Safe where
  mode      : Bool
  forced    : Bool
  hotCrit   : Bool
  clkFail   : Bool
  brownout  : Bool
  pairs     : Nat
  linkWin   : Tab (List Nat)
  suppress  : Tab Lim
  hourCnt   : Tab Nat
  hourRaw   : Nat
  deriving DecidableEq, Repr

/-- No fault: both management pairs healthy, nothing forced. -/
def Safe.zero : Safe := ⟨false, false, false, false, false, 3, [], [], [], 0⟩

end Sys2Proof.Machine
end

