-- ==== Sys2Proof/Machine/TypesAud.lean ====
section
/-! DEFINITION. The plain data of audio (chapters 11 and 14). -/

namespace Sys2Proof.Machine

/-- 10 ms of audio at 48 kHz (R250): left and right samples in FP32, equal where the signal is mono. -/
abbrev Pcm := List (W32 × W32)

/-- What a mix cycle finds of one slot (R256): whether its jitter buffer gave a decoded frame, the 480 samples that the codec or its
concealment gives (R250), the jitter buffer's depth in ms, whether the stream is one that R250 refuses, and whether the CRC of the
slot's record, or of its session's record, fails when read (R252). -/
structure MixIn where
  slot   : Nat
  frame  : Bool
  pcm    : Pcm
  depth  : Nat
  refuse : Bool
  badSlot : Bool
  badSess : Bool
  deriving DecidableEq, Repr

/-- A candidate of another member (R256): its arrival rank, score, gate and 480 post-AGC samples. -/
structure Cand where
  member : Nat
  slot   : Nat
  rank   : Nat
  score  : W32
  gate   : Bool
  pcm    : Pcm
  deriving DecidableEq, Repr

/-- A slot beside its record: whether it has a score, consecutive cycles below the closing threshold, consecutive concealment
frames, cycles with the jitter buffer too deep, whether a decoded frame has been played, the leading core of its unit, whether a fence
has lost its codec state (R256), and its post-AGC samples of the present cycle. -/
structure SlotX where
  scored : Bool
  low    : Nat
  plc    : Nat
  deep   : Nat
  heard  : Bool
  core   : Option Nat
  lostState : Bool
  out    : Pcm
  deriving DecidableEq, Repr

/-- A slot that has played nothing. -/
def SlotX.zero : SlotX := ⟨false, 0, 0, 0, false, none, false, []⟩

/-- A silent change of one slot and direction (R341): whether the slot is silent, whether it is to be, since when it waits,
the previous sample, and the step of a running ramp. -/
structure SlotZ where
  silent : Bool
  want   : Bool
  since  : Nat
  prev   : Int
  ramp   : Option Nat
  deriving DecidableEq, Repr

/-- A slot whose direction has not started: silent. -/
def SlotZ.zero : SlotZ := ⟨true, true, 0, 0, none⟩

/-- An audio port beside its registers (R328 to R343): lock and the good frames counted towards it, the index of the present
frame, whether it runs and runs aligned, the word counts of its rings, the masks in force, where and in which count the last
mask change began and whether this frame is its first, the slots (direction · 32 + slot), the words fetched for the next
frame, whether the last receive frame overran and the last transmit frame underran, the channel status of the block that an AES3
output sends, and the raw time of the frame-sync at which the present frame began. -/
structure AptX where
  locked  : Bool
  good    : Nat
  idx     : Nat
  started : Bool
  aligned : Bool
  rxW     : Nat
  txR     : Nat
  rxMask  : Nat
  txMask  : Nat
  maskPos : Nat
  maskSeq : Nat
  newMask : Bool
  zs      : Tab SlotZ
  txOut   : List W32
  overrun    : Bool
  under   : Bool
  cs      : List W32
  syncRaw : Nat
  deriving DecidableEq, Repr

/-- A port after reset: not locked, masks as APT_PORT_RX_MASK and APT_PORT_TX_MASK reset. -/
def AptX.zero : AptX :=
  ⟨false, 0, 0, false, false, 0, 0, 3, 3, 0, 0, false, [], [], false, false, [], 0⟩

/-- Audio. Records: slots, session audio records. `seats` the seats of a session's cycle as (seat, slot or remote
candidate), `prev` those of the cycle before, `cands` the candidates of other members in this cycle, `hist` the sessions
with history, `due` the last 100 ms period of a channel's loudness, `takeover` that every session is to be seeded again,
`cycRaw` the raw time at which the cycle began, `place` that work is to be placed at the next cycle, `bcUnit`
the leading core of the unit of a channel's broadcast work, `mixCore` that of a session's mix unit, `loads` the kc placed by
leading core, the ports. `cyc` counts mix cycles, `pack` says that the packets of the last one have not left (R256), `encSeq` counts
the packets of each encode (R258), `encBuf` holds its samples that no packet has carried, `limit` the gain of its limiter, `loud` the
last 400 ms of a session's first listener mix (R252, R264), `jit` the last transit time and 16 times the interarrival jitter of a
receive flow, in ticks of its RTP clock (R256). -/
structure Aud where
  slots  : Tab (List W32)
  sess   : Tab (List W32)
  sx     : Tab SlotX
  seats  : Tab (List (Nat × Nat))
  prev   : Tab (List (Nat × Nat))
  cands  : Tab (List Cand)
  hist   : List Nat
  cycRaw : Nat
  place  : Bool
  bcUnit : Tab Nat
  mixCore : Tab Nat
  loads  : Tab Nat
  due    : Tab Nat
  takeover : Bool
  ports  : Tab AptX
  cyc    : Nat
  pack   : Bool
  encSeq : Tab Nat
  encBuf : Tab Pcm
  limit  : Tab W32
  loud   : Tab Pcm
  jit    : Tab (Nat × Nat)
  deriving DecidableEq, Repr

/-- Audio after reset. -/
def Aud.zero : Aud := ⟨[], [], [], [], [], [], [], 0, false, [], [], [], [], false, [], 0, false, [], [], [], [], []⟩

end Sys2Proof.Machine
end

