-- ==== Sys2Proof/Machine/TypesBrg.lean ====
section
/-! DEFINITION. The plain data of the bridge: records, decode cores, composer pipes and the forwarding engine (chapters 7
to 10). Records are kept as the words of their layouts (R178, R215, R216) without the CRC, which is computed when a record
is read; a record that is not listed has a clear valid bit and counts as idle (R630). -/

namespace Sys2Proof.Machine

/-- A picture descriptor. -/
structure PicDesc where
  baseY   : Nat
  baseCb  : Nat
  baseCr  : Nat
  strideY : Nat
  strideC : Nat
  width   : Nat
  height  : Nat
  fmt     : Nat
  chroma  : Nat
  depth   : Nat
  flags   : Nat
  media   : Nat
  epoch   : Nat
  count   : Nat
  deriving DecidableEq, Repr

/-- What the parameter sets of a stream declare (R158, R168): the profile, numbered in the order of R158's table for the codec of the context,
the level (62 is 6.2), the chroma format (0 4:2:0, 1 4:2:2, 2 4:4:4, 3 4:0:0), the bit depth, and whether a tool that is not supported is used. -/
structure ParSets where
  prof   : Nat
  level  : Nat
  chroma : Nat
  depth  : Nat
  tool   : Bool
  deriving DecidableEq, Repr

/-- The picture of one spatial layer of an access unit: its layer and size, whether it is a switch point of its layer (R160), and whether
parts of it were lost. -/
structure LayerPic where
  sid    : Nat
  width  : Nat
  height : Nat
  up     : Bool
  lost   : Bool
  deriving DecidableEq, Repr

/-- What an access unit holds for decoding (R158, R168, R172, R178): its media time, whether it is a clean random-access
point, the recovery count of a gradual-refresh start, its parameter sets, the pictures of its spatial layers from the lowest, its temporal
identity, whether it is skipped at a start (RASL), its length in bytes, and what R194 asks of a merge input: the CTU size, one slice without
subpicture information, the tools of R194 all off, references only to the previous picture. -/
structure AuInfo where
  media   : Nat
  rap     : Bool
  gradual : Option Nat
  par     : ParSets
  layers  : List LayerPic
  tid     : Nat
  rasl    : Bool
  bytes   : Nat
  ctu     : Nat
  oneSlice : Bool
  plain   : Bool
  prevRef : Bool
  deriving DecidableEq, Repr

/-- A received frame on a media MAC (R221 to R225): its length, whether its Ethernet, VLAN, IP and UDP headers hold, the addressing that classification reads, the first two payload bytes, the RTP
header, the layer identity with its switch indications (R238, R240), whether it starts an access unit, whether its SRTP
authentication holds, the gyle of its extension, the lengths, the access unit that its marker closes, the words of a packet
that is punted, the RTP packet after decryption with the length of its header (R242), and the send flows whose copy fails its end-to-end CRC
(R245). -/
structure RtpPkt where
  frame   : Nat
  hdrOk   : Bool
  mac     : Nat
  raddr   : Nat
  laddr   : Nat
  rport   : Nat
  lport   : Nat
  ssrc    : Nat
  b0      : Nat
  b1      : Nat
  seq     : Nat
  ts      : Nat
  marker  : Bool
  sid     : Nat
  tid     : Nat
  rap     : Bool
  swT     : Bool
  swS     : Bool
  auStart : Bool
  authOk  : Bool
  gyle    : Option Nat
  len     : Nat
  au      : AuInfo
  words   : List W32
  data    : List Byte
  hdr     : Nat
  bad     : List Nat
  deriving DecidableEq, Repr

/-- A received RTCP packet about a flow (R226): a report block with LSR and DLSR; PLI or FIR; congestion control feedback, with the bits reported
received, the packets lost or marked, the packets reported, and the sum and number of one-way delays in µs; BYE with its SSRC, length and words;
a generic NACK with the sequence numbers asked for and those whose payload fails its CRC. -/
inductive RtcpIn where
  | srRr (lsr dlsr : Nat)
  | pliFir (fir : Bool)
  | feedback (bits lost seen : Nat) (delaySum : Int) (delayCnt : Nat)
  | bye (ssrc len : Nat) (words : List W32)
  | nack (seqs bad : List Nat)
  deriving DecidableEq, Repr

/-- What waits for the context of a flow (R23): a packet of a receive flow, the copy of a source's packet for a send flow (late under R224 or
not), or an RTCP packet. -/
inductive CtxWait where
  | rtp (p : RtpPkt)
  | copy (src : Nat) (late : Bool) (p : RtpPkt)
  | rtcp (r : RtcpIn)
  deriving DecidableEq, Repr

/-- A packet kept in a history ring (R242), and where its record lies in it. -/
structure HistRec where
  ofs  : Nat
  ext  : Nat
  us   : Nat
  len  : Nat
  sid  : Nat
  tid  : Nat
  mark : Bool
  deriving DecidableEq, Repr

/-- A copy that waits in a leg's pacer: its flow, its outgoing sequence number (CNT_RTX for a retransmission), the flow's
EXT_SEQ with it, timestamp, length, the raw time it was queued, and whether it is a retransmission, of which original sequence number. -/
structure Copy where
  flow : Nat
  seq  : Nat
  ext  : Nat
  ts   : Nat
  len  : Nat
  raw  : Nat
  rtx  : Bool
  osn  : Nat
  deriving DecidableEq, Repr

/-- The engine's state of a flow beside its record: cache residency, pin, dirt and use (R213, R214); packets waiting for a
fetch (R23); probation (R224); gaps waiting for a NACK (R225); history (R242); the sequence map, newest first (R232); the
source of the previous packet, its outgoing sequence number and the packets withheld since (R231); layers wanted and how long an up-switch has waited
(R239, R240); the interval of the estimator, its delay window and outage (R235); the pacer with the raw time its next copy
may leave (R236); the keyframe hold and what arrived in it (R241); the bytes per layer in the present 100 ms and the rates
of the last ten (R239); the numbers that are missing from the assembly buffer, where the open access unit begins, and
the number after the last one closed (R225); the bits sent in the present 100 ms and in the last ten (R204); the reservation H, its acknowledgement and SEQ, and the same of SRTCP (R431); warnings
given (R230); raw times of the last reports; the packets to report in the next feedback, with their raw times (R227); the retransmission bits of the present 100 ms (R243); the target set at setup,
8 × spatial + temporal (R208). -/
structure FlowX where
  resident : Bool
  dirty    : Bool
  pinned   : Bool
  used     : Nat
  dirtyRaw : Nat
  waiting  : List CtxWait
  probe    : Option Nat
  gaps     : List (Nat × Nat)
  hist     : List HistRec
  smap     : List (Nat × Nat × Nat)
  prevSrc  : Option Nat
  withheld : Nat
  outSeq   : Nat
  begun    : Bool
  wantS    : Nat
  wantT    : Nat
  upRaw    : Option Nat
  fbBits   : Nat
  fbLost   : Nat
  fbSeen   : Nat
  fbDelay  : Int
  fbCnt    : Nat
  fbRaw    : Nat
  qWin     : List (Nat × Int)
  qPrev    : Int
  outRaw   : Option Nat
  holdRaw  : Option Nat
  pendReq  : Bool
  pendFir  : Bool
  rapSince : Bool
  firSeq   : Nat
  layBits  : Tab Nat
  rates    : Tab (List Nat)
  auMiss   : List Nat
  auBeg    : Nat
  auEnd    : Nat
  txBits   : Nat
  txWin    : List Nat
  resv     : Nat
  resvAck  : Nat
  resvSeq  : Nat
  cResv    : Nat
  cAck     : Nat
  cSeq     : Nat
  warned   : Bool
  warnedC  : Bool
  repRaw   : Nat
  fbkRaw   : Nat
  fbPkts   : List (Nat × Nat)
  rtxBits  : Nat
  rtcpStop : Bool
  tgtSet   : Nat
  deriving DecidableEq, Repr

/-- A flow of which the engine holds nothing. -/
def FlowX.zero : FlowX :=
  { resident := false, dirty := false, pinned := false, used := 0, dirtyRaw := 0, waiting := [], probe := none, gaps := [],
    hist := [], smap := [], prevSrc := none, withheld := 0, outSeq := 0, begun := false, wantS := 0, wantT := 0, upRaw := none,
    fbBits := 0, fbLost := 0, fbSeen := 0, fbDelay := 0, fbCnt := 0, fbRaw := 0, qWin := [], qPrev := 0, outRaw := none,
    holdRaw := none, pendReq := false, pendFir := false, rapSince := false, firSeq := 0,
    layBits := [], rates := [], auMiss := [], auBeg := 0, auEnd := 0, txBits := 0, txWin := [], resv := 0, resvAck := 0, resvSeq := 0, cResv := 0, cAck := 0,
    cSeq := 0, warned := false, warnedC := false,
    repRaw := 0, fbkRaw := 0, fbPkts := [], rtxBits := 0, rtcpStop := false, tgtSet := 0 }

/-- The pacer of a leg (R236): its copies, oldest first, and the raw time before which the next may not leave. -/
structure Pacer where
  queue : List Copy
  raw   : Nat
  deriving DecidableEq, Repr

/-- An empty pacer. -/
def Pacer.zero : Pacer := ⟨[], 0⟩

/-- A queued access unit with its number in order of completion (R166). -/
structure QAu where
  num : Nat
  au  : AuInfo
  deriving DecidableEq, Repr

/-- A layer picture that has been decoded: its layer, its descriptor, and the cause of its concealment (R162; 0 clean). -/
structure LayerOut where
  sid   : Nat
  desc  : Nat
  cause : Nat
  deriving DecidableEq, Repr

/-- An access unit being decoded (R160, R164): the layer pictures still to be decoded, the one in progress first, when that one started, its
raw time not counted, the raw time up to which its rests are settled, its budget in cycles, and the layer pictures done. -/
structure DecJob where
  au     : AuInfo
  todo   : List LayerPic
  raw    : Nat
  paused : Nat
  mark   : Nat
  budget : Nat
  got    : List LayerOut
  deriving DecidableEq, Repr

/-- The state of a decode context beside its record: queue, running job, the request condition with the raw time of its
first request and the requests made, the recovery picture count of a gradual start, the fence taint, whether a bad record CRC
suspended it (R171 to R176), the newest access unit that no merge has taken (R195), a record change that waits for the
picture boundary (R178), the cost that the core still holds until then (R207), the highest layer that the context decodes now (R160), and the
layers in which a concealed picture is still referenced (R163), whether RASL pictures of the random-access point at which it started are
skipped (R172), and the layers whose GOOD picture is from before a new sequence and stands in for nothing. -/
structure DecX where
  queue   : List QAu
  job     : Option DecJob
  cond    : Bool
  condRaw : Nat
  reqs    : Nat
  recover : Nat
  taint   : Bool
  crcBad  : Bool
  last    : Option AuInfo
  next    : Option (List W32)
  held    : Nat
  eff     : Nat
  tainted : List Nat
  skip    : Bool
  stale   : List Nat
  deriving DecidableEq, Repr

/-- A context with nothing queued. -/
def DecX.zero : DecX := ⟨[], none, false, 0, 0, 0, false, false, none, none, 0, 0, [], false, []⟩

/-- A layer of a layout (R190). -/
structure Layer where
  kind   : Nat
  flags  : Nat
  alpha  : Nat
  filter : Nat
  src    : Nat
  still  : Nat
  dx     : Nat
  dy     : Nat
  dw     : Nat
  dh     : Nat
  cropX  : Nat
  cropY  : Nat
  cropW  : Nat
  cropH  : Nat
  bord   : Nat
  colour : Nat
  bordC  : Nat
  alphaB : Nat
  deriving DecidableEq, Repr

/-- A layout in use (R190): output size, chroma format and colour, the background where BG_COLOUR is used, and the layers. -/
structure Layout where
  addr   : Nat
  width  : Nat
  height : Nat
  chroma : Nat
  colour : Nat
  bg     : Option Nat
  layers : List Layer
  deriving DecidableEq, Repr

/-- A composition under way (R187, R188): the layout, the source that each layer reads, none where it is absent, the output picture, the
programmable filter tables at its start (R197), the next strip, whether a source was concealed or absent, the layers whose source came back
poisoned (R452), whether it merges, and whether the merged access unit is a random-access point (R195). -/
structure Comp where
  lay    : Layout
  srcs   : List (Option PicDesc)
  out    : PicDesc
  taps   : List W32
  strip  : Nat
  conc   : Bool
  bad    : List Nat
  merge  : Bool
  rap    : Bool
  deriving DecidableEq, Repr

/-- How the decoding of a layer picture came out (R161, R162, R167, R169, R174): the addresses of its descriptor and of its first plane, its
references from the first of list 0 on by their descriptors (none: the picture was never received), whether it is intra, whether parts of it were
lost, a syntax error, what the decoded picture hash said, the areas not decoded (first sample and line, width, height), and the core's writes
and its bitstream reads (address, bytes; address, length). -/
structure DecRes where
  desc    : Nat
  base    : Nat
  refs    : List (Option Nat)
  intra   : Bool
  lost    : Bool
  syntaxE : Bool
  hashOk  : Option Bool
  areas   : List (Nat × Nat × Nat × Nat)
  writes  : List (Nat × List Byte)
  reads   : List (Nat × Nat)
  deriving DecidableEq, Repr

/-- A composition's home: 0 to 15 are the CMP_PIPE registers of a pipe, 16 + o is output o. Its last good layout, the
composition under way, the next of its three output buffers, the merge inputs that are substituted (by context), those
whose IRAP is held with its bytes, those whose next subpicture is a generated intra one, the raw time at which the wait for IRAPs began, the bit depth of the merged inputs (0 none yet), and the pipe that
carries it. -/
structure CompX where
  good   : Option Layout
  run    : Option Comp
  buf    : Nat
  subst  : List Nat
  irap   : List (Nat × Nat)
  owed   : List Nat
  waitRaw : Option Nat
  depth  : Nat
  pipe   : Nat
  deriving DecidableEq, Repr

/-- A composition that has not run. -/
def CompX.zero : CompX := ⟨none, none, 0, [], [], [], none, 0, 0⟩

/-- A punted packet (R223): flow, length in bytes, words. -/
structure Punt where
  flow  : Nat
  len   : Nat
  words : List W32
  deriving DecidableEq, Repr

/-- An addition that a member has asked the home for (R210): session, leg, and the home's answer. -/
structure Admit where
  sess  : Nat
  leg   : Nat
  grant : Option Bool
  deriving DecidableEq, Repr

/-- The bridge. Records: flows, decode contexts, sessions, legs, outputs; `remote` the usage that other members of a session
hold by the home's grants, as [legs, forwarded, decode, mix] (R210); `due` the last period in which each periodic work of the
bridge was done; `outKbps` the target that R237 gives an output, `outNow` the one in force since its last picture, `outSeq` the packets
of its encode; an output without an entry there has made no picture. -/
structure Brg where
  flows   : Tab (List W32)
  decs    : Tab (List W32)
  sess    : Tab (List W32)
  legs    : Tab (List W32)
  outs    : Tab (List W32)
  fx      : Tab FlowX
  dx      : Tab DecX
  comps   : Tab CompX
  auNum   : Nat
  punt    : List Punt
  fetches : List Nat
  lowerSeq : Tab Nat
  admits  : List Admit
  useNum  : Nat
  shed    : List Nat
  outKbps : Tab Nat
  intraNext : List Nat
  pacers  : Tab Pacer
  remote  : Tab (List Nat)
  due     : Tab Nat
  outNow  : Tab Nat
  outSeq  : Tab Nat
  deriving DecidableEq, Repr

/-- A bridge with no record. -/
def Brg.zero : Brg := ⟨[], [], [], [], [], [], [], [], 0, [], [], [], [], 0, [], [], [], [], [], [], [], []⟩

end Sys2Proof.Machine
end

