-- ==== Sys2Proof/Machine/TypesDev.lean ====
section
/-! DEFINITION. The plain data of DRAM controllers (chapter 21), clocks and power (chapter 22) and thermal control
(chapter 23). -/

namespace Sys2Proof.Machine

/-- The owner of an on-chip SRAM word (R450, R453): an engine, a line of the context cache, or the forwarding packet buffer. -/
inductive MemOwner where
  | tun (t : Fin 40)
  | chkDec (d : Fin 8)
  | decCore (d : Fin 24)
  | pipe (p : Fin 16)
  | kettle (c : Fin 96)
  | chkUnit (u : Fin 12)
  | ctxLine (f : Fin 2097152)
  | fwdBuffer
  deriving DecidableEq, Repr

/-- The traffic classes of the wort fabric (R16): timed, media, packet, background. -/
inductive TClass where
  | timed | media | packet | back
  deriving DecidableEq, Repr

/-- Who asks a DRAM controller for data (R16, R480): a MAC's ingress or egress stage, an engine, the forwarding engine, the context cache,
the racking journal or a window of a control port. `live` says that an egress stage or a composer pipe serves a live channel. -/
inductive Requester where
  | ingress (mac : Fin 16)
  | egress (mac : Fin 16) (live : Bool)
  | tun (t : Fin 40)
  | mill (m : Fin 2)
  | decCore (d : Fin 24)
  | chkDec (d : Fin 8)
  | pipe (p : Fin 16) (live : Bool)
  | kettle (k : Fin 12)
  | forwarding
  | contextCache
  | journal
  | window
  deriving DecidableEq, Repr

/-- The class of a requester's traffic (R16). -/
def Requester.cls : Requester → TClass
  | .ingress _ => .timed
  | .egress _ live => if live then .timed else .packet
  | .pipe _ live => if live then .timed else .media
  | .tun _ | .mill _ | .decCore _ | .chkDec _ | .kettle _ => .media
  | .forwarding | .contextCache => .packet
  | .journal | .window => .back

/-- The arbiter of a link (R16): the grants of class M in the present round of four, and the grants since the last of class B. -/
structure Arb where
  m : Nat
  b : Nat
  deriving DecidableEq, Repr

/-- The next grant of a link among the classes that have a request and a credit (R16): class B after 63 other grants; class T; three of
class M to one of class P while both ask; class B when nothing else asks. -/
def Arb.pick (a : Arb) (asks : TClass → Bool) : Option (TClass × Arb) :=
  if asks .back && decide (a.b ≥ 63) then some (.back, { a with b := 0 })
  else if asks .timed then some (.timed, { a with b := a.b + 1 })
  else if asks .media && asks .packet then
    (if a.m < 3 then some (.media, ⟨a.m + 1, a.b + 1⟩) else some (.packet, ⟨0, a.b + 1⟩))
  else if asks .media then some (.media, { a with b := a.b + 1 })
  else if asks .packet then some (.packet, { a with b := a.b + 1 })
  else if asks .back then some (.back, { a with b := 0 })
  else none

/-- A request to a DRAM controller: a read of bytes of one burst, with its number, or a write of part of a burst (system address divided by
64, first byte), with whether the read that a merge needs is uncorrectable. -/
inductive DrReq where
  | read (num : Nat) (req : Requester) (addr len : Nat)
  | write (req : Requester) (burst ofs : Nat) (bytes : List Byte) (ue : Bool)
  deriving DecidableEq, Repr

/-- The class of a request, and the system address that it starts at. -/
def DrReq.cls : DrReq → TClass
  | .read _ r _ _ => r.cls
  | .write r _ _ _ _ => r.cls
def DrReq.addr : DrReq → Nat
  | .read _ _ a _ => a
  | .write _ b o _ _ => 64 * b + o

/-- A read in a controller (R485 to R488): its number in arrival order, requester, system address, length, the bytes that the
writes before it left (R487), and the outcome (0 good, 1 poisoned) with which it waits to return in its requester's order. -/
structure DrRead where
  num  : Nat
  req  : Requester
  addr : Nat
  len  : Nat
  data : List Byte
  res  : Option Nat
  deriving DecidableEq, Repr

/-- A queued write of one burst (R483, R486): the burst's system address divided by 64, the first byte's offset, the bytes,
whether the read that a merge needs is uncorrectable, and the raw time of arrival. -/
structure DrWrite where
  burst : Nat
  ofs   : Nat
  bytes : List Byte
  ue    : Bool
  raw   : Nat
  deriving DecidableEq, Repr

/-- A DRAM channel (chapter 21): queues, oldest first; poisoned bursts (system address divided by 64); raw time of the last
access of each rank; whether training is refused for cold with 0x0E04 raised; whether full training was repeated; whether it
began on the fast path; refresh multipliers by rank; segments still to zero-fill (rank · 8 + segment); the parameter and the
centres of the last sweep; the centres applied by parameter; the raw start of its training; the requests that the fabric holds by credit,
oldest first, and the arbiter of the controller's link (R15, R16, R485); and the blocks whose ECC bursts are cached, with whether each is
dirty (R482). -/
structure DrCh where
  reads   : List DrRead
  writes  : List DrWrite
  poison  : List Nat
  last    : List Nat
  cold    : Bool
  again   : Bool
  fast    : Bool
  mult    : List Nat
  fill    : List Nat
  sweep   : Option (Nat × List Nat)
  params  : Tab (List Nat)
  start   : Nat
  held    : List DrReq
  arb     : Arb
  ecc     : List (Nat × Bool)
  deriving DecidableEq, Repr

/-- A channel after reset. -/
def DrCh.zero : DrCh :=
  { reads := [], writes := [], poison := [], last := [0, 0], cold := false, again := false, fast := false, mult := [0, 0],
    fill := [], sweep := none, params := [], start := 0, held := [], arb := ⟨0, 0⟩, ecc := [] }

/-- DRAM: channels, the number of the next read, the reads returned (number, data, outcome: 0 good, 1 poisoned, 2 refused
under R480), and whether a set-point change waits for the end of a training burst (R501). -/
structure Dr where
  chs     : Tab DrCh
  num     : Nat
  ret     : List (Nat × List Byte × Nat)
  setPend : Bool
  deriving DecidableEq, Repr

/-- DRAM after reset. -/
def Dr.zero : Dr := ⟨[], 0, [], false⟩

/-- Clocks (R504 to R512): the raw time plus 1 at which a monitor's run of good windows began; pending mux switches (key: 0 to
6 clock roots, with the monitor of the clock switched from, plus 1); the raw time plus 1 at which a gate began to close; the
trim that is approached by 1 ppb per kiln round. -/
structure Clk where
  good  : Tab Nat
  mux   : Tab Nat
  gates : Tab Nat
  trim  : Option Int
  deriving DecidableEq, Repr

/-- Clocks after reset. -/
def Clk.zero : Clk := ⟨[], [], [], none⟩

/-- Power (R517 to R523): the mode a transition goes to, a wake that came during an entry, the target that
AVSBus requests, rounds that asked for less in a row, and tries of the transaction. -/
structure Pwr where
  trans  : Option Nat
  wake   : Bool
  avs    : Nat
  avsLow : Nat
  tries  : Nat
  deriving DecidableEq, Repr

/-- Power after reset. -/
def Pwr.zero : Pwr := ⟨none, false, 0, 0, 0⟩

/-- A zone (R530 to R533): rounds in a row at or above HOT_THROTTLE and below its hysteresis since the demand last changed,
rounds at demand 7, rounds at demand 0, legs it has shed, newest first. -/
structure ZoneX where
  rise  : Nat
  fall  : Nat
  seven : Nat
  nil   : Nat
  shed  : List Nat
  deriving DecidableEq, Repr

/-- A zone at reset. -/
def ZoneX.zero : ZoneX := ⟨0, 0, 0, 0, []⟩

/-- Thermal control: rounds in which a sensor disagreed, rounds in which a broken one agreed, the zones, rounds in which every
zone was cool while HOT_CRIT is forced, and the raw time of the last round plus 1. -/
structure Thm where
  bad   : Tab Nat
  ok    : Tab Nat
  zones : Tab ZoneX
  cool  : Nat
  raw   : Nat
  deriving DecidableEq, Repr

/-- Thermal control after reset. -/
def Thm.zero : Thm := ⟨[], [], [], 0, 0⟩

end Sys2Proof.Machine
end

