-- ==== Sys2Proof/Machine/TypesEnc.lean ====
section
/-! DEFINITION. The plain data of live channels, encoding and checking (chapters 2 to 6). -/

namespace Sys2Proof.Machine

/-! ### What commands carry -/

/-- A vector: horizontal, vertical. -/
abbrev Vec := Int × Int

/-- What a packet of a live channel's input holds (R29): of the picture, (line, pixels, bytes) pieces in the order received; of audio
stream i, its first sample counted from the PTP epoch, the samples of each channel and whether their channel status marks non-audio; of an ancillary stream, (DID, SDID, payload) packets. -/
inductive LiveIn where
  | video (lines : List (Nat × Nat × List Byte))
  | audio (stream : Nat) (pcm : Nat × List (List Int) × Bool)
  | anc (stream : Nat) (pkts : List (Nat × Nat × List Byte))
  deriving DecidableEq, Repr

/-- A coding block that a tun has chosen: its place and size in luma samples, and which of the picture's references it uses. -/
structure CodBlk where
  x   : Nat
  y   : Nat
  w   : Nat
  h   : Nat
  ref : Nat
  deriving DecidableEq, Repr

/-- The coding tools of R65 to R68, supported and not, each under its name there. -/
inductive Tool where
  | qtMtt | dualTree | modes67 | mrl | cclm | merge | mmvd | ciip | smvd | amvr | bcw | affine | gpm | dmvr | bdof | mts | lfnst | depQuant
  | jointCbCr | sao | alf | ccAlf | lmcs | subpictures | rpr | isp | mip | ibc | paletteMode | act | sbt | explicitWp
  | modes35 | amp | amvp | tmvp | transformSkip4 | signHiding | deblocking | tiles | wpp | slices | pcm | transquantBypass | scalingLists
  | dependentSlices
  | tenPartitions | angleDelta | smooth | paeth | cfl | filterIntra | singleRef | compoundAverage | compoundDistance | compoundDifference
  | compoundWedge | obmc | warped | globalMotion | dualFilter | transforms16 | cdef | loopRestoration | intraBlockCopy | superResolution
  | filmGrain | largeScaleTile
  | cabac | cavlc | transform8 | intra4 | intra8 | intra16 | pPictures | bPictures | implicitWp | fieldCoding | scalingMatrices | lossless
  deriving DecidableEq, Repr

/-- A coding block as a tun codes it: its bits in natural and in floor form, the tools that it uses, and for an inter block its place and
reference, with whether it is an affine block whose control points are searched. -/
structure BlkIn where
  nat   : Nat
  flo   : Nat
  tools : List Tool
  inter : Option (CodBlk × Bool)
  deriving DecidableEq, Repr

/-- An audio packet of an input stream as it is held: its stream, the raw time it came at, its first sample counted from the PTP epoch, the
samples of each channel, and whether they are non-audio. -/
structure PcmIn where
  stream : Nat
  raw    : Nat
  first  : Nat
  pcm    : List (List Int)
  nonAudio : Bool
  deriving DecidableEq, Repr

/-- What a check decoder has decoded: a unit of a live rendition, or a picture of a bridge output with the tun that coded it, the unit that
differs and the CRC that the tun sent. -/
inductive ChkTarget where
  | live (ch slot rend unit : Nat)
  | bridge (out tun unit crc : Nat)
  deriving DecidableEq, Repr

/-! ### What a live channel sends -/

/-- What the transport stream packets of an RTP packet hold beside the elementary stream (R51, R52): how many there are, the stream type and
whether the AV1 registration descriptor goes with it, PTS and DTS, a PCR (base, extension), PAT and PMT, and the audio PIDs' streams. -/
structure TsInfo where
  packets : Nat
  streamType : Nat
  av1Reg  : Bool
  pts     : Nat
  dts     : Nat
  pcr     : Option (Nat × Nat)
  psi     : Bool
  audio   : List Nat
  deriving DecidableEq, Repr

/-- What the first packet of an access unit signals of the buffer model (R117, R118): the parameters (HRD rate in bit/s, buffer in bits,
cbr_flag) and the buffering period with its initial removal delay in ms at a random-access point, in AV1 the sequence header's decoder model;
and of every access unit the picture timing, in AV1 buffer_removal_time: the removal time in 27 MHz ticks after the last random-access picture's. -/
structure HrdInfo where
  params : Option (Nat × Nat × Bool × Nat)
  removal : Nat
  deriving DecidableEq, Repr

/-- A coded packet of a live rendition (R33, R47, R51 to R55): its unit, the flow it leaves on and its extended sequence number, SSRC, RTP
timestamp and size; the packaging, 0 to 2, with the codec whose payload format it takes; transport stream, buffer model and, in the first
packet of an access unit, the ancillary payloads of the slot (R29, R36); in the last one the filler bytes that end it (R119); and the gyle that it
carries (R436). -/
structure LivePkt where
  ch   : Nat
  rend : Nat
  slot : Nat
  unit : Nat
  flow : Nat
  ext  : Nat
  ssrc : Nat
  ts   : Nat
  len  : Nat
  pkg  : Nat
  codec : Nat
  tstr : Option TsInfo
  hrd  : Option HrdInfo
  anc  : List (Nat × Nat × List Byte)
  filler : Nat
  gyle : Option Nat
  deriving DecidableEq, Repr

/-- A packet of broadcast audio (R36, R261, R263): channel, output stream, flow and its extended sequence number, RTP timestamp, first sample,
and the samples of each of its channels. -/
structure BcPkt where
  ch     : Nat
  stream : Nat
  flow   : Nat
  ext    : Nat
  ts     : Nat
  first  : Nat
  pcm    : List (List Int)
  deriving DecidableEq, Repr

/-! ### The mill -/

/-- An entry of a mill record (R101): coarse vectors, costs, whether the row was late and whether a vector reached the
range limit; `b0` and `b1` hold the second-best vector to each reference (R111). -/
structure MillEntry where
  mv0x  : Int
  mv0y  : Int
  mv1x  : Int
  mv1y  : Int
  intra : Nat
  inter : Nat
  late  : Bool
  limit : Bool
  b0x   : Int
  b0y   : Int
  b1x   : Int
  b1y   : Int
  deriving DecidableEq, Repr

/-- A mill record (R101): header fields and the entries of each CTU row in raster order; `copy` holds the downscaled lines of the
picture by 4-line group (R98 step 1). -/
structure MillRec where
  media    : Nat
  epoch    : Nat
  gmv0x    : Int
  gmv0y    : Int
  gmv1x    : Int
  gmv1y    : Int
  sumIntra : Nat
  sumInter : Nat
  cut      : Bool
  rep      : Bool
  lateRows : Bool
  noRef    : Bool
  complete : Bool
  badCrc   : Bool
  rows     : Tab (List MillEntry)
  copy     : Tab (List Int)
  deriving DecidableEq, Repr

/-- A mill record that nothing has been written to. -/
def MillRec.zero : MillRec := ⟨0, 0, 0, 0, 0, 0, 0, 0, false, false, false, false, false, false, [], []⟩

/-! ### Slots, units, pictures -/

/-- A slot of a channel (R33 to R41): the capture time and epoch of its picture, the capture times of the pictures discarded from it,
the pixels and bytes received of each line, the ancillary payloads for its access unit, the rows complete in DRAM, the rows late, the
rows whose class is decided, whether the class of the picture is decided and which it is, the mid-grey mark of R41 and the mark of the
picture that ends a mid-grey run, whether it carries a random-access point (bit k: rendition k) and whether one of those was forced
(R148), whether it has started encoding, the pool shares of its renditions (R135), and its mill record. `racked` holds the class and
the late rows that a STANDBY took from the records of the ACTIVE. -/
structure SlotRec where
  cap     : Option Int
  epoch   : Nat
  dups    : List Int
  lines   : Tab Nat
  bytes   : Tab Nat
  anc     : List (Nat × Nat × List Byte)
  done    : Nat
  late    : Nat
  decided : Nat
  isCls   : Bool
  cls     : Nat
  grey    : Bool
  endsGrey : Bool
  rap     : Nat
  forced  : Nat
  started : Bool
  shares  : Tab Nat
  racked  : Option (Bool × Nat)
  mill    : MillRec
  deriving DecidableEq, Repr

/-- A slot of which nothing has arrived. -/
def SlotRec.zero : SlotRec :=
  ⟨none, 0, [], [], [], [], 0, 0, 0, false, 0, false, false, 0, 0, false, [], none, MillRec.zero⟩

/-- The phase of a budget unit. -/
inductive UPhase where
  | waiting | coding | coded | abandoned
  deriving DecidableEq, Repr

/-- A budget unit of a picture of a rendition (R123 to R130, R143): the tun that codes it, its search units done, weight, target, cap,
QP and base_q_idx, size, the CRC-32C that the tun sent and the raw time of it, whether it is in floor mode under R125, whether any block
is, whether it is a repeat row, whether it is being coded again under R92, whether only its filtering must run again (R91), whether its
check decoder has verified it, the tools its blocks use and the vector of each block in sixteenths of a sample. -/
structure UnitRec where
  phase    : UPhase
  tun      : Nat
  prog     : Nat
  weight   : Nat
  target   : Nat
  cap      : Nat
  qp       : Nat
  qidx     : Nat
  bits     : Nat
  crc      : Nat
  atRaw    : Nat
  inFloor  : Bool
  floored  : Bool
  rep      : Bool
  rerun    : Bool
  refilter : Bool
  verified : Bool
  tools    : List Tool
  vecs     : List (CodBlk × Vec)
  deriving DecidableEq, Repr

/-- A unit that has not started. -/
def UnitRec.zero : UnitRec := ⟨.waiting, 0, 0, 0, 0, 0, 0, 0, 0, 0, 0, false, false, false, false, false, false, [], []⟩

/-- A rendition's picture in a slot. `q` is the picture count of R73 and `ord` its place in coding order; `refs` the slots of the
pictures it may reference (R69); `tuns` the tuns of the rendition when it was planned (R76); `chk` the check decoders of its shares then (R142); `gmv` the global motion offsets it uses (R103); `media` its media time. `shape`: 0 the picture, 1 a repeat picture, 2 a
mid-grey picture. `layer` is the temporal layer of R627; `cplx` the complexity that its budget used (R121); `fill` its filler bytes (R119); `sent` the units whose packets have all
left and `part` whether a packet of the next one has; `released` whether the release trigger has fired; `repRows` whether abandoned units are
to be coded as repeat rows (R148); `was` what its
history held before it: the slot of the last random-access point, and whether the picture before it was intra. -/
structure RPic where
  q        : Nat
  ord      : Nat
  refs     : List Nat
  tuns     : List Nat
  chk      : List Nat
  gmv      : Vec × Vec
  media    : Nat
  intra    : Bool
  rap      : Bool
  shape    : Nat
  layer    : Nat
  cplx     : Nat
  budgeted : Bool
  budget   : Nat
  hdr      : Nat
  fill     : Nat
  units    : List UnitRec
  done     : Bool
  released : Bool
  sent     : Nat
  part     : Bool
  rerun    : Bool
  repRows  : Bool
  was      : Nat × Bool
  deriving DecidableEq, Repr

/-! ### Rate control -/

/-- The rate-control state of a rendition (R119 to R133, RC_STATE of R422): fullness, the complexities of the last 16
coded pictures of each type, the bits and weight whose ratio R127 uses, the pictures coded since the start, MAX at the last random-access
point, whether a random-access point is to be placed on the next picture not budgeted (0 no, 1 yes, 2 one that R148 forced), the slot from
which pictures are suspect until that point, the place in coding order of the next picture, the cause of the last start without history,
the first slot of this history and whether its first picture is planned, the slot of the last scene cut that c_avg took (R121), the slot of
the last random-access point and whether the last budgeted picture was intra. `full`
is in units of one bit divided by the numerator of the frame rate, so that R119 is exact. -/
structure RcRec where
  active  : Bool
  full    : Int
  intras  : List Nat
  inters  : List Nat
  rBits   : Nat
  rWeight : Nat
  count   : Nat
  maxRap  : Nat
  forced  : Nat
  suspect : Option Nat
  ord     : Nat
  cause   : Nat
  first   : Nat
  begun   : Bool
  cutAt   : Option Nat
  lastRap : Nat
  prevIntra : Bool
  deriving DecidableEq, Repr

/-- A rendition without history. -/
def RcRec.zero : RcRec := ⟨false, 0, [], [], 0, 0, 0, 0, 0, none, 0, 0, 0, false, none, 0, false⟩

/-! ### Channels -/

/-- A live channel (R28 to R60): whether it runs, its first slot, the slot whose frame boundary comes next, the slot at
which a disabled channel ends, the slot released next, whether the mid-grey run of R41 holds, the shift of the output grid and the rebase
offset of R49, merge history by input stream (extended sequence, raw time, path), the arrival state of the two paths, hints (rendition
mask and slot), the side of R75, slots, pictures (slot · 16 + rendition), rate control by rendition, the history of pictures before a
restart (rendition, first slot of the new history, record), the registers that each landing changed as they were before it (slot of the landing, registers), the records of the last analysed pictures by slot, the mini-group in
coding order (first slot, length, pictures coded), the raw time before which a rendition's next packet may not leave (R54), the raw times
of its last PCR and of its last PAT and PMT (R52), the
broadcast audio packets held (R36, R261), the first sample of the next packet out, the last sample replaced of each processing channel, and on
a STANDBY the runs of replaced samples (R262) and the rate-control states (rendition, slot, values; R422) that were racked. -/
structure Chan where
  run     : Bool
  start   : Nat
  next    : Nat
  stop    : Option Nat
  released : Nat
  greyRun : Bool
  gridOfs : Int
  rebase  : Int
  seen    : Tab (List (Nat × Nat × Nat))
  pathRaw : List Nat
  pathSil : List Bool
  hints   : List (Nat × Nat)
  side    : Option Nat
  slots   : Tab SlotRec
  pics    : Tab RPic
  rcs     : Tab RcRec
  olds    : List (Nat × Nat × RcRec)
  past    : List (Nat × Tab W32)
  recs    : Tab MillRec
  grpStart : Nat
  grpLen  : Nat
  grpIdx  : Nat
  pace    : Tab Nat
  tsAt    : Tab (Nat × Nat)
  pcm     : List PcmIn
  bcNext  : Nat
  bcMiss  : Tab Nat
  bcRack  : List (Nat × Nat)
  rcRack  : List (Nat × Nat × List Int)
  deriving DecidableEq, Repr

/-- A channel that has never run. -/
def Chan.zero : Chan :=
  ⟨false, 0, 0, none, 0, false, 0, 0, [], [0, 0], [false, false], [], none, [], [], [], [], [], [], 0, 0, 0, [], [], [], 0, [], [], []⟩

/-! ### The search window of a tun -/

/-- A tun's search window (R105 to R109): the renditions (channel · 16 + rendition) for which it has been filled since they were assigned or
coded an intra picture, the column strips resident for each reference, and the opening strips of the tun's next row, of both references, that
lie in freed buffers. -/
structure Win where
  filled : List Nat
  s0     : List Int
  s1     : List Int
  ahead  : Nat
  deriving DecidableEq, Repr

/-- A window that nothing has been loaded into. -/
def Win.zero : Win := ⟨[], [], [], 0⟩

/-- The encoding engines: the channels, the tuns of each rendition (channel · 16 + rendition), the check decoder of each of
its shares, the renditions and the bridge outputs that go unchecked, the admitted tun and check grist of bridge work in 1/16 grist, the search
window of each tun, the tuns on which bridge jobs ran in this kiln round, and the grist that each channel lacks (R93). -/
structure Enc where
  chans     : Tab Chan
  place     : Tab (List Nat)
  chkPlace  : Tab (List Nat)
  unchecked : List Nat
  brgUnchk  : List Nat
  brgTun    : Nat
  brgChk    : Nat
  wins      : Tab Win
  brgRan    : Nat
  short     : Tab Nat
  deriving DecidableEq, Repr

/-- No channel has run. -/
def Enc.zero : Enc := ⟨[], [], [], [], [], 0, 0, [], 0, []⟩

end Sys2Proof.Machine
end

