-- ==== Sys2Proof/Machine/TypesKet.lean ====
section
/-! DEFINITION. The plain data of the kettles (chapters 12 and 13). -/

namespace Sys2Proof.Machine

/-- A running block loop (R291, R292, R323): first and last word address of its block, its counter, and the words that the
loop cache holds from its second iteration on. -/
structure KLoop where
  first : Nat
  last  : Nat
  lc    : Nat
  cache : Option (List W32)
  deriving DecidableEq, Repr

/-- How a pending write was made, for the distances of R287 and R326. -/
inductive WKind where
  | alu | load | fp | mac | post | move | flag | satb | mem
  deriving DecidableEq, Repr

/-- Where a value is read, for the same distances: an E1 operand, the accumulator of a multiply-accumulate, the count of REP
Dr, an address in AG, the target of JMP, a branch condition, the count of LOOP and interrupt dispatch, memory. -/
inductive RKind where
  | e1 | acc | rep | ag | jmp | br | lp | mem
  deriving DecidableEq, Repr

/-- A write that has issued and is not yet seen by every reader: register code (R311; 0x50 the four flags; from 2¹⁶ the X
words, from 2¹⁷ the Y words), value, position and kind. -/
structure PWrite where
  reg  : Nat
  val  : W32
  pos  : Nat
  kind : WKind
  deriving DecidableEq, Repr

/-- The shadow set of R299. -/
structure Shadow where
  pc    : Nat
  sr    : W32
  lc0   : W32
  lc1   : W32
  loops : List KLoop
  deriving DecidableEq, Repr

/-- A DMA channel (R275): the word address of the descriptor in flight, 0 when idle, and whether it stops after it. -/
structure KDma where
  addr : Nat
  stop : Bool
  deriving DecidableEq, Repr

/-- A core, or in checked mode a pair (R268, R279 to R282, R286 to R299): registers by their codes of R311, pending writes,
the position of the next instruction, program counter, delay slots left with the branch target and whether a
BRA names it, iterations left of a REP,
running loops innermost first, handler flag, shadow set, pending requests (bit v: vector v), DMA channels, cycles since
release, busy cycles beyond the last 1,024 counted, cycles of this invocation, the raw time at which a rest ends, and
whether a HALT waits. -/
structure KCore where
  regs    : Tab W32
  pend    : List PWrite
  pos     : Nat
  pc      : Nat
  slots   : Nat
  target  : Option (Nat × Bool)
  rep     : Option Nat
  loops   : List KLoop
  ih      : Bool
  shadow  : Shadow
  req     : Nat
  dma     : Tab KDma
  cycles  : Nat
  busy    : Nat
  inv     : Nat
  restEnd : Nat
  halt    : Bool
  st      : Nat
  deriving DecidableEq, Repr

/-- A core after reset: all registers 0 but SATB, which is 1.0. -/
def KCore.zero : KCore :=
  { regs := [], pend := [], pos := 0, pc := 0, slots := 0, target := none, rep := none, loops := [], ih := false,
    shadow := ⟨0, 0, 0, 0, []⟩, req := 0, dma := [], cycles := 0, busy := 0, inv := 0, restEnd := 0, halt := false, st := 0 }

/-- A kernel section of the image (R303, R546): its number, VBASE, kettle mode, units, and images. -/
structure Kern where
  index : Nat
  vbase : Nat
  split : Bool
  units : Nat
  p     : List W32
  x     : List W32
  y     : List W32
  deriving DecidableEq, Repr

/-- The kettles: cores by their leading core's number, P, X and Y RAM words (core · 65536 + address), shared words
(kettle · 524288 + address), and the kernel sections that firmware keeps. -/
structure Ket where
  cores  : Tab KCore
  p      : Tab W32
  x      : Tab W32
  y      : Tab W32
  shared : Tab W32
  kerns  : List Kern
  deriving DecidableEq, Repr

/-- Kettles after reset. -/
def Ket.zero : Ket := ⟨[], [], [], [], [], []⟩

end Sys2Proof.Machine
end

