-- ==== Sys2Proof/Machine/TypesImg.lean ====
section
/-! DEFINITION. A Swevo image as the device reads it from flash (R540 to R546): the outcome of each test that looks at the
bytes alone, and the contents of the sections. -/

namespace Sys2Proof.Machine

/-- An image: whether its header passes (MAGIC, FORMAT, SYS_ID, CRC), whether every section's CRC does, whether sections
lie where they may, the sections' TYPE and critical bit, whether it carries a signature that verifies under R545, GENERATION,
and the contents of sections 8, 4, 5, 6, 7 and 3. -/
structure Img where
  header   : Bool
  crcs     : Bool
  layout   : Bool
  types    : List (Nat × Bool)
  signed   : Bool
  sigOk    : Bool
  gen      : Nat
  auth     : List Nat
  mem      : List Nat
  bootRegs : List (Nat × W32)
  service  : List (Nat × W32)
  recs     : List StagedRec
  kerns    : List Kern
  deriving DecidableEq, Repr

end Sys2Proof.Machine
end

