-- ==== Sys2Proof/Machine/TypesNet.lean ====
section
/-! DEFINITION. The plain data of the serial lanes (chapter 16) and of Yudizor and the floor (chapter 17). -/

namespace Sys2Proof.Machine

/-- The bring-up of a link (R377): MAC m under key m, Yudizor port p under key 16 + p. The step (0 = none running), the raw
time of the last failure plus 1, the RATE codes still to try with the lowest first, the RATE code in training, the one to
fall back on, the lanes that have trained, whether one of them ended below FOM_MIN, whether the fall-back is in training,
whether the refusal for cold or the wait for a clock holds the start, and whether the link has come up or failed once. -/
structure LinkX where
  step    : Nat
  failRaw : Nat
  rates   : List Nat
  rate    : Nat
  prev    : Nat
  done    : List Nat
  low     : Bool
  back    : Bool
  cold    : Bool
  hold    : Bool
  tried   : Bool
  deriving DecidableEq, Repr

/-- No bring-up. -/
def LinkX.zero : LinkX := ⟨0, 0, [], 0, 0, [], false, false, false, false, false⟩

/-- A lane (R385 to R390): windows below FOM_MIN in a row, whether 0x0802 is out, the coefficient set in force, and the set
and figure of merit that an adaptation step under judgement would go back to. -/
structure LaneX where
  lowRun : Nat
  lowEv  : Bool
  coef   : Nat
  trial  : Option (Nat × Nat)
  deriving DecidableEq, Repr

/-- A lane at reset. -/
def LaneX.zero : LaneX := ⟨0, false, 0, none⟩

/-- The lanes: bring-ups, lanes, the quads that a failed clock holds in electrical idle (R510), and the raw start of start-up
step 6. -/
structure Phy where
  links : Tab LinkX
  lanes : Tab LaneX
  idle  : List Nat
  step6 : Nat
  deriving DecidableEq, Repr

/-- The lanes after reset. -/
def Phy.zero : Phy := ⟨[], [], [], 0⟩

/-- A data flit that waits or is kept for replay (R398): its message, channel, SOP, EOP, payload. -/
structure Flit where
  msg     : Nat
  vc      : Nat
  sop     : Bool
  eop     : Bool
  payload : List Byte
  deriving DecidableEq, Repr

/-- A flit as its header and payload show it (R393): TYPE, VC, SOP, EOP, SEQ, ACK, NAK, CRD_VC, CRD and the payload bytes in use. -/
structure YzFlit where
  typ     : Nat
  vc      : Nat
  sop     : Bool
  eop     : Bool
  seq     : Nat
  ack     : Nat
  nak     : Bool
  crdVc   : Nat
  crd     : Nat
  payload : List Byte
  deriving DecidableEq, Repr

/-- A Yudizor port (R393 to R404). The sequence number of the next expected flit (that of the next new one, the credits and the
flits held are registers); the unacknowledged flits, oldest first; flits waiting by virtual channel; the last credit count
reported by the peer and the count returned to it, and the payload of the message that is arriving, by virtual channel;
complete messages received (channel, bytes); the raw time of the last NAK plus 1 and whether a flit was discarded since; the
raw time at which ACK last advanced, replays since, and the flits and failures of the running second; the turns of R397
(VC 5 before VC 4, VC 7 before VC 6, grants since one of VC 6 or VC 7) and the channel whose credits the next header reports;
the capability exchange: raw time of the last capability flit, of a refusal plus 1, whether the peer's has come, the peer's
DEV_ID and the RATE codes of both; and the raw time plus 1 since which the bundle is not up. -/
structure YzPort where
  expect  : Nat
  replay  : List Flit
  wait    : Tab (List Flit)
  lastCrd : Tab Nat
  retCrd  : Tab Nat
  part    : Tab (List Byte)
  msgs    : List (Nat × List Byte)
  nakRaw  : Nat
  nakDisc : Bool
  ackRaw  : Nat
  replays : Nat
  winRaw  : Nat
  winCnt  : Nat
  winBad  : Nat
  turn    : Bool
  lowTurn : Bool
  lowCnt  : Nat
  crdVc   : Nat
  capRaw  : Nat
  refused : Nat
  peerCap : Bool
  rates   : List Nat
  upRaw   : Nat
  downRaw : Nat
  testRaw : Nat
  repEnd  : Nat
  peerId  : Nat
  deriving DecidableEq, Repr

/-- A port at reset. -/
def YzPort.zero : YzPort :=
  { expect := 0, replay := [], wait := [], lastCrd := [], retCrd := [], part := [],
    msgs := [], nakRaw := 0, nakDisc := false, ackRaw := 0, replays := 0, winRaw := 0, winCnt := 0, winBad := 0, turn := false,
    lowTurn := false, lowCnt := 0, crdVc := 0, capRaw := 0, refused := 0, peerCap := false, rates := [], upRaw := 0, downRaw := 0,
    testRaw := 0, repEnd := 0, peerId := 0 }

/-- Encapsulation towards a peer on one virtual channel (R409): last number sent, datagrams not acknowledged (number, raw time
of the last sending, times sent, message), last number delivered, and messages held out of order. -/
structure UdpX where
  tx    : Nat
  unack : List (Nat × Nat × Nat × List Byte)
  rx    : Nat
  held  : List (Nat × List Byte)
  deriving DecidableEq, Repr

/-- No datagram yet. -/
def UdpX.zero : UdpX := ⟨0, [], 0, []⟩

/-- A member as its heartbeats show it (R412): raw time of the last one plus 1, its health, its view. -/
structure MemberX where
  raw     : Nat
  healthy : Bool
  view    : Nat
  deriving DecidableEq, Repr

/-- A member never heard. -/
def MemberX.zero : MemberX := ⟨0, false, 0⟩

/-- A group change that this device coordinates (R411): identifier, level, members asked that have not answered, raw start,
whether every answer so far was a pass, whether it was asked for by a coordinator above (that one gets the answer) and not by a
management request. `all` holds the members asked. -/
structure GroupX where
  ident : Nat
  lvl   : Nat
  all   : List Nat
  wait  : List Nat
  raw   : Nat
  ok    : Bool
  up    : Bool
  deriving DecidableEq, Repr

/-- Yudizor and the floor: ports, encapsulation (peer entry · 8 + virtual channel), members by floor address, coordinators of
other groups heard (level · 4,096 + address: raw time plus 1), alive counters sent and received (destination or source · 8 +
channel), the raw times of the last heartbeats and capacity refresh, the number of the next message, the group change staged on
this member (its identifier, and the raw time at which its check ended plus 1), the group change that this device coordinates,
the levels without a quorum, and what each other member of the first-level group last reported free (R410: tun, decode and
composer grist, legs, by floor address). -/
structure Yz where
  ports   : Tab YzPort
  udp     : Tab UdpX
  members : Tab MemberX
  coords  : Tab Nat
  aliveTx : Tab Nat
  aliveRx : Tab (Option Nat)
  hbRaw   : Nat
  hbUp    : Nat
  capRaw  : Nat
  msgNum  : Nat
  grpId   : Option Nat
  grpRaw  : Nat
  group   : Option GroupX
  noQuo   : List Nat
  reports : Tab (Nat × Nat × Nat × Nat)
  deriving DecidableEq, Repr

/-- The floor after reset. -/
def Yz.zero : Yz := ⟨[], [], [], [], [], [], 0, 0, 0, 0, none, 0, none, [], []⟩

end Sys2Proof.Machine
end

