-- ==== Sys2Proof/Machine/TypesRdn.lean ====
section
/-! DEFINITION. The plain data of twin pairs (chapter 18): rack records and sets, the journal, leases and the arbiter. -/

namespace Sys2Proof.Machine

/-- The body of a rack record (R422). `flowState` and `rcState` carry their state as a list of values in the order of the
record they mirror (R215, R422). -/
inductive RackItem where
  | arrival (ch : Nat) (slot : Nat) (missing : Bool)
  | lateRow (ch : Nat) (slot : Nat) (row : Nat)
  | capture (unit : Nat) (timeNs : Int) (epoch : Nat)
  | epoch (newEpoch : Nat) (step : Int) (raw : Nat)
  | pitch (ident : Nat) (instant : Int) (count : Nat)
  | pitchData (addr : Nat) (word : W32)
  | pitchRec (rec : StagedRec)
  | hint (ch : Nat) (rend : Nat) (slot : Nat)
  | lastSent (flow : Nat) (ext : Nat)
  | flowState (flow : Nat) (vals : List Nat)
  | bcMiss (ch : Nat) (first : Nat) (count : Nat)
  | rcState (ch : Nat) (rend : Nat) (slot : Nat) (vals : List Int)
  | heartbeat
  | handover (ident : Nat)
  deriving DecidableEq, Repr

/-- KIND of a rack record (R422). -/
def RackItem.kind : RackItem → Nat
  | .arrival .. => 1 | .lateRow .. => 2 | .capture .. => 3 | .epoch .. => 4 | .pitch .. => 5 | .pitchData .. => 6
  | .pitchRec .. => 6 | .hint .. => 7 | .lastSent .. => 8 | .flowState .. => 9 | .bcMiss .. => 10 | .rcState .. => 11
  | .heartbeat => 12 | .handover .. => 13

/-- A rack record (R426): SEQ, FLAGS (first, commit), the sender's gyle and the body. ALIVE is SEQ modulo 256. -/
structure RackRec where
  seq    : Nat
  first  : Bool
  commit : Bool
  gyle   : Nat
  item   : RackItem
  deriving DecidableEq, Repr

/-- A grant in an arbiter's own count (R434, R435): holder, highest gyle granted for the pair, the raw time at which the
count ends, and a claim that waits for that end (requester, LSEQ, gyle, duration in µs). -/
structure ArbPair where
  holder  : Nat
  gyle    : Nat
  endRaw  : Nat
  waiting : Option (Nat × Nat × Nat × Nat)
  deriving DecidableEq, Repr

/-- A pair of which no lease has been granted. -/
def ArbPair.zero : ArbPair := ⟨0, 0, 0, none⟩

/-- A request to the arbiter that has not been answered: LSEQ, the raw time it was sent, whether it is for the shadow
lease, and whether it is a renewal. -/
structure LeaseReq where
  lseq   : Nat
  raw    : Nat
  shadow : Bool
  renew  : Bool
  deriving DecidableEq, Repr

/-- A coded packet that a twin keeps (R439), and the raw time at which it was made. -/
structure Kept where
  pkt : LivePkt
  raw : Nat
  deriving DecidableEq, Repr

/-- The pair state of a device (R418 to R442). Times are raw counts. `unacked` holds the COMMIT SEQ and the send time of
each unacknowledged set; `held` the records of the set that is arriving; `rendReady` whether a rendition (channel · 16 +
rendition) is ready; `cause` and `causeRaw` why and since when a takeover is under way; `kept` the packets a twin has
made and not sent, `virt` the extended sequence number it gave the last one of a flow; `snapSeq` the COMMIT SEQ of the
snapshot that makes the standby ready for warm state; `renewRaw` and `lsRaw` when a lease request and LAST_SENT left last;
`pitchLeft` the PITCH_DATA records of the last racked pitch that have still to come; `chkBad` the renditions (bit channel · 16 +
rendition) that a mismatch made not ready (R149). -/
structure Rdn where
  leaseEnd   : Nat
  shadowEnd  : Nat
  lseq       : Nat
  reqs       : List LeaseReq
  journal    : List (List RackRec)
  unacked    : List (Nat × Nat)
  nextSeq    : Nat
  sinceSent  : Nat
  expect     : Nat
  held       : List RackRec
  peerRaw    : Nat
  warmReady  : Bool
  rendReady  : Tab Bool
  cause      : Nat
  causeRaw   : Nat
  claimRaw   : Nat
  arb        : Tab ArbPair
  swapId     : Option Nat
  handSeq    : Nat
  dayRaw     : Nat
  forceRap   : Bool
  listenRaw  : Nat
  egressStop : Bool
  lastSent   : Tab Nat
  kept       : List Kept
  virt       : Tab Nat
  snapSeq    : Nat
  renewRaw   : Nat
  lsRaw      : Nat
  pitchLeft  : Nat
  chkBad     : Nat
  deriving DecidableEq, Repr

/-- A device that is in no pair. -/
def Rdn.zero : Rdn :=
  { leaseEnd := 0, shadowEnd := 0, lseq := 0, reqs := [], journal := [], unacked := [], nextSeq := 1, sinceSent := 0,
    expect := 0, held := [], peerRaw := 0, warmReady := false, rendReady := [], cause := 0, causeRaw := 0, claimRaw := 0,
    arb := [], swapId := none, handSeq := 0, dayRaw := 0, forceRap := false, listenRaw := 0,
    egressStop := false, lastSent := [], kept := [], virt := [], snapSeq := 0, renewRaw := 0, lsRaw := 0, pitchLeft := 0, chkBad := 0 }

end Sys2Proof.Machine
end

