-- ==== Sys2Proof/Machine/TypesTst.lean ====
section
/-! DEFINITION. The plain data of production and field test (chapter 28). -/

namespace Sys2Proof.Machine

/-- Test: the raw time plus 1 at which a lane's checker reached sync, the bits it compared before, the block (kind, instance)
whose BIST or golden-vector command runs, whether start-up BIST runs, the boundary register, what drives the outputs (0 the
device, else the opcode plus 1 of the boundary-scan instruction in force), and the data register that the next Capture-DR
loads. -/
structure Tst where
  sync  : Tab Nat
  bits  : Tab Nat
  bist  : Option (Nat × Nat)
  gv    : Option (Nat × Nat)
  boot  : Bool
  bound : Nat
  drive : Nat
  dr    : Nat
  deriving DecidableEq, Repr

/-- Test after reset. -/
def Tst.zero : Tst := ⟨[], [], none, none, false, 0, 0, 0⟩

end Sys2Proof.Machine
end

