-- ==== Sys2Proof/Syntax/Data.lean ====
section
/-! DEFINITION. The data that commands carry, what a packet, a message or a measurement of the environment holds, is that of the
files named here. -/
end

