-- ==== Sys2Proof/Syntax.lean ====
section
/-! DEFINITION. The commands of the block: one constructor per row of spec/opcode_table.json, in the table's order, each
with the row's rule. Operands carry what the environment brings (a written word, a packet, a measured value); everything
else is computed from the state. -/

namespace Sys2Proof

open Sys2Proof.Machine (Port)

/-- The commands (opcode_table.json). -/
inductive Instr where
  /-- VIDEO_PACKET_RX (R30): A live-channel RTP packet reaches an ingress stage, is merged per ST 2022-7 and its lines are written to the picture buffer. -/
  | videoPacketRx (n : Fin 16) (path : Fin 2) (ext : Nat) (cap : Int) (data : Machine.LiveIn)
  /-- CH_PATH_SILENT (R60): After 10 ms without packets on an input path event 0x1004 reports it silent. -/
  | chPathSilent (n : Fin 16) (path : Fin 2)
  /-- ROW_COMPLETE (R631): A CTU row becomes complete in DRAM, allowing tuns to start it in row mode. -/
  | rowComplete (n : Fin 16) (k : Nat) (r : Nat)
  /-- ROW_START_DEADLINE (R37): The start deadline of a row passes and the row's arrival is classified. -/
  | rowStartDeadline (n : Fin 16) (k : Nat) (r : Nat)
  /-- CLASSIFICATION_CUT (R425): In a pair, the classification cut before a row's start deadline passes and the arrival class is decided and racked. -/
  | classificationCut (n : Fin 16) (k : Nat) (r : Nat)
  /-- PICTURE_ENCODE_START (R631): In picture or look-ahead mode the tuns start a picture when it is complete and analysed, or at its start deadline. -/
  | pictureEncodeStart (n : Fin 16) (k : Nat)
  /-- TRIGGER_FIRE (R363): A timebase trigger reaches its time and fires into each of its targets, re-arming if periodic. -/
  | triggerFire (n : Fin 64) (mix : List Machine.MixIn)
  /-- EGRESS_PACKET_SEND (R54): An egress stage sends the next coded packet of an access unit once it is coded, within the pacing limit. -/
  | egressPacketSend (n : Fin 16) (k : Nat) (rend : Fin 12) (bytes : Nat) (last : Bool) (crcOk : Bool)
  /-- BC_AUDIO_RELEASE (R36): A broadcast audio packet is released at the capture time of its first sample plus D. -/
  | bcAudioRelease (n : Fin 16) (first : Nat)
  /-- CH_HINT_WRITE (R59): A write to ENC_CH_HINT requests a random-access point in a named slot and is racked. -/
  | chHintWrite (p : Port) (n : Fin 16) (v : W32)
  /-- UNIT_START (R125): A tun starts a budget unit once its mill entries are available and sets its target and cap. -/
  | unitStart (n : Fin 16) (k : Nat) (rend : Fin 12) (u : Nat) (poison : List Nat)
  /-- UNIT_ENCODE_DONE (R143): A tun finishes the in-loop filtering of a unit and sends its CRC-32C to the check decoder. -/
  | unitEncodeDone (n : Fin 16) (k : Nat) (rend : Fin 12) (u : Nat) (ovh : Nat) (blocks : List Machine.BlkIn) (samples : List Int)
  /-- TUN_FENCE_CMD (R89): A write of 1 to ENC_TUN_CTRL.FENCE fences a tun. -/
  | tunFenceCmd (p : Port) (t : Fin 40) (v : W32)
  /-- TUN_UNFENCE_CMD (R93): A write of 1 to ENC_TUN_CTRL.UNFENCE starts the tun's golden-vector self-test. -/
  | tunUnfenceCmd (p : Port) (t : Fin 40) (v : W32)
  /-- TUN_SELFTEST_DONE (R93): The tun self-test ends, unfencing on a pass with event 0x1012 or setting CAUSE 5 with event 0x1013. -/
  | tunSelftestDone (t : Fin 40) (failAt : Option Nat)
  /-- MILL_GROUP_DOWNSCALE (R98): The mill downscales a 4-line group once it is complete in DRAM. -/
  | millGroupDownscale (n : Fin 16) (k : Nat) (g : Nat) (l0 : List Nat) (l1 : List Nat) (l2 : List Nat) (l3 : List Nat)
  /-- MILL_ROW_SEARCH (R98): The mill runs coarse search and costs for a CTU row once it is complete in DRAM. -/
  | millRowSearch (n : Fin 16) (k : Nat) (r : Nat)
  /-- WINDOW_STRIP_LOAD (R107): A tun's search-window strip load for the next search unit completes. -/
  | windowStripLoad (t : Fin 40) (corrected : Nat) (uncorrectable : Bool) (poison : Bool)
  /-- PREFILL_DONE (R109): A tun's prefill of its opening search window completes. -/
  | prefillDone (t : Fin 40)
  /-- CHECK_UNIT_DECODED (R144): A check decoder decodes a unit and compares its CRC with the tun's. -/
  | checkUnitDecoded (what : Machine.ChkTarget) (recon : Option (List Int))
  /-- CHK_DEC_TEST_SLOT (R151): Every 20 ms a check decoder decodes its golden vector and is fenced if it fails. -/
  | chkDecTestSlot (d : Fin 8) (pass : Bool)
  /-- CHK_DEC_FENCE_CMD (R151): A write of 1 to DEC_CHK_CTRL.FENCE fences a check decoder. -/
  | chkDecFenceCmd (p : Port) (d : Fin 8) (v : W32)
  /-- CHK_DEC_UNFENCE_CMD (R154): A write of 1 to DEC_CHK_CTRL.UNFENCE runs the golden-vector test and unfences on a pass. -/
  | chkDecUnfenceCmd (p : Port) (d : Fin 8) (v : W32)
  /-- RTP_PACKET_RX (R221): A received frame passes the forwarding pipeline of receive, classify, unprotect, store, replicate and rewrite. -/
  | rtpPacketRx (p : Machine.RtpPkt)
  /-- CONTEXT_FETCH_DONE (R23): A flow context missing from the cache arrives from DRAM and its waiting packets proceed in order. -/
  | contextFetchDone (f : Fin 2097152) (crcOk : Bool)
  /-- CONTEXT_WRITEBACK (R214): A dirty resident context is written back after WB_MS. -/
  | contextWriteback (f : Fin 2097152)
  /-- RTCP_SR_RR_RX (R226): A received SR or RR updates the round-trip time of the device's send flows. -/
  | rtcpSrRrRx (f : Fin 2097152) (lsr : Nat) (dlsr : Nat)
  /-- RTCP_NACK_RX (R243): A received generic NACK is served by retransmission from the history. -/
  | rtcpNackRx (f : Fin 2097152) (seqs : List Nat) (bad : List Nat)
  /-- RTCP_PLI_FIR_RX (R226): A received PLI or FIR is counted and aggregated into the source's keyframe requests. -/
  | rtcpPliFirRx (f : Fin 2097152) (fir : Bool)
  /-- RTCP_FEEDBACK_RX (R226): Received RFC 8888 feedback is passed to the leg's estimator. -/
  | rtcpFeedbackRx (f : Fin 2097152) (bits : Nat) (lost : Nat) (seen : Nat) (delaySum : Int) (delayCnt : Nat)
  /-- RTCP_BYE_RX (R226): A received BYE is punted and event 0x1809 raised. -/
  | rtcpByeRx (f : Fin 2097152) (ssrc : Nat) (len : Nat) (words : List W32)
  /-- RTCP_REPORT_SEND (R227): At its offset in the RTCP interval a flow sends its SR or RR. -/
  | rtcpReportSend (f : Fin 2097152)
  /-- FEEDBACK_REPORT_SEND (R227): Every FB_MS a receive flow sends RFC 8888 feedback to its sender. -/
  | feedbackReportSend (f : Fin 2097152)
  /-- RX_NACK_SEND (R225): 5 ms after a gap is found a receive flow sends a generic NACK. -/
  | rxNackSend (f : Fin 2097152)
  /-- BWE_STEP (R235): Every 100 ms a leg's bandwidth estimate is updated from feedback. -/
  | bweStep (l : Fin 262144)
  /-- OUTPUT_TARGET_UPDATE (R237): Every 100 ms a bridge output encode's target is recomputed from its receivers' estimates. -/
  | outputTargetUpdate (o : Fin 4096)
  /-- LAYER_RATE_UPDATE (R239): Every 100 ms the layer-rate table of each source is updated. -/
  | layerRateUpdate (f : Fin 2097152)
  /-- PACED_COPY_SEND (R236): A leg's pacer releases a queued copy within its paced rate. -/
  | pacedCopySend (l : Fin 262144)
  /-- PACER_DROP (R236): A copy waiting longer than MAX_QDLY is dropped from the pacer head and counted. -/
  | pacerDrop (l : Fin 262144)
  /-- UPSWITCH_PLI_TIMEOUT (R240): A spatial up-switch waiting KF_WAIT without a switch point raises a PLI. -/
  | upswitchPliTimeout (f : Fin 2097152)
  /-- KEYFRAME_HOLD_END (R241): At the end of a keyframe hold one further request is sent if requests arrived during it. -/
  | keyframeHoldEnd (f : Fin 2097152)
  /-- FWD_USAGE_UPDATE (R204): Every 100 ms a session's forwarded-bandwidth usage is updated. -/
  | fwdUsageUpdate (x : Fin 32768)
  /-- PUNT_FETCH (R223): FWD_PUNT_CMD OP 1 fetches the oldest punted packet into the punt window. -/
  | puntFetch (p : Port)
  /-- PUNT_SEND (R223): FWD_PUNT_CMD OP 2 sends FWD_PUNT_DATA on a flow's addresses unprotected. -/
  | puntSend (p : Port) (f : Fin 2097152)
  /-- BRG_WIN_FETCH (R217): BRG_WIN_CMD OP 1 copies a bridge record into BRG_WIN_DATA. -/
  | brgWinFetch (p : Port) (ty : Fin 16) (i : Nat) (bad : Bool)
  /-- BRG_WIN_STAGE (R217): BRG_WIN_CMD OP 2 stages the record in BRG_WIN_DATA into the steep bank. -/
  | brgWinStage (p : Port) (ty : Fin 16) (i : Nat)
  /-- BRG_WIN_DISCARD (R217): BRG_WIN_CMD OP 3 discards the staged copy of a record. -/
  | brgWinDiscard (p : Port) (ty : Fin 16) (i : Nat)
  /-- ADMISSION_REQUEST_RX (R210): The session home receives a member's addition request and grants or refuses it. -/
  | admissionRequestRx (x : Fin 32768) (leg : Nat) (fwd : Nat) (dec : Nat) (mix : Nat)
  /-- ADMISSION_GRANT_RX (R210): A member receives the home's grant or refusal of an addition. -/
  | admissionGrantRx (x : Fin 32768) (leg : Nat) (grant : Bool)
  /-- DECODE_PICTURE_START (R164): A decode core takes the next queued access unit and starts decoding with its cycle budget. -/
  | decodePictureStart (d : Fin 24) (recOk : Bool)
  /-- DECODE_BUDGET_CUT (R165): The cycle budget runs out, the rest of the picture is concealed with cause 3. -/
  | decodeBudgetCut (d : Fin 24) (r : Machine.DecRes)
  /-- DECODE_PICTURE_DONE (R161): A decoded picture and its descriptor are written and LATEST is updated atomically. -/
  | decodePictureDone (d : Fin 24) (r : Machine.DecRes)
  /-- KEYFRAME_REQ_REPEAT (R173): While a request condition lasts the request is repeated every REQ_HOLD × 10 ms. -/
  | keyframeReqRepeat (c : Fin 8192)
  /-- DEC_CORE_TEST_SLOT (R175): Every 20 ms a decode core decodes a golden vector and is fenced on failure. -/
  | decCoreTestSlot (d : Fin 24) (pass : Bool)
  /-- DEC_CORE_FENCE_CMD (R175): A write of 1 to DEC_CORE_CTRL.FENCE fences a decode core. -/
  | decCoreFenceCmd (p : Port) (d : Fin 24) (v : W32)
  /-- DEC_CORE_UNFENCE_CMD (R177): A write of 1 to DEC_CORE_CTRL.UNFENCE starts the core's golden-vector test. -/
  | decCoreUnfenceCmd (p : Port) (d : Fin 24) (v : W32)
  /-- DEC_CORE_UNFENCE_DONE (R177): The core test passes, FENCED clears and event 0x1402 is raised. -/
  | decCoreUnfenceDone (d : Fin 24) (pass : Bool)
  /-- STRIP_COMPOSED (R191): A 16-line strip is composed, line-sum checked and signalled to consumers. -/
  | stripComposed (key : Fin 4112) (sums : List Int) (poison : List Nat)
  /-- MERGE_RAP_WAIT_EXPIRE (R195): RAP_WAIT expires and absent merge inputs take mid-grey intra subpictures. -/
  | mergeRapWaitExpire (p : Fin 16)
  /-- CMP_TEST_SLOT (R448): Every 20 ms a composer pipe runs its golden vector and is fenced on failure. -/
  | cmpTestSlot (p : Fin 16) (pass : Bool)
  /-- CMP_PIPE_FENCE_CMD (R192): A write of 1 to CMP_PIPE_CTRL.FENCE fences a composer pipe. -/
  | cmpPipeFenceCmd (p : Port) (q : Fin 16) (v : W32)
  /-- CMP_PIPE_UNFENCE_CMD (R192): A write of 1 to CMP_PIPE_CTRL.UNFENCE tests the pipe and unfences on a pass. -/
  | cmpPipeUnfenceCmd (p : Port) (q : Fin 16) (v : W32)
  /-- CANDIDATE_SET_RX (R256): A candidate set from another unit or member reaches the mix unit. -/
  | candidateSetRx (x : Fin 32768) (member : Nat) (cands : List Machine.Cand)
  /-- AUD_WIN_FETCH (R266): AUD_WIN_CMD OP 1 fetches an audio record into the window. -/
  | audWinFetch (p : Port) (ty : Fin 16) (i : Nat) (bad : Bool)
  /-- AUD_WIN_STAGE (R266): AUD_WIN_CMD OP 2 stages an audio record. -/
  | audWinStage (p : Port) (ty : Fin 16) (i : Nat)
  /-- AUD_WIN_DISCARD (R266): AUD_WIN_CMD OP 3 discards a staged audio record. -/
  | audWinDiscard (p : Port) (ty : Fin 16) (i : Nat)
  /-- LOUDNESS_UPDATE (R264): Every 100 ms broadcast loudness values are updated. -/
  | loudnessUpdate (n : Fin 16) (m : Option Int) (sh : Option Int) (int : Option Int) (tp : Option Int)
  /-- LOCKSTEP_MISMATCH (R269): A checked kettle pair's comparator finds a difference and fences the unit. -/
  | lockstepMismatch (c : Fin 96) (memErr : Bool)
  /-- KETTLE_TEST_SLOT (R270): In split mode a core runs its golden-vector test slot every 20 ms. -/
  | kettleTestSlot (c : Fin 96) (pass : Bool)
  /-- KETTLE_FENCE_CMD (R271): A write of 1 to DSP_CORE_CTRL.FENCE fences a unit. -/
  | kettleFenceCmd (p : Port) (c : Fin 96) (v : W32)
  /-- KETTLE_UNFENCE_CMD (R271): A write of 1 to DSP_CORE_CTRL.UNFENCE tests, reloads and unfences a unit. -/
  | kettleUnfenceCmd (p : Port) (c : Fin 96) (v : W32)
  /-- KETTLE_HALT_CMD (R305): DSP_CORE_CTRL.HALT halts a customer unit at its next accepting boundary. -/
  | kettleHaltCmd (p : Port) (c : Fin 96) (v : W32)
  /-- KETTLE_RELEASE_CMD (R305): DSP_CORE_CTRL.RELEASE restarts a halted or faulted core at P address 0. -/
  | kettleReleaseCmd (p : Port) (c : Fin 96) (v : W32)
  /-- MBOX_WRITE (R282): A write to DSP_CORE_MBOX posts a word and raises vector 7. -/
  | mboxWrite (p : Port) (c : Fin 96) (v : W32)
  /-- INTERRUPT_ACCEPT (R299): A core accepts a pending interrupt at a boundary and enters its handler. -/
  | interruptAccept (c : Fin 96)
  /-- KETTLE_TIMER_EXPIRE (R282): The core TIMER reaches 0 and raises vector 6. -/
  | kettleTimerExpire (c : Fin 96)
  /-- DMA_DESCRIPTOR_DONE (R277): A kettle DMA descriptor completes and may interrupt and chain. -/
  | dmaDescriptorDone (c : Fin 96) (n : Fin 4) (bad : Option Nat)
  /-- REST_WAIT_END (R295): The thermal rest after an invocation ends and the core may accept interrupts. -/
  | restWaitEnd (c : Fin 96)
  /-- DSP_WIN_FETCH (R305): DSP_WIN_CMD OP 1 fetches 64 words of kettle memory. -/
  | dspWinFetch (p : Port) (sp : Fin 16) (k : Fin 16) (c : Fin 8) (bad : Bool)
  /-- DSP_WIN_WRITE (R305): DSP_WIN_CMD OP 2 writes the window buffer to kettle memory. -/
  | dspWinWrite (p : Port) (sp : Fin 16) (k : Fin 16) (c : Fin 8)
  /-- NOP (R315): The core issues a no-operation. -/
  | nop (c : Fin 96)
  /-- BRA (R315): A conditional branch with two delay slots. -/
  | bra (c : Fin 96)
  /-- CALL (R315): A call that writes A15 and branches after two delay slots. -/
  | call (c : Fin 96)
  /-- JMP (R315): A branch to Ai, RET when Ai is A15. -/
  | jmp (c : Fin 96)
  /-- RTI (R299): Return from a handler restoring the shadow set. -/
  | rti (c : Fin 96)
  /-- WAIT (R315): Issue stops until an interrupt is accepted, ending the invocation. -/
  | wait (c : Fin 96)
  /-- ADD (R317): Integer add with flags and optional saturation. -/
  | add (c : Fin 96)
  /-- SUB (R317): Integer subtract. -/
  | sub (c : Fin 96)
  /-- NEG (R317): Integer negate. -/
  | neg (c : Fin 96)
  /-- ABS (R317): Integer absolute value. -/
  | abs (c : Fin 96)
  /-- MUL (R317): Integer multiply, low 32 bits. -/
  | mul (c : Fin 96)
  /-- AND (R317): Bitwise AND. -/
  | and (c : Fin 96)
  /-- OR (R317): Bitwise OR. -/
  | or (c : Fin 96)
  /-- XOR (R317): Bitwise XOR. -/
  | xor (c : Fin 96)
  /-- SHL (R317): Shift left. -/
  | shl (c : Fin 96)
  /-- SHR (R317): Logical shift right. -/
  | shr (c : Fin 96)
  /-- ASR (R317): Arithmetic shift right. -/
  | asr (c : Fin 96)
  /-- MIN (R317): Signed integer minimum. -/
  | min (c : Fin 96)
  /-- MAX (R317): Signed integer maximum. -/
  | max (c : Fin 96)
  /-- CMP (R317): Integer compare setting flags. -/
  | cmp (c : Fin 96)
  /-- TST (R317): Integer test setting flags. -/
  | tst (c : Fin 96)
  /-- CLZ (R317): Count leading zeros. -/
  | clz (c : Fin 96)
  /-- CSEL (R317): Conditional select. -/
  | csel (c : Fin 96)
  /-- FADD (R318): FP32 add. -/
  | fadd (c : Fin 96)
  /-- FSUB (R318): FP32 subtract. -/
  | fsub (c : Fin 96)
  /-- FMUL (R318): FP32 multiply. -/
  | fmul (c : Fin 96)
  /-- FNEG (R318): FP32 negate. -/
  | fneg (c : Fin 96)
  /-- FABS (R318): FP32 absolute value. -/
  | fabs (c : Fin 96)
  /-- FMIN (R318): FP32 minimum. -/
  | fmin (c : Fin 96)
  /-- FMAX (R318): FP32 maximum. -/
  | fmax (c : Fin 96)
  /-- FCMP (R318): FP32 compare setting flags. -/
  | fcmp (c : Fin 96)
  /-- I2F (R318): Convert int32 to FP32. -/
  | i2f (c : Fin 96)
  /-- F2I (R318): Convert FP32 to int32. -/
  | f2i (c : Fin 96)
  /-- FSCL (R318): Scale by a power of two. -/
  | fscl (c : Fin 96)
  /-- FRCP (R318): Reciprocal estimate. -/
  | frcp (c : Fin 96)
  /-- FRSQ (R318): Reciprocal square-root estimate. -/
  | frsq (c : Fin 96)
  /-- FMAC (R319): FP multiply-accumulate, register form. -/
  | fmac (c : Fin 96)
  /-- FMAC_M (R319): FP multiply-accumulate on X and Y memory operands. -/
  | fmacM (c : Fin 96)
  /-- LD (R320): Load of a D register from X or Y memory. -/
  | ld (c : Fin 96)
  /-- ST (R320): Store of a D register to X or Y memory. -/
  | st (c : Fin 96)
  /-- MOVE (R321): Register move, including control registers such as DMA, DBELL and SATB. -/
  | move (c : Fin 96)
  /-- MOVEI (R321): Move of a sign-extended immediate. -/
  | movei (c : Fin 96)
  /-- MOVEU (R321): Move of an immediate into the upper half. -/
  | moveu (c : Fin 96)
  /-- MOVEL (R321): Move of an immediate into the lower half. -/
  | movel (c : Fin 96)
  /-- REP (R322): Repeat the next instruction an immediate count of times. -/
  | rep (c : Fin 96)
  /-- REP_D (R322): Repeat the next instruction a count taken from a D register. -/
  | repD (c : Fin 96)
  /-- LOOP (R323): Start a block loop counted by LC0 or LC1. -/
  | loop (c : Fin 96)
  /-- MAXI (R324): Search step keeping the greater value and its index. -/
  | maxi (c : Fin 96)
  /-- MINI (R324): Search step keeping the lesser value and its index. -/
  | mini (c : Fin 96)
  /-- PARALLEL_FORM (R325): A 64-bit instruction pairing an operation with X and Y moves. -/
  | parallelForm (c : Fin 96)
  /-- APT_FRAME_SYNC (R338): At a port frame-sync the next transmit frame is fetched and pending changes land. -/
  | aptFrameSync (p : Fin 16) (good : Bool) (bits : Nat)
  /-- APT_RX_FRAME_DONE (R338): A received frame and its status block are written to the ring. -/
  | aptRxFrameDone (p : Fin 16) (samples : List (Nat × Nat)) (parity : Nat) (sync : Int)
  /-- ZC_TIMEOUT (R341): No zero crossing within ZC_MS makes the slot ramp over 32 samples. -/
  | zcTimeout (p : Fin 16) (k : Fin 64)
  /-- AES_CS_BLOCK_RX (R333): An AES3 input completes a channel-status block and checks its CRC. -/
  | aesCsBlockRx (p : Fin 16) (frames : Nat) (a : List Byte) (b : List Byte) (crcOk : Bool)
  /-- AES_OUTPUT_LOCKED (R334): An AES3 output PLL locks to its reference and the output starts sending. -/
  | aesOutputLocked (p : Fin 16)
  /-- TRIGGER_ARM (R363): A write of ARM = 1 arms a trigger with its time and period. -/
  | triggerArm (p : Port) (n : Fin 64) (v : W32)
  /-- PTP_SYNC_RX (R353): A PTP Sync message is timestamped and gives an offset measurement. -/
  | ptpSyncRx (mac : Fin 17) (domain : Nat) (clock : Nat) (seq : Nat) (twoStep : Bool) (t1 : Int) (corr : Int)
  /-- PTP_FOLLOW_UP_RX (R353): A Follow_Up completes a two-step Sync measurement. -/
  | ptpFollowUpRx (mac : Fin 17) (domain : Nat) (clock : Nat) (seq : Nat) (t1 : Int) (corr : Int)
  /-- PTP_DELAY_RESP_RX (R353): A Delay_Resp completes a mean path delay measurement. -/
  | ptpDelayRespRx (mac : Fin 17) (domain : Nat) (clock : Nat) (seq : Nat) (t4 : Int) (corr : Int) (intervalNs : Nat)
  /-- DELAY_REQ_SEND (R353): A Delay_Req is sent at the interval the master states. -/
  | delayReqSend (seq : Nat)
  /-- PTP_ANNOUNCE_RX (R354): An Announce message feeds master selection, and a grandmaster change raises event 0x0606. -/
  | ptpAnnounceRx (mac : Fin 17) (domain : Nat) (clock : Nat) (key : Nat) (intervalNs : Nat) (utc : Int)
  /-- MASTER_LOST (R354): No Announce within ANN_TIMEOUT intervals loses the master, entering HOLDOVER. -/
  | masterLost
  /-- ACQ_TIMEOUT (R357): No measurement within ACQ_TIMEOUT puts the timebase in FREERUN. -/
  | acqTimeout
  /-- CAPTURE_EVENT (R366): A capture unit records the presented time and epoch of its source event. -/
  | captureEvent (n : Fin 64) (src : Nat) (pin : Nat) (lane : Nat) (rising : Bool)
  /-- CAPTURE_READ (R370): A read of TB_CAP_EPOCH clears the capture's VALID bit. -/
  | captureRead (p : Port) (n : Fin 64)
  /-- TIME_LATCH_READ (R370): A read of TB_TIME_S_LO latches all four time words. -/
  | timeLatchRead (p : Port)
  /-- YZ_STAMP_EXCHANGE (R367): Ends of a Yudizor port exchange alignment-marker stamps. -/
  | yzStampExchange (port : Fin 16) (t1 t2 t3 t4 : Int)
  /-- YZ_TIME_MEASURE (R367): Every 1 ms the mean of marker measurements enters the servo. -/
  | yzTimeMeasure (upEpoch : Nat)
  /-- UPSTREAM_STEP_RX (R368): A downstream device applies an upstream step with its epoch change. -/
  | upstreamStepRx (epoch : Nat) (step : Int)
  /-- QUAD_PLL_LOCKED (R377): A quad LC PLL locks and bring-up proceeds. -/
  | quadPllLocked (q : Fin 16)
  /-- AUTO_NEGOTIATION_DONE (R377): Clause 73 auto-negotiation completes and the lanes move to the line rate. -/
  | autoNegotiationDone (m : Fin 16) (ok : Bool)
  /-- CDR_LOCKED (R377): Clock and data recovery locks on a lane. -/
  | cdrLocked (l : Fin 64)
  /-- ALIGNMENT_LOCKED (R383): Alignment markers lock, skew is removed and receive delay measured. -/
  | alignmentLocked (k : Fin 32) (delays : List Nat) (rxDly : Nat)
  /-- LANE_TRAINING_DONE (R377): Link training at a rate completes with a figure of merit. -/
  | laneTrainingDone (l : Fin 64) (ok : Bool) (fom : Fin 256)
  /-- LINK_UP (R377): PCS, alignment and FEC lock without local fault bring an Ethernet link up. -/
  | linkUp (m : Fin 16) (txDly : Nat)
  /-- BRINGUP_RETRY (R378): A failed bring-up restarts after its retry delay. -/
  | bringupRetry (k : Fin 32)
  /-- LANE_STEP_TIMEOUT (R381): Start-up step 6 ends after 10 s with lanes still coming up. -/
  | laneStepTimeout
  /-- LINK_DOWN (R380): Loss of lock or local fault takes a link down, stops egress and restarts bring-up. -/
  | linkDown (m : Fin 16) (cause : Fin 4)
  /-- FOM_WINDOW_END (R385): A 2²⁴-symbol window ends and the lane's figure of merit is computed. -/
  | fomWindowEnd (l : Fin 64) (num : Nat) (den : Nat) (next : Option Nat)
  /-- EYE_SCAN_RUN (R388): LNK_ES_CTRL.RUN starts measuring one eye-scan point. -/
  | eyeScanRun (p : Port) (l : Fin 64) (v : W32)
  /-- EYE_SCAN_DONE (R388): An eye-scan point completes with its error count. -/
  | eyeScanDone (l : Fin 64) (errors : Nat)
  /-- FLIT_RX (R399): A data flit is received, CRC- and sequence-checked, and its ACK, NAK and credit fields acted on. -/
  | flitRx (p : Fin 16) (bytes : List Byte)
  /-- NAK_HOLDOFF_EXPIRE (R399): 2 µs after a NAK the receiver may send another. -/
  | nakHoldoffExpire (p : Fin 16)
  /-- ACK_TIMEOUT (R400): ACK not advancing for 10 µs replays from the oldest flit. -/
  | ackTimeout (p : Fin 16)
  /-- CREDIT_RETURN (R396): A received flit passed on returns one credit for its virtual channel. -/
  | creditReturn (p : Fin 16) (vc : Fin 8)
  /-- CAPABILITY_SEND (R401): Capability flits are sent every 10 µs during the exchange. -/
  | capabilitySend (p : Fin 16)
  /-- CAPABILITY_RX (R402): A peer's capability flit sets bundle width and rates, or refuses the link. -/
  | capabilityRx (p : Fin 16) (bytes : List Byte)
  /-- CAPABILITY_RETRY (R402): A refused port retries the exchange after 1 s. -/
  | capabilityRetry (p : Fin 16)
  /-- RETRAIN_DONE (R403): A retrain ends and each sender replays from the ACK received. -/
  | retrainDone (p : Fin 16) (ok : Bool) (ack : Fin 4096)
  /-- BUNDLE_DOWN (R404): A bundle not up within 500 ms is down and unacknowledged messages are indeterminate. -/
  | bundleDown (p : Fin 16)
  /-- YZ_MESSAGE_RX (R406): A complete Yudizor message is checked for CRC and alive count and delivered or relayed. -/
  | yzMessageRx (p : Fin 16) (vc : Fin 8) (mirror : Option (Nat × Nat))
  /-- YZ_UDP_RX (R409): An encapsulated Yudizor datagram is accepted from a configured peer and delivered in order. -/
  | yzUdpRx (mac : Fin 64) (udpPort : Fin 65536) (ip : Nat) (seq : Nat) (ack : Nat) (vc : Fin 8) (bytes : List Byte)
  /-- YZ_UDP_RESEND (R409): An unacknowledged datagram is sent again after 4 ms. -/
  | yzUdpResend (i : Fin 64) (vc : Fin 8)
  /-- HEARTBEAT_SEND (R412): A floor heartbeat is sent every 1 ms to each configured member. -/
  | heartbeatSend
  /-- HEARTBEAT_RX (R412): A member's heartbeat updates the view. -/
  | heartbeatRx (src : Fin 4096) (healthy : Bool) (view : Nat) (lvl : Fin 4)
  /-- MEMBER_DEAD (R412): A member unheard for DEAD_MS leaves the view. -/
  | memberDead (src : Fin 4096) (lvl : Fin 4)
  /-- CAPACITY_REFRESH (R410): Every 10 ms the coordinator refreshes group capacity sums. -/
  | capacityRefresh (r1 : List (Nat × Nat × Nat × Nat)) (r2 : List (Nat × Nat × Nat × Nat)) (r3 : List (Nat × Nat × Nat × Nat))
  /-- GROUP_STAGE_CHECK (R411): A member receives a group change, stages it and runs its gravity check. -/
  | groupStageCheck (lvl : Fin 4) (ident : Nat) (writes : List (Nat × W32)) (recs : List Machine.StagedRec)
  /-- GROUP_COMMIT (R411): A member receives the commit and pitches at the named trigger time. -/
  | groupCommit (ident : Nat) (pid : Nat) (atNs : Int)
  /-- GROUP_COMMIT_TIMEOUT (R411): A member without commit 10 ms after its check discards the change. -/
  | groupCommitTimeout
  /-- GROUP_ANSWER_TIMEOUT (R411): A member not answering the coordinator within 10 ms refuses the group pitch. -/
  | groupAnswerTimeout
  /-- RACK_RECORD_RX (R428): A standby checks a rack record and holds it until its set commits. -/
  | rackRecordRx (r : Machine.RackRec) (crcOk : Bool) (snap : Bool)
  /-- RACK_RESEND_REQ_RX (R428): The active resends records from its journal on request. -/
  | rackResendReqRx (q : Nat) (poison : Bool)
  /-- RACK_ACK_RX (R427): The active receives the acknowledgement of a rack set. -/
  | rackAckRx (q : Nat)
  /-- RACK_HEARTBEAT_SEND (R422): A HEARTBEAT record is racked in every 250 µs with no other set. -/
  | rackHeartbeatSend
  /-- LAST_SENT_RACK (R422): LAST_SENT of output flows is racked every 1 ms. -/
  | lastSentRack
  /-- DEGRADED_ENTER (R430): An unacknowledged set older than DEAD makes the active DEGRADED. -/
  | degradedEnter
  /-- RESYNC_CMD (R430): RDN_CTRL.RESYNC makes a standby resynchronise from a snapshot. -/
  | resyncCmd (p : Port)
  /-- PEER_SILENT (R438): No rack set or heartbeat for DEAD makes a standby claim the lease. -/
  | peerSilent
  /-- LEASE_REQUEST_RX (R435): The arbiter grants or denies a lease request. -/
  | leaseRequestRx (sound : Bool) (pair : Fin 256) (who : Fin 4096) (shadow : Bool) (lseq : Nat) (gyle : Nat) (durUs : Nat)
  /-- ARBITER_LEASE_END (R434): The arbiter's count of a lease ends and a pending claim may be granted. -/
  | arbiterLeaseEnd (pair : Fin 256) (shadow : Bool)
  /-- LEASE_GRANT_RX (R439): A granted claimant takes over: applies sets, enables egress and restarts bridge state. -/
  | leaseGrantRx (sound : Bool) (holder : Fin 4096) (shadow : Bool) (lseq : Nat) (gyle : Nat) (durUs : Nat)
  /-- LEASE_DENY_RX (R438): A denied claimant returns to STANDBY with event 0x0D02. -/
  | leaseDenyRx (sound : Bool) (holder : Fin 4096) (lseq : Nat) (gyle : Nat)
  /-- LEASE_RELEASE_RX (R435): A released lease ends at once and the standby claims. -/
  | leaseReleaseRx (sound : Bool) (pair : Fin 256) (shadow : Bool) (req : Bool)
  /-- LEASE_REVOKE_RX (R438): The arbiter revokes the active's lease and the standby claims. -/
  | leaseRevokeRx (sound : Bool) (gyle : Nat)
  /-- LEASE_RENEW (R434): The holder requests lease renewal every RENEW. -/
  | leaseRenew
  /-- LEASE_EXPIRE (R437): A lease expiring in the holder's count stops egress with event 0x0D09. -/
  | leaseExpire
  /-- SWAP_CMD (R441): RDN_CTRL.SWAP starts a planned swap handing over to a ready standby. -/
  | swapCmd (p : Port)
  /-- SWAP_DAYS_TICK (R442): A day passes, DAYS increments and event 0x0D08 is raised when due. -/
  | swapDaysTick
  /-- HG_GRANT (R433): A host arbiter grants a pending lease request through RDN_HG_CMD. -/
  | hgGrant (p : Port) (durMs : Fin 32) (lseq : Fin 65536)
  /-- HG_DENY (R433): A host arbiter denies a pending lease request. -/
  | hgDeny (p : Port) (lseq : Fin 65536)
  /-- HG_REVOKE (R433): A host arbiter revokes a lease. -/
  | hgRevoke (p : Port) (lseq : Fin 65536)
  /-- SRAM_UNCORRECTABLE (R450): A double-bit SRAM error fences the owning engine or drops the cache line. -/
  | sramUncorrectable (o : Machine.MemOwner)
  /-- FABRIC_PARITY_ERROR (R453): A wort-fabric flit fails parity and is resent, or SAFE mode follows. -/
  | fabricParityError (link : Fin 1024) (plane : Fin 2) (again : Bool) (own : Option Machine.MemOwner)
  /-- CONTROL_PARITY_ERROR (R453): A control-fabric parity error fails the access with HCP_ERR. -/
  | controlParityError (p : Port) (a : Nat) (update : Bool) (write : Bool)
  /-- MGMT_LOCKSTEP_MISMATCH (R460): A management pair lockstep mismatch puts the device in SAFE mode. -/
  | mgmtLockstepMismatch (pair : Fin 2)
  /-- FAULT_LOG_HOURLY (R464): Every hour each class with corrected errors gets a summary record. -/
  | faultLogHourly
  /-- FWD_TEST_SLOT (R449): The forwarding engine runs golden packets and enters SAFE mode on failure. -/
  | fwdTestSlot (pass : Bool)
  /-- IMAGE_COPY_ERROR (R460): An uncorrectable error in the running image copy puts the device in SAFE mode. -/
  | imageCopyError (dram : Bool)
  /-- SAFE_COMMAND (R460): SYS_CTRL.SAFE under MAINTAIN enters SAFE mode. -/
  | safeCommand (p : Port) (v : W32)
  /-- CHK_FEED_B (R468): A byte fed to a check-value unit. -/
  | chkFeedB (p : Port) (u : Fin 16) (v : W32)
  /-- CHK_FEED_H (R468): A half-word fed to a check-value unit. -/
  | chkFeedH (p : Port) (u : Fin 16) (v : W32)
  /-- CHK_FEED_W (R468): A word fed to a check-value unit. -/
  | chkFeedW (p : Port) (u : Fin 16) (v : W32)
  /-- CHK_START (R469): CHK_UNIT_CTRL.START loads the initial value after held feeds. -/
  | chkStart (p : Port) (u : Fin 16) (v : W32)
  /-- CHK_VALUE_WRITE (R470): A write to CHK_UNIT_VALUE restores a saved running value in order. -/
  | chkValueWrite (p : Port) (u : Fin 16) (v : W32)
  /-- CHK_CFG_WRITE (R466): A write to CHK_UNIT_CFG selects the algorithm, ignoring reserved values. -/
  | chkCfgWrite (p : Port) (u : Fin 16) (v : W32)
  /-- CHK_ALIVE_WRITE (R472): An alive value is checked as OK, REPEAT or SKIP and counted. -/
  | chkAliveWrite (p : Port) (u : Fin 16) (v : W32)
  /-- CHK_ALIVE_RST (R472): ALIVE_RST makes the next alive value accepted as first. -/
  | chkAliveRst (p : Port) (u : Fin 16) (v : W32)
  /-- CHK_UNIT_TEST_SLOT (R473): Every 20 ms a unit checks its algorithm over the check string. -/
  | chkUnitTestSlot (u : Fin 12) (result : W32) (memErr : Bool)
  /-- DRAM_READ (R487): A read request is checked against queued writes and forwarded, drained or issued. -/
  | dramRead (req : Machine.Requester) (addr : Nat) (len : Nat)
  /-- DRAM_READ_RETURN (R451): Read data return and are decoded, corrected, retried or poisoned, in requester order. -/
  | dramReadReturn (c : Fin 24) (num : Nat) (ce : Nat) (ue : Option (Nat × Bool))
  /-- DRAM_WRITE (R483): A write request is queued, whole or merged, for its burst. -/
  | dramWrite (req : Machine.Requester) (burst : Nat) (ofs : Fin 64) (bytes : List Byte) (ue : Bool)
  /-- WRITE_AGE_EXPIRE (R486): The oldest write waiting WR_AGE cycles starts a drain. -/
  | writeAgeExpire (c : Fin 24)
  /-- REFRESH_DUE (R489): A bank's refresh interval expires and it is refreshed. -/
  | refreshDue (c : Fin 24) (r : Fin 2)
  /-- RANK_POWER_DOWN (R490): A rank idle for PD_IDLE cycles enters power-down. -/
  | rankPowerDown (c : Fin 24) (r : Fin 2)
  /-- ZERO_FILL_DONE (R492): A masked segment is zero-filled after self-refresh exit. -/
  | zeroFillDone (c : Fin 24) (seg : Fin 16)
  /-- SCRUB_READ (R493): Patrol scrub reads the next block and corrects or poisons it. -/
  | scrubRead (c : Fin 24) (ce : Nat) (ue : List (Fin 7))
  /-- DRAM_TRAINING_DONE (R497): A channel finishes fast-path or full training, or fails. -/
  | dramTrainingDone (c : Fin 24) (pass : Bool) (words : List W32)
  /-- TR_PATTERN_WRITE (R494): DRM_TR_CMD OP 1 writes a pattern burst. -/
  | trPatternWrite (p : Port) (c : Fin 24) (rank : Fin 2) (count : Fin 8192)
  /-- TR_READ_COMPARE (R494): DRM_TR_CMD OP 2 reads and compares a burst per bit. -/
  | trReadCompare (p : Port) (c : Fin 24) (rank : Fin 2) (count : Fin 8192) (errors : List Nat)
  /-- TR_SWEEP (R494): DRM_TR_CMD OP 3 runs an eye-centre sweep. -/
  | trSweep (p : Port) (c : Fin 24) (rank : Fin 2) (count : Fin 8192) (edges : List (Option (Nat × Nat)))
  /-- TR_APPLY_CENTRES (R499): DRM_TR_CMD OP 4 applies the centres of the last sweep. -/
  | trApplyCentres (p : Port) (c : Fin 24)
  /-- TR_SAVE (R499): DRM_CH_CTRL.SAVE writes last-good records to the cask. -/
  | trSave (p : Port) (c : Fin 24) (v : W32)
  /-- XLATE (R479): A write to DRM_XLATE_HI translates a system address. -/
  | xlate (p : Port) (v : W32)
  /-- CLK_STOP_DETECT (R509): A monitored source gives no edge for the stop time and is declared failed. -/
  | clkStopDetect (m : Fin 48)
  /-- CLK_WINDOW_END (R509): A monitor window ends and the edge count is judged against tolerance. -/
  | clkWindowEnd (m : Fin 48) (hz : Nat) (dev : Int) (unlock : Bool)
  /-- PLL_LOCKED (R506): A PLL locks and its clock root switches to it. -/
  | pllLocked (p : Fin 7)
  /-- MUX_SWITCH (R512): A glitch-free mux starts its new clock. -/
  | muxSwitch (k : Fin 48)
  /-- MUX_FORCED_SWITCH (R512): A silent old clock for 320 ns forces the switch and raises event 0x0102. -/
  | muxForcedSwitch (k : Fin 48)
  /-- TRIM_MEASURE (R507): A trim measurement moves the HOSC trim, or holds it if the source is invalid. -/
  | trimMeasure (meas : Option Int)
  /-- GATE_PORT_IDLE (R515): The block's fabric port drains and the clock stops. -/
  | gatePortIdle (n : Fin 148)
  /-- GATE_DRAIN_TIMEOUT (R515): After 1 µs outstanding requests complete with errors and the clock stops. -/
  | gateDrainTimeout (n : Fin 148) (outstanding : Nat)
  /-- DOMAIN_POWER_ON (R517): A power domain completes its power-on sequence with event 0x0202. -/
  | domainPowerOn (d : Fin 24)
  /-- DOMAIN_POWER_OFF (R517): A power domain completes its power-off sequence with event 0x0202. -/
  | domainPowerOff (d : Fin 24) (outstanding : List (Nat × Nat))
  /-- WAKE_PIN (R520): WAKE_N low wakes the device from SLEEP or DEEP. -/
  | wakePin
  /-- MODE_TRANSITION_DONE (R520): A power-mode transition completes and event 0x0201 is raised. -/
  | modeTransitionDone
  /-- AVS_TRANSACTION_DONE (R523): An AVSBus transaction completes, is retried, or sets FAULT. -/
  | avsTransactionDone (ack : Bool)
  /-- KILN_ROUND (R527): Every 2 ms all sensors and monitors are read and thermal actions applied. -/
  | kilnRound (temps : List Int) (mons : List Nat) (mults : List (Nat × Nat × Nat))
  /-- HOT_CRIT_DETECT (R534): A sensor comparator at HOT_CRIT forces safe states and releases the lease. -/
  | hotCritDetect (i : Fin 64)
  /-- SENSOR_REJOIN_CMD (R529): THM_SENS.REJOIN re-admits a broken sensor after 3 agreeing rounds. -/
  | sensorRejoinCmd (p : Port) (i : Fin 64) (v : W32)
  /-- COLD_RESET (R538): PORST_N low resets everything but fuses and cask. -/
  | coldReset
  /-- WARM_RESET_PIN (R538): WRST_N low performs a warm reset. -/
  | warmResetPin
  /-- WARM_RESET_CMD (R538): CFG_CTRL.WARM_RESET under MAINTAIN performs a warm reset. -/
  | warmResetCmd (p : Port)
  /-- BROWNOUT (R606): A supervised rail below threshold forces safe states and holds cold reset. -/
  | brownout
  /-- BOOT_CASK_OPENED (R539): Fuses are read, the cask opened and boot counter and epoch incremented. -/
  | bootCaskOpened (bad : Bool)
  /-- IMAGE_READ_DONE (R542): The Swevo image is read and verified and BOOT_REGS applied. -/
  | imageReadDone (a : Option Machine.Img) (b : Option Machine.Img)
  /-- ROLE_LISTEN_END (R547): The listen period for an ACTIVE peer ends and the role is settled or a claim made. -/
  | roleListenEnd
  /-- STAGE_WRITE (R550): A write to an ST register is held in the steep bank. -/
  | stageWrite (p : Port) (a : Nat) (v : W32)
  /-- GRAVITY_CHECK (R552): CFG_CTRL.CHECK starts the gravity check of the projected configuration. -/
  | gravityCheck (p : Port)
  /-- GRAVITY_CHECK_DONE (R552): The gravity check completes with a result and event 0x0402. -/
  | gravityCheckDone
  /-- STAGE_DISCARD (R551): CFG_CTRL.DISCARD empties the steep bank. -/
  | stageDiscard (p : Port)
  /-- PITCH_COMMAND (R554): CFG_PITCH.GO moves the checked bank to the pending queue with its instant. -/
  | pitchCommand (p : Port) (v : W32)
  /-- PITCH_INSTANT (R556): A pending pitch reaches its instant and placement is rerun. -/
  | pitchInstant
  /-- PITCH_BOUNDARY_APPLY (R555): A subsystem applies its part of a pitch at its first boundary at or after the instant. -/
  | pitchBoundaryApply (part : Fin 76) (gone : Bool)
  /-- REGISTER_WRITE (R561): A write to a register without its own row updates the mirror and takes effect inside. -/
  | registerWrite (p : Port) (a : Nat) (v : W32)
  /-- RC_READ (R563): A read of an RC field returns it and clears it by subtraction. -/
  | rcRead (p : Port) (a : Nat)
  /-- SNAP_FREEZE (R564): SYS_SNAP.FREEZE written 1 freezes the status mirror. -/
  | snapFreeze (p : Port)
  /-- SNAP_RELEASE (R564): SYS_SNAP.FREEZE written 0 ends the freeze. -/
  | snapRelease (p : Port)
  /-- SNAP_EXPIRE (R564): A freeze ends after 10 µs and EXPIRED is set. -/
  | snapExpire
  /-- MGMT_READ (R570): A management READ returns words taken at one cycle. -/
  | mgmtRead (q : Machine.Req) (a : Nat) (n : Nat)
  /-- MGMT_WRITE (R570): A management WRITE writes or stages consecutive registers. -/
  | mgmtWrite (q : Machine.Req) (a : Nat) (ws : List W32)
  /-- MGMT_STAGE_RECORD (R570): A management STAGE_RECORD stages a record. -/
  | mgmtStageRecord (q : Machine.Req) (typ : Nat) (i : Nat) (ws : List W32)
  /-- MGMT_CHECK (R570): A management CHECK runs the gravity check and replies on completion. -/
  | mgmtCheck (q : Machine.Req)
  /-- MGMT_PITCH (R570): A management PITCH pitches the staged change. -/
  | mgmtPitch (q : Machine.Req) (ident : Nat) (when' : Fin 4) (ch : Fin 16) (sec : Nat) (ns : Nat)
  /-- MGMT_DISCARD (R570): A management DISCARD empties the steep bank. -/
  | mgmtDiscard (q : Machine.Req)
  /-- MGMT_STATUS (R570): A management STATUS returns device or group status. -/
  | mgmtStatus (q : Machine.Req)
  /-- MGMT_SUBSCRIBE (R577): A management SUBSCRIBE enrols or renews an event subscriber. -/
  | mgmtSubscribe (q : Machine.Req) (enable : Bool) (mask : Nat)
  /-- MGMT_LOG (R570): A management LOG returns fault log records. -/
  | mgmtLog (q : Machine.Req) (first : Nat) (n : Nat)
  /-- MGMT_WINDOW (R570): A management WINDOW runs a whole window sequence. -/
  | mgmtWindow (q : Machine.Req) (w : Machine.MgWin) (v : W32) (addr : W32) (data : List W32) (bad : Bool)
  /-- MGMT_FLASH (R570): A management FLASH erases, writes or verifies the slot not booted. -/
  | mgmtFlash (q : Machine.Req) (op : Fin 3) (ofs : Nat) (bytes : List Byte)
  /-- MGMT_SAFE (R570): A management SAFE enters SAFE mode. -/
  | mgmtSafe (q : Machine.Req)
  /-- MGMT_WARM_RESET (R570): A management WARM_RESET replies and then resets. -/
  | mgmtWarmReset (q : Machine.Req)
  /-- SUBSCRIPTION_LAPSE (R577): A subscription lapses 10 s after its last SUBSCRIBE. -/
  | subscriptionLapse (i : Fin 8)
  /-- EVENT_STREAM_SEND (R577): A stream datagram is sent when full or 1 ms after its first record. -/
  | eventStreamSend (i : Fin 8)
  /-- CASK_FETCH (R567): SYS_CASK_CMD OP 1 fetches 64 cask words. -/
  | caskFetch (p : Port) (bad : Bool)
  /-- CASK_WRITE (R567): SYS_CASK_CMD OP 2 writes 64 words to the cask, refusing lowering of identity values. -/
  | caskWrite (p : Port)
  /-- EVQ_RD_WRITE (R590): A write to EVQ_RD consumes records or is refused. -/
  | evqRdWrite (p : Port) (v : W32)
  /-- EXTEST (R617): JTAG EXTEST drives boundary cells, only in BOOT or SAFE. -/
  | extest (cells : Nat)
  /-- IDCODE (R616): JTAG IDCODE selects the 32-bit identification register. -/
  | idcode
  /-- SAMPLE_PRELOAD (R616): JTAG SAMPLE/PRELOAD captures and loads the boundary register. -/
  | samplePreload (balls : Nat) (cells : Nat)
  /-- CLAMP (R617): JTAG CLAMP holds outputs and selects bypass. -/
  | clamp
  /-- HIGHZ (R617): JTAG HIGHZ floats outputs and selects bypass. -/
  | highz
  /-- EXTEST_PULSE (R617): IEEE 1149.6 EXTEST_PULSE on AC cells. -/
  | extestPulse (cells : Nat)
  /-- EXTEST_TRAIN (R617): IEEE 1149.6 EXTEST_TRAIN on AC cells. -/
  | extestTrain (cells : Nat)
  /-- BYPASS (R616): JTAG BYPASS, also taken for unknown or refused opcodes. -/
  | bypass
  /-- REG_ACCESS (R618): At Update-DR a register access is issued with MAINTAIN authority. -/
  | regAccess (we : Bool) (word : Fin 1048576) (data : W32)
  /-- TEST_EN_FALL (R616): TEST_EN low resets the TAP and releases boundary cells. -/
  | testEnFall
  /-- TST_LANE_GEN_WRITE (R619): A write to TST_LANE_GEN enables or disables a lane pattern generator. -/
  | tstLaneGenWrite (p : Port) (l : Fin 64) (v : W32)
  /-- TST_LANE_CHK_WRITE (R619): A write to TST_LANE_CHK enables or disables a lane checker. -/
  | tstLaneChkWrite (p : Port) (l : Fin 64) (v : W32)
  /-- TST_LANE_LOOP_WRITE (R621): A write to TST_LANE_LOOP sets near-end or far-end loopback. -/
  | tstLaneLoopWrite (p : Port) (l : Fin 64) (v : W32)
  /-- TST_ERROR_INJECT (R619): TST_LANE_GEN.INJECT inserts one bit error. -/
  | tstErrorInject (p : Port) (l : Fin 64)
  /-- TST_CHK_CLEAR (R620): TST_LANE_CHK.CLEAR clears the bit, error and lock counters. -/
  | tstChkClear (p : Port) (l : Fin 64)
  /-- CHECKER_SYNC (R620): A checker reaches sync after 256 correct bits. -/
  | checkerSync (l : Fin 64)
  /-- CHECKER_SYNC_LOSS (R620): Too many errors lose checker sync, counted with event 0x2001. -/
  | checkerSyncLoss (l : Fin 64) (errs : Nat)
  /-- YZ_TEST_SEND (R622): A port sends a VC 7 test message every INTERVAL µs. -/
  | yzTestSend (p : Fin 16)
  /-- YZ_TEST_MSG_RX (R622): A returned test message is compared and counted. -/
  | yzTestMsgRx (p : Fin 16) (ok : Bool)
  /-- TST_BIST_CMD (R624): TST_BIST_CMD runs memory BIST on a fenced block. -/
  | tstBistCmd (p : Port) (kind : Fin 8) (inst : Fin 128)
  /-- TST_GV_CMD (R624): TST_GV_CMD runs the full golden-vector set on a fenced block. -/
  | tstGvCmd (p : Port) (kind : Fin 8) (inst : Fin 128)
  /-- TST_TEST_DONE (R624): A BIST or golden-vector command completes with its result. -/
  | tstTestDone (gv : Bool) (fail : Option Nat) (repaired : Nat)
  /-- CHK_DEC_TEST_DONE (R154): The golden-vector test started by DEC_CHK_CTRL.UNFENCE ends, unfencing the check decoder on a pass. -/
  | chkDecTestDone (d : Fin 8) (pass : Bool)
  /-- CMP_PIPE_TEST_DONE (R192): The golden-vector test started by CMP_PIPE_CTRL.UNFENCE ends, clearing FENCED and raising event 0x1602 on a pass. -/
  | cmpPipeTestDone (p : Fin 16) (pass : Bool)
  /-- KETTLE_UNIT_TEST_DONE (R271): The golden-vector test of an UNFENCE command ends, and on a pass the unit is unfenced, reloaded and event 0x1C02 raised. -/
  | kettleUnitTestDone (c : Fin 96) (pass : Bool)
  /-- BUNDLE_LANE_LOSS (R403): A lane of a Yudizor bundle loses clock and data recovery or alignment, and the bundle retrains at its current rate. -/
  | bundleLaneLoss (l : Fin 64) (cdr : Bool)
  /-- RESET_PIN_RELEASE (R539): PORST_N (or WRST_N) goes high with the supplies valid, ending start-up step 1 and starting the start-up sequence. -/
  | resetPinRelease (railsOk : Bool)
  /-- TEST_EN_RISE (R616): TEST_EN goes high, letting the TAP respond and giving JTAG its MAINTAIN authority. -/
  | testEnRise
  /-- TIO_PULSE_END (R366): A timing-pin output pulse started by its trigger ends after TB_TIO_CFG.WIDTH_US and the pin returns to its inactive level. -/
  | tioPulseEnd (i : Fin 8)
  /-- MGMT_CRC_FAIL (R571): A command datagram whose CRC fails is discarded without a reply and counted in SYS_MGMT_CNT_CRC. -/
  | mgmtCrcFail
  /-- MGMT_ARP_ND_ECHO (R568): A frame on the management MAC carrying ARP, IPv6 neighbour discovery or ICMP echo is answered by firmware. -/
  | mgmtArpNdEcho (sender : Nat)
  /-- LEASE_CLAIM_TIMEOUT (R547): A claim unanswered within LEASE_MS settles the device as STANDBY, and a STANDBY whose peer stays silent claims again every LEASE_MS. -/
  | leaseClaimTimeout
  /-- BOOT_BIST_DONE (R623): Start-up SRAM BIST completes, repairing rows or fencing blocks or stopping start-up at step 4. -/
  | bootBistDone (repaired : Nat) (bad : List Machine.MemOwner) (other : Option Nat)
  /-- RESERVED_ENCODING (R309): A kettle core issues a word of reserved class, operation, register or condition code and halts with FAULT = 1. -/
  | reservedEncoding (c : Fin 96)
  deriving DecidableEq, Repr

end Sys2Proof
end

