-- ==== Sys2Proof/Machine/RegTypes.lean ====
section
/-! DEFINITION. The shapes of the register map: a field's place, its access type (R10, R580), and one row per
register definition of the manual with the strides of its instances. -/

namespace Sys2Proof.Machine

/-- The access types of R10 and R580. `ros` is an RO field that the manual says is sticky across warm reset (a fence
flag, a fence cause whose writes are ignored); `fused` is a field whose reset column reads "Fused". -/
inductive Access where
  | rw | ro | wo | w1c | w1s | rc | st | rws | ros | fused
  deriving DecidableEq, Repr

/-- A field of a register: the register's control address, the number of the field's lowest bit and its width. -/
structure FRef where
  addr  : Nat
  lo    : Nat
  width : Nat
  deriving DecidableEq, Repr

/-- One field of a row: lowest bit, width and access type. -/
structure FieldRow where
  lo    : Nat
  width : Nat
  acc   : Access
  deriving DecidableEq, Repr

/-- One register definition: the address of its first occurrence, the (count, stride) pairs of its replications with the
greater stride first, its reset value, and its fields. Bits in no field are reserved: they read 0 and ignore writes (R9). -/
structure RegRow where
  base   : Nat
  dims   : List (Nat × Nat)
  reset  : W32
  fields : List FieldRow
  deriving DecidableEq, Repr

end Sys2Proof.Machine
end

