-- ==== Sys2Proof/Machine/Bits.lean ====
section
/-! DEFINITION. Bit-field, sign and byte-order helpers, and the saturating counts of the manual's counters. -/

namespace Sys2Proof.Machine

/-- Bits [lo + width − 1 : lo] of a word, as a number. -/
def fieldGet (w : W32) (lo width : Nat) : Nat := (w.toNat >>> lo) % 2 ^ width

/-- A word with bits [lo + width − 1 : lo] replaced by the low `width` bits of `v`. -/
def fieldPut (w : W32) (lo width v : Nat) : W32 :=
  let m : W32 := BitVec.ofNat 32 ((2 ^ width - 1) <<< lo)
  (w &&& ~~~m) ||| (BitVec.ofNat 32 ((v % 2 ^ width) <<< lo))

/-- The mask of a field. -/
def fieldMask (lo width : Nat) : W32 := BitVec.ofNat 32 ((2 ^ width - 1) <<< lo)

/-- Bit `i` of a number. -/
def nbit (v i : Nat) : Bool := v.testBit i

/-- A number with bit `i` set. -/
def nset (v i : Nat) : Nat := v ||| 2 ^ i

/-- A number with bit `i` cleared. -/
def nclr (v i : Nat) : Nat := if v.testBit i then v - 2 ^ i else v

/-- How many of the low `n` bits are 1. -/
def popc (v : Nat) : Nat → Nat
  | 0 => 0
  | n + 1 => popc v n + if v.testBit n then 1 else 0

/-- The positions of the 1 bits among the low `n`, rising. -/
def bitsOf (v n : Nat) : List Nat := (List.range n).filter (fun i => v.testBit i)

/-- A signed reading of the low `w` bits. -/
def toSigned (w v : Nat) : Int :=
  let x := v % 2 ^ w
  if x < 2 ^ (w - 1) then (x : Int) else (x : Int) - (2 ^ w : Nat)

/-- The low `w` bits of an integer, in two's complement. -/
def ofSigned (w : Nat) (v : Int) : Nat := (v % ((2 ^ w : Nat) : Int)).toNat

/-- A count that saturates at the greatest 32-bit value. -/
def satAdd32 (a n : Nat) : Nat := min (a + n) 0xFFFFFFFF

/-- Clip an integer to −lim … +lim. -/
def clipSym (lim v : Int) : Int := max (-lim) (min lim v)

/-- Integer division rounding up (0 for a divisor of 0). -/
def ceilDiv (a b : Nat) : Nat := if b = 0 then 0 else (a + b - 1) / b

/-- Little-endian bytes of a number. -/
def leBytes : Nat → Nat → List Byte
  | 0, _ => []
  | n + 1, v => BitVec.ofNat 8 v :: leBytes n (v / 256)

/-- The number that little-endian bytes spell. -/
def ofLeBytes : List Byte → Nat
  | [] => 0
  | b :: bs => b.toNat + 256 * ofLeBytes bs

/-- `Bool` as a number. -/
def b2n (b : Bool) : Nat := if b then 1 else 0

end Sys2Proof.Machine
end

