-- ==== Sys2Proof/Machine/Crc.lean ====
section
/-! DEFINITION. The check-value algorithms of R466 to R469 over bytes: CRCs of 8 to 32 bits and the Internet checksum. -/

namespace Sys2Proof.Machine

/-- The parameters of an algorithm: width, polynomial, initial value, reflected input and output, final XOR. -/
structure CrcAlg where
  width  : Nat
  poly   : Nat
  init   : Nat
  refin  : Bool
  refout : Bool
  xorout : Nat
  deriving DecidableEq, Repr

/-- The low `w` bits of a number in reverse order. -/
def reflect : Nat → Nat → Nat
  | 0, _ => 0
  | w + 1, v => (v % 2) * 2 ^ w + reflect w (v / 2)

/-- Shift a reflected register by `n` bits. -/
def crcShiftR (rpoly : Nat) : Nat → Nat → Nat
  | 0, v => v
  | n + 1, v => crcShiftR rpoly n (if v % 2 = 1 then (v / 2) ^^^ rpoly else v / 2)

/-- Shift a register in normal form by `n` bits. -/
def crcShiftL (w poly : Nat) : Nat → Nat → Nat
  | 0, v => v
  | n + 1, v => crcShiftL w poly n (if v.testBit (w - 1) then (v * 2 % 2 ^ w) ^^^ poly else v * 2 % 2 ^ w)

/-- Fold one byte into the running value of R469. -/
def CrcAlg.byte (a : CrcAlg) (v b : Nat) : Nat :=
  if a.refin then crcShiftR (reflect a.width a.poly) 8 (v ^^^ (b % 256))
  else crcShiftL a.width a.poly 8 (v ^^^ (b % 256 * 2 ^ (a.width - 8)))

/-- The running value that START loads. -/
def CrcAlg.start (a : CrcAlg) : Nat := if a.refin then reflect a.width a.init else a.init

/-- RESULT from the running value (R469): to normal form, to output form, final XOR. -/
def CrcAlg.result (a : CrcAlg) (v : Nat) : Nat :=
  let n := if a.refin then reflect a.width v else v
  (if a.refout then reflect a.width n else n) ^^^ a.xorout

/-- CRC-32C (R466). -/
def crc32cAlg : CrcAlg := ⟨32, 0x1EDC6F41, 0xFFFFFFFF, true, true, 0xFFFFFFFF⟩

/-- The CRC-32C of bytes. -/
def crc32c (bs : List Byte) : W32 :=
  BitVec.ofNat 32 (crc32cAlg.result (bs.foldl (fun v b => crc32cAlg.byte v b.toNat) crc32cAlg.start))

/-- The algorithm that CFG, POLY, INIT and XOROUT select; none for the Internet checksum (R466). -/
def crcAlgOf (cfg poly init xorout : W32) : Option CrcAlg :=
  match fieldGet cfg 0 3 with
  | 0 => some crc32cAlg
  | 1 => some ⟨32, 0x04C11DB7, 0xFFFFFFFF, true, true, 0xFFFFFFFF⟩
  | 2 => some ⟨16, 0x1021, 0xFFFF, false, false, 0⟩
  | 3 => some ⟨8, 0x07, 0, false, false, 0⟩
  | 5 => none
  | _ =>
    let w := 8 * (fieldGet cfg 4 2 + 1)
    some ⟨w, poly.toNat % 2 ^ w, init.toNat % 2 ^ w, fieldGet cfg 6 1 == 1, fieldGet cfg 7 1 == 1, xorout.toNat % 2 ^ w⟩

/-- One byte into the Internet checksum's running value: sum, waiting byte, PEND (R467, R469). -/
def sumByte (v b : Nat) : Nat :=
  if v.testBit 24 then
    let s := v % 65536 + (v / 65536 % 256) * 256 + b % 256
    (s % 65536 + s / 65536)
  else v % 65536 + (b % 256) * 65536 + 2 ^ 24

/-- RESULT of the Internet checksum: an unpaired byte is padded with a zero byte. -/
def sumResult (v : Nat) : Nat :=
  let s := if v.testBit 24 then v % 65536 + (v / 65536 % 256) * 256 else v % 65536
  0xFFFF - (s % 65536 + s / 65536)

/-- Feed bytes under a configuration. -/
def chkFeed (cfg poly init xorout : W32) (v : Nat) (bs : List Nat) : Nat :=
  match crcAlgOf cfg poly init xorout with
  | some a => bs.foldl a.byte v
  | none => bs.foldl sumByte v

/-- The initial running value and the finished value under a configuration. -/
def chkStart (cfg poly init xorout : W32) : Nat :=
  match crcAlgOf cfg poly init xorout with
  | some a => a.start
  | none => 0
def chkResult (cfg poly init xorout : W32) (v : Nat) : Nat :=
  match crcAlgOf cfg poly init xorout with
  | some a => a.result (v % 2 ^ a.width)
  | none => sumResult v

/-- The bytes of "123456789". -/
def chkString : List Nat := [0x31, 0x32, 0x33, 0x34, 0x35, 0x36, 0x37, 0x38, 0x39]

end Sys2Proof.Machine
end

