-- ==== Sys2Proof/Machine/RegNames.lean ====
section
/-! DEFINITION. The names of the register map: the control address of every register as a function of its instance
numbers, and the place of every field, under the manual's own names (register tables of chapters 0 to 28). -/

namespace Sys2Proof.Machine

def SYS_ID : Nat := 0x0
def SYS_ID_ID : FRef := ⟨SYS_ID, 0, 32⟩
def SYS_REV : Nat := 0x4
def SYS_REV_STEP_MAJOR : FRef := ⟨SYS_REV, 4, 4⟩
def SYS_REV_STEP_MINOR : FRef := ⟨SYS_REV, 0, 4⟩
def ENC_CH_CTRL (n : Nat) : Nat := 0x100000 + n * 0x400
def ENC_CH_CTRL_MARGIN (n : Nat) : FRef := ⟨ENC_CH_CTRL n, 8, 6⟩
def ENC_CH_CTRL_LOOKAHEAD (n : Nat) : FRef := ⟨ENC_CH_CTRL n, 5, 3⟩
def ENC_CH_CTRL_RUNGS (n : Nat) : FRef := ⟨ENC_CH_CTRL n, 3, 2⟩
def ENC_CH_CTRL_MODE (n : Nat) : FRef := ⟨ENC_CH_CTRL n, 1, 2⟩
def ENC_CH_CTRL_EN (n : Nat) : FRef := ⟨ENC_CH_CTRL n, 0, 1⟩
def ENC_CH_DELAY (n : Nat) : Nat := 0x100004 + n * 0x400
def ENC_CH_DELAY_D_NS (n : Nat) : FRef := ⟨ENC_CH_DELAY n, 0, 32⟩
def ENC_CH_FMT (n : Nat) : Nat := 0x100008 + n * 0x400
def ENC_CH_FMT_RATE (n : Nat) : FRef := ⟨ENC_CH_FMT n, 8, 4⟩
def ENC_CH_FMT_XFER (n : Nat) : FRef := ⟨ENC_CH_FMT n, 6, 2⟩
def ENC_CH_FMT_COLOUR (n : Nat) : FRef := ⟨ENC_CH_FMT n, 4, 2⟩
def ENC_CH_FMT_DEPTH (n : Nat) : FRef := ⟨ENC_CH_FMT n, 2, 2⟩
def ENC_CH_FMT_CHROMA (n : Nat) : FRef := ⟨ENC_CH_FMT n, 0, 2⟩
def ENC_CH_SIZE (n : Nat) : Nat := 0x10000C + n * 0x400
def ENC_CH_SIZE_HEIGHT (n : Nat) : FRef := ⟨ENC_CH_SIZE n, 16, 16⟩
def ENC_CH_SIZE_WIDTH (n : Nat) : FRef := ⟨ENC_CH_SIZE n, 0, 16⟩
def ENC_CH_IN_PATH (n : Nat) : Nat := 0x100010 + n * 0x400
def ENC_CH_IN_PATH_SKEW_US (n : Nat) : FRef := ⟨ENC_CH_IN_PATH n, 16, 16⟩
def ENC_CH_IN_PATH_DUAL (n : Nat) : FRef := ⟨ENC_CH_IN_PATH n, 8, 1⟩
def ENC_CH_IN_PATH_MAC_B (n : Nat) : FRef := ⟨ENC_CH_IN_PATH n, 4, 4⟩
def ENC_CH_IN_PATH_MAC_A (n : Nat) : FRef := ⟨ENC_CH_IN_PATH n, 0, 4⟩
def ENC_CH_RTP_OFS (n : Nat) : Nat := 0x100014 + n * 0x400
def ENC_CH_RTP_OFS_OFS (n : Nat) : FRef := ⟨ENC_CH_RTP_OFS n, 0, 32⟩
def ENC_CH_HINT (n : Nat) : Nat := 0x100020 + n * 0x400
def ENC_CH_HINT_SLOT (n : Nat) : FRef := ⟨ENC_CH_HINT n, 0, 32⟩
def ENC_CH_OUT_PKG (n : Nat) (k : Nat) : Nat := 0x100040 + n * 0x400 + k * 0x10
def ENC_CH_OUT_PKG_TS_PER_PKT (n : Nat) (k : Nat) : FRef := ⟨ENC_CH_OUT_PKG n k, 20, 3⟩
def ENC_CH_OUT_PKG_PACE_MBPS (n : Nat) (k : Nat) : FRef := ⟨ENC_CH_OUT_PKG n k, 4, 16⟩
def ENC_CH_OUT_PKG_DUAL (n : Nat) (k : Nat) : FRef := ⟨ENC_CH_OUT_PKG n k, 3, 1⟩
def ENC_CH_OUT_PKG_PKG (n : Nat) (k : Nat) : FRef := ⟨ENC_CH_OUT_PKG n k, 1, 2⟩
def ENC_CH_OUT_PKG_EN (n : Nat) (k : Nat) : FRef := ⟨ENC_CH_OUT_PKG n k, 0, 1⟩
def ENC_CH_OUT_FLOW (n : Nat) (k : Nat) : Nat := 0x100044 + n * 0x400 + k * 0x10
def ENC_CH_OUT_FLOW_FLOW (n : Nat) (k : Nat) : FRef := ⟨ENC_CH_OUT_FLOW n k, 0, 32⟩
def ENC_CH_STAT (n : Nat) : Nat := 0x100100 + n * 0x400
def ENC_CH_STAT_LAST_CLASS (n : Nat) : FRef := ⟨ENC_CH_STAT n, 2, 2⟩
def ENC_CH_STAT_OFF_GRID (n : Nat) : FRef := ⟨ENC_CH_STAT n, 1, 1⟩
def ENC_CH_STAT_RUNNING (n : Nat) : FRef := ⟨ENC_CH_STAT n, 0, 1⟩
def ENC_CH_PHASE (n : Nat) : Nat := 0x100104 + n * 0x400
def ENC_CH_PHASE_PHASE_NS (n : Nat) : FRef := ⟨ENC_CH_PHASE n, 0, 32⟩
def ENC_CH_CNT_REPEAT (n : Nat) : Nat := 0x100110 + n * 0x400
def ENC_CH_CNT_REPEAT_COUNT (n : Nat) : FRef := ⟨ENC_CH_CNT_REPEAT n, 0, 32⟩
def ENC_CH_CNT_LATE_ROWS (n : Nat) : Nat := 0x100114 + n * 0x400
def ENC_CH_CNT_LATE_ROWS_COUNT (n : Nat) : FRef := ⟨ENC_CH_CNT_LATE_ROWS n, 0, 32⟩
def ENC_CH_CNT_LATE_PKT (n : Nat) : Nat := 0x100118 + n * 0x400
def ENC_CH_CNT_LATE_PKT_COUNT (n : Nat) : FRef := ⟨ENC_CH_CNT_LATE_PKT n, 0, 32⟩
def ENC_CH_CNT_MERGE (n : Nat) : Nat := 0x10011C + n * 0x400
def ENC_CH_CNT_MERGE_COUNT (n : Nat) : FRef := ⟨ENC_CH_CNT_MERGE n, 0, 32⟩
def ENC_CH_CNT_DUP (n : Nat) : Nat := 0x100120 + n * 0x400
def ENC_CH_CNT_DUP_COUNT (n : Nat) : FRef := ⟨ENC_CH_CNT_DUP n, 0, 32⟩
def ENC_CH_REND_CODEC (n : Nat) (k : Nat) : Nat := 0x100048 + n * 0x400 + k * 0x10
def ENC_CH_REND_CODEC_NPART (n : Nat) (k : Nat) : FRef := ⟨ENC_CH_REND_CODEC n k, 24, 5⟩
def ENC_CH_REND_CODEC_REUSE (n : Nat) (k : Nat) : FRef := ⟨ENC_CH_REND_CODEC n k, 23, 1⟩
def ENC_CH_REND_CODEC_EFFORT (n : Nat) (k : Nat) : FRef := ⟨ENC_CH_REND_CODEC n k, 21, 2⟩
def ENC_CH_REND_CODEC_CHROMA (n : Nat) (k : Nat) : FRef := ⟨ENC_CH_REND_CODEC n k, 19, 2⟩
def ENC_CH_REND_CODEC_DEPTH (n : Nat) (k : Nat) : FRef := ⟨ENC_CH_REND_CODEC n k, 17, 2⟩
def ENC_CH_REND_CODEC_TIER (n : Nat) (k : Nat) : FRef := ⟨ENC_CH_REND_CODEC n k, 16, 1⟩
def ENC_CH_REND_CODEC_LEVEL (n : Nat) (k : Nat) : FRef := ⟨ENC_CH_REND_CODEC n k, 8, 8⟩
def ENC_CH_REND_CODEC_PROFILE (n : Nat) (k : Nat) : FRef := ⟨ENC_CH_REND_CODEC n k, 4, 4⟩
def ENC_CH_REND_CODEC_CODEC (n : Nat) (k : Nat) : FRef := ⟨ENC_CH_REND_CODEC n k, 0, 4⟩
def ENC_CH_REND_SIZE (n : Nat) (k : Nat) : Nat := 0x10004C + n * 0x400 + k * 0x10
def ENC_CH_REND_SIZE_RATE_DIV (n : Nat) (k : Nat) : FRef := ⟨ENC_CH_REND_SIZE n k, 30, 2⟩
def ENC_CH_REND_SIZE_HEIGHT (n : Nat) (k : Nat) : FRef := ⟨ENC_CH_REND_SIZE n k, 16, 14⟩
def ENC_CH_REND_SIZE_WIDTH (n : Nat) (k : Nat) : FRef := ⟨ENC_CH_REND_SIZE n k, 0, 14⟩
def ENC_CH_REND_TUNS_LO (n : Nat) (k : Nat) : Nat := 0x100180 + n * 0x400 + k * 0x10
def ENC_CH_REND_TUNS_LO_TUNS (n : Nat) (k : Nat) : FRef := ⟨ENC_CH_REND_TUNS_LO n k, 0, 32⟩
def ENC_CH_REND_TUNS_HI (n : Nat) (k : Nat) : Nat := 0x100184 + n * 0x400 + k * 0x10
def ENC_CH_REND_TUNS_HI_NPART_USED (n : Nat) (k : Nat) : FRef := ⟨ENC_CH_REND_TUNS_HI n k, 8, 5⟩
def ENC_CH_REND_TUNS_HI_TUNS (n : Nat) (k : Nat) : FRef := ⟨ENC_CH_REND_TUNS_HI n k, 0, 8⟩
def ENC_CH_REND_COST (n : Nat) (k : Nat) : Nat := 0x100188 + n * 0x400 + k * 0x10
def ENC_CH_REND_COST_COST (n : Nat) (k : Nat) : FRef := ⟨ENC_CH_REND_COST n k, 0, 19⟩
def ENC_TUN_CTRL (t : Nat) : Nat := 0x110000 + t * 0x100
def ENC_TUN_CTRL_UNFENCE (t : Nat) : FRef := ⟨ENC_TUN_CTRL t, 1, 1⟩
def ENC_TUN_CTRL_FENCE (t : Nat) : FRef := ⟨ENC_TUN_CTRL t, 0, 1⟩
def ENC_TUN_STAT (t : Nat) : Nat := 0x110004 + t * 0x100
def ENC_TUN_STAT_CAUSE (t : Nat) : FRef := ⟨ENC_TUN_STAT t, 16, 8⟩
def ENC_TUN_STAT_REST (t : Nat) : FRef := ⟨ENC_TUN_STAT t, 13, 3⟩
def ENC_TUN_STAT_RERUN (t : Nat) : FRef := ⟨ENC_TUN_STAT t, 2, 1⟩
def ENC_TUN_STAT_BUSY (t : Nat) : FRef := ⟨ENC_TUN_STAT t, 1, 1⟩
def ENC_TUN_STAT_FENCED (t : Nat) : FRef := ⟨ENC_TUN_STAT t, 0, 1⟩
def ENC_TUN_LOAD (t : Nat) : Nat := 0x110008 + t * 0x100
def ENC_TUN_LOAD_LOAD (t : Nat) : FRef := ⟨ENC_TUN_LOAD t, 0, 14⟩
def ENC_TUN_MAP (t : Nat) : Nat := 0x11000C + t * 0x100
def ENC_TUN_MAP_BRIDGE (t : Nat) : FRef := ⟨ENC_TUN_MAP t, 31, 1⟩
def ENC_TUN_MAP_VALID (t : Nat) : FRef := ⟨ENC_TUN_MAP t, 30, 1⟩
def ENC_TUN_MAP_REND_MASK (t : Nat) : FRef := ⟨ENC_TUN_MAP t, 8, 12⟩
def ENC_TUN_MAP_CHANNEL (t : Nat) : FRef := ⟨ENC_TUN_MAP t, 0, 4⟩
def ENC_TUN_CNT_RERUN (t : Nat) : Nat := 0x110010 + t * 0x100
def ENC_TUN_CNT_RERUN_COUNT (t : Nat) : FRef := ⟨ENC_TUN_CNT_RERUN t, 0, 32⟩
def ENC_POOL_STAT : Nat := 0x118000
def ENC_POOL_STAT_FREE_GRIST : FRef := ⟨ENC_POOL_STAT, 16, 16⟩
def ENC_POOL_STAT_SPARE : FRef := ⟨ENC_POOL_STAT, 8, 6⟩
def ENC_POOL_STAT_FENCED : FRef := ⟨ENC_POOL_STAT, 0, 6⟩
def ENC_CH_MILL (n : Nat) : Nat := 0x100300 + n * 0x400
def ENC_CH_MILL_CUT_RATIO (n : Nat) : FRef := ⟨ENC_CH_MILL n, 8, 6⟩
def ENC_CH_MILL_CUT_RAP (n : Nat) : FRef := ⟨ENC_CH_MILL n, 1, 1⟩
def ENC_CH_MILL_GMV_EN (n : Nat) : FRef := ⟨ENC_CH_MILL n, 0, 1⟩
def ENC_CH_MILL_GMV (n : Nat) : Nat := 0x100308 + n * 0x400
def ENC_CH_MILL_GMV_GMV_Y (n : Nat) : FRef := ⟨ENC_CH_MILL_GMV n, 16, 16⟩
def ENC_CH_MILL_GMV_GMV_X (n : Nat) : FRef := ⟨ENC_CH_MILL_GMV n, 0, 16⟩
def ENC_CH_CNT_CUT (n : Nat) : Nat := 0x10030C + n * 0x400
def ENC_CH_CNT_CUT_COUNT (n : Nat) : FRef := ⟨ENC_CH_CNT_CUT n, 0, 32⟩
def ENC_CH_MILL_REC_LO (n : Nat) : Nat := 0x100310 + n * 0x400
def ENC_CH_MILL_REC_LO_ADDR (n : Nat) : FRef := ⟨ENC_CH_MILL_REC_LO n, 0, 32⟩
def ENC_CH_MILL_REC_HI (n : Nat) : Nat := 0x100314 + n * 0x400
def ENC_CH_MILL_REC_HI_ADDR (n : Nat) : FRef := ⟨ENC_CH_MILL_REC_HI n, 0, 32⟩
def ENC_TUN_WIN_STAT (t : Nat) : Nat := 0x110020 + t * 0x100
def ENC_TUN_WIN_STAT_STRIPS (t : Nat) : FRef := ⟨ENC_TUN_WIN_STAT t, 8, 6⟩
def ENC_TUN_WIN_STAT_PREFILL (t : Nat) : FRef := ⟨ENC_TUN_WIN_STAT t, 1, 1⟩
def ENC_TUN_WIN_STAT_SHARING (t : Nat) : FRef := ⟨ENC_TUN_WIN_STAT t, 0, 1⟩
def ENC_TUN_CNT_WINCORR (t : Nat) : Nat := 0x110024 + t * 0x100
def ENC_TUN_CNT_WINCORR_COUNT (t : Nat) : FRef := ⟨ENC_TUN_CNT_WINCORR t, 0, 32⟩
def ENC_TUN_CNT_PREFILL (t : Nat) : Nat := 0x110028 + t * 0x100
def ENC_TUN_CNT_PREFILL_COUNT (t : Nat) : FRef := ⟨ENC_TUN_CNT_PREFILL t, 0, 32⟩
def ENC_MILL_STAT (m : Nat) : Nat := 0x120000 + m * 0x100
def ENC_MILL_STAT_LOAD (m : Nat) : FRef := ⟨ENC_MILL_STAT m, 16, 16⟩
def ENC_MILL_STAT_BUSY (m : Nat) : FRef := ⟨ENC_MILL_STAT m, 0, 1⟩
def ENC_CH_RC_MODE (n : Nat) (k : Nat) : Nat := 0x100240 + n * 0x400 + k * 0x10
def ENC_CH_RC_MODE_QP_MAX (n : Nat) (k : Nat) : FRef := ⟨ENC_CH_RC_MODE n k, 24, 6⟩
def ENC_CH_RC_MODE_QP_MIN (n : Nat) (k : Nat) : FRef := ⟨ENC_CH_RC_MODE n k, 18, 6⟩
def ENC_CH_RC_MODE_QP (n : Nat) (k : Nat) : FRef := ⟨ENC_CH_RC_MODE n k, 12, 6⟩
def ENC_CH_RC_MODE_SMX_EN (n : Nat) (k : Nat) : FRef := ⟨ENC_CH_RC_MODE n k, 8, 1⟩
def ENC_CH_RC_MODE_SMX_POOL (n : Nat) (k : Nat) : FRef := ⟨ENC_CH_RC_MODE n k, 5, 3⟩
def ENC_CH_RC_MODE_MODE (n : Nat) (k : Nat) : FRef := ⟨ENC_CH_RC_MODE n k, 0, 2⟩
def ENC_CH_RC_RATE (n : Nat) (k : Nat) : Nat := 0x100244 + n * 0x400 + k * 0x10
def ENC_CH_RC_RATE_MAX (n : Nat) (k : Nat) : FRef := ⟨ENC_CH_RC_RATE n k, 16, 16⟩
def ENC_CH_RC_RATE_TARGET (n : Nat) (k : Nat) : FRef := ⟨ENC_CH_RC_RATE n k, 0, 16⟩
def ENC_CH_RC_BUF (n : Nat) (k : Nat) : Nat := 0x100248 + n * 0x400 + k * 0x10
def ENC_CH_RC_BUF_INIT (n : Nat) (k : Nat) : FRef := ⟨ENC_CH_RC_BUF n k, 20, 12⟩
def ENC_CH_RC_BUF_SIZE (n : Nat) (k : Nat) : FRef := ⟨ENC_CH_RC_BUF n k, 0, 20⟩
def ENC_CH_RC_SEED (n : Nat) (k : Nat) : Nat := 0x10024C + n * 0x400 + k * 0x10
def ENC_CH_RC_SEED_INTRA (n : Nat) (k : Nat) : FRef := ⟨ENC_CH_RC_SEED n k, 16, 16⟩
def ENC_CH_RC_SEED_INTER (n : Nat) (k : Nat) : FRef := ⟨ENC_CH_RC_SEED n k, 0, 16⟩
def ENC_RC_STAT (n : Nat) (k : Nat) : Nat := 0x130000 + n * 0x400 + k * 0x20
def ENC_RC_STAT_START_OFS (n : Nat) (k : Nat) : FRef := ⟨ENC_RC_STAT n k, 24, 2⟩
def ENC_RC_STAT_QP_AVG (n : Nat) (k : Nat) : FRef := ⟨ENC_RC_STAT n k, 16, 6⟩
def ENC_RC_STAT_FLOOR_UNIT (n : Nat) (k : Nat) : FRef := ⟨ENC_RC_STAT n k, 5, 11⟩
def ENC_RC_STAT_HISTORY (n : Nat) (k : Nat) : FRef := ⟨ENC_RC_STAT n k, 2, 1⟩
def ENC_RC_STAT_REPEAT (n : Nat) (k : Nat) : FRef := ⟨ENC_RC_STAT n k, 1, 1⟩
def ENC_RC_STAT_FLOORED (n : Nat) (k : Nat) : FRef := ⟨ENC_RC_STAT n k, 0, 1⟩
def ENC_RC_BUDGET (n : Nat) (k : Nat) : Nat := 0x130004 + n * 0x400 + k * 0x20
def ENC_RC_BUDGET_BITS (n : Nat) (k : Nat) : FRef := ⟨ENC_RC_BUDGET n k, 0, 32⟩
def ENC_RC_LAST_BITS (n : Nat) (k : Nat) : Nat := 0x130008 + n * 0x400 + k * 0x20
def ENC_RC_LAST_BITS_BITS (n : Nat) (k : Nat) : FRef := ⟨ENC_RC_LAST_BITS n k, 0, 32⟩
def ENC_RC_FULLNESS (n : Nat) (k : Nat) : Nat := 0x13000C + n * 0x400 + k * 0x20
def ENC_RC_FULLNESS_BITS (n : Nat) (k : Nat) : FRef := ⟨ENC_RC_FULLNESS n k, 0, 32⟩
def ENC_RC_CNT_FLOOR (n : Nat) (k : Nat) : Nat := 0x130010 + n * 0x400 + k * 0x20
def ENC_RC_CNT_FLOOR_COUNT (n : Nat) (k : Nat) : FRef := ⟨ENC_RC_CNT_FLOOR n k, 0, 32⟩
def ENC_RC_CNT_FILLER (n : Nat) (k : Nat) : Nat := 0x130014 + n * 0x400 + k * 0x20
def ENC_RC_CNT_FILLER_COUNT (n : Nat) (k : Nat) : FRef := ⟨ENC_RC_CNT_FILLER n k, 0, 32⟩
def ENC_SMX_TOTAL (p : Nat) : Nat := 0x138000 + p * 0x40
def ENC_SMX_TOTAL_TOTAL (p : Nat) : FRef := ⟨ENC_SMX_TOTAL p, 0, 16⟩
def ENC_SMX_MEMBERS (p : Nat) : Nat := 0x138004 + p * 0x40
def ENC_SMX_MEMBERS_CHANNELS (p : Nat) : FRef := ⟨ENC_SMX_MEMBERS p, 0, 16⟩
def DEC_CHK_CTRL (d : Nat) : Nat := 0x150000 + d * 0x100
def DEC_CHK_CTRL_UNFENCE (d : Nat) : FRef := ⟨DEC_CHK_CTRL d, 1, 1⟩
def DEC_CHK_CTRL_FENCE (d : Nat) : FRef := ⟨DEC_CHK_CTRL d, 0, 1⟩
def DEC_CHK_STAT (d : Nat) : Nat := 0x150004 + d * 0x100
def DEC_CHK_STAT_CAUSE (d : Nat) : FRef := ⟨DEC_CHK_STAT d, 8, 8⟩
def DEC_CHK_STAT_BUSY (d : Nat) : FRef := ⟨DEC_CHK_STAT d, 1, 1⟩
def DEC_CHK_STAT_FENCED (d : Nat) : FRef := ⟨DEC_CHK_STAT d, 0, 1⟩
def DEC_CHK_LOAD (d : Nat) : Nat := 0x150008 + d * 0x100
def DEC_CHK_LOAD_LOAD (d : Nat) : FRef := ⟨DEC_CHK_LOAD d, 0, 16⟩
def DEC_CHK_LAST (d : Nat) : Nat := 0x15000C + d * 0x100
def DEC_CHK_LAST_UNIT (d : Nat) : FRef := ⟨DEC_CHK_LAST d, 21, 11⟩
def DEC_CHK_LAST_VALID (d : Nat) : FRef := ⟨DEC_CHK_LAST d, 20, 1⟩
def DEC_CHK_LAST_BRIDGE (d : Nat) : FRef := ⟨DEC_CHK_LAST d, 19, 1⟩
def DEC_CHK_LAST_TUN (d : Nat) : FRef := ⟨DEC_CHK_LAST d, 13, 6⟩
def DEC_CHK_LAST_REND (d : Nat) : FRef := ⟨DEC_CHK_LAST d, 8, 4⟩
def DEC_CHK_LAST_CHANNEL (d : Nat) : FRef := ⟨DEC_CHK_LAST d, 0, 4⟩
def DEC_CHK_POOL : Nat := 0x158000
def DEC_CHK_POOL_FREE_GRIST : FRef := ⟨DEC_CHK_POOL, 16, 16⟩
def DEC_CHK_POOL_UNCHECKED : FRef := ⟨DEC_CHK_POOL, 4, 8⟩
def DEC_CHK_POOL_FENCED : FRef := ⟨DEC_CHK_POOL, 0, 4⟩
def DEC_CHK_POOL_CNT : Nat := 0x158004
def DEC_CHK_POOL_CNT_CNT_SUSPECT : FRef := ⟨DEC_CHK_POOL_CNT, 16, 16⟩
def DEC_CHK_POOL_CNT_CNT_RERUN : FRef := ⟨DEC_CHK_POOL_CNT, 0, 16⟩
def DEC_CORE_CTRL (d : Nat) : Nat := 0x140000 + d * 0x100
def DEC_CORE_CTRL_UNFENCE (d : Nat) : FRef := ⟨DEC_CORE_CTRL d, 1, 1⟩
def DEC_CORE_CTRL_FENCE (d : Nat) : FRef := ⟨DEC_CORE_CTRL d, 0, 1⟩
def DEC_CORE_STAT (d : Nat) : Nat := 0x140004 + d * 0x100
def DEC_CORE_STAT_CAUSE (d : Nat) : FRef := ⟨DEC_CORE_STAT d, 16, 8⟩
def DEC_CORE_STAT_REST (d : Nat) : FRef := ⟨DEC_CORE_STAT d, 13, 3⟩
def DEC_CORE_STAT_TEST (d : Nat) : FRef := ⟨DEC_CORE_STAT d, 2, 1⟩
def DEC_CORE_STAT_BUSY (d : Nat) : FRef := ⟨DEC_CORE_STAT d, 1, 1⟩
def DEC_CORE_STAT_FENCED (d : Nat) : FRef := ⟨DEC_CORE_STAT d, 0, 1⟩
def DEC_CORE_LOAD (d : Nat) : Nat := 0x140008 + d * 0x100
def DEC_CORE_LOAD_CONTEXTS (d : Nat) : FRef := ⟨DEC_CORE_LOAD d, 16, 16⟩
def DEC_CORE_LOAD_LOAD (d : Nat) : FRef := ⟨DEC_CORE_LOAD d, 0, 15⟩
def DEC_CORE_CNT_CUT (d : Nat) : Nat := 0x14000C + d * 0x100
def DEC_CORE_CNT_CUT_COUNT (d : Nat) : FRef := ⟨DEC_CORE_CNT_CUT d, 0, 32⟩
def DEC_POOL_CFG : Nat := 0x148000
def DEC_POOL_CFG_HASH_EN : FRef := ⟨DEC_POOL_CFG, 12, 1⟩
def DEC_POOL_CFG_BUDGET_MULT : FRef := ⟨DEC_POOL_CFG, 8, 4⟩
def DEC_POOL_CFG_REQ_HOLD : FRef := ⟨DEC_POOL_CFG, 0, 8⟩
def DEC_POOL_STAT : Nat := 0x148004
def DEC_POOL_STAT_FREE_GRIST : FRef := ⟨DEC_POOL_STAT, 16, 16⟩
def DEC_POOL_STAT_FENCED : FRef := ⟨DEC_POOL_STAT, 0, 5⟩
def DEC_POOL_CTX : Nat := 0x148008
def DEC_POOL_CTX_WAIT_RAP : FRef := ⟨DEC_POOL_CTX, 16, 14⟩
def DEC_POOL_CTX_ACTIVE : FRef := ⟨DEC_POOL_CTX, 0, 14⟩
def DEC_POOL_CNT_CONCEAL : Nat := 0x14800C
def DEC_POOL_CNT_CONCEAL_COUNT : FRef := ⟨DEC_POOL_CNT_CONCEAL, 0, 32⟩
def DEC_POOL_CNT_DMA : Nat := 0x148010
def DEC_POOL_CNT_DMA_COUNT : FRef := ⟨DEC_POOL_CNT_DMA, 0, 32⟩
def DEC_POOL_CNT_HASH : Nat := 0x148014
def DEC_POOL_CNT_HASH_COUNT : FRef := ⟨DEC_POOL_CNT_HASH, 0, 32⟩
def DEC_POOL_CNT_QDROP : Nat := 0x148018
def DEC_POOL_CNT_QDROP_COUNT : FRef := ⟨DEC_POOL_CNT_QDROP, 0, 32⟩
def CMP_PIPE_CFG (p : Nat) : Nat := 0x160000 + p * 0x100
def CMP_PIPE_CFG_RAP_WAIT (p : Nat) : FRef := ⟨CMP_PIPE_CFG p, 16, 8⟩
def CMP_PIPE_CFG_TRIGGER (p : Nat) : FRef := ⟨CMP_PIPE_CFG p, 8, 8⟩
def CMP_PIPE_CFG_MODE (p : Nat) : FRef := ⟨CMP_PIPE_CFG p, 1, 1⟩
def CMP_PIPE_CFG_EN (p : Nat) : FRef := ⟨CMP_PIPE_CFG p, 0, 1⟩
def CMP_PIPE_LAYOUT_LO (p : Nat) : Nat := 0x160004 + p * 0x100
def CMP_PIPE_LAYOUT_LO_ADDR (p : Nat) : FRef := ⟨CMP_PIPE_LAYOUT_LO p, 0, 32⟩
def CMP_PIPE_LAYOUT_HI (p : Nat) : Nat := 0x160008 + p * 0x100
def CMP_PIPE_LAYOUT_HI_ADDR (p : Nat) : FRef := ⟨CMP_PIPE_LAYOUT_HI p, 0, 32⟩
def CMP_PIPE_OUT_LO (p : Nat) : Nat := 0x16000C + p * 0x100
def CMP_PIPE_OUT_LO_ADDR (p : Nat) : FRef := ⟨CMP_PIPE_OUT_LO p, 0, 32⟩
def CMP_PIPE_OUT_HI (p : Nat) : Nat := 0x160010 + p * 0x100
def CMP_PIPE_OUT_HI_ADDR (p : Nat) : FRef := ⟨CMP_PIPE_OUT_HI p, 0, 32⟩
def CMP_PIPE_CTRL (p : Nat) : Nat := 0x160014 + p * 0x100
def CMP_PIPE_CTRL_UNFENCE (p : Nat) : FRef := ⟨CMP_PIPE_CTRL p, 1, 1⟩
def CMP_PIPE_CTRL_FENCE (p : Nat) : FRef := ⟨CMP_PIPE_CTRL p, 0, 1⟩
def CMP_PIPE_STAT (p : Nat) : Nat := 0x160018 + p * 0x100
def CMP_PIPE_STAT_CAUSE (p : Nat) : FRef := ⟨CMP_PIPE_STAT p, 16, 8⟩
def CMP_PIPE_STAT_REST (p : Nat) : FRef := ⟨CMP_PIPE_STAT p, 13, 3⟩
def CMP_PIPE_STAT_CHANNEL (p : Nat) : FRef := ⟨CMP_PIPE_STAT p, 4, 4⟩
def CMP_PIPE_STAT_LIVE (p : Nat) : FRef := ⟨CMP_PIPE_STAT p, 3, 1⟩
def CMP_PIPE_STAT_BUSY (p : Nat) : FRef := ⟨CMP_PIPE_STAT p, 1, 1⟩
def CMP_PIPE_STAT_FENCED (p : Nat) : FRef := ⟨CMP_PIPE_STAT p, 0, 1⟩
def CMP_PIPE_LOAD (p : Nat) : Nat := 0x16001C + p * 0x100
def CMP_PIPE_LOAD_LOAD (p : Nat) : FRef := ⟨CMP_PIPE_LOAD p, 0, 17⟩
def CMP_PIPE_CNT_SKIP (p : Nat) : Nat := 0x160020 + p * 0x100
def CMP_PIPE_CNT_SKIP_COUNT (p : Nat) : FRef := ⟨CMP_PIPE_CNT_SKIP p, 0, 32⟩
def CMP_PIPE_LIVE (p : Nat) : Nat := 0x160024 + p * 0x100
def CMP_PIPE_LIVE_CHANNELS (p : Nat) : FRef := ⟨CMP_PIPE_LIVE p, 0, 16⟩
def CMP_POOL_STAT : Nat := 0x168000
def CMP_POOL_STAT_FREE_GRIST : FRef := ⟨CMP_POOL_STAT, 16, 16⟩
def CMP_POOL_STAT_FENCED : FRef := ⟨CMP_POOL_STAT, 0, 5⟩
def CMP_FILT_DATA (i : Nat) : Nat := 0x169000 + i * 0x4
def CMP_FILT_DATA_TAP (i : Nat) : FRef := ⟨CMP_FILT_DATA i, 0, 10⟩
def BRG_CFG : Nat := 0x170000
def BRG_CFG_WB_MS : FRef := ⟨BRG_CFG, 8, 8⟩
def BRG_CFG_EN : FRef := ⟨BRG_CFG, 0, 1⟩
def BRG_STORE_LO : Nat := 0x170004
def BRG_STORE_LO_ADDR : FRef := ⟨BRG_STORE_LO, 0, 32⟩
def BRG_STORE_HI : Nat := 0x170008
def BRG_STORE_HI_ADDR : FRef := ⟨BRG_STORE_HI, 0, 32⟩
def BRG_DREC_W_LO : Nat := 0x17000C
def BRG_DREC_W_LO_ADDR : FRef := ⟨BRG_DREC_W_LO, 0, 32⟩
def BRG_DREC_W_HI : Nat := 0x170010
def BRG_DREC_W_HI_ADDR : FRef := ⟨BRG_DREC_W_HI, 0, 32⟩
def BRG_DREC_E_LO : Nat := 0x170014
def BRG_DREC_E_LO_ADDR : FRef := ⟨BRG_DREC_E_LO, 0, 32⟩
def BRG_DREC_E_HI : Nat := 0x170018
def BRG_DREC_E_HI_ADDR : FRef := ⟨BRG_DREC_E_HI, 0, 32⟩
def BRG_COUNT : Nat := 0x170020
def BRG_COUNT_FLOWS : FRef := ⟨BRG_COUNT, 0, 22⟩
def BRG_CACHE_STAT : Nat := 0x170024
def BRG_CACHE_STAT_PINNED : FRef := ⟨BRG_CACHE_STAT, 19, 13⟩
def BRG_CACHE_STAT_RESIDENT : FRef := ⟨BRG_CACHE_STAT, 0, 17⟩
def BRG_CNT_MISS : Nat := 0x170030
def BRG_CNT_MISS_COUNT : FRef := ⟨BRG_CNT_MISS, 0, 32⟩
def BRG_CNT_CRC : Nat := 0x170034
def BRG_CNT_CRC_COUNT : FRef := ⟨BRG_CNT_CRC, 0, 32⟩
def BRG_CNT_REFUSED : Nat := 0x170038
def BRG_CNT_REFUSED_COUNT : FRef := ⟨BRG_CNT_REFUSED, 0, 32⟩
def BRG_WIN_CMD : Nat := 0x170100
def BRG_WIN_CMD_OP : FRef := ⟨BRG_WIN_CMD, 28, 4⟩
def BRG_WIN_CMD_TYPE : FRef := ⟨BRG_WIN_CMD, 24, 4⟩
def BRG_WIN_CMD_INDEX : FRef := ⟨BRG_WIN_CMD, 0, 22⟩
def BRG_WIN_STAT : Nat := 0x170104
def BRG_WIN_STAT_ERR : FRef := ⟨BRG_WIN_STAT, 4, 4⟩
def BRG_WIN_STAT_READY : FRef := ⟨BRG_WIN_STAT, 0, 1⟩
def BRG_WIN_DATA (i : Nat) : Nat := 0x170200 + i * 0x4
def BRG_WIN_DATA_WORD (i : Nat) : FRef := ⟨BRG_WIN_DATA i, 0, 32⟩
def FWD_CFG : Nat := 0x180000
def FWD_CFG_PACE : FRef := ⟨FWD_CFG, 24, 8⟩
def FWD_CFG_FB_MS : FRef := ⟨FWD_CFG, 16, 8⟩
def FWD_CFG_KF_HOLD : FRef := ⟨FWD_CFG, 8, 8⟩
def FWD_CFG_EN : FRef := ⟨FWD_CFG, 0, 1⟩
def FWD_CFG2 : Nat := 0x180004
def FWD_CFG2_RTCP_MS : FRef := ⟨FWD_CFG2, 16, 16⟩
def FWD_CFG2_KF_WAIT : FRef := ⟨FWD_CFG2, 8, 8⟩
def FWD_CFG2_MAX_QDLY : FRef := ⟨FWD_CFG2, 0, 8⟩
def FWD_CLS_BASE_LO : Nat := 0x180008
def FWD_CLS_BASE_LO_ADDR : FRef := ⟨FWD_CLS_BASE_LO, 0, 32⟩
def FWD_CLS_BASE_HI : Nat := 0x18000C
def FWD_CLS_BASE_HI_ADDR : FRef := ⟨FWD_CLS_BASE_HI, 0, 32⟩
def FWD_LRT_BASE_LO : Nat := 0x180010
def FWD_LRT_BASE_LO_ADDR : FRef := ⟨FWD_LRT_BASE_LO, 0, 32⟩
def FWD_LRT_BASE_HI : Nat := 0x180014
def FWD_LRT_BASE_HI_ADDR : FRef := ⟨FWD_LRT_BASE_HI, 0, 32⟩
def FWD_SMAP_BASE_LO : Nat := 0x180018
def FWD_SMAP_BASE_LO_ADDR : FRef := ⟨FWD_SMAP_BASE_LO, 0, 32⟩
def FWD_SMAP_BASE_HI : Nat := 0x18001C
def FWD_SMAP_BASE_HI_ADDR : FRef := ⟨FWD_SMAP_BASE_HI, 0, 32⟩
def FWD_CNT_NOMATCH : Nat := 0x180040
def FWD_CNT_NOMATCH_COUNT : FRef := ⟨FWD_CNT_NOMATCH, 0, 32⟩
def FWD_CNT_DROP : Nat := 0x180044
def FWD_CNT_DROP_COUNT : FRef := ⟨FWD_CNT_DROP, 0, 32⟩
def FWD_CNT_E2E : Nat := 0x180048
def FWD_CNT_E2E_COUNT : FRef := ⟨FWD_CNT_E2E, 0, 32⟩
def FWD_CNT_AUTH : Nat := 0x18004C
def FWD_CNT_AUTH_COUNT : FRef := ⟨FWD_CNT_AUTH, 0, 32⟩
def FWD_CNT_GYLE : Nat := 0x180050
def FWD_CNT_GYLE_COUNT : FRef := ⟨FWD_CNT_GYLE, 0, 32⟩
def FWD_CNT_KF_SENT : Nat := 0x180054
def FWD_CNT_KF_SENT_COUNT : FRef := ⟨FWD_CNT_KF_SENT, 0, 32⟩
def FWD_CNT_NACK_MISS : Nat := 0x180058
def FWD_CNT_NACK_MISS_COUNT : FRef := ⟨FWD_CNT_NACK_MISS, 0, 32⟩
def FWD_PUNT_CMD : Nat := 0x180100
def FWD_PUNT_CMD_OP : FRef := ⟨FWD_PUNT_CMD, 28, 4⟩
def FWD_PUNT_CMD_FLOW : FRef := ⟨FWD_PUNT_CMD, 0, 22⟩
def FWD_PUNT_STAT : Nat := 0x180104
def FWD_PUNT_STAT_LOST : FRef := ⟨FWD_PUNT_STAT, 16, 16⟩
def FWD_PUNT_STAT_DEPTH : FRef := ⟨FWD_PUNT_STAT, 8, 8⟩
def FWD_PUNT_STAT_READY : FRef := ⟨FWD_PUNT_STAT, 0, 1⟩
def FWD_PUNT_FLOW : Nat := 0x180108
def FWD_PUNT_FLOW_FLOW : FRef := ⟨FWD_PUNT_FLOW, 0, 22⟩
def FWD_PUNT_DATA (i : Nat) : Nat := 0x180200 + i * 0x4
def FWD_PUNT_DATA_WORD (i : Nat) : FRef := ⟨FWD_PUNT_DATA i, 0, 32⟩
def FWD_EG_STAT (m : Nat) : Nat := 0x190000 + m * 0x40
def FWD_EG_STAT_LIVE_KB (m : Nat) : FRef := ⟨FWD_EG_STAT m, 16, 16⟩
def FWD_EG_STAT_BRIDGE_KB (m : Nat) : FRef := ⟨FWD_EG_STAT m, 0, 16⟩
def FWD_EG_CNT_DROP (m : Nat) : Nat := 0x190004 + m * 0x40
def FWD_EG_CNT_DROP_COUNT (m : Nat) : FRef := ⟨FWD_EG_CNT_DROP m, 0, 32⟩
def AUD_CFG : Nat := 0x1A0000
def AUD_CFG_KETTLES : FRef := ⟨AUD_CFG, 8, 12⟩
def AUD_CFG_TRIGGER : FRef := ⟨AUD_CFG, 2, 6⟩
def AUD_CFG_EN : FRef := ⟨AUD_CFG, 0, 1⟩
def AUD_SLOT_BASE_LO : Nat := 0x1A0004
def AUD_SLOT_BASE_LO_ADDR : FRef := ⟨AUD_SLOT_BASE_LO, 0, 32⟩
def AUD_SLOT_BASE_HI : Nat := 0x1A0008
def AUD_SLOT_BASE_HI_ADDR : FRef := ⟨AUD_SLOT_BASE_HI, 0, 32⟩
def AUD_SESS_BASE_LO : Nat := 0x1A000C
def AUD_SESS_BASE_LO_ADDR : FRef := ⟨AUD_SESS_BASE_LO, 0, 32⟩
def AUD_SESS_BASE_HI : Nat := 0x1A0010
def AUD_SESS_BASE_HI_ADDR : FRef := ⟨AUD_SESS_BASE_HI, 0, 32⟩
def AUD_STAT : Nat := 0x1A0014
def AUD_STAT_ENCODES : FRef := ⟨AUD_STAT, 16, 12⟩
def AUD_STAT_SLOTS : FRef := ⟨AUD_STAT, 0, 14⟩
def AUD_CNT_OVERRUN : Nat := 0x1A0020
def AUD_CNT_OVERRUN_COUNT : FRef := ⟨AUD_CNT_OVERRUN, 0, 32⟩
def AUD_CNT_CAND_LATE : Nat := 0x1A0024
def AUD_CNT_CAND_LATE_COUNT : FRef := ⟨AUD_CNT_CAND_LATE, 0, 32⟩
def AUD_CNT_PLC : Nat := 0x1A0028
def AUD_CNT_PLC_COUNT : FRef := ⟨AUD_CNT_PLC, 0, 32⟩
def AUD_CNT_JBDROP : Nat := 0x1A002C
def AUD_CNT_JBDROP_COUNT : FRef := ⟨AUD_CNT_JBDROP, 0, 32⟩
def AUD_PAIR_LOAD (u : Nat) : Nat := 0x1A0400 + u * 0x4
def AUD_PAIR_LOAD_LOAD (u : Nat) : FRef := ⟨AUD_PAIR_LOAD u, 0, 14⟩
def AUD_WIN_CMD : Nat := 0x1A0200
def AUD_WIN_CMD_OP : FRef := ⟨AUD_WIN_CMD, 28, 4⟩
def AUD_WIN_CMD_TYPE : FRef := ⟨AUD_WIN_CMD, 24, 4⟩
def AUD_WIN_CMD_INDEX : FRef := ⟨AUD_WIN_CMD, 0, 15⟩
def AUD_WIN_STAT : Nat := 0x1A0204
def AUD_WIN_STAT_ERR : FRef := ⟨AUD_WIN_STAT, 4, 4⟩
def AUD_WIN_STAT_READY : FRef := ⟨AUD_WIN_STAT, 0, 1⟩
def AUD_WIN_DATA (i : Nat) : Nat := 0x1A0300 + i * 0x4
def AUD_WIN_DATA_WORD (i : Nat) : FRef := ⟨AUD_WIN_DATA i, 0, 32⟩
def AUD_BC_CTRL (n : Nat) : Nat := 0x1A8000 + n * 0x400
def AUD_BC_CTRL_LOUD_LAYOUT (n : Nat) : FRef := ⟨AUD_BC_CTRL n, 14, 2⟩
def AUD_BC_CTRL_NCH (n : Nat) : FRef := ⟨AUD_BC_CTRL n, 8, 6⟩
def AUD_BC_CTRL_OUT (n : Nat) : FRef := ⟨AUD_BC_CTRL n, 4, 2⟩
def AUD_BC_CTRL_PTIME (n : Nat) : FRef := ⟨AUD_BC_CTRL n, 3, 1⟩
def AUD_BC_CTRL_RATE (n : Nat) : FRef := ⟨AUD_BC_CTRL n, 1, 2⟩
def AUD_BC_CTRL_EN (n : Nat) : FRef := ⟨AUD_BC_CTRL n, 0, 1⟩
def AUD_BC_OUT (n : Nat) : Nat := 0x1A8004 + n * 0x400
def AUD_BC_OUT_STREAMS (n : Nat) : FRef := ⟨AUD_BC_OUT n, 24, 4⟩
def AUD_BC_OUT_AAC_KBPS (n : Nat) : FRef := ⟨AUD_BC_OUT n, 16, 8⟩
def AUD_BC_OUT_DUAL (n : Nat) : FRef := ⟨AUD_BC_OUT n, 8, 1⟩
def AUD_BC_OUT_CH_PER_STREAM (n : Nat) : FRef := ⟨AUD_BC_OUT n, 0, 8⟩
def AUD_BC_LOUD (n : Nat) : Nat := 0x1A8008 + n * 0x400
def AUD_BC_LOUD_INTEGRATED (n : Nat) : FRef := ⟨AUD_BC_LOUD n, 16, 16⟩
def AUD_BC_LOUD_SHORT (n : Nat) : FRef := ⟨AUD_BC_LOUD n, 0, 16⟩
def AUD_BC_LOUD2 (n : Nat) : Nat := 0x1A800C + n * 0x400
def AUD_BC_LOUD2_MOMENTARY (n : Nat) : FRef := ⟨AUD_BC_LOUD2 n, 16, 16⟩
def AUD_BC_LOUD2_TRUE_PEAK (n : Nat) : FRef := ⟨AUD_BC_LOUD2 n, 0, 16⟩
def AUD_BC_CNT_MISS (n : Nat) : Nat := 0x1A8010 + n * 0x400
def AUD_BC_CNT_MISS_COUNT (n : Nat) : FRef := ⟨AUD_BC_CNT_MISS n, 0, 32⟩
def AUD_BC_FLOW (n : Nat) : Nat := 0x1A8014 + n * 0x400
def AUD_BC_FLOW_FLOW (n : Nat) : FRef := ⟨AUD_BC_FLOW n, 0, 22⟩
def AUD_BC_IN (n : Nat) : Nat := 0x1A8018 + n * 0x400
def AUD_BC_IN_NSTREAMS (n : Nat) : FRef := ⟨AUD_BC_IN n, 28, 4⟩
def AUD_BC_IN_FLOW (n : Nat) : FRef := ⟨AUD_BC_IN n, 0, 22⟩
def AUD_BC_ROUTE (n : Nat) (i : Nat) : Nat := 0x1A8100 + n * 0x400 + i * 0x4
def AUD_BC_ROUTE_GAIN (n : Nat) (i : Nat) : FRef := ⟨AUD_BC_ROUTE n i, 23, 9⟩
def AUD_BC_ROUTE_EN (n : Nat) (i : Nat) : FRef := ⟨AUD_BC_ROUTE n i, 15, 1⟩
def AUD_BC_ROUTE_STREAM (n : Nat) (i : Nat) : FRef := ⟨AUD_BC_ROUTE n i, 12, 3⟩
def AUD_BC_ROUTE_IN_CH (n : Nat) (i : Nat) : FRef := ⟨AUD_BC_ROUTE n i, 0, 6⟩
def DSP_KET_CFG (k : Nat) : Nat := 0x1C0000 + k * 0x100
def DSP_KET_CFG_KSEL (k : Nat) : FRef := ⟨DSP_KET_CFG k, 8, 8⟩
def DSP_KET_CFG_CUST (k : Nat) : FRef := ⟨DSP_KET_CFG k, 2, 1⟩
def DSP_KET_CFG_MODE (k : Nat) : FRef := ⟨DSP_KET_CFG k, 1, 1⟩
def DSP_KET_CFG_EN (k : Nat) : FRef := ⟨DSP_KET_CFG k, 0, 1⟩
def DSP_KET_TRIG (k : Nat) : Nat := 0x1C0004 + k * 0x100
def DSP_KET_TRIG_TRIG0_to_TRIG3 (k : Nat) : FRef := ⟨DSP_KET_TRIG k, 0, 32⟩
def DSP_KET_STAT (k : Nat) : Nat := 0x1C0008 + k * 0x100
def DSP_KET_STAT_LOADED (k : Nat) : FRef := ⟨DSP_KET_STAT k, 8, 1⟩
def DSP_KET_STAT_FENCED (k : Nat) : FRef := ⟨DSP_KET_STAT k, 0, 8⟩
def DSP_KET_DRAM_BASE_LO (k : Nat) : Nat := 0x1C0010 + k * 0x100
def DSP_KET_DRAM_BASE_LO_ADDR (k : Nat) : FRef := ⟨DSP_KET_DRAM_BASE_LO k, 0, 32⟩
def DSP_KET_DRAM_BASE_HI (k : Nat) : Nat := 0x1C0014 + k * 0x100
def DSP_KET_DRAM_BASE_HI_ADDR (k : Nat) : FRef := ⟨DSP_KET_DRAM_BASE_HI k, 0, 32⟩
def DSP_KET_DRAM_LIMIT_LO (k : Nat) : Nat := 0x1C0018 + k * 0x100
def DSP_KET_DRAM_LIMIT_LO_ADDR (k : Nat) : FRef := ⟨DSP_KET_DRAM_LIMIT_LO k, 0, 32⟩
def DSP_KET_DRAM_LIMIT_HI (k : Nat) : Nat := 0x1C001C + k * 0x100
def DSP_KET_DRAM_LIMIT_HI_ADDR (k : Nat) : FRef := ⟨DSP_KET_DRAM_LIMIT_HI k, 0, 32⟩
def DSP_CORE_CTRL (c : Nat) : Nat := 0x1D0000 + c * 0x40
def DSP_CORE_CTRL_RELEASE (c : Nat) : FRef := ⟨DSP_CORE_CTRL c, 3, 1⟩
def DSP_CORE_CTRL_HALT (c : Nat) : FRef := ⟨DSP_CORE_CTRL c, 2, 1⟩
def DSP_CORE_CTRL_UNFENCE (c : Nat) : FRef := ⟨DSP_CORE_CTRL c, 1, 1⟩
def DSP_CORE_CTRL_FENCE (c : Nat) : FRef := ⟨DSP_CORE_CTRL c, 0, 1⟩
def DSP_CORE_STAT (c : Nat) : Nat := 0x1D0004 + c * 0x40
def DSP_CORE_STAT_CAUSE (c : Nat) : FRef := ⟨DSP_CORE_STAT c, 24, 8⟩
def DSP_CORE_STAT_FAULT (c : Nat) : FRef := ⟨DSP_CORE_STAT c, 20, 4⟩
def DSP_CORE_STAT_DMA_ERR (c : Nat) : FRef := ⟨DSP_CORE_STAT c, 16, 4⟩
def DSP_CORE_STAT_REST (c : Nat) : FRef := ⟨DSP_CORE_STAT c, 13, 3⟩
def DSP_CORE_STAT_STATE (c : Nat) : FRef := ⟨DSP_CORE_STAT c, 1, 3⟩
def DSP_CORE_STAT_FENCED (c : Nat) : FRef := ⟨DSP_CORE_STAT c, 0, 1⟩
def DSP_CORE_PC (c : Nat) : Nat := 0x1D0008 + c * 0x40
def DSP_CORE_PC_PC (c : Nat) : FRef := ⟨DSP_CORE_PC c, 0, 14⟩
def DSP_CORE_MBOX (c : Nat) : Nat := 0x1D000C + c * 0x40
def DSP_CORE_MBOX_WORD (c : Nat) : FRef := ⟨DSP_CORE_MBOX c, 0, 32⟩
def DSP_CORE_CNT_BUSY (c : Nat) : Nat := 0x1D0010 + c * 0x40
def DSP_CORE_CNT_BUSY_COUNT (c : Nat) : FRef := ⟨DSP_CORE_CNT_BUSY c, 0, 32⟩
def DSP_CORE_CNT_ECC (c : Nat) : Nat := 0x1D0014 + c * 0x40
def DSP_CORE_CNT_ECC_COUNT (c : Nat) : FRef := ⟨DSP_CORE_CNT_ECC c, 0, 32⟩
def DSP_CORE_CNT_TRIG_LOST (c : Nat) : Nat := 0x1D0018 + c * 0x40
def DSP_CORE_CNT_TRIG_LOST_COUNT (c : Nat) : FRef := ⟨DSP_CORE_CNT_TRIG_LOST c, 0, 32⟩
def DSP_WIN_CMD : Nat := 0x1E0000
def DSP_WIN_CMD_OP : FRef := ⟨DSP_WIN_CMD, 28, 4⟩
def DSP_WIN_CMD_SPACE : FRef := ⟨DSP_WIN_CMD, 24, 4⟩
def DSP_WIN_CMD_KETTLE : FRef := ⟨DSP_WIN_CMD, 16, 4⟩
def DSP_WIN_CMD_CORE : FRef := ⟨DSP_WIN_CMD, 10, 3⟩
def DSP_WIN_ADDR : Nat := 0x1E0004
def DSP_WIN_ADDR_WORD : FRef := ⟨DSP_WIN_ADDR, 0, 21⟩
def DSP_WIN_STAT : Nat := 0x1E0008
def DSP_WIN_STAT_ERR : FRef := ⟨DSP_WIN_STAT, 4, 4⟩
def DSP_WIN_STAT_READY : FRef := ⟨DSP_WIN_STAT, 0, 1⟩
def DSP_WIN_DATA (i : Nat) : Nat := 0x1E0100 + i * 0x4
def DSP_WIN_DATA_WORD (i : Nat) : FRef := ⟨DSP_WIN_DATA i, 0, 32⟩
def APT_PORT_CFG (p : Nat) : Nat := 0x1B0000 + p * 0x100
def APT_PORT_CFG_GROUP (p : Nat) : FRef := ⟨APT_PORT_CFG p, 24, 3⟩
def APT_PORT_CFG_CLK_SRC (p : Nat) : FRef := ⟨APT_PORT_CFG p, 20, 4⟩
def APT_PORT_CFG_RATE (p : Nat) : FRef := ⟨APT_PORT_CFG p, 16, 4⟩
def APT_PORT_CFG_ZC_MS (p : Nat) : FRef := ⟨APT_PORT_CFG p, 8, 8⟩
def APT_PORT_CFG_FS_POL (p : Nat) : FRef := ⟨APT_PORT_CFG p, 7, 1⟩
def APT_PORT_CFG_BCLK_EDGE (p : Nat) : FRef := ⟨APT_PORT_CFG p, 6, 1⟩
def APT_PORT_CFG_FORMAT (p : Nat) : FRef := ⟨APT_PORT_CFG p, 5, 1⟩
def APT_PORT_CFG_TX_EN (p : Nat) : FRef := ⟨APT_PORT_CFG p, 2, 1⟩
def APT_PORT_CFG_RX_EN (p : Nat) : FRef := ⟨APT_PORT_CFG p, 1, 1⟩
def APT_PORT_FRAME (p : Nat) : Nat := 0x1B0004 + p * 0x100
def APT_PORT_FRAME_OFFSET (p : Nat) : FRef := ⟨APT_PORT_FRAME p, 24, 5⟩
def APT_PORT_FRAME_DEPTH (p : Nat) : FRef := ⟨APT_PORT_FRAME p, 16, 2⟩
def APT_PORT_FRAME_WIDTH (p : Nat) : FRef := ⟨APT_PORT_FRAME p, 8, 6⟩
def APT_PORT_FRAME_SLOTS (p : Nat) : FRef := ⟨APT_PORT_FRAME p, 0, 5⟩
def APT_PORT_RX_MASK (p : Nat) : Nat := 0x1B0008 + p * 0x100
def APT_PORT_RX_MASK_MASK (p : Nat) : FRef := ⟨APT_PORT_RX_MASK p, 0, 32⟩
def APT_PORT_TX_MASK (p : Nat) : Nat := 0x1B000C + p * 0x100
def APT_PORT_TX_MASK_MASK (p : Nat) : FRef := ⟨APT_PORT_TX_MASK p, 0, 32⟩
def APT_PORT_RX_MUTE (p : Nat) : Nat := 0x1B0010 + p * 0x100
def APT_PORT_RX_MUTE_MUTE (p : Nat) : FRef := ⟨APT_PORT_RX_MUTE p, 0, 32⟩
def APT_PORT_TX_MUTE (p : Nat) : Nat := 0x1B0014 + p * 0x100
def APT_PORT_TX_MUTE_MUTE (p : Nat) : FRef := ⟨APT_PORT_TX_MUTE p, 0, 32⟩
def APT_PORT_BUF (p : Nat) : Nat := 0x1B0018 + p * 0x100
def APT_PORT_BUF_KETTLE (p : Nat) : FRef := ⟨APT_PORT_BUF p, 24, 4⟩
def APT_PORT_BUF_OFFSET (p : Nat) : FRef := ⟨APT_PORT_BUF p, 0, 21⟩
def APT_PORT_LEN (p : Nat) : Nat := 0x1B001C + p * 0x100
def APT_PORT_LEN_TX_LEN (p : Nat) : FRef := ⟨APT_PORT_LEN p, 16, 16⟩
def APT_PORT_LEN_RX_LEN (p : Nat) : FRef := ⟨APT_PORT_LEN p, 0, 16⟩
def APT_PORT_STAT (p : Nat) : Nat := 0x1B0020 + p * 0x100
def APT_PORT_STAT_FRAME_BITS (p : Nat) : FRef := ⟨APT_PORT_STAT p, 16, 16⟩
def APT_PORT_STAT_MASK_SEQ (p : Nat) : FRef := ⟨APT_PORT_STAT p, 8, 8⟩
def APT_PORT_STAT_ZC_WAIT (p : Nat) : FRef := ⟨APT_PORT_STAT p, 3, 1⟩
def APT_PORT_STAT_UNDER (p : Nat) : FRef := ⟨APT_PORT_STAT p, 2, 1⟩
def APT_PORT_STAT_ALIGNED (p : Nat) : FRef := ⟨APT_PORT_STAT p, 1, 1⟩
def APT_PORT_STAT_LOCKED (p : Nat) : FRef := ⟨APT_PORT_STAT p, 0, 1⟩
def APT_PORT_CNT_UNDER (p : Nat) : Nat := 0x1B0030 + p * 0x100
def APT_PORT_CNT_UNDER_COUNT (p : Nat) : FRef := ⟨APT_PORT_CNT_UNDER p, 0, 32⟩
def APT_PORT_CNT_OVER (p : Nat) : Nat := 0x1B0034 + p * 0x100
def APT_PORT_CNT_OVER_COUNT (p : Nat) : FRef := ⟨APT_PORT_CNT_OVER p, 0, 32⟩
def APT_PORT_CNT_ERR (p : Nat) : Nat := 0x1B0038 + p * 0x100
def APT_PORT_CNT_ERR_COUNT (p : Nat) : FRef := ⟨APT_PORT_CNT_ERR p, 0, 32⟩
def APT_PORT_CNT_ZC_TO (p : Nat) : Nat := 0x1B003C + p * 0x100
def APT_PORT_CNT_ZC_TO_COUNT (p : Nat) : FRef := ⟨APT_PORT_CNT_ZC_TO p, 0, 32⟩
def APT_AES_CTRL (p : Nat) : Nat := 0x1B0040 + p * 0x100
def APT_AES_CTRL_V_FORCE (p : Nat) : FRef := ⟨APT_AES_CTRL p, 10, 1⟩
def APT_AES_CTRL_VU_SRC (p : Nat) : FRef := ⟨APT_AES_CTRL p, 9, 1⟩
def APT_AES_CTRL_CRC_AUTO (p : Nat) : FRef := ⟨APT_AES_CTRL p, 8, 1⟩
def APT_AES_CTRL_REF (p : Nat) : FRef := ⟨APT_AES_CTRL p, 0, 4⟩
def APT_AES_CS (p : Nat) (i : Nat) : Nat := 0x1B0080 + p * 0x100 + i * 0x4
def APT_AES_CS_BYTES (p : Nat) (i : Nat) : FRef := ⟨APT_AES_CS p i, 0, 32⟩
def TB_CTRL : Nat := 0x60000
def TB_CTRL_ACQ_TIMEOUT : FRef := ⟨TB_CTRL, 16, 8⟩
def TB_CTRL_POLICY : FRef := ⟨TB_CTRL, 8, 1⟩
def TB_CTRL_YZ_PORT : FRef := ⟨TB_CTRL, 4, 4⟩
def TB_CTRL_SRC : FRef := ⟨TB_CTRL, 0, 2⟩
def TB_STAT : Nat := 0x60004
def TB_STAT_MASTER : FRef := ⟨TB_STAT, 3, 1⟩
def TB_STAT_STATE : FRef := ⟨TB_STAT, 0, 3⟩
def TB_TIME_S_LO : Nat := 0x60010
def TB_TIME_S_LO_VALUE : FRef := ⟨TB_TIME_S_LO, 0, 32⟩
def TB_TIME_S_HI : Nat := 0x60014
def TB_TIME_S_HI_VALUE : FRef := ⟨TB_TIME_S_HI, 0, 32⟩
def TB_TIME_NS : Nat := 0x60018
def TB_TIME_NS_VALUE : FRef := ⟨TB_TIME_NS, 0, 32⟩
def TB_TIME_FRAC : Nat := 0x6001C
def TB_TIME_FRAC_VALUE : FRef := ⟨TB_TIME_FRAC, 0, 32⟩
def TB_RATE_LO : Nat := 0x60020
def TB_RATE_LO_RATE : FRef := ⟨TB_RATE_LO, 0, 32⟩
def TB_RATE_HI : Nat := 0x60024
def TB_RATE_HI_RATE : FRef := ⟨TB_RATE_HI, 0, 32⟩
def TB_EPOCH : Nat := 0x60028
def TB_EPOCH_EPOCH : FRef := ⟨TB_EPOCH, 0, 32⟩
def TB_SERVO : Nat := 0x60030
def TB_SERVO_KI : FRef := ⟨TB_SERVO, 16, 16⟩
def TB_SERVO_KP : FRef := ⟨TB_SERVO, 0, 16⟩
def TB_SERVO_LIM : Nat := 0x60034
def TB_SERVO_LIM_STEP_US : FRef := ⟨TB_SERVO_LIM, 16, 16⟩
def TB_SERVO_LIM_LOCK_NS : FRef := ⟨TB_SERVO_LIM, 0, 16⟩
def TB_SERVO_RATE : Nat := 0x60038
def TB_SERVO_RATE_RATE_PPM : FRef := ⟨TB_SERVO_RATE, 0, 10⟩
def TB_PTP_CFG : Nat := 0x60040
def TB_PTP_CFG_ANN_TIMEOUT : FRef := ⟨TB_PTP_CFG, 16, 4⟩
def TB_PTP_CFG_DOMAIN : FRef := ⟨TB_PTP_CFG, 8, 8⟩
def TB_PTP_CFG_TRANSPORT : FRef := ⟨TB_PTP_CFG, 6, 2⟩
def TB_PTP_CFG_PROFILE : FRef := ⟨TB_PTP_CFG, 5, 1⟩
def TB_PTP_CFG_MAC : FRef := ⟨TB_PTP_CFG, 0, 5⟩
def TB_PTP_OFS : Nat := 0x60044
def TB_PTP_OFS_VALUE : FRef := ⟨TB_PTP_OFS, 0, 32⟩
def TB_PTP_MPD : Nat := 0x60048
def TB_PTP_MPD_VALUE : FRef := ⟨TB_PTP_MPD, 0, 32⟩
def TB_ASYM : Nat := 0x6004C
def TB_ASYM_VALUE : FRef := ⟨TB_ASYM, 0, 32⟩
def TB_UTC : Nat := 0x60050
def TB_UTC_VALUE : FRef := ⟨TB_UTC, 0, 32⟩
def TB_TRIG_CFG (n : Nat) : Nat := 0x61000 + n * 0x20
def TB_TRIG_CFG_LATE (n : Nat) : FRef := ⟨TB_TRIG_CFG n, 3, 1⟩
def TB_TRIG_CFG_ABS (n : Nat) : FRef := ⟨TB_TRIG_CFG n, 2, 1⟩
def TB_TRIG_CFG_PERIODIC (n : Nat) : FRef := ⟨TB_TRIG_CFG n, 1, 1⟩
def TB_TRIG_CFG_ARM (n : Nat) : FRef := ⟨TB_TRIG_CFG n, 0, 1⟩
def TB_TRIG_S_LO (n : Nat) : Nat := 0x61004 + n * 0x20
def TB_TRIG_S_LO_TIME (n : Nat) : FRef := ⟨TB_TRIG_S_LO n, 0, 32⟩
def TB_TRIG_S_HI (n : Nat) : Nat := 0x61008 + n * 0x20
def TB_TRIG_S_HI_TIME (n : Nat) : FRef := ⟨TB_TRIG_S_HI n, 0, 32⟩
def TB_TRIG_NS (n : Nat) : Nat := 0x6100C + n * 0x20
def TB_TRIG_NS_TIME (n : Nat) : FRef := ⟨TB_TRIG_NS n, 0, 32⟩
def TB_TRIG_PER_NS (n : Nat) : Nat := 0x61010 + n * 0x20
def TB_TRIG_PER_NS_PERIOD (n : Nat) : FRef := ⟨TB_TRIG_PER_NS n, 0, 32⟩
def TB_TRIG_PER_FRAC (n : Nat) : Nat := 0x61014 + n * 0x20
def TB_TRIG_PER_FRAC_PERIOD (n : Nat) : FRef := ⟨TB_TRIG_PER_FRAC n, 0, 32⟩
def TB_CAP_CFG (n : Nat) : Nat := 0x63000 + n * 0x20
def TB_CAP_CFG_OVERRUN (n : Nat) : FRef := ⟨TB_CAP_CFG n, 15, 1⟩
def TB_CAP_CFG_VALID (n : Nat) : FRef := ⟨TB_CAP_CFG n, 14, 1⟩
def TB_CAP_CFG_LANE (n : Nat) : FRef := ⟨TB_CAP_CFG n, 8, 6⟩
def TB_CAP_CFG_EDGE (n : Nat) : FRef := ⟨TB_CAP_CFG n, 6, 2⟩
def TB_CAP_CFG_PIN (n : Nat) : FRef := ⟨TB_CAP_CFG n, 3, 3⟩
def TB_CAP_CFG_SRC (n : Nat) : FRef := ⟨TB_CAP_CFG n, 0, 3⟩
def TB_CAP_S_LO (n : Nat) : Nat := 0x63004 + n * 0x20
def TB_CAP_S_LO_VALUE (n : Nat) : FRef := ⟨TB_CAP_S_LO n, 0, 32⟩
def TB_CAP_S_HI (n : Nat) : Nat := 0x63008 + n * 0x20
def TB_CAP_S_HI_VALUE (n : Nat) : FRef := ⟨TB_CAP_S_HI n, 0, 32⟩
def TB_CAP_NS (n : Nat) : Nat := 0x6300C + n * 0x20
def TB_CAP_NS_VALUE (n : Nat) : FRef := ⟨TB_CAP_NS n, 0, 32⟩
def TB_CAP_EPOCH (n : Nat) : Nat := 0x63010 + n * 0x20
def TB_CAP_EPOCH_VALUE (n : Nat) : FRef := ⟨TB_CAP_EPOCH n, 0, 32⟩
def TB_TIO_CFG (i : Nat) : Nat := 0x63800 + i * 0x4
def TB_TIO_CFG_WIDTH_US (i : Nat) : FRef := ⟨TB_TIO_CFG i, 16, 16⟩
def TB_TIO_CFG_TRIGGER (i : Nat) : FRef := ⟨TB_TIO_CFG i, 8, 6⟩
def TB_TIO_CFG_POL (i : Nat) : FRef := ⟨TB_TIO_CFG i, 1, 1⟩
def TB_TIO_CFG_OUT (i : Nat) : FRef := ⟨TB_TIO_CFG i, 0, 1⟩
def LNK_LANE_STAT (l : Nat) : Nat := 0x80000 + l * 0x1000
def LNK_LANE_STAT_RATE (l : Nat) : FRef := ⟨LNK_LANE_STAT l, 28, 4⟩
def LNK_LANE_STAT_SKEW (l : Nat) : FRef := ⟨LNK_LANE_STAT l, 16, 12⟩
def LNK_LANE_STAT_STATE (l : Nat) : FRef := ⟨LNK_LANE_STAT l, 4, 3⟩
def LNK_LANE_STAT_PAM4 (l : Nat) : FRef := ⟨LNK_LANE_STAT l, 3, 1⟩
def LNK_LANE_STAT_CDR_LOCK (l : Nat) : FRef := ⟨LNK_LANE_STAT l, 2, 1⟩
def LNK_LANE_STAT_ALIGNED (l : Nat) : FRef := ⟨LNK_LANE_STAT l, 1, 1⟩
def LNK_LANE_STAT_SIGNAL (l : Nat) : FRef := ⟨LNK_LANE_STAT l, 0, 1⟩
def LNK_LANE_FOM (l : Nat) : Nat := 0x80004 + l * 0x1000
def LNK_LANE_FOM_FOM_MIN (l : Nat) : FRef := ⟨LNK_LANE_FOM l, 16, 8⟩
def LNK_LANE_FOM_FOM_LOW (l : Nat) : FRef := ⟨LNK_LANE_FOM l, 8, 8⟩
def LNK_LANE_FOM_FOM (l : Nat) : FRef := ⟨LNK_LANE_FOM l, 0, 8⟩
def LNK_LANE_ADAPT (l : Nat) : Nat := 0x80008 + l * 0x1000
def LNK_LANE_ADAPT_FREEZE (l : Nat) : FRef := ⟨LNK_LANE_ADAPT l, 1, 1⟩
def LNK_LANE_ADAPT_EN (l : Nat) : FRef := ⟨LNK_LANE_ADAPT l, 0, 1⟩
def LNK_LANE_CNT_BRINGUP (l : Nat) : Nat := 0x8000C + l * 0x1000
def LNK_LANE_CNT_BRINGUP_COUNT (l : Nat) : FRef := ⟨LNK_LANE_CNT_BRINGUP l, 0, 32⟩
def LNK_ES_CTRL (l : Nat) : Nat := 0x80800 + l * 0x1000
def LNK_ES_CTRL_EYE (l : Nat) : FRef := ⟨LNK_ES_CTRL l, 8, 2⟩
def LNK_ES_CTRL_RUN (l : Nat) : FRef := ⟨LNK_ES_CTRL l, 0, 1⟩
def LNK_ES_OFS (l : Nat) : Nat := 0x80804 + l * 0x1000
def LNK_ES_OFS_VOFS (l : Nat) : FRef := ⟨LNK_ES_OFS l, 16, 8⟩
def LNK_ES_OFS_HOFS (l : Nat) : FRef := ⟨LNK_ES_OFS l, 0, 6⟩
def LNK_ES_DWELL (l : Nat) : Nat := 0x80808 + l * 0x1000
def LNK_ES_DWELL_DWELL (l : Nat) : FRef := ⟨LNK_ES_DWELL l, 0, 5⟩
def LNK_ES_SAMPLES (l : Nat) : Nat := 0x8080C + l * 0x1000
def LNK_ES_SAMPLES_COUNT (l : Nat) : FRef := ⟨LNK_ES_SAMPLES l, 0, 32⟩
def LNK_ES_ERRORS (l : Nat) : Nat := 0x80810 + l * 0x1000
def LNK_ES_ERRORS_COUNT (l : Nat) : FRef := ⟨LNK_ES_ERRORS l, 0, 32⟩
def LNK_ES_STAT (l : Nat) : Nat := 0x80814 + l * 0x1000
def LNK_ES_STAT_ABORTED (l : Nat) : FRef := ⟨LNK_ES_STAT l, 1, 1⟩
def LNK_ES_STAT_DONE (l : Nat) : FRef := ⟨LNK_ES_STAT l, 0, 1⟩
def LNK_QUAD_CFG (q : Nat) : Nat := 0x80C00 + q * 0x4000
def LNK_QUAD_CFG_REFSEL (q : Nat) : FRef := ⟨LNK_QUAD_CFG q, 2, 1⟩
def LNK_QUAD_CFG_PROTO (q : Nat) : FRef := ⟨LNK_QUAD_CFG q, 1, 1⟩
def LNK_QUAD_CFG_EN (q : Nat) : FRef := ⟨LNK_QUAD_CFG q, 0, 1⟩
def LNK_QUAD_STAT (q : Nat) : Nat := 0x80C04 + q * 0x4000
def LNK_QUAD_STAT_RATE (q : Nat) : FRef := ⟨LNK_QUAD_STAT q, 4, 4⟩
def LNK_QUAD_STAT_PLL_LOCK (q : Nat) : FRef := ⟨LNK_QUAD_STAT q, 0, 1⟩
def LNK_MAC_CFG (m : Nat) : Nat := 0x80E00 + m * 0x4000
def LNK_MAC_CFG_FIRST_LANE (m : Nat) : FRef := ⟨LNK_MAC_CFG m, 26, 6⟩
def LNK_MAC_CFG_SPEED (m : Nat) : FRef := ⟨LNK_MAC_CFG m, 19, 3⟩
def LNK_MAC_CFG_LANES (m : Nat) : FRef := ⟨LNK_MAC_CFG m, 17, 2⟩
def LNK_MAC_CFG_FEC (m : Nat) : FRef := ⟨LNK_MAC_CFG m, 15, 2⟩
def LNK_MAC_CFG_AN (m : Nat) : FRef := ⟨LNK_MAC_CFG m, 14, 1⟩
def LNK_MAC_CFG_TRAIN (m : Nat) : FRef := ⟨LNK_MAC_CFG m, 13, 1⟩
def LNK_MAC_CFG_EN (m : Nat) : FRef := ⟨LNK_MAC_CFG m, 0, 1⟩
def LNK_MAC_STAT (m : Nat) : Nat := 0x80E04 + m * 0x4000
def LNK_MAC_STAT_REMOTE_FAULT (m : Nat) : FRef := ⟨LNK_MAC_STAT m, 2, 1⟩
def LNK_MAC_STAT_LOCAL_FAULT (m : Nat) : FRef := ⟨LNK_MAC_STAT m, 1, 1⟩
def LNK_MAC_STAT_LINK (m : Nat) : FRef := ⟨LNK_MAC_STAT m, 0, 1⟩
def LNK_MAC_TX_DLY (m : Nat) : Nat := 0x80E08 + m * 0x4000
def LNK_MAC_TX_DLY_DELAY (m : Nat) : FRef := ⟨LNK_MAC_TX_DLY m, 0, 32⟩
def LNK_MAC_RX_DLY (m : Nat) : Nat := 0x80E0C + m * 0x4000
def LNK_MAC_RX_DLY_DELAY (m : Nat) : FRef := ⟨LNK_MAC_RX_DLY m, 0, 32⟩
def LNK_MAC_CNT_RX (m : Nat) : Nat := 0x80E10 + m * 0x4000
def LNK_MAC_CNT_RX_COUNT (m : Nat) : FRef := ⟨LNK_MAC_CNT_RX m, 0, 32⟩
def LNK_MAC_CNT_FCS (m : Nat) : Nat := 0x80E14 + m * 0x4000
def LNK_MAC_CNT_FCS_COUNT (m : Nat) : FRef := ⟨LNK_MAC_CNT_FCS m, 0, 32⟩
def LNK_MAC_CNT_PAUSE (m : Nat) : Nat := 0x80E18 + m * 0x4000
def LNK_MAC_CNT_PAUSE_COUNT (m : Nat) : FRef := ⟨LNK_MAC_CNT_PAUSE m, 0, 32⟩
def LNK_MAC_CNT_TX (m : Nat) : Nat := 0x80E1C + m * 0x4000
def LNK_MAC_CNT_TX_COUNT (m : Nat) : FRef := ⟨LNK_MAC_CNT_TX m, 0, 32⟩
def LNK_MAC_CNT_FEC_CORR (m : Nat) : Nat := 0x80E20 + m * 0x4000
def LNK_MAC_CNT_FEC_CORR_COUNT (m : Nat) : FRef := ⟨LNK_MAC_CNT_FEC_CORR m, 0, 32⟩
def LNK_MAC_CNT_FEC_UNCORR (m : Nat) : Nat := 0x80E24 + m * 0x4000
def LNK_MAC_CNT_FEC_UNCORR_COUNT (m : Nat) : FRef := ⟨LNK_MAC_CNT_FEC_UNCORR m, 0, 32⟩
def YZ_CFG : Nat := 0xC0000
def YZ_CFG_DEAD_MS : FRef := ⟨YZ_CFG, 16, 8⟩
def YZ_CFG_EN : FRef := ⟨YZ_CFG, 12, 1⟩
def YZ_CFG_ADDR : FRef := ⟨YZ_CFG, 0, 12⟩
def YZ_MEMBERS1 : Nat := 0xC0004
def YZ_MEMBERS1_HEARD : FRef := ⟨YZ_MEMBERS1, 16, 16⟩
def YZ_MEMBERS1_CONF : FRef := ⟨YZ_MEMBERS1, 0, 16⟩
def YZ_MEMBERS2 : Nat := 0xC0008
def YZ_MEMBERS2_HEARD : FRef := ⟨YZ_MEMBERS2, 16, 16⟩
def YZ_MEMBERS2_CONF : FRef := ⟨YZ_MEMBERS2, 0, 16⟩
def YZ_MEMBERS3 : Nat := 0xC000C
def YZ_MEMBERS3_HEARD : FRef := ⟨YZ_MEMBERS3, 16, 16⟩
def YZ_MEMBERS3_CONF : FRef := ⟨YZ_MEMBERS3, 0, 16⟩
def YZ_COORD1 : Nat := 0xC0010
def YZ_COORD1_VALID : FRef := ⟨YZ_COORD1, 31, 1⟩
def YZ_COORD1_SELF : FRef := ⟨YZ_COORD1, 30, 1⟩
def YZ_COORD1_ADDR : FRef := ⟨YZ_COORD1, 0, 12⟩
def YZ_COORD2 : Nat := 0xC0014
def YZ_COORD2_VALID : FRef := ⟨YZ_COORD2, 31, 1⟩
def YZ_COORD2_SELF : FRef := ⟨YZ_COORD2, 30, 1⟩
def YZ_COORD2_ADDR : FRef := ⟨YZ_COORD2, 0, 12⟩
def YZ_COORD3 : Nat := 0xC0018
def YZ_COORD3_VALID : FRef := ⟨YZ_COORD3, 31, 1⟩
def YZ_COORD3_SELF : FRef := ⟨YZ_COORD3, 30, 1⟩
def YZ_COORD3_ADDR : FRef := ⟨YZ_COORD3, 0, 12⟩
def YZ_ROUTE (m : Nat) : Nat := 0xC0040 + m * 0x4
def YZ_ROUTE_VALID (m : Nat) : FRef := ⟨YZ_ROUTE m, 4, 1⟩
def YZ_ROUTE_PORT (m : Nat) : FRef := ⟨YZ_ROUTE m, 0, 4⟩
def YZ_CAP_TUN (l : Nat) : Nat := 0xC0080 + l * 0x10
def YZ_CAP_TUN_VALUE (l : Nat) : FRef := ⟨YZ_CAP_TUN l, 0, 32⟩
def YZ_CAP_DEC (l : Nat) : Nat := 0xC0084 + l * 0x10
def YZ_CAP_DEC_VALUE (l : Nat) : FRef := ⟨YZ_CAP_DEC l, 0, 32⟩
def YZ_CAP_CMP (l : Nat) : Nat := 0xC0088 + l * 0x10
def YZ_CAP_CMP_VALUE (l : Nat) : FRef := ⟨YZ_CAP_CMP l, 0, 32⟩
def YZ_CAP_LEGS (l : Nat) : Nat := 0xC008C + l * 0x10
def YZ_CAP_LEGS_VALUE (l : Nat) : FRef := ⟨YZ_CAP_LEGS l, 0, 32⟩
def YZ_UDP_CFG : Nat := 0xC00C0
def YZ_UDP_CFG_PORT : FRef := ⟨YZ_UDP_CFG, 16, 16⟩
def YZ_UDP_CFG_MAC : FRef := ⟨YZ_UDP_CFG, 8, 5⟩
def YZ_UDP_CFG_IPV6 : FRef := ⟨YZ_UDP_CFG, 1, 1⟩
def YZ_UDP_CFG_EN : FRef := ⟨YZ_UDP_CFG, 0, 1⟩
def YZ_PEER_CTRL (i : Nat) : Nat := 0xC0100 + i * 0x20
def YZ_PEER_CTRL_VALID (i : Nat) : FRef := ⟨YZ_PEER_CTRL i, 31, 1⟩
def YZ_PEER_CTRL_ADDR (i : Nat) : FRef := ⟨YZ_PEER_CTRL i, 0, 12⟩
def YZ_PEER_IP0 (i : Nat) : Nat := 0xC0104 + i * 0x20
def YZ_PEER_IP0_ADDR (i : Nat) : FRef := ⟨YZ_PEER_IP0 i, 0, 32⟩
def YZ_PEER_IP1 (i : Nat) : Nat := 0xC0108 + i * 0x20
def YZ_PEER_IP1_ADDR (i : Nat) : FRef := ⟨YZ_PEER_IP1 i, 0, 32⟩
def YZ_PEER_IP2 (i : Nat) : Nat := 0xC010C + i * 0x20
def YZ_PEER_IP2_ADDR (i : Nat) : FRef := ⟨YZ_PEER_IP2 i, 0, 32⟩
def YZ_PEER_IP3 (i : Nat) : Nat := 0xC0110 + i * 0x20
def YZ_PEER_IP3_ADDR (i : Nat) : FRef := ⟨YZ_PEER_IP3 i, 0, 32⟩
def YZ_CNT_MSG_CHK : Nat := 0xC0900
def YZ_CNT_MSG_CHK_COUNT : FRef := ⟨YZ_CNT_MSG_CHK, 0, 32⟩
def YZ_CNT_UNKNOWN : Nat := 0xC0904
def YZ_CNT_UNKNOWN_COUNT : FRef := ⟨YZ_CNT_UNKNOWN, 0, 32⟩
def YZ_CNT_UDP_RETX : Nat := 0xC0908
def YZ_CNT_UDP_RETX_COUNT : FRef := ⟨YZ_CNT_UDP_RETX, 0, 32⟩
def YZ_PORT_CFG (p : Nat) : Nat := 0xC1000 + p * 0x100
def YZ_PORT_CFG_MAX_RATE (p : Nat) : FRef := ⟨YZ_PORT_CFG p, 28, 4⟩
def YZ_PORT_CFG_WIDTH (p : Nat) : FRef := ⟨YZ_PORT_CFG p, 26, 2⟩
def YZ_PORT_CFG_EN (p : Nat) : FRef := ⟨YZ_PORT_CFG p, 0, 1⟩
def YZ_PORT_STAT (p : Nat) : Nat := 0xC1004 + p * 0x100
def YZ_PORT_STAT_RATE (p : Nat) : FRef := ⟨YZ_PORT_STAT p, 28, 4⟩
def YZ_PORT_STAT_WIDTH (p : Nat) : FRef := ⟨YZ_PORT_STAT p, 26, 2⟩
def YZ_PORT_STAT_PEER (p : Nat) : FRef := ⟨YZ_PORT_STAT p, 12, 12⟩
def YZ_PORT_STAT_STATE (p : Nat) : FRef := ⟨YZ_PORT_STAT p, 1, 3⟩
def YZ_PORT_STAT_UP (p : Nat) : FRef := ⟨YZ_PORT_STAT p, 0, 1⟩
def YZ_PORT_SEQ (p : Nat) : Nat := 0xC1008 + p * 0x100
def YZ_PORT_SEQ_NEXT_TX (p : Nat) : FRef := ⟨YZ_PORT_SEQ p, 16, 12⟩
def YZ_PORT_SEQ_OUTSTANDING (p : Nat) : FRef := ⟨YZ_PORT_SEQ p, 0, 12⟩
def YZ_PORT_CREDIT (p : Nat) (v : Nat) : Nat := 0xC1010 + p * 0x100 + v * 0x4
def YZ_PORT_CREDIT_OCC (p : Nat) (v : Nat) : FRef := ⟨YZ_PORT_CREDIT p v, 16, 12⟩
def YZ_PORT_CREDIT_CREDITS (p : Nat) (v : Nat) : FRef := ⟨YZ_PORT_CREDIT p v, 0, 12⟩
def YZ_PORT_CNT_CRC (p : Nat) : Nat := 0xC1040 + p * 0x100
def YZ_PORT_CNT_CRC_COUNT (p : Nat) : FRef := ⟨YZ_PORT_CNT_CRC p, 0, 32⟩
def YZ_PORT_CNT_DISCARD (p : Nat) : Nat := 0xC1044 + p * 0x100
def YZ_PORT_CNT_DISCARD_COUNT (p : Nat) : FRef := ⟨YZ_PORT_CNT_DISCARD p, 0, 32⟩
def YZ_PORT_CNT_REPLAY (p : Nat) : Nat := 0xC1048 + p * 0x100
def YZ_PORT_CNT_REPLAY_COUNT (p : Nat) : FRef := ⟨YZ_PORT_CNT_REPLAY p, 0, 32⟩
def YZ_PORT_CNT_RETRAIN (p : Nat) : Nat := 0xC104C + p * 0x100
def YZ_PORT_CNT_RETRAIN_COUNT (p : Nat) : FRef := ⟨YZ_PORT_CNT_RETRAIN p, 0, 32⟩
def RDN_CFG : Nat := 0xD0000
def RDN_CFG_PEER : FRef := ⟨RDN_CFG, 20, 12⟩
def RDN_CFG_ARB : FRef := ⟨RDN_CFG, 16, 2⟩
def RDN_CFG_MEDIA : FRef := ⟨RDN_CFG, 3, 1⟩
def RDN_CFG_PREFER : FRef := ⟨RDN_CFG, 2, 1⟩
def RDN_CFG_MODE : FRef := ⟨RDN_CFG, 0, 2⟩
def RDN_CFG2 : Nat := 0xD0004
def RDN_CFG2_LEASE_MS : FRef := ⟨RDN_CFG2, 24, 8⟩
def RDN_CFG2_RENEW : FRef := ⟨RDN_CFG2, 16, 8⟩
def RDN_CFG2_DEAD : FRef := ⟨RDN_CFG2, 8, 8⟩
def RDN_CFG2_RACK_LEAD : FRef := ⟨RDN_CFG2, 0, 8⟩
def RDN_CFG3 : Nat := 0xD0008
def RDN_CFG3_SEQ_RSV : FRef := ⟨RDN_CFG3, 16, 16⟩
def RDN_CFG3_SWAP_DAYS : FRef := ⟨RDN_CFG3, 8, 8⟩
def RDN_CFG3_GUARD_US : FRef := ⟨RDN_CFG3, 0, 8⟩
def RDN_ARB : Nat := 0xD000C
def RDN_ARB_ADDR : FRef := ⟨RDN_ARB, 0, 12⟩
def RDN_JOURNAL_LO : Nat := 0xD0010
def RDN_JOURNAL_LO_ADDR : FRef := ⟨RDN_JOURNAL_LO, 0, 32⟩
def RDN_JOURNAL_HI : Nat := 0xD0014
def RDN_JOURNAL_HI_ADDR : FRef := ⟨RDN_JOURNAL_HI, 0, 32⟩
def RDN_CTRL : Nat := 0xD0020
def RDN_CTRL_RESYNC : FRef := ⟨RDN_CTRL, 1, 1⟩
def RDN_CTRL_SWAP : FRef := ⟨RDN_CTRL, 0, 1⟩
def RDN_STAT : Nat := 0xD0024
def RDN_STAT_DAYS : FRef := ⟨RDN_STAT, 16, 16⟩
def RDN_STAT_PEER_HEARD : FRef := ⟨RDN_STAT, 6, 1⟩
def RDN_STAT_READY : FRef := ⟨RDN_STAT, 5, 1⟩
def RDN_STAT_DEGRADED : FRef := ⟨RDN_STAT, 4, 1⟩
def RDN_STAT_LEASE : FRef := ⟨RDN_STAT, 3, 1⟩
def RDN_STAT_ROLE : FRef := ⟨RDN_STAT, 0, 3⟩
def RDN_GYLE_LO : Nat := 0xD0028
def RDN_GYLE_LO_VALUE : FRef := ⟨RDN_GYLE_LO, 0, 32⟩
def RDN_GYLE_HI : Nat := 0xD002C
def RDN_GYLE_HI_VALUE : FRef := ⟨RDN_GYLE_HI, 0, 32⟩
def RDN_GYLE_SEEN_LO : Nat := 0xD0030
def RDN_GYLE_SEEN_LO_VALUE : FRef := ⟨RDN_GYLE_SEEN_LO, 0, 32⟩
def RDN_GYLE_SEEN_HI : Nat := 0xD0034
def RDN_GYLE_SEEN_HI_VALUE : FRef := ⟨RDN_GYLE_SEEN_HI, 0, 32⟩
def RDN_RACK_SEQ_LO : Nat := 0xD0038
def RDN_RACK_SEQ_LO_VALUE : FRef := ⟨RDN_RACK_SEQ_LO, 0, 32⟩
def RDN_RACK_SEQ_HI : Nat := 0xD003C
def RDN_RACK_SEQ_HI_VALUE : FRef := ⟨RDN_RACK_SEQ_HI, 0, 32⟩
def RDN_RACK_ACK_LO : Nat := 0xD0040
def RDN_RACK_ACK_LO_VALUE : FRef := ⟨RDN_RACK_ACK_LO, 0, 32⟩
def RDN_RACK_ACK_HI : Nat := 0xD0044
def RDN_RACK_ACK_HI_VALUE : FRef := ⟨RDN_RACK_ACK_HI, 0, 32⟩
def RDN_LEASE_REM : Nat := 0xD0048
def RDN_LEASE_REM_US : FRef := ⟨RDN_LEASE_REM, 0, 32⟩
def RDN_HG_REQ : Nat := 0xD0050
def RDN_HG_REQ_VALUE : FRef := ⟨RDN_HG_REQ, 0, 32⟩
def RDN_HG_REQ_GYLE_LO : Nat := 0xD0054
def RDN_HG_REQ_GYLE_LO_VALUE : FRef := ⟨RDN_HG_REQ_GYLE_LO, 0, 32⟩
def RDN_HG_REQ_GYLE_HI : Nat := 0xD0058
def RDN_HG_REQ_GYLE_HI_VALUE : FRef := ⟨RDN_HG_REQ_GYLE_HI, 0, 32⟩
def RDN_HG_CMD : Nat := 0xD005C
def RDN_HG_CMD_OP : FRef := ⟨RDN_HG_CMD, 28, 4⟩
def RDN_HG_CMD_DUR_MS : FRef := ⟨RDN_HG_CMD, 23, 5⟩
def RDN_HG_CMD_LSEQ : FRef := ⟨RDN_HG_CMD, 0, 16⟩
def RDN_CNT_DISCARD : Nat := 0xD0080
def RDN_CNT_DISCARD_COUNT : FRef := ⟨RDN_CNT_DISCARD, 0, 32⟩
def RDN_CNT_RESEND : Nat := 0xD0084
def RDN_CNT_RESEND_COUNT : FRef := ⟨RDN_CNT_RESEND, 0, 32⟩
def RDN_CNT_TAKEOVER : Nat := 0xD0088
def RDN_CNT_TAKEOVER_COUNT : FRef := ⟨RDN_CNT_TAKEOVER, 0, 32⟩
def RDN_CNT_GYLE_STOP : Nat := 0xD008C
def RDN_CNT_GYLE_STOP_COUNT : FRef := ⟨RDN_CNT_GYLE_STOP, 0, 32⟩
def CHK_UNIT_CFG (u : Nat) : Nat := 0x70000 + u * 0x40
def CHK_UNIT_CFG_REFOUT (u : Nat) : FRef := ⟨CHK_UNIT_CFG u, 7, 1⟩
def CHK_UNIT_CFG_REFIN (u : Nat) : FRef := ⟨CHK_UNIT_CFG u, 6, 1⟩
def CHK_UNIT_CFG_WIDTH (u : Nat) : FRef := ⟨CHK_UNIT_CFG u, 4, 2⟩
def CHK_UNIT_CFG_ALG (u : Nat) : FRef := ⟨CHK_UNIT_CFG u, 0, 3⟩
def CHK_UNIT_POLY (u : Nat) : Nat := 0x70004 + u * 0x40
def CHK_UNIT_POLY_VALUE (u : Nat) : FRef := ⟨CHK_UNIT_POLY u, 0, 32⟩
def CHK_UNIT_INIT (u : Nat) : Nat := 0x70008 + u * 0x40
def CHK_UNIT_INIT_VALUE (u : Nat) : FRef := ⟨CHK_UNIT_INIT u, 0, 32⟩
def CHK_UNIT_XOROUT (u : Nat) : Nat := 0x7000C + u * 0x40
def CHK_UNIT_XOROUT_VALUE (u : Nat) : FRef := ⟨CHK_UNIT_XOROUT u, 0, 32⟩
def CHK_UNIT_CTRL (u : Nat) : Nat := 0x70010 + u * 0x40
def CHK_UNIT_CTRL_ALIVE_RST (u : Nat) : FRef := ⟨CHK_UNIT_CTRL u, 1, 1⟩
def CHK_UNIT_CTRL_START (u : Nat) : FRef := ⟨CHK_UNIT_CTRL u, 0, 1⟩
def CHK_UNIT_VALUE (u : Nat) : Nat := 0x70014 + u * 0x40
def CHK_UNIT_VALUE_VALUE (u : Nat) : FRef := ⟨CHK_UNIT_VALUE u, 0, 32⟩
def CHK_UNIT_FEED_B (u : Nat) : Nat := 0x70018 + u * 0x40
def CHK_UNIT_FEED_B_DATA (u : Nat) : FRef := ⟨CHK_UNIT_FEED_B u, 0, 32⟩
def CHK_UNIT_FEED_H (u : Nat) : Nat := 0x7001C + u * 0x40
def CHK_UNIT_FEED_H_DATA (u : Nat) : FRef := ⟨CHK_UNIT_FEED_H u, 0, 32⟩
def CHK_UNIT_FEED_W (u : Nat) : Nat := 0x70020 + u * 0x40
def CHK_UNIT_FEED_W_DATA (u : Nat) : FRef := ⟨CHK_UNIT_FEED_W u, 0, 32⟩
def CHK_UNIT_RESULT (u : Nat) : Nat := 0x70024 + u * 0x40
def CHK_UNIT_RESULT_RESULT (u : Nat) : FRef := ⟨CHK_UNIT_RESULT u, 0, 32⟩
def CHK_UNIT_ALIVE (u : Nat) : Nat := 0x70028 + u * 0x40
def CHK_UNIT_ALIVE_SKIPPED (u : Nat) : FRef := ⟨CHK_UNIT_ALIVE u, 16, 8⟩
def CHK_UNIT_ALIVE_VERDICT (u : Nat) : FRef := ⟨CHK_UNIT_ALIVE u, 8, 2⟩
def CHK_UNIT_ALIVE_VALUE (u : Nat) : FRef := ⟨CHK_UNIT_ALIVE u, 0, 8⟩
def CHK_UNIT_STAT (u : Nat) : Nat := 0x7002C + u * 0x40
def CHK_UNIT_STAT_FEEDS (u : Nat) : FRef := ⟨CHK_UNIT_STAT u, 16, 16⟩
def CHK_UNIT_STAT_CAUSE (u : Nat) : FRef := ⟨CHK_UNIT_STAT u, 8, 8⟩
def CHK_UNIT_STAT_DEVICE (u : Nat) : FRef := ⟨CHK_UNIT_STAT u, 1, 1⟩
def CHK_UNIT_STAT_FENCED (u : Nat) : FRef := ⟨CHK_UNIT_STAT u, 0, 1⟩
def CHK_UNIT_CNT_ALIVE (u : Nat) : Nat := 0x70030 + u * 0x40
def CHK_UNIT_CNT_ALIVE_CNT_REPEAT (u : Nat) : FRef := ⟨CHK_UNIT_CNT_ALIVE u, 16, 16⟩
def CHK_UNIT_CNT_ALIVE_CNT_SKIP (u : Nat) : FRef := ⟨CHK_UNIT_CNT_ALIVE u, 0, 16⟩
def CHK_ASSIGN_LO : Nat := 0x70800
def CHK_ASSIGN_LO_UNITS : FRef := ⟨CHK_ASSIGN_LO, 0, 32⟩
def CHK_ASSIGN_HI : Nat := 0x70804
def CHK_ASSIGN_HI_UNITS : FRef := ⟨CHK_ASSIGN_HI, 0, 32⟩
def DRM_CH_CFG (c : Nat) : Nat := 0xE0000 + c * 0x800
def DRM_CH_CFG_DENSITY (c : Nat) : FRef := ⟨DRM_CH_CFG c, 4, 3⟩
def DRM_CH_CFG_BYTE_MODE (c : Nat) : FRef := ⟨DRM_CH_CFG c, 2, 1⟩
def DRM_CH_CFG_RANKS (c : Nat) : FRef := ⟨DRM_CH_CFG c, 1, 1⟩
def DRM_CH_CFG_EN (c : Nat) : FRef := ⟨DRM_CH_CFG c, 0, 1⟩
def DRM_CH_SCHED (c : Nat) : Nat := 0xE0004 + c * 0x800
def DRM_CH_SCHED_WR_AGE (c : Nat) : FRef := ⟨DRM_CH_SCHED c, 16, 16⟩
def DRM_CH_SCHED_WR_HIGH (c : Nat) : FRef := ⟨DRM_CH_SCHED c, 8, 8⟩
def DRM_CH_SCHED_WR_LOW (c : Nat) : FRef := ⟨DRM_CH_SCHED c, 0, 8⟩
def DRM_CH_PWR (c : Nat) : Nat := 0xE0008 + c * 0x800
def DRM_CH_PWR_PD_IDLE (c : Nat) : FRef := ⟨DRM_CH_PWR c, 16, 16⟩
def DRM_CH_PWR_PD_EN (c : Nat) : FRef := ⟨DRM_CH_PWR c, 0, 1⟩
def DRM_CH_PASR (c : Nat) : Nat := 0xE000C + c * 0x800
def DRM_CH_PASR_RANK1 (c : Nat) : FRef := ⟨DRM_CH_PASR c, 8, 8⟩
def DRM_CH_PASR_RANK0 (c : Nat) : FRef := ⟨DRM_CH_PASR c, 0, 8⟩
def DRM_CH_CTRL (c : Nat) : Nat := 0xE0010 + c * 0x800
def DRM_CH_CTRL_SAVE (c : Nat) : FRef := ⟨DRM_CH_CTRL c, 4, 1⟩
def DRM_CH_CTRL_MODE (c : Nat) : FRef := ⟨DRM_CH_CTRL c, 0, 1⟩
def DRM_CH_STAT (c : Nat) : Nat := 0xE0014 + c * 0x800
def DRM_CH_STAT_RATE (c : Nat) : FRef := ⟨DRM_CH_STAT c, 28, 4⟩
def DRM_CH_STAT_REFRESH (c : Nat) : FRef := ⟨DRM_CH_STAT c, 20, 4⟩
def DRM_CH_STAT_PD (c : Nat) : FRef := ⟨DRM_CH_STAT c, 16, 2⟩
def DRM_CH_STAT_SRC (c : Nat) : FRef := ⟨DRM_CH_STAT c, 12, 2⟩
def DRM_CH_STAT_STATE (c : Nat) : FRef := ⟨DRM_CH_STAT c, 0, 4⟩
def DRM_CH_SCRUB (c : Nat) : Nat := 0xE0018 + c * 0x800
def DRM_CH_SCRUB_PASSES (c : Nat) : FRef := ⟨DRM_CH_SCRUB c, 26, 6⟩
def DRM_CH_SCRUB_BLOCK (c : Nat) : FRef := ⟨DRM_CH_SCRUB c, 0, 26⟩
def DRM_CH_CNT_CE (c : Nat) : Nat := 0xE0020 + c * 0x800
def DRM_CH_CNT_CE_COUNT (c : Nat) : FRef := ⟨DRM_CH_CNT_CE c, 0, 32⟩
def DRM_CH_CNT_UE (c : Nat) : Nat := 0xE0024 + c * 0x800
def DRM_CH_CNT_UE_COUNT (c : Nat) : FRef := ⟨DRM_CH_CNT_UE c, 0, 32⟩
def DRM_CH_CNT_RETRY (c : Nat) : Nat := 0xE0028 + c * 0x800
def DRM_CH_CNT_RETRY_COUNT (c : Nat) : FRef := ⟨DRM_CH_CNT_RETRY c, 0, 32⟩
def DRM_CH_CNT_POISON (c : Nat) : Nat := 0xE002C + c * 0x800
def DRM_CH_CNT_POISON_COUNT (c : Nat) : FRef := ⟨DRM_CH_CNT_POISON c, 0, 32⟩
def DRM_CH_CNT_FWD (c : Nat) : Nat := 0xE0030 + c * 0x800
def DRM_CH_CNT_FWD_COUNT (c : Nat) : FRef := ⟨DRM_CH_CNT_FWD c, 0, 32⟩
def DRM_CH_CNT_HITDRAIN (c : Nat) : Nat := 0xE0034 + c * 0x800
def DRM_CH_CNT_HITDRAIN_COUNT (c : Nat) : FRef := ⟨DRM_CH_CNT_HITDRAIN c, 0, 32⟩
def DRM_CFG : Nat := 0xEC000
def DRM_CFG_SCRUB_HOURS : FRef := ⟨DRM_CFG, 24, 8⟩
def DRM_CFG_RATE : FRef := ⟨DRM_CFG, 16, 4⟩
def DRM_CFG_ALT_RATE : FRef := ⟨DRM_CFG, 12, 4⟩
def DRM_CFG_USE_ALT : FRef := ⟨DRM_CFG, 8, 1⟩
def DRM_MAP : Nat := 0xEC004
def DRM_MAP_USABLE_GIB : FRef := ⟨DRM_MAP, 8, 8⟩
def DRM_MAP_GLOBAL_GIB : FRef := ⟨DRM_MAP, 0, 5⟩
def DRM_STAT : Nat := 0xEC008
def DRM_STAT_READY : FRef := ⟨DRM_STAT, 0, 24⟩
def DRM_XLATE_LO : Nat := 0xEC010
def DRM_XLATE_LO_ADDR : FRef := ⟨DRM_XLATE_LO, 0, 32⟩
def DRM_XLATE_HI : Nat := 0xEC014
def DRM_XLATE_HI_ADDR : FRef := ⟨DRM_XLATE_HI, 0, 32⟩
def DRM_XLATE_CH : Nat := 0xEC018
def DRM_XLATE_CH_CHANNEL : FRef := ⟨DRM_XLATE_CH, 16, 5⟩
def DRM_XLATE_CH_RANK : FRef := ⟨DRM_XLATE_CH, 12, 1⟩
def DRM_XLATE_CH_BURST : FRef := ⟨DRM_XLATE_CH, 9, 3⟩
def DRM_XLATE_CH_VALID : FRef := ⟨DRM_XLATE_CH, 0, 1⟩
def DRM_XLATE_PHYS_LO : Nat := 0xEC01C
def DRM_XLATE_PHYS_LO_ADDR : FRef := ⟨DRM_XLATE_PHYS_LO, 0, 32⟩
def DRM_XLATE_PHYS_HI : Nat := 0xEC020
def DRM_XLATE_PHYS_HI_ADDR : FRef := ⟨DRM_XLATE_PHYS_HI, 0, 32⟩
def DRM_TR_CMD (c : Nat) : Nat := 0xF0000 + c * 0x400
def DRM_TR_CMD_OP (c : Nat) : FRef := ⟨DRM_TR_CMD c, 28, 4⟩
def DRM_TR_CMD_RANK (c : Nat) : FRef := ⟨DRM_TR_CMD c, 24, 1⟩
def DRM_TR_CMD_COUNT (c : Nat) : FRef := ⟨DRM_TR_CMD c, 0, 13⟩
def DRM_TR_STAT (c : Nat) : Nat := 0xF0004 + c * 0x400
def DRM_TR_STAT_ERR (c : Nat) : FRef := ⟨DRM_TR_STAT c, 4, 4⟩
def DRM_TR_STAT_INVALID (c : Nat) : FRef := ⟨DRM_TR_STAT c, 1, 1⟩
def DRM_TR_STAT_READY (c : Nat) : FRef := ⟨DRM_TR_STAT c, 0, 1⟩
def DRM_TR_PATCFG (c : Nat) : Nat := 0xF0008 + c * 0x400
def DRM_TR_PATCFG_SEED (c : Nat) : FRef := ⟨DRM_TR_PATCFG c, 8, 24⟩
def DRM_TR_PATCFG_KIND (c : Nat) : FRef := ⟨DRM_TR_PATCFG c, 0, 2⟩
def DRM_TR_SWEEP (c : Nat) : Nat := 0xF000C + c * 0x400
def DRM_TR_SWEEP_PARAM (c : Nat) : FRef := ⟨DRM_TR_SWEEP c, 28, 4⟩
def DRM_TR_SWEEP_MIN (c : Nat) : FRef := ⟨DRM_TR_SWEEP c, 16, 8⟩
def DRM_TR_SWEEP_MAX (c : Nat) : FRef := ⟨DRM_TR_SWEEP c, 8, 8⟩
def DRM_TR_SWEEP_STEP (c : Nat) : FRef := ⟨DRM_TR_SWEEP c, 0, 8⟩
def DRM_TR_USER (c : Nat) (i : Nat) : Nat := 0xF0040 + c * 0x400 + i * 0x4
def DRM_TR_USER_WORD (c : Nat) (i : Nat) : FRef := ⟨DRM_TR_USER c i, 0, 32⟩
def DRM_TR_ERR (c : Nat) (b : Nat) : Nat := 0xF0100 + c * 0x400 + b * 0x4
def DRM_TR_ERR_COUNT (c : Nat) (b : Nat) : FRef := ⟨DRM_TR_ERR c b, 0, 32⟩
def DRM_TR_EDGE (c : Nat) (b : Nat) : Nat := 0xF0200 + c * 0x400 + b * 0x4
def DRM_TR_EDGE_LEFT (c : Nat) (b : Nat) : FRef := ⟨DRM_TR_EDGE c b, 16, 8⟩
def DRM_TR_EDGE_RIGHT (c : Nat) (b : Nat) : FRef := ⟨DRM_TR_EDGE c b, 8, 8⟩
def DRM_TR_EDGE_CENTRE (c : Nat) (b : Nat) : FRef := ⟨DRM_TR_EDGE c b, 0, 8⟩
def CLK_PLL_CFG (p : Nat) : Nat := 0x10000 + p * 0x10
def CLK_PLL_CFG_REF (p : Nat) : FRef := ⟨CLK_PLL_CFG p, 0, 2⟩
def CLK_PLL_STAT (p : Nat) : Nat := 0x10004 + p * 0x10
def CLK_PLL_STAT_HOLDOVER (p : Nat) : FRef := ⟨CLK_PLL_STAT p, 2, 1⟩
def CLK_PLL_STAT_ROOT (p : Nat) : FRef := ⟨CLK_PLL_STAT p, 1, 1⟩
def CLK_PLL_STAT_LOCK (p : Nat) : FRef := ⟨CLK_PLL_STAT p, 0, 1⟩
def CLK_TRIM_CFG : Nat := 0x10100
def CLK_TRIM_CFG_YZ_PORT : FRef := ⟨CLK_TRIM_CFG, 4, 4⟩
def CLK_TRIM_CFG_SRC : FRef := ⟨CLK_TRIM_CFG, 0, 3⟩
def CLK_TRIM_STAT : Nat := 0x10104
def CLK_TRIM_STAT_TRIM_PPB : FRef := ⟨CLK_TRIM_STAT, 12, 20⟩
def CLK_TRIM_STAT_HELD : FRef := ⟨CLK_TRIM_STAT, 1, 1⟩
def CLK_TRIM_STAT_TRACKING : FRef := ⟨CLK_TRIM_STAT, 0, 1⟩
def CLK_FAIL_LO : Nat := 0x10200
def CLK_FAIL_LO_FAILED : FRef := ⟨CLK_FAIL_LO, 0, 32⟩
def CLK_FAIL_HI : Nat := 0x10204
def CLK_FAIL_HI_FAILED : FRef := ⟨CLK_FAIL_HI, 0, 32⟩
def CLK_CNT_FORCED : Nat := 0x10208
def CLK_CNT_FORCED_COUNT : FRef := ⟨CLK_CNT_FORCED, 0, 32⟩
def CLK_MON_CFG (m : Nat) : Nat := 0x11000 + m * 0x10
def CLK_MON_CFG_STABLE_MS (m : Nat) : FRef := ⟨CLK_MON_CFG m, 16, 16⟩
def CLK_MON_CFG_TOL_PPM (m : Nat) : FRef := ⟨CLK_MON_CFG m, 4, 12⟩
def CLK_MON_CFG_EN (m : Nat) : FRef := ⟨CLK_MON_CFG m, 0, 1⟩
def CLK_MON_STAT (m : Nat) : Nat := 0x11004 + m * 0x10
def CLK_MON_STAT_DEV_PPM (m : Nat) : FRef := ⟨CLK_MON_STAT m, 16, 16⟩
def CLK_MON_STAT_STOPPED (m : Nat) : FRef := ⟨CLK_MON_STAT m, 2, 1⟩
def CLK_MON_STAT_FAILED (m : Nat) : FRef := ⟨CLK_MON_STAT m, 1, 1⟩
def CLK_MON_STAT_OK (m : Nat) : FRef := ⟨CLK_MON_STAT m, 0, 1⟩
def CLK_MON_FREQ (m : Nat) : Nat := 0x11008 + m * 0x10
def CLK_MON_FREQ_HZ (m : Nat) : FRef := ⟨CLK_MON_FREQ m, 0, 32⟩
def CLK_GATE (n : Nat) : Nat := 0x12000 + n * 0x4
def CLK_GATE_STATE (n : Nat) : FRef := ⟨CLK_GATE n, 4, 2⟩
def CLK_GATE_DEEP (n : Nat) : FRef := ⟨CLK_GATE n, 2, 1⟩
def CLK_GATE_SLEEP (n : Nat) : FRef := ⟨CLK_GATE n, 1, 1⟩
def CLK_GATE_RUN (n : Nat) : FRef := ⟨CLK_GATE n, 0, 1⟩
def PWR_MODE : Nat := 0x20000
def PWR_MODE_CUR : FRef := ⟨PWR_MODE, 8, 3⟩
def PWR_MODE_REQ : FRef := ⟨PWR_MODE, 0, 2⟩
def PWR_WAKE : Nat := 0x20004
def PWR_WAKE_TRIGGER : FRef := ⟨PWR_WAKE, 8, 6⟩
def PWR_WAKE_TRIG_EN : FRef := ⟨PWR_WAKE, 1, 1⟩
def PWR_WAKE_PIN_EN : FRef := ⟨PWR_WAKE, 0, 1⟩
def PWR_PD_CTRL : Nat := 0x20010
def PWR_PD_CTRL_ON : FRef := ⟨PWR_PD_CTRL, 0, 24⟩
def PWR_PD_STAT : Nat := 0x20014
def PWR_PD_STAT_ON : FRef := ⟨PWR_PD_STAT, 0, 24⟩
def PWR_AVS_CFG : Nat := 0x20020
def PWR_AVS_CFG_MARGIN_MV : FRef := ⟨PWR_AVS_CFG, 8, 6⟩
def PWR_AVS_CFG_EN : FRef := ⟨PWR_AVS_CFG, 0, 1⟩
def PWR_AVS_STAT : Nat := 0x20024
def PWR_AVS_STAT_REQ_MV : FRef := ⟨PWR_AVS_STAT, 16, 16⟩
def PWR_AVS_STAT_FAULT : FRef := ⟨PWR_AVS_STAT, 1, 1⟩
def PWR_AVS_STAT_BUSY : FRef := ⟨PWR_AVS_STAT, 0, 1⟩
def PWR_CNT_GATE_ERR : Nat := 0x20030
def PWR_CNT_GATE_ERR_COUNT : FRef := ⟨PWR_CNT_GATE_ERR, 0, 32⟩
def PWR_CNT_AVS_ERR : Nat := 0x20034
def PWR_CNT_AVS_ERR_COUNT : FRef := ⟨PWR_CNT_AVS_ERR, 0, 32⟩
def THM_CFG : Nat := 0x30000
def THM_CFG_SHED_PER_ROUND : FRef := ⟨THM_CFG, 16, 8⟩
def THM_CFG_HYST : FRef := ⟨THM_CFG, 8, 4⟩
def THM_CFG_STEP_ROUNDS : FRef := ⟨THM_CFG, 0, 8⟩
def THM_ROUND : Nat := 0x30004
def THM_ROUND_FIRST_DONE : FRef := ⟨THM_ROUND, 31, 1⟩
def THM_ROUND_COUNT : FRef := ⟨THM_ROUND, 0, 31⟩
def THM_CNT_SHED : Nat := 0x3000C
def THM_CNT_SHED_COUNT : FRef := ⟨THM_CNT_SHED, 0, 32⟩
def THM_ZONE_LIM_A (z : Nat) : Nat := 0x30100 + z * 0x10
def THM_ZONE_LIM_A_HOT_THROTTLE (z : Nat) : FRef := ⟨THM_ZONE_LIM_A z, 24, 8⟩
def THM_ZONE_LIM_A_HOT_WARN (z : Nat) : FRef := ⟨THM_ZONE_LIM_A z, 16, 8⟩
def THM_ZONE_LIM_A_COLD_WARN (z : Nat) : FRef := ⟨THM_ZONE_LIM_A z, 8, 8⟩
def THM_ZONE_LIM_A_COLD_LIMIT (z : Nat) : FRef := ⟨THM_ZONE_LIM_A z, 0, 8⟩
def THM_ZONE_LIM_B (z : Nat) : Nat := 0x30104 + z * 0x10
def THM_ZONE_LIM_B_HOT_CRIT (z : Nat) : FRef := ⟨THM_ZONE_LIM_B z, 0, 8⟩
def THM_ZONE_STAT (z : Nat) : Nat := 0x30108 + z * 0x10
def THM_ZONE_STAT_STATE (z : Nat) : FRef := ⟨THM_ZONE_STAT z, 24, 3⟩
def THM_ZONE_STAT_SHEDDING (z : Nat) : FRef := ⟨THM_ZONE_STAT z, 23, 1⟩
def THM_ZONE_STAT_DEMAND (z : Nat) : FRef := ⟨THM_ZONE_STAT z, 16, 3⟩
def THM_ZONE_STAT_T_COLD (z : Nat) : FRef := ⟨THM_ZONE_STAT z, 8, 8⟩
def THM_ZONE_STAT_T_HOT (z : Nat) : FRef := ⟨THM_ZONE_STAT z, 0, 8⟩
def THM_SENS (i : Nat) : Nat := 0x30400 + i * 0x8
def THM_SENS_REJOIN (i : Nat) : FRef := ⟨THM_SENS i, 17, 1⟩
def THM_SENS_BROKEN (i : Nat) : FRef := ⟨THM_SENS i, 16, 1⟩
def THM_SENS_TEMP (i : Nat) : FRef := ⟨THM_SENS i, 0, 12⟩
def THM_SENS_NBR (i : Nat) : Nat := 0x30404 + i * 0x8
def THM_SENS_NBR_NBR0_to_NBR3 (i : Nat) : FRef := ⟨THM_SENS_NBR i, 0, 32⟩
def THM_MON (v : Nat) : Nat := 0x30800 + v * 0x4
def THM_MON_OUT (v : Nat) : FRef := ⟨THM_MON v, 16, 1⟩
def THM_MON_VALUE (v : Nat) : FRef := ⟨THM_MON v, 0, 16⟩
def CFG_BOOT_STAT : Nat := 0x40000
def CFG_BOOT_STAT_ERR : FRef := ⟨CFG_BOOT_STAT, 8, 8⟩
def CFG_BOOT_STAT_SIGNED : FRef := ⟨CFG_BOOT_STAT, 7, 1⟩
def CFG_BOOT_STAT_SLOT : FRef := ⟨CFG_BOOT_STAT, 6, 1⟩
def CFG_BOOT_STAT_COLD : FRef := ⟨CFG_BOOT_STAT, 5, 1⟩
def CFG_BOOT_STAT_STEP : FRef := ⟨CFG_BOOT_STAT, 0, 4⟩
def CFG_BOOT_CNT : Nat := 0x40004
def CFG_BOOT_CNT_VALUE : FRef := ⟨CFG_BOOT_CNT, 0, 32⟩
def CFG_BOOT_TIME : Nat := 0x40008
def CFG_BOOT_TIME_VALUE : FRef := ⟨CFG_BOOT_TIME, 0, 32⟩
def CFG_IMAGE_GEN : Nat := 0x4000C
def CFG_IMAGE_GEN_VALUE : FRef := ⟨CFG_IMAGE_GEN, 0, 32⟩
def CFG_CTRL : Nat := 0x40010
def CFG_CTRL_WARM_RESET : FRef := ⟨CFG_CTRL, 3, 1⟩
def CFG_CTRL_VIEW : FRef := ⟨CFG_CTRL, 2, 1⟩
def CFG_CTRL_DISCARD : FRef := ⟨CFG_CTRL, 1, 1⟩
def CFG_CTRL_CHECK : FRef := ⟨CFG_CTRL, 0, 1⟩
def CFG_STAGE_STAT : Nat := 0x40014
def CFG_STAGE_STAT_WRITES : FRef := ⟨CFG_STAGE_STAT, 16, 16⟩
def CFG_STAGE_STAT_RECORDS : FRef := ⟨CFG_STAGE_STAT, 5, 11⟩
def CFG_STAGE_STAT_CHECKED : FRef := ⟨CFG_STAGE_STAT, 4, 1⟩
def CFG_STAGE_STAT_OWNER : FRef := ⟨CFG_STAGE_STAT, 0, 3⟩
def CFG_CHECK_RES : Nat := 0x40018
def CFG_CHECK_RES_RULE : FRef := ⟨CFG_CHECK_RES, 8, 8⟩
def CFG_CHECK_RES_RESULT : FRef := ⟨CFG_CHECK_RES, 0, 2⟩
def CFG_CHECK_ADDR : Nat := 0x4001C
def CFG_CHECK_ADDR_WHERE : FRef := ⟨CFG_CHECK_ADDR, 0, 32⟩
def CFG_PITCH : Nat := 0x40020
def CFG_PITCH_CH : FRef := ⟨CFG_PITCH, 4, 4⟩
def CFG_PITCH_WHEN : FRef := ⟨CFG_PITCH, 1, 2⟩
def CFG_PITCH_GO : FRef := ⟨CFG_PITCH, 0, 1⟩
def CFG_PITCH_ID : Nat := 0x40024
def CFG_PITCH_ID_ID : FRef := ⟨CFG_PITCH_ID, 0, 32⟩
def CFG_PITCH_TIME_S_LO : Nat := 0x40028
def CFG_PITCH_TIME_S_LO_TIME : FRef := ⟨CFG_PITCH_TIME_S_LO, 0, 32⟩
def CFG_PITCH_TIME_S_HI : Nat := 0x4002C
def CFG_PITCH_TIME_S_HI_TIME : FRef := ⟨CFG_PITCH_TIME_S_HI, 0, 32⟩
def CFG_PITCH_TIME_NS : Nat := 0x40030
def CFG_PITCH_TIME_NS_TIME : FRef := ⟨CFG_PITCH_TIME_NS, 0, 32⟩
def CFG_PITCH_STAT : Nat := 0x40034
def CFG_PITCH_STAT_LAST_REFUSED : FRef := ⟨CFG_PITCH_STAT, 8, 1⟩
def CFG_PITCH_STAT_ERR : FRef := ⟨CFG_PITCH_STAT, 4, 4⟩
def CFG_PITCH_STAT_PENDING : FRef := ⟨CFG_PITCH_STAT, 0, 4⟩
def CFG_PITCH_LAST : Nat := 0x40038
def CFG_PITCH_LAST_ID : FRef := ⟨CFG_PITCH_LAST, 0, 32⟩
def CFG_PITCH_SEQ_LO : Nat := 0x4003C
def CFG_PITCH_SEQ_LO_SEQ : FRef := ⟨CFG_PITCH_SEQ_LO, 0, 32⟩
def CFG_PITCH_SEQ_HI : Nat := 0x40040
def CFG_PITCH_SEQ_HI_SEQ : FRef := ⟨CFG_PITCH_SEQ_HI, 0, 32⟩
def SYS_CTRL : Nat := 0x8
def SYS_CTRL_SAFE : FRef := ⟨SYS_CTRL, 0, 1⟩
def SYS_STAT : Nat := 0xC
def SYS_STAT_TEST_EN : FRef := ⟨SYS_STAT, 12, 1⟩
def SYS_STAT_MGMT_OK : FRef := ⟨SYS_STAT, 8, 2⟩
def SYS_STAT_SAFE_CAUSE : FRef := ⟨SYS_STAT, 4, 4⟩
def SYS_STAT_SAFE : FRef := ⟨SYS_STAT, 0, 1⟩
def SYS_HCP_ERR_ADDR : Nat := 0x10
def SYS_HCP_ERR_ADDR_VALID : FRef := ⟨SYS_HCP_ERR_ADDR, 31, 1⟩
def SYS_HCP_ERR_ADDR_WRITE : FRef := ⟨SYS_HCP_ERR_ADDR, 30, 1⟩
def SYS_HCP_ERR_ADDR_ADDR : FRef := ⟨SYS_HCP_ERR_ADDR, 2, 20⟩
def SYS_SNAP : Nat := 0x14
def SYS_SNAP_EXPIRED : FRef := ⟨SYS_SNAP, 2, 1⟩
def SYS_SNAP_FROZEN : FRef := ⟨SYS_SNAP, 1, 1⟩
def SYS_SNAP_FREEZE : FRef := ⟨SYS_SNAP, 0, 1⟩
def SYS_MGMT_CFG : Nat := 0x20
def SYS_MGMT_CFG_PORT : FRef := ⟨SYS_MGMT_CFG, 16, 16⟩
def SYS_MGMT_CFG_VLAN_EN : FRef := ⟨SYS_MGMT_CFG, 15, 1⟩
def SYS_MGMT_CFG_IPV6 : FRef := ⟨SYS_MGMT_CFG, 14, 1⟩
def SYS_MGMT_CFG_VID : FRef := ⟨SYS_MGMT_CFG, 0, 12⟩
def SYS_MGMT_NET : Nat := 0x24
def SYS_MGMT_NET_PREFIX : FRef := ⟨SYS_MGMT_NET, 0, 8⟩
def SYS_MGMT_IP0 : Nat := 0x28
def SYS_MGMT_IP0_ADDR : FRef := ⟨SYS_MGMT_IP0, 0, 32⟩
def SYS_MGMT_IP1 : Nat := 0x2C
def SYS_MGMT_IP1_ADDR : FRef := ⟨SYS_MGMT_IP1, 0, 32⟩
def SYS_MGMT_IP2 : Nat := 0x30
def SYS_MGMT_IP2_ADDR : FRef := ⟨SYS_MGMT_IP2, 0, 32⟩
def SYS_MGMT_IP3 : Nat := 0x34
def SYS_MGMT_IP3_ADDR : FRef := ⟨SYS_MGMT_IP3, 0, 32⟩
def SYS_MGMT_GW0 : Nat := 0x38
def SYS_MGMT_GW0_ADDR : FRef := ⟨SYS_MGMT_GW0, 0, 32⟩
def SYS_MGMT_GW1 : Nat := 0x3C
def SYS_MGMT_GW1_ADDR : FRef := ⟨SYS_MGMT_GW1, 0, 32⟩
def SYS_MGMT_GW2 : Nat := 0x40
def SYS_MGMT_GW2_ADDR : FRef := ⟨SYS_MGMT_GW2, 0, 32⟩
def SYS_MGMT_GW3 : Nat := 0x44
def SYS_MGMT_GW3_ADDR : FRef := ⟨SYS_MGMT_GW3, 0, 32⟩
def SYS_MGMT_MAC_LO : Nat := 0x48
def SYS_MGMT_MAC_LO_MAC : FRef := ⟨SYS_MGMT_MAC_LO, 0, 32⟩
def SYS_MGMT_MAC_HI : Nat := 0x4C
def SYS_MGMT_MAC_HI_MAC : FRef := ⟨SYS_MGMT_MAC_HI, 0, 32⟩
def SYS_MGMT_CNT_CRC : Nat := 0x50
def SYS_MGMT_CNT_CRC_COUNT : FRef := ⟨SYS_MGMT_CNT_CRC, 0, 32⟩
def SYS_MGMT_CNT_REPEAT : Nat := 0x54
def SYS_MGMT_CNT_REPEAT_COUNT : FRef := ⟨SYS_MGMT_CNT_REPEAT, 0, 32⟩
def SYS_MGMT_CNT_SKIP : Nat := 0x58
def SYS_MGMT_CNT_SKIP_COUNT : FRef := ⟨SYS_MGMT_CNT_SKIP, 0, 32⟩
def SYS_CASK_CMD : Nat := 0x100
def SYS_CASK_CMD_OP : FRef := ⟨SYS_CASK_CMD, 28, 4⟩
def SYS_CASK_ADDR : Nat := 0x104
def SYS_CASK_ADDR_BYTE : FRef := ⟨SYS_CASK_ADDR, 0, 23⟩
def SYS_CASK_STAT : Nat := 0x108
def SYS_CASK_STAT_ERR : FRef := ⟨SYS_CASK_STAT, 4, 4⟩
def SYS_CASK_STAT_READY : FRef := ⟨SYS_CASK_STAT, 0, 1⟩
def SYS_CASK_DATA (i : Nat) : Nat := 0x200 + i * 0x4
def SYS_CASK_DATA_WORD (i : Nat) : FRef := ⟨SYS_CASK_DATA i, 0, 32⟩
def EVQ_CFG : Nat := 0x50000
def EVQ_CFG_HOLD : FRef := ⟨EVQ_CFG, 0, 1⟩
def EVQ_WR : Nat := 0x50004
def EVQ_WR_COUNT : FRef := ⟨EVQ_WR, 0, 32⟩
def EVQ_RD : Nat := 0x50008
def EVQ_RD_COUNT : FRef := ⟨EVQ_RD, 0, 32⟩
def EVQ_STAT : Nat := 0x5000C
def EVQ_STAT_FILL : FRef := ⟨EVQ_STAT, 16, 11⟩
def EVQ_STAT_FULL : FRef := ⟨EVQ_STAT, 1, 1⟩
def EVQ_STAT_LAPPED : FRef := ⟨EVQ_STAT, 0, 1⟩
def EVQ_CNT_LOST : Nat := 0x50010
def EVQ_CNT_LOST_COUNT : FRef := ⟨EVQ_CNT_LOST, 0, 32⟩
def EVQ_MASK_LO : Nat := 0x50014
def EVQ_MASK_LO_BLOCKS : FRef := ⟨EVQ_MASK_LO, 0, 32⟩
def EVQ_MASK_HI : Nat := 0x50018
def EVQ_MASK_HI_BLOCKS : FRef := ⟨EVQ_MASK_HI, 0, 32⟩
def EVQ_RING (i : Nat) (w : Nat) : Nat := 0x54000 + i * 0x20 + w * 0x4
def EVQ_RING_WORD (i : Nat) (w : Nat) : FRef := ⟨EVQ_RING i w, 0, 32⟩
def TST_IDCODE : Nat := 0x200000
def TST_IDCODE_ID : FRef := ⟨TST_IDCODE, 0, 32⟩
def TST_STAT : Nat := 0x200004
def TST_STAT_GV : FRef := ⟨TST_STAT, 2, 1⟩
def TST_STAT_BIST : FRef := ⟨TST_STAT, 1, 1⟩
def TST_STAT_LANES : FRef := ⟨TST_STAT, 0, 1⟩
def TST_JTAG_STAT : Nat := 0x200008
def TST_JTAG_STAT_REFUSED : FRef := ⟨TST_JTAG_STAT, 9, 1⟩
def TST_JTAG_STAT_TEST_EN : FRef := ⟨TST_JTAG_STAT, 8, 1⟩
def TST_JTAG_STAT_IR : FRef := ⟨TST_JTAG_STAT, 0, 8⟩
def TST_BIST_CFG : Nat := 0x200010
def TST_BIST_CFG_BOOT_EN : FRef := ⟨TST_BIST_CFG, 0, 1⟩
def TST_BIST_CMD : Nat := 0x200014
def TST_BIST_CMD_OP : FRef := ⟨TST_BIST_CMD, 28, 4⟩
def TST_BIST_CMD_KIND : FRef := ⟨TST_BIST_CMD, 16, 3⟩
def TST_BIST_CMD_INSTANCE : FRef := ⟨TST_BIST_CMD, 0, 7⟩
def TST_GV_CMD : Nat := 0x200030
def TST_GV_CMD_OP : FRef := ⟨TST_GV_CMD, 28, 4⟩
def TST_GV_CMD_KIND : FRef := ⟨TST_GV_CMD, 16, 3⟩
def TST_GV_CMD_INSTANCE : FRef := ⟨TST_GV_CMD, 0, 7⟩
def TST_BIST_STAT : Nat := 0x200018
def TST_BIST_STAT_ERR : FRef := ⟨TST_BIST_STAT, 4, 4⟩
def TST_BIST_STAT_FAIL : FRef := ⟨TST_BIST_STAT, 1, 1⟩
def TST_BIST_STAT_READY : FRef := ⟨TST_BIST_STAT, 0, 1⟩
def TST_GV_STAT : Nat := 0x200034
def TST_GV_STAT_ERR : FRef := ⟨TST_GV_STAT, 4, 4⟩
def TST_GV_STAT_FAIL : FRef := ⟨TST_GV_STAT, 1, 1⟩
def TST_GV_STAT_READY : FRef := ⟨TST_GV_STAT, 0, 1⟩
def TST_BIST_FAIL_ADDR : Nat := 0x20001C
def TST_BIST_FAIL_ADDR_VALUE : FRef := ⟨TST_BIST_FAIL_ADDR, 0, 32⟩
def TST_BIST_CNT_REPAIR : Nat := 0x200020
def TST_BIST_CNT_REPAIR_VALUE : FRef := ⟨TST_BIST_CNT_REPAIR, 0, 32⟩
def TST_GV_RESULT : Nat := 0x200038
def TST_GV_RESULT_VALUE : FRef := ⟨TST_GV_RESULT, 0, 32⟩
def TST_YZ_CTRL (p : Nat) : Nat := 0x200100 + p * 0x10
def TST_YZ_CTRL_INTERVAL (p : Nat) : FRef := ⟨TST_YZ_CTRL p, 16, 16⟩
def TST_YZ_CTRL_LEN (p : Nat) : FRef := ⟨TST_YZ_CTRL p, 1, 6⟩
def TST_YZ_CTRL_EN (p : Nat) : FRef := ⟨TST_YZ_CTRL p, 0, 1⟩
def TST_YZ_CNT_SENT (p : Nat) : Nat := 0x200104 + p * 0x10
def TST_YZ_CNT_SENT_COUNT (p : Nat) : FRef := ⟨TST_YZ_CNT_SENT p, 0, 32⟩
def TST_YZ_CNT_BACK (p : Nat) : Nat := 0x200108 + p * 0x10
def TST_YZ_CNT_BACK_COUNT (p : Nat) : FRef := ⟨TST_YZ_CNT_BACK p, 0, 32⟩
def TST_YZ_CNT_BAD (p : Nat) : Nat := 0x20010C + p * 0x10
def TST_YZ_CNT_BAD_COUNT (p : Nat) : FRef := ⟨TST_YZ_CNT_BAD p, 0, 32⟩
def TST_LANE_GEN (l : Nat) : Nat := 0x201000 + l * 0x40
def TST_LANE_GEN_RATE (l : Nat) : FRef := ⟨TST_LANE_GEN l, 28, 4⟩
def TST_LANE_GEN_PATTERN (l : Nat) : FRef := ⟨TST_LANE_GEN l, 24, 4⟩
def TST_LANE_GEN_INVERT (l : Nat) : FRef := ⟨TST_LANE_GEN l, 3, 1⟩
def TST_LANE_GEN_INJECT (l : Nat) : FRef := ⟨TST_LANE_GEN l, 2, 1⟩
def TST_LANE_GEN_EN (l : Nat) : FRef := ⟨TST_LANE_GEN l, 0, 1⟩
def TST_LANE_CHK (l : Nat) : Nat := 0x201004 + l * 0x40
def TST_LANE_CHK_PATTERN (l : Nat) : FRef := ⟨TST_LANE_CHK l, 24, 4⟩
def TST_LANE_CHK_INVERT (l : Nat) : FRef := ⟨TST_LANE_CHK l, 3, 1⟩
def TST_LANE_CHK_CLEAR (l : Nat) : FRef := ⟨TST_LANE_CHK l, 1, 1⟩
def TST_LANE_CHK_EN (l : Nat) : FRef := ⟨TST_LANE_CHK l, 0, 1⟩
def TST_LANE_LOOP (l : Nat) : Nat := 0x201008 + l * 0x40
def TST_LANE_LOOP_MODE (l : Nat) : FRef := ⟨TST_LANE_LOOP l, 0, 2⟩
def TST_LANE_STAT (l : Nat) : Nat := 0x20100C + l * 0x40
def TST_LANE_STAT_SYNC (l : Nat) : FRef := ⟨TST_LANE_STAT l, 2, 1⟩
def TST_LANE_STAT_CHK_ON (l : Nat) : FRef := ⟨TST_LANE_STAT l, 1, 1⟩
def TST_LANE_STAT_GEN_ON (l : Nat) : FRef := ⟨TST_LANE_STAT l, 0, 1⟩
def TST_LANE_CNT_BITS_LO (l : Nat) : Nat := 0x201010 + l * 0x40
def TST_LANE_CNT_BITS_LO_COUNT (l : Nat) : FRef := ⟨TST_LANE_CNT_BITS_LO l, 0, 32⟩
def TST_LANE_CNT_BITS_HI (l : Nat) : Nat := 0x201014 + l * 0x40
def TST_LANE_CNT_BITS_HI_COUNT (l : Nat) : FRef := ⟨TST_LANE_CNT_BITS_HI l, 0, 32⟩
def TST_LANE_CNT_ERR_LO (l : Nat) : Nat := 0x201018 + l * 0x40
def TST_LANE_CNT_ERR_LO_COUNT (l : Nat) : FRef := ⟨TST_LANE_CNT_ERR_LO l, 0, 32⟩
def TST_LANE_CNT_ERR_HI (l : Nat) : Nat := 0x20101C + l * 0x40
def TST_LANE_CNT_ERR_HI_COUNT (l : Nat) : FRef := ⟨TST_LANE_CNT_ERR_HI l, 0, 32⟩
def TST_LANE_CNT_LOCK (l : Nat) : Nat := 0x201020 + l * 0x40
def TST_LANE_CNT_LOCK_COUNT (l : Nat) : FRef := ⟨TST_LANE_CNT_LOCK l, 0, 32⟩

end Sys2Proof.Machine
end

