-- ==== Sys2Proof/Config.lean ====
section
/-! DEFINITION. What the manual leaves open. Every constant here is opaque: it has no body, so nothing proved about the
model can rest on a value of it (the assumption log names each use). -/

namespace Sys2Proof.Config

/-- A fused register value (R580, "Fused"): the manual gives no value. First argument: the register's address. -/
opaque fusedWord : Nat → BitVec 32

/-- What a read of a firmware-area offset returns (R579: not specified). Arguments: address and the step's free-value
counter. -/
opaque firmwareWord : Nat → Nat → BitVec 32

/-- The word that the cask's identity area holds at a word offset (R567: the layout of the three copies is not given). -/
opaque identityWord : Nat → Nat → Nat → Nat → Nat → BitVec 32

/-- The boot counter, epoch, gyle and highest gyle seen that 64 written identity words spell (R567: no layout given). -/
opaque identityDecode : List (BitVec 32) → Nat × Nat × Nat × Nat

/-- The words of a last-good record (R496: contents, not layout): word offset, whether present, rate, identity, temperature, values;
and what a record is after 64 words of it have been written: quarter, the words, and the record as before. -/
opaque goodWord : Nat → Bool → Nat → Nat → Int → List (BitVec 32) → BitVec 32
opaque goodWrite : Nat → List (BitVec 32) → Bool × Nat × Nat × Int × List (BitVec 32) → Bool × Nat × Nat × Int × List (BitVec 32)

/-- Whether the fused key hash is blank (R545), and whether SIG_REQUIRED is set. -/
opaque keyHashBlank : Bool
opaque sigRequired : Bool

/-- The asymmetry of a Yudizor port's paths in ns, calibrated at bring-up (R367): no register holds it. -/
opaque yzAsym : Nat → Int

/-- The time since the previous measurement, in 2⁻¹⁶ ns, of a measurement that has none before it (R355 gives none). -/
opaque firstDt : Nat → Nat

/-- The body length in bytes of a rack record by its KIND (R422 names the contents, not the layout of the bodies). -/
opaque rackBodyLen : Nat → Nat

/-- The exact size in bits of the headers before the first unit of a picture (H of R120): the words of the rendition's configuration,
slot, picture type (0 inter, 1 intra). H_rap, which bounds it (R118): the words of the configuration. -/
opaque headerBits : List (BitVec 32) → Nat → Nat → Nat
opaque headerRap : List (BitVec 32) → Nat

/-- The predicted size of a picture or unit at a QP (R120, R127): channel, rendition, slot, complexity or weight, QP. -/
opaque predictedSize : Nat → Nat → Nat → Nat → Nat → Nat

/-- The QP with which the predicted size of a unit meets its target (R127): channel, rendition, slot, unit, target, weight, bits and
weight of the known units. -/
opaque unitQp : Nat × Nat × Nat × Nat → Nat → Nat → Nat → Nat → Nat

/-- The bits and the weight whose ratio R127 uses before a picture is coded: the seeds of R131 (SEED_INTRA, SEED_INTER). -/
opaque seedBits : Nat → Nat → Nat
opaque seedWeight : Nat → Nat → Nat

/-- The complexity of a slot before which no picture was analysed (R121): channel, rendition, slot. -/
opaque noRecord : Nat → Nat → Nat → Nat

/-- SATD of a block's differences (R98): the manual gives no transform and no scale. -/
opaque satd : List Int → Nat

/-- The cost of a block at a vector in the fine search (R111): channel, rendition, slot, place and size of the block, reference, vector. -/
opaque searchCost : Nat × Nat × Nat → Nat × Nat × Nat × Nat → Nat → Int × Int → Nat

/-- The stride of an input line beyond the line's own bytes, in 64-byte units (R87 gives the least): channel. -/
opaque strideExtra : Nat → Nat

/-- The 4 KiB unit of its side's window at which a live channel's buffer lies (R19): channel, slot, which buffer. -/
opaque liveUnit : Nat → Nat → Nat → Nat

/-- The DID and SDID filter entries of a channel (R29): no register holds them. -/
opaque ancFilter : Nat → List (Nat × Nat)

/-- A broadcast sample at a gain in 0.5 dB steps, and at a distance from a replaced one in a linear ramp (R261, R262): how they are rounded
is not stated. -/
opaque bcGain : Int → Int → Int
opaque bcRamp : Nat → Int → Int

/-- The clipped ratio of R120 in quarters where c_avg is 0, and the share of R125 where every weight is 0: the manual
states no quotient by 0. -/
opaque ratioZero : Nat → Nat
opaque shareZero : Nat → Nat → Nat

/-- The costs of an entry of a late row (R101 gives no value): 0 intra, 1 inter; channel, slot. -/
opaque lateCost : Nat → Nat → Nat → Nat

/-- What R156 asks of a decode context and R178's record does not hold: the chroma format (0, 1, 2), the highest spatial
layer, and the largest permitted pixels of a lower layer (context, layer, MAX_W, MAX_H). -/
opaque ctxChroma : Nat → Nat
opaque ctxTop : Nat → Nat
opaque layerPixels : Nat → Nat → Nat → Nat → Nat

/-- LOSS of R215 where every reported packet was lost: 65,536 / 65,536 has no 16-bit value (by estimate and draw). -/
opaque lossFull : Nat → Nat → Nat

/-- The sizes of the RTP packets of an output's next picture (R203), and the size of an Opus or AAC-LC packet of a mix's encode (R258):
entropy coding decides them. Whether an Opus encode with DTX sends nothing (R250), and the momentary loudness of 400 ms of samples
(R252, R264): the standards' arithmetic decides. Encode, samples, counter. -/
opaque outPackets : Nat → Nat → List Nat
opaque audioBytes : Nat → List (BitVec 32 × BitVec 32) → Nat → Nat
opaque opusSilent : Nat → List (BitVec 32 × BitVec 32) → Nat → Bool
opaque mixLoudness : List (BitVec 32 × BitVec 32) → Nat

/-- FP32 values that R256 to R258 name without their rounding: 10 log10 of (m · 2^e / n + 10⁻¹⁰), the factor of a gain in dB, a sample of a
linear ramp over 480 samples (whether it opens, place, sample), one channel of two, and the gain of a peak limiter with 1 ms attack and
100 ms release after a sample. -/
opaque level10 : Nat → Nat → Int → BitVec 32
opaque dbFactor : BitVec 32 → BitVec 32
opaque ramp480 : Bool → Nat → BitVec 32 → BitVec 32
opaque downmix : BitVec 32 → BitVec 32 → BitVec 32
opaque limitGain : BitVec 32 → BitVec 32 → BitVec 32

/-- The estimate after an interval of R235 in which nothing was reported (a quotient by 0): estimate, counter. -/
opaque bweEmpty : Nat → Nat → Nat

/-- 27 MHz ticks of a number of RTP ticks on a flow whose CLOCK is 0 (a quotient by 0 in R233). -/
opaque noClockTicks : Nat → Nat

/-- The 4 KiB unit of the shared mid-grey stand-in picture of a size on its side (R172), and PIC_COUNT of the descriptors of decoder pictures,
for which R88 names no count: descriptor address. -/
opaque standIn : Nat → Nat → Nat
opaque decPicCount : Nat → Nat

/-- A sample of a stand-in scaled to another size (R167 gives no filter): the source's descriptor address, plane, the target's width and height,
and the sample's place. -/
opaque standScale : Nat × Nat × Nat → Nat × Nat → Nat → Nat → Int

/-- The scaler where R184 gives no number. The source sample that a tap of an output sample takes, as an offset from the crop's first sample, and
the phase: axis and siting, crop length, output length, output sample (and tap). The taps of the filter sets 0 to 3: set, phase, tap. -/
opaque scaleTap : Nat → Nat × Nat → Nat → Nat → Nat
opaque scalePhase : Nat → Nat × Nat → Nat → Nat
opaque filterTap : Nat → Nat → Nat → Int

/-- Colour conversion where R185 names a standard or a curve (BT.709, BT.2020, BT.2100): linear light of a colour's samples in 2⁻¹⁶ of
reference white (SDR) or of 1 cd/m² (PQ, HLG), back to samples, a coefficient of the 3×3 matrix in 2⁻¹⁴ (colours, row, column), and the tone
curve above and below reference white. -/
opaque toLinear : Nat → Int × Int × Int → Int × Int × Int
opaque fromLinear : Nat → Int × Int × Int → Int × Int × Int
opaque gamutTap : Nat → Nat → Nat → Nat → Int
opaque transcode : Nat → Nat → Int × Int × Int → Int × Int × Int
opaque toneCurve : Int → Int

/-- The bytes of a generated subpicture of a merge (R194, R195): 0 mid-grey intra, 1 skip; width, height, counter. -/
opaque genBytes : Nat → Nat × Nat → Nat → Nat

/-- The CAUSE of a composer pipe that fails its test slot: CMP_PIPE_STAT lists no code for it. Pipe, counter. -/
opaque pipeTestCause : Nat → Nat → Nat

/-- Pictures in the decoded picture buffer that a stream's level allows (R170 leaves them to the codec standard): codec,
width, height. -/
opaque dpbPictures : Nat → Nat → Nat → Nat

/-- Level limits of the codec standards (R64, R118): codec, level × 10, tier. Greatest luma picture size in samples, luma
sample rate per second, bit rate in bits per second, and coded picture buffer in bits. -/
opaque levelPicture : Nat → Nat → Nat → Nat
opaque levelRate : Nat → Nat → Nat → Nat
opaque levelBits : Nat → Nat → Nat → Nat
opaque levelBuffer : Nat → Nat → Nat → Nat

/-- What FRCP and FRSQ estimate (R318), by operand: taken where it meets the bound of the manual. -/
opaque frcp : BitVec 32 → BitVec 32
opaque frsq : BitVec 32 → BitVec 32

/-- FRSQ of -0, which R318 does not state. -/
opaque frsqNegZero : BitVec 32

/-- A post-modify whose SIZE is outside the range of R280 (by address register and modifier). -/
opaque postModify : BitVec 32 → BitVec 32 → BitVec 32

/-- The figure of merit of a window in which no error was estimated: the logarithm of 0 (R385), by lane and counter. -/
opaque fomZero : Nat → Nat → Nat

/-- TYPE, body length and body of the messages that the device itself sends (R405 leaves TYPE and layout to each use; uses: 0
heartbeat, 1 rack set, 2 usage and admission, 3 candidate set, 4 inter-member packet, 5 picture, 6 report, 7 group change, 8 test
traffic, whose PRBS31 seed R622 does not give). -/
opaque msgType : Nat → Nat
opaque msgLen : Nat → Nat → Nat
opaque msgByte : Nat → Nat → Nat → BitVec 8

/-- A byte of a flit beyond its payload bytes in use (R393 gives none). -/
opaque flitPad : Nat → BitVec 8

/-- Whether two other members of the first-level group have a bundle between them (R414): no register of this device shows it. -/
opaque directBundle : Nat → Nat → Bool

/-- The identity that the DRAM parts give in MR5, MR6 and MR8 (R496): channel, rank. -/
opaque partIdent : Nat → Nat → Nat

/-- What a training helper finds where a command does not say (R494): channel, bit, counter. Compare errors, first and last
passing tap (`none`: no tap passes), and the edge fields of a bit that no tap passes. -/
opaque trErrors : Nat → Nat → Nat → Nat
opaque trEdges : Nat → Nat → Nat → Option (Nat × Nat)
opaque trNoEdge : Nat → Nat → Nat → Nat

/-- Which line of a full ECC cache leaves it (R482): channel, counter. -/
opaque eccVictim : Nat → Nat → Nat

/-- The cause that a SAFE entry for untrained DRAM reports (R495): R593 lists no code for it. -/
opaque trainCause : Nat

/-- Byte 23 of an AES3 channel status block, its CRC under the rule of AES3 (R333, R334), by the 23 bytes before it. -/
opaque aesCrc : List (BitVec 8) → BitVec 8

/-- Bits 20 to 0 of the data register that REG_ACCESS captures (R618 places the data and ERR only), by the counter. -/
opaque captureLow : Nat → Nat

/-- The result word of FLASH (R570 names it and gives no code): whether it passed. -/
opaque flashResult : Bool → BitVec 32

/-- The fused window of a voltage monitor or auxiliary channel (R528): lowest and highest value inside. -/
opaque monLow : Nat → Nat
opaque monHigh : Nat → Nat

/-- The fused table of R522: VDD_CORE in mV by the hottest zone temperature in °C. -/
opaque coreMv : Int → Nat

end Sys2Proof.Config
end

