-- ==== Sys2Proof/Machine/RegMap.lean ====
section
/-! DEFINITION. The register map: one row per register definition of the manual's register tables (R578, R596: 418
definitions), block by block, and the lookup of an address. A register with several reset values or several access types
among its instances has one row per group (R583): CLK_GATE (R513), APT_PORT_CFG (CLK_SRC resets to the port number),
APT_AES_CS (RO on inputs, ST on outputs), TB_TRIG and TB_CAP_CFG (the device-owned instances are RO, R365). -/

namespace Sys2Proof.Machine

/-- The registers of block SYS (R578). -/
def regsSys : List RegRow :=
  [ ⟨0x0, [], 0x4D4D8120, [⟨0, 32, .ro⟩]⟩,
    ⟨0x4, [], 0xB1, [⟨4, 4, .ro⟩, ⟨0, 4, .ro⟩]⟩,
    ⟨0x8, [], 0x0, [⟨0, 1, .w1s⟩]⟩,
    ⟨0xC, [], 0x300, [⟨12, 1, .ro⟩, ⟨8, 2, .ro⟩, ⟨4, 4, .ro⟩, ⟨0, 1, .ro⟩]⟩,
    ⟨0x10, [], 0x0, [⟨31, 1, .ro⟩, ⟨30, 1, .ro⟩, ⟨2, 20, .ro⟩]⟩,
    ⟨0x14, [], 0x0, [⟨2, 1, .ro⟩, ⟨1, 1, .ro⟩, ⟨0, 1, .rw⟩]⟩,
    ⟨0x20, [], 0xB7990000, [⟨16, 16, .st⟩, ⟨15, 1, .st⟩, ⟨14, 1, .st⟩, ⟨0, 12, .st⟩]⟩,
    ⟨0x24, [], 0x0, [⟨0, 8, .st⟩]⟩,
    ⟨0x28, [], 0x0, [⟨0, 32, .st⟩]⟩,
    ⟨0x2C, [], 0x0, [⟨0, 32, .st⟩]⟩,
    ⟨0x30, [], 0x0, [⟨0, 32, .st⟩]⟩,
    ⟨0x34, [], 0x0, [⟨0, 32, .st⟩]⟩,
    ⟨0x38, [], 0x0, [⟨0, 32, .st⟩]⟩,
    ⟨0x3C, [], 0x0, [⟨0, 32, .st⟩]⟩,
    ⟨0x40, [], 0x0, [⟨0, 32, .st⟩]⟩,
    ⟨0x44, [], 0x0, [⟨0, 32, .st⟩]⟩,
    ⟨0x48, [], 0x0, [⟨0, 32, .fused⟩]⟩,
    ⟨0x4C, [], 0x0, [⟨0, 32, .fused⟩]⟩,
    ⟨0x50, [], 0x0, [⟨0, 32, .rc⟩]⟩,
    ⟨0x54, [], 0x0, [⟨0, 32, .rc⟩]⟩,
    ⟨0x58, [], 0x0, [⟨0, 32, .rc⟩]⟩,
    ⟨0x100, [], 0x0, [⟨28, 4, .wo⟩]⟩,
    ⟨0x104, [], 0x0, [⟨0, 23, .rw⟩]⟩,
    ⟨0x108, [], 0x1, [⟨4, 4, .ro⟩, ⟨0, 1, .ro⟩]⟩ ] ++
  [ ⟨0x200, [(64, 0x4)], 0x0, [⟨0, 32, .rw⟩]⟩ ]

/-- The registers of block CLK (R578). -/
def regsClk : List RegRow :=
  [ ⟨0x10000, [(7, 0x10)], 0x0, [⟨0, 2, .st⟩]⟩,
    ⟨0x10004, [(7, 0x10)], 0x0, [⟨2, 1, .ro⟩, ⟨1, 1, .ro⟩, ⟨0, 1, .ro⟩]⟩,
    ⟨0x10100, [], 0x1, [⟨4, 4, .st⟩, ⟨0, 3, .st⟩]⟩,
    ⟨0x10104, [], 0x0, [⟨12, 20, .ro⟩, ⟨1, 1, .ro⟩, ⟨0, 1, .ro⟩]⟩,
    ⟨0x10200, [], 0x0, [⟨0, 32, .ro⟩]⟩,
    ⟨0x10204, [], 0x0, [⟨0, 32, .ro⟩]⟩,
    ⟨0x10208, [], 0x0, [⟨0, 32, .rc⟩]⟩,
    ⟨0x11000, [(48, 0x10)], 0xA0641, [⟨16, 16, .st⟩, ⟨4, 12, .st⟩, ⟨0, 1, .st⟩]⟩,
    ⟨0x11004, [(48, 0x10)], 0x0, [⟨16, 16, .ro⟩, ⟨2, 1, .ro⟩, ⟨1, 1, .ro⟩, ⟨0, 1, .ro⟩]⟩,
    ⟨0x11008, [(48, 0x10)], 0x0, [⟨0, 32, .ro⟩]⟩,
    ⟨0x12000, [(145, 0x4)], 0x1, [⟨4, 2, .ro⟩, ⟨2, 1, .st⟩, ⟨1, 1, .st⟩, ⟨0, 1, .st⟩]⟩,
    ⟨0x12244, [(3, 0x4)], 0x7, [⟨4, 2, .ro⟩, ⟨2, 1, .st⟩, ⟨1, 1, .st⟩, ⟨0, 1, .st⟩]⟩ ]

/-- The registers of block PWR (R578). -/
def regsPwr : List RegRow :=
  [ ⟨0x20000, [], 0x100, [⟨8, 3, .ro⟩, ⟨0, 2, .st⟩]⟩,
    ⟨0x20004, [], 0x1, [⟨8, 6, .rw⟩, ⟨1, 1, .rw⟩, ⟨0, 1, .rw⟩]⟩,
    ⟨0x20010, [], 0xFFFFFF, [⟨0, 24, .st⟩]⟩,
    ⟨0x20014, [], 0xC00003, [⟨0, 24, .ro⟩]⟩,
    ⟨0x20020, [], 0x1, [⟨8, 6, .st⟩, ⟨0, 1, .st⟩]⟩,
    ⟨0x20024, [], 0x0, [⟨16, 16, .ro⟩, ⟨1, 1, .ro⟩, ⟨0, 1, .ro⟩]⟩,
    ⟨0x20030, [], 0x0, [⟨0, 32, .rc⟩]⟩,
    ⟨0x20034, [], 0x0, [⟨0, 32, .rc⟩]⟩ ]

/-- The registers of block THM (R578). -/
def regsThm : List RegRow :=
  [ ⟨0x30000, [], 0x80305, [⟨16, 8, .st⟩, ⟨8, 4, .st⟩, ⟨0, 8, .st⟩]⟩,
    ⟨0x30004, [], 0x0, [⟨31, 1, .ro⟩, ⟨0, 31, .ro⟩]⟩,
    ⟨0x3000C, [], 0x0, [⟨0, 32, .rc⟩]⟩,
    ⟨0x30100, [(16, 0x10)], 0x5F5A0500, [⟨24, 8, .st⟩, ⟨16, 8, .st⟩, ⟨8, 8, .st⟩, ⟨0, 8, .st⟩]⟩,
    ⟨0x30104, [(16, 0x10)], 0x69, [⟨0, 8, .st⟩]⟩,
    ⟨0x30108, [(16, 0x10)], 0x0, [⟨24, 3, .ro⟩, ⟨23, 1, .ro⟩, ⟨16, 3, .ro⟩, ⟨8, 8, .ro⟩, ⟨0, 8, .ro⟩]⟩,
    ⟨0x30400, [(64, 0x8)], 0x0, [⟨17, 1, .w1s⟩, ⟨16, 1, .ros⟩, ⟨0, 12, .ro⟩]⟩,
    ⟨0x30404, [(64, 0x8)], 0x0, [⟨0, 32, .fused⟩]⟩,
    ⟨0x30800, [(64, 0x4)], 0x0, [⟨16, 1, .ro⟩, ⟨0, 16, .ro⟩]⟩ ]

/-- The registers of block CFG (R578). -/
def regsCfg : List RegRow :=
  [ ⟨0x40000, [], 0x1, [⟨8, 8, .ro⟩, ⟨7, 1, .ro⟩, ⟨6, 1, .ro⟩, ⟨5, 1, .ro⟩, ⟨0, 4, .ro⟩]⟩,
    ⟨0x40004, [], 0x0, [⟨0, 32, .ro⟩]⟩,
    ⟨0x40008, [], 0x0, [⟨0, 32, .ro⟩]⟩,
    ⟨0x4000C, [], 0x0, [⟨0, 32, .ro⟩]⟩,
    ⟨0x40010, [], 0x0, [⟨3, 1, .w1s⟩, ⟨2, 1, .rw⟩, ⟨1, 1, .w1s⟩, ⟨0, 1, .w1s⟩]⟩,
    ⟨0x40014, [], 0x0, [⟨16, 16, .ro⟩, ⟨5, 11, .ro⟩, ⟨4, 1, .ro⟩, ⟨0, 3, .ro⟩]⟩,
    ⟨0x40018, [], 0x0, [⟨8, 8, .ro⟩, ⟨0, 2, .ro⟩]⟩,
    ⟨0x4001C, [], 0x0, [⟨0, 32, .ro⟩]⟩,
    ⟨0x40020, [], 0x0, [⟨4, 4, .wo⟩, ⟨1, 2, .wo⟩, ⟨0, 1, .wo⟩]⟩,
    ⟨0x40024, [], 0x0, [⟨0, 32, .rw⟩]⟩,
    ⟨0x40028, [], 0x0, [⟨0, 32, .rw⟩]⟩,
    ⟨0x4002C, [], 0x0, [⟨0, 32, .rw⟩]⟩,
    ⟨0x40030, [], 0x0, [⟨0, 32, .rw⟩]⟩,
    ⟨0x40034, [], 0x0, [⟨8, 1, .ro⟩, ⟨4, 4, .ro⟩, ⟨0, 4, .ro⟩]⟩,
    ⟨0x40038, [], 0x0, [⟨0, 32, .ro⟩]⟩,
    ⟨0x4003C, [], 0x0, [⟨0, 32, .ro⟩]⟩,
    ⟨0x40040, [], 0x0, [⟨0, 32, .ro⟩]⟩ ]

/-- The registers of block EVQ (R578). -/
def regsEvq : List RegRow :=
  [ ⟨0x50000, [], 0x0, [⟨0, 1, .rw⟩]⟩,
    ⟨0x50004, [], 0x0, [⟨0, 32, .ro⟩]⟩,
    ⟨0x50008, [], 0x0, [⟨0, 32, .rw⟩]⟩,
    ⟨0x5000C, [], 0x0, [⟨16, 11, .ro⟩, ⟨1, 1, .ro⟩, ⟨0, 1, .w1c⟩]⟩,
    ⟨0x50010, [], 0x0, [⟨0, 32, .rc⟩]⟩,
    ⟨0x50014, [], 0xFFFFFFFF, [⟨0, 32, .rw⟩]⟩,
    ⟨0x50018, [], 0xFFFFFFFF, [⟨0, 32, .rw⟩]⟩,
    ⟨0x54000, [(1024, 0x20), (8, 0x4)], 0x0, [⟨0, 32, .ro⟩]⟩ ]

/-- The registers of block TB (R578). -/
def regsTb : List RegRow :=
  [ ⟨0x60000, [], 0x1E0001, [⟨16, 8, .st⟩, ⟨8, 1, .st⟩, ⟨4, 4, .st⟩, ⟨0, 2, .st⟩]⟩,
    ⟨0x60004, [], 0x0, [⟨3, 1, .ro⟩, ⟨0, 3, .ro⟩]⟩,
    ⟨0x60010, [], 0x0, [⟨0, 32, .ro⟩]⟩,
    ⟨0x60014, [], 0x0, [⟨0, 32, .ro⟩]⟩,
    ⟨0x60018, [], 0x0, [⟨0, 32, .ro⟩]⟩,
    ⟨0x6001C, [], 0x0, [⟨0, 32, .ro⟩]⟩,
    ⟨0x60020, [], 0x0, [⟨0, 32, .ro⟩]⟩,
    ⟨0x60024, [], 0x0, [⟨0, 32, .ro⟩]⟩,
    ⟨0x60028, [], 0x0, [⟨0, 32, .ro⟩]⟩,
    ⟨0x60030, [], 0xA3D00B3, [⟨16, 16, .st⟩, ⟨0, 16, .st⟩]⟩,
    ⟨0x60034, [], 0x3E80064, [⟨16, 16, .st⟩, ⟨0, 16, .st⟩]⟩,
    ⟨0x60038, [], 0x1F4, [⟨0, 10, .st⟩]⟩,
    ⟨0x60040, [], 0x37F00, [⟨16, 4, .st⟩, ⟨8, 8, .st⟩, ⟨6, 2, .st⟩, ⟨5, 1, .st⟩, ⟨0, 5, .st⟩]⟩,
    ⟨0x60044, [], 0x0, [⟨0, 32, .ro⟩]⟩,
    ⟨0x60048, [], 0x0, [⟨0, 32, .ro⟩]⟩,
    ⟨0x6004C, [], 0x0, [⟨0, 32, .rw⟩]⟩,
    ⟨0x60050, [], 0x0, [⟨0, 32, .ro⟩]⟩,
    ⟨0x61000, [(32, 0x20)], 0x0, [⟨3, 1, .w1c⟩, ⟨2, 1, .rw⟩, ⟨1, 1, .rw⟩, ⟨0, 1, .rw⟩]⟩,
    ⟨0x61400, [(32, 0x20)], 0x0, [⟨3, 1, .ro⟩, ⟨2, 1, .ro⟩, ⟨1, 1, .ro⟩, ⟨0, 1, .ro⟩]⟩,
    ⟨0x61004, [(32, 0x20)], 0x0, [⟨0, 32, .rw⟩]⟩,
    ⟨0x61404, [(32, 0x20)], 0x0, [⟨0, 32, .ro⟩]⟩,
    ⟨0x61008, [(32, 0x20)], 0x0, [⟨0, 32, .rw⟩]⟩,
    ⟨0x61408, [(32, 0x20)], 0x0, [⟨0, 32, .ro⟩]⟩,
    ⟨0x6100C, [(32, 0x20)], 0x0, [⟨0, 32, .rw⟩]⟩ ] ++
  [ ⟨0x6140C, [(32, 0x20)], 0x0, [⟨0, 32, .ro⟩]⟩,
    ⟨0x61010, [(32, 0x20)], 0x0, [⟨0, 32, .rw⟩]⟩,
    ⟨0x61410, [(32, 0x20)], 0x0, [⟨0, 32, .ro⟩]⟩,
    ⟨0x61014, [(32, 0x20)], 0x0, [⟨0, 32, .rw⟩]⟩,
    ⟨0x61414, [(32, 0x20)], 0x0, [⟨0, 32, .ro⟩]⟩,
    ⟨0x63000, [(16, 0x20)], 0x0, [⟨15, 1, .w1c⟩, ⟨14, 1, .ro⟩, ⟨8, 6, .rw⟩, ⟨6, 2, .rw⟩, ⟨3, 3, .rw⟩, ⟨0, 3, .rw⟩]⟩,
    ⟨0x63200, [(48, 0x20)], 0x0, [⟨15, 1, .ro⟩, ⟨14, 1, .ro⟩, ⟨8, 6, .ro⟩, ⟨6, 2, .ro⟩, ⟨3, 3, .ro⟩, ⟨0, 3, .ro⟩]⟩,
    ⟨0x63004, [(64, 0x20)], 0x0, [⟨0, 32, .ro⟩]⟩,
    ⟨0x63008, [(64, 0x20)], 0x0, [⟨0, 32, .ro⟩]⟩,
    ⟨0x6300C, [(64, 0x20)], 0x0, [⟨0, 32, .ro⟩]⟩,
    ⟨0x63010, [(64, 0x20)], 0x0, [⟨0, 32, .ro⟩]⟩,
    ⟨0x63800, [(8, 0x4)], 0x0, [⟨16, 16, .rw⟩, ⟨8, 6, .rw⟩, ⟨1, 1, .rw⟩, ⟨0, 1, .rw⟩]⟩ ]

/-- The registers of block CHK (R578). -/
def regsChk : List RegRow :=
  [ ⟨0x70000, [(16, 0x40)], 0x0, [⟨7, 1, .rw⟩, ⟨6, 1, .rw⟩, ⟨4, 2, .rw⟩, ⟨0, 3, .rw⟩]⟩,
    ⟨0x70004, [(16, 0x40)], 0x0, [⟨0, 32, .rw⟩]⟩,
    ⟨0x70008, [(16, 0x40)], 0x0, [⟨0, 32, .rw⟩]⟩,
    ⟨0x7000C, [(16, 0x40)], 0x0, [⟨0, 32, .rw⟩]⟩,
    ⟨0x70010, [(16, 0x40)], 0x0, [⟨1, 1, .w1s⟩, ⟨0, 1, .w1s⟩]⟩,
    ⟨0x70014, [(16, 0x40)], 0x0, [⟨0, 32, .rw⟩]⟩,
    ⟨0x70018, [(16, 0x40)], 0x0, [⟨0, 32, .wo⟩]⟩,
    ⟨0x7001C, [(16, 0x40)], 0x0, [⟨0, 32, .wo⟩]⟩,
    ⟨0x70020, [(16, 0x40)], 0x0, [⟨0, 32, .wo⟩]⟩,
    ⟨0x70024, [(16, 0x40)], 0x0, [⟨0, 32, .ro⟩]⟩,
    ⟨0x70028, [(16, 0x40)], 0x0, [⟨16, 8, .ro⟩, ⟨8, 2, .ro⟩, ⟨0, 8, .rw⟩]⟩,
    ⟨0x7002C, [(16, 0x40)], 0x0, [⟨16, 16, .ro⟩, ⟨8, 8, .rws⟩, ⟨1, 1, .ro⟩, ⟨0, 1, .ros⟩]⟩,
    ⟨0x70030, [(16, 0x40)], 0x0, [⟨16, 16, .rc⟩, ⟨0, 16, .rc⟩]⟩,
    ⟨0x70800, [], 0x76543210, [⟨0, 32, .ro⟩]⟩,
    ⟨0x70804, [], 0x8, [⟨0, 32, .ro⟩]⟩ ]

/-- The registers of block LNK (R578). -/
def regsLnk : List RegRow :=
  [ ⟨0x80000, [(64, 0x1000)], 0x0, [⟨28, 4, .ro⟩, ⟨16, 12, .ro⟩, ⟨4, 3, .ro⟩, ⟨3, 1, .ro⟩, ⟨2, 1, .ro⟩, ⟨1, 1, .ro⟩, ⟨0, 1, .ro⟩]⟩,
    ⟨0x80004, [(64, 0x1000)], 0x48FF00, [⟨16, 8, .st⟩, ⟨8, 8, .rc⟩, ⟨0, 8, .ro⟩]⟩,
    ⟨0x80008, [(64, 0x1000)], 0x1, [⟨1, 1, .rw⟩, ⟨0, 1, .st⟩]⟩,
    ⟨0x8000C, [(64, 0x1000)], 0x0, [⟨0, 32, .rc⟩]⟩,
    ⟨0x80800, [(64, 0x1000)], 0x0, [⟨8, 2, .rw⟩, ⟨0, 1, .w1s⟩]⟩,
    ⟨0x80804, [(64, 0x1000)], 0x0, [⟨16, 8, .rw⟩, ⟨0, 6, .rw⟩]⟩,
    ⟨0x80808, [(64, 0x1000)], 0xA, [⟨0, 5, .rw⟩]⟩,
    ⟨0x8080C, [(64, 0x1000)], 0x0, [⟨0, 32, .ro⟩]⟩,
    ⟨0x80810, [(64, 0x1000)], 0x0, [⟨0, 32, .ro⟩]⟩,
    ⟨0x80814, [(64, 0x1000)], 0x0, [⟨1, 1, .w1c⟩, ⟨0, 1, .ro⟩]⟩,
    ⟨0x80C00, [(16, 0x4000)], 0x0, [⟨2, 1, .st⟩, ⟨1, 1, .st⟩, ⟨0, 1, .st⟩]⟩,
    ⟨0x80C04, [(16, 0x4000)], 0x0, [⟨4, 4, .ro⟩, ⟨0, 1, .ro⟩]⟩,
    ⟨0x80E00, [(16, 0x4000)], 0x0, [⟨26, 6, .st⟩, ⟨19, 3, .st⟩, ⟨17, 2, .st⟩, ⟨15, 2, .st⟩, ⟨14, 1, .st⟩, ⟨13, 1, .st⟩, ⟨0, 1, .st⟩]⟩,
    ⟨0x80E04, [(16, 0x4000)], 0x0, [⟨2, 1, .ro⟩, ⟨1, 1, .ro⟩, ⟨0, 1, .ro⟩]⟩,
    ⟨0x80E08, [(16, 0x4000)], 0x0, [⟨0, 32, .ro⟩]⟩,
    ⟨0x80E0C, [(16, 0x4000)], 0x0, [⟨0, 32, .ro⟩]⟩,
    ⟨0x80E10, [(16, 0x4000)], 0x0, [⟨0, 32, .rc⟩]⟩,
    ⟨0x80E14, [(16, 0x4000)], 0x0, [⟨0, 32, .rc⟩]⟩,
    ⟨0x80E18, [(16, 0x4000)], 0x0, [⟨0, 32, .rc⟩]⟩,
    ⟨0x80E1C, [(16, 0x4000)], 0x0, [⟨0, 32, .rc⟩]⟩,
    ⟨0x80E20, [(16, 0x4000)], 0x0, [⟨0, 32, .rc⟩]⟩,
    ⟨0x80E24, [(16, 0x4000)], 0x0, [⟨0, 32, .rc⟩]⟩ ]

/-- The registers of block YZ (R578). -/
def regsYz : List RegRow :=
  [ ⟨0xC0000, [], 0x50000, [⟨16, 8, .st⟩, ⟨12, 1, .st⟩, ⟨0, 12, .st⟩]⟩,
    ⟨0xC0004, [], 0x0, [⟨16, 16, .ro⟩, ⟨0, 16, .st⟩]⟩,
    ⟨0xC0008, [], 0x0, [⟨16, 16, .ro⟩, ⟨0, 16, .st⟩]⟩,
    ⟨0xC000C, [], 0x0, [⟨16, 16, .ro⟩, ⟨0, 16, .st⟩]⟩,
    ⟨0xC0010, [], 0x0, [⟨31, 1, .ro⟩, ⟨30, 1, .ro⟩, ⟨0, 12, .ro⟩]⟩,
    ⟨0xC0014, [], 0x0, [⟨31, 1, .ro⟩, ⟨30, 1, .ro⟩, ⟨0, 12, .ro⟩]⟩,
    ⟨0xC0018, [], 0x0, [⟨31, 1, .ro⟩, ⟨30, 1, .ro⟩, ⟨0, 12, .ro⟩]⟩,
    ⟨0xC0040, [(16, 0x4)], 0x0, [⟨4, 1, .st⟩, ⟨0, 4, .st⟩]⟩,
    ⟨0xC0080, [(3, 0x10)], 0x0, [⟨0, 32, .ro⟩]⟩,
    ⟨0xC0084, [(3, 0x10)], 0x0, [⟨0, 32, .ro⟩]⟩,
    ⟨0xC0088, [(3, 0x10)], 0x0, [⟨0, 32, .ro⟩]⟩,
    ⟨0xC008C, [(3, 0x10)], 0x0, [⟨0, 32, .ro⟩]⟩,
    ⟨0xC00C0, [], 0xB7980000, [⟨16, 16, .st⟩, ⟨8, 5, .st⟩, ⟨1, 1, .st⟩, ⟨0, 1, .st⟩]⟩,
    ⟨0xC0100, [(64, 0x20)], 0x0, [⟨31, 1, .st⟩, ⟨0, 12, .st⟩]⟩,
    ⟨0xC0104, [(64, 0x20)], 0x0, [⟨0, 32, .st⟩]⟩,
    ⟨0xC0108, [(64, 0x20)], 0x0, [⟨0, 32, .st⟩]⟩,
    ⟨0xC010C, [(64, 0x20)], 0x0, [⟨0, 32, .st⟩]⟩,
    ⟨0xC0110, [(64, 0x20)], 0x0, [⟨0, 32, .st⟩]⟩,
    ⟨0xC0900, [], 0x0, [⟨0, 32, .rc⟩]⟩,
    ⟨0xC0904, [], 0x0, [⟨0, 32, .rc⟩]⟩,
    ⟨0xC0908, [], 0x0, [⟨0, 32, .rc⟩]⟩,
    ⟨0xC1000, [(16, 0x100)], 0x90000000, [⟨28, 4, .st⟩, ⟨26, 2, .st⟩, ⟨0, 1, .st⟩]⟩,
    ⟨0xC1004, [(16, 0x100)], 0x0, [⟨28, 4, .ro⟩, ⟨26, 2, .ro⟩, ⟨12, 12, .ro⟩, ⟨1, 3, .ro⟩, ⟨0, 1, .ro⟩]⟩,
    ⟨0xC1008, [(16, 0x100)], 0x0, [⟨16, 12, .ro⟩, ⟨0, 12, .ro⟩]⟩ ] ++
  [ ⟨0xC1010, [(16, 0x100), (8, 0x4)], 0x0, [⟨16, 12, .ro⟩, ⟨0, 12, .ro⟩]⟩,
    ⟨0xC1040, [(16, 0x100)], 0x0, [⟨0, 32, .rc⟩]⟩,
    ⟨0xC1044, [(16, 0x100)], 0x0, [⟨0, 32, .rc⟩]⟩,
    ⟨0xC1048, [(16, 0x100)], 0x0, [⟨0, 32, .rc⟩]⟩,
    ⟨0xC104C, [(16, 0x100)], 0x0, [⟨0, 32, .rc⟩]⟩ ]

/-- The registers of block RDN (R578). -/
def regsRdn : List RegRow :=
  [ ⟨0xD0000, [], 0x0, [⟨20, 12, .st⟩, ⟨16, 2, .st⟩, ⟨3, 1, .st⟩, ⟨2, 1, .st⟩, ⟨0, 2, .st⟩]⟩,
    ⟨0xD0004, [], 0x40A0A0A, [⟨24, 8, .st⟩, ⟨16, 8, .st⟩, ⟨8, 8, .st⟩, ⟨0, 8, .st⟩]⟩,
    ⟨0xD0008, [], 0x4000705, [⟨16, 16, .st⟩, ⟨8, 8, .st⟩, ⟨0, 8, .st⟩]⟩,
    ⟨0xD000C, [], 0x0, [⟨0, 12, .st⟩]⟩,
    ⟨0xD0010, [], 0x0, [⟨0, 32, .st⟩]⟩,
    ⟨0xD0014, [], 0x0, [⟨0, 32, .st⟩]⟩,
    ⟨0xD0020, [], 0x0, [⟨1, 1, .w1s⟩, ⟨0, 1, .w1s⟩]⟩,
    ⟨0xD0024, [], 0x0, [⟨16, 16, .ro⟩, ⟨6, 1, .ro⟩, ⟨5, 1, .ro⟩, ⟨4, 1, .ro⟩, ⟨3, 1, .ro⟩, ⟨0, 3, .ro⟩]⟩,
    ⟨0xD0028, [], 0x0, [⟨0, 32, .ro⟩]⟩,
    ⟨0xD002C, [], 0x0, [⟨0, 32, .ro⟩]⟩,
    ⟨0xD0030, [], 0x0, [⟨0, 32, .ro⟩]⟩,
    ⟨0xD0034, [], 0x0, [⟨0, 32, .ro⟩]⟩,
    ⟨0xD0038, [], 0x0, [⟨0, 32, .ro⟩]⟩,
    ⟨0xD003C, [], 0x0, [⟨0, 32, .ro⟩]⟩,
    ⟨0xD0040, [], 0x0, [⟨0, 32, .ro⟩]⟩,
    ⟨0xD0044, [], 0x0, [⟨0, 32, .ro⟩]⟩,
    ⟨0xD0048, [], 0x0, [⟨0, 32, .ro⟩]⟩,
    ⟨0xD0050, [], 0x0, [⟨0, 32, .ro⟩]⟩,
    ⟨0xD0054, [], 0x0, [⟨0, 32, .ro⟩]⟩,
    ⟨0xD0058, [], 0x0, [⟨0, 32, .ro⟩]⟩,
    ⟨0xD005C, [], 0x0, [⟨28, 4, .wo⟩, ⟨23, 5, .wo⟩, ⟨0, 16, .wo⟩]⟩,
    ⟨0xD0080, [], 0x0, [⟨0, 32, .rc⟩]⟩,
    ⟨0xD0084, [], 0x0, [⟨0, 32, .rc⟩]⟩,
    ⟨0xD0088, [], 0x0, [⟨0, 32, .rc⟩]⟩ ] ++
  [ ⟨0xD008C, [], 0x0, [⟨0, 32, .rc⟩]⟩ ]

/-- The registers of block DRM (R578). -/
def regsDrm : List RegRow :=
  [ ⟨0xE0000, [(24, 0x800)], 0x0, [⟨4, 3, .ro⟩, ⟨2, 1, .ro⟩, ⟨1, 1, .ro⟩, ⟨0, 1, .ro⟩]⟩,
    ⟨0xE0004, [(24, 0x800)], 0x8003010, [⟨16, 16, .st⟩, ⟨8, 8, .st⟩, ⟨0, 8, .st⟩]⟩,
    ⟨0xE0008, [(24, 0x800)], 0x1000001, [⟨16, 16, .st⟩, ⟨0, 1, .st⟩]⟩,
    ⟨0xE000C, [(24, 0x800)], 0x0, [⟨8, 8, .st⟩, ⟨0, 8, .st⟩]⟩,
    ⟨0xE0010, [(24, 0x800)], 0x0, [⟨4, 1, .w1s⟩, ⟨0, 1, .st⟩]⟩,
    ⟨0xE0014, [(24, 0x800)], 0x0, [⟨28, 4, .ro⟩, ⟨20, 4, .ro⟩, ⟨16, 2, .ro⟩, ⟨12, 2, .ro⟩, ⟨0, 4, .ro⟩]⟩,
    ⟨0xE0018, [(24, 0x800)], 0x0, [⟨26, 6, .ro⟩, ⟨0, 26, .ro⟩]⟩,
    ⟨0xE0020, [(24, 0x800)], 0x0, [⟨0, 32, .rc⟩]⟩,
    ⟨0xE0024, [(24, 0x800)], 0x0, [⟨0, 32, .rc⟩]⟩,
    ⟨0xE0028, [(24, 0x800)], 0x0, [⟨0, 32, .rc⟩]⟩,
    ⟨0xE002C, [(24, 0x800)], 0x0, [⟨0, 32, .rc⟩]⟩,
    ⟨0xE0030, [(24, 0x800)], 0x0, [⟨0, 32, .rc⟩]⟩,
    ⟨0xE0034, [(24, 0x800)], 0x0, [⟨0, 32, .rc⟩]⟩,
    ⟨0xEC000, [], 0x1806F000, [⟨24, 8, .st⟩, ⟨16, 4, .ro⟩, ⟨12, 4, .ro⟩, ⟨8, 1, .st⟩]⟩,
    ⟨0xEC004, [], 0x0, [⟨8, 8, .ro⟩, ⟨0, 5, .ro⟩]⟩,
    ⟨0xEC008, [], 0x0, [⟨0, 24, .ro⟩]⟩,
    ⟨0xEC010, [], 0x0, [⟨0, 32, .rw⟩]⟩,
    ⟨0xEC014, [], 0x0, [⟨0, 32, .rw⟩]⟩,
    ⟨0xEC018, [], 0x0, [⟨16, 5, .ro⟩, ⟨12, 1, .ro⟩, ⟨9, 3, .ro⟩, ⟨0, 1, .ro⟩]⟩,
    ⟨0xEC01C, [], 0x0, [⟨0, 32, .ro⟩]⟩,
    ⟨0xEC020, [], 0x0, [⟨0, 32, .ro⟩]⟩,
    ⟨0xF0000, [(24, 0x400)], 0x0, [⟨28, 4, .wo⟩, ⟨24, 1, .wo⟩, ⟨0, 13, .wo⟩]⟩,
    ⟨0xF0004, [(24, 0x400)], 0x1, [⟨4, 4, .ro⟩, ⟨1, 1, .w1c⟩, ⟨0, 1, .ro⟩]⟩,
    ⟨0xF0008, [(24, 0x400)], 0x100, [⟨8, 24, .rw⟩, ⟨0, 2, .rw⟩]⟩ ] ++
  [ ⟨0xF000C, [(24, 0x400)], 0xFF01, [⟨28, 4, .rw⟩, ⟨16, 8, .rw⟩, ⟨8, 8, .rw⟩, ⟨0, 8, .rw⟩]⟩,
    ⟨0xF0040, [(24, 0x400), (16, 0x4)], 0x0, [⟨0, 32, .rw⟩]⟩,
    ⟨0xF0100, [(24, 0x400), (18, 0x4)], 0x0, [⟨0, 32, .rc⟩]⟩,
    ⟨0xF0200, [(24, 0x400), (18, 0x4)], 0x0, [⟨16, 8, .ro⟩, ⟨8, 8, .ro⟩, ⟨0, 8, .ro⟩]⟩ ]

/-- The registers of block ENC (R578). -/
def regsEnc : List RegRow :=
  [ ⟨0x100000, [(16, 0x400)], 0x402, [⟨8, 6, .st⟩, ⟨5, 3, .st⟩, ⟨3, 2, .st⟩, ⟨1, 2, .st⟩, ⟨0, 1, .st⟩]⟩,
    ⟨0x100004, [(16, 0x400)], 0x0, [⟨0, 32, .st⟩]⟩,
    ⟨0x100008, [(16, 0x400)], 0x0, [⟨8, 4, .st⟩, ⟨6, 2, .st⟩, ⟨4, 2, .st⟩, ⟨2, 2, .st⟩, ⟨0, 2, .st⟩]⟩,
    ⟨0x10000C, [(16, 0x400)], 0x0, [⟨16, 16, .st⟩, ⟨0, 16, .st⟩]⟩,
    ⟨0x100010, [(16, 0x400)], 0x0, [⟨16, 16, .st⟩, ⟨8, 1, .st⟩, ⟨4, 4, .st⟩, ⟨0, 4, .st⟩]⟩,
    ⟨0x100014, [(16, 0x400)], 0x0, [⟨0, 32, .st⟩]⟩,
    ⟨0x100020, [(16, 0x400)], 0x0, [⟨0, 32, .wo⟩]⟩,
    ⟨0x100040, [(16, 0x400), (12, 0x10)], 0x700000, [⟨20, 3, .st⟩, ⟨4, 16, .st⟩, ⟨3, 1, .st⟩, ⟨1, 2, .st⟩, ⟨0, 1, .st⟩]⟩,
    ⟨0x100044, [(16, 0x400), (12, 0x10)], 0x0, [⟨0, 32, .st⟩]⟩,
    ⟨0x100100, [(16, 0x400)], 0x0, [⟨2, 2, .ro⟩, ⟨1, 1, .ro⟩, ⟨0, 1, .ro⟩]⟩,
    ⟨0x100104, [(16, 0x400)], 0x0, [⟨0, 32, .ro⟩]⟩,
    ⟨0x100110, [(16, 0x400)], 0x0, [⟨0, 32, .rc⟩]⟩,
    ⟨0x100114, [(16, 0x400)], 0x0, [⟨0, 32, .rc⟩]⟩,
    ⟨0x100118, [(16, 0x400)], 0x0, [⟨0, 32, .rc⟩]⟩,
    ⟨0x10011C, [(16, 0x400)], 0x0, [⟨0, 32, .rc⟩]⟩,
    ⟨0x100120, [(16, 0x400)], 0x0, [⟨0, 32, .rc⟩]⟩,
    ⟨0x100048, [(16, 0x400), (12, 0x10)], 0x200000, [⟨24, 5, .st⟩, ⟨23, 1, .st⟩, ⟨21, 2, .st⟩, ⟨19, 2, .st⟩, ⟨17, 2, .st⟩, ⟨16, 1, .st⟩, ⟨8, 8, .st⟩, ⟨4, 4, .st⟩, ⟨0, 4, .st⟩]⟩,
    ⟨0x10004C, [(16, 0x400), (12, 0x10)], 0x0, [⟨30, 2, .st⟩, ⟨16, 14, .st⟩, ⟨0, 14, .st⟩]⟩,
    ⟨0x100180, [(16, 0x400), (12, 0x10)], 0x0, [⟨0, 32, .ro⟩]⟩,
    ⟨0x100184, [(16, 0x400), (12, 0x10)], 0x0, [⟨8, 5, .ro⟩, ⟨0, 8, .ro⟩]⟩,
    ⟨0x100188, [(16, 0x400), (12, 0x10)], 0x0, [⟨0, 19, .ro⟩]⟩,
    ⟨0x110000, [(40, 0x100)], 0x0, [⟨1, 1, .w1s⟩, ⟨0, 1, .w1s⟩]⟩,
    ⟨0x110004, [(40, 0x100)], 0x0, [⟨16, 8, .ros⟩, ⟨13, 3, .ro⟩, ⟨2, 1, .ro⟩, ⟨1, 1, .ro⟩, ⟨0, 1, .ros⟩]⟩,
    ⟨0x110008, [(40, 0x100)], 0x0, [⟨0, 14, .ro⟩]⟩ ] ++
  [ ⟨0x11000C, [(40, 0x100)], 0x0, [⟨31, 1, .ro⟩, ⟨30, 1, .ro⟩, ⟨8, 12, .ro⟩, ⟨0, 4, .ro⟩]⟩,
    ⟨0x110010, [(40, 0x100)], 0x0, [⟨0, 32, .rc⟩]⟩,
    ⟨0x118000, [], 0x50000000, [⟨16, 16, .ro⟩, ⟨8, 6, .ro⟩, ⟨0, 6, .ro⟩]⟩,
    ⟨0x100300, [(16, 0x400)], 0x3803, [⟨8, 6, .st⟩, ⟨1, 1, .st⟩, ⟨0, 1, .st⟩]⟩,
    ⟨0x100308, [(16, 0x400)], 0x0, [⟨16, 16, .ro⟩, ⟨0, 16, .ro⟩]⟩,
    ⟨0x10030C, [(16, 0x400)], 0x0, [⟨0, 32, .rc⟩]⟩,
    ⟨0x100310, [(16, 0x400)], 0x0, [⟨0, 32, .ro⟩]⟩,
    ⟨0x100314, [(16, 0x400)], 0x0, [⟨0, 32, .ro⟩]⟩,
    ⟨0x110020, [(40, 0x100)], 0x0, [⟨8, 6, .ro⟩, ⟨1, 1, .ro⟩, ⟨0, 1, .ro⟩]⟩,
    ⟨0x110024, [(40, 0x100)], 0x0, [⟨0, 32, .rc⟩]⟩,
    ⟨0x110028, [(40, 0x100)], 0x0, [⟨0, 32, .rc⟩]⟩,
    ⟨0x120000, [(2, 0x100)], 0x0, [⟨16, 16, .ro⟩, ⟨0, 1, .ro⟩]⟩,
    ⟨0x100240, [(16, 0x400), (12, 0x10)], 0x3F020000, [⟨24, 6, .st⟩, ⟨18, 6, .st⟩, ⟨12, 6, .st⟩, ⟨8, 1, .st⟩, ⟨5, 3, .st⟩, ⟨0, 2, .st⟩]⟩,
    ⟨0x100244, [(16, 0x400), (12, 0x10)], 0x0, [⟨16, 16, .st⟩, ⟨0, 16, .st⟩]⟩,
    ⟨0x100248, [(16, 0x400), (12, 0x10)], 0x0, [⟨20, 12, .st⟩, ⟨0, 20, .st⟩]⟩,
    ⟨0x10024C, [(16, 0x400), (12, 0x10)], 0x8000200, [⟨16, 16, .st⟩, ⟨0, 16, .st⟩]⟩,
    ⟨0x130000, [(16, 0x400), (12, 0x20)], 0xFFE0, [⟨24, 2, .ro⟩, ⟨16, 6, .ro⟩, ⟨5, 11, .ro⟩, ⟨2, 1, .ro⟩, ⟨1, 1, .ro⟩, ⟨0, 1, .ro⟩]⟩,
    ⟨0x130004, [(16, 0x400), (12, 0x20)], 0x0, [⟨0, 32, .ro⟩]⟩,
    ⟨0x130008, [(16, 0x400), (12, 0x20)], 0x0, [⟨0, 32, .ro⟩]⟩,
    ⟨0x13000C, [(16, 0x400), (12, 0x20)], 0x0, [⟨0, 32, .ro⟩]⟩,
    ⟨0x130010, [(16, 0x400), (12, 0x20)], 0x0, [⟨0, 32, .rc⟩]⟩,
    ⟨0x130014, [(16, 0x400), (12, 0x20)], 0x0, [⟨0, 32, .rc⟩]⟩,
    ⟨0x138000, [(8, 0x40)], 0x0, [⟨0, 16, .st⟩]⟩,
    ⟨0x138004, [(8, 0x40)], 0x0, [⟨0, 16, .ro⟩]⟩ ]

/-- The registers of block DEC (R578). -/
def regsDec : List RegRow :=
  [ ⟨0x150000, [(8, 0x100)], 0x0, [⟨1, 1, .w1s⟩, ⟨0, 1, .w1s⟩]⟩,
    ⟨0x150004, [(8, 0x100)], 0x0, [⟨8, 8, .rws⟩, ⟨1, 1, .ro⟩, ⟨0, 1, .ros⟩]⟩,
    ⟨0x150008, [(8, 0x100)], 0x0, [⟨0, 16, .ro⟩]⟩,
    ⟨0x15000C, [(8, 0x100)], 0x0, [⟨21, 11, .ro⟩, ⟨20, 1, .ro⟩, ⟨19, 1, .ro⟩, ⟨13, 6, .ro⟩, ⟨8, 4, .ro⟩, ⟨0, 4, .ro⟩]⟩,
    ⟨0x158000, [], 0x50000000, [⟨16, 16, .ro⟩, ⟨4, 8, .ro⟩, ⟨0, 4, .ro⟩]⟩,
    ⟨0x158004, [], 0x0, [⟨16, 16, .rc⟩, ⟨0, 16, .rc⟩]⟩,
    ⟨0x140000, [(24, 0x100)], 0x0, [⟨1, 1, .w1s⟩, ⟨0, 1, .w1s⟩]⟩,
    ⟨0x140004, [(24, 0x100)], 0x0, [⟨16, 8, .rws⟩, ⟨13, 3, .ro⟩, ⟨2, 1, .ro⟩, ⟨1, 1, .ro⟩, ⟨0, 1, .ros⟩]⟩,
    ⟨0x140008, [(24, 0x100)], 0x0, [⟨16, 16, .ro⟩, ⟨0, 15, .ro⟩]⟩,
    ⟨0x14000C, [(24, 0x100)], 0x0, [⟨0, 32, .rc⟩]⟩,
    ⟨0x148000, [], 0x1414, [⟨12, 1, .st⟩, ⟨8, 4, .st⟩, ⟨0, 8, .st⟩]⟩,
    ⟨0x148004, [], 0x8CA00000, [⟨16, 16, .ro⟩, ⟨0, 5, .ro⟩]⟩,
    ⟨0x148008, [], 0x0, [⟨16, 14, .ro⟩, ⟨0, 14, .ro⟩]⟩,
    ⟨0x14800C, [], 0x0, [⟨0, 32, .rc⟩]⟩,
    ⟨0x148010, [], 0x0, [⟨0, 32, .rc⟩]⟩,
    ⟨0x148014, [], 0x0, [⟨0, 32, .rc⟩]⟩,
    ⟨0x148018, [], 0x0, [⟨0, 32, .rc⟩]⟩ ]

/-- The registers of block CMP (R578). -/
def regsCmp : List RegRow :=
  [ ⟨0x160000, [(16, 0x100)], 0x320000, [⟨16, 8, .st⟩, ⟨8, 8, .st⟩, ⟨1, 1, .st⟩, ⟨0, 1, .st⟩]⟩,
    ⟨0x160004, [(16, 0x100)], 0x0, [⟨0, 32, .st⟩]⟩,
    ⟨0x160008, [(16, 0x100)], 0x0, [⟨0, 32, .st⟩]⟩,
    ⟨0x16000C, [(16, 0x100)], 0x0, [⟨0, 32, .st⟩]⟩,
    ⟨0x160010, [(16, 0x100)], 0x0, [⟨0, 32, .st⟩]⟩,
    ⟨0x160014, [(16, 0x100)], 0x0, [⟨1, 1, .w1s⟩, ⟨0, 1, .w1s⟩]⟩,
    ⟨0x160018, [(16, 0x100)], 0x0, [⟨16, 8, .rws⟩, ⟨13, 3, .ro⟩, ⟨4, 4, .ro⟩, ⟨3, 1, .ro⟩, ⟨1, 1, .ro⟩, ⟨0, 1, .ros⟩]⟩,
    ⟨0x16001C, [(16, 0x100)], 0x0, [⟨0, 17, .ro⟩]⟩,
    ⟨0x160020, [(16, 0x100)], 0x0, [⟨0, 32, .rc⟩]⟩,
    ⟨0x160024, [(16, 0x100)], 0x0, [⟨0, 16, .ro⟩]⟩,
    ⟨0x168000, [], 0xFA000000, [⟨16, 16, .ro⟩, ⟨0, 5, .ro⟩]⟩,
    ⟨0x169000, [(1024, 0x4)], 0x0, [⟨0, 10, .st⟩]⟩ ]

/-- The registers of block BRG (R578). -/
def regsBrg : List RegRow :=
  [ ⟨0x170000, [], 0xA00, [⟨8, 8, .st⟩, ⟨0, 1, .st⟩]⟩,
    ⟨0x170004, [], 0x0, [⟨0, 32, .st⟩]⟩,
    ⟨0x170008, [], 0x0, [⟨0, 32, .st⟩]⟩,
    ⟨0x17000C, [], 0x0, [⟨0, 32, .st⟩]⟩,
    ⟨0x170010, [], 0x0, [⟨0, 32, .st⟩]⟩,
    ⟨0x170014, [], 0x0, [⟨0, 32, .st⟩]⟩,
    ⟨0x170018, [], 0x0, [⟨0, 32, .st⟩]⟩,
    ⟨0x170020, [], 0x0, [⟨0, 22, .ro⟩]⟩,
    ⟨0x170024, [], 0x0, [⟨19, 13, .ro⟩, ⟨0, 17, .ro⟩]⟩,
    ⟨0x170030, [], 0x0, [⟨0, 32, .rc⟩]⟩,
    ⟨0x170034, [], 0x0, [⟨0, 32, .rc⟩]⟩,
    ⟨0x170038, [], 0x0, [⟨0, 32, .rc⟩]⟩,
    ⟨0x170100, [], 0x0, [⟨28, 4, .wo⟩, ⟨24, 4, .wo⟩, ⟨0, 22, .wo⟩]⟩,
    ⟨0x170104, [], 0x1, [⟨4, 4, .ro⟩, ⟨0, 1, .ro⟩]⟩,
    ⟨0x170200, [(128, 0x4)], 0x0, [⟨0, 32, .rw⟩]⟩ ]

/-- The registers of block FWD (R578). -/
def regsFwd : List RegRow :=
  [ ⟨0x180000, [], 0x14320A01, [⟨24, 8, .st⟩, ⟨16, 8, .st⟩, ⟨8, 8, .st⟩, ⟨0, 1, .st⟩]⟩,
    ⟨0x180004, [], 0x3E81464, [⟨16, 16, .st⟩, ⟨8, 8, .st⟩, ⟨0, 8, .st⟩]⟩,
    ⟨0x180008, [], 0x0, [⟨0, 32, .st⟩]⟩,
    ⟨0x18000C, [], 0x0, [⟨0, 32, .st⟩]⟩,
    ⟨0x180010, [], 0x0, [⟨0, 32, .st⟩]⟩,
    ⟨0x180014, [], 0x0, [⟨0, 32, .st⟩]⟩,
    ⟨0x180018, [], 0x0, [⟨0, 32, .st⟩]⟩,
    ⟨0x18001C, [], 0x0, [⟨0, 32, .st⟩]⟩,
    ⟨0x180040, [], 0x0, [⟨0, 32, .rc⟩]⟩,
    ⟨0x180044, [], 0x0, [⟨0, 32, .rc⟩]⟩,
    ⟨0x180048, [], 0x0, [⟨0, 32, .rc⟩]⟩,
    ⟨0x18004C, [], 0x0, [⟨0, 32, .rc⟩]⟩,
    ⟨0x180050, [], 0x0, [⟨0, 32, .rc⟩]⟩,
    ⟨0x180054, [], 0x0, [⟨0, 32, .rc⟩]⟩,
    ⟨0x180058, [], 0x0, [⟨0, 32, .rc⟩]⟩,
    ⟨0x180100, [], 0x0, [⟨28, 4, .wo⟩, ⟨0, 22, .wo⟩]⟩,
    ⟨0x180104, [], 0x1, [⟨16, 16, .rc⟩, ⟨8, 8, .ro⟩, ⟨0, 1, .ro⟩]⟩,
    ⟨0x180108, [], 0x0, [⟨0, 22, .ro⟩]⟩,
    ⟨0x180200, [(385, 0x4)], 0x0, [⟨0, 32, .rw⟩]⟩,
    ⟨0x190000, [(16, 0x40)], 0x0, [⟨16, 16, .ro⟩, ⟨0, 16, .ro⟩]⟩,
    ⟨0x190004, [(16, 0x40)], 0x0, [⟨0, 32, .rc⟩]⟩ ]

/-- The registers of block AUD (R578). -/
def regsAud : List RegRow :=
  [ ⟨0x1A0000, [], 0xFFF00, [⟨8, 12, .st⟩, ⟨2, 6, .st⟩, ⟨0, 1, .st⟩]⟩,
    ⟨0x1A0004, [], 0x0, [⟨0, 32, .st⟩]⟩,
    ⟨0x1A0008, [], 0x0, [⟨0, 32, .st⟩]⟩,
    ⟨0x1A000C, [], 0x0, [⟨0, 32, .st⟩]⟩,
    ⟨0x1A0010, [], 0x0, [⟨0, 32, .st⟩]⟩,
    ⟨0x1A0014, [], 0x0, [⟨16, 12, .ro⟩, ⟨0, 14, .ro⟩]⟩,
    ⟨0x1A0020, [], 0x0, [⟨0, 32, .rc⟩]⟩,
    ⟨0x1A0024, [], 0x0, [⟨0, 32, .rc⟩]⟩,
    ⟨0x1A0028, [], 0x0, [⟨0, 32, .rc⟩]⟩,
    ⟨0x1A002C, [], 0x0, [⟨0, 32, .rc⟩]⟩,
    ⟨0x1A0400, [(96, 0x4)], 0x0, [⟨0, 14, .ro⟩]⟩,
    ⟨0x1A0200, [], 0x0, [⟨28, 4, .wo⟩, ⟨24, 4, .wo⟩, ⟨0, 15, .wo⟩]⟩,
    ⟨0x1A0204, [], 0x1, [⟨4, 4, .ro⟩, ⟨0, 1, .ro⟩]⟩,
    ⟨0x1A0300, [(32, 0x4)], 0x0, [⟨0, 32, .rw⟩]⟩,
    ⟨0x1A8000, [(16, 0x400)], 0x0, [⟨14, 2, .st⟩, ⟨8, 6, .st⟩, ⟨4, 2, .st⟩, ⟨3, 1, .st⟩, ⟨1, 2, .st⟩, ⟨0, 1, .st⟩]⟩,
    ⟨0x1A8004, [(16, 0x400)], 0x0, [⟨24, 4, .st⟩, ⟨16, 8, .st⟩, ⟨8, 1, .st⟩, ⟨0, 8, .st⟩]⟩,
    ⟨0x1A8008, [(16, 0x400)], 0x80008000, [⟨16, 16, .ro⟩, ⟨0, 16, .ro⟩]⟩,
    ⟨0x1A800C, [(16, 0x400)], 0x80008000, [⟨16, 16, .ro⟩, ⟨0, 16, .ro⟩]⟩,
    ⟨0x1A8010, [(16, 0x400)], 0x0, [⟨0, 32, .rc⟩]⟩,
    ⟨0x1A8014, [(16, 0x400)], 0x0, [⟨0, 22, .st⟩]⟩,
    ⟨0x1A8018, [(16, 0x400)], 0x0, [⟨28, 4, .st⟩, ⟨0, 22, .st⟩]⟩,
    ⟨0x1A8100, [(16, 0x400), (64, 0x4)], 0x0, [⟨23, 9, .st⟩, ⟨15, 1, .st⟩, ⟨12, 3, .st⟩, ⟨0, 6, .st⟩]⟩ ]

/-- The registers of block APT (R578). -/
def regsApt : List RegRow :=
  [ ⟨0x1B0000, [], 0x20A00, [⟨24, 3, .st⟩, ⟨20, 4, .st⟩, ⟨16, 4, .st⟩, ⟨8, 8, .st⟩, ⟨7, 1, .st⟩, ⟨6, 1, .st⟩, ⟨5, 1, .st⟩, ⟨2, 1, .st⟩, ⟨1, 1, .st⟩]⟩,
    ⟨0x1B0100, [], 0x120A00, [⟨24, 3, .st⟩, ⟨20, 4, .st⟩, ⟨16, 4, .st⟩, ⟨8, 8, .st⟩, ⟨7, 1, .st⟩, ⟨6, 1, .st⟩, ⟨5, 1, .st⟩, ⟨2, 1, .st⟩, ⟨1, 1, .st⟩]⟩,
    ⟨0x1B0200, [], 0x220A00, [⟨24, 3, .st⟩, ⟨20, 4, .st⟩, ⟨16, 4, .st⟩, ⟨8, 8, .st⟩, ⟨7, 1, .st⟩, ⟨6, 1, .st⟩, ⟨5, 1, .st⟩, ⟨2, 1, .st⟩, ⟨1, 1, .st⟩]⟩,
    ⟨0x1B0300, [], 0x320A00, [⟨24, 3, .st⟩, ⟨20, 4, .st⟩, ⟨16, 4, .st⟩, ⟨8, 8, .st⟩, ⟨7, 1, .st⟩, ⟨6, 1, .st⟩, ⟨5, 1, .st⟩, ⟨2, 1, .st⟩, ⟨1, 1, .st⟩]⟩,
    ⟨0x1B0400, [], 0x420A00, [⟨24, 3, .st⟩, ⟨20, 4, .st⟩, ⟨16, 4, .st⟩, ⟨8, 8, .st⟩, ⟨7, 1, .st⟩, ⟨6, 1, .st⟩, ⟨5, 1, .st⟩, ⟨2, 1, .st⟩, ⟨1, 1, .st⟩]⟩,
    ⟨0x1B0500, [], 0x520A00, [⟨24, 3, .st⟩, ⟨20, 4, .st⟩, ⟨16, 4, .st⟩, ⟨8, 8, .st⟩, ⟨7, 1, .st⟩, ⟨6, 1, .st⟩, ⟨5, 1, .st⟩, ⟨2, 1, .st⟩, ⟨1, 1, .st⟩]⟩,
    ⟨0x1B0600, [], 0x620A00, [⟨24, 3, .st⟩, ⟨20, 4, .st⟩, ⟨16, 4, .st⟩, ⟨8, 8, .st⟩, ⟨7, 1, .st⟩, ⟨6, 1, .st⟩, ⟨5, 1, .st⟩, ⟨2, 1, .st⟩, ⟨1, 1, .st⟩]⟩,
    ⟨0x1B0700, [], 0x720A00, [⟨24, 3, .st⟩, ⟨20, 4, .st⟩, ⟨16, 4, .st⟩, ⟨8, 8, .st⟩, ⟨7, 1, .st⟩, ⟨6, 1, .st⟩, ⟨5, 1, .st⟩, ⟨2, 1, .st⟩, ⟨1, 1, .st⟩]⟩,
    ⟨0x1B0800, [], 0x820A00, [⟨24, 3, .st⟩, ⟨20, 4, .st⟩, ⟨16, 4, .st⟩, ⟨8, 8, .st⟩, ⟨7, 1, .st⟩, ⟨6, 1, .st⟩, ⟨5, 1, .st⟩, ⟨2, 1, .st⟩, ⟨1, 1, .st⟩]⟩,
    ⟨0x1B0900, [], 0x920A00, [⟨24, 3, .st⟩, ⟨20, 4, .st⟩, ⟨16, 4, .st⟩, ⟨8, 8, .st⟩, ⟨7, 1, .st⟩, ⟨6, 1, .st⟩, ⟨5, 1, .st⟩, ⟨2, 1, .st⟩, ⟨1, 1, .st⟩]⟩,
    ⟨0x1B0A00, [], 0xA20A00, [⟨24, 3, .st⟩, ⟨20, 4, .st⟩, ⟨16, 4, .st⟩, ⟨8, 8, .st⟩, ⟨7, 1, .st⟩, ⟨6, 1, .st⟩, ⟨5, 1, .st⟩, ⟨2, 1, .st⟩, ⟨1, 1, .st⟩]⟩,
    ⟨0x1B0B00, [], 0xB20A00, [⟨24, 3, .st⟩, ⟨20, 4, .st⟩, ⟨16, 4, .st⟩, ⟨8, 8, .st⟩, ⟨7, 1, .st⟩, ⟨6, 1, .st⟩, ⟨5, 1, .st⟩, ⟨2, 1, .st⟩, ⟨1, 1, .st⟩]⟩,
    ⟨0x1B0C00, [], 0xC20A00, [⟨24, 3, .st⟩, ⟨20, 4, .st⟩, ⟨16, 4, .st⟩, ⟨8, 8, .st⟩, ⟨7, 1, .st⟩, ⟨6, 1, .st⟩, ⟨5, 1, .st⟩, ⟨2, 1, .st⟩, ⟨1, 1, .st⟩]⟩,
    ⟨0x1B0D00, [], 0xD20A00, [⟨24, 3, .st⟩, ⟨20, 4, .st⟩, ⟨16, 4, .st⟩, ⟨8, 8, .st⟩, ⟨7, 1, .st⟩, ⟨6, 1, .st⟩, ⟨5, 1, .st⟩, ⟨2, 1, .st⟩, ⟨1, 1, .st⟩]⟩,
    ⟨0x1B0E00, [], 0xE20A00, [⟨24, 3, .st⟩, ⟨20, 4, .st⟩, ⟨16, 4, .st⟩, ⟨8, 8, .st⟩, ⟨7, 1, .st⟩, ⟨6, 1, .st⟩, ⟨5, 1, .st⟩, ⟨2, 1, .st⟩, ⟨1, 1, .st⟩]⟩,
    ⟨0x1B0F00, [], 0xF20A00, [⟨24, 3, .st⟩, ⟨20, 4, .st⟩, ⟨16, 4, .st⟩, ⟨8, 8, .st⟩, ⟨7, 1, .st⟩, ⟨6, 1, .st⟩, ⟨5, 1, .st⟩, ⟨2, 1, .st⟩, ⟨1, 1, .st⟩]⟩,
    ⟨0x1B0004, [(16, 0x100)], 0x22001, [⟨24, 5, .st⟩, ⟨16, 2, .st⟩, ⟨8, 6, .st⟩, ⟨0, 5, .st⟩]⟩,
    ⟨0x1B0008, [(16, 0x100)], 0x3, [⟨0, 32, .st⟩]⟩,
    ⟨0x1B000C, [(16, 0x100)], 0x3, [⟨0, 32, .st⟩]⟩,
    ⟨0x1B0010, [(16, 0x100)], 0x0, [⟨0, 32, .st⟩]⟩,
    ⟨0x1B0014, [(16, 0x100)], 0x0, [⟨0, 32, .st⟩]⟩,
    ⟨0x1B0018, [(16, 0x100)], 0x0, [⟨24, 4, .st⟩, ⟨0, 21, .st⟩]⟩,
    ⟨0x1B001C, [(16, 0x100)], 0x0, [⟨16, 16, .st⟩, ⟨0, 16, .st⟩]⟩,
    ⟨0x1B0020, [(16, 0x100)], 0x0, [⟨16, 16, .ro⟩, ⟨8, 8, .ro⟩, ⟨3, 1, .ro⟩, ⟨2, 1, .ro⟩, ⟨1, 1, .ro⟩, ⟨0, 1, .ro⟩]⟩ ] ++
  [ ⟨0x1B0030, [(16, 0x100)], 0x0, [⟨0, 32, .rc⟩]⟩,
    ⟨0x1B0034, [(16, 0x100)], 0x0, [⟨0, 32, .rc⟩]⟩,
    ⟨0x1B0038, [(16, 0x100)], 0x0, [⟨0, 32, .rc⟩]⟩,
    ⟨0x1B003C, [(16, 0x100)], 0x0, [⟨0, 32, .rc⟩]⟩,
    ⟨0x1B0840, [(8, 0x100)], 0x100, [⟨10, 1, .st⟩, ⟨9, 1, .st⟩, ⟨8, 1, .st⟩, ⟨0, 4, .st⟩]⟩,
    ⟨0x1B0880, [(4, 0x100), (12, 0x4)], 0x0, [⟨0, 32, .ro⟩]⟩,
    ⟨0x1B0C80, [(4, 0x100), (12, 0x4)], 0x0, [⟨0, 32, .st⟩]⟩ ]

/-- The registers of block DSP (R578). -/
def regsDsp : List RegRow :=
  [ ⟨0x1C0000, [(12, 0x100)], 0x0, [⟨8, 8, .st⟩, ⟨2, 1, .st⟩, ⟨1, 1, .st⟩, ⟨0, 1, .st⟩]⟩,
    ⟨0x1C0004, [(12, 0x100)], 0x0, [⟨0, 32, .st⟩]⟩,
    ⟨0x1C0008, [(12, 0x100)], 0x0, [⟨8, 1, .ro⟩, ⟨0, 8, .ro⟩]⟩,
    ⟨0x1C0010, [(12, 0x100)], 0x0, [⟨0, 32, .st⟩]⟩,
    ⟨0x1C0014, [(12, 0x100)], 0x0, [⟨0, 32, .st⟩]⟩,
    ⟨0x1C0018, [(12, 0x100)], 0x0, [⟨0, 32, .st⟩]⟩,
    ⟨0x1C001C, [(12, 0x100)], 0x0, [⟨0, 32, .st⟩]⟩,
    ⟨0x1D0000, [(96, 0x40)], 0x0, [⟨3, 1, .w1s⟩, ⟨2, 1, .w1s⟩, ⟨1, 1, .w1s⟩, ⟨0, 1, .w1s⟩]⟩,
    ⟨0x1D0004, [(96, 0x40)], 0x0, [⟨24, 8, .rws⟩, ⟨20, 4, .ro⟩, ⟨16, 4, .ro⟩, ⟨13, 3, .ro⟩, ⟨1, 3, .ro⟩, ⟨0, 1, .ros⟩]⟩,
    ⟨0x1D0008, [(96, 0x40)], 0x0, [⟨0, 14, .ro⟩]⟩,
    ⟨0x1D000C, [(96, 0x40)], 0x0, [⟨0, 32, .wo⟩]⟩,
    ⟨0x1D0010, [(96, 0x40)], 0x0, [⟨0, 32, .rc⟩]⟩,
    ⟨0x1D0014, [(96, 0x40)], 0x0, [⟨0, 32, .rc⟩]⟩,
    ⟨0x1D0018, [(96, 0x40)], 0x0, [⟨0, 32, .rc⟩]⟩,
    ⟨0x1E0000, [], 0x0, [⟨28, 4, .wo⟩, ⟨24, 4, .wo⟩, ⟨16, 4, .wo⟩, ⟨10, 3, .wo⟩]⟩,
    ⟨0x1E0004, [], 0x0, [⟨0, 21, .rw⟩]⟩,
    ⟨0x1E0008, [], 0x1, [⟨4, 4, .ro⟩, ⟨0, 1, .ro⟩]⟩,
    ⟨0x1E0100, [(64, 0x4)], 0x0, [⟨0, 32, .rw⟩]⟩ ]

/-- The registers of block TST (R578). -/
def regsTst : List RegRow :=
  [ ⟨0x200000, [], 0xB812069B, [⟨0, 32, .ro⟩]⟩,
    ⟨0x200004, [], 0x0, [⟨2, 1, .ro⟩, ⟨1, 1, .ro⟩, ⟨0, 1, .ro⟩]⟩,
    ⟨0x200008, [], 0x0, [⟨9, 1, .w1c⟩, ⟨8, 1, .ro⟩, ⟨0, 8, .ro⟩]⟩,
    ⟨0x200010, [], 0x0, [⟨0, 1, .rws⟩]⟩,
    ⟨0x200014, [], 0x0, [⟨28, 4, .wo⟩, ⟨16, 3, .wo⟩, ⟨0, 7, .wo⟩]⟩,
    ⟨0x200030, [], 0x0, [⟨28, 4, .wo⟩, ⟨16, 3, .wo⟩, ⟨0, 7, .wo⟩]⟩,
    ⟨0x200018, [], 0x1, [⟨4, 4, .ro⟩, ⟨1, 1, .ro⟩, ⟨0, 1, .ro⟩]⟩,
    ⟨0x200034, [], 0x1, [⟨4, 4, .ro⟩, ⟨1, 1, .ro⟩, ⟨0, 1, .ro⟩]⟩,
    ⟨0x20001C, [], 0x0, [⟨0, 32, .ro⟩]⟩,
    ⟨0x200020, [], 0x0, [⟨0, 32, .ro⟩]⟩,
    ⟨0x200038, [], 0x0, [⟨0, 32, .ro⟩]⟩,
    ⟨0x200100, [(16, 0x10)], 0x10000, [⟨16, 16, .rw⟩, ⟨1, 6, .rw⟩, ⟨0, 1, .rw⟩]⟩,
    ⟨0x200104, [(16, 0x10)], 0x0, [⟨0, 32, .rc⟩]⟩,
    ⟨0x200108, [(16, 0x10)], 0x0, [⟨0, 32, .rc⟩]⟩,
    ⟨0x20010C, [(16, 0x10)], 0x0, [⟨0, 32, .rc⟩]⟩,
    ⟨0x201000, [(64, 0x40)], 0x0, [⟨28, 4, .rw⟩, ⟨24, 4, .rw⟩, ⟨3, 1, .rw⟩, ⟨2, 1, .w1s⟩, ⟨0, 1, .rw⟩]⟩,
    ⟨0x201004, [(64, 0x40)], 0x0, [⟨24, 4, .rw⟩, ⟨3, 1, .rw⟩, ⟨1, 1, .w1s⟩, ⟨0, 1, .rw⟩]⟩,
    ⟨0x201008, [(64, 0x40)], 0x0, [⟨0, 2, .rw⟩]⟩,
    ⟨0x20100C, [(64, 0x40)], 0x0, [⟨2, 1, .ro⟩, ⟨1, 1, .ro⟩, ⟨0, 1, .ro⟩]⟩,
    ⟨0x201010, [(64, 0x40)], 0x0, [⟨0, 32, .ro⟩]⟩,
    ⟨0x201014, [(64, 0x40)], 0x0, [⟨0, 32, .ro⟩]⟩,
    ⟨0x201018, [(64, 0x40)], 0x0, [⟨0, 32, .ro⟩]⟩,
    ⟨0x20101C, [(64, 0x40)], 0x0, [⟨0, 32, .ro⟩]⟩,
    ⟨0x201020, [(64, 0x40)], 0x0, [⟨0, 32, .ro⟩]⟩ ]

/-- The rows of a block number (R578); none for the reserved block numbers 33 to 63. -/
def regBlock (b : Nat) : List RegRow :=
  if b = 0 then regsSys else
  if b = 1 then regsClk else
  if b = 2 then regsPwr else
  if b = 3 then regsThm else
  if b = 4 then regsCfg else
  if b = 5 then regsEvq else
  if b = 6 then regsTb else
  if b = 7 then regsChk else
  if 8 ≤ b ∧ b ≤ 11 then regsLnk else
  if b = 12 then regsYz else
  if b = 13 then regsRdn else
  if 14 ≤ b ∧ b ≤ 15 then regsDrm else
  if 16 ≤ b ∧ b ≤ 19 then regsEnc else
  if 20 ≤ b ∧ b ≤ 21 then regsDec else
  if b = 22 then regsCmp else
  if b = 23 then regsBrg else
  if 24 ≤ b ∧ b ≤ 25 then regsFwd else
  if b = 26 then regsAud else
  if b = 27 then regsApt else
  if 28 ≤ b ∧ b ≤ 31 then regsDsp else
  if b = 32 then regsTst else
  []

/-- Whether an offset from a row's base is one of its instances. -/
def dimsHit : List (Nat × Nat) → Nat → Bool
  | [], o => o == 0
  | (c, s) :: ds, o => decide (o / s < c) && dimsHit ds (o % s)

/-- Whether a row occupies an address. -/
def RegRow.hit (r : RegRow) (a : Nat) : Bool := decide (r.base ≤ a) && dimsHit r.dims (a - r.base)

/-- The row that occupies an address, if any does (R562, R579). -/
def regRow (a : Nat) : Option RegRow := (regBlock (a / 0x10000)).find? (·.hit a)

/-- Whether an address lies in a firmware area (R579): offsets 0x400 to 0x7FF of each lane's page in LNK, offsets 0xF000
to 0xFFFF of the first block number elsewhere. -/
def inFirmwareArea (a : Nat) : Bool :=
  let b := a / 0x10000
  let o := a % 0x10000
  if 8 ≤ b ∧ b ≤ 11 then decide (0x400 ≤ o % 0x1000 ∧ o % 0x1000 < 0x800)
  else decide (0xF000 ≤ o) && (b ≤ 7 || [12, 13, 14, 16, 20, 22, 23, 24, 26, 27, 28, 32].contains b)

end Sys2Proof.Machine
end

