-- ==== Sys2Proof/Machine/TypesOut.lean ====
section
/-! DEFINITION. What leaves the device. The model keeps a record of what it has sent, so that a statement can say what a
command sends; the record is the model's own (assumption log row 5) and no meaning reads it. -/

namespace Sys2Proof.Machine

/-- One thing sent. Lease operations are those of R433, Yudizor flits and messages those of chapter 17. -/
inductive Out where
  | live (p : LivePkt)                        -- a coded packet of a live rendition (R33, R54)
  | tsOnly (ch rend : Nat) (t : TsInfo)       -- a transport stream packet without video: PCR, PAT and PMT (R52)
  | audio (p : BcPkt)                         -- a broadcast audio packet (R36)
  | aac (ch rend flow first : Nat)            -- an AAC-LC frame in the transport stream of a rendition (R263)
  | copy (flow ssrc seq ext ts size : Nat) (gyle : Option Nat)  -- a forwarded copy or device-coded packet of a send flow (R231, R246)
  | rtx (flow ssrc pt idx osn : Nat)          -- a retransmission with its SRTP index and the original sequence number (R243)
  | punt (flow len : Nat)                     -- an injected packet (R223)
  | senderReport (flow ntp ts pkts bytes : Nat)  -- SR: NTP timestamp, RTP timestamp, packets, octets (R227)
  | receiverReport (flow ext lost : Nat)      -- RR: extended highest sequence number, packets lost (R227)
  | feedback (flow : Nat) (pkts : List (Nat × Nat))  -- RFC 8888 feedback: each packet and its raw time (R227)
  | nack (flow : Nat) (seqs : List Nat)       -- generic NACK (R225)
  | keyframeReq (flow : Nat) (fir : Bool) (seq : Nat)  -- PLI or FIR (R241)
  | delayReq (seq : Nat)                      -- Delay_Req (R353)
  | stamps (port : Nat)                       -- stamp exchange (R367)
  | lease (op : Nat) (shadow : Bool) (holder lseq gyle durUs : Nat)  -- lease message (R433)
  | rackSet (recs : List RackRec)             -- a rack set (R427)
  | rackAck (seq : Nat)                       -- acknowledgement of a set (R428)
  | rackResendReq (seq : Nat)                 -- resend request (R428)
  | flit (port : Nat) (f : YzFlit)            -- a Yudizor flit (R393 to R402)
  | message (port vc len dst : Nat)           -- a Yudizor message (R405)
  | deliver (vc src typ len : Nat)            -- a message handed to the owner of its channel's use (R405)
  | heartbeat (addr : Nat) (healthy : Bool)   -- floor heartbeat (R412)
  | udp (peer vc seq ack : Nat) (msg : List Byte)  -- an encapsulated datagram (R409)
  | groupStage (ident dst : Nat) (writes : Tab W32) (recs : List StagedRec)  -- a member is asked to stage and check (R411)
  | group (op ident dst : Nat) (ok : Bool)    -- group change (R411): op 2 commit, 3 refusal reported, 4 answer
  | admission (sess leg : Nat) (grant : Bool) -- admission grant or refusal (R210)
  | admissionReq (sess leg : Nat)             -- admission request (R210)
  | reply (r : Reply)                         -- management reply (R569)
  | stream (sub tag : Nat) (recs : List EvRec) (unsent : Nat)  -- event stream datagram (R577)
  | arpEcho (sender : Nat)                    -- ARP, ND or ICMP echo answer (R568)
  | pin (tio : Nat) (level : Bool)            -- a timing pin level (R366)
  deriving DecidableEq, Repr

end Sys2Proof.Machine
end

