-- ==== Sys2Proof/Machine/State.lean ====
section
/-! DEFINITION. The state of the device: everything the spec gives it, as plain data, and the state after reset. -/

namespace Sys2Proof.Machine

/-- Faults. The spec gives the block an effect for every command, an error report where something is wrong included, so no
command ends in a fault: the type has no constructor. -/
inductive Fault : Type
  deriving DecidableEq, Repr

/-- Refusals. -/
inductive Refusal where
  /-- A command without a meaning in this model. Raised by its arm of `exec` alone; safe, the run stops. -/
  | notModelled (mnemonic : String)
  deriving DecidableEq, Repr

/-- What a register reads as while the register file lists nothing for it: its reset value (R578, register tables). A
fused register's value is free. -/
def regReset (a : Nat) : W32 :=
  match regRow a with
  | none => 0
  | some r => if r.fields.any (fun f => f.acc = .fused) then Config.fusedWord a else r.reset

/-- The whole state. `fresh`, `out` and `pending` are the model's own: the count that free values are drawn with, the record of
what has left the device, and the queue of commands. -/
structure State where
  regs    : Tab W32      -- the register map (chapter 26), sparse against its reset values
  tb      : Tb           -- timebase: raw counter, servo, triggers, captures (chapter 15)
  evq     : Evq          -- event queue (R588 to R591)
  lims    : Tab Lim      -- one-per-second limits of events (R586)
  cask    : Cask         -- the cask: identity values, last-good records, fault log (R567)
  stage   : Stage        -- steep bank and pending pitches (R550 to R557)
  boot    : Boot         -- start-up and authority classes (R538 to R548, R574)
  ctl     : Ctl          -- control ports, snapshot, senders, subscribers (chapter 25)
  safe    : Safe         -- SAFE mode and safe states (R458 to R464)
  rdn     : Rdn          -- the twin pair (chapter 18)
  enc     : Enc          -- live channels, tuns, check decoders, mill, rate control (chapters 2 to 6)
  brg     : Brg          -- decode, composer, sessions, legs, flows (chapters 7 to 10)
  ket     : Ket          -- kettle cores and memories (chapters 12, 13)
  aud     : Aud          -- audio mixing and audio ports (chapters 11, 14)
  phy     : Phy          -- lanes and links (chapter 16)
  yz      : Yz           -- Yudizor and the floor (chapter 17)
  dr      : Dr           -- DRAM channels, queues, training (chapter 21)
  clk     : Clk          -- clocks, monitors, muxes, trim (chapter 22)
  pwr     : Pwr          -- power modes, gates, domains (chapter 22)
  thm     : Thm          -- thermal control (chapter 23)
  tst     : Tst          -- test and diagnostics (chapter 28)
  dram    : Tab Byte     -- DRAM bytes that are not 0, by device address
  chkLive : List Nat     -- check-value units that have accepted an alive value since their last reset (R472)
  out     : List Out     -- what has left the device, oldest first
  fresh   : Nat          -- the count that free values are drawn with
  pending : List Instr   -- commands that wait, first in first out
  deriving DecidableEq, Repr

/-- The device right after reset: a new device with its pins held (R538, R578): every register at its reset value, every memory and
queue empty, no command waiting. -/
def State.reset : State :=
  { regs := [], tb := Tb.zero, evq := ⟨0, 0, [], 0⟩, lims := [], cask := Cask.new, stage := Stage.zero, boot := Boot.zero,
    ctl := Ctl.zero, safe := Safe.zero, rdn := Rdn.zero, enc := Enc.zero, brg := Brg.zero, ket := Ket.zero, aud := Aud.zero, phy := Phy.zero,
    yz := Yz.zero, dr := Dr.zero, clk := Clk.zero, pwr := Pwr.zero, thm := Thm.zero, tst := Tst.zero,
       dram := [], chkLive := [], out := [], fresh := 0, pending := [] }

end Sys2Proof.Machine
end

