-- ==== Sys2Proof/Machine/Ops.lean ====
section
/-! DEFINITION. The named operations over the state: registers and their fields, counters, presented time, raising an
event, writing the fault log. Every meaning is a composition of these and of its family's own. -/

namespace Sys2Proof.Machine

/-! ### Registers -/

/-- The device's value of a register. -/
def State.rd (s : State) (a : Nat) : W32 := tget regReset s.regs a

/-- Give a register a value. -/
def State.wr (s : State) (a : Nat) (v : W32) : State := { s with regs := tset regReset s.regs a v }

/-- The value of a field. -/
def State.fld (s : State) (f : FRef) : Nat := fieldGet (s.rd f.addr) f.lo f.width

/-- Whether a one-bit field is 1. -/
def State.bit (s : State) (f : FRef) : Bool := s.fld f != 0

/-- Give a field a value (its low bits). -/
def State.put (s : State) (f : FRef) (v : Nat) : State := s.wr f.addr (fieldPut (s.rd f.addr) f.lo f.width v)

/-- Add to a counter field, saturating at its greatest value (each counter's register table). -/
def State.cnt (s : State) (f : FRef) (n : Nat) : State := s.put f (min (s.fld f + n) (2 ^ f.width - 1))

/-- The signed value of a field. -/
def State.sfld (s : State) (f : FRef) : Int := toSigned f.width (s.fld f)

/-- Two registers LO and HI as one number. -/
def State.pairVal (s : State) (lo hi : Nat) : Nat := (s.rd lo).toNat + 2 ^ 32 * (s.rd hi).toNat

/-- Write a number into registers LO and HI. -/
def State.putPair (s : State) (lo hi : Nat) (v : Nat) : State :=
  (s.wr lo (BitVec.ofNat 32 v)).wr hi (BitVec.ofNat 32 (v / 2 ^ 32))

/-! ### Presented time (R346 to R349) -/

/-- One nanosecond, one microsecond, one millisecond and one second in units of 2⁻¹⁶ ns. -/
def nsU : Nat := 65536
def usU : Nat := 65536 * 1000
def msU : Nat := 65536 * 1000000
def secU : Nat := 65536 * 1000000000

/-- The raw count (R346). -/
def State.raw (s : State) : Nat := s.tb.raw

/-- The raw count in whole microseconds, milliseconds. -/
def State.rawUs (s : State) : Nat := s.tb.raw / usU
def State.rawMs (s : State) : Nat := s.tb.raw / msU

/-- raw · (1 + rate), formed exactly and truncated to 2⁻¹⁶ ns (R347). -/
def rateProduct (raw : Nat) (rate : Int) : Int := ((raw : Int) * ((2 ^ 48 : Nat) + rate)) / ((2 ^ 48 : Nat) : Int)

/-- Presented time in 2⁻¹⁶ ns (R347). -/
def Tb.presented (t : Tb) : Int := t.offset + rateProduct t.raw t.rate

/-- Presented time of the state, in 2⁻¹⁶ ns and in whole ns. -/
def State.now (s : State) : Int := s.tb.presented
def State.nowNs (s : State) : Int := s.tb.presented / (65536 : Int)

/-- Seconds of a presented time in 2⁻¹⁶ ns, as the 64-bit count of R349. -/
def timeSec (t : Int) : Nat := ofSigned 64 (t / ((65536 * 1000000000 : Nat) : Int))

/-- Nanoseconds of a presented time in 2⁻¹⁶ ns, 0 to 999,999,999 (R349). -/
def timeNs (t : Int) : Nat := ((t / (65536 : Int)) % (1000000000 : Int)).toNat

/-- The fraction of a presented time, in 2⁻¹⁶ ns (R349). -/
def timeFrac (t : Int) : Nat := (t % (65536 : Int)).toNat

/-- Whether the servo is LOCKED or in HOLDOVER (R356). -/
def State.timeLocked (s : State) : Bool := s.fld TB_STAT_STATE == 3 || s.fld TB_STAT_STATE == 4

/-! ### Events (R585 to R594) -/

/-- An argument built from (byte offset, bytes, value) parts (R585). -/
def evArg : List (Nat × Nat × Nat) → Nat
  | [] => 0
  | (o, n, v) :: t => (v % 2 ^ (8 * n)) * 2 ^ (8 * o) + evArg t

/-- The record of an event raised now (R585, R586). -/
def State.evRec (s : State) (code inst arg : Nat) : EvRec :=
  { code := code, inst := inst % 65536, epoch := s.fld TB_EPOCH_EPOCH, sec := timeSec s.now,
    ns := timeNs s.now + (if s.timeLocked then 0 else 2 ^ 30), arg := arg % 2 ^ 96 }

/-- Whether EVQ_MASK lets the records of a code's block into the queue (R590). -/
def State.evMasked (s : State) (code : Nat) : Bool :=
  let b := code / 256
  if b < 32 then nbit (s.fld EVQ_MASK_LO_BLOCKS) b else nbit (s.fld EVQ_MASK_HI_BLOCKS) (b - 32)

/-- Put a record into the next slot (R588). -/
def State.evPush (s : State) (r : EvRec) : State :=
  { s with evq := { s.evq with ring := tset (fun _ => EvRec.zero) s.evq.ring (s.evq.wr % 1024) r, wr := s.evq.wr + 1 } }

/-- The unconsumed records of the queue. -/
def Evq.fill (q : Evq) : Nat := q.wr - q.rd

/-- Count one record lost (R589). -/
def State.evLost (s : State) : State := s.cnt EVQ_CNT_LOST_COUNT 1

/-- In hold mode, an 0x0501 record enters at the first moment there is room while discards are unreported (R589). -/
def State.evReport (s : State) : State :=
  if s.evq.unrep > 0 ∧ s.evq.fill < 1024 ∧ s.evMasked 0x0501 then
    let s' := s.evPush (s.evRec 0x0501 0 (evArg [(0, 4, s.evq.unrep)]))
    { s' with evq := { s'.evq with unrep := 0 } }
  else s

/-- A record arrives at the queue (R589). -/
def State.evEnter (s : State) (r : EvRec) : State :=
  if s.bit EVQ_CFG_HOLD then
    let s := s.evReport
    let cap := if r.code / 256 = 0 ∨ r.code = 0x0501 then 1024 else 1008
    if s.evq.fill < cap then s.evPush r
    else
      let s := s.evLost
      ({ s with evq := { s.evq with unrep := s.evq.unrep + 1 } }).evReport
  else if s.evq.fill < 1024 then s.evPush r
  else
    let s := (s.evLost).put EVQ_STAT_LAPPED 1
    ({ s with evq := { s.evq with rd := s.evq.rd + 1 } }).evPush r

/-- Queue a record for one subscriber (R577): its block mask decides, and records beyond 100,000 in a second are counted
instead. -/
def Subscriber.offer (u : Subscriber) (raw : Nat) (r : EvRec) : Subscriber :=
  if u.used ∧ nbit u.mask (r.code / 256) then
    let u := if raw - u.secRaw ≥ secU then { u with secRaw := raw, secCnt := 0 } else u
    if u.secCnt < 100000 then { u with queue := u.queue ++ [(raw, r)], secCnt := u.secCnt + 1 }
    else { u with dropped := u.dropped + 1 }
  else u

/-- Offer a record to every subscriber. -/
def State.evStream (s : State) (r : EvRec) : State :=
  { s with ctl := { s.ctl with subs := s.ctl.subs.map (fun kv => (kv.1, kv.2.offer s.raw r)) } }

/-- Raise an event: one 32-byte record into the queue if its block is not masked, and into the subscriptions (R586,
R590). -/
def State.emit (s : State) (code inst arg : Nat) : State :=
  let r := s.evRec code inst arg
  let s := s.evStream r
  if s.evMasked code then s.evEnter r else s

/-- The key of a rate limit: event code and source instance. -/
def limKey (code inst : Nat) : Nat := code * 65536 + inst

/-- The source instance and the argument of a rate-limited event. RC_FLOORED is limited per rendition, which the limit's
instance names as channel · 16 + rendition; its count stands in bytes 4 to 7 (R129, R139), as DEC_CONCEALED's does
(R179). FWD_AUTH_FAIL counts failures and, in units of 2³², replays (R229, R248). DEC_REFUSED carries no count (R179). -/
def limInst (code inst : Nat) : Nat := if code = 0x1030 then inst / 16 else inst
def limArg (code inst n arg : Nat) : Nat :=
  if code = 0x1030 then evArg [(0, 1, inst % 16), (4, 4, min n 0xFFFFFFFF)]
  else if code = 0x1404 then evArg [(4, 4, min n 0xFFFFFFFF)] + arg
  else if code = 0x1805 then evArg [(0, 4, n), (4, 4, n / 2 ^ 32)]
  else if code = 0x1407 then arg
  else evArg [(0, 4, min n 0xFFFFFFFF)] + arg

/-- Raise an event that is limited to one per second, with the count of occurrences since the previous one in ARG bytes 0
to 3 and the rest of the argument as given (R586). -/
def State.emitLim (s : State) (code inst n arg : Nat) : State :=
  let k := limKey code inst
  let l := tget (fun _ => Lim.zero) s.lims k
  if l.any ∧ s.raw - l.lastRaw < secU then
    { s with lims := tset (fun _ => Lim.zero) s.lims k { l with pend := l.pend + n, arg := arg } }
  else
    ({ s with lims := tset (fun _ => Lim.zero) s.lims k ⟨true, s.raw, 0, 0⟩ }).emit code (limInst code inst)
      (limArg code inst (l.pend + n) arg)

/-- At a tick, raise the rate-limited events whose second is over and whose count is not 0 (R586). -/
def State.flushLims (s : State) : State :=
  s.lims.foldl (fun s kv =>
    if kv.2.pend > 0 ∧ s.raw - kv.2.lastRaw ≥ secU then s.emitLim (kv.1 / 65536) (kv.1 % 65536) 0 kv.2.arg else s) s

/-! ### The fault log (R463, R464) -/

/-- Put a fault log record into the next slot of the ring (R463). -/
def State.logWrite (s : State) (cls action code inst arg suppressed : Nat) : State :=
  let r : FaultRec :=
    { rawNs := s.raw / 65536, sec := timeSec s.now, ns := timeNs s.now, epoch := s.fld TB_EPOCH_EPOCH,
      boot := s.cask.boot, code := code, inst := inst, cls := cls, action := action,
      suppressed := min suppressed 0xFFFF, arg := arg % 2 ^ 96, seq := s.cask.logSeq, odd := none }
  { s with cask := { s.cask with log := tset (fun _ => FaultRec.zero) s.cask.log (s.cask.logSeq % 8192) r,
                                 logSeq := s.cask.logSeq + 1 } }

/-- Write one fault log record: at most one per CLASS and INSTANCE per second, further ones counted in SUPPRESSED. -/
def State.logFault (s : State) (cls action code inst arg : Nat) : State :=
  let k := limKey cls inst
  let l := tget (fun _ => Lim.zero) s.safe.suppress k
  if l.any ∧ s.raw - l.lastRaw < secU then
    { s with safe := { s.safe with suppress := tset (fun _ => Lim.zero) s.safe.suppress k { l with pend := l.pend + 1 } } }
  else
    ({ s with safe := { s.safe with suppress := tset (fun _ => Lim.zero) s.safe.suppress k ⟨true, s.raw, 0, 0⟩ } }).logWrite
      cls action code inst arg l.pend

/-- Count a corrected single-bit error of a CLASS for the hourly summary (R464). -/
def State.countCorrected (s : State) (cls : Nat) : State :=
  { s with safe := { s.safe with hourCnt := tset (fun _ => 0) s.safe.hourCnt cls (tget (fun _ => 0) s.safe.hourCnt cls + 1) } }

/-! ### Free values -/

/-- Advance the counter that free values are drawn with. -/
def State.draw (s : State) : State := { s with fresh := s.fresh + 1 }

/-! ### Blocks and their clocks (R510, R513, R515) -/

/-- Whether CLK_FAIL shows a monitor in failure (R510). -/
def State.failedMon (s : State) (m : Nat) : Bool :=
  if m < 32 then nbit (s.fld CLK_FAIL_LO_FAILED) m else nbit (s.fld CLK_FAIL_HI_FAILED) (m - 32)

/-- The monitor of the clock root of a gate's block (R12, R505, R508): MCLK for the engines, DCLK for the kettles, FCLK for forwarding,
UCLK_W and UCLK_E for the DRAM controllers. -/
def gateRoot (n : Nat) : Nat :=
  if n < 90 then 4 else if n < 102 then 5 else if n < 104 then 6 else if n < 116 then 9 else if n < 128 then 10 else 6

/-- Whether a block takes and does work: its gate runs, which a domain that is off, a closed gate and a closing one exclude, and its own
clock has not failed (R510, R513, R515). -/
def State.blockRuns (s : State) (n : Nat) : Bool := s.fld (CLK_GATE_STATE n) == 0 && !s.failedMon (gateRoot n)

end Sys2Proof.Machine
end

