-- ==== Sys2Proof/Machine/Grid.lean ====
section
/-! DEFINITION. Live channels, frame rates and the slot grid (R33, R34, R46, R49), and the device's own triggers on it (R365). -/

namespace Sys2Proof.Machine

/-! ### Channels and the slot grid -/

/-- A channel. -/
def State.chan (s : State) (n : Nat) : Chan := tget (fun _ => Chan.zero) s.enc.chans n

/-- Replace a channel. -/
def State.setChan (s : State) (n : Nat) (c : Chan) : State :=
  { s with enc := { s.enc with chans := tset (fun _ => Chan.zero) s.enc.chans n c } }

/-- A slot of a channel, and a rendition's picture in it. -/
def Chan.slot (c : Chan) (k : Nat) : SlotRec := tget (fun _ => SlotRec.zero) c.slots k
def Chan.setSlot (c : Chan) (k : Nat) (r : SlotRec) : Chan := { c with slots := tset (fun _ => SlotRec.zero) c.slots k r }
def Chan.pic (c : Chan) (k rend : Nat) : Option RPic := tfind c.pics (k * 16 + rend)
def Chan.setPic (c : Chan) (k rend : Nat) (p : RPic) : Chan := { c with pics := tput c.pics (k * 16 + rend) p }
def Chan.rc (c : Chan) (rend : Nat) : RcRec := tget (fun _ => RcRec.zero) c.rcs rend
def Chan.setRc (c : Chan) (rend : Nat) (r : RcRec) : Chan := { c with rcs := tset (fun _ => RcRec.zero) c.rcs rend r }

/-- The rate-control history that a rendition's picture in slot k belongs to (R131): that of before a restart, or the present one. -/
def Chan.rcAt (c : Chan) (rend k : Nat) : RcRec :=
  match c.olds.find? (fun x => x.1 == rend && decide (k < x.2.1)) with
  | some x => x.2.2
  | none => c.rc rend
def Chan.setRcAt (c : Chan) (rend k : Nat) (r : RcRec) : Chan :=
  match c.olds.find? (fun x => x.1 == rend && decide (k < x.2.1)) with
  | some x => { c with olds := c.olds.map (fun y => if y.1 = rend ∧ y.2.1 = x.2.1 then (y.1, y.2.1, r) else y) }
  | none => c.setRc rend r

/-- The registers in force for the pictures of slot k (R56): a landing applies from its slot's picture on, so earlier slots keep the
registers of before it: later landings are taken back first. -/
def State.asOf (s : State) (n k : Nat) : State :=
  let l := (s.chan n).past.filter (fun x => decide (k < x.1))
  if l = [] then s
  else { s with regs := (l.reverse.flatMap (fun x => x.2)).foldl (fun t e => tset regReset t e.1 e.2) s.regs }

/-- Frames per second of ENC_CH_FMT.RATE as a fraction. -/
def rateND : Nat → Nat × Nat
  | 0 => (24000, 1001) | 1 => (24, 1) | 2 => (25, 1) | 3 => (30000, 1001) | 4 => (30, 1) | 5 => (50, 1)
  | 6 => (60000, 1001) | 7 => (60, 1) | 8 => (100, 1) | 9 => (120000, 1001) | _ => (120, 1)

/-- The channel's frame rate. -/
def State.chRate (s : State) (n : Nat) : Nat × Nat := rateND (s.fld (ENC_CH_FMT_RATE n))

/-- Tf in 2⁻¹⁶ ns, rounded down, and in 27 MHz ticks (R46: a whole number). -/
def State.tf (s : State) (n : Nat) : Nat := (s.chRate n).2 * secU / (s.chRate n).1
def State.tf27 (s : State) (n : Nat) : Nat := 27000000 * (s.chRate n).2 / (s.chRate n).1

/-- k · Tf in 2⁻¹⁶ ns, rounded down (assumption log row 99). -/
def State.gridAt (s : State) (n k : Nat) : Nat := k * (s.chRate n).2 * secU / (s.chRate n).1

/-- The start of the grid in presented 2⁻¹⁶ ns: epoch steps leave the grid in place (R49), and a step that the channel has still to
rebase for has already moved presented time. -/
def State.gridStart (s : State) (n : Nat) : Int := (s.chan n).gridOfs + tget (fun _ => 0) s.tb.rebase n

/-- The alignment point a_k in presented 2⁻¹⁶ ns (R33), at the frame rate of slot k. -/
def State.slotTime (s : State) (n k : Nat) : Int := s.gridStart n + ((s.asOf n k).gridAt n k : Int)

/-- a_k in presented 2⁻¹⁶ ns times the numerator of the frame rate: exact. -/
def State.slotExact (s : State) (n k : Nat) : Int :=
  let (num, den) := (s.asOf n k).chRate n
  s.gridStart n * (num : Int) + (k * den * secU : Nat)

/-- A presented time in 27 MHz ticks, rounded down (R46). -/
def ticks27 (t : Int) : Int := t * 27 / (65536000 : Int)

/-- The media time of slot k in 27 MHz ticks, 64 bits (R46): k frames of a whole number of ticks after the start of the grid. -/
def State.media (s : State) (n k : Nat) : Nat :=
  ofSigned 64 (ticks27 (s.chan n).gridOfs + (k * (s.asOf n k).tf27 n : Nat) + (s.chan n).rebase)

/-- The slot of a capture time in ns (R34): exactly Tf/2 after an alignment point belongs to the next slot. -/
def State.slotOf (s : State) (n : Nat) (cap : Int) : Nat :=
  let t := cap * 65536 - s.gridStart n
  let (num, den) := (s.asOf n (s.chan n).released).chRate n
  ((2 * t * num + den * secU) / ((2 * den * secU : Nat) : Int)).toNat

/-- The channel delay D in 2⁻¹⁶ ns (R32), and the release time of slot k (R33). -/
def State.delayD (s : State) (n : Nat) : Nat := s.fld (ENC_CH_DELAY_D_NS n) * nsU
def State.releaseTime (s : State) (n k : Nat) : Int := s.slotTime n k + ((s.asOf n k).delayD n : Int)

/-- A trigger: the user's, or the device's own of an enabled channel (R365): 32 + 2n at its next alignment point, 33 + 2n at its
next release, with the frame period. -/
def State.trig (s : State) (n : Nat) : Trig :=
  if n < 32 then tget (fun _ => Trig.zero) s.tb.trigs n
  else
    let ch := (n - 32) / 2
    let c := s.chan ch
    if !c.run then Trig.zero
    else
      let r := (s.asOf ch c.released).chRate ch
      let num := r.1
      let ns := r.2 * 1000000000
      let g := Nat.gcd (ns % num) num
      { armed := true, periodic := true, abs := false, late := false, rem := 0,
        time := if n % 2 = 0 then s.slotTime ch c.next else s.releaseTime ch c.released,
        perNs := ns / num, perNum := ns % num / g, perDen := num / g }

end Sys2Proof.Machine
end

