-- ==== Sys2Proof/Machine/Ports.lean ====
section
/-! DEFINITION. The control ports and the mirror (chapters 24 to 26): what a read returns, which class a write needs, when
an access fails, and how a write to an ST field is held in the steep bank. -/

namespace Sys2Proof.Machine

/-! ### What a register reads as -/

/-- The word of a trigger's TB_TRIG registers: its flags in force and its next firing time (R363, R365). -/
def trigView (s : State) (n r : Nat) (w : W32) : W32 :=
  let t := s.trig n
  if r = 0 then fieldPut (fieldPut (fieldPut w 0 1 (b2n t.armed)) 1 1 (if t.armed then b2n t.periodic else fieldGet w 1 1))
      2 1 (if t.armed then b2n t.abs else fieldGet w 2 1)
  else if r = 4 ∧ t.armed then BitVec.ofNat 32 (timeSec t.time)
  else if r = 8 ∧ t.armed then BitVec.ofNat 32 (timeSec t.time / 2 ^ 32)
  else if r = 12 ∧ t.armed then BitVec.ofNat 32 (timeNs t.time)
  else if r = 16 ∧ 32 ≤ n then BitVec.ofNat 32 t.perNs
  else if r = 20 ∧ 32 ≤ n then BitVec.ofNat 32 (t.perNum * 65536 + t.perDen)
  else w

/-- The word of a capture unit's TB_CAP registers (R366, R370). -/
def capView (s : State) (n r : Nat) (w : W32) : W32 :=
  let c := tget (fun _ => CapRec.zero) s.tb.caps n
  if r = 0 then fieldPut w 14 1 (b2n c.valid)
  else if r = 4 then BitVec.ofNat 32 (ofSigned 64 (c.timeNs / (1000000000 : Int)))
  else if r = 8 then BitVec.ofNat 32 (ofSigned 64 (c.timeNs / (1000000000 : Int)) / 2 ^ 32)
  else if r = 12 then BitVec.ofNat 32 (c.timeNs % (1000000000 : Int)).toNat
  else BitVec.ofNat 32 c.epoch

/-- The 32-bit word `w` of an event record (R585). -/
def EvRec.word (r : EvRec) (w : Nat) : W32 :=
  match w with
  | 0 => BitVec.ofNat 32 (r.code % 65536 + r.inst * 65536)
  | 1 => BitVec.ofNat 32 r.epoch
  | 2 => BitVec.ofNat 32 r.sec
  | 3 => BitVec.ofNat 32 (r.sec / 2 ^ 32)
  | 4 => BitVec.ofNat 32 r.ns
  | 5 => BitVec.ofNat 32 r.arg
  | 6 => BitVec.ofNat 32 (r.arg / 2 ^ 32)
  | _ => BitVec.ofNat 32 (r.arg / 2 ^ 64)

/-- The device's value of a register, with the registers that show other parts of the state computed from them: the event
queue (R588, R595), presented time and its latch (R349, R370), triggers and captures, staging (R551, R557), and the lease
with the peer heard (R434, RDN_STAT). -/
def State.view (s : State) (a : Nat) : W32 :=
  let w := s.rd a
  if a = EVQ_WR then BitVec.ofNat 32 s.evq.wr
  else if a = EVQ_RD then BitVec.ofNat 32 s.evq.rd
  else if a = EVQ_STAT then fieldPut (fieldPut w 16 11 s.evq.fill) 1 1 (b2n (s.evq.fill == 1024))
  else if 0x54000 ≤ a ∧ a < 0x5C000 then
    (tget (fun _ => EvRec.zero) s.evq.ring ((a - 0x54000) / 0x20)).word (((a - 0x54000) / 4) % 8)
  else if a = TB_TIME_S_LO then BitVec.ofNat 32 (timeSec s.now)
  else if a = TB_TIME_S_HI then BitVec.ofNat 32 (timeSec (if s.tb.latched then s.tb.latch else s.now) / 2 ^ 32)
  else if a = TB_TIME_NS then BitVec.ofNat 32 (timeNs (if s.tb.latched then s.tb.latch else s.now))
  else if a = TB_TIME_FRAC then BitVec.ofNat 32 (timeFrac (if s.tb.latched then s.tb.latch else s.now))
  else if a = TB_RATE_LO then BitVec.ofNat 32 (ofSigned 48 s.tb.rate)
  else if a = TB_RATE_HI then BitVec.ofNat 32 (ofSigned 48 s.tb.rate / 2 ^ 32)
  else if 0x61000 ≤ a ∧ a < 0x61800 then trigView s ((a - 0x61000) / 0x20) ((a - 0x61000) % 0x20) w
  else if 0x63000 ≤ a ∧ a < 0x63800 then capView s ((a - 0x63000) / 0x20) ((a - 0x63000) % 0x20) w
  else if a = CFG_STAGE_STAT then
    fieldPut (fieldPut w 5 11 s.stage.records.length) 0 3 s.stage.owner
  else if a = CFG_PITCH_STAT then fieldPut w 0 4 s.stage.pitches.length
  else if a = CFG_PITCH_SEQ_LO then BitVec.ofNat 32 s.stage.pitchSeq
  else if a = CFG_PITCH_SEQ_HI then BitVec.ofNat 32 (s.stage.pitchSeq / 2 ^ 32)
  else if a = RDN_STAT then
    fieldPut (fieldPut w 3 1 (b2n (decide (s.raw < s.rdn.leaseEnd)))) 6 1
      (b2n (decide (s.rdn.peerRaw > 0 ∧ s.raw - s.rdn.peerRaw < s.fld RDN_CFG2_DEAD * 100 * usU)))
  else if a = RDN_LEASE_REM then BitVec.ofNat 32 ((s.rdn.leaseEnd - s.raw) / usU)
  else if 0x70000 ≤ a ∧ a < 0x70400 ∧ a % 0x40 = 0x24 then
    let u := (a - 0x70000) / 0x40
    BitVec.ofNat 32 (chkResult (s.rd (CHK_UNIT_CFG u)) (s.rd (CHK_UNIT_POLY u)) (s.rd (CHK_UNIT_INIT u))
      (s.rd (CHK_UNIT_XOROUT u)) (s.rd (CHK_UNIT_VALUE u)).toNat)
  else if 0x70000 ≤ a ∧ a < 0x70300 ∧ a % 0x40 = 0x2C then fieldPut w 1 1 1
  else if a = SYS_SNAP then fieldPut (fieldPut w 1 1 (b2n s.ctl.frozen.isSome)) 0 1 (b2n s.ctl.frozen.isSome)
  else w

/-- The state whose status the mirror shows: the frozen one while a snapshot is in force (R564). -/
def State.shown (s : State) : State :=
  match s.ctl.frozen with
  | none => s
  | some f => { s with regs := f.regs, evq := f.evq, stage := f.stage, tb := f.tb }

/-- One field of what a read returns (R563): WO reads 0, an ST field reads staged while the port's VIEW bit is 1 (R550),
status reads from the shown state, RW and RWS from the mirror. Presented time is not frozen (R564). -/
def State.readField (s : State) (p : Port) (a : Nat) (f : FieldRow) : Nat :=
  match f.acc with
  | .wo => 0
  | .st =>
    let w := if s.ctl.view.contains p.num then (tfind s.stage.writes a).getD (s.view a) else s.view a
    fieldGet w f.lo f.width
  | .rw | .rws =>
    if a = CFG_CTRL then b2n (s.ctl.view.contains p.num) else fieldGet (s.view a) f.lo f.width
  | .ro | .w1c | .w1s | .rc | .ros | .fused =>
    let v := if 0x60010 ≤ a ∧ a ≤ 0x6001C then s.view a else if a = SYS_SNAP then s.view a else s.shown.view a
    fieldGet v f.lo f.width

/-- The word a read of an occupied register returns; reserved bits read 0 (R9). -/
def State.readWord (s : State) (p : Port) (a : Nat) (r : RegRow) : W32 :=
  r.fields.foldl (fun w f => fieldPut w f.lo f.width (s.readField p a f)) 0

/-! ### Authority (R574, R575) -/

/-- The level a class number acts with: FLOOR includes OPERATE and no higher class (R574). -/
def classLevel (c : Nat) : Nat := if c = 5 then 2 else c

/-- The level of a port: its class of the AUTHORITY section; the HCP has MAINTAIN while no valid image has been read
(R543); the test access port acts only while TEST_EN is high (R574). Media MACs carry no control but the encapsulation of R409, whatever the
image says (R14). -/
def State.level (s : State) (p : Port) : Nat :=
  match p with
  | .hcp => if s.boot.noImage then 4 else classLevel (s.boot.auth.getD 0 0)
  | .jtag => if s.bit SYS_STAT_TEST_EN then classLevel (s.boot.auth.getD 4 0) else 0
  | .media => 0
  | q => classLevel (s.boot.auth.getD q.num 0)

/-- The class that reaching a field needs (R575): `op` is the OP of a window command. -/
def fieldLevel (a lo : Nat) (v : W32) : Nat :=
  let op := fieldGet v 28 4
  let b := a / 0x10000
  if b = 32 then 4
  else if a = SYS_CTRL then 4
  else if a = CFG_CTRL then (if lo = 3 then 4 else if lo = 2 then 3 else 2)
  else if a = CFG_PITCH then 2
  else if a = SYS_CASK_ADDR ∨ a = DSP_WIN_ADDR then 1
  else if a = SYS_CASK_CMD ∨ a = DSP_WIN_CMD then (if op = 1 then 1 else 4)
  else if (0x200 ≤ a ∧ a < 0x300) ∨ (0x1E0100 ≤ a ∧ a < 0x1E0200) then 4
  else if a = BRG_WIN_CMD ∨ a = AUD_WIN_CMD then (if op = 1 then 1 else 2)
  else if a = FWD_PUNT_CMD then (if op = 1 then 1 else 2)
  else if (0x170200 ≤ a ∧ a < 0x170400) ∨ (0x1A0300 ≤ a ∧ a < 0x1A0380) ∨ (0x180200 ≤ a ∧ a < 0x180804) then 2
  else if b = 14 ∧ a < 0xEC000 ∧ a % 0x800 = 0x10 then 4
  else if b = 15 then 4
  else if b = 17 ∧ a % 0x100 = 0 ∧ a < 0x112800 ∧ lo = 1 then 4
  else if b = 21 ∧ a % 0x100 = 0 ∧ a < 0x150800 ∧ lo = 1 then 4
  else if b = 20 ∧ a % 0x100 = 0 ∧ a < 0x141800 ∧ lo = 1 then 4
  else if b = 22 ∧ a % 0x100 = 0x14 ∧ a < 0x161000 ∧ lo = 1 then 4
  else if b = 29 ∧ a % 0x40 = 0 ∧ a < 0x1D1800 ∧ lo = 1 then 4
  else if b = 16 ∧ a % 0x400 = 0x20 then 2
  else if b = 16 ∧ 0x240 ≤ a % 0x400 ∧ a % 0x400 < 0x300 ∧ a % 0x10 = 4 then 2
  else if b = 16 ∧ 0x240 ≤ a % 0x400 ∧ a % 0x400 < 0x300 ∧ a % 0x10 = 0 ∧ lo = (ENC_CH_RC_MODE_QP 0 0).lo then 2
  else if b = 19 ∧ 0x138000 ≤ a ∧ a < 0x138200 ∧ a % 0x40 = 0 then 2
  else if b = 22 ∧ a < 0x161000 ∧ (a % 0x100 = 4 ∨ a % 0x100 = 8) then 2
  else if b = 26 ∧ 0x1A8000 ≤ a ∧ 0x100 ≤ a % 0x400 ∧ a % 0x400 < 0x200 then 2
  else if b = 27 ∧ (a % 0x100 = 0x10 ∨ a % 0x100 = 0x14) then 2
  else if a = RDN_CTRL ∧ lo = RDN_CTRL_SWAP.lo then 2
  else 3

/-- Whether a write of `v` acts on a field (R575). -/
def State.acts (s : State) (p : Port) (a : Nat) (v : W32) (f : FieldRow) : Bool :=
  let nv := fieldGet v f.lo f.width
  match f.acc with
  | .w1s | .w1c => nv != 0
  | .wo => true
  | .rw | .rws => nv != s.readField p a f
  | .st => nv != fieldGet ((tfind s.stage.writes a).getD (s.view a)) f.lo f.width
  | .ro | .rc | .ros | .fused => false

/-- The level that a write needs: the highest of the fields it reaches, OBSERVE when it reaches none. -/
def State.writeLevel (s : State) (p : Port) (a : Nat) (v : W32) (r : RegRow) : Nat :=
  r.fields.foldl (fun l f => if s.acts p a v f then max l (fieldLevel a f.lo v) else l) 1

/-! ### Staging (R550, R551) -/

/-- The OWNER code of a port (CFG_STAGE_STAT.OWNER); media MACs stage nothing. -/
def Port.owner : Port → Nat
  | .hcp => 1 | .mgmt => 2 | .yz => 3 | .jtag => 4 | .media => 0

/-- Whether the device's role is STANDBY (R419). -/
def State.isStandby (s : State) : Bool := s.fld RDN_STAT_ROLE == 2

/-- The blocks whose stages a STANDBY refuses (R421): ENC, DEC, CMP, BRG, FWD, AUD, APT and DSP. -/
def rackedBlock (a : Nat) : Bool := decide (16 ≤ a / 0x10000 ∧ a / 0x10000 ≤ 31)

/-- The STATUS with which a stage into the bank is refused, 0 when it is taken: SAFE mode refuses every stage (R461),
another owner holds the bank (R551), a STANDBY takes the racked blocks only through racked pitches (R421). -/
def State.stageStatus (s : State) (owner : Nat) (racked : Bool) : Nat :=
  if s.safe.mode then 10
  else if s.stage.owner ≠ 0 ∧ s.stage.owner ≠ owner then 6
  else if s.isStandby ∧ racked then 3
  else 0

/-- A stage, record stage or discard clears CHECKED and invalidates a running check (R552). -/
def State.stageTouch (s : State) : State :=
  ({ s with stage := { s.stage with invalid := s.stage.invalid || s.stage.checking } }).put CFG_STAGE_STAT_CHECKED 0

/-- The mask of a register's ST fields. -/
def RegRow.stMask (r : RegRow) : W32 :=
  r.fields.foldl (fun m f => if f.acc = .st then m ||| fieldMask f.lo f.width else m) 0

/-- Hold the ST fields of a written register in the steep bank (R550); the first stage makes its port the owner (R551). A
later stage of the same register replaces the earlier one (R580). -/
def State.stagePut (s : State) (owner a : Nat) (v : W32) (m : W32) : State :=
  let cur := s.view a
  let w := (v &&& m) ||| (cur &&& ~~~m)
  let s := { s with stage := { s.stage with writes := tput s.stage.writes a w, owner := owner } }
  (s.cnt CFG_STAGE_STAT_WRITES 1).stageTouch

/-- Stage a whole record (R217, R266): the latest stage of the same record replaces the earlier. -/
def State.stageRecPut (s : State) (owner : Nat) (r : StagedRec) : State :=
  let rest := s.stage.records.filter (fun x => ¬ (x.typ = r.typ ∧ x.index = r.index))
  ({ s with stage := { s.stage with records := rest ++ [r], owner := owner } }).stageTouch

/-- Empty the bank (R551). -/
def State.bankEmpty (s : State) : State :=
  let s := { s with stage := { s.stage with writes := [], records := [], owner := 0 } }
  (s.put CFG_STAGE_STAT_WRITES 0).stageTouch

/-! ### Accesses -/

/-- The source instance of 0x0003 for a port (R593). -/
def Port.errInst : Port → Nat
  | .hcp => 0 | .mgmt => 1 | .yz => 2 | .jtag => 3 | .media => 1

/-- An access fails (R562): data 0, HCP_ERR on the HCP with its address recorded, and event 0x0003. -/
def State.accessFail (s : State) (p : Port) (a : Nat) (write : Bool) (status : Nat) : State :=
  let s := { s with ctl := { s.ctl with rdData := 0, status := status, failed := true } }
  let s := if p = .hcp then
      ((s.put SYS_HCP_ERR_ADDR_VALID 1).put SYS_HCP_ERR_ADDR_WRITE (b2n write)).put SYS_HCP_ERR_ADDR_ADDR (a / 4)
    else s
  s.emitLim 0x0003 p.errInst 1 (evArg [(4, 4, a)])

/-- An access succeeds. -/
def State.accessOk (s : State) (d : W32) : State :=
  { s with ctl := { s.ctl with rdData := d, status := 0, failed := false } }

/-- A window's CMD and DATA accesses are refused while READY is 0 (R565): the STAT field of the window an address belongs
to, if any. -/
def windowReady (a : Nat) : Option FRef :=
  if a = BRG_WIN_CMD ∨ (0x170200 ≤ a ∧ a < 0x170400) then some BRG_WIN_STAT_READY
  else if a = AUD_WIN_CMD ∨ (0x1A0300 ≤ a ∧ a < 0x1A0380) then some AUD_WIN_STAT_READY
  else if a = FWD_PUNT_CMD ∨ (0x180200 ≤ a ∧ a < 0x180804) then some FWD_PUNT_STAT_READY
  else if a = DSP_WIN_CMD ∨ (0x1E0100 ≤ a ∧ a < 0x1E0200) then some DSP_WIN_STAT_READY
  else if a = SYS_CASK_CMD ∨ (0x200 ≤ a ∧ a < 0x300) then some SYS_CASK_STAT_READY
  else none

/-- Whether a window access is refused now. -/
def State.windowBusy (s : State) (a : Nat) : Bool :=
  match windowReady a with
  | some f => !s.bit f
  | none => false

/-- The STATUS with which a read is refused, 0 when it is answered (R562, R574, R578): an address outside the 4 MiB space
or that nothing occupies, a port with less than OBSERVE, a window that is not READY, a stale mirror entry. -/
def State.readStatus (s : State) (p : Port) (a : Nat) : Nat :=
  if a ≥ 0x400000 ∨ a % 4 ≠ 0 then 5
  else if (regRow a).isNone ∧ !inFirmwareArea a then 5
  else if s.level p < 1 then 3
  else if s.windowBusy a then 8
  else if s.ctl.stale.contains a then 5
  else 0

/-- The STATUS with which a write is refused, 0 when it is taken (R562, R575, R461, R551). -/
def State.writeStatus (s : State) (p : Port) (a : Nat) (v : W32) : Nat :=
  if a ≥ 0x400000 ∨ a % 4 ≠ 0 then 5
  else match regRow a with
    | none => if inFirmwareArea a then 0 else 5
    | some r =>
      let lvl := s.writeLevel p a v r
      if s.level p < lvl then 3
      else if s.windowBusy a then 8
      else if s.safe.mode ∧ lvl < 4 ∧ p ≠ .hcp ∧ p ≠ .jtag then 10
      else if r.stMask ≠ 0 then s.stageStatus p.owner (rackedBlock a)
      else if s.isStandby ∧ a / 0x10000 = 16 ∧ a % 0x400 = 0x20 then 3
      else 0

/-- One field of a plain write (R580): RW and RWS take the written value, W1C bits written 1 clear. -/
def State.writeField (s : State) (p : Port) (a : Nat) (v : W32) (f : FieldRow) : State :=
  match f.acc with
  | .rw | .rws =>
    if a = CFG_CTRL then
      let keep := s.ctl.view.filter (· ≠ p.num)
      { s with ctl := { s.ctl with view := if fieldGet v f.lo f.width = 1 then p.num :: keep else keep } }
    else s.put ⟨a, f.lo, f.width⟩ (fieldGet v f.lo f.width)
  | .w1c => s.put ⟨a, f.lo, f.width⟩ (s.fld ⟨a, f.lo, f.width⟩ &&& (2 ^ 32 - 1 - fieldGet v f.lo f.width))
  | .ro | .wo | .w1s | .rc | .st | .ros | .fused => s

/-- The plain part of a write: every field by its own type, ST fields into the bank (R582). -/
def State.writePlain (s : State) (p : Port) (a : Nat) (v : W32) : State :=
  match regRow a with
  | none => s
  | some r =>
    let s := r.fields.foldl (fun s f => s.writeField p a v f) s
    if r.stMask ≠ 0 then s.stagePut p.owner a v r.stMask else s

/-- Writes that are taken and ignored: the registers of check-value units 0 to 11, which are the device's (R465, R476), of triggers 32
to 63 (R365) and of captures 16 to 63 (TB_CAP_CFG). -/
def ignoredWrite (a : Nat) : Bool :=
  decide (0x70000 ≤ a ∧ a < 0x70300) || decide (0x61400 ≤ a ∧ a < 0x61800) || decide (0x63200 ≤ a ∧ a < 0x63800)

/-- A device held in BOOT goes on at a MAINTAIN command (R462). -/
def State.holdEnd (s : State) : State :=
  if s.boot.held then ({ s with boot := { s.boot with held := false } }).put CFG_BOOT_STAT_ERR 0 else s

/-- A taken write of MAINTAIN level ends the hold of R462. -/
def State.writeMaintain (s : State) (p : Port) (a : Nat) (v : W32) : Bool :=
  match regRow a with
  | none => false
  | some r => decide (4 ≤ s.writeLevel p a v r)

/-- A write: refused with its STATUS, or its plain part and then the effect `eff` that the written command bits have. -/
def State.portWrite (s : State) (p : Port) (a : Nat) (v : W32) (eff : State → State) : State :=
  match s.writeStatus p a v with
  | 0 =>
    let s := if s.writeMaintain p a v then s.holdEnd else s
    if ignoredWrite a then s.accessOk 0 else eff ((s.writePlain p a v).accessOk 0)
  | st => s.accessFail p a true st

/-- The RC fields of a read register are cleared by subtraction of the value read, a saturated one to 0; FOM_LOW returns to
its reset value (R563, R581). -/
def State.clearRc (s : State) (a : Nat) (r : RegRow) (shown : W32) : State :=
  r.fields.foldl (fun s f =>
    if f.acc = .rc then
      let fr : FRef := ⟨a, f.lo, f.width⟩
      if 0x80000 ≤ a ∧ a < 0xC0000 ∧ a % 0x1000 = 4 then s.put fr (fieldGet (regReset a) f.lo f.width)
      else
        let v := fieldGet shown f.lo f.width
        if v = 2 ^ f.width - 1 then s.put fr 0 else s.put fr (s.fld fr - v)
    else s) s

/-- A read without the side effects of its own rows: refused with its STATUS, or the word with RC fields cleared. -/
def State.portRead (s : State) (p : Port) (a : Nat) : State :=
  match s.readStatus p a with
  | 0 =>
    match regRow a with
    | none => (s.accessOk (Config.firmwareWord a s.fresh)).draw
    | some r =>
      let w := s.readWord p a r
      (s.clearRc a r w).accessOk w
  | st => s.accessFail p a false st

end Sys2Proof.Machine
end

