-- ==== Sys2Proof/Machine/Mem.lean ====
section
/-! DEFINITION. The DRAM contents as bytes (chapter 21): 256 GiB and more of address space, a byte that nothing has
written reads as 0 (assumption log row 3). -/

namespace Sys2Proof.Machine

/-- The canonical form of a memory: addresses rise strictly and no listed byte is 0, which an unlisted one reads as. -/
def Memory.wf (m : Tab Byte) : Bool := twf (fun _ => 0) m

/-- One byte of DRAM. -/
def State.dbyte (s : State) (a : Nat) : Byte := tget (fun _ => 0) s.dram a

/-- Write one byte. -/
def State.dput (s : State) (a : Nat) (b : Byte) : State := { s with dram := tset (fun _ => 0) s.dram a b }

/-- `n` bytes from an address. -/
def State.dbytes (s : State) (a n : Nat) : List Byte := (List.range n).map (fun i => s.dbyte (a + i))

/-- Write bytes at rising addresses. -/
def State.dputs : State → Nat → List Byte → State
  | s, _, [] => s
  | s, a, b :: t => (s.dput a b).dputs (a + 1) t

/-- A little-endian number in a byte list at an offset. -/
def bytesAt (bs : List Byte) (off n : Nat) : Nat := ofLeBytes ((bs.drop off).take n)

/-- A record of words as bytes. -/
def wordsBytes (ws : List W32) : List Byte := ws.flatMap (fun w => leBytes 4 w.toNat)

/-- A field of a record of words: `n` bytes at byte offset `off`, little-endian. -/
def rget (ws : List W32) (off n : Nat) : Nat := bytesAt (wordsBytes ws) off n

/-- Replace byte `i` of a word. -/
def putByte (w : W32) (i v : Nat) : W32 := fieldPut w (8 * i) 8 v

/-- Write a field of a record of words. -/
def rput : List W32 → Nat → Nat → Nat → List W32
  | ws, _, 0, _ => ws
  | ws, off, n + 1, v => rput (ws.modify (off / 4) (putByte · (off % 4) v)) (off + 1) n (v / 256)

/-- A record with its CRC-32C in its last word (R178, R215, R216). -/
def withCrc (ws : List W32) : List W32 :=
  ws.dropLast ++ [crc32c (wordsBytes ws.dropLast)]

end Sys2Proof.Machine
end

