-- ==== Sys2Proof/Machine/Common.lean ====
section
/-! DEFINITION. Operations that several families share: sending, racking (R422 to R427), roles, the lease and the gyle
(R419, R434 to R437), and completing a start-up step (R539). -/

namespace Sys2Proof.Machine

/-- Something leaves the device. -/
def State.send (s : State) (o : Out) : State := { s with out := s.out ++ [o] }

/-! ### Roles, lease and gyle -/

/-- The device's role (R419). -/
def State.role (s : State) : Nat := s.fld RDN_STAT_ROLE

/-- Whether the device is ACTIVE. -/
def State.isActive (s : State) : Bool := s.role == 1

/-- The device's gyle and the highest gyle it has seen (R436). -/
def State.gyle (s : State) : Nat := s.pairVal RDN_GYLE_LO RDN_GYLE_HI
def State.gyleSeen (s : State) : Nat := s.pairVal RDN_GYLE_SEEN_LO RDN_GYLE_SEEN_HI

/-- Hold a gyle seen, in the cask and in the registers; it is never lowered (R436). -/
def State.noteGyle (s : State) (g : Nat) : State :=
  if g > s.gyleSeen then
    ({ s with cask := { s.cask with gyleSeen := max s.cask.gyleSeen g } }).putPair RDN_GYLE_SEEN_LO RDN_GYLE_SEEN_HI g
  else s

/-- Take a role, raising event 0x0D01 on a change (R444). -/
def State.setRole (s : State) (r : Nat) : State :=
  if s.role = r then s
  else
    let old := s.role
    (s.put RDN_STAT_ROLE r).emit 0x0D01 0 (evArg [(0, 1, r), (1, 1, old), (4, 8, s.gyle)])

/-- Whether the lease is valid in the holder's own count (R434). -/
def State.leaseValid (s : State) : Bool := decide (s.raw < s.rdn.leaseEnd)

/-- Whether the shadow lease of twin-both mode is valid (R437). -/
def State.shadowValid (s : State) : Bool := decide (s.raw < s.rdn.shadowEnd)

/-- Set the lease's end in the holder's count. -/
def State.setLease (s : State) (e : Nat) : State :=
  { s with rdn := { s.rdn with leaseEnd := e } }

/-- Release the lease: it ends at once in the holder's count, and the arbiter and the peer are told (R435, R461). -/
def State.releaseLease (s : State) : State :=
  if s.role = 1 then
    let s := (s.setLease s.raw).send (.lease 4 false (s.fld YZ_CFG_ADDR) s.rdn.lseq s.gyle (s.fld RDN_CFG2_LEASE_MS * 1000))
    { s with rdn := { s.rdn with reqs := [] } }
  else s

/-- Whether media may leave (R419, R437, R458): safe states are not forced, and a SOLO device, or an ACTIVE one whose
lease is valid and whose gyle is at least every gyle seen. `path1` asks for the path 1 flows of twin-both mode, which a
STANDBY sends under its shadow lease. -/
def State.egressOk (s : State) (path1 : Bool) : Bool :=
  !s.safe.forced && !s.safe.mode &&
  (s.role == 0 ||
   (s.role == 1 && s.leaseValid && decide (s.gyleSeen ≤ s.gyle) && !(path1 && s.bit RDN_CFG_MEDIA)) ||
   (s.role == 2 && path1 && s.bit RDN_CFG_MEDIA && s.shadowValid))

/-- An ACTIVE device asks its ready standby to take over (R149): it releases its lease and becomes STANDBY, not ready. -/
def State.requestTakeover (s : State) : State :=
  let s := ((s.releaseLease).setRole 2).put RDN_STAT_READY 0
  { s with rdn := { s.rdn with rendReady := [], warmReady := false } }

/-- A member that has seen a higher gyle stops, becomes STANDBY and resynchronises (R437). -/
def State.gyleStop (s : State) : State :=
  if s.role = 1 ∧ s.gyleSeen > s.gyle then
    ((s.cnt RDN_CNT_GYLE_STOP_COUNT 1).emit 0x0D06 0 (evArg [(0, 8, s.gyleSeen)])).requestTakeover
  else s

/-- A STANDBY is not ready for a live rendition (`rend` 255: every one) until its next RC_STATE record (R424, R425). -/
def State.rendUnready (s : State) (n rend : Nat) : State :=
  let ks := if rend = 255 then List.range 12 else [rend]
  let s := { s with rdn := { s.rdn with
    rendReady := ks.foldl (fun t k => tset (fun _ => false) t (n * 16 + k) false) s.rdn.rendReady } }
  (s.put RDN_STAT_READY 0).emit 0x0D05 n (evArg [(0, 1, rend), (1, 1, 0)])

/-! ### Racking (R422 to R427) -/

/-- The bytes that a rack record takes in the journal (R426). -/
def rackLen (r : RackRec) : Nat := 0x20 + 8 * ((Config.rackBodyLen r.item.kind + 7) / 8)

/-- Drop the oldest sets until the 64 MiB ring has room (R427). A ring of at most 64,527 records always has room, since a
record takes at most 1,040 bytes. -/
def journalTrim : Nat → List (List RackRec) → List (List RackRec)
  | 0, j => j
  | n + 1, j =>
    if (j.map List.length).sum * 1040 ≤ 67108864 then j
    else if (j.map (fun x => (x.map rackLen).sum)).sum ≤ 67108864 then j
    else journalTrim n j.tail

/-- Number the records of a set from `seq`; the first has FLAGS bit 1, the last COMMIT (R426, R427). -/
def numberSet (gyle : Nat) : Nat → Bool → List RackItem → List RackRec
  | _, _, [] => []
  | seq, first, [i] => [⟨seq, first, true, gyle, i⟩]
  | seq, first, i :: t => ⟨seq, first, false, gyle, i⟩ :: numberSet gyle (seq + 1) false t

/-- Rack one set: the ACTIVE member writes it to its journal and sends it (R427). Other roles rack nothing (R422). -/
def State.rack (s : State) (items : List RackItem) : State :=
  if s.isActive ∧ items ≠ [] then
    let set := numberSet s.gyle s.rdn.nextSeq true items
    let last := s.rdn.nextSeq + items.length - 1
    let j := s.rdn.journal ++ [set]
    let s := { s with rdn := { s.rdn with
      journal := journalTrim j.length j, unacked := s.rdn.unacked ++ [(last, s.raw)], nextSeq := last + 1,
      sinceSent := s.raw } }
    (s.putPair RDN_RACK_SEQ_LO RDN_RACK_SEQ_HI last).send (.rackSet set)
  else s

/-! ### Start-up steps (R539) -/

/-- Milliseconds since step 1 began. -/
def State.bootMs (s : State) : Nat := (s.raw - s.boot.startRaw) / msU

/-- A start-up step completes: event 0x0403, and the next step is in progress; after step 10 STEP reads 0xF and
CFG_BOOT_TIME records the milliseconds since step 1 began. A step that is not in progress completes nothing. -/
def State.bootStepDone (s : State) (k : Nat) : State :=
  if s.fld CFG_BOOT_STAT_STEP = k then
    let s := s.emit 0x0403 0 (evArg [(0, 1, k), (4, 4, s.bootMs)])
    let s := s.put CFG_BOOT_STAT_STEP (if k = 10 then 15 else k + 1)
    if k = 10 then s.put CFG_BOOT_TIME_VALUE s.bootMs else s
  else s

/-- Whether a start-up step is in progress. -/
def State.atStep (s : State) (k : Nat) : Bool := s.fld CFG_BOOT_STAT_STEP == k

end Sys2Proof.Machine
end

