-- ==== Sys2Proof/Machine/BrgBase.lean ====
section
/-! DEFINITION. Bridge records and their fields (R178, R215, R216), the costs of bridge work, and keyframe requests
(R241). -/

namespace Sys2Proof.Machine

/-! ### Records -/

/-- Words of a record type: 0 flow, 1 decode context, 2 session, 3 leg, 4 output. -/
def recWords : Nat → Nat
  | 0 => 128 | 1 => 32 | _ => 16

/-- Greatest number of records of a type (R198). -/
def recCount : Nat → Nat
  | 0 => 2097152 | 1 => 8192 | 2 => 32768 | 3 => 262144 | _ => 4096

/-- The records of a type. -/
def State.recTab (s : State) (ty : Nat) : Tab (List W32) :=
  match ty with
  | 0 => s.brg.flows | 1 => s.brg.decs | 2 => s.brg.sess | 3 => s.brg.legs | _ => s.brg.outs

/-- Replace the records of a type. -/
def State.setRecTab (s : State) (ty : Nat) (t : Tab (List W32)) : State :=
  match ty with
  | 0 => { s with brg := { s.brg with flows := t } }
  | 1 => { s with brg := { s.brg with decs := t } }
  | 2 => { s with brg := { s.brg with sess := t } }
  | 3 => { s with brg := { s.brg with legs := t } }
  | _ => { s with brg := { s.brg with outs := t } }

/-- A record, zeros when its valid bit is clear (R630). -/
def State.record (s : State) (ty i : Nat) : List W32 := (tfind (s.recTab ty) i).getD (List.replicate (recWords ty) 0)

/-- A field of a record: `n` bytes at an offset. -/
def State.rf (s : State) (ty i off n : Nat) : Nat := rget (s.record ty i) off n

/-- Whether a record is valid, and its STATE. -/
def State.recValid (s : State) (ty i : Nat) : Bool := (tfind (s.recTab ty) i).isSome
def State.recState (s : State) (ty i : Nat) : Nat := s.rf ty i 0 1

/-- Write a field of a valid record; a record that is not listed is not written. -/
def State.rp (s : State) (ty i off n v : Nat) : State :=
  match tfind (s.recTab ty) i with
  | some w => s.setRecTab ty (tput (s.recTab ty) i (rput w off n v))
  | none => s

/-- The engine's state of a flow, a decode context, a composition. -/
def State.fx (s : State) (f : Nat) : FlowX := tget (fun _ => FlowX.zero) s.brg.fx f
def State.setFx (s : State) (f : Nat) (x : FlowX) : State :=
  { s with brg := { s.brg with fx := tset (fun _ => FlowX.zero) s.brg.fx f x } }
def State.dx (s : State) (c : Nat) : DecX := tget (fun _ => DecX.zero) s.brg.dx c
def State.setDx (s : State) (c : Nat) (x : DecX) : State :=
  { s with brg := { s.brg with dx := tset (fun _ => DecX.zero) s.brg.dx c x } }
def State.comp (s : State) (c : Nat) : CompX := tget (fun _ => CompX.zero) s.brg.comps c
def State.setComp (s : State) (c : Nat) (x : CompX) : State :=
  { s with brg := { s.brg with comps := tset (fun _ => CompX.zero) s.brg.comps c x } }

/-- Fields of a flow record (R215). -/
def State.ff (s : State) (f off n : Nat) : Nat := s.rf 0 f off n

/-- A field of a flow record that the device maintains: written, and the resident context is dirty (R214). -/
def State.fp (s : State) (f off n v : Nat) : State :=
  let x := s.fx f
  (s.rp 0 f off n v).setFx f { x with dirty := true, dirtyRaw := if x.dirty then x.dirtyRaw else s.raw }

/-- Count in a flow's counter, modulo its size (R215). -/
def State.fcnt (s : State) (f off n k : Nat) : State := s.fp f off n (s.ff f off n + k)

/-- Presented time in µs, low 32 bits, and in 27 MHz ticks. -/
def State.nowUs (s : State) : Nat := ofSigned 32 (s.now / ((65536 * 1000 : Nat) : Int))
def State.now27 (s : State) : Nat := ofSigned 64 (s.now * 27 / (65536000 : Int))

/-- Valid records of a type whose STATE is not 0. -/
def State.liveRecs (s : State) (ty : Nat) : List Nat :=
  ((s.recTab ty).filter (fun x => rget x.2 0 1 != 0)).map (·.1)

/-- Flows not idle (BRG_COUNT), contexts resident and pinned (BRG_CACHE_STAT), decode contexts (DEC_POOL_CTX). -/
def State.brgCounts (s : State) : State :=
  let s := s.put BRG_COUNT_FLOWS (s.liveRecs 0).length
  let s := s.put BRG_CACHE_STAT_RESIDENT (s.brg.fx.countP (fun x => x.2.resident))
  let s := s.put BRG_CACHE_STAT_PINNED (s.brg.fx.countP (fun x => x.2.pinned))
  let ctx := s.liveRecs 1
  let s := s.put DEC_POOL_CTX_ACTIVE ctx.length
  s.put DEC_POOL_CTX_WAIT_RAP (ctx.countP (fun c => s.recState 1 c == 1 || s.recState 1 c == 2))

/-! ### Legs, sessions -/

/-- KIND, PRIORITY, SESSION of a leg, and the flows it holds (R199, R216). -/
def State.legKind (s : State) (l : Nat) : Nat := s.rf 3 l 1 1
def State.legPrio (s : State) (l : Nat) : Nat := s.rf 3 l 2 1
def State.legSess (s : State) (l : Nat) : Nat := s.rf 3 l 4 4
def State.legFlows (s : State) (l : Nat) : List Nat :=
  (List.range (s.rf 3 l 12 1)).map (· + s.rf 3 l 8 4)

/-- The active legs of a session. -/
def State.sessLegs (s : State) (x : Nat) : List Nat := (s.liveRecs 3).filter (fun l => s.legSess l == x)

/-- The leg of a flow, if it has one. -/
def State.flowLeg (s : State) (f : Nat) : Option Nat :=
  let l := s.ff f 4 4
  if l = 0xFFFFFFFF then none else some l

/-- The send flows whose source is a flow or output `src` (R215 SRC). -/
def State.sendFlows (s : State) (src : Nat) : List Nat :=
  (s.liveRecs 0).filter (fun g => s.ff g 1 1 == 1 && s.ff g 0x3C 4 == src)

/-! ### Costs (R63, R141, R156, R181) -/

/-- Whether a leg was shed (R533), and with it a decode context, a mix slot. -/
def State.legShed (s : State) (l : Nat) : Bool := s.brg.shed.contains l
def State.ctxShed (s : State) (c : Nat) : Bool := s.brg.shed.any (fun l => s.legKind l == 1 && s.rf 3 l 0x10 4 == c)
def State.slotShed (s : State) (i : Nat) : Bool := s.brg.shed.any (fun l => s.legKind l != 0 && s.rf 3 l 14 2 == i)

/-- The cost factor cf of R156 as a numerator over 3: `chroma` 0, 1, 2, 3 for 4:2:0, 4:2:2, 4:4:4, 4:0:0. -/
def cf3 (chroma : Nat) : Nat := match chroma with | 0 => 3 | 1 => 4 | 3 => 3 | _ => 6

/-- The chroma format of a decode context's stream is not in its record: a free value by context. -/
def State.decChroma (_s : State) (c : Nat) : Nat := Config.ctxChroma c % 3

/-- COST of a decode context at a target spatial layer in 1/16 grist (R156): the highest layer has the record's largest
size; the largest sizes of the layers below it are not in the record, and their pixels are free values by context. -/
def State.decCost (s : State) (c sid : Nat) : Nat :=
  let w := s.rf 1 c 8 2
  let h := s.rf 1 c 10 2
  let top := Config.ctxTop c
  let px := ((List.range (sid + 1)).map (fun l =>
    if l ≥ top then w * h else Config.layerPixels c l w h)).sum
  ceilDiv (16 * px * s.rf 1 c 12 1 * cf3 (s.decChroma c)) 3000000

/-- Encode cost of an output (R63 with r = 1), its check cost and its composition cost, in 1/16 grist. Bridge outputs are
4:2:0 unless the layout says otherwise. -/
def State.outEnc (s : State) (o chroma : Nat) : Nat :=
  let e := effortND' (s.rf 4 o 3 1)
  ceilDiv (16 * s.rf 4 o 8 2 * s.rf 4 o 10 2 * s.rf 4 o 12 1 * e.1 * (if chroma = 2 then 2 else 1)) (1000000 * e.2)
where effortND' : Nat → Nat × Nat
  | 0 => (2, 3) | 1 => (1, 1) | _ => (5, 3)
def State.outChk (s : State) (o chroma : Nat) : Nat :=
  ceilDiv (16 * s.rf 4 o 8 2 * s.rf 4 o 10 2 * s.rf 4 o 12 1 * (match chroma with | 0 => 3 | 1 => 4 | _ => 6)) 4000000
def State.outCmp (s : State) (o chroma : Nat) (merge : Bool) : Nat :=
  ceilDiv (16 * s.rf 4 o 8 2 * s.rf 4 o 10 2 * s.rf 4 o 12 1 * cf3 chroma) (3000000 * (if merge then 16 else 1))

/-! ### SRTCP (R230, R431) -/

/-- A bit of a flow's FLAGS (R215). -/
def State.flag (s : State) (f b : Nat) : Bool := nbit (s.ff f 3 1) b

/-- The state of a flow that a FLOW_STATE record carries: the S fields of R215. -/
def State.flowVals (s : State) (f resv : Nat) : List Nat :=
  [s.ff f 0x90 4, s.ff f 0xA8 8, max (s.ff f 0xB0 4) (s.fx f).cResv, s.ff f 0xC0 2, s.ff f 0xC4 4, s.ff f 0xC8 8, s.ff f 0xD0 8, s.ff f 0xDC 4,
   s.ff f 0xE0 4, s.ff f 0x100 4, s.ff f 0x104 4, s.ff f 0x108 4, s.ff f 0x10C 4, s.ff f 0x110 4, s.ff f 0x114 2, resv]

/-- SRTCP_IDX is reserved in steps of 256 (R431): a new reservation is racked when 128 are left. -/
def State.srtcpReserve (s : State) (f n : Nat) : State :=
  if s.isActive ∧ n + 128 > (s.fx f).cResv then
    let s := s.setFx f { s.fx f with cResv := n + 256 }
    let s := s.rack [.flowState f (s.flowVals f (s.fx f).resv)]
    s.setFx f { s.fx f with cSeq := s.rdn.nextSeq - 1 }
  else s

/-- Count one SRTCP packet (R230); whether it may leave. -/
def State.srtcpNext (s : State) (f : Nat) : State × Bool :=
  if !s.flag f 0 then (s, true)
  else if (s.fx f).rtcpStop then (s, false)
  else
    let n := s.ff f 0xB0 4 + 1
    if n > 2 ^ 31 - 1 then
      ((s.setFx f { s.fx f with rtcpStop := true }).emit 0x1802 f (evArg [(0, 1, 1)]), false)
    else if s.isActive ∧ !s.bit RDN_STAT_DEGRADED ∧ (s.fx f).cAck ≤ n then (s.srtcpReserve f n, false)
    else
      let s := (s.srtcpReserve f n).fp f 0xB0 4 n
      (if n ≥ 2 ^ 30 ∧ !(s.fx f).warnedC then
        (s.setFx f { s.fx f with warnedC := true }).emit 0x1801 f (evArg [(0, 1, 1), (4, 8, n)]) else s, true)

/-! ### Keyframe requests (R241) -/

/-- Send one PLI or FIR towards the sender of a source flow, under its SRTCP index. -/
def State.kfSend (s : State) (f : Nat) (fir : Bool) : State :=
  let x := s.fx f
  let n := if fir then (x.firSeq + 1) % 256 else x.firSeq
  let (t, ok) := if s.egressOk false then s.srtcpNext f else (s, false)
  if ok then ((t.setFx f { t.fx f with firSeq := n }).cnt FWD_CNT_KF_SENT_COUNT 1).send (.keyframeReq f fir n) else t

/-- A request for a source flow: the first one is sent and opens a hold; one during the hold waits (R241). -/
def State.kfRequest (s : State) (f : Nat) (fir : Bool) : State :=
  let x := s.fx f
  match x.holdRaw with
  | none => (s.setFx f { x with holdRaw := some s.raw, pendReq := false, pendFir := false, rapSince := false }).kfSend f fir
  | some _ => s.setFx f { x with pendReq := true, pendFir := x.pendFir || fir }

/-- A random-access point of a source ends every pending request for it. -/
def State.kfEnd (s : State) (f : Nat) : State :=
  s.setFx f { s.fx f with pendReq := false, pendFir := false, rapSince := true }

/-- Whether a MAC's egress stage runs: its link is up and no failed clock holds its lanes idle (R380, R510). Flows of a Yudizor
port (MAC 0xFF) have none. -/
def State.macRuns (s : State) (m : Nat) : Bool :=
  decide (m ≥ 16) ||
  (s.bit (LNK_MAC_STAT_LINK m) &&
    (List.range (2 ^ s.fld (LNK_MAC_CFG_LANES m))).all (fun i => !s.phy.idle.contains ((s.fld (LNK_MAC_CFG_FIRST_LANE m) + i) / 4)))
def State.flowUp (s : State) (f : Nat) : Bool := s.macRuns (s.ff f 0x0A 1)

/-- A packet that no egress stage can take is dropped and counted (R244). -/
def State.packetLost (s : State) (f : Nat) : State := (s.fcnt f 0x194 4 1).cnt FWD_CNT_DROP_COUNT 1

/-- The peer-table entry of an IP address. -/
def State.peerOfIp (s : State) (ip : Nat) : Option Nat :=
  (List.range 64).find? (fun i => s.bit (YZ_PEER_CTRL_VALID i) &&
    (s.fld (YZ_PEER_IP0_ADDR i) + 2 ^ 32 * s.fld (YZ_PEER_IP1_ADDR i) + 2 ^ 64 * s.fld (YZ_PEER_IP2_ADDR i) +
      2 ^ 96 * s.fld (YZ_PEER_IP3_ADDR i)) == ip)

/-- Whether a datagram is on the UDP port of the encapsulation (R409). -/
def State.yzPort (s : State) (mac udpPort : Nat) : Bool :=
  s.bit YZ_UDP_CFG_EN && mac == s.fld YZ_UDP_CFG_MAC && udpPort == s.fld YZ_UDP_CFG_PORT

end Sys2Proof.Machine
end

