-- ==== Sys2Proof/Machine/Buffers.lean ====
section
/-! DEFINITION. Where things lie in DRAM: the address windows (R477 to R481), the side of each buffer (R19), and picture buffers and their
descriptors (R86 to R88). -/

namespace Sys2Proof.Machine

/-! ### The address map (R477 to R481) -/

/-- GiB of a rank by DENSITY code. -/
def rankGib (d : Nat) : Nat := [2, 3, 4, 6, 8].getD d 0

/-- Ranks, bytes of a rank, raw bytes, data bytes U and global bytes G of a channel (R478: every channel has the same). -/
def State.drRanks (s : State) : Nat := if s.bit (DRM_CH_CFG_EN 0) then 1 + s.fld (DRM_CH_CFG_RANKS 0) else 0
def State.drRank (s : State) : Nat := rankGib (s.fld (DRM_CH_CFG_DENSITY 0)) * 2 ^ 30
def State.drRaw (s : State) : Nat := s.drRanks * s.drRank
def State.drU (s : State) : Nat := s.drRaw / 8 * 7
def State.drG (s : State) : Nat := s.fld DRM_MAP_GLOBAL_GIB * 2 ^ 30

/-- A system address as channel and data address of the channel, where it lies in a populated window (R479). -/
def State.xlate (s : State) (a : Nat) : Option (Nat × Nat) :=
  let side := s.drU - s.drG
  let win := a / 2 ^ 38
  let o := a % 2 ^ 38
  if a ≥ 2 ^ 39 then
    let o := a - 2 ^ 39
    if o < 24 * s.drG ∧ s.drG ≤ s.drU then some (o / 4096 % 24, side + o / 4096 / 24 * 4096 + o % 4096) else none
  else if o < 12 * side then some (12 * win + o / 4096 % 12, o / 4096 / 12 * 4096 + o % 4096)
  else none

/-- The 4 KiB units of a side's window, and of the global one. -/
def State.sideUnits (s : State) : Nat := 12 * (s.drU - s.drG) / 4096

/-- The system address of a 4 KiB unit in a side's window (R19, R479): 0 West, 1 East. A free value names the unit and is taken modulo the
window. -/
def State.sideAddr (s : State) (side unit : Nat) : Nat := side * 2 ^ 38 + unit % max 1 s.sideUnits * 4096

/-- Whether a range lies in the window of a side (R19). -/
def State.onSide (s : State) (side base len : Nat) : Bool :=
  decide (side * 2 ^ 38 ≤ base) && decide (base + len ≤ side * 2 ^ 38 + s.sideUnits * 4096)

/-! ### Channels and poison (R481, R483) -/

/-- A channel. -/
def State.drc (s : State) (c : Nat) : DrCh := tget (fun _ => DrCh.zero) s.dr.chs c
def State.setDrc (s : State) (c : Nat) (x : DrCh) : State :=
  { s with dr := { s.dr with chs := tset (fun _ => DrCh.zero) s.dr.chs c x } }

/-- The raw channel address of a data address (R481). -/
def rawOf (d : Nat) : Nat := d / 448 * 512 + d % 448

/-- The channel, and the rank and raw address, of a system address. -/
def State.chanOf (s : State) (a : Nat) : Nat := ((s.xlate a).getD (0, 0)).1
def State.rawAddr (s : State) (a : Nat) : Nat := rawOf ((s.xlate a).getD (0, 0)).2
def State.rankOf (s : State) (a : Nat) : Nat := if s.drRank = 0 then 0 else s.rawAddr a / s.drRank

/-- The bursts of a range, as system address divided by 64. -/
def burstsOf (a len : Nat) : List Nat := (List.range ((a + len + 63) / 64 - a / 64)).map (· + a / 64)

/-- Whether a burst is poisoned, and whether a range holds a poisoned one. -/
def State.isPoison (s : State) (b : Nat) : Bool := (s.drc (s.chanOf (64 * b))).poison.contains b
def State.poisoned (s : State) (a len : Nat) : Bool := (burstsOf a len).any s.isPoison

/-! ### Picture formats (R87) -/

/-- The bytes of a line of W samples in INT18, and the address of a plane rounded up to 4 KiB. -/
def int18Line (w : Nat) : Nat := ceilDiv (18 * w) 512 * 64
def page (a : Nat) : Nat := ceilDiv a 4096 * 4096

/-- Width and height of the chroma planes: `chroma` 0, 1, 2 for 4:2:0, 4:2:2, 4:4:4. -/
def chromaW (w chroma : Nat) : Nat := if chroma = 2 then w else (w + 1) / 2
def chromaH (h chroma : Nat) : Nat := if chroma = 0 then (h + 1) / 2 else h

/-- The bytes of an INT18 picture: luma and chroma planes from 4 KiB boundaries. -/
def int18Bytes (w h chroma : Nat) : Nat :=
  page (int18Line w * h) + 2 * page (int18Line (chromaW w chroma) * chromaH h chroma)

/-- The bytes of a line of PG2110 and its stride: at least the line's bytes rounded up to 64, by the ingress stage. -/
def pgLine (w depth chroma : Nat) : Nat := ceilDiv (w * depth * ([3, 4, 6].getD chroma 6)) 16
def pgStride (n w depth chroma : Nat) : Nat := 64 * (ceilDiv (pgLine w depth chroma) 64 + Config.strideExtra n)

/-! ### Descriptors (R88) -/

/-- The descriptor of an INT18 picture whose planes lie one after another from a base. -/
def int18Desc (base w h chroma depth flags media epoch count : Nat) : PicDesc :=
  let y := page (int18Line w * h)
  let c := page (int18Line (chromaW w chroma) * chromaH h chroma)
  ⟨base, base + y, base + y + c, int18Line w, int18Line (chromaW w chroma), w, h, 0, chroma, depth, flags, media, epoch, count⟩

/-- Its 64 bytes, with the CRC. -/
def PicDesc.bytes (d : PicDesc) : List Byte :=
  let b := leBytes 8 d.baseY ++ leBytes 8 d.baseCb ++ leBytes 8 d.baseCr ++ leBytes 4 d.strideY ++ leBytes 4 d.strideC ++
    leBytes 2 d.width ++ leBytes 2 d.height ++ leBytes 1 d.fmt ++ leBytes 1 d.chroma ++ leBytes 1 d.depth ++ leBytes 1 d.flags ++
    leBytes 8 d.media ++ leBytes 4 d.epoch ++ leBytes 4 d.count ++ leBytes 4 0
  b ++ leBytes 4 (crc32c b).toNat

/-- Whether the CRC-32C in a 64-byte block's last word is that of its first 60 bytes. -/
def crcGood (bs : List Byte) : Bool := bytesAt bs 0x3C 4 == (crc32c (bs.take 0x3C)).toNat

/-- Write a descriptor; read its fields as they are; read one, none where its CRC does not match. -/
def State.putDesc (s : State) (a : Nat) (d : PicDesc) : State := s.dputs a d.bytes
def State.rawDesc (s : State) (a : Nat) : PicDesc :=
  let g := bytesAt (s.dbytes a 64)
  ⟨g 0 8, g 8 8, g 16 8, g 0x18 4, g 0x1C 4, g 0x20 2, g 0x22 2, g 0x24 1, g 0x25 1, g 0x26 1, g 0x27 1, g 0x28 8, g 0x30 4, g 0x34 4⟩
def State.getDesc (s : State) (a : Nat) : Option PicDesc := if crcGood (s.dbytes a 64) then some (s.rawDesc a) else none

/-- The table of a coded picture (R87): an 8-byte entry of offset and length for each of its rows, partitions or subpictures. -/
def entryTable : Nat → List Nat → List Byte
  | _, [] => []
  | o, n :: t => leBytes 4 o ++ leBytes 4 n ++ entryTable (o + n) t

/-- FLAGS of R88: intra, repeat picture, repeat rows, floored, concealed, random-access point. -/
def descFlags (intra rep rows floored conc rap : Bool) : Nat :=
  b2n intra + 2 * b2n rep + 4 * b2n rows + 8 * b2n floored + 16 * b2n conc + 32 * b2n rap

/-! ### Samples of an INT18 picture (R87) -/

/-- Sample i of the line at an address: bits [18i + 17 : 18i] of the line, signed. -/
def State.int18At (s : State) (line i : Nat) : Int :=
  toSigned 18 (ofLeBytes (s.dbytes (line + 18 * i / 8) 4) / 2 ^ (18 * i % 8))

/-- Write samples into a line from its sample i on; the line's other samples stay. -/
def int18Bits : List Int → Nat
  | [] => 0
  | v :: t => ofSigned 18 v + 2 ^ 18 * int18Bits t
def State.putSamples (s : State) (line i : Nat) (vs : List Int) : State :=
  let a := line + 18 * i / 8
  let lo := 18 * i % 8
  let hi := lo + 18 * vs.length
  let n := ceilDiv hi 8
  let old := ofLeBytes (s.dbytes a n)
  s.dputs a (leBytes n (old % 2 ^ lo + 2 ^ lo * int18Bits vs + old / 2 ^ hi * 2 ^ hi))

/-- The bytes of a line of samples, of the line's full stride. -/
def int18LineBytes (vs : List Int) : List Byte := leBytes (int18Line vs.length) (int18Bits vs)

/-- A sample of plane 0 Y, 1 Cb, 2 Cr of a described INT18 picture. -/
def State.descSample (s : State) (d : PicDesc) (plane x y : Nat) : Int :=
  let base := match plane with | 0 => d.baseY | 1 => d.baseCb | _ => d.baseCr
  s.int18At (base + y * (if plane = 0 then d.strideY else d.strideC)) x

/-- The base and the stride of a plane, and its size in samples. -/
def PicDesc.base (d : PicDesc) (plane : Nat) : Nat := match plane with | 0 => d.baseY | 1 => d.baseCb | _ => d.baseCr
def PicDesc.stride (d : PicDesc) (plane : Nat) : Nat := if plane = 0 then d.strideY else d.strideC
def PicDesc.planeW (d : PicDesc) (plane : Nat) : Nat := if plane = 0 then d.width else chromaW d.width d.chroma
def PicDesc.planeH (d : PicDesc) (plane : Nat) : Nat := if plane = 0 then d.height else chromaH d.height d.chroma

/-- Clear a range of DRAM: samples of mid-grey are 0 (R86). -/
def State.dzero (s : State) (a n : Nat) : State :=
  { s with dram := s.dram.filter (fun e => decide (e.1 < a) || decide (a + n ≤ e.1)) }

/-! ### Buffers of live channels (R19, R77) -/

/-- The address of a live channel's buffer, on the channel's side: `what` 0 the input picture, 1 the input's descriptor, 2 the mill record,
3 + 3r a reconstruction of rendition r, 4 + 3r its descriptor, 5 + 3r its coded picture. -/
def State.liveBuf (s : State) (n side k what : Nat) : Nat := s.sideAddr side (Config.liveUnit n k what)

/-! ### Layouts (R190) -/

/-- One layer entry of a descriptor. -/
def layerOf (bs : List Byte) : Layer :=
  let g := bytesAt bs
  ⟨g 0 1, g 1 1, g 2 1, g 3 1, g 4 4, g 8 8, g 0x10 2, g 0x12 2, g 0x14 2, g 0x16 2, g 0x18 2, g 0x1A 2, g 0x1C 2, g 0x1E 2, g 0x20 1, g 0x21 1,
    g 0x24 4, g 0x28 8⟩

/-- Fetch and check a layout descriptor at a DRAM address; none where a CRC fails (R188, R189), and where N_LAYERS lies outside 1 to 64, for
which R190 gives no effect: such a layout is not used (assumption log row 115). -/
def State.fetchLayout (s : State) (addr : Nat) : Option Layout :=
  let h := s.dbytes addr 64
  let n := bytesAt h 6 1
  let es := (List.range n).map (fun i => s.dbytes (addr + 64 + 64 * i) 64)
  if 1 ≤ n ∧ n ≤ 64 ∧ crcGood h ∧ es.all crcGood then
    some ⟨addr, bytesAt h 0 2, bytesAt h 2 2, bytesAt h 4 1, bytesAt h 5 1, if bytesAt h 7 1 % 2 = 1 then some (bytesAt h 8 4) else none,
      (es.map layerOf).filter (fun l => l.kind != 0)⟩
  else none

end Sys2Proof.Machine
end

