-- ==== Sys2Proof/Machine/EncGeom.lean ====
section
/-! DEFINITION. Frame rates, the slot grid, costs, partitions and units of renditions, the assignment of tuns and check
decoders, and start deadlines (R33, R37, R62 to R77, R123, R124, R141, R142). -/

namespace Sys2Proof.Machine

/-! ### Settings of a channel -/

/-- The mode, the look-ahead in force and the margin (R32). -/
def State.chMode (s : State) (n : Nat) : Nat := s.fld (ENC_CH_CTRL_MODE n)
def State.lookL (s : State) (n : Nat) : Nat := if s.chMode n = 2 then s.fld (ENC_CH_CTRL_LOOKAHEAD n) else 0
def State.margin (s : State) (n : Nat) : Nat := s.fld (ENC_CH_CTRL_MARGIN n)

/-! ### Renditions: cost and partitions -/

/-- Whether a channel is enabled, and whether a rendition is encoded: rendition 0 of an enabled channel always, another
one by ENC_CH_OUT_PKG.EN (R28). -/
def State.chOn (s : State) (n : Nat) : Bool := s.bit (ENC_CH_CTRL_EN n) || (s.chan n).stop.isSome
def State.rendOn (s : State) (n k : Nat) : Bool := s.chOn n && (k == 0 || s.bit (ENC_CH_OUT_PKG_EN n k))

/-- The renditions that a channel encodes, rising. -/
def State.rends (s : State) (n : Nat) : List Nat := (List.range 12).filter (fun k => s.rendOn n k)

def State.rendW (s : State) (n k : Nat) : Nat := s.fld (ENC_CH_REND_SIZE_WIDTH n k)
def State.rendH (s : State) (n k : Nat) : Nat := s.fld (ENC_CH_REND_SIZE_HEIGHT n k)
def State.codec (s : State) (n k : Nat) : Nat := s.fld (ENC_CH_REND_CODEC_CODEC n k)

/-- The effort factor e of R62 as a fraction. -/
def effortND : Nat → Nat × Nat
  | 0 => (2, 3) | 1 => (1, 1) | _ => (5, 3)

/-- e · c of a rendition as a fraction (R63). -/
def State.effC (s : State) (n k : Nat) : Nat × Nat :=
  let e := effortND (s.fld (ENC_CH_REND_CODEC_EFFORT n k))
  (e.1 * (if s.fld (ENC_CH_REND_CODEC_CHROMA n k) = 2 then 2 else 1), e.2)

/-- Whether a rendition is configured to reuse the top rung's motion (R79). -/
def State.reuses (s : State) (n k : Nat) : Bool := k != 0 && s.bit (ENC_CH_REND_CODEC_REUSE n k)

/-- The cost of a rendition in 1/16 grist, rounded up (R63). -/
def State.cost16 (s : State) (n k : Nat) : Nat :=
  let (fn, fd) := s.chRate n
  let (ec, ed) := s.effC n k
  let r := if s.reuses n k then 3 else 5
  ceilDiv (16 * s.rendW n k * s.rendH n k * fn * ec * r)
    (1000000 * fd * 2 ^ s.fld (ENC_CH_REND_SIZE_RATE_DIV n k) * ed * 5)

/-- The check cost of a rendition in 1/16 grist, rounded up (R141). -/
def State.chkCost16 (s : State) (n k : Nat) : Nat :=
  let (fn, fd) := s.chRate n
  let c := match s.fld (ENC_CH_REND_CODEC_CHROMA n k) with | 0 => 3 | 1 => 4 | _ => 6
  ceilDiv (16 * s.rendW n k * s.rendH n k * fn * c) (1000000 * fd * 2 ^ s.fld (ENC_CH_REND_SIZE_RATE_DIV n k) * 4)

/-- The automatic and the used partition count (R70). -/
def State.npartAuto (s : State) (n k : Nat) : Nat :=
  let p := ceilDiv (s.cost16 n k) 8192
  if s.codec n k = 3 then max p (ceilDiv (s.rendW n k) 4096) else p
def State.npart (s : State) (n k : Nat) : Nat :=
  let p := s.fld (ENC_CH_REND_CODEC_NPART n k)
  if p = 0 then s.npartAuto n k else p

/-- The load that one share of a rendition puts on its tun, and on its check decoder, in 1/16 grist, rounded up. -/
def State.share16 (s : State) (n k : Nat) : Nat := ceilDiv (s.cost16 n k) (s.npart n k)
def State.chkShare16 (s : State) (n k : Nat) : Nat := ceilDiv (s.chkCost16 n k) (s.npart n k)

/-- g_admit of a channel in 1/1024 grist, so that R44 is exact. -/
def State.gAdmit (s : State) (n : Nat) : Nat := ((s.rends n).map (s.cost16 n)).sum * (64 + s.margin n)

/-- The side in lines of a codec's coding block (R71): 128 in VVC and AV1, 64 in HEVC, a slice of 64 lines in AVC. -/
def rowLines (codec : Nat) : Nat := if codec = 2 ∨ codec = 3 then 128 else 64

/-- CTU rows of a rendition. -/
def State.nRows (s : State) (n k : Nat) : Nat := ceilDiv (s.rendH n k) (rowLines (s.codec n k))

/-- A budget unit's area (R123): its partition and its samples [x0, x1) × [y0, y1). -/
structure Area where
  part : Nat
  x0 : Nat
  x1 : Nat
  y0 : Nat
  y1 : Nat
  deriving DecidableEq, Repr

/-- The columns of `cols` tiles over a width in blocks of `b` samples, as even as the blocks allow. -/
def tileCols (w b cols : Nat) : List (Nat × Nat) :=
  let nb := ceilDiv w b
  (List.range cols).map (fun i => (i * nb / cols * b, min w ((i + 1) * nb / cols * b)))

/-- The rows [y0, y1) of height `b` between two lines. -/
def rowsOf (y0 y1 b : Nat) : List (Nat × Nat) :=
  (List.range (ceilDiv (y1 - y0) b)).map (fun i => (y0 + i * b, min y1 (y0 + (i + 1) * b)))

/-- The units of a picture of a rendition in the order of R123. -/
def State.units (s : State) (n k : Nat) : List Area :=
  let w := s.rendW n k
  let h := s.rendH n k
  let c := s.codec n k
  let b := rowLines c
  let np := s.npart n k
  if s.chMode n = 0 then
    let cols := if c = 3 then tileCols w b (ceilDiv w 4096) else [(0, w)]
    let cells := (rowsOf 0 h b).flatMap (fun y => cols.map (fun x => (x, y)))
    cells.mapIdx (fun i xy => ⟨i, xy.1.1, xy.1.2, xy.2.1, xy.2.2⟩)
  else if c = 0 then
    let r := ceilDiv h 16
    (List.range np).flatMap (fun j =>
      let y0 := j * (r / np) * 16
      let y1 := if j + 1 = np then h else min h ((j + 1) * (r / np) * 16)
      (rowsOf y0 y1 16).map (fun y => ⟨j, 0, w, y.1, y.2⟩))
  else
    ((tileCols w b np).mapIdx (fun j x => (rowsOf 0 h b).map (fun y => (⟨j, x.1, x.2, y.1, y.2⟩ : Area)))).flatten

/-- The floor bound of a unit (R124) and of a whole picture. -/
def State.floorOf (s : State) (n k : Nat) (intra : Bool) (a : Area) : Nat :=
  let (b, inter, intr, ovh) := match s.codec n k with
    | 0 => (16, 2, 12, 128) | 1 => (64, 16, 48, 192) | 2 => (128, 24, 160, 256) | _ => (128, 24, 160, 32)
  let blocks := ceilDiv (a.x1 - a.x0) b * ceilDiv (a.y1 - a.y0) b
  let q := match s.fld (ENC_CH_REND_CODEC_CHROMA n k) with | 0 => 4 | 1 => 5 | _ => 6
  let starts := s.chMode n == 0 || a.y0 == 0 ||
    (s.codec n k == 0 && ((s.units n k).find? (fun x => x.part = a.part)).any (fun x => x.y0 == a.y0))
  (if intra then blocks * intr * q / 4 else blocks * inter) + (if starts then ovh else 0)
def State.floorPic (s : State) (n k : Nat) (intra : Bool) : Nat :=
  ((s.units n k).map (s.floorOf n k intra)).sum

/-- The tun slot of R73 that carries partition `j` of picture `q`. -/
def State.tunSlot (s : State) (n k j q : Nat) : Nat :=
  let np := s.npart n k
  if np = 0 then 0 else if s.chMode n = 0 then (j + q * (s.units n k).length) % np else (j + q) % np

/-! ### Assignment of tuns (R75) -/

/-- The running state of the assignment: loads in 1/16 grist, owner channel + 1 and rendition mask of each tun, the tuns of
each rendition, the side of each channel, and the grist of each channel that found no tun. -/
structure Asg where
  load    : List Nat
  own     : List Nat
  mask    : List Nat
  place   : Tab (List Nat)
  sides   : Tab Nat
  missing : Tab Nat
  deriving DecidableEq, Repr

/-- Whether every channel found its tuns. -/
def Asg.full (a : Asg) : Bool := a.missing.isEmpty

/-- Grist of a channel that finds no tun. -/
def Asg.lack (a : Asg) (n g : Nat) : Asg := { a with missing := tset (fun _ => 0) a.missing n (tget (fun _ => 0) a.missing n + g) }

/-- Put `g` of rendition k of channel n on tun t. -/
def Asg.add (a : Asg) (n k g t : Nat) : Asg :=
  { a with load := a.load.modify t (· + g), own := a.own.set t (n + 1), mask := a.mask.modify t (· ||| 2 ^ k),
           place := tput a.place (n * 16 + k) ((tfind a.place (n * 16 + k)).getD [] ++ [t]) }

/-- The tuns of a side first, then of the other, rising in each. -/
def sideOrder (side : Nat) : List Nat :=
  if side = 0 then List.range 40 else (List.range 20).map (· + 20) ++ List.range 20

/-- Tuns with load 0 that no channel has and that are not fenced, in a side's order. -/
def Asg.free (a : Asg) (fenced : Nat → Bool) (side : Nat) : List Nat :=
  (sideOrder side).filter (fun t => !fenced t && a.load.getD t 0 == 0 && a.own.getD t 0 == 0)

/-- Unassigned grist of a side, in 1/16. -/
def Asg.slack (a : Asg) (fenced : Nat → Bool) (side : Nat) : Nat :=
  (((List.range 20).map (· + 20 * side)).filter (fun t => !fenced t)).foldl (fun x t => x + (8192 - a.load.getD t 0)) 0

/-- Insert a key in order of decreasing measure, ties in order of arrival. -/
def insDesc (m : Nat → Nat) (x : Nat) : List Nat → List Nat
  | [] => [x]
  | y :: t => if m x > m y then x :: y :: t else y :: insDesc m x t

/-- A list in order of decreasing measure, then as given. -/
def sortDesc (m : Nat → Nat) (l : List Nat) : List Nat := l.foldl (fun acc x => insDesc m x acc) []

/-- A rendition with more than one partition takes the lowest-numbered free tuns. -/
def State.assignMany (s : State) (fenced : Nat → Bool) (n side : Nat) (a : Asg) (k : Nat) : Asg :=
  let np := s.npart n k
  let ts := (a.free fenced side).take np
  let a := ts.foldl (fun a t => a.add n k (s.share16 n k) t) a
  a.lack n ((np - ts.length) * s.share16 n k)

/-- A rendition with one partition goes beside its channel's others where it fits. -/
def State.assignOne (s : State) (fenced : Nat → Bool) (n side : Nat) (a : Asg) (k : Nat) : Asg :=
  let g := s.share16 n k
  let mine := (List.range 40).filter (fun t => !fenced t && a.own.getD t 0 == n + 1 && decide (g + a.load.getD t 0 ≤ 8192))
  match mine ++ a.free fenced side with
  | t :: _ => a.add n k g t
  | [] => a.lack n g

/-- The registers of a channel that the algorithm reads: of a channel that still releases the slots of a run, those of that run. -/
def State.ownRegs (s : State) (n : Nat) : State := match (s.chan n).stop with | some e => s.asOf n (e - 1) | none => s

/-- One channel of the algorithm. -/
def State.assignChan (s : State) (fenced : Nat → Bool) (a : Asg) (n : Nat) : Asg :=
  let s := s.ownRegs n
  let side := match (s.chan n).side with
    | some x => x
    | none => if a.slack fenced 0 ≥ a.slack fenced 1 then 0 else 1
  let many := (s.rends n).filter (fun k => s.npart n k > 1)
  let one := sortDesc (s.cost16 n) ((s.rends n).filter (fun k => s.npart n k ≤ 1))
  let a := many.foldl (s.assignMany fenced n side) a
  let a := one.foldl (s.assignOne fenced n side) a
  { a with sides := tput a.sides n side }

/-- Enabled channels in the order of R75. -/
def State.chanOrder (s : State) : List Nat := sortDesc (fun n => (s.ownRegs n).gAdmit n) ((List.range 16).filter (fun n => s.chOn n))

/-- Whether a tun is fenced. -/
def State.tunFenced (s : State) (t : Nat) : Bool := s.bit (ENC_TUN_STAT_FENCED t)

/-- The algorithm of R75 over a configuration; it fails when some grist is missing. -/
def State.assign (s : State) : Asg :=
  s.chanOrder.foldl (s.assignChan s.tunFenced)
    ⟨List.replicate 40 0, List.replicate 40 0, List.replicate 40 0, [], [], []⟩

/-! ### Placement on check decoders (R142, R152) -/

/-- The running state of the placement: loads, the channels each decoder carries (bit n), the decoder of each share of
each rendition, and whether it failed. -/
structure Chk where
  load  : List Nat
  chans : List Nat
  place : Tab (List Nat)
  fail  : Bool
  deriving DecidableEq, Repr

/-- Place one share. -/
def Chk.add (fenced : Nat → Bool) (n k g : Nat) (a : Chk) : Chk :=
  let room := (List.range 8).filter (fun d => !fenced d && decide (g + a.load.getD d 0 ≤ 40960))
  match room.filter (fun d => nbit (a.chans.getD d 0) n) ++ room with
  | d :: _ => { a with load := a.load.modify d (· + g), chans := a.chans.modify d (nset · n),
                       place := tput a.place (n * 16 + k) ((tfind a.place (n * 16 + k)).getD [] ++ [d]) }
  | [] => { a with fail := true }

/-- Whether a check decoder is fenced. -/
def State.chkFenced (s : State) (d : Nat) : Bool := s.bit (DEC_CHK_STAT_FENCED d)

/-- The renditions (channel · 16 + rendition) in the placement order. -/
def State.chkOrder (s : State) : List Nat := s.chanOrder.flatMap (fun n => ((s.ownRegs n).rends n).map (fun k => n * 16 + k))

/-- The placement of a list of renditions. -/
def State.chkPlaceOf (s : State) (l : List Nat) : Chk :=
  l.foldl (fun a x =>
    let t := s.ownRegs (x / 16)
    (List.range (t.npart (x / 16) (x % 16))).foldl
      (fun a _ => a.add s.chkFenced (x / 16) (x % 16) (t.chkShare16 (x / 16) (x % 16))) a)
    ⟨List.replicate 8 0, List.replicate 8 0, [], false⟩

/-- The longest prefix of the placement order that places: renditions go unchecked in reverse order (R152). -/
def State.chkBest (s : State) : Nat → Chk
  | 0 => s.chkPlaceOf []
  | m + 1 => let c := s.chkPlaceOf (s.chkOrder.take (m + 1)); if c.fail then s.chkBest m else c

/-! ### Composer pipes (R181 to R183) -/

/-- Whether a pipe is fenced. -/
def State.pipeFenced (s : State) (p : Nat) : Bool := s.bit (CMP_PIPE_STAT_FENCED p)

/-- The live scaling of a channel in 1/16 composer grist (R182): its lower rungs but those of rendition 0's size. -/
def State.liveScale (s : State) (n : Nat) : Nat :=
  let (fn, fd) := s.chRate n
  (((s.rends n).filter (fun k => k != 0 && !(s.rendW n k == s.rendW n 0 && s.rendH n k == s.rendH n 0))).map (fun k =>
    ceilDiv (16 * s.rendW n k * s.rendH n k * fn * cf3 (s.fld (ENC_CH_REND_CODEC_CHROMA n k)))
      (3000000 * fd * 2 ^ s.fld (ENC_CH_REND_SIZE_RATE_DIV n k)))).sum

/-- The output rate of a trigger in pictures per second as a fraction: 10⁹ over its period in ns. -/
def State.trigRate (s : State) (t : Nat) : Nat × Nat :=
  if t ≥ 32 then s.chRate ((t - 32) / 2) else (1000000000, max 1 (s.rd (TB_TRIG_PER_NS t)).toNat)

/-- The layout that a pipe's own registers name. -/
def State.pipeLayout (s : State) (p : Nat) : Nat := s.pairVal (CMP_PIPE_LAYOUT_LO p) (CMP_PIPE_LAYOUT_HI p)

/-- The cost of the composition that a pipe's own registers start, in 1/16 grist, from the layout that they name
or, where its CRCs fail, from the last one it used. -/
def State.ownComp (s : State) (p : Nat) : Nat :=
  if !s.bit (CMP_PIPE_CFG_EN p) then 0
  else
    match (s.fetchLayout (s.pipeLayout p)).or (s.comp p).good with
    | none => 0
    | some l =>
      let (fn, fd) := s.trigRate (s.fld (CMP_PIPE_CFG_TRIGGER p))
      ceilDiv (16 * l.width * l.height * fn * cf3 l.chroma) (3000000 * fd * (if s.bit (CMP_PIPE_CFG_MODE p) then 16 else 1))

/-- The cost of the bridge compositions on a pipe. -/
def State.pipeBridge (s : State) (p : Nat) : Nat :=
  (((s.liveRecs 4).filter (fun o => s.rf 4 o 14 1 == p)).map (fun o => s.rf 4 o 0x2C 4)).sum +
  (((List.range 16).filter (fun q => (if (s.comp q).pipe = 0 then q else (s.comp q).pipe - 1) == p)).map s.ownComp).sum

/-- The pipe of each channel's live scaling (R182): lowest number with room, the channel's side first. -/
def State.livePipes (s : State) : List (Nat × Nat) :=
  (((List.range 16).filter (fun n => s.chOn n && s.liveScale n != 0)).foldl (fun (acc : List (Nat × Nat)) n =>
    let side := ((s.chan n).side).getD 0
    let order := if side = 0 then List.range 16 else (List.range 8).map (· + 8) ++ List.range 8
    let load := fun p => s.pipeBridge p + ((acc.filter (fun x => x.2 == p)).map (fun x => s.liveScale x.1)).sum
    match order.find? (fun p => !s.pipeFenced p && decide (load p + s.liveScale n ≤ 64000)) with
    | some p => acc ++ [(n, p)]
    | none => acc) [])

/-- Put the placement of live scaling and the loads of the pipes in force (CMP_PIPE_LOAD, LIVE, CMP_POOL_STAT). -/
def State.placeLive (s : State) : State :=
  let l := s.livePipes
  let s := (List.range 16).foldl (fun s p =>
    let mine := (l.filter (fun x => x.2 == p)).map (·.1)
    let s := s.put (CMP_PIPE_LOAD_LOAD p) ((mine.map s.liveScale).sum + s.pipeBridge p)
    let s := s.put (CMP_PIPE_LIVE_CHANNELS p) (mine.foldl nset 0)
    let s := s.put (CMP_PIPE_STAT_LIVE p) (b2n (!mine.isEmpty))
    s.put (CMP_PIPE_STAT_CHANNEL p) (mine.headD 0)) s
  let free := ((List.range 16).filter (fun p => !s.pipeFenced p)).foldl (fun x p => x + (64000 - s.fld (CMP_PIPE_LOAD_LOAD p))) 0
  (s.put CMP_POOL_STAT_FREE_GRIST (free / 16)).put CMP_POOL_STAT_FENCED ((List.range 16).countP s.pipeFenced)

/-! ### Putting an assignment in force -/

/-- Whether a bridge encode is assigned to a tun: an output in use names it. -/
def State.tunServes (s : State) (t : Nat) : Bool := (s.liveRecs 4).any (fun o => s.rf 4 o 15 1 == t)

/-- ENC_POOL_STAT (R95); SPARE is first taken after the self-test at start-up, which is over when service starts (step 10, assumption log row 100). -/
def State.poolStat (s : State) : State :=
  let used := ((List.range 16).filter (fun n => s.chOn n)).foldl (fun x n => x + (s.ownRegs n).gAdmit n) 0 + s.enc.brgTun * 64
  let s := s.put ENC_POOL_STAT_FREE_GRIST ((20480 * 1024 - used) / 1024)
  let s := s.put ENC_POOL_STAT_FENCED ((List.range 40).countP s.tunFenced)
  if s.fld CFG_BOOT_STAT_STEP < 10 then s
  else s.put ENC_POOL_STAT_SPARE ((List.range 40).countP (fun t =>
    !s.tunFenced t && s.fld (ENC_TUN_LOAD_LOAD t) == 0 && !s.tunServes t))

/-- The greatest rest ratio at which (8 − r) / 8 of a capacity still carries a load (R78, R532). -/
def restBound (cap load : Nat) : Nat := ((List.range 8).filter (fun r => decide (load * 8 ≤ cap * (8 - r)))).foldl max 0

/-- One tun's registers under an assignment; a rest that its new load does not bear ends (R78). -/
def State.putTun (s : State) (a : Asg) (t : Nat) : State :=
  let o := a.own.getD t 0
  let ld := a.load.getD t 0
  let s := s.put (ENC_TUN_LOAD_LOAD t) ld
  let s := s.put (ENC_TUN_MAP_VALID t) (b2n (o != 0))
  let s := s.put (ENC_TUN_MAP_REND_MASK t) (a.mask.getD t 0)
  let s := s.put (ENC_TUN_MAP_CHANNEL t) (o - 1)
  if ld = 0 then s else s.put (ENC_TUN_STAT_REST t) (min (s.fld (ENC_TUN_STAT_REST t)) (restBound 8192 ld))

/-- A rendition's registers under an assignment; 0x1011 when a running rendition's tuns change. -/
def State.putRend (s : State) (a : Asg) (n k : Nat) : State :=
  let t := s.ownRegs n
  let ts := (tfind a.place (n * 16 + k)).getD []
  let old := (tfind s.enc.place (n * 16 + k)).getD []
  let m := ts.foldl nset 0
  let s := s.put (ENC_CH_REND_TUNS_LO_TUNS n k) m
  let s := s.put (ENC_CH_REND_TUNS_HI_TUNS n k) (m / 2 ^ 32)
  let s := s.put (ENC_CH_REND_TUNS_HI_NPART_USED n k) (if t.rendOn n k then t.npart n k else 0)
  let s := s.put (ENC_CH_REND_COST_COST n k) (if t.rendOn n k then t.cost16 n k else 0)
  if old ≠ [] ∧ ts ≠ [] ∧ ts ≠ old then
    s.emit 0x1011 ((ts.filter (fun t => !old.contains t)).headD (ts.headD 0)) (evArg [(0, 1, n), (1, 1, k), (2, 1, ts.length)])
  else s

/-- The mills' admitted rates: top-rung input rates by side, in Mpixel/s (R97, ENC_MILL_STAT). -/
def State.millLoad (s : State) (a : Asg) (m : Nat) : Nat :=
  (((List.range 16).filter (fun n => s.chOn n && tfind a.sides n == some m)).foldl (fun x n =>
    let s := s.ownRegs n
    x + s.fld (ENC_CH_SIZE_WIDTH n) * s.fld (ENC_CH_SIZE_HEIGHT n) * (s.chRate n).1 * 1000 / (s.chRate n).2) 0) / 1000000000

/-- The bridge outputs that go unchecked (R152): all of them once a rendition must, else the last of them until the check cost of the
rest fits the free check grist `free`, in 1/16 grist. -/
def State.brgUncheck (s : State) (all : Bool) (free : Nat) : List Nat :=
  let os := s.liveRecs 4
  if all then os
  else os.filter (fun o => decide (((os.filter (fun x => decide (x ≤ o))).map (fun x => s.rf 4 x 0x28 4)).sum > free))

/-- Put check placement in force: loads, pool, and the unchecked renditions and bridge encodes with event 0x1444 (R152). `d` is the check
decoder whose fence or return makes the change. -/
def State.placeChk (s : State) (d : Nat) : State :=
  let c := s.chkBest s.chkOrder.length
  let un := s.chkOrder.filter (fun x => (tfind c.place x).isNone)
  let free := ((List.range 8).filter (fun d => !s.chkFenced d)).foldl (fun x d => x + (40960 - c.load.getD d 0)) 0
  let bun := s.brgUncheck (!un.isEmpty) free
  let old := s.enc.unchecked
  let bold := s.enc.brgUnchk
  let s := (List.range 8).foldl (fun s d => s.put (DEC_CHK_LOAD_LOAD d) (c.load.getD d 0)) s
  let s := s.put DEC_CHK_POOL_FREE_GRIST (free / 16)
  let s := s.put DEC_CHK_POOL_FENCED ((List.range 8).countP s.chkFenced)
  let s := s.put DEC_CHK_POOL_UNCHECKED (un.length + bun.length)
  let s := { s with enc := { s.enc with chkPlace := c.place, unchecked := un, brgUnchk := bun } }
  let s := (bun.filter (fun x => !bold.contains x)).foldl (fun s _ => s.emit 0x1444 d (evArg [(0, 1, 0xFF), (2, 1, 0)])) s
  let s := (un.filter (fun x => !old.contains x)).foldl (fun s x =>
    s.emit 0x1444 d (evArg [(0, 1, x / 16), (1, 1, x % 16), (2, 1, 0)])) s
  let s := (old.filter (fun x => !un.contains x && s.rendOn (x / 16) (x % 16))).foldl (fun s x =>
    s.emit 0x1444 d (evArg [(0, 1, x / 16), (1, 1, x % 16), (2, 1, 1)])) s
  (bold.filter (fun x => !bun.contains x && (s.liveRecs 4).contains x)).foldl (fun s _ =>
    s.emit 0x1444 d (evArg [(0, 1, 0xFF), (2, 1, 1)])) s

/-- The placement made with an assignment: no check decoder has changed; the event names the first one that is fenced. -/
def State.runChkPlace (s : State) : State := s.placeChk (((List.range 8).find? s.chkFenced).getD 0)

/-- Run the assignment of R75 and the placement of R142 and put them in force. A channel that lacks grist raises 0x1014, and bridge encode
jobs stay shed while one does (R93). -/
def State.runAssign (s : State) : State :=
  let a := s.assign
  let s := (List.range 40).foldl (fun s t => s.putTun a t) s
  let s := (List.range 16).foldl (fun s n => (List.range 12).foldl (fun s k => s.putRend a n k) s) s
  let s := { s with enc := { s.enc with place := a.place, short := a.missing } }
  let s := a.sides.foldl (fun s x => s.setChan x.1 { s.chan x.1 with side := some x.2 }) s
  let s := (List.range 2).foldl (fun s m => s.put (ENC_MILL_STAT_LOAD m) (s.millLoad a m)) s
  let s := s.poolStat.runChkPlace.placeLive
  a.missing.foldl (fun s x => s.emit 0x1014 x.1 (evArg [(0, 4, x.2)])) s

/-! ### Deadlines (R37, R425) -/

/-- t_row of R37 in 2⁻¹⁶ ns. -/
def State.tRow (s : State) (n r : Nat) : Nat :=
  let w := s.rendW n 0
  let b := rowLines (s.codec n 0)
  let wide := if s.codec n 0 = 3 then
      (tileCols w b (ceilDiv w 4096)).foldl (fun m x => max m (x.2 - x.1)) 0 else w
  let lines := min b (s.rendH n 0 - r * b)
  let (ec, ed) := s.effC n 0
  wide * lines * ec * 1000 * 65536 * (64 + s.margin n) / (512 * ed * 64) + 40 * usU

/-- The largest live load over the tuns serving a channel, in 1/16 grist. -/
def State.maxLoad (s : State) (n : Nat) : Nat :=
  (List.range 40).foldl (fun m t =>
    if s.bit (ENC_TUN_MAP_VALID t) ∧ s.fld (ENC_TUN_MAP_CHANNEL t) = n then max m (s.fld (ENC_TUN_LOAD_LOAD t)) else m) 0

/-- t_pic of R37 in 2⁻¹⁶ ns, for a largest load. -/
def State.tPic (s : State) (n ld : Nat) : Nat := s.tf n * ld * (64 + s.margin n) / (8192 * 64) + 40 * usU

/-- The start deadline of row r of slot k in presented 2⁻¹⁶ ns (R37), under the registers of the slot. -/
def State.deadline (s : State) (n k r : Nat) : Int :=
  let t := s.asOf n k
  let base := s.releaseTime n k
  if t.chMode n = 0 then base + ((r * t.tf n / t.nRows n 0 : Nat) : Int) - (t.tRow n r : Int)
  else base - ((t.lookL n * t.tf n + t.tPic n (s.maxLoad n) : Nat) : Int)

/-- Whether the device is a member of a pair (R418). -/
def State.inPair (s : State) : Bool := s.fld RDN_CFG_MODE == 1

/-- The classification cut in a pair: the deadline less RACK_LEAD (R425). -/
def State.cutTime (s : State) (n k r : Nat) : Int :=
  s.deadline n k r - ((s.fld RDN_CFG2_RACK_LEAD * 10 * usU : Nat) : Int)

end Sys2Proof.Machine
end

