-- ==== Sys2Proof/Machine/Motion.lean ====
section
/-! DEFINITION. Samples and motion (chapters 3 and 4): the internal sample scale (R86), the tools of each codec (R65 to R68), the mill's
coarse search (R98, R99), the search window (R105 to R107) and the fine search of the tuns (R106, R111, R112). What a block costs at a
vector is the encoder's own arithmetic: the costs are free functions (assumption log row 101). -/

namespace Sys2Proof.Machine

/-! ### Samples (R86) -/

/-- A b-bit sample on the internal 18-bit scale, and back. -/
def sampleIn (b x : Nat) : Int := ((x : Int) - (2 ^ (b - 1) : Nat)) * ((2 ^ (16 - b) : Nat) : Int)
def sampleOut (b : Nat) (v : Int) : Nat :=
  (max 0 (min ((2 ^ b - 1 : Nat) : Int) ((v + ((2 ^ (15 - b) : Nat) : Int)) / ((2 ^ (16 - b) : Nat) : Int) + (2 ^ (b - 1) : Nat)))).toNat

/-- The search window's 10-bit sample: the top 10 bits of the 16-bit sample, rounded half up (R105). -/
def winSample (v : Int) : Int := (v + 32) / 64

/-- Bit depths of the DEPTH fields. -/
def depthOf (d : Nat) : Nat := [8, 10, 12].getD d 12

/-- CRC-32C of a unit's final samples: each as its coded-depth value in a 16-bit little-endian word (R143). -/
def unitCrc (depth : Nat) (samples : List Int) : W32 := crc32c (samples.flatMap (fun v => leBytes 2 (sampleOut depth v)))

/-! ### Tools (R65 to R68) -/

/-- The tools that an encoder may use: AVC, HEVC, VVC, AV1; reference picture resampling on bridge encodes only. -/
def codecTools (codec : Nat) (bridge : Bool) : List Tool :=
  match codec with
  | 0 => [.cabac, .cavlc, .transform8, .intra4, .intra8, .intra16, .pPictures, .bPictures, .implicitWp, .deblocking, .slices]
  | 1 => [.modes35, .amp, .merge, .amvp, .tmvp, .transformSkip4, .signHiding, .deblocking, .sao, .tiles, .wpp, .slices]
  | 2 => [.qtMtt, .dualTree, .modes67, .mrl, .cclm, .merge, .mmvd, .ciip, .smvd, .amvr, .bcw, .affine, .gpm, .dmvr, .bdof, .mts, .lfnst,
      .depQuant, .jointCbCr, .sao, .alf, .ccAlf, .lmcs, .subpictures, .tiles, .wpp, .slices] ++ (if bridge then [.rpr] else [])
  | _ => [.tenPartitions, .angleDelta, .smooth, .paeth, .cfl, .filterIntra, .singleRef, .compoundAverage, .compoundDistance,
      .compoundDifference, .compoundWedge, .obmc, .warped, .globalMotion, .dualFilter, .transforms16, .deblocking, .cdef,
      .loopRestoration, .tiles]

/-! ### Planes and blocks -/

/-- The sample of a plane of lines at (x, y), the edge repeated outside its `w` by `h` samples. -/
def planeAt (t : Tab (List Int)) (w h : Nat) (x y : Int) : Int :=
  let cx := (max 0 (min x ((w : Int) - 1))).toNat
  let cy := (max 0 (min y ((h : Int) - 1))).toNat
  ((tfind t cy).getD []).getD cx 0

/-- The samples of a block, line by line. -/
def planeBlock (t : Tab (List Int)) (w h : Nat) (x y : Int) (bw bh : Nat) : List Int :=
  (List.range bh).flatMap (fun (j : Nat) => (List.range bw).map (fun (i : Nat) => planeAt t w h (x + (i : Int)) (y + (j : Int))))

/-- The vectors of a rectangle ±rx by ±ry in raster order. -/
def rasterVecs (rx ry : Nat) : List Vec :=
  (List.range (2 * ry + 1)).flatMap (fun (j : Nat) => (List.range (2 * rx + 1)).map (fun (i : Nat) => ((i : Int) - (rx : Int), (j : Int) - (ry : Int))))

/-- The first of the candidates of least cost (R111: ties go to the candidate listed first). -/
def bestOf (cost : Vec → Nat) : List Vec → Option (Vec × Nat)
  | [] => none
  | v :: t => match bestOf cost t with
    | some (u, c) => if c < cost v then some (u, c) else some (v, cost v)
    | none => some (v, cost v)

/-- The three best candidates, best first, ties in order of listing. -/
def bestThree (cost : Vec → Nat) (l : List Vec) : List Vec :=
  match bestOf cost l with
  | none => []
  | some (a, _) =>
    let l := l.filter (· ≠ a)
    match bestOf cost l with
    | none => [a]
    | some (b, _) => match bestOf cost (l.filter (· ≠ b)) with
      | none => [a, b]
      | some (c, _) => [a, b, c]

/-! ### The mill (R98, R99) -/

/-- The 4×4 average of four lines, rounded half up (R98 step 1): one downscaled line. -/
def downscale : List Int → List Int → List Int → List Int → List Int
  | a0 :: a1 :: a2 :: a3 :: a, b0 :: b1 :: b2 :: b3 :: b, c0 :: c1 :: c2 :: c3 :: c, d0 :: d1 :: d2 :: d3 :: d =>
    ((a0 + a1 + a2 + a3 + b0 + b1 + b2 + b3 + c0 + c1 + c2 + c3 + d0 + d1 + d2 + d3 + 8) / 16) :: downscale a b c d
  | _, _, _, _ => []

/-- The further 4:1 level of a downscaled copy of `h` lines (R98 step 2). -/
def millLevel2 (t : Tab (List Int)) (h : Nat) : Tab (List Int) :=
  (List.range (h / 4)).map (fun y =>
    let l := fun i => (tfind t (4 * y + i)).getD []
    (y, downscale (l 0) (l 1) (l 2) (l 3)))

/-- A copy at both levels: its size at 4:1, and the lines of the 4:1 and of the 16:1 level. -/
structure MillCopy where
  w  : Nat
  h  : Nat
  l1 : Tab (List Int)
  l2 : Tab (List Int)
  deriving DecidableEq, Repr

/-- The difference of two blocks, and SATD, whose transform and scale R98 leaves to the implementation. -/
def blockDiff (a b : List Int) : List Int := (a.zip b).map (fun x => x.1 - x.2)

/-- The intra cost of a 64×64 block: SATD of its 16×16 downscaled block against the DC prediction (R98 step 3), saturated. -/
def millIntra (cur : MillCopy) (bx by_ : Nat) : Nat :=
  let b := planeBlock cur.l1 cur.w cur.h (16 * bx : Nat) (16 * by_ : Nat) 16 16
  let dc := b.sum / 256
  min 65535 (Config.satd (b.map (fun v => v - dc)))

/-- SATD of a block of the current copy against the reference displaced by a vector, at the 4:1 level. -/
def millCost1 (cur ref : MillCopy) (bx by_ : Nat) (v : Vec) : Nat :=
  Config.satd (blockDiff (planeBlock cur.l1 cur.w cur.h (16 * bx : Nat) (16 * by_ : Nat) 16 16)
    (planeBlock ref.l1 ref.w ref.h ((16 * bx : Nat) + v.1) ((16 * by_ : Nat) + v.2) 16 16))
/-- The same at the 16:1 level. -/
def millCost2 (cur ref : MillCopy) (bx by_ : Nat) (v : Vec) : Nat :=
  Config.satd (blockDiff (planeBlock cur.l2 (cur.w / 4) (cur.h / 4) (4 * bx : Nat) (4 * by_ : Nat) 4 4)
    (planeBlock ref.l2 (ref.w / 4) (ref.h / 4) ((4 * bx : Nat) + v.1) ((4 * by_ : Nat) + v.2) 4 4))

/-- The coarse search of one block in one reference (R98 step 2): exhaustive over ±128 by ±64 at the 16:1 level, then ±4 at the 4:1
level about the three best and about the vectors of the left and the upper block. Answers the best and the second-best vector in full-pel
luma and the best one's cost; the range is ±2,048 by ±1,024 (R99). -/
def millBlock (cur ref : MillCopy) (bx by_ : Nat) (left upper : Vec) : Vec × Vec × Nat :=
  let seeds := (bestThree (millCost2 cur ref bx by_) (rasterVecs 128 64)).map (fun v => (4 * v.1, 4 * v.2)) ++
    [(left.1 / 4, left.2 / 4), (upper.1 / 4, upper.2 / 4)]
  let cands := (seeds.flatMap (fun c => (rasterVecs 4 4).map (fun d => (c.1 + d.1, c.2 + d.2)))).filter
    (fun v => decide (v.1.natAbs ≤ 512) && decide (v.2.natAbs ≤ 256))
  match bestThree (millCost1 cur ref bx by_) cands with
  | a :: b :: _ => ((4 * a.1, 4 * a.2), (4 * b.1, 4 * b.2), millCost1 cur ref bx by_ a)
  | [a] => ((4 * a.1, 4 * a.2), (4 * a.1, 4 * a.2), millCost1 cur ref bx by_ a)
  | [] => ((0, 0), (0, 0), 0)

/-- Whether a vector reached the range limit (R101). -/
def atLimit (v : Vec) : Bool := decide (v.1.natAbs ≥ 2048) || decide (v.2.natAbs ≥ 1024)

/-- The entry of a block: `refs` holds the copies of the references, none or one or two; without one every vector is 0 and the inter
cost 65,535 (R102). `left` and `upper` are the neighbouring entries. -/
def millEntry (cur : MillCopy) (refs : List MillCopy) (bx by_ : Nat) (left upper : Option MillEntry) : MillEntry :=
  let v0 := fun (e : Option MillEntry) => match e with | some x => (x.mv0x, x.mv0y) | none => (0, 0)
  let v1 := fun (e : Option MillEntry) => match e with | some x => (x.mv1x, x.mv1y) | none => (0, 0)
  let intra := millIntra cur bx by_
  match refs with
  | [] => ⟨0, 0, 0, 0, intra, 65535, false, false, 0, 0, 0, 0⟩
  | r0 :: t =>
    let a := millBlock cur r0 bx by_ (v0 left) (v0 upper)
    let b := match t with
      | r1 :: _ => millBlock cur r1 bx by_ (v1 left) (v1 upper)
      | [] => ((0, 0), (0, 0), a.2.2)
    ⟨a.1.1, a.1.2, b.1.1, b.1.2, intra, min 65535 (min a.2.2 b.2.2), false, atLimit a.1 || atLimit b.1, a.2.1.1, a.2.1.2,
      b.2.1.1, b.2.1.2⟩

/-- The entries of a block row from the left, given the row above. -/
def millRowGo (cur : MillCopy) (refs : List MillCopy) (by_ : Nat) (up : Nat → Option MillEntry) : Nat → Nat → Option MillEntry → List MillEntry
  | 0, _, _ => []
  | f + 1, bx, left =>
    let e := millEntry cur refs bx by_ left (up bx)
    e :: millRowGo cur refs by_ up f (bx + 1) (some e)

/-- The entries of a CTU row (R98 step 2): `rows` block rows of `bw` blocks from block row `b0`, given the entries of the block row
above. -/
def millCtuRow (cur : MillCopy) (refs : List MillCopy) (bw : Nat) : Nat → Nat → List MillEntry → List MillEntry
  | 0, _, _ => []
  | f + 1, b0, above =>
    let r := millRowGo cur refs b0 (fun i => above[i]?) bw 0 none
    r ++ millCtuRow cur refs bw f (b0 + 1) r

/-! ### Global motion (R103) -/

/-- Round to the nearest multiple of 128, half away from zero. -/
def gmvRound (x : Int) : Int := if x ≥ 0 then (x + 64) / 128 * 128 else -((-x + 64) / 128 * 128)

/-- Insert into a rising list, and the median of a list: the mean of the middle two when their number is even. -/
def insertSorted (x : Int) : List Int → List Int
  | [] => [x]
  | y :: t => if x ≤ y then x :: y :: t else y :: insertSorted x t
def medianInt (l : List Int) : Int :=
  let l := l.foldr insertSorted []
  let n := l.length
  if n % 2 = 1 then l.getD (n / 2) 0 else (l.getD (n / 2 - 1) 0 + l.getD (n / 2) 0) / 2

/-- A clamped global motion offset and whether the clamp acted (R103). -/
def gmvOf (lim : Int) (vs : List Int) : Int × Bool :=
  let r := gmvRound (medianInt vs)
  (clipSym lim r, decide (clipSym lim r ≠ r))

/-! ### The search window (R105 to R107) -/

/-- The side of a codec's search unit, the strip buffers of a reference, and the strips on each side of the unit's own (R105). -/
def searchSide (codec : Nat) : Nat := if codec = 2 ∨ codec = 3 then 128 else 64
def stripBufs (codec : Nat) : Nat := if codec = 2 ∨ codec = 3 then 10 else 18
def stripReach (codec : Nat) : Nat := if codec = 2 ∨ codec = 3 then 4 else 8

/-- The strips that a window of a search unit takes from a picture `w` samples wide: those round the unit, shifted by the global motion
offset, that do not lie wholly outside it. -/
def stripsAt (codec w col : Nat) (gx : Int) : List Int :=
  let side := searchSide codec
  let r := (stripReach codec : Int)
  let mid := (col : Int) + gx / (side : Int)
  ((List.range (2 * stripReach codec + 1)).map (fun (i : Nat) => mid - r + (i : Int))).filter (fun x => decide (0 ≤ x) && decide (x * side < w))

/-- Opening strips of a row: the last 5 or 9 of a window's strips (R107). -/
def stripOpen (codec : Nat) : Nat := stripReach codec + 1

/-- A step of the window from column `col` to the next (R107): the oldest strip goes, the new one comes into the spare buffer. The strip
before the new window's first stays in its buffer until the next step loads over it. -/
def stripStep (codec w col : Nat) (gx : Int) (old : List Int) : List Int :=
  let cur := stripsAt codec w col gx
  let new := stripsAt codec w (col + 1) gx
  (old.filter (fun x => match cur.head? with | some f => decide (f ≤ x) | none => false)) ++ new.filter (fun x => !old.contains x)

/-- The rectangle of the window of the search unit at (ux, uy) in the reference, [x0, x1) × [y0, y1) (R105). -/
def winRect (codec : Nat) (ux uy : Nat) (g : Vec) : Int × Int × Int × Int :=
  let s := (searchSide codec : Int)
  ((ux : Int) - 512 + g.1, (ux : Int) + s + 512 + g.1, (uy : Int) - 256 + g.2, (uy : Int) + s + 256 + g.2)

/-- The full-pel part of a vector in sixteenths of a sample. -/
def pel (v : Vec) : Vec := (v.1 / 16, v.2 / 16)

/-- Whether the block that a vector refers to lies wholly inside a window with its support: 3 samples above and to the left, 4 below and to
the right (R106). -/
def inWindow (r : Int × Int × Int × Int) (b : CodBlk) (v : Vec) : Bool :=
  let p := pel v
  let x := (b.x : Int) + p.1
  let y := (b.y : Int) + p.2
  decide (r.1 ≤ x - 3) && decide (x + b.w + 4 ≤ r.2.1) && decide (r.2.2.1 ≤ y - 3) && decide (y + b.h + 4 ≤ r.2.2.2)

/-- The nearest vector inside the window (R112), per axis. -/
def clampWindow (r : Int × Int × Int × Int) (b : CodBlk) (v : Vec) : Vec :=
  let cl := fun (lo hi x : Int) => max (16 * lo) (min (16 * hi) x)
  (cl (r.1 + 3 - b.x) (r.2.1 - 4 - b.w - b.x) v.1, cl (r.2.2.1 + 3 - b.y) (r.2.2.2 - 4 - b.h - b.y) v.2)

/-! ### Fine search (R111, R112) -/

/-- The small diamond about a vector in raster order, by `q` sixteenths. -/
def diamond (q : Int) (v : Vec) : List Vec := [v, (v.1, v.2 - q), (v.1 - q, v.2), (v.1 + q, v.2), (v.1, v.2 + q)]

/-- The best vector among candidates that are allowed; `v` itself when none is. -/
def pickVec (cost : Vec → Nat) (ok : Vec → Bool) (v : Vec) (l : List Vec) : Vec :=
  match bestOf cost (l.filter ok) with | some x => x.1 | none => v

/-- At most `n` steps of the small diamond, in full pels, until the centre is best. -/
def diamondSearch (cost : Vec → Nat) (ok : Vec → Bool) : Nat → Vec → Vec
  | 0, v => v
  | n + 1, v =>
    let u := pickVec cost ok v (diamond 16 v)
    if u = v then v else diamondSearch cost ok n u

/-- A square of ±n full pels about a vector. -/
def squareVecs (n : Nat) (v : Vec) : List Vec := v :: (rasterVecs n n).map (fun d => (v.1 + 16 * d.1, v.2 + 16 * d.2))

/-- The predictors of a preset in the order of R111: mill vector, left, above, co-located; above-right and zero; the second-best mill
vector and the global motion offset. -/
def searchPreds (effort : Nat) (mill left above colo aboveRight mill2 gmv : Vec) : List Vec :=
  [mill, left, above, colo] ++ (if effort ≥ 1 then [aboveRight, (0, 0)] else []) ++ (if effort ≥ 2 then [mill2, gmv] else [])

/-- The integer pattern of a preset: steps of the small diamond, and the square after it. -/
def searchSteps (effort : Nat) : Nat := match effort with | 0 => 8 | 1 => 16 | _ => 32
def searchSquare (effort : Nat) : Nat := match effort with | 0 => 0 | 1 => 2 | _ => 4

/-- The sub-pixel steps of a preset in sixteenths: half, quarter, eighth in AV1 at Thorough, sixteenth for the control points of VVC affine
at Thorough. -/
def subSteps (effort codec : Nat) (affine : Bool) : List Int :=
  [8, 4] ++ (if effort ≥ 2 ∧ codec = 3 then [2] else []) ++ (if effort ≥ 2 ∧ codec = 2 ∧ affine then [2, 1] else [])

/-- The eight neighbours of a vector at a sub-pixel step, in raster order, after it. -/
def subVecs (q : Int) (v : Vec) : List Vec := v :: (rasterVecs 1 1).map (fun d => (v.1 + q * d.1, v.2 + q * d.2))

/-- The sub-pixel refinement. -/
def subSearch (cost : Vec → Nat) (ok : Vec → Bool) (steps : List Int) (v : Vec) : Vec :=
  steps.foldl (fun v q => pickVec cost ok v (subVecs q v)) v

/-- The full search of a block (R111). -/
def fineSearch (cost : Vec → Nat) (ok : Vec → Bool) (effort codec : Nat) (affine : Bool) (preds : List Vec) : Vec :=
  let full := preds.map (fun v => (16 * (pel v).1, 16 * (pel v).2))
  let v := pickVec cost ok (0, 0) full
  let v := diamondSearch cost ok (searchSteps effort) v
  let v := if searchSquare effort = 0 then v else pickVec cost ok v (squareVecs (searchSquare effort) v)
  subSearch cost ok (subSteps effort codec affine) v

/-- A vector scaled by the ratio of the picture sizes on each axis and of the temporal distances (R80), rounded down. -/
def scaleVec (w w0 h h0 d d0 : Nat) (v : Vec) : Vec :=
  (v.1 * (w * d : Nat) / (max 1 (w0 * d0) : Nat), v.2 * (h * d : Nat) / (max 1 (h0 * d0) : Nat))

/-- The search of a reusing rung (R112): the scaled vector, clamped to the window, a small diamond of at most 16 steps within ±16 full pels
of it, and the sub-pixel steps of the preset. -/
def reuseSearch (cost : Vec → Nat) (r : Int × Int × Int × Int) (b : CodBlk) (effort codec : Nat) (affine : Bool) (scaled : Vec) : Vec :=
  let c := if inWindow r b scaled then scaled else clampWindow r b scaled
  let near := fun (v : Vec) => inWindow r b v && decide ((v.1 - c.1).natAbs ≤ 256) && decide ((v.2 - c.2).natAbs ≤ 256)
  subSearch cost near (subSteps effort codec affine) (diamondSearch cost near 16 c)

end Sys2Proof.Machine
end

