-- ==== Sys2Proof/Machine/DecCores.lean ====
section
/-! DEFINITION. Decode cores and contexts (chapter 7). -/

namespace Sys2Proof.Machine

/-! ### Placement and load (R156, R157) -/

/-- The side of a context: that of its flow's session. -/
def State.ctxSide (s : State) (c : Nat) : Nat := s.rf 2 (s.ff (s.rf 1 c 4 4) 8 2) 1 1

/-- Whether a core is fenced. -/
def State.coreFenced (s : State) (d : Nat) : Bool := s.bit (DEC_CORE_STAT_FENCED d)

/-- The contexts placed on a core: not idle and not suspended. -/
def State.coreCtx (s : State) (d : Nat) : List Nat :=
  (s.liveRecs 1).filter (fun c => s.rf 1 c 2 1 == d && s.recState 1 c != 5)

/-- Loads, free grist and counts of the decode pool, from the records. -/
def State.decRefresh (s : State) : State :=
  let s := (List.range 24).foldl (fun s d =>
    let cs := s.coreCtx d
    (s.put (DEC_CORE_LOAD_LOAD d) ((cs.map (fun c => max (s.rf 1 c 0x2C 4) (s.dx c).held)).sum)).put (DEC_CORE_LOAD_CONTEXTS d) cs.length) s
  let free := ((List.range 24).filter (fun d => !s.coreFenced d)).foldl (fun x d => x + (24000 - s.fld (DEC_CORE_LOAD_LOAD d))) 0
  let s := (s.put DEC_POOL_STAT_FREE_GRIST (free / 16)).put DEC_POOL_STAT_FENCED ((List.range 24).countP s.coreFenced)
  s.brgCounts

/-- The core that R157 gives a context of a cost: the side's cores first, lowest number first. -/
def State.decPlace (s : State) (c cost : Nat) : Option Nat :=
  let side := s.ctxSide c
  let order := if side = 0 then List.range 24 else (List.range 12).map (· + 12) ++ List.range 12
  order.find? (fun d => !s.coreFenced d && decide (s.fld (DEC_CORE_LOAD_LOAD d) + cost ≤ 24000))

/-- The target spatial layer of a context. -/
def State.ctxTarget (s : State) (c : Nat) : Nat := s.rf 1 c 13 1 % 4

/-- Place a context: CORE and COST are the device's (R178). A context that finds no room is SUSPENDED with 0x1408. -/
def State.placeCtx (s : State) (c : Nat) : State :=
  let cost := s.decCost c (s.ctxTarget c)
  let s := s.rp 1 c 0x2C 4 cost
  match s.decPlace c cost with
  | some d => (s.rp 1 c 2 1 d).decRefresh
  | none => (((s.rp 1 c 2 1 0xFF).rp 1 c 0 1 5).emit 0x1408 c (evArg [(0, 1, 2)])).decRefresh

/-! ### Keyframe request conditions (R173) -/

/-- Raise one request of a context; under policy 3 every repeat is a FIR. -/
def State.ctxRequest (s : State) (c : Nat) : State :=
  let pol := s.rf 1 c 3 1 % 4
  let x := s.dx c
  if pol = 0 then s
  else
    let s := (s.setDx c { x with reqs := x.reqs + 1 }).rp 1 c 0x6C 4 s.nowUs
    s.kfRequest (s.rf 1 c 4 4) (pol == 2 || (pol == 3 && x.reqs > 0))

/-- A condition starts: a request at once, or it joins the one that is active. -/
def State.startCond (s : State) (c : Nat) : State :=
  let x := s.dx c
  if x.cond then s else (s.setDx c { x with cond := true, condRaw := s.raw, reqs := 0 }).ctxRequest c

/-- Enter a state; entering WAIT_RAP or TAINTED starts a condition. -/
def State.ctxState (s : State) (c st : Nat) : State :=
  if s.recState 1 c = st then s
  else
    let s := s.rp 1 c 0 1 st
    let s := if st = 1 ∨ st = 4 then s.startCond c else s
    s.brgCounts

/-! ### The DMA window (R169) -/

/-- Whether a range lies in a context's window, and a bitstream read in its assembly buffer. -/
def State.inWindow (s : State) (c a n : Nat) : Bool := decide (s.rf 1 c 0x10 8 ≤ a) && decide (a + n ≤ s.rf 1 c 0x18 8)
def State.inStream (s : State) (c a n : Nat) : Bool := decide (s.rf 1 c 0x20 8 ≤ a) && decide (a + n ≤ s.rf 1 c 0x20 8 + s.rf 1 c 0x28 4)

/-- A core's write for a context: what lies outside the window, or in no populated part of DRAM (R480), is discarded. -/
def State.decWrite (s : State) (c a : Nat) (bs : List Byte) : State :=
  ((bs.mapIdx (fun i b => (a + i, b))).filter (fun x => s.inWindow c x.1 1 && (s.xlate x.1).isSome)).foldl (fun (s : State) x => s.dput x.1 x.2) s

/-- The first access outside: read or write, and its address. -/
def State.decViolation (s : State) (c : Nat) (r : DecRes) : Option (Bool × Nat) :=
  match r.writes.find? (fun x => !s.inWindow c x.1 x.2.length) with
  | some x => some (false, x.1)
  | none => (r.reads.find? (fun x => !s.inStream c x.1 x.2)).map (fun x => (true, x.1))

/-! ### Output (R161, R162) -/

/-- The descriptor of an output picture (R88, R161), whose planes lie in the window one after another from the base that the core chose. -/
def State.decDesc (s : State) (desc base w h chroma depth flags media : Nat) : PicDesc :=
  int18Desc (base / 4096 * 4096) w h (if chroma = 3 then 0 else chroma) depth flags media (s.fld TB_EPOCH_EPOCH)
    (Config.decPicCount desc % 2 ^ 32)

/-- The member that hosts a mixed leg sends each decoded picture to HOME over its direct bundle on VC 5 (R415, R408). -/
def State.vc5Send (s : State) (c : Nat) : State :=
  let home := s.rf 2 (s.ff (s.rf 1 c 4 4) 8 2) 2 2 % 4096
  let own := s.fld YZ_CFG_ADDR
  if home ≠ own ∧ home / 16 = own / 16 ∧ s.bit (YZ_ROUTE_VALID (home % 16)) then
    s.send (.message (s.fld (YZ_ROUTE_PORT (home % 16))) 5 (s.rf 1 c 8 2 * s.rf 1 c 10 2) home)
  else s

/-- A picture is output: LATEST, OUT_SID, CNT_PICS; a concealed one is counted. -/
def State.ctxOutput (s : State) (c desc sid cause : Nat) : State :=
  let s := ((s.rp 1 c 0x30 8 desc).rp 1 c 14 1 sid).rp 1 c 0x58 4 (s.rf 1 c 0x58 4 + 1)
  let s := s.vc5Send c
  if cause = 0 then s
  else
    let s := (s.rp 1 c 15 1 cause).rp 1 c 0x5C 4 (s.rf 1 c 0x5C 4 + 1)
    (s.cnt DEC_POOL_CNT_CONCEAL_COUNT 1).emitLim 0x1404 c 1 (evArg [(0, 1, cause)])

/-- The layer pictures of an access unit up to a layer; AVC and HEVC streams have layer 0 only (R158, R159). -/
def State.auLayers (s : State) (c : Nat) (au : AuInfo) (top : Nat) : List LayerPic :=
  au.layers.filter (fun l => decide (l.sid ≤ top) && (decide (2 ≤ s.rf 1 c 1 1) || l.sid == 0))

/-- The shared mid-grey stand-in picture of a size (R172, R167), on the side of a context's core. -/
def State.greyDesc (s : State) (c w h : Nat) : Nat × PicDesc :=
  let a := s.sideAddr (if s.rf 1 c 2 1 < 12 then 0 else 1) (Config.standIn w h)
  (a, int18Desc (a + 4096) w h 0 8 16 0 (s.fld TB_EPOCH_EPOCH) (Config.decPicCount a % 2 ^ 32))

/-- WAIT_RAP_STAND_IN (R172): a mid-grey picture at the layer's size, or at MAX_W by MAX_H, with the access unit's media time and cause 5. -/
def State.standIn (s : State) (c : Nat) (au : AuInfo) : State :=
  let l := (s.auLayers c au (s.ctxTarget c)).getLast?
  let w := match l with | some l => if l.width = 0 then s.rf 1 c 8 2 else l.width | none => s.rf 1 c 8 2
  let h := match l with | some l => if l.height = 0 then s.rf 1 c 10 2 else l.height | none => s.rf 1 c 10 2
  let (a, d) := s.greyDesc c w h
  let s := (s.dzero d.baseY (int18Bytes w h 0)).putDesc a { d with media := au.media }
  s.ctxOutput c a (match l with | some l => l.sid | none => 0) 5

/-! ### Queues (R159, R166, R172) -/

/-- Whether an access unit can leave WAIT_RAP: a random-access point or gradual-refresh start of layer 0 (R172). -/
def AuInfo.starts (a : AuInfo) : Bool := a.layers.any (fun l => l.sid == 0) && (a.rap || a.gradual.isSome)

/-- ACCESS_UNIT_CLOSE (R225, R159, R166): an access unit for a context; layers and temporal identities above the targets are discarded. -/
def State.auClose (s : State) (c : Nat) (au : AuInfo) : State :=
  let st := s.recState 1 c
  let x := { s.dx c with last := some au }
  let s := s.setDx c x
  let au := { au with layers := s.auLayers c au (s.ctxTarget c) }
  if st = 0 ∨ st = 5 ∨ au.layers = [] ∨ au.tid > s.rf 1 c 13 1 / 16 % 8 then s
  else if st = 1 ∧ x.queue.isEmpty ∧ x.job.isNone ∧ !au.starts then s.standIn c au
  else if x.queue.length ≥ 4 then
    (s.rp 1 c 0x68 4 (s.rf 1 c 0x68 4 + 1)).cnt DEC_POOL_CNT_QDROP_COUNT 1
  else
    let s := s.setDx c { x with queue := x.queue ++ [⟨s.brg.auNum, au⟩] }
    { s with brg := { s.brg with auNum := s.brg.auNum + 1 } }

/-- The context on a core whose oldest queued access unit was completed first (R166). -/
def State.coreNext (s : State) (d : Nat) : Option Nat :=
  (s.coreCtx d).foldl (fun best c =>
    match (s.dx c).queue, best with
    | [], _ => best
    | q :: _, none => some (q.num * 8192 + c)
    | q :: _, some b => some (min b (q.num * 8192 + c))) none |>.map (· % 8192)

/-- The context whose picture a core decodes. -/
def State.coreJob (s : State) (d : Nat) : Option Nat := (s.coreCtx d).find? (fun c => (s.dx c).job.isSome)

/-- The cycle budget of R164 for a picture. -/
def decBudget (mult w h cf3 : Nat) : Nat := max 65536 (mult * ceilDiv (w * h * cf3 * 16) 45)

/-- The chroma formats and the greatest bit depth of a supported profile (R158, R168): 4:0:0 and the formats up to a code; none for a profile
that is not supported. Which formats a profile takes is the codec standard's. -/
def profileFits (codec prof : Nat) : Option (Nat × Bool × Nat) :=
  match codec, prof with
  | 0, 0 => some (0, false, 8) | 0, 1 => some (0, false, 8) | 0, 2 => some (0, true, 8) | 0, 3 => some (0, true, 10) | 0, 4 => some (1, true, 10)
  | 1, 0 => some (0, false, 8) | 1, 1 => some (0, false, 10) | 1, 2 => some (0, false, 8) | 1, 3 => some (1, true, 10)
  | 2, 0 => some (0, true, 10) | 2, 1 => some (2, true, 10) | 2, 2 => some (0, true, 10) | 2, 3 => some (2, true, 10)
  | 3, 0 => some (0, true, 10) | 3, 1 => some (2, true, 10) | 3, 2 => some (2, true, 12)
  | _, _ => none

/-- PICTURE_REFUSED (R158, R168): 1 profile, 2 level, 3 chroma format or bit depth, 4 size of a layer, 5 tool; 0 accepted. -/
def State.auRefuse (s : State) (c : Nat) (au : AuInfo) : Nat :=
  let codec := s.rf 1 c 1 1
  match profileFits codec au.par.prof with
  | none => 1
  | some (ch, mono, d) =>
    if au.par.level > (if codec = 3 then 63 else 62) then 2
    else if au.par.depth < 8 ∨ au.par.depth > d ∨ (if au.par.chroma = 3 then !mono else decide (au.par.chroma > ch)) then 3
    else if au.layers.any (fun l => decide (l.width > s.rf 1 c 8 2) || decide (l.height > s.rf 1 c 10 2)) then 4
    else if au.par.tool then 5 else 0

/-- The highest layer that a context decodes from an access unit on (R160): a lowered target acts at once; a layer above is taken up where its
picture is a switch point, from layer 0 up where the access unit is a random-access point. -/
def effLayer (target eff : Nat) (au : AuInfo) : Nat :=
  au.layers.foldl (fun e l => if l.sid = e + 1 ∧ l.sid ≤ target ∧ l.up then l.sid else e) (if au.rap then 0 else min eff target)

/-- Start the next layer picture of an access unit: its own budget runs from its start (R164). -/
def State.layerStart (s : State) (d c : Nat) (au : AuInfo) (todo : List LayerPic) (got : List LayerOut) : State :=
  match todo with
  | [] => s
  | l :: _ =>
    let b := decBudget (s.fld DEC_POOL_CFG_BUDGET_MULT) l.width l.height (cf3 au.par.chroma)
    (s.setDx c { s.dx c with job := some ⟨au, todo, s.raw, 0, s.raw, b, got⟩ }).put (DEC_CORE_STAT_BUSY d) 1

/-- DECODE_PICTURE_START (R160, R164, R168, R171): the core takes the next access unit. `recOk` is the context record's CRC. -/
def execDecodePictureStart (d : Fin 24) (recOk : Bool) (s : State) : Host.Outcome State Fault Refusal :=
  .next (if s.coreFenced d ∨ !s.blockRuns (42 + d) ∨ (s.coreJob d).isSome then s
    else match s.coreNext d with
      | none => s
      | some c =>
        let x := s.dx c
        match x.queue with
        | [] => s
        | q :: rest =>
          if !recOk then
            (((s.setDx c { x with crcBad := true }).rp 1 c 0 1 5).emit 0x1408 c (evArg [(0, 1, 1)])).decRefresh
          else
            let s := s.setDx c { x with queue := rest }
            let au := q.au
            if s.auRefuse c au ≠ 0 then
              let s := if s.auRefuse c au = 4 ∧ au.rap then s.setDx c { s.dx c with stale := [0, 1, 2, 3] } else s
              (s.emitLim 0x1407 c 1 (evArg [(0, 1, s.auRefuse c au)])).ctxState c 1
            else if s.recState 1 c = 1 ∧ !au.starts then s.standIn c au
            else if au.rasl ∧ x.skip then s
            else
              let e := effLayer (s.ctxTarget c) x.eff au
              (s.setDx c { s.dx c with eff := e, skip := if au.rap then s.recState 1 c == 1 else x.skip }).layerStart d c au (s.auLayers c au e) [])

/-- The time for which a job of a core has paused (R164, R532): its test slots and the share of its rests, those since the last change of its
ratio by the ratio in force. -/
def State.jobPaused (s : State) (d : Nat) (j : DecJob) : Nat := j.paused + (s.raw - j.mark) * s.fld (DEC_CORE_STAT_REST d) / 8

/-- The cycles of MCLK that a job has counted (R164). -/
def State.jobCycles (s : State) (d : Nat) (j : DecJob) : Nat := (s.raw - j.raw - s.jobPaused d j) * 16 / 655360

/-- A core takes a new rest ratio (R532): the rests of its job until now are settled at the old one. -/
def State.coreRest (s : State) (d r : Nat) : State :=
  let s := match s.coreJob d with
    | some c => match (s.dx c).job with
      | some j => if s.fld (DEC_CORE_STAT_REST d) = 0 ∧ r = 0 then s
          else s.setDx c { s.dx c with job := some { j with paused := s.jobPaused d j, mark := s.raw } }
      | none => s
    | none => s
  s.put (DEC_CORE_STAT_REST d) r

/-- The leg that holds a decode context, and its priority. -/
def State.ctxPrio (s : State) (c : Nat) : Nat :=
  match (s.liveRecs 3).find? (fun l => s.legKind l == 1 && s.rf 3 l 0x10 4 == c) with
  | some l => s.legPrio l
  | none => 0

/-- Contexts in decreasing leg priority, then rising number. -/
def State.byPrio (s : State) (l : List Nat) : List Nat :=
  [7, 6, 5, 4, 3, 2, 1, 0].flatMap (fun p => l.filter (fun c => s.ctxPrio c == p))

/-- Suspended contexts are placed again when capacity returns (R176); those of shed legs wait for R533. -/
def State.resumeCtx (s : State) : State :=
  (s.byPrio ((s.liveRecs 1).filter (fun c => s.recState 1 c == 5 && !(s.dx c).crcBad && !s.ctxShed c))).foldl (fun s c =>
    match s.decPlace c (s.rf 1 c 0x2C 4) with
    | some d =>
      let s := ((s.rp 1 c 2 1 d).setDx c { s.dx c with taint := true, tainted := [0] }).ctxState c 4
      (s.emit 0x1408 c (evArg [(0, 1, 2), (1, 1, 1)])).decRefresh
    | none => s) s

/-- The picture boundary of a context: a record change that waited lands, and the core holds no more than COST (R178,
R207). Bytes 0x01, 0x03 to 0x0D and 0x10 to 0x2B are leg setup's. -/
def decH (old new : List W32) : List W32 :=
  [(1, 1), (3, 1), (4, 4), (8, 4), (12, 2), (0x10, 8), (0x18, 8), (0x20, 8), (0x28, 4)].foldl
    (fun w f => rput w f.1 f.2 (rget new f.1 f.2)) old
def State.picBoundary (s : State) (c : Nat) : State :=
  let x := s.dx c
  let s := s.setDx c { x with next := none, held := 0 }
  match x.next with
  | some w =>
    let s := s.setRecTab 1 (tput s.brg.decs c (decH (s.record 1 c) w))
    (((s.rp 1 c 2 1 0xFF).decRefresh).placeCtx c).resumeCtx
  | none => if x.held = 0 then s else s.decRefresh.resumeCtx

/-- The source of what replaces missing data of a layer (R167): the first reference of an inter picture where it was received, else the last
correctly decoded picture of the layer, unless a new sequence has come since, else mid-grey (none). -/
def State.concealFrom (s : State) (c sid : Nat) (r : DecRes) : Option PicDesc :=
  let good := let g := s.rf 1 c (0x38 + 8 * (sid % 4)) 8; if g = 0 ∨ (s.dx c).stale.contains (sid % 4) then none else s.getDesc g
  if r.intra then good
  else match r.refs with
    | some a :: _ => match s.getDesc a with | some d => some d | none => good
    | _ => good

/-- Copy an area of a picture from its co-located samples in a source, with mid-grey where there is none (R165, R167). -/
def State.concealArea (s : State) (c : Nat) (d : PicDesc) (src : Option PicDesc) (area : Nat × Nat × Nat × Nat) : State :=
  let (x0, y0, w, h) := area
  (List.range 3).foldl (fun (s : State) p =>
    let sx := if p = 0 ∨ d.chroma = 2 then 1 else 2
    let sy := if p = 0 ∨ d.chroma ≠ 0 then 1 else 2
    let xa := x0 / sx
    let n := min (d.planeW p) ((x0 + w + sx - 1) / sx) - xa
    (List.range (min (d.planeH p) ((y0 + h + sy - 1) / sy) - y0 / sy)).foldl (fun (s : State) i =>
      let y := y0 / sy + i
      let vs := (List.range n).map (fun j => match src with
        | none => 0
        | some q => if q.planeW p = d.planeW p ∧ q.planeH p = d.planeH p then s.descSample q p (xa + j) y
            else Config.standScale (q.baseY, p, q.width) (d.planeW p, d.planeH p) (xa + j) y)
      let line := d.base p + y * d.stride p
      if s.inWindow c line (d.stride p) then s.putSamples line xa vs else s) s) s

/-- Whether a reference is missing: never received, or a descriptor whose CRC does not match, which is refused (R88, R167); and whether it is
concealed (R163). -/
def State.refMissing (s : State) (a : Option Nat) : Bool := match a with | some a => (s.getDesc a).isNone | none => true
def State.refConc (s : State) (a : Option Nat) : Bool :=
  match a with | some a => (s.getDesc a).any (fun d => nbit d.flags 4) | none => false

/-- The cause of R162 of a layer picture; the one found latest in the decode counts. While a context recovers, its pictures
have the cause 9 of their own, and the recovery picture is clean (R163, R172); `inRec` says that the context recovers, and
`recovering` that the recovery picture has not come. -/
def State.decCause (s : State) (c : Nat) (r : DecRes) (dma lost taint inRec recovering cut : Bool) : Nat :=
  let hashOn := nbit (s.rf 1 c 3 1) 2 && s.bit DEC_POOL_CFG_HASH_EN && decide (1 ≤ s.rf 1 c 1 1 ∧ s.rf 1 c 1 1 ≤ 2)
  if dma then 6
  else if cut then 3
  else if hashOn && r.hashOk == some false then 7
  else if r.syntaxE then 6
  else if lost then 2
  else if r.refs.any s.refMissing then 1
  else if taint then 8
  else if r.refs.any s.refConc && !inRec then 4
  else if recovering then 9
  else 0

/-- The state of a context after a layer picture (R163, R169, R172, R174): `rap` says that it is a random-access point of its layer. -/
def State.afterPicture (s : State) (c sid : Nat) (rap dma : Bool) (gradual : Option Nat) (cause : Nat) : State :=
  let st := s.recState 1 c
  let x := s.dx c
  let worse := if x.tainted.contains sid then x.tainted else sid :: x.tainted
  let left := x.tainted.filter (· ≠ sid)
  if dma then s.ctxState c 1
  else if cause = 7 then (s.setDx c { x with tainted := worse }).ctxState c 4
  else if cause = 0 ∧ rap ∧ sid = 0 then
    (s.setDx c { x with cond := false, recover := 0, tainted := if st = 1 then [] else left }).ctxState c
      (if st = 4 ∧ left ≠ [] then 4 else 3)
  else if st = 1 then
    match gradual with
    | some n => if sid = 0 ∧ (cause = 0 ∨ cause = 9) then (s.setDx c { x with recover := n }).ctxState c (if n = 0 then 3 else 2) else s
    | none => s
  else if st = 2 ∧ sid = 0 then
    let s := s.setDx c { x with recover := x.recover - 1 }
    if x.recover ≤ 1 ∧ (cause = 0 ∨ cause = 9) then s.ctxState c 3 else s
  else if cause = 0 ∧ rap then
    let s := s.setDx c { x with tainted := left }
    if st = 4 ∧ left = [] then s.ctxState c 3 else s
  else if cause = 4 ∧ (st = 3 ∨ st = 4) then (s.setDx c { x with tainted := worse }).ctxState c 4
  else s

/-- The picture that an access unit outputs (R160): that of the highest layer whose decoding is clean, else of the highest layer. -/
def outLayer (got : List LayerOut) : Option LayerOut :=
  let top := fun (l : List LayerOut) => l.foldl (fun (b : Option LayerOut) x => match b with
    | some y => if y.sid ≤ x.sid then some x else b | none => some x) none
  match top (got.filter (fun x => x.cause == 0)) with
  | some x => some x
  | none => top got

/-- A layer picture ends: what was not decoded is concealed, the descriptor is written, a clean picture becomes GOOD of its layer (R161 to
R167), and the next layer of the access unit follows, or its output. -/
def State.layerEnd (s : State) (d c : Nat) (j : DecJob) (l : LayerPic) (r : DecRes) (cut : Bool) : State :=
  let x := s.dx c
  let st := s.recState 1 c
  let viol := s.decViolation c r
  let rapL := if l.sid = 0 then j.au.rap else l.up
  let inRec := st == 2 || (st == 1 && !j.au.rap)
  let recovering := (st == 2 && decide (x.recover > 1)) || (st == 1 && !j.au.rap && j.au.gradual != some 0)
  let cause := s.decCause c r viol.isSome (r.lost || l.lost) x.taint inRec recovering cut
  let fl := b2n r.intra + (if cause = 0 then 0 else 16) + 32 * b2n rapL
  let pd := s.decDesc r.desc r.base l.width l.height j.au.par.chroma j.au.par.depth fl j.au.media
  let src := s.concealFrom c l.sid r
  let s := (r.writes.takeWhile (fun w => s.inWindow c w.1 w.2.length)).foldl (fun (s : State) w => s.decWrite c w.1 w.2) s
  let s := r.areas.foldl (fun (s : State) a => s.concealArea c pd src a) s
  let s := s.decWrite c r.desc pd.bytes
  let s := match viol with
    | some (rd, a) => (s.cnt DEC_POOL_CNT_DMA_COUNT 1).emit 0x1405 c (evArg [(0, 1, b2n rd), (4, 8, a)])
    | none => s
  let s := if cause = 7 then
      ((s.rp 1 c 0x64 4 (s.rf 1 c 0x64 4 + 1)).cnt DEC_POOL_CNT_HASH_COUNT 1).emitLim 0x1406 c 1 0
    else s
  let s := if cut then (s.rp 1 c 0x60 4 (s.rf 1 c 0x60 4 + 1)).cnt (DEC_CORE_CNT_CUT_COUNT d) 1 else s
  let s := if cause = 0 then
      (s.setDx c { s.dx c with stale := (s.dx c).stale.filter (· ≠ l.sid % 4) }).rp 1 c (0x38 + 8 * (l.sid % 4)) 8 r.desc else s
  let s := if cause = 1 ∨ cause = 2 ∨ cause = 3 ∨ cause = 6 ∨ cause = 7 then s.startCond c else s
  let s := s.afterPicture c l.sid rapL viol.isSome j.au.gradual cause
  let got := j.got ++ [⟨l.sid, r.desc, cause⟩]
  let rest := j.todo.tail
  if rest ≠ [] ∧ viol.isNone then s.layerStart d c j.au rest got
  else
    let s := (s.setDx c { s.dx c with job := none, taint := false }).put (DEC_CORE_STAT_BUSY d) 0
    let s := match outLayer got with | some o => s.ctxOutput c o.desc o.sid o.cause | none => s
    s.picBoundary c

/-- DECODE_BUDGET_CUT (R165): at its budget the core stops the picture; what is left is concealed with cause 3. -/
def execDecodeBudgetCut (d : Fin 24) (r : DecRes) (s : State) : Host.Outcome State Fault Refusal :=
  .next (match s.coreJob d with
    | none => s
    | some c =>
      match (s.dx c).job with
      | none => s
      | some j =>
        match j.todo with
        | [] => s
        | l :: _ => if s.jobCycles d j ≥ j.budget then s.layerEnd d c j l r true else s)

/-- DECODE_PICTURE_DONE (R160 to R163, R169, R172, R174). -/
def execDecodePictureDone (d : Fin 24) (r : DecRes) (s : State) : Host.Outcome State Fault Refusal :=
  .next (match s.coreJob d with
    | none => s
    | some c =>
      match (s.dx c).job with
      | none => s
      | some j =>
        match j.todo with
        | [] => s
        | l :: _ => s.layerEnd d c j l r false)

/-- KEYFRAME_REQ_REPEAT (R173): every REQ_HOLD × 10 ms from the first request while the condition lasts. -/
def execKeyframeReqRepeat (c : Fin 8192) (s : State) : Host.Outcome State Fault Refusal :=
  let x := s.dx c
  .next (if x.cond ∧ x.reqs > 0 ∧ s.raw - x.condRaw ≥ x.reqs * s.fld DEC_POOL_CFG_REQ_HOLD * 10 * msU then s.ctxRequest c else s)

/-! ### Test slots and fences (R175 to R177) -/

/-- A context of a fenced core is placed again: its picture in flight is decoded again from its start, and unless it waits
for a random-access point it is TAINTED with cause 8 to come (R176). -/
def State.moveCtx (s : State) (c : Nat) : State :=
  let x := s.dx c
  let q := match x.job with | some j => ⟨0, j.au⟩ :: x.queue | none => x.queue
  let s := s.setDx c { x with queue := q, job := none }
  let s := s.rp 1 c 2 1 0xFF
  let s := s.placeCtx c
  if s.recState 1 c = 5 ∨ s.recState 1 c = 1 then s
  else (s.setDx c { s.dx c with taint := true, tainted := [0] }).ctxState c 4

/-- DEC_CORE_FENCE (R175, R176). -/
def State.fenceCore (s : State) (d cause : Nat) : State :=
  if s.coreFenced d then s
  else
    let cs := s.byPrio (s.coreCtx d)
    let s := ((s.put (DEC_CORE_STAT_FENCED d) 1).put (DEC_CORE_STAT_CAUSE d) cause).put (DEC_CORE_STAT_BUSY d) 0
    let s := cs.foldl (fun s c => s.rp 1 c 2 1 0xFF) s
    let s := cs.foldl (fun s c => s.moveCtx c) s.decRefresh
    let sus := cs.countP (fun c => s.recState 1 c == 5)
    let arg := evArg [(0, 1, cause), (4, 4, cs.length - sus), (8, 4, sus)]
    let s := s.emit 0x1401 d arg
    if cause = 4 then s else s.logFault (if cause = 1 then 6 else if cause = 2 then 1 else 3) 1 0x1401 d arg

/-- DEC_CORE_TEST_SLOT (R175): 0.4 ms of golden vector, which does not count against the picture's budget. -/
def execDecCoreTestSlot (d : Fin 24) (pass : Bool) (s : State) : Host.Outcome State Fault Refusal :=
  .next (if s.coreFenced d then s
    else if pass then
      match s.coreJob d with
      | some c => match (s.dx c).job with
        | some j => s.setDx c { s.dx c with job := some { j with paused := j.paused + 400 * usU, mark := j.mark + 400 * usU } }
        | none => s
      | none => s
    else s.fenceCore d 1)

/-- DEC_CORE_FENCE_CMD (R175). -/
def execDecCoreFenceCmd (p : Port) (d : Fin 24) (v : W32) (s : State) : Host.Outcome State Fault Refusal :=
  .next (s.portWrite p (DEC_CORE_CTRL d) v (fun s => if fieldGet v 0 1 = 1 then s.fenceCore d 4 else s))

/-- The effect of UNFENCE on a core: its golden-vector test runs. -/
def State.coreUnfence (s : State) (d : Nat) : State :=
  if s.coreFenced d then (s.put (DEC_CORE_CTRL_UNFENCE d) 1).put (DEC_CORE_STAT_TEST d) 1 else s

/-- DEC_CORE_UNFENCE_CMD (R177). -/
def execDecCoreUnfenceCmd (p : Port) (d : Fin 24) (v : W32) (s : State) : Host.Outcome State Fault Refusal :=
  .next (s.portWrite p (DEC_CORE_CTRL d) v (fun s => if fieldGet v 1 1 = 1 then s.coreUnfence d else s))

/-- DEC_CORE_UNFENCE_DONE (R177): a pass clears FENCED with 0x1402 and suspended contexts resume; a failure sets CAUSE 1. -/
def execDecCoreUnfenceDone (d : Fin 24) (pass : Bool) (s : State) : Host.Outcome State Fault Refusal :=
  .next (if s.bit (DEC_CORE_CTRL_UNFENCE d) then
      let s := (s.put (DEC_CORE_CTRL_UNFENCE d) 0).put (DEC_CORE_STAT_TEST d) 0
      if pass then ((s.put (DEC_CORE_STAT_FENCED d) 0).emit 0x1402 d 0).decRefresh.resumeCtx
      else s.put (DEC_CORE_STAT_CAUSE d) 1
    else s)

end Sys2Proof.Machine
end

