-- ==== Sys2Proof/Machine/Pixel.lean ====
section
/-! DEFINITION. The composer's pixel path (R184 to R187): crop, scale, colour conversion, border and blend of the layers of a composition. -/

namespace Sys2Proof.Machine

/-! ### Blend and colours (R86, R186) -/

/-- The blend of one sample (R186): `plane` is the 8-bit sample of an alpha plane, if the layer has one. -/
def blend (alpha : Nat) (plane : Option Nat) (src dst : Int) : Int :=
  let b : Nat := alpha + alpha / 128
  let a : Nat := match plane with | some p => (b * p + 127) / 255 | none => b
  (Int.ofNat a * src + Int.ofNat (256 - a) * dst + 128) / 256

/-- A 10-bit colour code on the internal scale of R86. -/
def colour10 (x : Nat) : Int := ((x : Int) - 512) * 64

/-- The component of a packed colour for plane 0 Y, 1 Cb, 2 Cr (R190). -/
def colourOf (c plane : Nat) : Int := colour10 (c / 2 ^ (match plane with | 0 => 20 | 1 => 10 | _ => 0) % 1024)

/-! ### Crop and scale (R184) -/

/-- The samples [first, end) that a crop keeps of a length; a size of 0 keeps the whole. -/
def cropRange (len at' size : Nat) (whole : Bool) : Nat × Nat :=
  if whole then (0, len)
  else
    let a := min (at' * len / 4096) (len - 1)
    (a, max (a + 1) (min len ((at' + size) * len / 4096)))

/-- Tap t of a phase of a filter set: the tables of CMP_FILT_DATA for the sets 4 and 5 (R197). -/
def tapOf (taps : List W32) (set phase t : Nat) : Int :=
  if set = 4 ∨ set = 5 then toSigned 10 (fieldGet (taps.getD (512 * (set - 4) + 8 * phase + t) 0) 0 10)
  else Config.filterTap set phase t

/-- One sample of the 8-tap polyphase filter along an axis, rounded half up: `src` reads the source along it, `r` is the range that the crop
keeps, `n` the output length and i the output sample. `site` names the axis and the siting of the plane: 0 horizontal, 1 vertical, +2 for
chroma that is subsampled along the axis. Which samples the taps take and the phase are free (assumption log row 116). -/
def polyphase (taps : List W32) (set site : Nat) (src : Nat → Int) (r : Nat × Nat) (n i : Nat) : Int :=
  let len := r.2 - r.1
  let ph := Config.scalePhase site (len, n) i % 64
  ((List.range 8).foldl (fun (a : Int) t =>
    a + tapOf taps set ph t * src (r.1 + Config.scaleTap site (len, n) i t % max 1 len)) 128) / 256

/-- A sample of a layer's scaled source: vertical, then horizontal. `src` reads the source's plane; `rx` and `ry` are what the crop keeps. -/
def scaled (taps : List W32) (set sx sy : Nat) (src : Nat → Nat → Int) (rx ry : Nat × Nat) (w h x y : Nat) : Int :=
  polyphase taps set sx (fun i => polyphase taps set sy (fun j => src i j) ry h y) rx w x

/-! ### Colour conversion (R185) -/

/-- A 3×3 matrix on linear light, with coefficients in 2⁻¹⁴; where the target is BT.709, values outside its gamut are clipped. -/
def gamut (a b : Nat) (v : Int × Int × Int) : Int × Int × Int :=
  let row := fun i => (Config.gamutTap a b i 0 * v.1 + Config.gamutTap a b i 1 * v.2.1 + Config.gamutTap a b i 2 * v.2.2) / 16384
  let clip := fun (x : Int) => if b = 0 then max 0 (min x 65536) else x
  (clip (row 0), clip (row 1), clip (row 2))

/-- Linear light of SDR in 2⁻¹⁶ of reference white, placed at 203 cd/m². -/
def placeSdr (x : Int) : Int := 203 * x

/-- The fixed tone curve: 203 cd/m² is reference white. -/
def toneMap (x : Int) : Int := if x = 203 * 65536 then 65536 else Config.toneCurve x

/-- The samples of a colour on another (R185): 0 BT.709, 1 BT.2020, 2 PQ, 3 HLG; a conversion not listed passes them unchanged. -/
def convertColour (a b : Nat) (v : Int × Int × Int) : Int × Int × Int :=
  let each := fun (f : Int → Int) (x : Int × Int × Int) => (f x.1, f x.2.1, f x.2.2)
  if a = b ∨ a > 3 ∨ b > 3 then v
  else if a < 2 ∧ b < 2 then Config.fromLinear b (gamut a b (Config.toLinear a v))
  else if 2 ≤ a ∧ 2 ≤ b then Config.transcode a b v
  else if a < 2 then Config.fromLinear b (each placeSdr (gamut a 1 (Config.toLinear a v)))
  else Config.fromLinear b (gamut 1 b (each toneMap (Config.toLinear a v)))

/-! ### Layers -/

/-- Subsampling of a plane: horizontal and vertical. -/
def subX (chroma plane : Nat) : Nat := if plane = 0 ∨ chroma = 2 then 1 else 2
def subY (chroma plane : Nat) : Nat := if plane = 0 ∨ chroma ≠ 0 then 1 else 2

/-- A layer's rectangle in a plane: first sample and line, width and height. -/
def Layer.rect (l : Layer) (chroma plane : Nat) : Nat × Nat × Nat × Nat :=
  let sx := subX chroma plane
  let sy := subY chroma plane
  (ceilDiv l.dx sx, ceilDiv l.dy sy, ceilDiv (l.dx + l.dw) sx - ceilDiv l.dx sx, ceilDiv (l.dy + l.dh) sy - ceilDiv l.dy sy)

/-- A sample of a layer at (x, y) of its rectangle before conversion: cropped, mirrored and scaled. -/
def State.layerScaled (s : State) (c : Comp) (l : Layer) (d : PicDesc) (plane x y : Nat) : Int :=
  let ch := c.lay.chroma
  let (_, _, w, h) := l.rect ch plane
  let whole := l.cropW == 0
  let rx := cropRange (d.planeW plane) l.cropX l.cropW whole
  let ry := cropRange (d.planeH plane) l.cropY l.cropH whole
  let x := if nbit l.flags 0 then w - 1 - x else x
  scaled c.taps l.filter (2 * b2n (subX d.chroma plane == 2)) (1 + 2 * b2n (subY d.chroma plane == 2))
    (fun i j => s.descSample d plane i j) rx ry w h x y

/-- A layer's source at (x, y) of its rectangle in a plane (stages 1 to 4): its colour, its picture, or mid-grey where it has none (R187). -/
def State.layerSource (s : State) (c : Comp) (i : Nat) (l : Layer) (plane x y : Nat) : Int :=
  let ch := c.lay.chroma
  let conv := fun (v : Int × Int × Int) =>
    let o := convertColour l.colour c.lay.colour v
    match plane with | 0 => o.1 | 1 => o.2.1 | _ => o.2.2
  if l.kind = 3 then conv (colourOf l.src 0, colourOf l.src 1, colourOf l.src 2)
  else match (c.srcs.getD i none), c.bad.contains i with
    | some d, false =>
      if l.colour = c.lay.colour then s.layerScaled c l d plane x y
      else
        let px := fun p => x * subX ch plane / subX ch p
        let py := fun p => y * subY ch plane / subY ch p
        conv (s.layerScaled c l d 0 (px 0) (py 0), s.layerScaled c l d 1 (px 1) (py 1), s.layerScaled c l d 2 (px 2) (py 2))
    | _, _ => 0

/-- The 8-bit sample of a STILL's alpha plane at (x, y) of the rectangle, cropped and scaled as its picture (assumption log row 117). -/
def State.layerAlpha (s : State) (c : Comp) (i : Nat) (l : Layer) (plane x y : Nat) : Option Nat :=
  match l.kind == 2 && nbit l.flags 1, c.srcs.getD i none with
  | true, some d =>
    let (_, _, w, h) := l.rect c.lay.chroma 0
    let x := x * subX c.lay.chroma plane
    let y := y * subY c.lay.chroma plane
    let x := if nbit l.flags 0 then w - 1 - x else x
    let v := scaled c.taps l.filter 0 1 (fun a b => ((s.dbyte (l.alphaB + b * (ceilDiv d.width 64 * 64) + a)).toNat : Int))
      (cropRange d.width l.cropX l.cropW (l.cropW == 0)) (cropRange d.height l.cropY l.cropH (l.cropW == 0)) w h x y
    some (max 0 (min v 255)).toNat
  | _, _ => none

/-- Whether a sample of a plane lies in a layer's border (stage 5). -/
def Layer.inBorder (l : Layer) (chroma plane x y : Nat) : Bool :=
  let lx := x * subX chroma plane
  let ly := y * subY chroma plane
  decide (lx < l.bord) || decide (ly < l.bord) || decide (l.dw ≤ lx + l.bord) || decide (l.dh ≤ ly + l.bord)

/-- An output sample: the layers in rising index over the background (stage 6). -/
def State.outSample (s : State) (c : Comp) (plane x y : Nat) : Int :=
  let bg := match c.lay.bg with | some k => colourOf k plane | none => 0
  (c.lay.layers.mapIdx (fun i l => (i, l))).foldl (fun (v : Int) (p : Nat × Layer) =>
    let l := p.2
    let (x0, y0, w, h) := l.rect c.lay.chroma plane
    if l.kind = 0 ∨ x < x0 ∨ x0 + w ≤ x ∨ y < y0 ∨ y0 + h ≤ y then v
    else
      let b := l.inBorder c.lay.chroma plane (x - x0) (y - y0)
      let src := if b then colourOf l.bordC plane else s.layerSource c p.1 l plane (x - x0) (y - y0)
      blend l.alpha (if b then none else s.layerAlpha c p.1 l plane (x - x0) (y - y0)) src v) bg

/-- A line of a plane of the output, and the sum of the samples of an output line: its luma, and the chroma lines that lie at it (R191). -/
def State.outLine (s : State) (c : Comp) (plane y : Nat) : List Int := (List.range (c.out.planeW plane)).map (fun x => s.outSample c plane x y)
def State.lineSum (s : State) (c : Comp) (y : Nat) : Int :=
  ((List.range 3).map (fun p => if y % subY c.lay.chroma p = 0 then (s.outLine c p (y / subY c.lay.chroma p)).sum else 0)).sum

/-- The samples of an output line. -/
def Comp.lineSize (c : Comp) (y : Nat) : Nat :=
  ((List.range 3).map (fun p => if y % subY c.lay.chroma p = 0 then c.out.planeW p else 0)).sum

/-- Write the lines of a strip of 16 into the output buffer; the sources are read from `s`. -/
def State.stripWrite (s t : State) (c : Comp) : State :=
  (List.range 16).foldl (fun (t : State) i =>
    let y := 16 * c.strip + i
    if y ≥ c.lay.height then t
    else (List.range 3).foldl (fun (t : State) p =>
      let sy := subY c.lay.chroma p
      if y % sy = 0 then t.dputs (c.out.base p + y / sy * c.out.stride p) (int18LineBytes (s.outLine c p (y / sy))) else t) t) t

end Sys2Proof.Machine
end

