-- ==== Sys2Proof/Machine/Composer.lean ====
section
/-! DEFINITION. Composer pipes, layouts, the line-sum check and the VVC subpicture merge (chapter 8). -/

namespace Sys2Proof.Machine

/-! ### Compositions (R187 to R189, R193 to R195) -/

/-- The pipe that carries a composition: its own registers' pipe until a fence moved it, or the output's PIPE. -/
def State.compPipe (s : State) (key : Nat) : Nat :=
  if key < 16 then (if (s.comp key).pipe = 0 then key else (s.comp key).pipe - 1) else s.rf 4 (key - 16) 14 1

/-- The layout address, the output descriptors' address, and whether a composition merges. -/
def State.compLayout (s : State) (key : Nat) : Nat :=
  if key < 16 then s.pairVal (CMP_PIPE_LAYOUT_LO key) (CMP_PIPE_LAYOUT_HI key) else s.rf 4 (key - 16) 0x10 8
def State.compOut (s : State) (key : Nat) : Nat :=
  if key < 16 then s.pairVal (CMP_PIPE_OUT_LO key) (CMP_PIPE_OUT_HI key) else s.rf 4 (key - 16) 0x18 8
def State.compMerges (s : State) (key : Nat) : Bool := key < 16 && s.bit (CMP_PIPE_CFG_MODE key)

/-- The LATEST pointer that a layer takes, read once per composition (R24), 0 for an idle context or a layer without one (R187). -/
def State.layerLatest (s : State) (l : Layer) : Nat :=
  if l.kind = 1 ∧ s.recState 1 l.src ≠ 0 then s.rf 1 l.src 0x30 8 else 0

/-- The source picture that a layer reads, through its descriptor (R88, R187): none where it has none, or where the CRC does not match. -/
def State.layerSrc (s : State) (l : Layer) : Option PicDesc :=
  let a := if l.kind = 2 then l.still else s.layerLatest l
  if a = 0 ∨ l.kind = 3 then none else s.getDesc a

/-- Whether a layer can be seen in the output. -/
def Layer.visible (l : Layer) (y : Layout) : Bool :=
  l.alpha != 0 && l.dw != 0 && l.dh != 0 && decide (l.dx < y.width) && decide (l.dy < y.height)

/-- Whether a layer's source is concealed or absent (R187). -/
def State.layerConc (s : State) (l : Layer) : Bool :=
  l.kind != 3 && (match s.layerSrc l with | some d => nbit d.flags 4 | none => true)

/-- Whether the newest access unit of a merge input meets R194. -/
def State.mergeFits (s : State) (key : Nat) (lay : Layout) (l : Layer) (au : AuInfo) : Bool :=
  let d := (s.comp key).depth
  s.rf 1 l.src 1 1 == 2 && au.par.prof == 0 && au.par.chroma == 0 && (d == 0 || d == au.par.depth) && au.ctu == 128 && au.oneSlice && au.plain &&
  au.prevRef && au.layers.all (fun p => p.width % 128 == 0 && (p.height % 128 == 0 || l.dy + l.dh == lay.height))

/-- A merge input is substituted from now on, or conforms again: event 0x1605 (R194). -/
def State.mergeSubst (s : State) (key c : Nat) (on : Bool) : State :=
  let x := s.comp key
  if x.subst.contains c = on then s
  else (s.setComp key { x with
      subst := if on then c :: x.subst else x.subst.filter (· ≠ c)
      owed := if on then c :: x.owed else x.owed.filter (· ≠ c) }).emit 0x1605 (s.compPipe key)
    (evArg [(0, 4, c), (4, 1, b2n !on)])

/-- One merge input at its composition (R194, R195): a new picture that does not conform starts a substitution with
0x1605; a conforming IRAP ends it; an IRAP is held while the wait for random-access points lasts. -/
def State.mergeInput (s : State) (key : Nat) (lay : Layout) (l : Layer) : State :=
  let c := l.src
  match (s.dx c).last with
  | none => s
  | some au =>
    let ok := s.mergeFits key lay l au
    let s := s.setDx c { s.dx c with last := none }
    if !ok then s.mergeSubst key c true
    else
      let s := s.setComp key { s.comp key with depth := au.par.depth }
      let s := if au.rap then s.mergeSubst key c false else s
      let x := s.comp key
      if x.waitRaw.isSome ∧ au.rap then s.setComp key { x with irap := (c, au.bytes) :: x.irap.filter (·.1 ≠ c) } else s

/-- The subpicture of a merged input (R194, R195), its bytes and whether it is intra: a new conforming IRAP, a held one, a generated mid-grey
intra subpicture where a substitution starts or the wait expired without it, its access unit where a new one conforms, else a generated skip
subpicture. `s` is before the inputs, `t` after. -/
def State.mergeSub (s t : State) (key : Nat) (lay : Layout) (l : Layer) : Nat × Bool :=
  let gen := fun k => Config.genBytes k (l.dw, l.dh) s.fresh
  let x := t.comp key
  let new := (s.dx l.src).last.filter (s.mergeFits key lay l)
  match new.filter (·.rap), tfind x.irap l.src with
  | some au, _ => (au.bytes, true)
  | none, some n => (n, true)
  | none, none =>
    if x.owed.contains l.src then (gen 0, true)
    else match new with
      | some au => if x.subst.contains l.src then (gen 1, false) else (au.bytes, false)
      | none => (gen 1, false)

/-- When every input has delivered its IRAP, the wait ends (R195). -/
def State.mergeRapDone (s : State) (key : Nat) (lay : Layout) : State :=
  let x := s.comp key
  if x.waitRaw.isSome ∧ lay.layers.all (fun l => (tfind x.irap l.src).isSome) then s.setComp key { x with waitRaw := none } else s

/-- A merge writes one access unit per composition (R193, R195): its table of subpictures follows its bytes. None is made while the wait for
random-access points lasts, and that composition ends at once; it is a random-access point when every subpicture is intra. -/
def State.mergeWrite (s : State) (key : Nat) (lay : Layout) (run : Comp) : State :=
  let t := lay.layers.foldl (fun (t : State) y => t.mergeInput key lay y) s
  let subs := lay.layers.map (s.mergeSub t key lay)
  let t := t.mergeRapDone key lay
  if (t.comp key).waitRaw.isSome then (t.setComp key { t.comp key with run := none }).put (CMP_PIPE_STAT_BUSY (t.compPipe key)) 0
  else
    let lens := subs.map (·.1)
    let t := (t.dputs (run.out.baseY + lens.sum) (entryTable 0 lens)).draw
    t.setComp key { t.comp key with irap := [], owed := [], run := some { run with rap := subs.all (·.2) } }

/-- The receiver of a merge needs a random-access point (R195), at its first composition and where its layout changes: FIR to every input, and the wait begins. -/
def State.mergeRapNeed (s : State) (key : Nat) : State :=
  let x := s.comp key
  match x.good with
  | none => s
  | some lay =>
    let s := s.setComp key { x with waitRaw := match x.waitRaw with | some r => some r | none => some s.raw }
    lay.layers.foldl (fun s l => s.kfRequest (s.rf 1 l.src 4 4) true) s

/-- COMPOSITION_START and COMPOSITION_SKIP (R188, R189): at its trigger. -/
def State.compStart (s : State) (key : Nat) : State :=
  let p := s.compPipe key
  let x := s.comp key
  if s.pipeFenced p then s
  else if x.run.isSome then (s.cnt (CMP_PIPE_CNT_SKIP_COUNT p) 1).emitLim 0x1604 p 1 0
  else
    let addr := s.compLayout key
    let (s, lay) := match s.fetchLayout addr with
      | some l => (s, some l)
      | none => (s.emit 0x1603 p (evArg [(0, 8, addr)]), x.good)
    match lay with
    | none => s
    | some l =>
      let m := s.compMerges key
      let od := s.rawDesc (s.compOut key + 64 * x.buf)
      let out := { od with width := l.width, height := l.height, fmt := if m then 3 else 0, chroma := l.chroma }
      let taps := if l.layers.any (fun y => y.filter == 4 || y.filter == 5) then (List.range 1024).map (fun i => s.rd (CMP_FILT_DATA i)) else []
      let run : Comp := ⟨l, l.layers.map s.layerSrc, out, taps, 0, l.layers.any (fun y => y.visible l && s.layerConc y), [], m, false⟩
      let t := (s.setComp key { x with good := some l, run := some run }).put (CMP_PIPE_STAT_BUSY p) 1
      if !m then t else (if x.good = some l then t else t.mergeRapNeed key).mergeWrite key l run

/-- The finished output's descriptor (R88, R187): size, format, FLAGS bit 4, media time, epoch and CRC; a merged access unit is a
random-access point when every subpicture is (R195). -/
def State.compFinish (s : State) (key : Nat) (c : Comp) : State :=
  let x := s.comp key
  let fl := if c.conc then nset c.out.flags 4 else nclr c.out.flags 4
  let fl := if !c.merge then fl else if c.rap then nset fl 5 else nclr fl 5
  let s := s.putDesc (s.compOut key + 64 * x.buf) { c.out with flags := fl, media := s.now27, epoch := s.fld TB_EPOCH_EPOCH }
  let p := s.compPipe key
  let s := s.setComp key { s.comp key with run := none, buf := (x.buf + 1) % 3 }
  s.put (CMP_PIPE_STAT_BUSY p) 0

/-! ### Fences (R191, R192) -/

/-- The pipe that R183 gives a bridge composition of a cost: a side's pipes first. -/
def State.pipePlace (s : State) (side cost : Nat) : Option Nat :=
  let order := if side = 0 then List.range 16 else (List.range 8).map (· + 8) ++ List.range 8
  order.find? (fun p => !s.pipeFenced p && decide (s.fld (CMP_PIPE_LOAD_LOAD p) + cost ≤ 64000))

/-- Move the bridge compositions of a pipe (R183). One that finds no room stays and does not run. -/
def State.movePipe (s : State) (p : Nat) : State :=
  let outs := (s.liveRecs 4).filter (fun o => s.rf 4 o 14 1 == p)
  let s := outs.foldl (fun s o => match s.pipePlace (s.rf 2 (s.rf 4 o 4 4) 1 1) (s.rf 4 o 0x2C 4) with
    | some q => (s.rp 4 o 14 1 q).placeLive
    | none => s) s
  (List.range 16).foldl (fun s k =>
    if s.compPipe k = p ∧ s.bit (CMP_PIPE_CFG_EN k) then
      match s.pipePlace (p / 8) (s.ownComp k) with
      | some q => (s.setComp k { s.comp k with pipe := q + 1 }).placeLive
      | none => s
    else s) s

/-- Fence a pipe: 0x1601, live scaling and bridge compositions move, and a strip in flight is composed again (R192). -/
def State.fencePipe (s : State) (p cause line : Nat) : State :=
  if s.pipeFenced p then s
  else
    let s := ((s.put (CMP_PIPE_STAT_FENCED p) 1).put (CMP_PIPE_STAT_CAUSE p) cause).put (CMP_PIPE_STAT_BUSY p) 0
    let arg := evArg [(0, 1, cause), (4, 4, line)]
    let s := s.emit 0x1601 p arg
    let s := if cause = 3 then s else s.logFault (if cause = 1 then 7 else if cause = 2 then 1 else 6) 1 0x1601 p arg
    let s := s.placeLive.movePipe p
    let busy := (s.brg.comps.filter (fun x => x.2.run.isSome)).map (·.1)
    (busy.foldl (fun s k => s.put (CMP_PIPE_STAT_BUSY (s.compPipe k)) 1) s).put (CMP_PIPE_STAT_BUSY p) 0

/-- The first line whose expected and produced sums differ by more than one unit per sample (R191). -/
def lineMismatch : Nat → List (Int × Int × Nat) → Option Nat
  | _, [] => none
  | i, (e, d, n) :: t => if (e - d).natAbs > n then some i else lineMismatch (i + 1) t

/-- The sums of the lines of a strip: expected by the checker, which computes them from the sources, and produced by the datapath. -/
def State.stripSums (s : State) (c : Comp) (sums : List Int) : List (Int × Int × Nat) :=
  (List.range (min 16 (c.lay.height - 16 * c.strip))).map (fun i =>
    (s.lineSum c (16 * c.strip + i), sums.getD i 0, c.lineSize (16 * c.strip + i)))

/-- The next strip of a composition (R191, R192), with the sums of its lines that the datapath produced. A strip that passes is written and
signalled; the last one completes the output. `poison`: the layers whose source came back poisoned; such a layer is mid-grey and the output
is marked concealed (R452, R187). -/
def State.stripDone (s : State) (key : Nat) (sums : List Int) (poison : List Nat) : State :=
  match (s.comp key).run with
    | none => s
    | some c =>
      let c := { c with conc := c.conc || !poison.isEmpty, bad := c.bad ++ poison }
      let p := s.compPipe key
      if s.pipeFenced p ∨ !s.blockRuns (74 + p) then s
      else if c.merge then s.compFinish key c
      else match lineMismatch (16 * c.strip) (s.stripSums c sums) with
        | some line => s.fencePipe p 1 line
        | none =>
          let t := s.stripWrite s c
          if (c.strip + 1) * 16 ≥ c.lay.height then t.compFinish key c
          else t.setComp key { t.comp key with run := some { c with strip := c.strip + 1 } }

/-- MERGE_RAP_WAIT_EXPIRE (R195): inputs without an IRAP take generated mid-grey intra subpictures at the next composition and are substituted
until their next conforming IRAP (R194). -/
def execMergeRapWaitExpire (p : Fin 16) (s : State) : Host.Outcome State Fault Refusal :=
  let x := s.comp p
  .next (match x.waitRaw with
    | some r =>
      if s.raw - r ≥ s.fld (CMP_PIPE_CFG_RAP_WAIT p) * 10 * msU then
        let absent := match x.good with | some lay => (lay.layers.map (fun (l : Layer) => l.src)).filter (fun (c : Nat) => (tfind x.irap c).isNone) | none => []
        absent.foldl (fun (s : State) c => s.mergeSubst p c true) (s.setComp p { x with waitRaw := none, owed := absent })
      else s
    | none => s)

/-- CMP_TEST_SLOT (R448): CMP_PIPE_STAT names no cause for it, so CAUSE takes a free value. -/
def execCmpTestSlot (p : Fin 16) (pass : Bool) (s : State) : Host.Outcome State Fault Refusal :=
  .next (if pass then s else (s.fencePipe p (Config.pipeTestCause p s.fresh % 256) 0).draw)

/-- CMP_PIPE_FENCE_CMD (R192). -/
def execCmpPipeFenceCmd (p : Port) (q : Fin 16) (v : W32) (s : State) : Host.Outcome State Fault Refusal :=
  .next (s.portWrite p (CMP_PIPE_CTRL q) v (fun s => if fieldGet v 0 1 = 1 then s.fencePipe q 3 0 else s))

/-- The effect of UNFENCE on a pipe: its golden-vector test runs (R93, R192). -/
def State.pipeUnfence (s : State) (p : Nat) : State :=
  if s.pipeFenced p then s.put (CMP_PIPE_CTRL_UNFENCE p) 1 else s

/-- CMP_PIPE_UNFENCE_CMD (R192). -/
def execCmpPipeUnfenceCmd (p : Port) (q : Fin 16) (v : W32) (s : State) : Host.Outcome State Fault Refusal :=
  .next (s.portWrite p (CMP_PIPE_CTRL q) v (fun s => if fieldGet v 1 1 = 1 then s.pipeUnfence q else s))

/-- CMP_PIPE_TEST_DONE (R93, R192): a pass clears FENCED with 0x1602; after a failure CAUSE is a free value. -/
def execCmpPipeTestDone (p : Fin 16) (pass : Bool) (s : State) : Host.Outcome State Fault Refusal :=
  .next (if s.bit (CMP_PIPE_CTRL_UNFENCE p) then
      let s := s.put (CMP_PIPE_CTRL_UNFENCE p) 0
      if pass then ((s.put (CMP_PIPE_STAT_FENCED p) 0).emit 0x1602 p 0).placeLive
      else (s.put (CMP_PIPE_STAT_CAUSE p) (Config.pipeTestCause p s.fresh)).draw
    else s)

end Sys2Proof.Machine
end

