-- ==== Sys2Proof/Machine/Layers.lean ====
section
/-! DEFINITION. Estimates, layer rates, layer selection (R234, R238, R239) and the usage and quotas of sessions (R204 to
R208). -/

namespace Sys2Proof.Machine

/-! ### Rates (R239) -/

/-- The 1 s average rate, in whole kb/s, of all layers of a source flow up to (sid, tid). -/
def State.layRate (s : State) (src sid tid : Nat) : Nat := (tget (fun _ => []) (s.fx src).rates (8 * sid + tid)).sum / 1000

/-- The rate of everything a source sends: of a source flow all its layers, of an output its target in force. -/
def State.srcRate (s : State) (src : Nat) : Nat :=
  if src ≥ 2 ^ 31 then tget (fun _ => 0) s.brg.outNow (src % 2 ^ 31) else s.layRate src 3 7

/-- LAYER_RATE_UPDATE of one source flow: the bits of the last 100 ms enter the rates, which the table in DRAM shows. -/
def State.layUpdate (s : State) (f : Nat) : State :=
  let x := s.fx f
  let cum := fun e => ((x.layBits.filter (fun kv => decide (kv.1 / 8 ≤ e / 8) && decide (kv.1 % 8 ≤ e % 8))).map (·.2)).sum
  let rates := (List.range 32).map (fun e => (e, ((cum e) :: tget (fun _ => []) x.rates e).take 10))
  let s := s.setFx f { x with rates := rates, layBits := [] }
  let base := s.pairVal FWD_LRT_BASE_LO FWD_LRT_BASE_HI + 128 * f
  s.dputs base (rates.flatMap (fun kv => leBytes 4 (kv.2.sum / 1000)))

/-! ### The leg's estimate (R234) -/

/-- Whether a flow is a send flow, of video, of audio. -/
def State.isSend (s : State) (f : Nat) : Bool := s.ff f 1 1 == 1
def State.isVideo (s : State) (f : Nat) : Bool := s.ff f 2 1 == 0
def State.isAudio (s : State) (f : Nat) : Bool := s.ff f 2 1 == 1

/-- The send flows of a leg that are not idle. -/
def State.legSends (s : State) (l : Nat) : List Nat := (s.legFlows l).filter (fun f => s.recState 0 f != 0 && s.isSend f)

/-- The estimator flow of a leg. -/
def State.estFlow (s : State) (l : Nat) : Option Nat := (s.legSends l).find? (fun f => s.flag f 5)

/-- The leg's estimate in kb/s: its estimator flow's, else INIT_KBPS of its first send flow. -/
def State.legEst (s : State) (l : Nat) : Nat :=
  match s.estFlow l with
  | some f => s.ff f 0x100 4
  | none => match s.legSends l with | f :: _ => s.ff f 0x104 4 | [] => 0

/-- Whether a mix slot sends on a flow (R256). -/
def State.mixFed (s : State) (f : Nat) : Bool := s.aud.slots.any (fun y => rget y.2 0 1 != 0 && rget y.2 0x10 4 == f)

/-- The 1 s average rate, in whole kb/s, of an audio send flow: of its source, or of the mix that it carries. -/
def State.audioKbps (s : State) (f : Nat) : Nat := if s.mixFed f then (s.fx f).txWin.sum / 1000 else s.srcRate (s.ff f 0x3C 4)

/-- The rate of the leg's audio send flows. -/
def State.legAudio (s : State) (l : Nat) : Nat := (((s.legSends l).filter s.isAudio).map s.audioKbps).sum

/-! ### Layer selection (R239) -/

/-- Layers up to a ceiling in decreasing order. -/
def layersDown (sid tid : Nat) : List (Nat × Nat) :=
  (List.range (sid + 1)).reverse.flatMap (fun a => (List.range (tid + 1)).reverse.map (fun b => (a, b)))

/-- The wanted layer of one video send flow, and what is left for the next. -/
def State.wantOf (s : State) (f : Nat) (avail : Int) : (Nat × Nat) × Int :=
  let src := s.ff f 0x3C 4
  let w := ((layersDown (s.ff f 0xE2 1 % 4) (s.ff f 0xE3 1 % 8)).find?
    (fun y => decide ((s.layRate src y.1 y.2 : Int) ≤ avail))).getD (0, 0)
  (w, max 0 (avail - (s.layRate src w.1 w.2 : Int)))

/-- LAYER_SELECT: the wanted layers of a leg. A spatial up-switch that begins to wait notes the time; a new receiver asks
its source for a random-access point at once (worked example of chapter 10, step 1). -/
def State.layerSelect (s : State) (l : Nat) : State :=
  let avail : Int := Int.ofNat (s.legEst l * 15 / 16) - Int.ofNat (s.legAudio l)
  let fs := (s.legSends l).filter (fun f => s.isVideo f && decide (s.ff f 0x3C 4 < 2 ^ 31))
  (fs.foldl (fun (a : State × Int) f =>
    let w := a.1.wantOf f a.2
    let x := a.1.fx f
    let up := if w.1.1 > a.1.ff f 0xE0 1 ∨ !x.begun then some (x.upRaw.getD a.1.raw) else none
    let s := a.1.setFx f { x with wantS := w.1.1, wantT := w.1.2, upRaw := up }
    (if !x.begun ∧ x.upRaw.isNone then s.kfRequest (s.ff f 0x3C 4) false else s, w.2)) (s, avail)).1

/-! ### Usage (R204) -/

/-- The rate of the layers selected for a send flow. -/
def State.sendRate (s : State) (f : Nat) : Nat :=
  let src := s.ff f 0x3C 4
  if s.isAudio f then s.audioKbps f
  else if src ≥ 2 ^ 31 ∨ !s.isVideo f then s.srcRate src
  else s.layRate src (min (s.ff f 0xE0 1) (s.ff f 0xE2 1)) (min (s.ff f 0xE1 1) (s.ff f 0xE3 1))

/-- kb/s as units of 100 kb/s, rounded up. -/
def kbUnits (k : Nat) : Nat := ceilDiv k 100

/-- The forwarded usage of a leg in kb/s. -/
def State.legFwd (s : State) (l : Nat) : Nat :=
  if s.legKind l = 1 then 0 else ((s.legSends l).map s.sendRate).sum

/-- Write the forwarded usage of a session and its legs. -/
def State.fwdUse (s : State) (x : Nat) : State :=
  let ls := s.sessLegs x
  let s' := ls.foldl (fun s l => s.rp 3 l 0x18 4 (kbUnits (s.legFwd l))) s
  s'.rp 2 x 0x14 4 (kbUnits ((ls.map s.legFwd).sum) + (tget (fun _ => []) s.brg.remote x).getD 1 0)

/-- The outputs of a session. -/
def State.sessOuts (s : State) (x : Nat) : List Nat := (s.liveRecs 4).filter (fun o => s.rf 4 o 4 4 == x)

/-- Write the usage of a session that follows from its records. The home's sums take in what other members hold. -/
def State.sessUse (s : State) (x : Nat) : State :=
  let ls := s.sessLegs x
  let rem := tget (fun _ => []) s.brg.remote x
  let s := ls.foldl (fun s l => s.rp 3 l 0x1C 4 (if s.legKind l = 1 then s.rf 1 (s.rf 3 l 0x10 4) 0x2C 4 else 0)) s
  let s := s.rp 2 x 0x0C 4 (ls.length + rem.getD 0 0)
  let s := s.rp 2 x 0x1C 4 ((ls.map (fun l => s.rf 3 l 0x1C 4)).sum + rem.getD 2 0)
  let s := s.rp 2 x 0x22 2 (ls.countP (fun l => s.legKind l != 0) + rem.getD 3 0)
  let os := s.sessOuts x
  (s.rp 2 x 0x24 4 ((os.map (fun o => s.rf 4 o 0x24 4)).sum)).rp 2 x 0x28 4 ((os.map (fun o => s.rf 4 o 0x2C 4)).sum)

/-- Quota and usage number i of a session (0 legs, 1 forwarded, 2 decode, 3 mix) and whether usage is over it: a quota of all
ones means no limit. -/
def State.quota (s : State) (x i : Nat) : Nat := if i = 3 then s.rf 2 x 0x20 2 else s.rf 2 x (8 + 8 * i) 4
def State.usage (s : State) (x i : Nat) : Nat := if i = 3 then s.rf 2 x 0x22 2 else s.rf 2 x (12 + 8 * i) 4
def State.overQ (s : State) (x i : Nat) : Bool :=
  s.quota x i != (if i = 3 then 0xFFFF else 0xFFFFFFFF) && decide (s.quota x i < s.usage x i)

/-- Whether `n` more of a usage stays within the quota. -/
def State.roomQ (s : State) (x i n : Nat) : Bool :=
  s.quota x i == (if i = 3 then 0xFFFF else 0xFFFFFFFF) || decide (s.usage x i + n ≤ s.quota x i)

/-- Set the OVER bits of a session, with event 0x1701 on a change (R205). -/
def State.setOver (s : State) (x v : Nat) : State :=
  if s.rf 2 x 0x2C 4 = v then s
  else
    let u := match bitsOf v 4 with | i :: _ => s.usage x i | [] => 0
    (s.rp 2 x 0x2C 4 v).emit 0x1701 x (evArg [(0, 1, v), (4, 4, u)])

/-- Set the OVER bits of the quotas in `is` whose usage is over, clear those whose usage is not. -/
def State.overSet (s : State) (x : Nat) (is : List Nat) : State :=
  s.setOver x (is.foldl (fun v i => if s.overQ x i then nset v i else v) (s.rf 2 x 0x2C 4))
def State.overClear (s : State) (x : Nat) (is : List Nat) : State :=
  s.setOver x (is.foldl (fun v i => if s.overQ x i then v else nclr v i) (s.rf 2 x 0x2C 4))

/-! ### Lowering (R206, R207) -/

/-- The session's next lowering sequence number on a leg, with 0x1702. -/
def State.noteLower (s : State) (x l kind : Nat) : State :=
  let n := tget (fun _ => 0) s.brg.lowerSeq x + 1
  let s := { s with brg := { s.brg with lowerSeq := tset (fun _ => 0) s.brg.lowerSeq x n } }
  (s.rp 3 l 0x20 4 n).emit 0x1702 x (evArg [(0, 4, l), (4, 1, kind)])

/-- Whether (p, r, l) comes before (p', r', l') in the order of R206: lowest priority, highest rate, highest leg. -/
def lowerBefore (a b : Nat × Nat × Nat) : Bool :=
  decide (a.1 < b.1) || (a.1 == b.1 && (decide (a.2.1 > b.2.1) || (a.2.1 == b.2.1 && decide (a.2.2 > b.2.2))))

/-- The first of a list of keyed items in that order. -/
def lowerPick : List ((Nat × Nat × Nat) × Nat) → Option ((Nat × Nat × Nat) × Nat)
  | [] => none
  | x :: t => match lowerPick t with
    | none => some x
    | some y => if lowerBefore y.1 x.1 then some y else some x

/-- The flows that R206 may lower, with their keys. -/
def State.fwdCands (s : State) (x : Nat) : List ((Nat × Nat × Nat) × Nat) :=
  ((s.sessLegs x).filter (fun l => s.legKind l != 1)).flatMap (fun l =>
    ((s.legSends l).filter (fun f => s.isVideo f && decide (s.ff f 0x3C 4 < 2 ^ 31) &&
      (s.ff f 0xE2 1 != 0 || s.ff f 0xE3 1 != 0))).map (fun f => ((s.legPrio l, s.sendRate f, l), f)))

/-- Lower one flow's target by one step. -/
def State.lowerFlow (s : State) (f : Nat) : State :=
  if s.ff f 0xE2 1 > 0 then s.fp f 0xE2 1 (s.ff f 0xE2 1 - 1) else s.fp f 0xE3 1 (s.ff f 0xE3 1 - 1)

/-- The predicted usage of a session in units of 100 kb/s. -/
def State.fwdPredict (s : State) (x : Nat) : Nat :=
  kbUnits (((s.sessLegs x).map s.legFwd).sum) + (tget (fun _ => []) s.brg.remote x).getD 1 0

/-- R206: lower until the predicted usage fits. -/
def State.lowerFwd : Nat → Nat → State → State
  | 0, _, s => s
  | n + 1, x, s =>
    if s.quota x 1 = 0xFFFFFFFF ∨ s.fwdPredict x ≤ s.quota x 1 then s
    else match lowerPick (s.fwdCands x) with
      | none => s
      | some (k, f) => State.lowerFwd n x (((s.lowerFlow f).noteLower x k.2.2 0).layerSelect k.2.2)

/-- Give a decode context a new target layer: TARGET and COST at once; the grist is held until its picture boundary. -/
def State.setTarget (s : State) (c sid : Nat) : State :=
  let t := s.rf 1 c 13 1
  let old := s.rf 1 c 0x2C 4
  let s := (s.rp 1 c 13 1 (t / 4 * 4 + sid)).rp 1 c 0x2C 4 (s.decCost c sid)
  if (s.dx c).job.isSome then s.setDx c { s.dx c with held := max old (s.dx c).held } else s

/-- The mixed legs that R207 may lower, keyed for its order: priority, cost, member, leg. -/
def State.decCands (s : State) (x : Nat) : List ((Nat × Nat × Nat) × Nat) :=
  ((s.sessLegs x).filter (fun l => s.legKind l == 1 && s.rf 1 (s.rf 3 l 0x10 4) 13 1 % 4 != 0)).map (fun l =>
    ((s.legPrio l, s.rf 1 (s.rf 3 l 0x10 4) 0x2C 4, s.rf 3 l 3 1 * 2 ^ 20 + l), l))

/-- R207: lower mixed legs until U_DEC fits. -/
def State.lowerDec : Nat → Nat → State → State
  | 0, _, s => s
  | n + 1, x, s =>
    if !s.overQ x 2 then s
    else match lowerPick (s.decCands x) with
      | none => s
      | some (_, l) =>
        let c := s.rf 3 l 0x10 4
        State.lowerDec n x (((s.setTarget c (s.rf 1 c 13 1 % 4 - 1)).noteLower x l 1).sessUse x)

/-! ### Restoring (R208) -/

/-- One step up for a lowered mixed leg: none where it does not fit. -/
def State.raiseDec (s : State) (x l : Nat) : Option State :=
  let c := s.rf 3 l 0x10 4
  let t := s.rf 1 c 13 1 % 4
  let goal := s.rf 3 l 13 1
  if t ≥ goal then some (s.rp 3 l 0x20 4 0)
  else
    let add := s.decCost c (t + 1) - s.rf 1 c 0x2C 4
    if s.roomQ x 2 add then
      let s := (s.setTarget c (t + 1)).sessUse x
      some (if t + 1 ≥ goal then s.rp 3 l 0x20 4 0 else s)
    else none

/-- One step up for a lowered forwarded leg's first lowered flow. -/
def State.raiseFwd (s : State) (x l : Nat) : Option State :=
  match (s.legSends l).find? (fun f => s.isVideo f && s.ff f 0xE2 1 * 8 + s.ff f 0xE3 1 != (s.fx f).tgtSet) with
  | none => some (s.rp 3 l 0x20 4 0)
  | some f =>
    let g := (s.fx f).tgtSet
    let src := s.ff f 0x3C 4
    let (a, b) := (s.ff f 0xE2 1, s.ff f 0xE3 1)
    let (a', b') := if b < g % 8 then (a, b + 1) else (a + 1, b)
    if s.roomQ x 1 (kbUnits (s.layRate src a' b' - s.layRate src a b)) then
      let s := (((s.fp f 0xE2 1 a').fp f 0xE3 1 b').layerSelect l)
      let left := (s.legSends l).any (fun f => s.isVideo f && s.ff f 0xE2 1 * 8 + s.ff f 0xE3 1 != (s.fx f).tgtSet)
      some (if left then s else s.rp 3 l 0x20 4 0)
    else none

/-- Legs of a session with LOWER_SEQ, highest first. -/
def State.loweredLegs (s : State) (x : Nat) : List Nat :=
  let ls := (s.sessLegs x).filter (fun l => s.rf 3 l 0x20 4 != 0)
  let rec ins (l : Nat) : List Nat → List Nat
    | [] => [l]
    | y :: t => if s.rf 3 l 0x20 4 > s.rf 3 y 0x20 4 then l :: y :: t else y :: ins l t
  ls.foldl (fun acc l => ins l acc) []

/-- R208: restore in order, stopping at the first leg that does not fit. -/
def State.restoreLegs (x : Nat) : List Nat → State → State
  | [], s => s
  | l :: t, s =>
    match (if s.legKind l = 1 then s.raiseDec x l else s.raiseFwd x l) with
    | some s' => State.restoreLegs x t s'
    | none => s

end Sys2Proof.Machine
end

