-- ==== Sys2Proof/Machine/BrgLand.lean ====
section
/-! DEFINITION. Admission and landing of bridge records (R200 to R203, R205, R207, R208, R210, R218, R629, R630). -/

namespace Sys2Proof.Machine

/-! ### Admission (R202, R203, R210) -/

/-- The device's own address on the floor. -/
def State.ownAddr (s : State) : Nat := s.fld YZ_CFG_ADDR

/-- The words of a flow that a pitch leaves: the last staged ones, else the record's. -/
def State.flowAfter (s : State) (staged : List StagedRec) (f : Nat) : List W32 :=
  match (staged.filter (fun r => r.typ = 0 ∧ r.index = f)).getLast? with
  | some r => r.words
  | none => s.record 0 f

/-- The declared INIT_KBPS sum of a leg's send flows; INIT_KBPS is 1,000 unless written (R215). -/
def State.initSum (s : State) (staged : List StagedRec) (flows : List Nat) : Nat :=
  ((flows.map (s.flowAfter staged)).map (fun w =>
    if rget w 1 1 = 1 then (if rget w 0x104 4 = 0 then 1000 else rget w 0x104 4) else 0)).sum

/-- Whether the home lets a member add a leg: it is the home itself, or the home has granted it (R210). -/
def State.homeGrants (s : State) (x l : Nat) : Bool :=
  s.rf 2 x 2 2 % 4096 == s.ownAddr || s.brg.admits.any (fun a => a.sess == x && a.leg == l && a.grant == some true)

/-- The lowest mix slot that no leg holds. -/
def State.mixFree (s : State) : Option Nat :=
  let used := ((s.liveRecs 3).filter (fun l => s.legKind l != 0)).map (fun l => s.rf 3 l 14 2)
  (List.range (used.length + 1)).find? (fun m => decide (m < 8192) && !used.contains m)

/-- The checks of R202 on a leg that would be added with words `w`; the leg itself counts nowhere yet. -/
def State.legAdmits (s : State) (staged : List StagedRec) (l : Nat) (w : List W32) : Bool :=
  let x := rget w 4 4
  let kind := rget w 1 1
  let base := rget w 8 4
  let n := rget w 12 1
  let c := rget w 0x10 4
  decide (1 ≤ n) && decide (n ≤ 16) && decide (base + n ≤ 2097152) && decide (kind ≤ 2) && s.recState 2 x == 1 &&
  decide ((s.sessLegs x).length < 8192) && s.homeGrants x l && s.roomQ x 0 1 &&
  (kind == 1 || s.roomQ x 1 (kbUnits (s.initSum staged ((List.range n).map (· + base))))) &&
  (kind != 1 || (s.roomQ x 2 (s.decCost c (rget w 13 1 % 4)) && decide (s.decCost c (rget w 13 1 % 4) ≤ 24000) &&
    (decide (s.rf 1 c 2 1 < 24 ∧ s.recState 1 c ≠ 0) || (s.decPlace c (s.decCost c (rget w 13 1 % 4))).isSome))) &&
  (kind == 0 || (s.roomQ x 3 1 && s.mixFree.isSome))

/-- The chroma format of an output: that of its layout. -/
def State.outChroma (s : State) (o : Nat) : Nat :=
  match s.fetchLayout (s.rf 4 o 0x10 8) with | some l => l.chroma | none => 0

/-- Bridge encode cost placed on a tun. -/
def State.tunBridge (s : State) (t : Nat) : Nat :=
  (((s.liveRecs 4).filter (fun o => s.rf 4 o 15 1 == t)).map (fun o => s.rf 4 o 0x24 4)).sum

/-- The tun of R203. -/
def State.outTun (s : State) (side cost : Nat) : Option Nat :=
  let order := if side = 0 then List.range 40 else (List.range 20).map (· + 20) ++ List.range 20
  order.find? (fun t => !s.tunFenced t && decide (s.fld (ENC_TUN_LOAD_LOAD t) + s.tunBridge t + cost ≤ 8192))

/-- The free check grist of the unfenced check decoders after the bridge checks admitted, each on the one with most (R142, R202). -/
def State.chkFree (s : State) : List Nat :=
  let start := (List.range 8).map (fun d => if s.chkFenced d then 0 else 40960 - s.fld (DEC_CHK_LOAD_LOAD d))
  (s.liveRecs 4).foldl (fun l o =>
    let m := l.foldl max 0
    match l.findIdx? (· == m) with
    | some d => l.set d (m - s.rf 4 o 0x28 4)
    | none => l) start

/-- The most that one check decoder has free (R202). -/
def State.chkRoom (s : State) : Nat := s.chkFree.foldl max 0

/-- The source pixels per second that a layout reads (R181). -/
def State.layoutReads (s : State) (addr : Nat) : Nat :=
  match s.fetchLayout addr with
  | none => 0
  | some y => ((y.layers.filter (fun l => l.kind == 1)).map (fun l =>
      s.rf 1 l.src 8 2 * s.rf 1 l.src 10 2 * s.rf 1 l.src 12 1)).sum

/-- The source pixels per second that one pipe reads (R181): its compositions' sources, and the input of the channels that it scales. -/
def State.pipeReads (s : State) (p : Nat) : Nat :=
  (((List.range 16).filter (fun k => s.bit (CMP_PIPE_CFG_EN k) && s.compPipe k == p)).map (fun k => s.layoutReads (s.pipeLayout k))).sum +
  (((s.liveRecs 4).filter (fun o => s.rf 4 o 14 1 == p)).map (fun o => s.layoutReads (s.rf 4 o 0x10 8))).sum +
  ((bitsOf (s.fld (CMP_PIPE_LIVE_CHANNELS p)) 16).map (fun n =>
    s.fld (ENC_CH_SIZE_WIDTH n) * s.fld (ENC_CH_SIZE_HEIGHT n) * (s.chRate n).1 / (s.chRate n).2)).sum

/-- Admit and place an output whose record is in place (R202, R203): PIPE, TUN and costs are the device's. -/
def State.placeOut (s : State) (o : Nat) : Option State :=
  let ch := s.outChroma o
  let side := s.rf 2 (s.rf 4 o 4 4) 1 1
  let s := (s.rp 4 o 0x24 4 0).rp 4 o 0x28 4 0
  let (e, k, p) := (s.outEnc o ch, s.outChk o ch, s.outCmp o ch false)
  if e > 8192 ∨ k > s.chkRoom ∨ (s.sessOuts (s.rf 4 o 4 4)).length > 64 ∨
      s.rf 4 o 13 1 > 31 ∨ s.recState 2 (s.rf 4 o 4 4) ≠ 1 then none
  else match s.outTun side e, s.pipePlace side p with
    | some t, some q =>
      let s := ((((s.rp 4 o 0x24 4 e).rp 4 o 0x28 4 k).rp 4 o 0x2C 4 p).rp 4 o 15 1 t).rp 4 o 14 1 q
      if s.pipeReads q > 8000000000 then none else some s
    | _, _ => none

/-- The sums of bridge encode and check cost that the engine pools count. -/
def State.brgPools (s : State) : State :=
  let os := s.liveRecs 4
  let s := { s with enc := { s.enc with
    brgTun := (os.map (fun o => s.rf 4 o 0x24 4)).sum, brgChk := (os.map (fun o => s.rf 4 o 0x28 4)).sum } }
  s.placeLive.poolStat.runChkPlace

/-! ### Flow records (R218, R629) -/

/-- The H fields of a flow record but the keys. -/
def flowH : List (Nat × Nat) :=
  [(1, 7), (8, 8), (0x10, 8), (0x18, 8), (0x20, 8), (0x28, 8), (0x30, 8), (0x38, 8), (0xD8, 4), (0xE2, 2), (0x104, 4),
   (0x108, 4), (0x10C, 4), (0x140, 8), (0x148, 4), (0x14C, 2)]

/-- Copy fields from a staged record. -/
def copyF (fs : List (Nat × Nat)) (old new : List W32) : List W32 :=
  fs.foldl (fun w f => rput w f.1 f.2 (rget new f.1 f.2)) old

/-- Whether staged words carry keys: bytes 0x040 to 0x08F are not all zero (R629). -/
def writesKeys (w : List W32) : Bool := ((w.drop 16).take 20).any (· != 0)

/-- STATE after a flow record lands on one that is not idle (R629, R230). -/
def flowState (cur staged : Nat) (keys : Bool) : Nat :=
  if staged = 0 then 0
  else if cur = 3 then staged
  else if keys then 1
  else if staged = 1 ∧ cur = 2 then 2
  else staged

/-- A staged flow record as it stands after landing on a record that is not idle. -/
def flowMerge (old new : List W32) : List W32 :=
  let keys := writesKeys new
  let w := copyF flowH old new
  let w := rput w 0 1 (flowState (rget old 0 1) (rget new 0 1) keys)
  let w := if rget w 0x104 4 = 0 then rput w 0x104 4 1000 else w
  let w := if rget old 0x140 8 ≠ rget new 0x140 8 ∨ rget old 0x148 4 ≠ rget new 0x148 4 then rput w 0x150 4 0 else w
  if keys then
    rput (copyF ((List.range 20).map (fun i => (0x40 + 4 * i, 4)) ++ [(0x90, 4), (0xB0, 4)]) w new) 0xA8 8 0
  else w

/-- Return a flow to idle: the engine keeps nothing of it. -/
def State.flowIdle (s : State) (f : Nat) : State :=
  let s := s.rp 0 f 0 1 0
  { s with brg := { s.brg with fx := tdel s.brg.fx f, fetches := s.brg.fetches.filter (· ≠ f) } }

/-- Land a flow record. -/
def State.landFlow (s : State) (f : Nat) (w : List W32) : Option State :=
  let old := s.record 0 f
  if f ≥ 2097152 then none
  else if rget old 0 1 = 0 then
    let w := if rget w 0x104 4 = 0 then rput w 0x104 4 1000 else w
    let w := if rget w 0x100 4 = 0 then rput w 0x100 4 (rget w 0x104 4) else w
    let s := s.setRecTab 0 (tput s.brg.flows f w)
    some (s.setFx f { FlowX.zero with fbRaw := s.raw, tgtSet := rget w 0xE2 1 * 8 + rget w 0xE3 1 })
  else if rget w 0 1 = 0 then some (s.flowIdle f)
  else
    let s' := s.setRecTab 0 (tput s.brg.flows f (flowMerge old w))
    let x := s.fx f
    let keys := writesKeys w
    let ring := rget old 0x140 8 ≠ rget w 0x140 8 ∨ rget old 0x148 4 ≠ rget w 0x148 4
    some (s'.setFx f { x with
      tgtSet := rget w 0xE2 1 * 8 + rget w 0xE3 1
      prevSrc := if rget old 0x3C 4 ≠ rget w 0x3C 4 then some (x.prevSrc.getD (rget old 0x3C 4)) else x.prevSrc
      hist := if ring then [] else x.hist
      warned := x.warned && !keys
      warnedC := x.warnedC && !keys
      rtcpStop := x.rtcpStop && !keys
      resv := if keys then 0 else x.resv })

/-- The gravity check refuses a second estimator flow of a leg (R234). -/
def State.estimatorsOk (s : State) : Bool :=
  (s.liveRecs 3).all (fun l => decide (((s.legSends l).filter (fun f => s.flag f 5)).length ≤ 1))

/-! ### Decode records (R172, R178) -/

/-- Return a decode context to idle. -/
def State.ctxIdle (s : State) (c : Nat) : State :=
  let s := (s.rp 1 c 0 1 0).rp 1 c 2 1 0xFF
  { s with brg := { s.brg with dx := tdel s.brg.dx c } }.decRefresh

/-- Land a decode record: a new context starts in WAIT_RAP and is placed; a suspended one starts again; a change to another
waits for its picture boundary. -/
def State.landDec (s : State) (c : Nat) (w : List W32) : Option State :=
  let st := s.recState 1 c
  if c ≥ 8192 then none
  else if st = 0 ∨ st = 5 then
    let w := if st = 0 then w else decH (s.record 1 c) w
    let s := s.setRecTab 1 (tput s.brg.decs c (rput (rput w 0 1 1) 2 1 0xFF))
    let s := (s.setDx c DecX.zero).decRefresh
    if s.decCost c (rget w 13 1 % 4) > 24000 then none
    else some ((s.placeCtx c).startCond c)
  else
    let s := s.setDx c { s.dx c with next := some w }
    some (if (s.dx c).job.isNone then s.picBoundary c else s)

/-! ### Sessions, legs, outputs (R200, R201, R205, R207, R218) -/

/-- The H fields of sessions, legs and outputs. -/
def sessH : List (Nat × Nat) := [(0, 1), (2, 2), (4, 2), (8, 4), (0x10, 4), (0x18, 4), (0x20, 2)]
def legH : List (Nat × Nat) := [(0, 8), (8, 4), (12, 1), (13, 1), (0x10, 4), (0x14, 4)]
def outH : List (Nat × Nat) := [(0, 8), (8, 6), (0x10, 8), (0x18, 8), (0x20, 4)]

/-- Land a session record. A new one takes the side with more free decode grist (R200) and its audio has no history (R259); a cut quota acts at once (R205 to
R207). -/
def State.landSess (s : State) (x : Nat) (w : List W32) : Option State :=
  if x ≥ 32768 then none
  else if s.recState 2 x = 0 then
    let free := fun (ds : List Nat) =>
      ((ds.filter (fun d => !s.coreFenced d)).map (fun d => 24000 - s.fld (DEC_CORE_LOAD_LOAD d))).sum
    let side := if free (List.range 12) ≥ free ((List.range 12).map (· + 12)) then 0 else 1
    let w := rput (copyF sessH (List.replicate 16 0) w) 1 1 side
    let s := s.setRecTab 2 (tput s.brg.sess x w)
    some { s with aud := { s.aud with hist := s.aud.hist.filter (· ≠ x) } }
  else if rget w 0 1 = 0 then some (s.rp 2 x 0 1 0)
  else
    let s := s.setRecTab 2 (tput s.brg.sess x (copyF sessH (s.record 2 x) w))
    let s := (s.sessUse x).overSet x [0, 1, 2, 3]
    some (State.lowerDec 32768 x (State.lowerFwd 65536 x s))

/-- Remove a leg: its flows and its decode context return to idle and its usage goes (R201). -/
def State.removeLeg (s : State) (l : Nat) : State :=
  let x := s.legSess l
  let c := s.rf 3 l 0x10 4
  let mixed := s.legKind l == 1
  let s := (s.legFlows l).foldl (fun s f => s.flowIdle f) s
  let s := if mixed then s.ctxIdle c else s
  let s := s.rp 3 l 0 1 0
  { s with brg := { s.brg with pacers := tdel s.brg.pacers l, shed := s.brg.shed.filter (· ≠ l) } }.sessUse x

/-- Land a leg record that is an addition or a change: checked as an addition (R202). -/
def State.landLeg (s : State) (staged : List StagedRec) (l : Nat) (w : List W32) : Option State :=
  if l ≥ 262144 then none
  else
    let old := s.recState 3 l
    let oldSlot := if old = 0 ∨ s.legKind l = 0 then 0xFFFF else s.rf 3 l 14 2
    let oldSess := s.legSess l
    let s0 := if old = 0 then s else (s.rp 3 l 0 1 0).sessUse oldSess
    if !s0.legAdmits staged l w then none
    else
      let kind := rget w 1 1
      let slot := if kind = 0 then 0xFFFF else if oldSlot ≠ 0xFFFF then oldSlot else (s0.mixFree).getD 0xFFFF
      let w0 := copyF legH (if old = 0 then List.replicate 16 0 else s0.record 3 l) w
      let s := s0.setRecTab 3 (tput s.brg.legs l (rput w0 14 2 slot))
      let c := rget w 0x10 4
      let s := if kind = 1 ∧ s.recState 1 c ≠ 0 then
          let s := s.setTarget c (rget w 13 1 % 4)
          if s.rf 1 c 2 1 < 24 then s.decRefresh else s.placeCtx c
        else s
      let s := if old = 0 then (s.legSends l).foldl (fun s f => s.fp f 0x100 4 (s.ff f 0x104 4)) s else s
      some ((s.sessUse (s.legSess l)).fwdUse (s.legSess l) |>.layerSelect l)

/-- Remove an output: refused while a remaining leg names it (R201). -/
def State.removeOut (s : State) (o : Nat) : Option State :=
  if (s.liveRecs 3).any (fun l => s.legKind l == 1 && s.rf 3 l 0x14 4 == o) then none
  else
    let x := s.rf 4 o 4 4
    let s := ((s.rp 4 o 0 1 0).rp 4 o 0x24 4 0).sessUse x
    some ({ s with brg := { s.brg with comps := tdel s.brg.comps (16 + o) } }.brgPools)

/-- Land an output record that is an addition or a change. -/
def State.landOut (s : State) (o : Nat) (w : List W32) : Option State :=
  if o ≥ 4096 then none
  else
    let base := if s.recState 4 o = 0 then List.replicate 16 0 else s.record 4 o
    let s := if s.recState 4 o = 0 then { s with brg := { s.brg with outSeq := tdel s.brg.outSeq o } } else s
    let s := s.setRecTab 4 (tput s.brg.outs o (copyF outH base w))
    match s.placeOut o with
    | some s => some ((s.sessUse (s.rf 4 o 4 4)).brgPools)
    | none => none

/-! ### A pitch's bridge records (R201) -/

/-- Whether a staged record removes what it names. -/
def State.isRemoval (s : State) (r : StagedRec) : Bool :=
  r.typ != 1 && decide (r.typ ≤ 4) && s.recState r.typ r.index != 0 && rget r.words 0 1 == 0

/-- Whether it changes an open session, which includes its quotas. -/
def State.isQuota (s : State) (r : StagedRec) : Bool :=
  r.typ == 2 && s.recState 2 r.index != 0 && rget r.words 0 1 != 0

/-- Land one record. -/
def State.landRec (s : State) (staged : List StagedRec) (r : StagedRec) : Option State :=
  match r.typ with
  | 0 => s.landFlow r.index r.words
  | 1 => s.landDec r.index r.words
  | 2 => s.landSess r.index r.words
  | 3 => if rget r.words 0 1 = 0 then (if s.recState 3 r.index = 0 then some s else some (s.removeLeg r.index))
         else s.landLeg staged r.index r.words
  | 4 => if rget r.words 0 1 = 0 then (if s.recState 4 r.index = 0 then some s else s.removeOut r.index)
         else s.landOut r.index r.words
  | _ => some s

/-- Land a list of records in order; none where the gravity check refuses one. -/
def State.landList (staged : List StagedRec) : List StagedRec → State → Option State
  | [], s => some s
  | r :: t, s => match s.landRec staged r with
    | some s' => State.landList staged t s'
    | none => none

/-- The sessions that staged records touch. -/
def State.touched (s : State) (rs : List StagedRec) : List Nat :=
  (rs.flatMap (fun r => match r.typ with
    | 2 => [r.index]
    | 3 => [rget r.words 4 4, s.legSess r.index]
    | 4 => [rget r.words 4 4, s.rf 4 r.index 4 4]
    | _ => [])).eraseDups

/-- Clear the valid bits of the bridge records (R630). -/
def State.brgClear (s : State) : State :=
  { s with brg := { Brg.zero with intraNext := s.brg.intraNext } }.decRefresh.brgPools

/-- Contexts pinned (R213): the flows of enabled renditions with their second paths, and while room remains those of legs
with PRIORITY 7, up to 4,096 in total; refused pins raise 0x1704. -/
def State.pinFlows (s : State) : State :=
  let outs := (List.range 16).flatMap (fun n => (s.rends n).flatMap (fun k =>
    let f := s.fld (ENC_CH_OUT_FLOW_FLOW n k)
    if s.bit (ENC_CH_OUT_PKG_DUAL n k) then [f, f + 1] else [f]))
  let live := (s.liveRecs 0).filter outs.contains
  let want := ((s.liveRecs 3).filter (fun l => s.legPrio l == 7)).flatMap (fun l =>
    (s.legFlows l).filter (fun f => s.recState 0 f != 0 && !live.contains f))
  let pins := live ++ want.take (4096 - live.length)
  let refused := want.length - (4096 - live.length)
  let s := { s with brg := { s.brg with fx := s.brg.fx.map (fun kv => (kv.1, { kv.2 with pinned := pins.contains kv.1 })) } }
  let s := pins.foldl (fun s f => let x := s.fx f; s.setFx f { x with pinned := true }) s
  if refused > 0 then s.emit 0x1704 0 (evArg [(0, 4, refused)]) else s

/-- Apply the bridge records of a pitch (R201): removals, quota changes, additions and changes in the order staged, then
restorations, usage and OVER bits; none where an admission check fails. A change of legs changes the slots, so audio is placed again (R255). -/
def State.landBridge (s : State) (rs : List StagedRec) : Option State :=
  let rem := rs.filter (fun r => s.isRemoval r && r.typ != 4)
  let remO := rs.filter (fun r => s.isRemoval r && r.typ == 4)
  let quo := rs.filter s.isQuota
  let rest := rs.filter (fun r => !s.isRemoval r && !s.isQuota r)
  let xs := s.touched rs
  match State.landList rs (rem ++ remO ++ quo ++ rest) s with
  | none => none
  | some s =>
    if !s.estimatorsOk then none
    else
      let s := xs.foldl (fun s x => State.restoreLegs x (s.loweredLegs x) s) s
      let s := xs.foldl (fun s x => ((s.sessUse x).fwdUse x).overClear x [0, 2, 3]) s
      let ls := ((rs.filter (fun r => r.typ == 0)).filterMap (fun r => s.flowLeg r.index)).eraseDups
      let s := (ls.filter (fun l => s.recState 3 l == 1)).foldl (fun s l => s.layerSelect l) s
      let s := { s with aud := { s.aud with place := s.aud.place || rs.any (fun r => r.typ == 3) } }
      some (s.decRefresh.pinFlows.brgCounts)

/-! ### The context window (R217, R565, R566) -/

/-- The index and type of a window command, and the window's error for them. -/
def winErr (v : W32) : Nat :=
  let ty := fieldGet v 24 4
  if ty > 4 ∨ fieldGet v 0 22 ≥ recCount ty then 1 else 0

/-- Write words into the window's DATA registers. -/
def State.winPut (s : State) (base : Nat) (ws : List W32) : State :=
  (ws.foldl (fun (a : State × Nat) w => (a.1.wr (base + 4 * a.2) w, a.2 + 1)) (s, 0)).1

/-- Words of the window's DATA registers. -/
def State.winGet (s : State) (base n : Nat) : List W32 := (List.range n).map (fun i => s.rd (base + 4 * i))

/-- The record as a fetch returns it: the keys of a flow read as zeros, the CRC is computed. A record whose valid bit is
clear reads as zeros with a valid CRC (R217, R630). -/
def State.fetchRec (s : State) (ty i : Nat) : List W32 :=
  let w := s.record ty i
  let w := if ty = 0 then (w.take 16 ++ List.replicate 20 0 ++ w.drop 36) else w
  withCrc w

/-- The effect of a context window command. `bad` says that the stored CRC of a record in DRAM did not match: the data is
returned with ERR 2. -/
def State.brgWin (s : State) (port : Port) (v : W32) (bad : Bool) : State :=
  let op := fieldGet v 28 4
  let ty := fieldGet v 24 4
  let i := fieldGet v 0 22
  let s := s.put BRG_WIN_STAT_ERR (winErr v)
  if winErr v ≠ 0 then s
  else if op = 1 then
    let s := s.winPut (BRG_WIN_DATA 0) (s.fetchRec ty i)
    if bad ∧ s.recValid ty i ∧ !(ty = 0 ∧ (s.fx i).resident) then s.put BRG_WIN_STAT_ERR 2 else s
  else if op = 2 then
    if s.stage.records.length ≥ 1024 ∧ !s.stage.records.any (fun r => r.typ == ty && r.index == i) then
      s.put BRG_WIN_STAT_ERR 3
    else s.stageRecPut port.owner ⟨ty, i, s.winGet (BRG_WIN_DATA 0) (recWords ty)⟩
  else if op = 3 then
    { s with stage := { s.stage with records := s.stage.records.filter (fun r => !(r.typ == ty && r.index == i)) } }.stageTouch
  else s

/-- A window write whose stage the bank refuses fails as a staged write does (R421, R461, R551). -/
def State.brgWinWrite (s : State) (p : Port) (v : W32) (bad : Bool) : State :=
  let st := if fieldGet v 28 4 = 2 then s.stageStatus p.owner true else 0
  if s.writeStatus p BRG_WIN_CMD v = 0 ∧ st ≠ 0 then s.accessFail p BRG_WIN_CMD true st
  else s.portWrite p BRG_WIN_CMD v (fun s => s.brgWin p v bad)

/-- BRG_WIN_FETCH (R217). -/
def execBrgWinFetch (p : Port) (ty : Fin 16) (i : Nat) (bad : Bool) (s : State) : Host.Outcome State Fault Refusal :=
  .next (s.brgWinWrite p (BitVec.ofNat 32 (1 * 2 ^ 28 + ty * 2 ^ 24 + i % 2 ^ 22)) bad)

/-- BRG_WIN_STAGE (R217). -/
def execBrgWinStage (p : Port) (ty : Fin 16) (i : Nat) (s : State) : Host.Outcome State Fault Refusal :=
  .next (s.brgWinWrite p (BitVec.ofNat 32 (2 * 2 ^ 28 + ty * 2 ^ 24 + i % 2 ^ 22)) false)

/-- BRG_WIN_DISCARD (R217). -/
def execBrgWinDiscard (p : Port) (ty : Fin 16) (i : Nat) (s : State) : Host.Outcome State Fault Refusal :=
  .next (s.brgWinWrite p (BitVec.ofNat 32 (3 * 2 ^ 28 + ty * 2 ^ 24 + i % 2 ^ 22)) false)

/-! ### Admission across a group (R210) -/

/-- ADMISSION_REQUEST_RX (R210): the home grants a member's addition when its quotas have room for the amounts asked, which
then count in the group sums. -/
def execAdmissionRequestRx (x : Fin 32768) (leg fwd dec mix : Nat) (s : State) : Host.Outcome State Fault Refusal :=
  .next (if s.recState 2 x ≠ 1 ∨ s.rf 2 x 2 2 % 4096 ≠ s.ownAddr then s
    else if s.roomQ x 0 1 ∧ s.roomQ x 1 fwd ∧ s.roomQ x 2 dec ∧ s.roomQ x 3 mix then
      let r := tget (fun _ => []) s.brg.remote x
      let r' := [r.getD 0 0 + 1, r.getD 1 0 + fwd, r.getD 2 0 + dec, r.getD 3 0 + mix]
      let s := { s with brg := { s.brg with remote := tset (fun _ => []) s.brg.remote x r' } }
      (s.sessUse x).fwdUse x |>.send (.admission x leg true)
    else (s.cnt BRG_CNT_REFUSED_COUNT 1).send (.admission x leg false))

/-- ADMISSION_GRANT_RX (R210): the home's answer to a member's request. -/
def execAdmissionGrantRx (x : Fin 32768) (leg : Nat) (grant : Bool) (s : State) : Host.Outcome State Fault Refusal :=
  .next ({ s with brg := { s.brg with admits := s.brg.admits.map (fun a =>
    if a.sess = x.val ∧ a.leg = leg ∧ a.grant = none then { a with grant := some grant } else a) } })

end Sys2Proof.Machine
end

