-- ==== Sys2Proof/Machine/Forward.lean ====
section
/-! DEFINITION. The forwarding pipeline: classification, SRTP, sequence numbers, replication, rewriting, RTCP, the history and
the punt queue (R213, R214, R220 to R233, R238, R240 to R246). -/

namespace Sys2Proof.Machine

/-! ### The punt queue (R223) -/

/-- Place a packet in the punt queue; a full queue of 256 loses it. -/
def State.puntPut (s : State) (f len : Nat) (ws : List W32) : State :=
  let n := s.brg.punt.length
  if n ≥ 256 ∨ len > 1536 then
    (s.cnt FWD_PUNT_STAT_LOST 1).emit 0x1807 0 (evArg [(0, 1, 1), (4, 4, n)])
  else
    let s := ({ s with brg := { s.brg with punt := s.brg.punt ++ [Punt.mk f len ws] } }).put FWD_PUNT_STAT_DEPTH (min (n + 1) 255)
    if n = 0 then s.emit 0x1807 0 (evArg [(4, 4, 1)]) else s

/-! ### Classification (R222, R223) -/

/-- Whether a record's addressing is that of a packet: by destination only when REMOTE_PORT is 0. -/
def State.addrMatch (s : State) (f : Nat) (p : RtpPkt) : Bool :=
  s.ff f 0x0A 1 == p.mac && s.ff f 0x20 16 == p.laddr && s.ff f 0x32 2 == p.lport &&
  (s.ff f 0x30 2 == 0 || (s.ff f 0x30 2 == p.rport && s.ff f 0x10 16 == p.raddr))

/-- Whether a packet is one of a flow's retransmission stream (R225), as R243 sends it: RTX_PT, and the SSRC after the flow's. -/
def State.isRtx (s : State) (f : Nat) (p : RtpPkt) : Bool :=
  s.isVideo f && s.ff f 0x35 1 != 0 && p.b1 % 128 == s.ff f 0x35 1 && (s.ff f 0x30 2 == 0 || (s.ff f 0x0C 4 + 1) % 2 ^ 32 == p.ssrc)

/-- The receive flow of an RTP packet. -/
def State.classify (s : State) (p : RtpPkt) : Option Nat :=
  (s.liveRecs 0).find? (fun f => s.ff f 1 1 == 0 && s.addrMatch f p && (s.ff f 0x30 2 == 0 || s.ff f 0x0C 4 == p.ssrc || s.isRtx f p))

/-- The flow whose ports a packet without an SSRC matches. -/
def State.classifyPorts (s : State) (p : RtpPkt) : Option Nat := (s.liveRecs 0).find? (fun f => s.addrMatch f p)

/-- The flow of an RTCP packet (R199, R223): on the RTP ports with FLAGS bit 1, else on the ports after them. -/
def State.classifyRtcp (s : State) (p : RtpPkt) : Option Nat :=
  (s.liveRecs 0).find? (fun f => (s.flag f 1 && s.addrMatch f p) ||
    (decide (p.lport > 0) && s.addrMatch f { p with lport := p.lport - 1, rport := p.rport - 1 }))

/-! ### The context cache (R213, R214, R23) -/

/-- A context is used. -/
def State.useCtx (s : State) (f : Nat) : State :=
  let n := s.brg.useNum + 1
  { s with brg := { s.brg with useNum := n } }.setFx f { s.fx f with used := n }

/-- A context is written back: it is no longer dirty. -/
def State.ctxClean (s : State) (f : Nat) : State := s.setFx f { s.fx f with dirty := false }

/-- A resident context: at 65,536 contexts the least recently used unpinned one is evicted. -/
def State.ctxLoad (s : State) (f : Nat) : State :=
  let res := s.brg.fx.filter (fun kv => kv.2.resident)
  let s := if res.length < 65536 then s
    else match (res.filter (fun kv => !kv.2.pinned)).foldl (fun (b : Option (Nat × FlowX)) kv =>
        match b with | none => some kv | some y => if kv.2.used < y.2.used then some kv else b) none with
      | some (g, x) => s.setFx g { x with resident := false, dirty := false }
      | none => s
  let s := s.setFx f { s.fx f with resident := true }
  { s with brg := { s.brg with fetches := s.brg.fetches.filter (· ≠ f) } }.brgCounts

/-- A packet of a flow that is not resident: it waits in order while the context is fetched (R23). -/
def State.ctxNeed (s : State) (f : Nat) (w : CtxWait) : State :=
  let s := s.cnt BRG_CNT_MISS_COUNT 1
  let s := s.setFx f { s.fx f with waiting := (s.fx f).waiting ++ [w] }
  if s.brg.fetches.contains f then s else { s with brg := { s.brg with fetches := s.brg.fetches ++ [f] } }

/-! ### SRTP (R229, R230) -/

/-- The index estimate of RFC 3711 Section 3.3.1 from ROC, the highest sequence number and a packet's. -/
def srtpIndex (roc hi seq : Nat) : Nat :=
  let v := if hi < 32768 then (if seq > hi + 32768 then roc - 1 else roc)
    else if seq + 32768 < hi then roc + 1 else roc
  v * 65536 + seq

/-- Whether a flow has received nothing yet. -/
def State.fresh0 (s : State) (f : Nat) : Bool := s.ff f 0xC8 8 == 0 && s.ff f 0x180 8 == 0

/-- Whether an index was seen or is older than the 128-packet window. -/
def replayed (win hi idx : Nat) : Bool := decide (idx ≤ hi) && (decide (hi - idx ≥ 128) || nbit win (hi - idx))

/-- A packet under the current keys: KEY_PKTS and its warning at 2⁴⁷. -/
def State.keyCount (s : State) (f : Nat) : State :=
  let n := s.ff f 0xA8 8 + 1
  let s := s.fp f 0xA8 8 n
  if n ≥ 2 ^ 47 ∧ !(s.fx f).warned then
    (s.setFx f { s.fx f with warned := true }).emit 0x1801 f (evArg [(4, 8, n)])
  else s

/-- A packet that fails authentication is counted and changes no other state (R229). -/
def State.authFail (s : State) (f : Nat) : State :=
  ((s.fcnt f 0x1A0 4 1).cnt FWD_CNT_AUTH_COUNT 1).emitLim 0x1805 f 1 0

/-- Stage 3 for an SRTP flow: none where the packet is discarded. -/
def State.unprotect (s : State) (f : Nat) (p : RtpPkt) : State × Bool :=
  if !s.flag f 0 then (s, true)
  else if !p.authOk then
    (s.authFail f, false)
  else
    let first := s.fresh0 f
    let roc := s.ff f 0x90 4
    let hi := if first then p.seq else s.ff f 0xC8 8 % 65536
    let idx := srtpIndex roc hi p.seq
    let top := roc * 65536 + hi
    let win := s.ff f 0x98 16
    if !first ∧ replayed win top idx then ((s.fcnt f 0x1A4 4 1).emitLim 0x1805 f (2 ^ 32) 0, false)
    else
      let win' := if first then 1 else if idx > top then (win * 2 ^ (idx - top) + 1) % 2 ^ 128 else nset win (top - idx)
      let s := (s.fp f 0x98 8 win').fp f 0xA0 8 (win' / 2 ^ 64)
      ((s.fp f 0x90 4 (max roc (idx / 65536))).keyCount f, true)

/-! ### Copies (R231, R232, R236, R240, R244, R245) -/

/-- A discard after selection: CNT_DROP of the flow and FWD_CNT_DROP (R244). -/
def State.copyDrop (s : State) (g : Nat) : State := (s.fcnt g 0x194 4 1).cnt FWD_CNT_DROP_COUNT 1

/-- Record a stretch in the sequence map: newest first, 127 entries, and its 512 bytes in DRAM (R232). -/
def State.mapAdd (s : State) (g first ofs src : Nat) : State :=
  let x := s.fx g
  let s := s.setFx g { x with smap := ((first, ofs, src) :: x.smap).take 127 }
  let base := s.pairVal FWD_SMAP_BASE_LO FWD_SMAP_BASE_HI + 512 * g
  let i := bytesAt (s.dbytes base 4) 0 4 % 128 % 127 + 1
  (s.dputs (base + 4 * i) (leBytes 2 first ++ leBytes 2 ofs)).dputs base (leBytes 4 i)

/-- The pacer of a flow's copies: its leg's, or one of its own without pacing. -/
def State.pacerKey (s : State) (g : Nat) : Nat := match s.flowLeg g with | some l => l | none => 0x1000000 + g

/-- A copy leaves: its counters advance, and the second path's flow sends the same on its own MAC (R246). -/
def State.copySend (s : State) (c : Copy) : State :=
  let ssrc := s.ff c.flow 0x0C 4
  if !s.egressOk false then s
  else if !s.flowUp c.flow then s.packetLost c.flow
  else if c.rtx then s.send (.rtx c.flow ((ssrc + 1) % 2 ^ 32) (s.ff c.flow 0x35 1) c.seq c.osn)
  else
    let gy := if s.flag c.flow 2 then some s.gyle else none
    let s := (s.fcnt c.flow 0x180 8 1).fcnt c.flow 0x188 8 c.len |>.send (.copy c.flow ssrc c.seq c.ext c.ts c.len gy)
    let s := s.setFx c.flow { s.fx c.flow with txBits := (s.fx c.flow).txBits + 8 * c.len }
    ((s.sendFlows c.flow).filter (fun h => s.flag h 3)).foldl (fun s h =>
      if !s.flowUp h then s.packetLost h
      else (((s.fp h 0xC8 8 c.ext).fp h 0xDC 4 c.ts).fcnt h 0x180 8 1).fcnt h 0x188 8 c.len |>.send
        (.copy h ssrc c.seq c.ext c.ts c.len gy)) s

/-- The bytes of bridge copies that a MAC's egress stage holds (R247, FWD_EG_STAT). -/
def State.egBridge (s : State) (m : Nat) : Nat :=
  (s.brg.pacers.map (fun x => ((x.2.queue.filter (fun c => s.ff c.flow 0x0A 1 == m)).map (·.len)).sum)).sum

/-- Queue a copy in its leg's pacer; a flow of no leg is not paced. A copy for which the 6 MiB of bridge queue have no room is dropped and
counted (R244, R247). -/
def State.copyQueue (s : State) (c : Copy) : State :=
  let m := s.ff c.flow 0x0A 1
  match s.flowLeg c.flow with
  | none => s.copySend c
  | some l =>
    if m < 16 ∧ s.egBridge m + c.len > 6291456 then (s.copyDrop c.flow).cnt (FWD_EG_CNT_DROP_COUNT m) 1
    else
    let p := tget (fun _ => Pacer.zero) s.brg.pacers l
    { s with brg := { s.brg with pacers := tset (fun _ => Pacer.zero) s.brg.pacers l { p with queue := p.queue ++ [c] } } }

/-- A new reservation is racked at once when EXT_SEQ passes H − SEQ_RSV / 2 (R431). -/
def State.reserve (s : State) (g : Nat) : State :=
  let x := s.fx g
  let r := s.fld RDN_CFG3_SEQ_RSV
  if s.isActive ∧ s.ff g 0xC8 8 + r / 2 > x.resv ∨ (s.isActive ∧ x.resv = 0) then
    let h := s.ff g 0xC8 8 + r
    let s := s.rack [.flowState g (s.flowVals g h)]
    s.setFx g { s.fx g with resv := h, resvSeq := s.rdn.nextSeq - 1 }
  else s

/-- Whether the reservation lets the next packet leave (R431): it is not enforced while the pair is DEGRADED. -/
def State.resvOk (s : State) (g : Nat) : Bool :=
  !s.isActive || s.bit RDN_STAT_DEGRADED || decide (s.ff g 0xC8 8 + 1 < (s.fx g).resvAck)

/-- The mark, in the place of the last source, of a flow that a takeover continues at its reservation (R432): its next copy takes a
new sequence offset and keeps its timestamp offset. -/
def resumeMark : Nat := 0xFFFFFFFF

/-- A flow at its key limit stops, and the packet is not sent (R230). -/
def State.keyStop (s : State) (g : Nat) : State := ((s.fp g 0 1 2).copyDrop g).emit 0x1802 g 0

/-- The rewrite of R231 for a selected packet, and what drops it after selection: all of it on a flow that the key limit has stopped. -/
def State.copyMake (s : State) (f g : Nat) (p : RtpPkt) : State :=
  if s.recState 0 g = 2 then s.copyDrop g
  else
  let x := s.fx g
  let ext := s.ff g 0xC8 8
  let last := s.ff g 0x1AC 4
  let s :=
    if x.prevSrc = some resumeMark then
      let ofs := (ext % 65536 + 1 + 65536 - p.seq % 65536) % 65536
      (s.fp g 0xC0 2 ofs).mapAdd g (ext + 1) ofs f
    else if x.prevSrc ≠ some f then
      let ofs := (ext % 65536 + 1 + 65536 - p.seq % 65536) % 65536
      let gap := max 1 ((s.nowUs + 2 ^ 32 - last) % 2 ^ 32 * s.ff g 0xD8 4 / 1000000)
      let ts := (s.ff g 0xDC 4 + gap + 2 ^ 32 - p.ts % 2 ^ 32) % 2 ^ 32
      ((s.fp g 0xC0 2 ofs).fp g 0xC4 4 ts).mapAdd g (ext + 1) ofs f
    else if x.withheld > 0 then
      let ofs := (s.ff g 0xC0 2 + 65536 - x.withheld % 65536) % 65536
      (s.fp g 0xC0 2 ofs).mapAdd g (ext + 1) ofs f
    else s
  let seq := (p.seq + s.ff g 0xC0 2) % 65536
  let last := if x.prevSrc = none ∨ x.prevSrc = some resumeMark then ext % 65536 else x.outSeq
  let wrap := ext ≠ 0 ∧ seq < last ∧ last - seq > 32768
  let s := s.setFx g { s.fx g with prevSrc := some f, withheld := 0, outSeq := seq }
  let ts := (p.ts + s.ff g 0xC4 4) % 2 ^ 32
  let stop := s.flag g 0 && (decide (s.ff g 0xA8 8 + 1 ≥ 2 ^ 48) ||
    decide ((s.ff g 0x90 4 + (if wrap then 1 else 0)) * 65536 + seq > 2 ^ 48 - 1))
  if stop then s.keyStop g
  else
    let ok := s.resvOk g
    let s := (((s.fp g 0xC8 8 (ext + 1)).fp g 0xDC 4 ts).fp g 0x1AC 4 s.nowUs)
    let s := if wrap then s.fp g 0x90 4 (s.ff g 0x90 4 + 1) else s
    let s := s.reserve g
    if p.bad.contains g then ((s.cnt FWD_CNT_E2E_COUNT 1).copyDrop g).emitLim 0x1804 g 1 0
    else if !ok then s.copyDrop g
    else
      let s := if s.flag g 0 then s.keyCount g else s
      s.copyQueue ⟨g, seq, ext + 1, ts, p.len, s.raw, false, 0⟩

/-- LAYER_SWITCH (R240): the layer in force moves at a switch point; whether the packet is selected. -/
def State.layerStep (s : State) (f g : Nat) (p : RtpPkt) : State × Bool :=
  let x := s.fx g
  let cs := s.ff g 0xE0 1
  let ct := s.ff g 0xE1 1
  if !x.begun ∨ x.prevSrc ≠ some f then
    if p.auStart ∧ p.rap then
      let s := (s.fp g 0xE0 1 x.wantS).fp g 0xE1 1 x.wantT
      (s.setFx g { s.fx g with begun := true, upRaw := none }, decide (p.sid ≤ x.wantS ∧ p.tid ≤ x.wantT))
    else (s, false)
  else
    let ns := if p.auStart ∧ x.wantS < cs then x.wantS
      else if x.wantS > cs then
        (if p.auStart ∧ p.rap then x.wantS else if p.swS ∧ cs < p.sid ∧ p.sid ≤ x.wantS then p.sid else cs)
      else cs
    let nt := if p.auStart ∧ x.wantT < ct then x.wantT
      else if x.wantT > ct then
        (if p.auStart ∧ p.rap then x.wantT else if p.swT ∧ ct < p.tid ∧ p.tid ≤ x.wantT then p.tid else ct)
      else ct
    let s := if ns = cs then s else s.fp g 0xE0 1 ns
    let s := if nt = ct then s else s.fp g 0xE1 1 nt
    let s := if ns ≥ x.wantS then s.setFx g { s.fx g with upRaw := none } else s
    (s, decide (p.sid ≤ ns ∧ p.tid ≤ nt))

/-- A packet that layer selection withholds from a send flow: no drop (R22), and no gap (R231). -/
def State.copySkip (s : State) (f g : Nat) : State :=
  if (s.fx g).prevSrc = some f then s.setFx g { s.fx g with withheld := (s.fx g).withheld + 1 } else s

/-- Stage 5 and 6 for one send flow. An inter-member flow carries the layers up to its target (R211). -/
def State.copyOne (s : State) (f : Nat) (late : Bool) (p : RtpPkt) (g : Nat) : State :=
  if s.recState 0 g = 3 then s.cnt BRG_CNT_CRC_COUNT 1
  else if late then
    let x := s.fx g
    let inter := s.ff g 4 4 = 0xFFFFFFFF ∧ p.sid ≤ s.ff g 0xE2 1 ∧ p.tid ≤ s.ff g 0xE3 1
    let leg := s.ff g 4 4 ≠ 0xFFFFFFFF ∧ x.begun ∧ x.prevSrc = some f ∧ p.sid ≤ s.ff g 0xE0 1 ∧ p.tid ≤ s.ff g 0xE1 1
    if !s.isVideo g ∨ inter ∨ leg then s.copyDrop g else s
  else if !s.isVideo g then s.copyMake f g p
  else if s.ff g 4 4 = 0xFFFFFFFF then
    if p.sid ≤ s.ff g 0xE2 1 ∧ p.tid ≤ s.ff g 0xE3 1 then s.copyMake f g p else s.copySkip f g
  else
    let (s, sel) := s.layerStep f g p
    if sel then s.copyMake f g p else s.copySkip f g

/-- The copy for a send flow: it waits while the flow's context is fetched (R23). -/
def State.copyStep (s : State) (f : Nat) (late : Bool) (p : RtpPkt) (g : Nat) : State :=
  if (s.fx g).resident then (s.useCtx g).copyOne f late p g else s.ctxNeed g (.copy f late p)

/-- The send flows of a source: those whose SRC names it, and those whose new source has not begun (R231). -/
def State.targets (s : State) (f : Nat) : List Nat :=
  (s.liveRecs 0).filter (fun g => s.ff g 1 1 == 1 && !s.flag g 3 &&
    (s.ff g 0x3C 4 == f || (s.fx g).prevSrc == some f))

/-! ### Receiving (R224, R225, R233, R242) -/

/-- The history ring of a flow: address and size. Bytes at an offset of it, which wraps. -/
def State.ringPut (s : State) (f ofs : Nat) (bs : List Byte) : State :=
  let base := s.ff f 0x140 8
  let room := s.ff f 0x148 4 - ofs
  (s.dputs (base + ofs) (bs.take room)).dputs base (bs.drop room)
def State.ringGet (s : State) (f ofs n : Nat) : List Byte :=
  let base := s.ff f 0x140 8
  let room := s.ff f 0x148 4 - ofs
  s.dbytes (base + ofs) (min n room) ++ s.dbytes base (n - room)
def State.ringPoison (s : State) (f ofs n : Nat) : Bool :=
  let base := s.ff f 0x140 8
  let room := s.ff f 0x148 4 - ofs
  s.poisoned (base + ofs) (min n room) || (decide (n > room) && s.poisoned base (n - room))

/-- The bytes that a history record takes, and the record itself (R242). -/
def histLen (n : Nat) : Nat := 32 + (n + 15) / 16 * 16
def State.histBytes (s : State) (ext : Nat) (p : RtpPkt) : List Byte :=
  let pkt := (p.data ++ List.replicate p.len 0).take p.len
  let pay := pkt.drop p.hdr
  leBytes 8 ext ++ leBytes 4 s.nowUs ++ leBytes 2 pay.length ++ leBytes 1 (p.sid % 16 * 16 + p.tid % 16) ++ leBytes 1 (b2n p.marker) ++
    pkt ++ List.replicate (histLen p.len - 32 - p.len) 0 ++ leBytes 4 (crc32c pay).toNat ++ leBytes 12 0

/-- Keep a packet in the history (R242): its record goes into the ring in DRAM, over the oldest ones where it is full. -/
def State.histAdd (s : State) (f ext : Nat) (p : RtpPkt) : State :=
  let size := s.ff f 0x148 4
  if !s.flag f 4 ∨ histLen p.len > size then s
  else
    let ms := min (s.ff f 0x14C 2) 1000
    let head := s.ff f 0x150 4 % size
    let h : HistRec := ⟨head, ext, s.raw / usU, p.len, p.sid, p.tid, p.marker⟩
    let keep := (h :: (s.fx f).hist).filter (fun h => decide (s.raw / usU - h.us ≤ ms * 1000))
    let rec fit : Nat → List HistRec → List HistRec
      | _, [] => []
      | room, h :: t => if histLen h.len ≤ room then h :: fit (room - histLen h.len) t else []
    let s := (s.setFx f { s.fx f with hist := fit size keep }).ringPut f head (s.histBytes ext p)
    s.fp f 0x150 4 ((head + histLen p.len) % size)

/-- Whether the end-to-end CRC in a history record is that of its payload, and the record holds no poison (R242, R243, R452). -/
def State.histGood (s : State) (f : Nat) (h : HistRec) : Bool :=
  let b := s.ringGet f h.ofs (histLen h.len)
  let n := bytesAt b 0x0C 2
  bytesAt b (histLen h.len - 16) 4 == (crc32c ((b.drop (16 + (h.len - n))).take n)).toNat

/-- Ticks of an RTP clock as 27 MHz ticks (R233). -/
def clockTicks (ts clk : Nat) : Nat := if clk = 0 then Config.noClockTicks ts else ts * 27000000 / clk

/-- The media time of a packet (R233); MEDIA_BASE and TS_OFS are set by the first packet. -/
def State.mediaOf (s : State) (f ts : Nat) : Nat :=
  (s.ff f 0xD0 8 + clockTicks ((ts + s.ff f 0xC4 4) % 2 ^ 32) (s.ff f 0xD8 4)) % 2 ^ 64

/-- The first packet's time base, and the advance of MEDIA_BASE at a wrap. -/
def State.mediaStep (s : State) (f ts : Nat) : State :=
  if s.fresh0 f then
    ((s.fp f 0xC4 4 ((2 ^ 32 - ts % 2 ^ 32) % 2 ^ 32)).fp f 0xD0 8 s.now27).fp f 0xDC 4 ts
  else
    let old := (s.ff f 0xDC 4 + s.ff f 0xC4 4) % 2 ^ 32
    let new := (ts + s.ff f 0xC4 4) % 2 ^ 32
    let s := if new < old ∧ old - new > 2 ^ 31 then
        s.fp f 0xD0 8 ((s.ff f 0xD0 8 + clockTicks (2 ^ 32) (s.ff f 0xD8 4)) % 2 ^ 64)
      else s
    s.fp f 0xDC 4 ts

/-- What becomes of a packet's sequence number (R224). -/
inductive SeqCase where
  | discard (probe : Nat)
  | order (ext gap : Nat)
  | restart
  | late (ext : Nat)
  deriving DecidableEq, Repr

/-- R224 with MAX_DROPOUT 3,000 and MAX_MISORDER 100. -/
def seqCase (first : Bool) (ext : Nat) (probe : Option Nat) (seq : Nat) : SeqCase :=
  match probe with
  | some e => if seq = e then .restart else .discard ((seq + 1) % 65536)
  | none =>
    if first then .order seq 0
    else
      let d := (seq + 65536 - ext % 65536) % 65536
      if d = 0 then .late ext
      else if d ≤ 3000 then .order (ext + d) (d - 1)
      else if 65536 - d ≤ 100 then .late (ext - (65536 - d))
      else .discard ((seq + 1) % 65536)

/-- A marker closes the access unit that ends with packet `ext` (R225), once every number of it is there or is lost: part of it is lost where
one is missing. One whose successor is closed already comes too late. -/
def State.auDone (s : State) (f ext c : Nat) (p : RtpPkt) : State :=
  let x := s.fx f
  if ext < x.auEnd then s
  else
    let low := if x.auBeg ≤ ext then max x.auBeg x.auEnd else x.auEnd
    let gap := x.auMiss.any (fun m => decide (low ≤ m) && decide (m < ext))
    let au := { p.au with media := s.mediaOf f p.ts, layers := p.au.layers.map (fun l => { l with lost := l.lost || gap }) }
    (s.setFx f { x with auMiss := x.auMiss.filter (fun m => decide (ext < m)), auEnd := ext + 1 }).auClose c au

/-- The part common to packets in order, late and repaired: counters, history, decode context (R224, R225, R242). -/
def State.rxStore (s : State) (f ext : Nat) (p : RtpPkt) : State :=
  let s := (((s.fcnt f 0x180 8 1).fcnt f 0x188 8 p.len).fp f 0x1AC 4 s.nowUs).histAdd f ext p
  let x := s.fx f
  let s := s.setFx f { x with
    fbPkts := if s.flag f 5 ∧ x.fbPkts.length < 16384 then x.fbPkts ++ [(ext, s.raw)] else x.fbPkts
    layBits := tset (fun _ => 0) x.layBits (8 * (p.sid % 4) + p.tid % 8)
      (tget (fun _ => 0) x.layBits (8 * (p.sid % 4) + p.tid % 8) + 8 * p.len)
    gaps := x.gaps.filter (fun y => y.1 ≠ ext)
    auMiss := x.auMiss.filter (· ≠ ext) }
  let c := s.ff f 0x3C 4
  if c < 8192 ∧ s.isVideo f ∧ p.marker then s.auDone f ext c p else s

/-- The interarrival jitter of an audio flow after a packet (R256), by RFC 3550's recurrence in ticks of the RTP clock, kept 16-fold. -/
def State.jitterStep (s : State) (f ts : Nat) : State :=
  if s.isVideo f then s
  else
    let transit := (s.raw * s.ff f 0xD8 4 / secU + 2 ^ 32 - ts % 2 ^ 32) % 2 ^ 32
    let (old, j) := (tfind s.aud.jit f).getD (transit, 0)
    let d := (toSigned 32 ((transit + 2 ^ 32 - old) % 2 ^ 32)).natAbs
    { s with aud := { s.aud with jit := tput s.aud.jit f (transit, j + d - (j + 8) / 16) } }

/-- An in-order packet: gaps, media base, random-access points, copies. -/
def State.rxOrder (s : State) (f ext gap : Nat) (p : RtpPkt) : State :=
  let s := s.mediaStep f p.ts
  let s := s.fp f 0xC8 8 ext
  let s := if gap > 0 then
      let s := s.fcnt f 0x190 4 gap
      let x := s.fx f
      let miss := (List.range gap).map (fun i => ext - gap + i)
      let nack := if s.isVideo f ∧ s.ff f 0x35 1 ≠ 0 then miss.map (fun m => (m, s.raw)) else []
      s.setFx f { x with gaps := x.gaps ++ nack, auMiss := if s.ff f 0x3C 4 < 8192 then x.auMiss ++ miss else x.auMiss }
    else s
  let s := if p.auStart then s.setFx f { s.fx f with auBeg := ext } else s
  let s := (s.rxStore f ext p).jitterStep f p.ts
  let s := if p.rap ∧ p.auStart then s.kfEnd f else s
  (s.targets f).foldl (fun s g => s.copyStep f false p g) s

/-- The gyle check of stage 3 (R246, R436): a lower gyle is discarded, a higher one is noted and stops an ACTIVE member. -/
def State.rxGyle (s : State) (f : Nat) (p : RtpPkt) : State × Bool :=
  if s.ff f 0x36 1 = 0 then (s, true)
  else match p.gyle with
    | none => (s, true)
    | some g =>
      if g < s.gyleSeen then (s.cnt FWD_CNT_GYLE_COUNT 1, false)
      else ((s.noteGyle g).gyleStop, true)

/-- The packet that a retransmission carries (R225, RFC 4588): its original sequence number, from the payload, and the flow's own SSRC and
payload type. -/
def State.rtxInner (s : State) (f : Nat) (p : RtpPkt) : RtpPkt :=
  let d := p.data
  let osn := (d.getD p.hdr 0).toNat * 256 + (d.getD (p.hdr + 1) 0).toNat
  { p with
    seq := osn
    len := p.len - 2
    data := d.take 1 ++ leBytes 1 (128 * b2n p.marker + s.ff f 0x34 1 % 128) ++ (leBytes 2 osn).reverse ++ (d.drop 4).take 4 ++
      (leBytes 4 (s.ff f 0x0C 4)).reverse ++ (d.take p.hdr).drop 12 ++ d.drop (p.hdr + 2) }

/-- A repaired packet (R225): it enters the history and the assembly buffer and is not forwarded; each copy it would have made is a drop (R224).
The device holds no replay window of the retransmission stream. -/
def State.rxRepair (s : State) (f : Nat) (p : RtpPkt) : State :=
  if s.flag f 0 ∧ !p.authOk then s.authFail f
  else
    let s := if s.flag f 0 then s.keyCount f else s
    let (s, ok) := s.rxGyle f p
    let q := s.rtxInner f p
    let d := (s.ff f 0xC8 8 + 65536 - q.seq) % 65536
    if !ok ∨ s.fresh0 f ∨ 32768 ≤ d ∨ s.ff f 0xC8 8 < d then s
    else (s.targets f).foldl (fun s g => s.copyStep f true q g) (s.rxStore f (s.ff f 0xC8 8 - d) q)

/-- Stages 3 to 6 of an RTP packet of a resident flow. -/
def State.rxPacket (s : State) (f : Nat) (p : RtpPkt) : State :=
  if s.recState 0 f = 3 then s.cnt BRG_CNT_CRC_COUNT 1
  else if s.recState 0 f = 0 then s
  else if s.isRtx f p then (s.useCtx f).rxRepair f p
  else
    let s := s.useCtx f
    let first := s.fresh0 f
    let ext := s.ff f 0xC8 8
    let probe := (s.fx f).probe
    let (s, ok) := s.unprotect f p
    if !ok then s
    else
      let (s, ok) := s.rxGyle f p
      if !ok then s
      else match seqCase first ext probe p.seq with
        | .discard e => s.setFx f { s.fx f with probe := some e }
        | .late e => (s.targets f).foldl (fun s g => s.copyStep f true p g) (s.rxStore f e p)
        | .order e gap => s.rxOrder f e gap p
        | .restart =>
          let s := (s.setFx f { s.fx f with probe := none, gaps := [], auMiss := [], auBeg := 0, auEnd := 0 }).emit 0x1806 f (evArg [(0, 2, p.seq)])
          let ts := s.targets f
          let s := ts.foldl (fun s g => s.setFx g { s.fx g with begun := false, prevSrc := none }) s
          let s := if ts.any s.isVideo then s.kfRequest f false else s
          s.rxOrder f p.seq 0 p

/-! ### Retransmission (R243) -/

/-- The stretch of the sequence map that holds an outgoing sequence number: the newest entry at or before it, with the source
of that stretch (chapter 10, Coinciding events). -/
def mapFind (ext : Nat) (seq : Nat) : List (Nat × Nat × Nat) → Option (Nat × Nat)
  | [] => none
  | (first, ofs, src) :: t =>
    let out := if seq ≤ ext % 65536 then ext / 65536 * 65536 + seq else ext / 65536 * 65536 + seq - 65536
    if first ≤ out then some (ofs, src) else mapFind ext seq t

/-- Serve one requested sequence number; a poisoned record is not served (R452), and a retransmission counts under the flow's keys (R230). -/
def State.rtxOne (s : State) (f : Nat) (bad : List Nat) (seq : Nat) : State :=
  let miss := s.cnt FWD_CNT_NACK_MISS_COUNT 1
  match mapFind (s.ff f 0xC8 8) seq (s.fx f).smap with
  | none => miss
  | some (ofs, src) =>
    let want := (seq + 65536 - ofs) % 65536
    match (s.fx src).hist.find? (fun h => h.ext % 65536 == want) with
    | none => miss
    | some h =>
      let x := s.fx f
      let cap := match s.flowLeg f with | some l => s.legEst l * 25 | none => 2 ^ 64
      let n := s.ff f 0x19C 4
      let used := match s.flowLeg f with | some l => ((s.legSends l).map (fun g => (s.fx g).rtxBits)).sum | none => 0
      if used + 8 * h.len > cap then miss
      else if n ≥ 2 ^ 32 - 1 then s
      else if s.ringPoison src h.ofs (histLen h.len) then miss
      else if bad.contains seq ∨ !s.histGood src h then ((s.cnt FWD_CNT_E2E_COUNT 1).copyDrop f).emitLim 0x1804 f 1 0
      else if s.recState 0 f = 2 then s.copyDrop f
      else if s.flag f 0 ∧ s.ff f 0xA8 8 + 1 ≥ 2 ^ 48 then s.keyStop f
      else
        let s := s.setFx f { x with rtxBits := x.rtxBits + 8 * h.len }
        let s := if s.flag f 0 then s.keyCount f else s
        (s.fcnt f 0x19C 4 1).copyQueue ⟨f, n, n, 0, h.len, s.raw, true, seq⟩

/-! ### RTCP (R226, R227) -/

/-- The middle 32 bits of the NTP timestamp of presented time, and all 64. -/
def State.ntpMid (s : State) : Nat := ofSigned 32 (s.now * 65536 / ((65536 * 1000000000 : Nat) : Int))
def State.ntp (s : State) : Nat := ofSigned 64 (s.now * ((2 ^ 32 : Nat) : Int) / ((65536 * 1000000000 : Nat) : Int))

/-- Keyframe needs of a source: a flow's are aggregated (R241), a bridge output's next picture is intra. -/
def State.kfSource (s : State) (src : Nat) (fir : Bool) : State :=
  if src ≥ 2 ^ 31 then
    let o := src % 2 ^ 31
    if s.brg.intraNext.contains o then s else { s with brg := { s.brg with intraNext := s.brg.intraNext ++ [o] } }
  else s.kfRequest src fir

/-- What an RTCP packet about a resident flow does (R226, R235, R241, R243): feedback for a send flow of a leg feeds the leg's estimator. -/
def State.rtcpDo (s : State) (f : Nat) : RtcpIn → State
  | .srRr lsr dlsr =>
    if s.isSend f ∧ lsr ≠ 0 then s.fp f 0x110 4 ((s.ntpMid + 2 ^ 33 - lsr % 2 ^ 32 - dlsr % 2 ^ 32) % 2 ^ 32 * 1000000 / 65536) else s
  | .pliFir fir => if s.isSend f then (s.fcnt f 0x1A8 4 1).kfSource (s.ff f 0x3C 4) fir else s
  | .feedback bits lost seen delaySum delayCnt =>
    if !s.isSend f then s
    else match (s.flowLeg f).bind s.estFlow with
      | none => s
      | some e =>
        let x := s.fx e
        (s.setFx e { x with
          fbBits := x.fbBits + bits, fbLost := x.fbLost + lost, fbSeen := x.fbSeen + seen
          fbDelay := x.fbDelay + delaySum, fbCnt := x.fbCnt + delayCnt, fbRaw := s.raw
          outRaw := none }).fp e 0x128 4 s.nowUs
  | .bye ssrc len words => (s.puntPut f len words).emit 0x1809 f (evArg [(0, 4, ssrc)])
  | .nack seqs bad =>
    if !s.isSend f then s
    else
      let s := s.fcnt f 0x198 4 1
      if s.ff f 0x35 1 = 0 then s else seqs.foldl (fun s q => s.rtxOne f bad q) s

/-- A received RTCP packet about a flow: one whose context is missing waits for its fetch (R23), and one of a flow in STATE 3 is dropped. -/
def State.rtcpIn (s : State) (f : Nat) (r : RtcpIn) : State :=
  if s.recState 0 f = 0 then s
  else if !(s.fx f).resident then s.ctxNeed f (.rtcp r)
  else if s.recState 0 f = 3 then s.cnt BRG_CNT_CRC_COUNT 1
  else (s.useCtx f).rtcpDo f r

/-- RTCP_SR_RR_RX (R226): a report block about a send flow, with LSR and DLSR (RFC 3550). -/
def execRtcpSrRrRx (f : Fin 2097152) (lsr dlsr : Nat) (s : State) : Host.Outcome State Fault Refusal :=
  .next (s.rtcpIn f (.srRr lsr dlsr))

/-- RTCP_PLI_FIR_RX (R226, R241). -/
def execRtcpPliFirRx (f : Fin 2097152) (fir : Bool) (s : State) : Host.Outcome State Fault Refusal := .next (s.rtcpIn f (.pliFir fir))

/-- RTCP_FEEDBACK_RX (R226, R235): RFC 8888 feedback. -/
def execRtcpFeedbackRx (f : Fin 2097152) (bits lost seen : Nat) (delaySum : Int) (delayCnt : Nat) (s : State) :
    Host.Outcome State Fault Refusal :=
  .next (s.rtcpIn f (.feedback bits lost seen delaySum delayCnt))

/-- RTCP_BYE_RX (R226): punted, with 0x1809. -/
def execRtcpByeRx (f : Fin 2097152) (ssrc len : Nat) (words : List W32) (s : State) : Host.Outcome State Fault Refusal :=
  .next (s.rtcpIn f (.bye ssrc len words))

/-- RTCP_NACK_RX (R226, R243): `bad` are the requested packets whose payload fails its CRC. -/
def execRtcpNackRx (f : Fin 2097152) (seqs bad : List Nat) (s : State) : Host.Outcome State Fault Refusal := .next (s.rtcpIn f (.nack seqs bad))

/-- RTP_PACKET_RX (R220, R221, R223): a frame passes the pipeline; one whose context is missing waits for its fetch (R23). Before flow
classification the UDP port of the encapsulation is taken out: a peer's datagram is YZ_UDP_RX's, any other is counted (R409). What an RTCP packet
says comes with the commands of R226. -/
def execRtpPacketRx (p : RtpPkt) (s : State) : Host.Outcome State Fault Refusal :=
  .next (
    if !s.bit FWD_CFG_EN ∨ !s.bit BRG_CFG_EN ∨ !s.blockRuns 102 ∨ !p.hdrOk ∨ p.frame < 64 ∨ p.frame > 9216 then s
    else if s.yzPort p.mac p.lport then (if (s.peerOfIp p.raddr).isSome then s else s.cnt YZ_CNT_UNKNOWN_COUNT 1)
    else if p.b0 < 4 ∨ (20 ≤ p.b0 ∧ p.b0 < 64) then
      match s.classifyPorts p with
      | some f => s.puntPut f p.len p.words
      | none => s.cnt FWD_CNT_NOMATCH_COUNT 1
    else if 128 ≤ p.b0 ∧ p.b0 < 192 then
      if 192 ≤ p.b1 ∧ p.b1 < 224 then
        match s.classifyRtcp p with
        | none => s.cnt FWD_CNT_NOMATCH_COUNT 1
        | some f => if s.flag f 0 ∧ !p.authOk then s.authFail f else s
      else match s.classify p with
        | none => s.cnt FWD_CNT_NOMATCH_COUNT 1
        | some f => if (s.fx f).resident then s.rxPacket f p else s.ctxNeed f (.rtp p)
    else s.cnt FWD_CNT_NOMATCH_COUNT 1)

/-- What has waited for a context goes on. -/
def State.ctxGo (s : State) (f : Nat) : CtxWait → State
  | .rtp p => s.rxPacket f p
  | .copy src late p => s.copyOne src late p f
  | .rtcp r => s.rtcpIn f r

/-- CONTEXT_FETCH_DONE (R23, R214): one of the 64 fetches that run ends; its packets proceed in their order, or, where the
record's CRC fails, the flow enters STATE 3 and they are dropped. -/
def execContextFetchDone (f : Fin 2097152) (crcOk : Bool) (s : State) : Host.Outcome State Fault Refusal :=
  .next (
    if !(s.brg.fetches.take 64).contains f.val then s
    else
      let ps := (s.fx f).waiting
      let s := (s.setFx f { s.fx f with waiting := [] }).ctxLoad f
      let s := if crcOk then s
        else (s.rp 0 f 0 1 3).emit 0x1703 (s.ff f 8 2) (evArg [(0, 1, 0), (4, 4, f)])
      ps.foldl (fun s w => s.ctxGo f w) s)

/-- CONTEXT_WRITEBACK (R214): a resident context that has been dirty for WB_MS is written back. -/
def execContextWriteback (f : Fin 2097152) (s : State) : Host.Outcome State Fault Refusal :=
  let x := s.fx f
  .next (if x.resident ∧ x.dirty ∧ s.raw - x.dirtyRaw ≥ s.fld BRG_CFG_WB_MS * msU then s.ctxClean f else s)

/-- Whether a flow is active: neither idle nor refused for its CRC (R214, R215). -/
def State.flowActive (s : State) (f : Nat) : Bool := s.recState 0 f == 1 || s.recState 0 f == 2

/-- The RTP timestamp that corresponds to the present time: the last one sent, with the time since at the flow's clock. -/
def State.rtpNow (s : State) (f : Nat) : Nat :=
  (s.ff f 0xDC 4 + (s.nowUs + 2 ^ 32 - s.ff f 0x1AC 4) % 2 ^ 32 * s.ff f 0xD8 4 / 1000000) % 2 ^ 32

/-- The report that a flow sends (R227): SR of a send flow, RR of a receive flow. -/
def State.flowReport (s : State) (f : Nat) : Out :=
  if s.isSend f then .senderReport f s.ntp (s.rtpNow f) (s.ff f 0x180 4) (s.ff f 0x188 4)
  else .receiverReport f (s.ff f 0xC8 4) (s.ff f 0x190 3)

/-- RTCP_REPORT_SEND (R227): once per interval, at the flow's offset in it. -/
def execRtcpReportSend (f : Fin 2097152) (s : State) : Host.Outcome State Fault Refusal :=
  let t := s.fld FWD_CFG2_RTCP_MS * msU
  let ofs := f.val % 64 * t / 64
  let n := if t = 0 then 0 else (s.raw + t - ofs) / t
  let x := s.fx f
  .next (if !s.flowActive f ∨ n ≤ x.repRaw ∨ !s.egressOk false then s
    else
      let s := s.setFx f { x with repRaw := n }
      let (s, ok) := s.srtcpNext f
      if ok then s.send (s.flowReport f) else s)

/-- FEEDBACK_REPORT_SEND (R227): every FB_MS a receive flow with FLAGS bit 5 reports every packet since its last report. -/
def execFeedbackReportSend (f : Fin 2097152) (s : State) : Host.Outcome State Fault Refusal :=
  let x := s.fx f
  .next (if s.flowActive f ∧ !s.isSend f ∧ s.flag f 5 ∧ s.raw - x.fbkRaw ≥ s.fld FWD_CFG_FB_MS * msU ∧ s.egressOk false then
      let s := s.setFx f { x with fbkRaw := s.raw, fbPkts := [] }
      let (s, ok) := s.srtcpNext f
      if ok then s.send (.feedback f x.fbPkts) else s
    else s)

/-- RX_NACK_SEND (R225): one generic NACK for the gap found first, 5 ms after it was found. -/
def execRxNackSend (f : Fin 2097152) (s : State) : Host.Outcome State Fault Refusal :=
  .next (match (s.fx f).gaps with
    | [] => s
    | (_, r) :: _ =>
      if s.raw - r ≥ 5 * msU ∧ s.egressOk false then
        let x := s.fx f
        let due := x.gaps.filter (fun y => y.2 = r)
        let s := s.setFx f { x with gaps := x.gaps.filter (fun y => y.2 ≠ r) }
        let (s, ok) := s.srtcpNext f
        if ok then (s.fcnt f 0x198 4 1).send (.nack f (due.map (fun y => y.1 % 65536))) else s
      else s)

/-! ### Punt window (R223, R249) -/

/-- The effect of FWD_PUNT_CMD. -/
def State.puntCmd (s : State) (v : W32) : State :=
  match fieldGet v 28 4 with
  | 1 =>
    match s.brg.punt with
    | [] => s.wr (FWD_PUNT_DATA 0) 0
    | q :: t =>
      let s := { s with brg := { s.brg with punt := t } }
      let s := (s.put FWD_PUNT_STAT_DEPTH (min t.length 255)).put FWD_PUNT_FLOW_FLOW q.flow
      (s.wr (FWD_PUNT_DATA 0) (BitVec.ofNat 32 q.len)).winPut (FWD_PUNT_DATA 1) (q.words.take 384)
  | 2 =>
    let f := fieldGet v 0 22
    if s.recState 0 f ≠ 0 ∧ s.egressOk false then s.send (.punt f (s.rd (FWD_PUNT_DATA 0)).toNat) else s
  | _ => s

/-- PUNT_FETCH (R223). -/
def execPuntFetch (p : Port) (s : State) : Host.Outcome State Fault Refusal :=
  .next (s.portWrite p FWD_PUNT_CMD (BitVec.ofNat 32 (1 * 2 ^ 28)) (fun s => s.puntCmd (BitVec.ofNat 32 (1 * 2 ^ 28))))

/-- PUNT_SEND (R223). -/
def execPuntSend (p : Port) (f : Fin 2097152) (s : State) : Host.Outcome State Fault Refusal :=
  .next (s.portWrite p FWD_PUNT_CMD (BitVec.ofNat 32 (2 * 2 ^ 28 + f))
    (fun s => s.puntCmd (BitVec.ofNat 32 (2 * 2 ^ 28 + f))))

end Sys2Proof.Machine
end

