-- ==== Sys2Proof/Machine/Adapt.lean ====
section
/-! DEFINITION. The periodic work of forwarding: the estimator, pacing, layer rates, targets of bridge outputs, keyframe
holds and usage (R204, R206, R235 to R237, R239 to R241). -/

namespace Sys2Proof.Machine

/-- Periodic work number `key` runs once in each period of `t` of the raw count. Kinds: 0 a leg's estimator, 1 a source's
layer rates, 2 a session's usage, 3 an output's target. -/
def State.dueEvery (s : State) (key t : Nat) : Option State :=
  let n := s.raw / t
  if n > tget (fun _ => 0) s.brg.due key then
    some { s with brg := { s.brg with due := tset (fun _ => 0) s.brg.due key n } }
  else none

/-! ### The estimator (R235) -/

/-- What an interval of feedback says: bits reported received, lost or marked, reported, and the mean one-way delay in µs (none when
no delay was reported). -/
structure FbInterval where
  bits : Nat
  lost : Nat
  seen : Nat
  q    : Option Int
  deriving DecidableEq, Repr

/-- One step of the estimate with feedback (R235): `qmin` and `qPrev` as they stand. An interval without reported packets
has no loss ratio; the estimate it leaves is free. A loss of 1 has no 16-bit fraction; LOSS is free then. -/
def bweStep (est mn mx : Nat) (i : FbInterval) (qmin qPrev : Int) (empty : Nat) : Nat :=
  let q := i.q.getD qPrev
  let rising := decide (q - qmin > 25000) && decide (q > qPrev)
  let e :=
    if i.seen = 0 then empty
    else if i.lost * 10 > i.seen then est * (2 * i.seen - i.lost) / (2 * i.seen)
    else if rising ∨ i.lost * 50 > i.seen then min est (85 * i.bits / 10000)
    else if 2 * i.bits ≥ est * 100 then est * 108 / 100
    else est
  max mn (min mx e)

/-- BWE_STEP of a leg's estimator flow. -/
def State.bweFlow (s : State) (f : Nat) : State :=
  let x := s.fx f
  let est := s.ff f 0x100 4
  let mn := s.ff f 0x108 4
  let mx := s.ff f 0x10C 4
  if s.raw - x.fbRaw ≥ 500 * msU then
    let n := (s.raw - x.fbRaw) / (500 * msU)
    let s := if x.outRaw.isNone then s.emit 0x1808 f (evArg [(0, 4, est)]) else s
    if n > x.outRaw.getD 0 then (s.setFx f { s.fx f with outRaw := some n }).fp f 0x100 4 (max mn (est / 2)) else s
  else
    let q := if x.fbCnt = 0 then none else some (x.fbDelay / (x.fbCnt : Int))
    let win := match q with
      | some v => (x.qWin.filter (fun y => decide (s.raw - y.1 < 10 * secU))) ++ [(s.raw, v)]
      | none => x.qWin.filter (fun y => decide (s.raw - y.1 < 10 * secU))
    let qmin := (win.map (·.2)).foldl min (q.getD x.qPrev)
    let i : FbInterval := ⟨x.fbBits, x.fbLost, x.fbSeen, q⟩
    let e := bweStep est mn mx i qmin x.qPrev (Config.bweEmpty est s.fresh)
    let loss := if x.fbSeen = 0 then s.ff f 0x114 2
      else if x.fbLost ≥ x.fbSeen then Config.lossFull est s.fresh % 65536 else x.fbLost * 65536 / x.fbSeen
    let s := (s.fp f 0x100 4 e).fp f 0x114 2 loss
    let s := s.setFx f { s.fx f with
      qWin := win, qPrev := q.getD x.qPrev, fbBits := 0, fbLost := 0, fbSeen := 0, fbDelay := 0, fbCnt := 0, outRaw := none }
    s.draw

/-- BWE_STEP (R235): every 100 ms for a leg; its retransmission allowance starts again, the bits that its flows sent enter their rates (R204), and its layers are chosen (R239). -/
def execBweStep (l : Fin 262144) (s : State) : Host.Outcome State Fault Refusal :=
  .next (if s.recState 3 l ≠ 1 then s
    else match s.dueEvery l (100 * msU) with
      | none => s
      | some s =>
        let s := match s.estFlow l with | some f => s.bweFlow f | none => s
        let s := (s.legSends l).foldl (fun s f => s.setFx f { s.fx f with rtxBits := 0, txBits := 0, txWin := ((s.fx f).txBits :: (s.fx f).txWin).take 10 }) s
        s.layerSelect l)

/-- OUTPUT_TARGET_UPDATE (R237). -/
def execOutputTargetUpdate (o : Fin 4096) (s : State) : Host.Outcome State Fault Refusal :=
  .next (if s.recState 4 o ≠ 1 then s
    else match s.dueEvery (3 * 2 ^ 24 + o) (100 * msU) with
      | none => s
      | some s =>
        let ls := (s.liveRecs 3).filter (fun l => s.legKind l == 1 && s.rf 3 l 0x14 4 == o.val)
        let ts := ls.map (fun l => s.legEst l * 15 / 16 - s.legAudio l)
        let mx := s.rf 4 o 0x20 4
        let t := min mx (max 100 (ts.foldl min mx))
        { s with brg := { s.brg with outKbps := tset (fun _ => 0) s.brg.outKbps o t } })

/-- LAYER_RATE_UPDATE (R239): the table of a source flow, and the layers of the legs that take it. -/
def execLayerRateUpdate (f : Fin 2097152) (s : State) : Host.Outcome State Fault Refusal :=
  .next (if s.recState 0 f = 0 ∨ s.isSend f then s
    else match s.dueEvery (1 * 2 ^ 24 + f) (100 * msU) with
      | none => s
      | some s =>
        let s := s.layUpdate f
        let legs := ((s.sendFlows f).filterMap s.flowLeg).eraseDups
        legs.foldl (fun s l => s.layerSelect l) s)

/-! ### Pacing (R236) -/

/-- The time that a copy of `len` bytes takes at PACE / 16 × BWE_KBPS. -/
def State.copyTime (s : State) (l len : Nat) : Nat :=
  let r := s.fld FWD_CFG_PACE * s.legEst l
  if r = 0 then 0 else len * 8 * 16 * secU / (r * 1000)

/-- PACED_COPY_SEND (R236): the head of a leg's pacer leaves once the pace allows it; at a pace of 0 none leaves. -/
def execPacedCopySend (l : Fin 262144) (s : State) : Host.Outcome State Fault Refusal :=
  let p := tget (fun _ => Pacer.zero) s.brg.pacers l
  .next (match p.queue with
    | [] => s
    | c :: t =>
      if s.raw < p.raw ∨ s.raw - c.raw > s.fld FWD_CFG2_MAX_QDLY * msU ∨ s.fld FWD_CFG_PACE * s.legEst l = 0 then s
      else
        let p' : Pacer := ⟨t, max s.raw p.raw + s.copyTime l c.len⟩
        { s with brg := { s.brg with pacers := tset (fun _ => Pacer.zero) s.brg.pacers l p' } }.copySend c)

/-- PACER_DROP (R236): the head of a pacer that has waited longer than MAX_QDLY is dropped and counted. -/
def execPacerDrop (l : Fin 262144) (s : State) : Host.Outcome State Fault Refusal :=
  let p := tget (fun _ => Pacer.zero) s.brg.pacers l
  .next (match p.queue with
    | [] => s
    | c :: t =>
      if s.raw - c.raw > s.fld FWD_CFG2_MAX_QDLY * msU then
        let s := { s with brg := { s.brg with pacers := tset (fun _ => Pacer.zero) s.brg.pacers l { p with queue := t } } }
        let s := s.copyDrop c.flow
        let m := s.ff c.flow 0x0A 1
        if m < 16 then s.cnt (FWD_EG_CNT_DROP_COUNT m) 1 else s
      else s)

/-! ### Keyframes (R240, R241) -/

/-- UPSWITCH_PLI_TIMEOUT (R240): a spatial up-switch that has waited KF_WAIT × 100 ms asks its source. -/
def execUpswitchPliTimeout (f : Fin 2097152) (s : State) : Host.Outcome State Fault Refusal :=
  .next (match (s.fx f).upRaw with
    | none => s
    | some r =>
      if s.recState 0 f ≠ 0 ∧ s.isSend f ∧ s.raw - r ≥ s.fld FWD_CFG2_KF_WAIT * 100 * msU then
        (s.setFx f { s.fx f with upRaw := some s.raw }).kfSource (s.ff f 0x3C 4) false
      else s)

/-- KEYFRAME_HOLD_END (R241): one further request when one arrived during the hold and no random-access point did. -/
def execKeyframeHoldEnd (f : Fin 2097152) (s : State) : Host.Outcome State Fault Refusal :=
  let x := s.fx f
  .next (match x.holdRaw with
    | none => s
    | some r =>
      if s.raw - r ≥ s.fld FWD_CFG_KF_HOLD * 10 * msU then
        let s := s.setFx f { x with holdRaw := none, pendReq := false, pendFir := false }
        if x.pendReq ∧ !x.rapSince then s.kfRequest f x.pendFir else s
      else s)

/-- FWD_USAGE_UPDATE (R204 to R206): every 100 ms the forwarded usage of a session, its lowerings and its OVER bit. -/
def execFwdUsageUpdate (x : Fin 32768) (s : State) : Host.Outcome State Fault Refusal :=
  .next (if s.recState 2 x ≠ 1 then s
    else match s.dueEvery (2 * 2 ^ 24 + x) (100 * msU) with
      | none => s
      | some s =>
        let s := s.fwdUse x
        let s := if s.overQ x 1 then State.lowerFwd 65536 x s else s
        s.overClear x [1])

end Sys2Proof.Machine
end

