-- ==== Sys2Proof/Machine/Fp.lean ====
section
/-! DEFINITION. FP32 arithmetic of the kettle cores (R283, R284, R318): round to nearest, ties to even, subnormal operands
and results replaced by zero of the same sign. -/

namespace Sys2Proof.Machine

/-- An FP32 value: a NaN, an infinity, or ± m · 2^e. -/
inductive FVal where
  | nan
  | inf (neg : Bool)
  | fin (neg : Bool) (m : Nat) (e : Int)
  deriving DecidableEq, Repr

/-- The default NaN (its code is PRESUMED to be that of IEEE 754's usual quiet NaN). -/
def fpNan : W32 := 0x7FC00000

/-- A word from sign, biased exponent and fraction. -/
def fpBits (neg : Bool) (ex frac : Nat) : W32 := BitVec.ofNat 32 (b2n neg * 2 ^ 31 + ex * 2 ^ 23 + frac)

/-- Read a word; a subnormal counts as zero of its sign. -/
def fpUnpack (w : W32) : FVal :=
  let neg := nbit w.toNat 31
  let ex := fieldGet w 23 8
  let fr := fieldGet w 0 23
  if ex = 255 then (if fr = 0 then .inf neg else .nan)
  else if ex = 0 then .fin neg 0 0
  else .fin neg (2 ^ 23 + fr) (Int.ofNat ex - 150)

/-- Shift right with rounding to nearest, ties to even. -/
def rneShift (m sh : Nat) : Nat :=
  let q := m / 2 ^ sh
  let r := m % 2 ^ sh
  if 2 * r > 2 ^ sh ∨ (2 * r = 2 ^ sh ∧ q % 2 = 1) then q + 1 else q

/-- Round ± m · 2^e to FP32. -/
def fpRound (neg : Bool) (m : Nat) (e : Int) : W32 :=
  if m = 0 then fpBits neg 0 0
  else
    let bits := Nat.log2 m + 1
    let q := if bits ≤ 24 then m * 2 ^ (24 - bits) else rneShift m (bits - 24)
    let e1 : Int := e + Int.ofNat bits - 24
    let (q, e1) := if q = 2 ^ 24 then (2 ^ 23, e1 + 1) else (q, e1)
    let be := e1 + 150
    if be ≥ 255 then fpBits neg 255 0
    else if be ≤ 0 then fpBits neg 0 0
    else fpBits neg be.toNat (q - 2 ^ 23)

/-- Write a value. -/
def fpPack : FVal → W32
  | .nan => fpNan
  | .inf n => fpBits n 255 0
  | .fin n m e => fpRound n m e

/-- The signed mantissa at exponent `e0` ≤ e. -/
def fpAlign (neg : Bool) (m : Nat) (e e0 : Int) : Int :=
  let v := Int.ofNat (m * 2 ^ (e - e0).toNat)
  if neg then -v else v

/-- Exact sum, with the sign rules of round to nearest for zero. -/
def fvAdd : FVal → FVal → FVal
  | .nan, _ => .nan
  | _, .nan => .nan
  | .inf a, .inf b => if a = b then .inf a else .nan
  | .inf a, .fin .. => .inf a
  | .fin .., .inf b => .inf b
  | .fin n m e, .fin n' m' e' =>
    if m = 0 ∧ m' = 0 then .fin (n && n') 0 0
    else if m = 0 then .fin n' m' e'
    else if m' = 0 then .fin n m e
    else
      let e0 := min e e'
      let v := fpAlign n m e e0 + fpAlign n' m' e' e0
      if v = 0 then .fin false 0 0 else .fin (decide (v < 0)) v.natAbs e0

/-- Negation, exact product. -/
def fvNeg : FVal → FVal
  | .nan => .nan
  | .inf n => .inf (!n)
  | .fin n m e => .fin (!n) m e
def fvMul : FVal → FVal → FVal
  | .nan, _ => .nan
  | _, .nan => .nan
  | .inf a, .inf b => .inf (a != b)
  | .inf a, .fin n m _ => if m = 0 then .nan else .inf (a != n)
  | .fin n m _, .inf b => if m = 0 then .nan else .inf (n != b)
  | .fin n m e, .fin n' m' e' => .fin (n != n') (m * m') (e + e')

/-- A result word with whether SR.NV is set by it: a NaN result is an invalid one (R281, R283). -/
structure FRes where
  w  : W32
  nv : Bool
  deriving DecidableEq, Repr

/-- The result of an exact value. -/
def FRes.of (v : FVal) : FRes := ⟨fpPack v, v == .nan⟩

/-- Sum, difference, product of words, and acc ± a · b with one rounding (R319). -/
def fpAdd (a b : W32) : FRes := .of (fvAdd (fpUnpack a) (fpUnpack b))
def fpSub (a b : W32) : FRes := .of (fvAdd (fpUnpack a) (fvNeg (fpUnpack b)))
def fpMul (a b : W32) : FRes := .of (fvMul (fpUnpack a) (fpUnpack b))
def fpMac (neg : Bool) (acc a b : W32) : FRes :=
  let p := fvMul (fpUnpack a) (fpUnpack b)
  .of (fvAdd (fpUnpack acc) (if neg then fvNeg p else p))

/-- Sign inverted, NaN included; the sign cleared. -/
def fpNeg (a : W32) : FRes :=
  match fpUnpack a with
  | .nan => ⟨a ^^^ 0x80000000, true⟩
  | v => .of (fvNeg v)
def fpAbs (a : W32) : FRes :=
  match fpUnpack a with
  | .nan => ⟨a &&& 0x7FFFFFFF, true⟩
  | .inf _ => .of (.inf false)
  | .fin _ m e => .of (.fin false m e)

/-- Order of two values: less, equal, unordered. −0 and +0 are equal. -/
def fvLt : FVal → FVal → Bool
  | .nan, _ => false
  | _, .nan => false
  | .inf a, .inf b => a && !b
  | .inf a, .fin .. => a
  | .fin .., .inf b => !b
  | .fin n m e, .fin n' m' e' =>
    let e0 := min e e'
    decide (fpAlign n m e e0 < fpAlign n' m' e' e0)
def fvEq : FVal → FVal → Bool
  | .nan, _ => false
  | _, .nan => false
  | a, b => !fvLt a b && !fvLt b a
def fvNeg? : FVal → Bool
  | .nan => false
  | .inf n => n
  | .fin n _ _ => n

/-- The lesser and the greater of two words (R318): −0 counts below +0, a NaN gives way to a number. -/
def fpMin (a b : W32) : FRes :=
  let x := fpUnpack a
  let y := fpUnpack b
  if x = .nan then .of y
  else if y = .nan then .of x
  else if fvLt x y then .of x
  else if fvLt y x then .of y
  else if fvNeg? x then .of x else .of y
def fpMax (a b : W32) : FRes :=
  let x := fpUnpack a
  let y := fpUnpack b
  if x = .nan then .of y
  else if y = .nan then .of x
  else if fvLt x y then .of y
  else if fvLt y x then .of x
  else if fvNeg? x then .of y else .of x

/-- An int32 as FP32. -/
def fpOfInt (a : W32) : FRes :=
  let v := toSigned 32 a.toNat
  .of (.fin (decide (v < 0)) v.natAbs 0)

/-- FP32 as an int32, ties to even; out of range gives the nearest, NaN gives 0, both set NV. -/
def fpToInt (a : W32) : FRes :=
  match fpUnpack a with
  | .nan => ⟨0, true⟩
  | .inf n => ⟨if n then 0x80000000 else 0x7FFFFFFF, true⟩
  | .fin n m e =>
    let q := if e ≥ 0 then m * 2 ^ e.toNat else rneShift m (-e).toNat
    if n then (if q > 2 ^ 31 then ⟨0x80000000, true⟩ else ⟨BitVec.ofNat 32 (2 ^ 32 - q), false⟩)
    else if q ≥ 2 ^ 31 then ⟨0x7FFFFFFF, true⟩ else ⟨BitVec.ofNat 32 q, false⟩

/-- Da × 2^Db. -/
def fpScale (a b : W32) : FRes :=
  match fpUnpack a with
  | .fin n m e => .of (.fin n m (e + max (-600) (min 600 (toSigned 32 b.toNat))))
  | v => .of v

/-- Whether a finite positive estimate m'·2^e' of 1 / (m·2^e) has relative error at most 2⁻¹⁴, and of 1 / √(m·2^e). -/
def rcpGood (m m' : Nat) (e e' : Int) : Bool :=
  let s := e + e'
  let p := m * m'
  let (num, den) := if s ≥ 0 then (p * 2 ^ s.toNat, 1) else (p, 2 ^ (-s).toNat)
  decide (2 ^ 14 * num ≤ (2 ^ 14 + 1) * den) && decide ((2 ^ 14 - 1) * den ≤ 2 ^ 14 * num)
def rsqGood (m m' : Nat) (e e' : Int) : Bool :=
  let s := e + 2 * e'
  let p := m * m' * m'
  let (num, den) := if s ≥ 0 then (p * 2 ^ s.toNat, 1) else (p, 2 ^ (-s).toNat)
  decide (2 ^ 28 * num ≤ (2 ^ 14 + 1) ^ 2 * den) && decide ((2 ^ 14 - 1) ^ 2 * den ≤ 2 ^ 28 * num)

/-- The integer part of a square root, by bits from bit `n` down. -/
def isqrt : Nat → Nat → Nat → Nat
  | 0, _, r => r
  | n + 1, v, r => let t := r + 2 ^ n; isqrt n v (if t * t ≤ v then t else r)

/-- 1 / Da (R318): a free estimate within the bound, exact for powers of two, ±0 gives ±infinity. -/
def fpRcp (a : W32) : FRes :=
  match fpUnpack a with
  | .nan => ⟨fpNan, true⟩
  | .inf n => .of (.fin n 0 0)
  | .fin n m e =>
    if m = 0 then ⟨fpBits n 255 0, true⟩
    else if m = 2 ^ 23 then .of (.fin n 1 (-(e + 23)))
    else
      let exact := fpRound n (2 ^ 72 / m) (-72 - e)
      match fpUnpack exact, fpUnpack (Config.frcp a) with
      | .fin _ q _, .fin n' m' e' => if q ≠ 0 ∧ n' = n ∧ rcpGood m m' e e' then ⟨fpPack (.fin n' m' e'), false⟩ else ⟨exact, false⟩
      | _, _ => ⟨exact, false⟩

/-- 1 / √Da (R318): a free estimate within the bound; a negative operand gives NaN, +0 gives +infinity. -/
def fpRsq (a : W32) : FRes :=
  match fpUnpack a with
  | .nan => ⟨fpNan, true⟩
  | .inf true => ⟨fpNan, true⟩
  | .inf false => .of (.fin false 0 0)
  | .fin true m _ => if m = 0 then ⟨Config.frsqNegZero, true⟩ else ⟨fpNan, true⟩
  | .fin false m e =>
    if m = 0 then ⟨fpBits false 255 0, true⟩
    else
      let (m2, e2) := if e % 2 = 0 then (m, e) else (2 * m, e - 1)
      let exact := fpRound false (isqrt 60 (2 ^ 118 / m2) 0) (-(59 + e2 / 2))
      match fpUnpack (Config.frsq a) with
      | .fin false m' e' => if rsqGood m m' e e' then ⟨fpPack (.fin false m' e'), false⟩ else ⟨exact, false⟩
      | _ => ⟨exact, false⟩

/-- The clamp of R284 to ± `bound`: NaN becomes +0.0; whether it changed the word. -/
def fpClamp (bound w : W32) : W32 × Bool :=
  match fpUnpack w, fpUnpack bound with
  | .nan, _ => (0, true)
  | v, b => if fvLt b v then (bound, true) else if fvLt v (fvNeg b) then (bound ^^^ 0x80000000, true) else (w, false)

/-- Whether SATB may hold a word (R285): positive and finite. -/
def fpPosFinite (w : W32) : Bool :=
  match fpUnpack w with
  | .fin false m _ => m != 0
  | _ => false

end Sys2Proof.Machine
end

