-- ==== Sys2Proof/Machine/KetBase.lean ====
section
/-! DEFINITION. A kettle core: its registers with the distances of R287 and R326, its memories, decoding (R308 to R325),
loops, faults and the issue of one instruction. -/

namespace Sys2Proof.Machine

/-! ### Cores and units (R267, R268) -/

/-- Whether a core's kettle is in split mode, and runs a customer kernel. -/
def State.kSplit (s : State) (c : Nat) : Bool := s.bit (DSP_KET_CFG_MODE (c / 8))
def State.kCust (s : State) (c : Nat) : Bool := s.bit (DSP_KET_CFG_CUST (c / 8))

/-- The leading core of the unit that a core belongs to, the unit's cores, and its number. -/
def State.kKey (s : State) (c : Nat) : Nat := if s.kSplit c then c else c / 2 * 2
def State.kCores (s : State) (c : Nat) : List Nat := if s.kSplit c then [c] else [c / 2 * 2, c / 2 * 2 + 1]
def State.kUnit (s : State) (c : Nat) : Nat := if s.kSplit c then c else c / 2

/-- The state of a unit, by its leading core. -/
def State.kc (s : State) (c : Nat) : KCore := tget (fun _ => KCore.zero) s.ket.cores c
def State.setKc (s : State) (c : Nat) (k : KCore) : State :=
  { s with ket := { s.ket with cores := tset (fun _ => KCore.zero) s.ket.cores c k } }

/-- Write a field of every core of a unit. -/
def State.kPut (s : State) (c : Nat) (f : Nat → FRef) (v : Nat) : State := (s.kCores c).foldl (fun s x => s.put (f x) v) s

/-- Enter a STATE of DSP_CORE_STAT. -/
def State.kState (s : State) (c st : Nat) : State :=
  (s.setKc c { s.kc c with st := st }).kPut c DSP_CORE_STAT_STATE st

/-- Whether a unit is fenced. -/
def State.kFenced (s : State) (c : Nat) : Bool := s.bit (DSP_CORE_STAT_FENCED c)

/-! ### Distances (R287, R326) -/

/-- Positions after a write of a kind at which a reader of a kind sees it. -/
def klat : WKind → RKind → Nat
  | .alu, .rep | .load, .rep | .fp, .rep | .mac, .rep => 4
  | .alu, _ => 1
  | .load, _ => 2
  | .fp, _ => 2
  | .mac, .acc => 1
  | .mac, _ => 3
  | .post, .jmp => 2
  | .post, _ => 1
  | .move, .jmp => 4
  | .move, .ag | .move, .lp => 3
  | .move, _ => 1
  | .flag, .br => 4
  | .flag, _ => 1
  | .satb, _ => 2
  | .mem, _ => 2

/-- The position at which a write reaches its register. -/
def PWrite.time (w : PWrite) : Nat := w.pos + (match w.kind with | .move => 3 | k => klat k .e1)

/-- The base value of a register code. -/
def kReset (r : Nat) : W32 := if r = 0x42 then 0x3F800000 else 0
def State.kBase (s : State) (c r : Nat) : W32 :=
  if r < 0x10000 then tget kReset (s.kc c).regs r
  else if r < 0x20000 then tget (fun _ => 0) s.ket.x (c * 65536 + (r - 0x10000))
  else tget (fun _ => 0) s.ket.y (c * 65536 + (r - 0x20000))

/-- Give a register code, or a memory word, its value. -/
def State.kSet (s : State) (c r : Nat) (v : W32) : State :=
  if r < 0x10000 then let k := s.kc c; s.setKc c { k with regs := tset kReset k.regs r v }
  else if r < 0x20000 then { s with ket := { s.ket with x := tset (fun _ => 0) s.ket.x (c * 65536 + (r - 0x10000)) v } }
  else { s with ket := { s.ket with y := tset (fun _ => 0) s.ket.y (c * 65536 + (r - 0x20000)) v } }

/-- The value that a reader of a kind sees now: the write that reached it last, the later in program order on a tie (R288). -/
def State.kRead (s : State) (c r : Nat) (rk : RKind) : W32 :=
  let k := s.kc c
  let ws := k.pend.filter (fun w => w.reg = r ∧ w.pos + klat w.kind rk ≤ k.pos)
  match ws.foldl (fun (b : Option PWrite) w => match b with
      | none => some w
      | some y => if w.pos + klat w.kind rk ≥ y.pos + klat y.kind rk then some w else some y) none with
  | some w => w.val
  | none => s.kBase c r

/-- Issue a write. -/
def State.kWrite (s : State) (c r : Nat) (v : W32) (kind : WKind) : State :=
  let k := s.kc c
  s.setKc c { k with pend := k.pend ++ [⟨r, v, k.pos, kind⟩] }

/-- Complete the writes that satisfy `p`; one whose register a write of longer latency reaches later leaves nothing. -/
def State.kRetire (s : State) (c : Nat) (p : PWrite → Bool) : State :=
  let k := s.kc c
  let done := k.pend.filter p
  let beaten := fun (v : PWrite) => done.any (fun w => w.reg = v.reg ∧ w.pos < v.pos ∧ w.time > v.time)
  let s := s.setKc c { k with pend := (k.pend.filter (fun w => !p w)).filter (fun w => !beaten w) }
  (done.filter (fun w => !beaten w)).foldl (fun s w => s.kSet c w.reg w.val) s

/-- Let every issued instruction complete (R299). -/
def State.kFlush (s : State) (c : Nat) : State := s.kRetire c (fun _ => true)

/-- Write at once: what has reached the register is gone. -/
def State.kSetNow (s : State) (c r : Nat) (v : W32) : State :=
  let k := s.kc c
  (s.setKc c { k with pend := k.pend.filter (fun w => !(w.reg = r ∧ w.time ≤ k.pos)) }).kSet c r v

/-- Operand reads: a D register in E1, an A or M register in AG. -/
def State.kD (s : State) (c d : Nat) : W32 := s.kRead c d .e1
def State.kA (s : State) (c a : Nat) : W32 := s.kRead c (0x20 + a) .ag
def State.kM (s : State) (c a : Nat) : W32 := s.kRead c (0x30 + a) .ag

/-- Set SR.NV, SR.SAT: sticky. -/
def State.kNv (s : State) (c : Nat) (b : Bool) : State :=
  if b then s.kSet c 0x43 (s.kBase c 0x43 ||| 0x80) else s
def State.kSat (s : State) (c : Nat) (b : Bool) : State :=
  if b then s.kSet c 0x43 (s.kBase c 0x43 ||| 0x40) else s

/-- SR as code reads it (R281). -/
def State.kSr (s : State) (c : Nat) : W32 :=
  let k := s.kc c
  let w := (s.kBase c 0x43 &&& 0x80C0) ||| (s.kRead c 0x50 .e1 &&& 0xF)
  fieldPut (fieldPut w 14 1 (b2n k.ih)) 12 2 k.loops.length

/-! ### Address arithmetic (R313) -/

/-- Reverse the low `k` bits of a number. -/
def bitRev : Nat → Nat → Nat
  | 0, _ => 0
  | k + 1, v => 2 ^ k * (v % 2) + bitRev k (v / 2)

/-- The smallest k with 2^k ≥ n, from `k` up. -/
def ceilLog : Nat → Nat → Nat → Nat
  | 0, k, _ => k
  | f + 1, k, n => if 2 ^ k ≥ n then k else ceilLog f (k + 1) n

/-- A post-modify by M. A SIZE outside the range of R280 leaves a free value. -/
def postModify (a m : W32) : W32 :=
  let st := toSigned 14 (fieldGet m 16 14)
  let size := fieldGet m 0 16
  match fieldGet m 30 2 with
  | 1 =>
    if size = 0 then Config.postModify a m
    else
      let k := ceilLog 17 0 size
      let base := a.toNat / 2 ^ k * 2 ^ k
      BitVec.ofNat 32 (base + ((Int.ofNat (a.toNat - base) + st) % Int.ofNat size).toNat)
  | 2 =>
    if size = 0 ∨ size > 16 then Config.postModify a m
    else
      let lo := a.toNat % 2 ^ size
      let r := ((Int.ofNat (bitRev size lo) + st) % Int.ofNat (2 ^ size)).toNat
      BitVec.ofNat 32 (a.toNat - lo + bitRev size r)
  | _ => BitVec.ofInt 32 (Int.ofNat a.toNat + st)

/-! ### Decoding (R308, R309, R315 to R325) -/

/-- A move of the parallel form (R325). -/
structure KMove where
  store : Bool
  d     : Nat
  a     : Nat
  pm    : Bool
  deriving DecidableEq, Repr

/-- A decoded instruction. -/
inductive KI where
  | nop
  | bra (cond : Nat) (disp : Int)
  | call (target : Nat)
  | jmp (a : Nat)
  | rti
  | wait
  | alu (code : Nat) (sat : Bool) (d a : Nat) (b : Option Nat) (imm : Int) (cond : Nat)
  | fp (code : Nat) (sat : Bool) (d a b : Nat)
  | mac (sat neg clr : Bool) (d a b : Nat)
  | macm (sat neg clr : Bool) (d x : Nat) (px : Bool) (y : Nat) (py : Bool)
  | ls (store : Bool) (bus am d a : Nat) (disp : Int)
  | mov (code rd field : Nat)
  | repI (n : Nat)
  | repD (d : Nat)
  | loop (k len : Nat)
  | srch (int32 min ix : Bool) (dm di ds a : Nat)
  | srchM (int32 min ix : Bool) (dm di bus a : Nat) (pm : Bool)
  | par (x y : Option KMove) (op : KI)
  deriving DecidableEq, Repr

/-- Register codes of R311, and those that a MOVE may write. -/
def regCode (r : Nat) : Bool := decide (r ≤ 0x46) || decide (0x48 ≤ r ∧ r ≤ 0x4E)
def regWritable (r : Nat) : Bool := regCode r && r != 0x4C && r != 0x4E

/-- Class 0x0. -/
def decCtl (w : W32) : Option KI :=
  let z := fun lo n => fieldGet w lo n == 0
  match fieldGet w 24 4 with
  | 0 => if z 0 24 then some .nop else none
  | 1 => if z 16 4 ∧ fieldGet w 20 4 ≤ 12 then some (.bra (fieldGet w 20 4) (toSigned 16 (fieldGet w 0 16))) else none
  | 2 => if z 14 10 then some (.call (fieldGet w 0 14)) else none
  | 3 => if z 4 20 then some (.jmp (fieldGet w 0 4)) else none
  | 4 => if z 0 24 then some .rti else none
  | 5 => if z 0 24 then some .wait else none
  | _ => none

/-- Class 0x1. -/
def decAlu (w : W32) : Option KI :=
  let op := fieldGet w 22 5
  let d := fieldGet w 17 5
  let i := nbit w.toNat 11
  let b := if i then none else some (fieldGet w 6 5)
  let ins := KI.alu op (nbit w.toNat 27) d (fieldGet w 12 5) b (toSigned 11 (fieldGet w 0 11)) (fieldGet w 2 4)
  if op > 0x10 then none
  else if op = 0x10 then (if i ∨ fieldGet w 2 4 > 12 then none else some ins)
  else if !i ∧ fieldGet w 0 6 ≠ 0 then none
  else if (op = 2 ∨ op = 3) ∧ (i ∨ fieldGet w 6 5 ≠ 0) then none
  else if (op = 0xD ∨ op = 0xE) ∧ d ≠ 0 then none
  else some ins

/-- Class 0x2. -/
def decFp (w : W32) : Option KI :=
  let op := fieldGet w 23 4
  if op > 0xC ∨ fieldGet w 0 8 ≠ 0 ∨ (op = 7 ∧ fieldGet w 18 5 ≠ 0) then none
  else some (.fp op (nbit w.toNat 27) (fieldGet w 18 5) (fieldGet w 13 5) (fieldGet w 8 5))

/-- Class 0x3. -/
def decMac (w : W32) : Option KI :=
  let (s, n, c, d) := (nbit w.toNat 27, nbit w.toNat 25, nbit w.toNat 24, fieldGet w 19 5)
  if fieldGet w 0 9 ≠ 0 then none
  else if nbit w.toNat 26 then
    let (x, y) := (fieldGet w 15 4, fieldGet w 10 4)
    if x = y then none else some (.macm s n c d x (nbit w.toNat 14) y (nbit w.toNat 9))
  else some (.mac s n c d (fieldGet w 14 5) (fieldGet w 9 5))

/-- Class 0x4. -/
def decLs (w : W32) : Option KI :=
  let am := fieldGet w 24 2
  if am < 2 ∧ fieldGet w 0 15 ≠ 0 then none
  else some (.ls (nbit w.toNat 27) (fieldGet w 26 1) am (fieldGet w 19 5) (fieldGet w 15 4) (toSigned 15 (fieldGet w 0 15)))

/-- Class 0x5. -/
def decMov (w : W32) : Option KI :=
  let op := fieldGet w 24 4
  let rd := fieldGet w 16 8
  if op > 3 ∨ !regWritable rd then none
  else if op = 0 then
    (if fieldGet w 0 8 ≠ 0 ∨ !regCode (fieldGet w 8 8) then none else some (.mov 0 rd (fieldGet w 8 8)))
  else some (.mov op rd (fieldGet w 0 16))

/-- Class 0x6. -/
def decLoop (w : W32) : Option KI :=
  match fieldGet w 24 4 with
  | 0 => if fieldGet w 16 8 = 0 then some (.repI (fieldGet w 0 16)) else none
  | 1 => if fieldGet w 5 19 = 0 then some (.repD (fieldGet w 0 5)) else none
  | 2 => if fieldGet w 14 9 = 0 ∧ fieldGet w 0 14 ≠ 0 then some (.loop (fieldGet w 23 1) (fieldGet w 0 14)) else none
  | _ => none

/-- Class 0x7. -/
def decSrch (w : W32) : Option KI :=
  let (t, m, ix, dm, di) := (nbit w.toNat 27, nbit w.toNat 26, nbit w.toNat 24, fieldGet w 19 5, fieldGet w 14 5)
  if nbit w.toNat 25 then
    (if fieldGet w 0 8 ≠ 0 then none
     else some (.srchM t m ix dm di (fieldGet w 13 1) (fieldGet w 9 4) (nbit w.toNat 8)))
  else if fieldGet w 0 5 ≠ 0 then none
  else some (.srch t m ix dm di (fieldGet w 9 5) (fieldGet w 5 4))

/-- One-word instructions. -/
def decWord (w : W32) : Option KI :=
  match fieldGet w 28 4 with
  | 0 => decCtl w | 1 => decAlu w | 2 => decFp w | 3 => decMac w | 4 => decLs w | 5 => decMov w | 6 => decLoop w
  | 7 => decSrch w | _ => none

/-- A move of a prefix word: `none` for a reserved one. -/
def decMove (v : Nat) : Option (Option KMove) :=
  if v / 2 ^ 13 % 2 = 0 then (if v = 0 then some none else none)
  else if v % 4 ≠ 0 then none
  else some (some ⟨nbit v 12, v / 2 ^ 7 % 32, v / 8 % 16, nbit v 2⟩)

/-- The parallel form. -/
def decPar (w op : W32) : Option KI :=
  match decMove (fieldGet w 14 14), decMove (fieldGet w 0 14), decWord op with
  | some x, some y, some i =>
    let same : Bool := match x, y with | some a, some b => a.a == b.a | _, _ => false
    let okOp : Bool := match i with | .alu .. => true | .fp .. => true | .mac .. => true | _ => false
    if same ∨ !okOp then none else some (.par x y i)
  | _, _, _ => none

/-- An instruction and its words. -/
def decK (w w2 : W32) : Option (KI × Nat) :=
  if fieldGet w 28 4 = 15 then (decPar w w2).map (·, 2) else (decWord w).map (·, 1)

/-- The row of opcode_table.json that names an instruction. -/
def KI.row : KI → Nat
  | .nop => 80 | .bra .. => 81 | .call _ => 82 | .jmp _ => 83 | .rti => 84 | .wait => 85
  | .alu code .. => 86 + code
  | .fp code .. => 103 + code
  | .mac .. => 116 | .macm .. => 117
  | .ls store .. => if store then 119 else 118
  | .mov code .. => 120 + code
  | .repI _ => 124 | .repD _ => 125 | .loop .. => 126
  | .srch _ min .. => if min then 128 else 127
  | .srchM _ min .. => if min then 128 else 127
  | .par .. => 129

/-- Whether R327 forbids an instruction in a delay slot, after REP and in the last 3 words of a block. -/
def KI.forbidden (i : KI) : Bool :=
  match i with
  | .mov _ rd _ => rd == 0x43 || rd == 0x44 || rd == 0x45
  | _ => (81 ≤ i.row && i.row ≤ 85) || (124 ≤ i.row && i.row ≤ 126)

/-! ### Fetch, faults, boundaries -/

/-- A P word as fetch sees it: a running loop's cache holds its block (R292). -/
def State.kFetch (s : State) (c a : Nat) : W32 :=
  match (s.kc c).loops.find? (fun l => l.cache.isSome && decide (l.first ≤ a ∧ a ≤ l.last)) with
  | some l => (l.cache.getD []).getD (a - l.first) 0
  | none => tget (fun _ => 0) s.ket.p (c * 65536 + a)

/-- CORE_FAULT (R286). -/
def State.kFault (s : State) (c code : Nat) : State :=
  let s := s.kFlush c
  let pc := (s.kc c).pc
  let s := ((s.kState c 4).kPut c DSP_CORE_STAT_FAULT code).kPut c DSP_CORE_PC_PC pc
  s.emit 0x1C03 (s.kUnit c) (evArg [(0, 1, code), (4, 4, pc)])

/-- An accepting boundary of R298 as far as branches and REP go. -/
def KCore.boundary (k : KCore) : Bool := k.slots == 0 && k.rep.isNone

/-- A HALT that waits takes effect at an accepting boundary (R305). -/
def State.kHaltNow (s : State) (c : Nat) : State :=
  let k := s.kc c
  if k.halt ∧ k.boundary ∧ !k.ih then
    let s := (s.setKc c { k with halt := false }).kFlush c
    ((s.kState c 5).kPut c DSP_CORE_CTRL_HALT 0).kPut c DSP_CORE_PC_PC k.pc
  else s

/-- Raise a request: whether the same source's was pending (R297). -/
def State.kRaise (s : State) (c v : Nat) : State :=
  let k := s.kc c
  s.setKc c { k with req := nset k.req v }

/-- `n` cycles pass: CYCLE, the busy count, and TIMER, which raises vector 6 when it reaches 0 (R282). -/
def State.kCycles (s : State) (c n : Nat) : State :=
  let k := s.kc c
  let b := k.busy + n
  let s := s.setKc c { k with cycles := k.cycles + n, inv := k.inv + n, busy := b % 1024 }
  let s := if b ≥ 1024 then (s.kCores c).foldl (fun s x => s.cnt (DSP_CORE_CNT_BUSY_COUNT x) (b / 1024)) s else s
  let t := (s.kBase c 0x46).toNat
  if t = 0 then s
  else if t ≤ n then (s.kSet c 0x46 0).kRaise c 6
  else s.kSet c 0x46 (BitVec.ofNat 32 (t - n))

/-! ### Flow (R289 to R292, R316, R323) -/

/-- Where fetch goes after the word `last`: loop ends, innermost first. -/
def State.kLoopEnd : Nat → Nat → Nat → Nat → State → State × Nat
  | 0, _, _, nxt, s => (s, nxt)
  | f + 1, c, last, nxt, s =>
    match (s.kc c).loops with
    | [] => (s, nxt)
    | l :: t =>
      if l.last ≠ last then (s, nxt)
      else
        let v := (s.kRead c (0x40 + l.lc) .lp).toNat % 65536
        if v > 1 then
          let s := s.kSetNow c (0x40 + l.lc) (BitVec.ofNat 32 (v - 1))
          let n := l.last + 1 - l.first
          let cache := if n ≤ 64 then some (l.cache.getD ((List.range n).map (fun i => s.kFetch c (l.first + i)))) else none
          (s.setKc c { s.kc c with loops := { l with cache := cache } :: t }, l.first)
        else
          let s := s.kSetNow c (0x40 + l.lc) 0
          State.kLoopEnd f c last nxt (s.setKc c { s.kc c with loops := t })

/-- What an instruction does to the flow. -/
inductive KFlow where
  | seq
  | branch (target : Option (Nat × Bool))
  | rep (n : Nat)
  | loop (k len : Nat)
  | wait
  | rti
  | fault (code : Nat)
  deriving DecidableEq, Repr

/-- The loops that a taken BRA leaves are ended (R316). -/
def dropLoops (t : Nat) : List KLoop → List KLoop
  | [] => []
  | l :: r => if l.first ≤ t ∧ t ≤ l.last then l :: r else dropLoops t r

/-- After an instruction of `words` words at the program counter that goes on in sequence or ends its delay slots. -/
def State.kNext (s : State) (c words : Nat) : State :=
  let k := s.kc c
  match k.rep with
  | some (n + 2) => s.setKc c { k with rep := some (n + 1) }
  | _ =>
    let k := { k with rep := none, slots := k.slots - 1 }
    match k.slots, k.target with
    | 0, some (t, bra) =>
      s.setKc c { k with pc := t, target := none, loops := if bra then dropLoops t k.loops else k.loops }
    | _, _ =>
      let (s, pc) := State.kLoopEnd 2 c (k.pc + words - 1) (k.pc + words) (s.setKc c k)
      s.setKc c { s.kc c with pc := pc }

/-- The rest that follows an invocation of `n` cycles at a ratio in eighths (R295), in 2⁻¹⁶ ns. -/
def restTime (n r : Nat) : Nat := if r ≥ 8 then 0 else n * r / (8 - r) * 65536 * 2 / 3

/-- Apply a flow after the effects of the instruction. -/
def State.kFlow (s : State) (c words : Nat) (f : KFlow) : State :=
  let k := s.kc c
  match f with
  | .seq => s.kNext c words
  | .branch t => (s.setKc c { k with slots := 3, target := t }).kNext c words
  | .rep 0 =>
    let n := if fieldGet (s.kFetch c (k.pc + 1)) 28 4 = 15 then 2 else 1
    let (s, pc) := State.kLoopEnd 2 c (k.pc + n) (k.pc + n + 1) s
    s.setKc c { s.kc c with pc := pc }
  | .rep n => s.setKc c { k with pc := k.pc + 1, rep := some n }
  | .loop lc len =>
    let v := (s.kRead c (0x40 + lc) .lp).toNat % 65536
    if v = 0 then
      let (s, pc) := State.kLoopEnd 2 c (k.pc + len) (k.pc + len + 1) (s.kCycles c 2)
      s.setKc c { s.kc c with pc := pc }
    else s.setKc c { k with pc := k.pc + 1, loops := ⟨k.pc + 1, k.pc + len, lc, none⟩ :: k.loops }
  | .wait =>
    let e := if k.req = 0 then s.raw + restTime k.inv (s.fld (DSP_CORE_STAT_REST c)) else k.restEnd
    (s.setKc c { k with pc := k.pc + 1, inv := if k.req = 0 then 0 else k.inv, restEnd := e }).kState c 1
  | .rti =>
    let s := (s.kFlush c).kCycles c 2
    let h := (s.kc c).shadow
    let s := (((s.kSet c 0x43 (h.sr &&& 0x80C0)).kSet c 0x50 (h.sr &&& 0xF)).kSet c 0x40 h.lc0).kSet c 0x41 h.lc1
    (s.setKc c { s.kc c with pc := h.pc, loops := h.loops, ih := false }).kState c 2
  | .fault code => s.kFault c code

/-! ### Issue (R286) -/

/-- Whether the position of the instruction at the program counter is one that R327 marks. -/
def KCore.marked (k : KCore) : Bool :=
  decide (k.slots > 0) || k.rep.isSome || k.loops.any (fun l => decide (l.last ≤ k.pc + 2 ∧ k.pc ≤ l.last))

/-- Core `core` issues the instruction at its program counter when it is of row `row`; `eff` gives its effects and flow. -/
def State.kIssue (s : State) (core row : Nat) (eff : Nat → KI → State → State × KFlow) : State :=
  let c := s.kKey core
  let k := s.kc c
  if (k.st ≠ 2 ∧ k.st ≠ 3) ∨ s.kFenced c ∨ !s.blockRuns (90 + core / 8) then s
  else if k.pc > 0x3FFF then s.kFault c 3
  else match decK (s.kFetch c k.pc) (s.kFetch c (k.pc + 1)) with
    | none => s
    | some (i, words) =>
      if i.row ≠ row then s
      else if i.forbidden ∧ k.marked then s.kFault c 2
      else
        let s := s.kCycles c 1
        let (s', f) := eff c i s
        match f with
        | .fault code => s.kFault c code
        | f =>
          let s' := s'.kFlow c words f
          let s' := s'.setKc c { s'.kc c with pos := (s'.kc c).pos + 1 }
          (s'.kRetire c (fun w => decide (w.pos + 4 ≤ (s'.kc c).pos))).kHaltNow c

end Sys2Proof.Machine
end

