-- ==== Sys2Proof/Machine/Audio.lean ====
section
/-! DEFINITION. Conference audio: slots, sessions, placement, the mix cycle and selection (chapter 11). -/

namespace Sys2Proof.Machine

/-! ### Records (R251, R252) -/

/-- Fields of a slot record and of a session audio record; a record that is not listed reads as zeros. -/
def State.sf (s : State) (i off n : Nat) : Nat := rget ((tfind s.aud.slots i).getD (List.replicate 32 0)) off n
def State.sp (s : State) (i off n v : Nat) : State :=
  match tfind s.aud.slots i with
  | some w => { s with aud := { s.aud with slots := tput s.aud.slots i (rput w off n v) } }
  | none => s
def State.af (s : State) (x off n : Nat) : Nat := rget ((tfind s.aud.sess x).getD (List.replicate 4 0)) off n
def State.ap (s : State) (x off n v : Nat) : State :=
  match tfind s.aud.sess x with
  | some w => { s with aud := { s.aud with sess := tput s.aud.sess x (rput w off n v) } }
  | none => s
def State.sx (s : State) (i : Nat) : SlotX := tget (fun _ => SlotX.zero) s.aud.sx i
def State.setSx (s : State) (i : Nat) (x : SlotX) : State :=
  { s with aud := { s.aud with sx := tset (fun _ => SlotX.zero) s.aud.sx i x } }

/-- Active slots: STATE 1, or 2 for a refused stream, whose slot plays silence and still hears its mix (R250), and their leg still holds them; the slots of a session; the sessions with slots. -/
def State.activeSlots (s : State) : List Nat :=
  (tkeys s.aud.slots).filter (fun i => (s.sf i 0 1 == 1 || s.sf i 0 1 == 2) && s.recState 3 (s.sf i 8 4) == 1 && s.rf 3 (s.sf i 8 4) 14 2 == i)
def State.sessSlots (s : State) (x : Nat) : List Nat := s.activeSlots.filter (fun i => s.sf i 4 4 == x)
def State.audSessions (s : State) : List Nat :=
  let xs := (s.activeSlots.map (fun i => s.sf i 4 4)).eraseDups
  (tkeys s.brg.sess).filter (fun x => xs.contains x)

/-- N, GATE_OPEN and AGC_TARGET of a session with their defaults. -/
def State.sessN (s : State) (x : Nat) : Nat := if s.af x 0 1 = 0 then 3 else min 16 (s.af x 0 1)
def State.gateOpen (s : State) (x : Nat) : Int := if (tfind s.aud.sess x).isNone then -50 else toSigned 8 (s.af x 1 1)
def State.agcTarget (s : State) (x : Nat) : Int := if (tfind s.aud.sess x).isNone then -20 else toSigned 8 (s.af x 2 1)

/-! ### Costs and placement (R253 to R255) -/

/-- Decode cost of a codec code, and encode cost, in kc per 10 ms. -/
def decKc (codec : Nat) (stereo : Bool) : Nat :=
  match codec with
  | 0 => if stereo then 36 else 24
  | 1 | 2 => 2
  | 3 => 8
  | _ => if stereo then 24 else 12
def encKc (codec : Nat) (stereo : Bool) : Nat :=
  match codec with
  | 0 => if stereo then 180 else 120
  | 1 | 2 => 2
  | 3 => 12
  | _ => if stereo then 120 else 60

/-- Decode and slot cost of a slot; its listener format. -/
def State.slotKc (s : State) (i : Nat) : Nat := decKc (s.sf i 1 1) (nbit (s.sf i 3 1) 0) + 2
def State.slotFmt (s : State) (i : Nat) : Nat × Bool × Nat × Nat :=
  (s.sf i 2 1, nbit (s.sf i 3 1) 1, s.sf i 0x14 2, s.sf i 0x16 1)

/-- N_ENC of a session (R254), and its encode and mix cost. -/
def State.nEnc (s : State) (x : Nat) : Nat := s.sessN x + ((s.sessSlots x).map s.slotFmt).eraseDups.length
def State.encCost (s : State) (x : Nat) : Nat :=
  s.nEnc x * (((s.sessSlots x).map (fun i => encKc (s.sf i 2 1) (nbit (s.sf i 3 1) 1))).foldl max 0 + 5)

/-- The units of the audio library by their leading cores: those of the kettles of AUD_CFG.KETTLES that are not fenced, with
what each admits. -/
def State.audUnits (s : State) : List (Nat × Nat) :=
  (List.range 12).flatMap (fun k =>
    if !nbit (s.fld AUD_CFG_KETTLES) k ∨ s.bit (DSP_KET_CFG_CUST k) then []
    else if s.bit (DSP_KET_CFG_MODE k) then
      ((List.range 8).filter (fun c => !s.kFenced (8 * k + c))).map (fun c => (8 * k + c, 13200))
    else ((List.range 4).filter (fun p => !s.kFenced (8 * k + 2 * p))).map (fun p => (8 * k + 2 * p, 13500)))

/-- The side of a unit: kettles 0 to 5 are West. -/
def unitSide (u : Nat) : Nat := if u < 48 then 0 else 1

/-- Loads while placing, by leading core. -/
abbrev Loads := Tab Nat
def Loads.of (l : Loads) (u : Nat) : Nat := tget (fun _ => 0) l u
def Loads.add (l : Loads) (u n : Nat) : Loads := tset (fun _ => 0) l u (Loads.of l u + n)

/-- Units of a side first, then of the other. -/
def State.unitOrder (s : State) (side : Nat) : List (Nat × Nat) :=
  s.audUnits.filter (fun u => unitSide u.1 == side) ++ s.audUnits.filter (fun u => unitSide u.1 != side)

/-- The placement of one session: loads, MIX_UNIT and the units of its slots; none where something finds no room. -/
def State.placeSess (s : State) (l : Loads) (x : Nat) : Option (Loads × Nat × List (Nat × Nat)) :=
  let slots := s.sessSlots x
  let side := s.rf 2 x 1 1
  let cost := (slots.map s.slotKc).sum + s.encCost x
  let order := s.unitOrder side
  match order.find? (fun u => decide (l.of u.1 + cost ≤ u.2)) with
  | some u => some (l.add u.1 cost, u.1, slots.map (fun i => (i, u.1)))
  | none =>
    let own := s.audUnits.filter (fun u => unitSide u.1 == side)
    match own.foldl (fun (b : Option (Nat × Nat)) u => match b with
        | none => some u
        | some v => if u.2 - l.of u.1 > v.2 - l.of v.1 then some u else some v) none with
    | none => none
    | some m =>
      if l.of m.1 + s.encCost x > m.2 then none
      else
        let l := l.add m.1 (s.encCost x)
        match slots.foldl (fun (a : Option (Loads × List (Nat × Nat))) i => match a with
            | none => none
            | some (l, ps) => match order.find? (fun u => decide (l.of u.1 + s.slotKc i ≤ u.2)) with
              | none => none
              | some u => some (l.add u.1 (s.slotKc i), ps ++ [(i, u.1)])) (some (l, [])) with
        | none => none
        | some (l, ps) => some (l, m.1, ps)

/-- The kc of a channel's broadcast work (R253). -/
def State.bcKc (s : State) (n : Nat) : Nat :=
  let ch := s.fld (AUD_BC_CTRL_NCH n) + 1
  ch + if s.fld (AUD_BC_CTRL_OUT n) = 2 then 60 * ch else 0

/-- Broadcast work first: work already placed stays, new work takes the lowest unit with room (R255). -/
def State.placeBc (s : State) : Option (Loads × Tab Nat) :=
  ((List.range 16).filter (fun n => s.bit (AUD_BC_CTRL_EN n))).foldl (fun a n => match a with
    | none => none
    | some (l, t) =>
      let ok := fun (u : Nat × Nat) => decide (Loads.of l u.1 + s.bcKc n ≤ u.2)
      match (match tfind s.aud.bcUnit n with
        | some u => if s.audUnits.any (fun v => v.1 == u) then some u else (s.audUnits.find? ok).map (·.1)
        | none => (s.audUnits.find? ok).map (·.1)) with
      | none => none
      | some u => some (l.add u (s.bcKc n), tput t n u)) (some ([], []))

/-- The whole placement of R255: none where it fails or N_ENC exceeds 2,048 (R254). -/
def State.audPlan (s : State) : Option (Loads × Tab Nat × List (Nat × Nat) × List (Nat × Nat)) :=
  if ((s.audSessions.map s.nEnc).sum) > 2048 then none
  else match s.placeBc with
    | none => none
    | some (l, t) =>
      match s.audSessions.foldl (fun (a : Option (Loads × List (Nat × Nat) × List (Nat × Nat))) x => match a with
          | none => none
          | some (l, mx, ps) => match s.placeSess l x with
            | none => none
            | some (l, u, q) => some (l, mx ++ [(x, u)], ps ++ q)) (some (l, [], [])) with
      | none => none
      | some (l, mx, ps) => some (l, t, mx, ps)

/-- AUDIO_PLACEMENT: loads, MIX_UNIT, UNIT, N_ENC and the counts of AUD_STAT. A slot that leaves a fenced unit has lost its codec
state (R256). -/
def State.audPlace (s : State) : State :=
  let s := { s with aud := { s.aud with place := false } }
  match s.audPlan with
  | none => s
  | some (l, t, mx, ps) =>
    let s := { s with aud := { s.aud with bcUnit := t, loads := l, mixCore := mx } }
    let s := (List.range 96).foldl (fun s n =>
      s.put (AUD_PAIR_LOAD_LOAD n) ((s.audUnits.filter (fun u => s.kUnit u.1 == n)).map (fun u => l.of u.1)).sum) s
    let s := mx.foldl (fun s y => (s.ap y.1 8 1 (s.kUnit y.2)).ap y.1 9 1 (s.nEnc y.1)) s
    let s := ps.foldl (fun s y =>
      let z := s.sx y.1
      let lost := match z.core with | some u => u != y.2 && s.kFenced u | none => false
      (s.sp y.1 0x2C 2 (s.kUnit y.2)).setSx y.1 { z with core := some y.2, lostState := z.lostState || lost }) s
    (s.put AUD_STAT_ENCODES ((s.audSessions.map s.nEnc).sum)).put AUD_STAT_SLOTS s.activeSlots.length

/-! ### Landing of audio records (R218, R251, R252, R266) -/

/-- The H fields of slot and session audio records. -/
def slotH : List (Nat × Nat) := [(0, 8), (8, 8), (0x10, 8), (0x18, 4)]
def asessH : List (Nat × Nat) := [(0, 3)]

/-- Land one staged audio record: a slot is type 8, a session record type 9. -/
def State.landAudRec (s : State) (r : StagedRec) : Option State :=
  if r.typ = 8 then
    if r.index ≥ 8192 then none
    else
      let cur := (tfind s.aud.slots r.index).getD (List.replicate 32 0)
      let w := if rget cur 0 1 = 0 then r.words.take 31 ++ [0] else copyF slotH cur r.words
      let w := if rget cur 0 1 = 0 then
          rput (rput (rput w 0x1C 4 0xFFFFFFFF) 0x24 4 0) 0x28 2 (if rget w 0x18 2 = 0 then 20 else rget w 0x18 2)
        else w
      let s := { s with aud := { s.aud with slots := tput s.aud.slots r.index w, place := true } }
      some (if rget cur 0 1 = 0 then s.setSx r.index SlotX.zero else s)
  else if r.typ = 9 then
    let cur := (tfind s.aud.sess r.index).getD (List.replicate 4 0)
    let new := (tfind s.aud.sess r.index).isNone
    let w := if new then rput (rput (rput r.words 4 4 0) 8 2 0xFF) 0xA 2 0x8000 else copyF asessH cur r.words
    some { s with aud := { s.aud with
      sess := tput s.aud.sess r.index w, place := true
      hist := if new then s.aud.hist.filter (· ≠ r.index) else s.aud.hist } }
  else some s

/-- Clear the valid bits of the audio records (R630). -/
def State.audClear (s : State) : State :=
  { s with aud := { Aud.zero with ports := s.aud.ports, place := true } }

/-! ### The mix cycle (R256) -/

/-- Small FP32 constants. -/
def f32Int (v : Int) : W32 := (fpOfInt (BitVec.ofInt 32 v)).w
def f32Quarter : W32 := 0x3E800000
def f32Half : W32 := 0x3F000000
def fLt (a b : W32) : Bool := fvLt (fpUnpack a) (fpUnpack b)
def fClip (lo hi v : W32) : W32 := if fLt v lo then lo else if fLt hi v then hi else v

/-- Count in a slot's counter, modulo 2³². -/
def State.scnt (s : State) (i off k : Nat) : State := s.sp i off 4 (s.sf i off 4 + k)

/-- JB_MIN_MS of a slot with its default. -/
def State.jbMin (s : State) (i : Nat) : Nat := if s.sf i 0x18 2 = 0 then 20 else s.sf i 0x18 2

/-- 480 samples: more are cut, missing ones are silence; a mono signal has one channel twice. -/
def pcm480 (stereo : Bool) (p : Pcm) : Pcm :=
  (List.range 480).map (fun i => match p[i]? with | some v => (v.1, if stereo then v.2 else v.1) | none => (0, 0))

/-- A function of place and sample over a block. -/
def pcmMap (f : Nat → W32 → W32) (p : Pcm) : Pcm := ((List.range p.length).zip p).map (fun y => (f y.1 y.2.1, f y.1 y.2.2))

/-- A gain in dB: 0 dB leaves the sample. -/
def dbGain (db x : W32) : W32 := if db = 0 then x else (fpMul x (Config.dbFactor db)).w

/-- The level of a block (R256): 10 log10 (mean square + 10⁻¹⁰) in dBFS, −100 for silence; both channels of a stereo block count. -/
def levelOf (stereo : Bool) (p : Pcm) : W32 :=
  let ws := p.map (·.1) ++ if stereo then p.map (·.2) else []
  match ws.foldl (fun a w => fvAdd a (fvMul (fpUnpack w) (fpUnpack w))) (.fin false 0 0) with
  | .fin _ m e => if m = 0 then f32Int (-100) else Config.level10 ws.length m e
  | _ => Config.level10 ws.length 0 0

/-- The interarrival jitter of a slot's receive flow in sixteenths of a ms, and the jitter buffer's target depth in ms (R256). -/
def State.jit16 (s : State) (g : Nat) : Nat :=
  (tget (fun _ => (0, 0)) s.aud.jit g).2 * 1000 / max 1 (s.ff g 0xD8 4)
def State.jbTarget (s : State) (i : Nat) : Nat :=
  let jmax := if s.sf i 0x1A 2 = 0 then 200 else s.sf i 0x1A 2
  max (s.jbMin i) (min jmax (2 * s.jit16 (s.sf i 0x0C 4) / 16 + 10))

/-- The gain, gate, level, score, AGC and jitter buffer of one slot in a cycle (R256). A refused stream plays silence (R250). -/
def State.mixSlot (s : State) (m : MixIn) : State :=
  let i := m.slot
  let x := s.sf i 4 4
  let z := s.sx i
  let s := s.sp i 0 1 (if m.refuse then 2 else 1)
  let frame := m.frame && !z.lostState
  let s := if frame then s.scnt i 0x30 1 else (s.scnt i 0x34 1).cnt AUD_CNT_PLC_COUNT 1
  let s := if frame ∧ s.sf i 0x1C 4 = 0xFFFFFFFF then
      (s.sp i 0x1C 4 (s.af x 4 4)).ap x 4 4 (s.af x 4 4 + 1) else s
  let stereo := nbit (s.sf i 3 1) 0
  let gain := (fpMul (f32Int (toSigned 8 (s.sf i 0x17 1))) f32Half).w
  let inp := pcmMap (fun _ => dbGain gain) (pcm480 stereo (if m.refuse then [] else m.pcm))
  let pre := levelOf stereo inp
  let open0 := s.sf i 0x2A 1 == 1
  let gated := nbit (s.sf i 3 1) 2
  let below := fLt pre (f32Int (s.gateOpen x - 6))
  let low := if below then z.low + 1 else 0
  let plc := if frame then 0 else z.plc + 1
  let open1 := !gated || (if fLt pre (f32Int (s.gateOpen x)) then open0 && decide (low < 20) else true)
  let post := if gated ∧ open1 ≠ open0 then pcmMap (Config.ramp480 open1) inp
    else if open1 then inp else pcm480 false []
  let e := levelOf stereo post
  let score := if (!open0 && open1) || !z.scored then e
    else (fpAdd (s.sf i 0x20 4) (fpMul (fpSub e (s.sf i 0x20 4)).w f32Quarter).w).w
  let gain : W32 := s.sf i 0x24 4
  let agc := if open1 ∧ nbit (s.sf i 3 1) 3 then
      let step := fClip (fpNeg f32Half).w f32Half (fpSub (fpSub (f32Int (s.agcTarget x)) e).w gain).w
      fClip (f32Int (-12)) (f32Int 18) (fpAdd gain step).w
    else gain
  let out := if nbit (s.sf i 3 1) 3 then pcmMap (fun _ => dbGain agc) post else post
  let target := s.jbTarget i
  let deep := if m.depth > target + 10 then z.deep + 1 else 0
  let drop := deep ≥ 200 ∨ (deep ≥ 50 ∧ below)
  let s := if drop then (s.scnt i 0x38 1).cnt AUD_CNT_JBDROP_COUNT 1 else s
  let s := (((s.sp i 0x20 4 score.toNat).sp i 0x24 4 agc.toNat).sp i 0x28 2 (if drop then m.depth - 10 else m.depth)).sp i
    0x2A 1 (b2n open1)
  let lvl := (fpToInt (fpMul e (f32Int 10)).w).w
  (s.sp i 0x2E 2 lvl.toNat).setSx i ⟨true, low, plc, if drop then 0 else deep, z.heard || frame, z.core, false, out⟩

/-- Whether a unit's work does not fit in the 15,000 kc of a 10 ms cycle that its rest leaves. -/
def State.unitOver (s : State) (u : Nat) : Bool :=
  decide (Loads.of s.aud.loads u * 8 > 15000 * (8 - s.fld (DSP_CORE_STAT_REST u)))

/-- The leading cores of the units whose work overruns; whether a slot lies on one of them; the slots of unit u that miss their
session's mix. -/
def State.lateUnits (s : State) : List Nat := (s.audUnits.filter (fun u => s.unitOver u.1)).map (·.1)
def State.slotLate (s : State) (late : List Nat) (i : Nat) : Bool :=
  match (s.sx i).core with | some u => late.contains u | none => false
def State.missMix (s : State) (u : Nat) : List Nat :=
  s.activeSlots.filter (fun i => (s.sx i).core == some u && tfind s.aud.mixCore (s.sf i 4 4) != some u)

/-! ### Selection (R257, R259) -/

/-- What competes for a session's seats: an identity (a slot, or 2²⁰ · (member + 1) + its slot), rank and score. -/
structure Comp11 where
  ident : Nat
  rank  : Nat
  score : W32
  deriving DecidableEq, Repr

/-- The candidates of a session with the bonus of 3 dB for those seated before. Slots on a unit that overran are left out. -/
def State.competitors (s : State) (x : Nat) (late : List Nat) : List Comp11 :=
  let prev := (tget (fun _ => []) s.aud.prev x).map (·.2)
  let bonus := fun (id : Nat) (w : W32) => if prev.contains id then (fpAdd w (f32Int 3)).w else w
  let loc := ((s.sessSlots x).filter (fun i => s.sf i 0x2A 1 == 1 && !nbit (s.sf i 3 1) 6 && (s.sx i).scored &&
      decide ((s.sx i).plc < 5) && !s.slotLate late i)).map
    (fun i => Comp11.mk i (s.sf i 0x1C 4) (bonus i (BitVec.ofNat 32 (s.sf i 0x20 4))))
  let rem := ((tget (fun _ => []) s.aud.cands x).filter (·.gate)).map (fun c =>
    let id := 2 ^ 20 * (c.member + 1) + c.slot
    Comp11.mk id c.rank (bonus id c.score))
  loc ++ rem

/-- The best of a list: highest score, lowest rank on equal scores. -/
def best11 : List Comp11 → Option Comp11
  | [] => none
  | c :: t => match best11 t with
    | none => some c
    | some d => if fLt c.score d.score then some d else if fLt d.score c.score then some c
      else if d.rank < c.rank then some d else some c

/-- The chosen of R257. A score of −1000 or lower is never chosen. -/
def choose11 : Nat → List Comp11 → List Nat
  | 0, _ => []
  | n + 1, cs => match best11 (cs.filter (fun c => fLt (f32Int (-1000)) c.score)) with
    | none => []
    | some c => c.ident :: choose11 n (cs.filter (fun d => d.ident ≠ c.ident))

/-- Seats after selection: who stays keeps its seat, newcomers take the lowest free seats in the order chosen. -/
def seat11 (n : Nat) (prev : List (Nat × Nat)) (chosen : List Nat) : List (Nat × Nat) :=
  let keep := prev.filter (fun y => chosen.contains y.2)
  (chosen.filter (fun c => !keep.any (fun y => y.2 == c))).foldl (fun seats c =>
    match (List.range n).find? (fun i => !seats.any (fun y => y.1 == i)) with
    | some i => seats ++ [(i, c)]
    | none => seats) keep

/-- Select for one session, from the seats of the cycle before; SEL shows the seats. -/
def State.select (s : State) (x : Nat) (late : List Nat) : State :=
  let prev := tget (fun _ => []) s.aud.prev x
  let seats := seat11 (s.sessN x) prev (choose11 (s.sessN x) (s.competitors x late))
  let s := { s with aud := { s.aud with seats := tset (fun _ => []) s.aud.seats x seats } }
  (s.sessSlots x).foldl (fun s i =>
    s.sp i 0x2B 1 (match seats.find? (fun y => y.2 == i) with | some y => y.1 + 1 | none => 0)) s

/-- AUDIO_SEEDED (R259): in the first cycle without history the N slots of lowest rank that have a decoded frame count as
seated before. -/
def State.seed11 (s : State) (x cause : Nat) : State :=
  let slots := (s.sessSlots x).filter (fun i => (s.sx i).heard)
  let rec pick : Nat → List Nat → List Nat
    | 0, _ => []
    | n + 1, l => match l.foldl (fun (b : Option Nat) i => match b with
        | none => some i
        | some j => if s.sf i 0x1C 4 < s.sf j 0x1C 4 then some i else some j) none with
      | none => []
      | some i => i :: pick n (l.filter (· ≠ i))
  let ids := pick (s.sessN x) slots
  let seats := ((List.range ids.length).zip ids)
  let s := { s with aud := { s.aud with prev := tset (fun _ => []) s.aud.prev x seats, hist := s.aud.hist ++ [x] } }
  s.emit 0x1A05 x (evArg [(0, 1, cause)])

/-- Whether a session's mix unit is on this device: its home is here (R260). -/
def State.mixHere (s : State) (x : Nat) : Bool := s.rf 2 x 2 2 % 4096 == s.ownAddr

/-- After a takeover (R259): ranks in increasing leg number, AGC_GAIN 0 dB, LOUD_M no value, no history. -/
def State.reseed (s : State) (x : Nat) : State :=
  let slots := s.sessSlots x
  let rank := fun i => (slots.filter (fun j => s.sf j 8 4 < s.sf i 8 4)).length
  let s := slots.foldl (fun s i =>
    (((s.sp i 0x1C 4 (rank i)).sp i 0x24 4 0).sp i 0x28 2 (s.jbMin i)).setSx i { s.sx i with scored := false }) s
  let s := (s.ap x 4 4 slots.length).ap x 0xA 2 0x8000
  { s with aud := { s.aud with hist := s.aud.hist.filter (· ≠ x), loud := tset (fun _ => []) s.aud.loud x [] } }

/-- AUDIO_RECORD_BAD (R252): a record whose CRC fails is not used; its slot, or its session's mixing, stops, with 0x1A04. -/
def State.audBad (s : State) (sess : Bool) (i : Nat) : State :=
  let s := if sess then (s.sessSlots i).foldl (fun s j => s.sp j 0 1 3) s else s.sp i 0 1 3
  s.emit 0x1A04 i (evArg [(0, 1, b2n sess)])

/-- The records that the cycle reads and that fail their CRC: each session's and each slot's once. -/
def State.mixBad (s : State) (ins : List MixIn) : State :=
  let xs := ((ins.filter (fun m => m.badSess && s.activeSlots.contains m.slot)).map (fun m => s.sf m.slot 4 4)).eraseDups
  let s := xs.foldl (fun s x => s.audBad true x) s
  ((ins.filter (fun m => m.badSlot && s.activeSlots.contains m.slot)).map (·.slot)).eraseDups.foldl (fun s i => s.audBad false i) s

/-- MIX_CYCLE_START (R256): at the trigger of AUD_CFG. A shed leg's slot plays silence (R533): it is not mixed and competes for
no seat. Selection runs at the mix unit, on the home of a session (R257, R260). -/
def State.mixCycle (s : State) (ins : List MixIn) : State :=
  if !s.bit AUD_CFG_EN then s
  else
    let s := if s.aud.place then s.audPlace else s
    let late := s.lateUnits
    let s := late.foldl (fun s u => (s.cnt AUD_CNT_OVERRUN_COUNT 1).emitLim 0x1A01 (s.kUnit u) 1 0) s
    let s := { s with aud := { s.aud with cycRaw := s.raw, prev := s.aud.seats, cands := [] } }
    let cause := b2n s.aud.takeover
    let s := if s.aud.takeover then
        let s := s.audSessions.foldl State.reseed s
        { s with aud := { s.aud with takeover := false } }
      else s
    let s := s.mixBad ins
    let s := s.activeSlots.foldl (fun s i => s.setSx i { s.sx i with out := [], scored := (s.sx i).scored && !s.slotShed i }) s
    let s := (ins.filter (fun m => s.activeSlots.contains m.slot && !s.slotShed m.slot)).foldl State.mixSlot s
    let s := late.foldl (fun s u => (s.missMix u).foldl (fun s i => s.scnt i 0x3C 1) s) s
    let lateSets := late.flatMap (fun u => ((s.missMix u).map (fun i => (s.sf i 4 4, u))).eraseDups)
    let s := lateSets.foldl (fun s y =>
      (s.cnt AUD_CNT_CAND_LATE_COUNT 1).emit 0x1A02 y.1 (evArg [(0, 1, 0), (4, 4, s.kUnit y.2)])) s
    (s.audSessions.filter s.mixHere).foldl (fun s x =>
      let s := if s.aud.hist.contains x then s else s.seed11 x cause
      s.select x late) s

/-- CANDIDATE_SET_RX (R256, R260): a set of another member for a session whose mix unit is here; one later than 4.5 ms
after the trigger is left out of the cycle and counted. -/
def execCandidateSetRx (x : Fin 32768) (member : Nat) (cands : List Cand) (s : State) : Host.Outcome State Fault Refusal :=
  .next (if !s.bit AUD_CFG_EN ∨ s.recState 2 x ≠ 1 ∨ s.rf 2 x 2 2 % 4096 ≠ s.ownAddr then s
    else if s.raw - s.aud.cycRaw > 4500 * usU then
      (s.cnt AUD_CNT_CAND_LATE_COUNT 1).emit 0x1A02 x (evArg [(0, 1, 1), (4, 4, member)])
    else
      let old := tget (fun _ => []) s.aud.cands x
      let all := old.filter (fun c => c.member ≠ member) ++ cands.map (fun c => { c with member := member })
      let s := { s with aud := { s.aud with cands := tset (fun _ => []) s.aud.cands x all } }
      s.select x s.lateUnits)

/-! ### The mixes (R258) -/

/-- The post-AGC samples of a competitor: a local slot, or a candidate of another member. -/
def State.voice (s : State) (x id : Nat) : Pcm :=
  pcm480 true (if id < 2 ^ 20 then (s.sx id).out
    else match (tget (fun _ => []) s.aud.cands x).find? (fun c => 2 ^ 20 * (c.member + 1) + c.slot == id) with
      | some c => c.pcm
      | none => [])

/-- What a session's mixes sum (R257, R258): every chosen slot, fading in where it holds no seat of the cycle before, and the slots that have
left, fading out. In the order of the seats (assumption log row 120). -/
def State.voices (s : State) (x : Nat) : List (Nat × Pcm) :=
  let seats := (tget (fun _ => []) s.aud.seats x).map (·.2)
  let prev := (tget (fun _ => []) s.aud.prev x).map (·.2)
  seats.map (fun id => (id, if prev.contains id then s.voice x id else pcmMap (Config.ramp480 true) (s.voice x id))) ++
    (prev.filter (fun id => !seats.contains id)).map (fun id => (id, pcmMap (Config.ramp480 false) (s.voice x id)))

/-- A mix before its limiter: the sum in FP32 of every voice but the holder's own. -/
def State.mixSum (s : State) (x : Nat) (own : Option Nat) (stereo : Bool) : Pcm :=
  let sum := ((s.voices x).filter (fun v => own != some v.1)).foldl
    (fun acc v => List.zipWith (fun a b => ((fpAdd a.1 b.1).w, (fpAdd a.2 b.2).w)) acc v.2) (List.replicate 480 (0, 0))
  if stereo then sum else sum.map (fun v => let m := if v.1 = v.2 then v.1 else Config.downmix v.1 v.2; (m, m))

/-- The limiter's threshold of −1 dBFS, 1.0, and the greatest magnitude of a sample. -/
def f32Limit : W32 := 0x3F642905
def f32One : W32 := 0x3F800000
def pcmPeak (v : W32 × W32) : W32 := (fpMax (fpAbs v.1).w (fpAbs v.2).w).w

/-- The limiter and the saturation to ±1.0 of a block, from a gain (R258): the gain stays 1 while no sample is above the threshold. -/
def limitPcm : W32 → Pcm → W32 × Pcm
  | g, [] => (g, [])
  | g, v :: t =>
    let g := if g = f32One ∧ !fLt f32Limit (pcmPeak v) then g else Config.limitGain g (pcmPeak v)
    let out := fun (a : W32) => (fpClamp f32One (fpMul a g).w).1
    let (g', r) := limitPcm g t
    (g', (out v.1, out v.2) :: r)

/-! ### The audio window (R266) -/

/-- The effect of AUD_WIN_CMD. -/
def State.audWin (s : State) (port : Port) (v : W32) (bad : Bool) : State :=
  let op := fieldGet v 28 4
  let ty := fieldGet v 24 4
  let i := fieldGet v 0 15
  let words := if ty = 0 then 32 else 4
  let err := if ty > 1 ∨ (ty = 0 ∧ i ≥ 8192) then 1 else 0
  let s := s.put AUD_WIN_STAT_ERR err
  if err ≠ 0 then s
  else if op = 1 then
    let r := (tfind (if ty = 0 then s.aud.slots else s.aud.sess) i)
    let s := s.winPut (AUD_WIN_DATA 0) (withCrc (r.getD (List.replicate words 0)))
    if bad ∧ r.isSome then (s.put AUD_WIN_STAT_ERR 2).audBad (ty = 1) i else s
  else if op = 2 then
    if s.stage.records.length ≥ 1024 ∧ !s.stage.records.any (fun r => r.typ == 8 + ty && r.index == i) then
      s.put AUD_WIN_STAT_ERR 3
    else s.stageRecPut port.owner ⟨8 + ty, i, s.winGet (AUD_WIN_DATA 0) words⟩
  else if op = 3 then
    { s with stage := { s.stage with records := s.stage.records.filter (fun r => !(r.typ == 8 + ty && r.index == i)) } }.stageTouch
  else s

/-- A write of AUD_WIN_CMD; one whose stage the bank refuses fails (R421, R461, R551). -/
def State.audWinWrite (s : State) (p : Port) (v : W32) (bad : Bool) : State :=
  let st := if fieldGet v 28 4 = 2 then s.stageStatus p.owner true else 0
  if s.writeStatus p AUD_WIN_CMD v = 0 ∧ st ≠ 0 then s.accessFail p AUD_WIN_CMD true st
  else s.portWrite p AUD_WIN_CMD v (fun s => s.audWin p v bad)

/-- AUD_WIN_FETCH. -/
def execAudWinFetch (p : Port) (ty : Fin 16) (i : Nat) (bad : Bool) (s : State) : Host.Outcome State Fault Refusal :=
  .next (s.audWinWrite p (BitVec.ofNat 32 (1 * 2 ^ 28 + ty * 2 ^ 24 + i % 2 ^ 15)) bad)
/-- AUD_WIN_STAGE. -/
def execAudWinStage (p : Port) (ty : Fin 16) (i : Nat) (s : State) : Host.Outcome State Fault Refusal :=
  .next (s.audWinWrite p (BitVec.ofNat 32 (2 * 2 ^ 28 + ty * 2 ^ 24 + i % 2 ^ 15)) false)
/-- AUD_WIN_DISCARD. -/
def execAudWinDiscard (p : Port) (ty : Fin 16) (i : Nat) (s : State) : Host.Outcome State Fault Refusal :=
  .next (s.audWinWrite p (BitVec.ofNat 32 (3 * 2 ^ 28 + ty * 2 ^ 24 + i % 2 ^ 15)) false)

end Sys2Proof.Machine
end

