-- ==== Sys2Proof/Machine/KetIsa.lean ====
section
/-! DEFINITION. The instructions of a kettle core (chapter 13): each command is the issue, by one core, of the instruction
at its program counter. -/

namespace Sys2Proof.Machine

/-! ### Integer ALU (R317) -/

/-- What an ALU operation gives: the wrapped word, the exact value that S clamps, carry, overflow, whether S clamps it and
whether Dd is written. -/
structure ARes where
  w   : W32
  big : Int
  c   : Bool
  v   : Bool
  cl  : Bool
  wr  : Bool
  deriving DecidableEq, Repr

/-- The signed reading of a word, and whether an integer is outside int32. -/
def sval (w : W32) : Int := toSigned 32 w.toNat
def outI32 (x : Int) : Bool := decide (x < -2147483648) || decide (x > 2147483647)
def wrapI (x : Int) : W32 := BitVec.ofInt 32 x

/-- A result of exact arithmetic. -/
def aExact (x : Int) (c : Bool) : ARes := ⟨wrapI x, x, c, outI32 x, true, true⟩
/-- A result without carry, overflow or clamp. -/
def aPlain (w : W32) (c : Bool) : ARes := ⟨w, sval w, c, false, false, true⟩

def aluAdd (a b : W32) : ARes := aExact (sval a + sval b) (decide (a.toNat + b.toNat ≥ 2 ^ 32))
def aluSub (a b : W32) : ARes := aExact (sval a - sval b) (decide (a.toNat ≥ b.toNat))
def aluNeg (a : W32) : ARes := aExact (-sval a) (decide (a.toNat = 0))
def aluAbs (a : W32) : ARes := aExact (Int.ofNat (sval a).natAbs) false
def aluMul (a b : W32) : ARes := aExact (sval a * sval b) false
def aluAnd (a b : W32) : ARes := aPlain (a &&& b) false
def aluOr (a b : W32) : ARes := aPlain (a ||| b) false
def aluXor (a b : W32) : ARes := aPlain (a ^^^ b) false
def aluShl (a b : W32) : ARes :=
  let n := b.toNat % 32
  ⟨a <<< n, sval a * 2 ^ n, decide (n > 0) && nbit a.toNat (32 - n), false, true, true⟩
def aluShr (a b : W32) : ARes :=
  let n := b.toNat % 32
  aPlain (a >>> n) (decide (n > 0) && nbit a.toNat (n - 1))
def aluAsr (a b : W32) : ARes :=
  let n := b.toNat % 32
  aPlain (a.sshiftRight n) (decide (n > 0) && nbit a.toNat (n - 1))
def aluMin (a b : W32) : ARes := aPlain (if sval a ≤ sval b then a else b) false
def aluMax (a b : W32) : ARes := aPlain (if sval a ≥ sval b then a else b) false
def aluCmp (a b : W32) : ARes := { aluSub a b with cl := false, wr := false }
def aluTst (a b : W32) : ARes := { aluAnd a b with wr := false }
def aluClz (a : W32) : ARes := aPlain (if a = 0 then 32 else BitVec.ofNat 32 (31 - Nat.log2 a.toNat)) false

/-- The operation of a code of R317 other than CSEL. -/
def aluSem (code : Nat) (a b : W32) : ARes :=
  match code with
  | 0 => aluAdd a b | 1 => aluSub a b | 2 => aluNeg a | 3 => aluAbs a | 4 => aluMul a b | 5 => aluAnd a b | 6 => aluOr a b
  | 7 => aluXor a b | 8 => aluShl a b | 9 => aluShr a b | 10 => aluAsr a b | 11 => aluMin a b | 12 => aluMax a b
  | 13 => aluCmp a b | 14 => aluTst a b | _ => aluClz a

/-- The word that S leaves, and whether it changed (R284). -/
def ARes.final (r : ARes) (sat : Bool) : W32 × Bool :=
  if sat ∧ r.cl ∧ outI32 r.big then (if r.big < 0 then 0x80000000 else 0x7FFFFFFF, true) else (r.w, false)

/-- The flags Z, N, C, V as SR holds them. -/
def flagsOf (w : W32) (c v : Bool) : W32 := BitVec.ofNat 32 (b2n (w == 0) + 2 * b2n (nbit w.toNat 31) + 4 * b2n c + 8 * b2n v)

/-- A condition of R312 on the flags. -/
def condTrue (cond : Nat) (f : W32) : Bool :=
  let z := nbit f.toNat 0
  let n := nbit f.toNat 1
  let c := nbit f.toNat 2
  let v := nbit f.toNat 3
  match cond with
  | 0 => true | 1 => z | 2 => !z | 3 => n != v | 4 => n == v | 5 => !z && n == v | 6 => z || n != v | 7 => c | 8 => !c
  | 9 => n | 10 => !n | 11 => v | _ => !v

/-- Run an ALU instruction. -/
def runAlu (c : Nat) (i : KI) (s : State) : State :=
  match i with
  | .alu code sat d a b imm cond =>
    let x := s.kD c a
    let y := match b with | some r => s.kD c r | none => wrapI imm
    if code = 0x10 then s.kWrite c d (if condTrue cond (s.kRead c 0x50 .e1) then x else y) .alu
    else
      let r := aluSem code x y
      let (w, ch) := r.final sat
      let s := if r.wr then s.kWrite c d w .alu else s
      (s.kWrite c 0x50 (flagsOf w r.c r.v) .flag).kSat c ch
  | _ => s

/-! ### Floating point (R318, R319) -/

/-- The operation of a code of R318 other than FCMP. -/
def fpSem (code : Nat) (a b : W32) : FRes :=
  match code with
  | 0 => fpAdd a b | 1 => fpSub a b | 2 => fpMul a b | 3 => fpNeg a | 4 => fpAbs a | 5 => fpMin a b | 6 => fpMax a b
  | 8 => fpOfInt a | 9 => fpToInt a | 10 => fpScale a b | 11 => fpRcp a | _ => fpRsq a

/-- The flags of FCMP. -/
def fcmpFlags (a b : W32) : W32 :=
  let x := fpUnpack a
  let y := fpUnpack b
  BitVec.ofNat 32 (b2n (fvEq x y) + 2 * b2n (fvLt x y) + 4 * b2n (x == .nan || y == .nan))

/-- Write an FP result with the clamp of S (R284). -/
def State.kFpOut (s : State) (c d : Nat) (sat : Bool) (r : FRes) (kind : WKind) : State :=
  let (w, ch) := if sat then fpClamp (s.kRead c 0x42 .e1) r.w else (r.w, false)
  ((s.kWrite c d w kind).kNv c r.nv).kSat c ch

/-- Run an FP instruction. -/
def runFp (c : Nat) (i : KI) (s : State) : State :=
  match i with
  | .fp code sat d a b =>
    let x := s.kD c a
    let y := s.kD c b
    if code = 7 then s.kWrite c 0x50 (fcmpFlags x y) .flag
    else s.kFpOut c d (sat && code != 9) (fpSem code x y) .fp
  | _ => s

/-- Run the register form of FMAC. -/
def runMac (c : Nat) (i : KI) (s : State) : State :=
  match i with
  | .mac sat neg clr d a b =>
    let acc := if clr then 0 else s.kRead c d .acc
    s.kFpOut c d sat (fpMac neg acc (s.kD c a) (s.kD c b)) .mac
  | _ => s

/-! ### Memory (R272, R313, R314, R320) -/

/-- The register code of a word of X (bus 0) or Y (bus 1). -/
def memCode (bus a : Nat) : Nat := (if bus = 0 then 0x10000 else 0x20000) + a

/-- Read a word. -/
def State.kMem (s : State) (c bus a : Nat) : W32 := s.kRead c (memCode bus a) .mem

/-- Post-modify an address register by its modifier. -/
def State.kPost (s : State) (c a : Nat) (pm : Bool) : State :=
  if pm then s.kWrite c (0x20 + a) (postModify (s.kA c a) (s.kM c a)) .post else s

/-- One move of the parallel form; `skip` is the register that the operation of the same instruction writes (R288). -/
def State.kMove (s : State) (c bus : Nat) (m : Option KMove) (skip : Option Nat) : State :=
  match m with
  | none => s
  | some m =>
    let a := (s.kA c m.a).toNat
    let s := if m.store then s.kWrite c (memCode bus a) (s.kD c m.d) .mem
      else if skip = some m.d then s else s.kWrite c m.d (s.kMem c bus a) .load
    s.kPost c m.a m.pm

/-- Whether a move's address is outside R272. -/
def State.kMoveBad (s : State) (c : Nat) (m : Option KMove) : Bool :=
  match m with | none => false | some m => decide ((s.kA c m.a).toNat > 0xFFFF)

/-- The D register that an operation writes. -/
def KI.dest : KI → Option Nat
  | .alu code _ d .. => if code = 13 ∨ code = 14 then none else some d
  | .fp code _ d .. => if code = 7 then none else some d
  | .mac _ _ _ d .. => some d
  | _ => none

/-! ### Moves (R311, R321) -/

/-- A register as MOVE reads it. -/
def State.kGet (s : State) (c r : Nat) : W32 :=
  if r < 0x40 then s.kRead c r .e1
  else if r < 0x42 then BitVec.ofNat 32 ((s.kRead c r .e1).toNat % 65536)
  else if r = 0x43 then s.kSr c
  else if 0x48 ≤ r ∧ r ≤ 0x4B then BitVec.ofNat 32 (tget (fun _ => ⟨0, false⟩) (s.kc c).dma (r - 0x48)).addr
  else if r = 0x4D then 0
  else if r = 0x4E then BitVec.ofNat 32 (s.kc c).cycles
  else s.kRead c r .e1

/-- Start or stop a DMA channel (R275); a start clears its error bit. -/
def State.kDmaSet (s : State) (c n v : Nat) : State :=
  let k := s.kc c
  if v = 0 then
    let d := tget (fun _ => KDma.mk 0 false) k.dma n
    s.setKc c { k with dma := tset (fun _ => ⟨0, false⟩) k.dma n { d with stop := d.addr != 0 } }
  else
    let s := s.setKc c { k with dma := tset (fun _ => ⟨0, false⟩) k.dma n ⟨v, false⟩ }
    (s.kCores c).foldl (fun s x => s.put (DSP_CORE_STAT_DMA_ERR x) (nclr (s.fld (DSP_CORE_STAT_DMA_ERR x)) n)) s

/-- Ring the doorbells of the kettle's other cores (R282): bit i raises vector 5 on core i. -/
def State.kBell (s : State) (c : Nat) (v : W32) : State :=
  (bitsOf v.toNat 8).foldl (fun s i => s.kRaise (s.kKey (c / 8 * 8 + i)) 5) s

/-- Write a register by a move. -/
def State.kPutReg (s : State) (c r : Nat) (v : W32) : State :=
  if r < 0x20 then s.kWrite c r v .alu
  else if r < 0x40 then s.kWrite c r v .move
  else if r < 0x42 then s.kWrite c r (BitVec.ofNat 32 (v.toNat % 65536)) .move
  else if r = 0x42 then
    (if fpPosFinite v then s.kWrite c r v .satb else (s.kWrite c r 0x3F800000 .satb).kNv c true)
  else if r = 0x43 then (s.kSet c 0x43 (v &&& 0x80C0)).kWrite c 0x50 (v &&& 0xF) .flag
  else if r = 0x46 then s.kSet c r v
  else if 0x48 ≤ r ∧ r ≤ 0x4B then s.kDmaSet c (r - 0x48) v.toNat
  else if r = 0x4D then s.kBell c v
  else s.kWrite c r v .move

/-- A read of MBOX clears the mailbox request (R282). -/
def State.kMboxRead (s : State) (c r : Nat) : State :=
  if r = 0x4C then let k := s.kc c; s.setKc c { k with req := nclr k.req 7 } else s

/-! ### Search (R324) -/

/-- Whether a candidate is taken, and whether a NaN made the comparison invalid. -/
def searchTakes (int32 min : Bool) (v m : W32) : Bool × Bool :=
  if int32 then (if min then decide (sval v < sval m) else decide (sval v > sval m), false)
  else
    let x := fpUnpack v
    let y := fpUnpack m
    (if min then fvLt x y else fvLt y x, x == .nan || y == .nan)

/-- One step of a search. -/
def State.kSearch (s : State) (c : Nat) (int32 min ix : Bool) (dm di a : Nat) (v : W32) : State :=
  let (t, nv) := searchTakes int32 min v (s.kD c dm)
  let idx := if ix then s.kA c a else BitVec.ofNat 32 ((s.kRead c 0x40 .e1).toNat % 65536)
  let s := if t then (s.kWrite c dm v .alu).kWrite c di idx .alu else s
  s.kNv c nv

/-! ### Control commands -/

/-- NOP (R315). -/
def execNop (c : Fin 96) (s : State) : Host.Outcome State Fault Refusal := .next (s.kIssue c 80 (fun _ _ s => (s, .seq)))

/-- BRA (R315, R316). -/
def execBra (c : Fin 96) (s : State) : Host.Outcome State Fault Refusal :=
  .next (s.kIssue c 81 (fun c i s => match i with
    | .bra cond disp =>
      let t := (Int.ofNat (s.kc c).pc + disp)
      let t := if t < 0 then 0x4000 else t.toNat
      (s, .branch (if condTrue cond (s.kRead c 0x50 .br) then some (t, true) else none))
    | _ => (s, .seq)))

/-- CALL (R315). -/
def execCall (c : Fin 96) (s : State) : Host.Outcome State Fault Refusal :=
  .next (s.kIssue c 82 (fun c i s => match i with
    | .call t =>
      let w2 := if fieldGet (s.kFetch c ((s.kc c).pc + 1)) 28 4 = 15 then 2 else 1
      let w3 := if fieldGet (s.kFetch c ((s.kc c).pc + 1 + w2)) 28 4 = 15 then 2 else 1
      (s.kWrite c 0x2F (BitVec.ofNat 32 ((s.kc c).pc + 1 + w2 + w3)) .move, .branch (some (t, false)))
    | _ => (s, .seq)))

/-- JMP (R315): a target with bits above [13:0] faults when it is fetched. -/
def execJmp (c : Fin 96) (s : State) : Host.Outcome State Fault Refusal :=
  .next (s.kIssue c 83 (fun c i s => match i with
    | .jmp a => (s, .branch (some ((s.kRead c (0x20 + a) .jmp).toNat, false)))
    | _ => (s, .seq)))

/-- RTI (R299). -/
def execRti (c : Fin 96) (s : State) : Host.Outcome State Fault Refusal := .next (s.kIssue c 84 (fun _ _ s => (s, .rti)))

/-- WAIT (R294, R315). -/
def execWait (c : Fin 96) (s : State) : Host.Outcome State Fault Refusal := .next (s.kIssue c 85 (fun _ _ s => (s, .wait)))

/-! ### Integer ALU commands (R317) -/

/-- ADD. -/
def execAdd (c : Fin 96) (s : State) : Host.Outcome State Fault Refusal := .next (s.kIssue c 86 (fun c i s => (runAlu c i s, .seq)))
/-- SUB. -/
def execSub (c : Fin 96) (s : State) : Host.Outcome State Fault Refusal := .next (s.kIssue c 87 (fun c i s => (runAlu c i s, .seq)))
/-- NEG. -/
def execNeg (c : Fin 96) (s : State) : Host.Outcome State Fault Refusal := .next (s.kIssue c 88 (fun c i s => (runAlu c i s, .seq)))
/-- ABS. -/
def execAbs (c : Fin 96) (s : State) : Host.Outcome State Fault Refusal := .next (s.kIssue c 89 (fun c i s => (runAlu c i s, .seq)))
/-- MUL. -/
def execMul (c : Fin 96) (s : State) : Host.Outcome State Fault Refusal := .next (s.kIssue c 90 (fun c i s => (runAlu c i s, .seq)))
/-- AND. -/
def execAnd (c : Fin 96) (s : State) : Host.Outcome State Fault Refusal := .next (s.kIssue c 91 (fun c i s => (runAlu c i s, .seq)))
/-- OR. -/
def execOr (c : Fin 96) (s : State) : Host.Outcome State Fault Refusal := .next (s.kIssue c 92 (fun c i s => (runAlu c i s, .seq)))
/-- XOR. -/
def execXor (c : Fin 96) (s : State) : Host.Outcome State Fault Refusal := .next (s.kIssue c 93 (fun c i s => (runAlu c i s, .seq)))
/-- SHL. -/
def execShl (c : Fin 96) (s : State) : Host.Outcome State Fault Refusal := .next (s.kIssue c 94 (fun c i s => (runAlu c i s, .seq)))
/-- SHR. -/
def execShr (c : Fin 96) (s : State) : Host.Outcome State Fault Refusal := .next (s.kIssue c 95 (fun c i s => (runAlu c i s, .seq)))
/-- ASR. -/
def execAsr (c : Fin 96) (s : State) : Host.Outcome State Fault Refusal := .next (s.kIssue c 96 (fun c i s => (runAlu c i s, .seq)))
/-- MIN. -/
def execMin (c : Fin 96) (s : State) : Host.Outcome State Fault Refusal := .next (s.kIssue c 97 (fun c i s => (runAlu c i s, .seq)))
/-- MAX. -/
def execMax (c : Fin 96) (s : State) : Host.Outcome State Fault Refusal := .next (s.kIssue c 98 (fun c i s => (runAlu c i s, .seq)))
/-- CMP. -/
def execCmp (c : Fin 96) (s : State) : Host.Outcome State Fault Refusal := .next (s.kIssue c 99 (fun c i s => (runAlu c i s, .seq)))
/-- TST. -/
def execTst (c : Fin 96) (s : State) : Host.Outcome State Fault Refusal := .next (s.kIssue c 100 (fun c i s => (runAlu c i s, .seq)))
/-- CLZ. -/
def execClz (c : Fin 96) (s : State) : Host.Outcome State Fault Refusal := .next (s.kIssue c 101 (fun c i s => (runAlu c i s, .seq)))
/-- CSEL. -/
def execCsel (c : Fin 96) (s : State) : Host.Outcome State Fault Refusal := .next (s.kIssue c 102 (fun c i s => (runAlu c i s, .seq)))

/-! ### Floating-point commands (R318, R319) -/

/-- FADD. -/
def execFadd (c : Fin 96) (s : State) : Host.Outcome State Fault Refusal := .next (s.kIssue c 103 (fun c i s => (runFp c i s, .seq)))
/-- FSUB. -/
def execFsub (c : Fin 96) (s : State) : Host.Outcome State Fault Refusal := .next (s.kIssue c 104 (fun c i s => (runFp c i s, .seq)))
/-- FMUL. -/
def execFmul (c : Fin 96) (s : State) : Host.Outcome State Fault Refusal := .next (s.kIssue c 105 (fun c i s => (runFp c i s, .seq)))
/-- FNEG. -/
def execFneg (c : Fin 96) (s : State) : Host.Outcome State Fault Refusal := .next (s.kIssue c 106 (fun c i s => (runFp c i s, .seq)))
/-- FABS. -/
def execFabs (c : Fin 96) (s : State) : Host.Outcome State Fault Refusal := .next (s.kIssue c 107 (fun c i s => (runFp c i s, .seq)))
/-- FMIN. -/
def execFmin (c : Fin 96) (s : State) : Host.Outcome State Fault Refusal := .next (s.kIssue c 108 (fun c i s => (runFp c i s, .seq)))
/-- FMAX. -/
def execFmax (c : Fin 96) (s : State) : Host.Outcome State Fault Refusal := .next (s.kIssue c 109 (fun c i s => (runFp c i s, .seq)))
/-- FCMP. -/
def execFcmp (c : Fin 96) (s : State) : Host.Outcome State Fault Refusal := .next (s.kIssue c 110 (fun c i s => (runFp c i s, .seq)))
/-- I2F. -/
def execI2f (c : Fin 96) (s : State) : Host.Outcome State Fault Refusal := .next (s.kIssue c 111 (fun c i s => (runFp c i s, .seq)))
/-- F2I. -/
def execF2i (c : Fin 96) (s : State) : Host.Outcome State Fault Refusal := .next (s.kIssue c 112 (fun c i s => (runFp c i s, .seq)))
/-- FSCL. -/
def execFscl (c : Fin 96) (s : State) : Host.Outcome State Fault Refusal := .next (s.kIssue c 113 (fun c i s => (runFp c i s, .seq)))
/-- FRCP. -/
def execFrcp (c : Fin 96) (s : State) : Host.Outcome State Fault Refusal := .next (s.kIssue c 114 (fun c i s => (runFp c i s, .seq)))
/-- FRSQ. -/
def execFrsq (c : Fin 96) (s : State) : Host.Outcome State Fault Refusal := .next (s.kIssue c 115 (fun c i s => (runFp c i s, .seq)))
/-- FMAC, register form. -/
def execFmac (c : Fin 96) (s : State) : Host.Outcome State Fault Refusal := .next (s.kIssue c 116 (fun c i s => (runMac c i s, .seq)))

/-- FMAC.M (R319): the X word and the Y word, each with its post-modify. -/
def execFmacM (c : Fin 96) (s : State) : Host.Outcome State Fault Refusal :=
  .next (s.kIssue c 117 (fun c i s => match i with
    | .macm sat neg clr d x px y py =>
      let ax := (s.kA c x).toNat
      let ay := (s.kA c y).toNat
      if ax > 0xFFFF ∨ ay > 0xFFFF then (s, .fault 4)
      else
        let acc := if clr then 0 else s.kRead c d .acc
        let r := fpMac neg acc (s.kMem c 0 ax) (s.kMem c 1 ay)
        (((s.kFpOut c d sat r .mac).kPost c x px).kPost c y py, .seq)
    | _ => (s, .seq)))

/-! ### Load and store (R320) -/

/-- The address that an access uses, and the address register afterwards. -/
def State.kAddr (s : State) (c am a : Nat) (disp : Int) : Nat × State :=
  let v := s.kA c a
  match am with
  | 0 => (v.toNat, s)
  | 1 => (v.toNat, s.kPost c a true)
  | 2 => ((v + wrapI disp).toNat, s)
  | _ => (v.toNat, s.kWrite c (0x20 + a) (v + wrapI disp) .post)

/-- LD. -/
def execLd (c : Fin 96) (s : State) : Host.Outcome State Fault Refusal :=
  .next (s.kIssue c 118 (fun c i s => match i with
    | .ls _ bus am d a disp =>
      let (ad, s') := s.kAddr c am a disp
      if ad > 0xFFFF then (s, .fault 4) else (s'.kWrite c d (s.kMem c bus ad) .load, .seq)
    | _ => (s, .seq)))

/-- ST. -/
def execSt (c : Fin 96) (s : State) : Host.Outcome State Fault Refusal :=
  .next (s.kIssue c 119 (fun c i s => match i with
    | .ls _ bus am d a disp =>
      let (ad, s') := s.kAddr c am a disp
      if ad > 0xFFFF then (s, .fault 4) else (s'.kWrite c (memCode bus ad) (s.kD c d) .mem, .seq)
    | _ => (s, .seq)))

/-! ### Moves (R321) -/

/-- MOVE. -/
def execMove (c : Fin 96) (s : State) : Host.Outcome State Fault Refusal :=
  .next (s.kIssue c 120 (fun c i s => match i with
    | .mov _ rd rs => ((s.kPutReg c rd (s.kGet c rs)).kMboxRead c rs, .seq)
    | _ => (s, .seq)))

/-- MOVEI. -/
def execMovei (c : Fin 96) (s : State) : Host.Outcome State Fault Refusal :=
  .next (s.kIssue c 121 (fun c i s => match i with
    | .mov _ rd imm => (s.kPutReg c rd (wrapI (toSigned 16 imm)), .seq)
    | _ => (s, .seq)))

/-- MOVEU. -/
def execMoveu (c : Fin 96) (s : State) : Host.Outcome State Fault Refusal :=
  .next (s.kIssue c 122 (fun c i s => match i with
    | .mov _ rd imm => (s.kPutReg c rd (BitVec.ofNat 32 (imm * 65536)), .seq)
    | _ => (s, .seq)))

/-- The value that MOVEL leaves in the upper half, which it does not write: the newest one issued to SATB, and of a D register what
it holds when MOVEL's result is seen. -/
def State.kHalf (s : State) (c r : Nat) : W32 :=
  if r = 0x42 then
    match ((s.kc c).pend.filter (fun w => w.reg = 0x42)).getLast? with | some w => w.val | none => s.kBase c 0x42
  else if r < 0x20 then (s.setKc c { s.kc c with pos := (s.kc c).pos + 1 }).kD c r
  else s.kGet c r

/-- MOVEL: the halves are written independently. -/
def execMovel (c : Fin 96) (s : State) : Host.Outcome State Fault Refusal :=
  .next (s.kIssue c 123 (fun c i s => match i with
    | .mov _ rd imm => (s.kPutReg c rd (fieldPut (s.kHalf c rd) 0 16 imm), .seq)
    | _ => (s, .seq)))

/-! ### Loops (R322, R323) -/

/-- REP #count. -/
def execRep (c : Fin 96) (s : State) : Host.Outcome State Fault Refusal :=
  .next (s.kIssue c 124 (fun _ i s => match i with
    | .repI n => (s, .rep n)
    | _ => (s, .seq)))

/-- REP Dr. -/
def execRepD (c : Fin 96) (s : State) : Host.Outcome State Fault Refusal :=
  .next (s.kIssue c 125 (fun c i s => match i with
    | .repD d => (s, .rep ((s.kRead c d .rep).toNat % 65536))
    | _ => (s, .seq)))

/-- LOOP: a third level, the enclosing loop's counter, or a block that outlasts the enclosing one is FAULT 2. -/
def execLoop (c : Fin 96) (s : State) : Host.Outcome State Fault Refusal :=
  .next (s.kIssue c 126 (fun c i s => match i with
    | .loop k len =>
      match (s.kc c).loops with
      | [] => (s, .loop k len)
      | [l] => if l.lc = k ∨ (s.kc c).pc + len > l.last then (s, .fault 2) else (s, .loop k len)
      | _ => (s, .fault 2)
    | _ => (s, .seq)))

/-! ### Search (R324) -/

/-- Run a search instruction. -/
def runSearch (c : Nat) (i : KI) (s : State) : State × KFlow :=
  match i with
  | .srch t m ix dm di ds a => (s.kSearch c t m ix dm di a (s.kD c ds), .seq)
  | .srchM t m ix dm di bus a pm =>
    let ad := (s.kA c a).toNat
    if ad > 0xFFFF then (s, .fault 4) else ((s.kSearch c t m ix dm di a (s.kMem c bus ad)).kPost c a pm, .seq)
  | _ => (s, .seq)

/-- MAXI. -/
def execMaxi (c : Fin 96) (s : State) : Host.Outcome State Fault Refusal := .next (s.kIssue c 127 runSearch)
/-- MINI. -/
def execMini (c : Fin 96) (s : State) : Host.Outcome State Fault Refusal := .next (s.kIssue c 128 runSearch)

/-! ### The parallel form (R325) and reserved encodings (R309) -/

/-- PARALLEL_FORM: the operation and both moves issue together. -/
def execParallelForm (c : Fin 96) (s : State) : Host.Outcome State Fault Refusal :=
  .next (s.kIssue c 129 (fun c i s => match i with
    | .par x y op =>
      if s.kMoveBad c x ∨ s.kMoveBad c y then (s, .fault 4)
      else
        let s' := (s.kMove c 0 x op.dest).kMove c 1 y op.dest
        ((match op with
          | .alu .. => runAlu c op s'
          | .fp .. => runFp c op s'
          | _ => runMac c op s'), .seq)
    | _ => (s, .seq)))

/-- RESERVED_ENCODING (R309): the core halts with FAULT = 1. -/
def execReservedEncoding (c : Fin 96) (s : State) : Host.Outcome State Fault Refusal :=
  let x := s.kKey c
  let k := s.kc x
  .next (if (k.st ≠ 2 ∧ k.st ≠ 3) ∨ s.kFenced x then s
    else if k.pc > 0x3FFF then s.kFault x 3
    else if (decK (s.kFetch x k.pc) (s.kFetch x (k.pc + 1))).isNone then s.kFault x 1
    else s)

end Sys2Proof.Machine
end

