-- ==== Sys2Proof/Machine/Kettle.lean ====
section
/-! DEFINITION. Kettle units: fences, kernels, interrupts, DMA, rests and the memory window (chapter 12). -/

namespace Sys2Proof.Machine

/-! ### Fences (R269 to R271) -/

/-- KETTLE_UNIT_FENCE: STAT of each core, KET_STAT, 0x1C01; audio work moves at the next mix cycle. -/
def State.fenceKet (s : State) (core cause : Nat) : State :=
  let c := s.kKey core
  if s.kFenced c then s
  else
    let pc := (s.kc c).pc
    let s := ((s.kPut c DSP_CORE_STAT_FENCED 1).kPut c DSP_CORE_STAT_CAUSE cause).kPut c DSP_CORE_PC_PC pc
    let k := c / 8
    let s := s.put (DSP_KET_STAT_FENCED k) ((s.kCores c).foldl (fun v x => nset v (x % 8)) (s.fld (DSP_KET_STAT_FENCED k)))
    let s := { s with aud := { s.aud with place := true } }
    let arg := evArg [(0, 1, cause), (4, 4, pc)]
    let s := s.emit 0x1C01 (s.kUnit c) arg
    if cause = 4 then s else s.logFault (if cause = 1 then 9 else if cause = 2 then 1 else 6) 1 0x1C01 (s.kUnit c) arg

/-- LOCKSTEP_MISMATCH (R269, R271): in checked mode; cause 2 when a memory error explains it. -/
def execLockstepMismatch (c : Fin 96) (memErr : Bool) (s : State) : Host.Outcome State Fault Refusal :=
  .next (if s.kSplit c then s else s.fenceKet c (if memErr then 2 else 1))

/-- KETTLE_TEST_SLOT (R270): in split mode, at an accepting boundary; it delays the code by its 600,000 cycles. -/
def execKettleTestSlot (c : Fin 96) (pass : Bool) (s : State) : Host.Outcome State Fault Refusal :=
  .next (if !s.kSplit c ∨ s.kFenced c ∨ !(s.kc c).boundary then s
    else if pass then (if (s.kc c).st = 0 then s else s.kCycles c 600000)
    else s.fenceKet c 3)

/-- KETTLE_FENCE_CMD. -/
def execKettleFenceCmd (p : Port) (c : Fin 96) (v : W32) (s : State) : Host.Outcome State Fault Refusal :=
  .next (s.portWrite p (DSP_CORE_CTRL c) v (fun s => if fieldGet v 0 1 = 1 then s.fenceKet c 4 else s))

/-! ### Kernels (R302 to R304) -/

/-- Write words into a local memory of a core: 0 P, 1 X, 2 Y. -/
def State.kLoad (s : State) (mem c base : Nat) (ws : List W32) : State :=
  (ws.foldl (fun (a : State × Nat) w =>
    let key := c * 65536 + a.2
    let s := a.1
    ((match mem with
      | 0 => { s with ket := { s.ket with p := tset (fun _ => 0) s.ket.p key w } }
      | 1 => { s with ket := { s.ket with x := tset (fun _ => 0) s.ket.x key w } }
      | _ => { s with ket := { s.ket with y := tset (fun _ => 0) s.ket.y key w } }), a.2 + 1)) (s, base)).1

/-- Load one unit with a kernel, or leave it in WAIT with IMASK 0 (R303). -/
def State.kStart (s : State) (c : Nat) (kn : Option Kern) : State :=
  match kn with
  | some n =>
    let u := if n.split then c % 8 else c % 8 / 2
    if nbit n.units u then
      let s := ((s.kLoad 0 c 0 n.p).kLoad 1 c 0 n.x).kLoad 2 c 0 n.y
      (s.setKc c { KCore.zero with regs := tput [] 0x44 (BitVec.ofNat 32 n.vbase) }).kState c 2
    else (s.setKc c KCore.zero).kState c 1
  | none => (s.setKc c KCore.zero).kState c 1

/-- The kernel section that a kettle's KSEL names. -/
def State.kernOf (s : State) (k : Nat) : Option Kern :=
  s.ket.kerns.find? (fun n => n.index == s.fld (DSP_KET_CFG_KSEL k))

/-- Load a kettle: at the pitch that enables it or changes MODE, CUST or KSEL (R303, R304). A library kettle's code is not
the manual's; its units wait. A fenced core fences its whole pair in checked mode. -/
def State.ketLoad (s : State) (k : Nat) : State :=
  let cores := (List.range 8).map (· + 8 * k)
  let fenced := cores.filter s.kFenced
  let s := if s.bit (DSP_KET_CFG_MODE k) then s
    else fenced.foldl (fun s c => s.kPut c DSP_CORE_STAT_FENCED 1) s
  let s := s.put (DSP_KET_STAT_FENCED k) ((cores.filter s.kFenced).foldl (fun v c => nset v (c % 8)) 0)
  let s := cores.foldl (fun s c => (s.setKc c KCore.zero).put (DSP_CORE_STAT_STATE c) 0) s
  let units := cores.filter (fun c => s.kKey c == c && !s.kFenced c)
  if !s.bit (DSP_KET_CFG_EN k) then s.put (DSP_KET_STAT_LOADED k) 0
  else
    let kn := if s.bit (DSP_KET_CFG_CUST k) then s.kernOf k else none
    if s.bit (DSP_KET_CFG_CUST k) ∧ kn.isNone then
      (s.put (DSP_KET_STAT_LOADED k) 0).emit 0x1C04 (s.kUnit (8 * k)) (evArg [(0, 1, k), (4, 4, s.fld (DSP_KET_CFG_KSEL k))])
    else
      let s := units.foldl (fun s c => s.kStart c kn) s
      { s with aud := { s.aud with place := true } }.put (DSP_KET_STAT_LOADED k) 1

/-- KETTLE_UNFENCE_CMD (R271): the golden-vector test begins; UNFENCE reads 1 while it runs. -/
def State.ketUnfence (s : State) (core : Nat) : State :=
  let c := s.kKey core
  if s.kFenced c then s.kPut c DSP_CORE_CTRL_UNFENCE 1 else s
def execKettleUnfenceCmd (p : Port) (c : Fin 96) (v : W32) (s : State) : Host.Outcome State Fault Refusal :=
  .next (s.portWrite p (DSP_CORE_CTRL c) v (fun s => if fieldGet v 1 1 = 1 then s.ketUnfence c else s))

/-- KETTLE_UNIT_TEST_DONE (R271): on a pass the unit is unfenced, reloaded and 0x1C02 raised. -/
def execKettleUnitTestDone (core : Fin 96) (pass : Bool) (s : State) : Host.Outcome State Fault Refusal :=
  let c := s.kKey core
  .next (if !s.bit (DSP_CORE_CTRL_UNFENCE c) then s
    else
      let s := s.kPut c DSP_CORE_CTRL_UNFENCE 0
      if !pass then s
      else
        let k := c / 8
        let s := s.kPut c DSP_CORE_STAT_FENCED 0
        let s := s.put (DSP_KET_STAT_FENCED k) ((s.kCores c).foldl (fun v x => nclr v (x % 8)) (s.fld (DSP_KET_STAT_FENCED k)))
        let s := if s.bit (DSP_KET_CFG_EN k) then s.kStart c (if s.kCust c then s.kernOf k else none) else s
        let s := { s with aud := { s.aud with place := true } }
        s.emit 0x1C02 (s.kUnit c) 0)

/-- KETTLE_HALT_CMD (R305): on customer kettles, at the next accepting boundary. -/
def State.ketHalt (s : State) (core : Nat) : State :=
  let c := s.kKey core
  let k := s.kc c
  if !s.kCust c ∨ k.st = 0 ∨ k.st = 4 ∨ k.st = 5 then s
  else ((s.setKc c { k with halt := true }).kPut c DSP_CORE_CTRL_HALT 1).kHaltNow c
def execKettleHaltCmd (p : Port) (c : Fin 96) (v : W32) (s : State) : Host.Outcome State Fault Refusal :=
  .next (s.portWrite p (DSP_CORE_CTRL c) v (fun s => if fieldGet v 2 1 = 1 then s.ketHalt c else s))

/-- KETTLE_RELEASE_CMD (R286, R305): a halted or faulted core of a customer kettle starts at P address 0. -/
def State.ketRelease (s : State) (core : Nat) : State :=
  let c := s.kKey core
  let k := s.kc c
  if !s.kCust c ∨ (k.st ≠ 4 ∧ k.st ≠ 5) then s
  else
    let k := { k with pc := 0, slots := 0, target := none, rep := none, loops := [], ih := false, cycles := 0 }
    (s.setKc c { k with inv := 0, halt := false }).kState c 2
def execKettleReleaseCmd (p : Port) (c : Fin 96) (v : W32) (s : State) : Host.Outcome State Fault Refusal :=
  .next (s.portWrite p (DSP_CORE_CTRL c) v (fun s => if fieldGet v 3 1 = 1 then s.ketRelease c else s))

/-- Every command bit of DSP_CORE_CTRL, for a plain register write. -/
def State.ketCtrl (s : State) (c : Nat) (v : W32) : State :=
  let s := if fieldGet v 0 1 = 1 then s.fenceKet c 4 else s
  let s := if fieldGet v 1 1 = 1 then s.ketUnfence c else s
  let s := if fieldGet v 2 1 = 1 then s.ketHalt c else s
  if fieldGet v 3 1 = 1 then s.ketRelease c else s

/-! ### Interrupts (R296 to R300) -/

/-- MBOX_WRITE (R282): the word and vector 7; a write while the request is pending replaces the word. -/
def State.mboxWrite (s : State) (core : Nat) (v : W32) : State := ((s.kSet (s.kKey core) 0x4C v).kRaise (s.kKey core) 7)
def execMboxWrite (p : Port) (c : Fin 96) (v : W32) (s : State) : Host.Outcome State Fault Refusal :=
  .next (s.portWrite p (DSP_CORE_MBOX c) v (fun s => s.mboxWrite c v))

/-- The vector that would be taken now: the lowest pending one of 2 to 7 that IE and IMASK let through. -/
def State.kVector (s : State) (c : Nat) : Option Nat :=
  let k := s.kc c
  let mask := (s.kRead c 0x45 .lp).toNat
  if k.ih ∨ !k.boundary ∨ !nbit (s.kBase c 0x43).toNat 15 then none
  else [2, 3, 4, 5, 6, 7].find? (fun v => nbit k.req v && nbit mask v)

/-- INTERRUPT_ACCEPT (R298, R299): the issued instructions complete, the shadow set is saved, the handler begins. A core in
WAIT accepts when its rest is over. -/
def execInterruptAccept (core : Fin 96) (s : State) : Host.Outcome State Fault Refusal :=
  let c := s.kKey core
  let k := s.kc c
  .next (if s.kFenced c ∨ (k.st ≠ 1 ∧ k.st ≠ 2) ∨ (k.st = 1 ∧ s.raw < k.restEnd) then s
    else match s.kVector c with
      | none => s
      | some v =>
        let vb := (s.kRead c 0x44 .lp).toNat
        let s := s.kFlush c
        let k := s.kc c
        let sh : Shadow := ⟨k.pc, s.kSr c, s.kBase c 0x40, s.kBase c 0x41, k.loops⟩
        let s := s.setKc c { k with shadow := sh, ih := true, loops := [], req := nclr k.req v, pc := vb + 2 * v }
        (((s.kSet c 0x43 (s.kBase c 0x43 &&& 0x00C0)).kSet c 0x40 0).kSet c 0x41 0).kState c 3)

/-- KETTLE_TIMER_EXPIRE (R282): a core that issues nothing counts its TIMER down to 0 and raises vector 6. -/
def execKettleTimerExpire (core : Fin 96) (s : State) : Host.Outcome State Fault Refusal :=
  let c := s.kKey core
  let k := s.kc c
  let t := (s.kBase c 0x46).toNat
  .next (if s.kFenced c ∨ k.st ≠ 1 ∨ t = 0 then s
    else ((s.setKc c { k with cycles := k.cycles + t }).kSet c 0x46 0).kRaise c 6)

/-- REST_WAIT_END (R295): the rest after an invocation is over. -/
def execRestWaitEnd (core : Fin 96) (s : State) : Host.Outcome State Fault Refusal :=
  let c := s.kKey core
  let k := s.kc c
  .next (if k.st = 1 ∧ s.raw ≥ k.restEnd then s.setKc c { k with restEnd := 0 } else s)

/-- Kettle triggers (R296, R297): trigger `t` raises vector 3 on every unit whose IMASK enables it; a request that finds one
pending is merged and counted. -/
def State.ketTrigger (s : State) (t : Nat) : State :=
  (List.range 12).foldl (fun s k =>
    let w := s.fld (DSP_KET_TRIG_TRIG0_to_TRIG3 k)
    let hits := (List.range 4).filter (fun i => w / 2 ^ (8 * i) % 256 == 128 + t)
    if hits.isEmpty ∨ !s.bit (DSP_KET_STAT_LOADED k) then s
    else ((List.range 8).map (· + 8 * k)).foldl (fun s c =>
      if s.kKey c ≠ c ∨ s.kFenced c ∨ !nbit (s.kRead c 0x45 .lp).toNat 3 then s
      else hits.foldl (fun s _ =>
        if nbit (s.kc c).req 3 then
          ((s.kCores c).foldl (fun s x => s.cnt (DSP_CORE_CNT_TRIG_LOST_COUNT x) 1) s).emitLim 0x1C05 (s.kUnit c) 1 0
        else s.kRaise c 3) s) s) s

/-! ### DMA (R275 to R277) -/

/-- A DMA address as a word of a memory: 0 DRAM (a byte address), 1 shared, 2 X, 3 Y, 4 P with the global key; none outside
its space or window. `n` is the number of bytes that the access takes. -/
def State.dmaAddr (s : State) (c a n : Nat) : Option (Nat × Nat) :=
  let k := c / 8
  let sp := a / 2 ^ 60
  let core := s.kKey (8 * k + a / 2 ^ 56 % 8)
  let off := a % 2 ^ 32
  if a % 4 ≠ 0 then none
  else match sp with
    | 0 =>
      let o := a % 2 ^ 40
      if a / 2 ^ 40 ≠ 0 ∨ o + n > s.pairVal (DSP_KET_DRAM_LIMIT_LO k) (DSP_KET_DRAM_LIMIT_HI k) then none
      else some (0, s.pairVal (DSP_KET_DRAM_BASE_LO k) (DSP_KET_DRAM_BASE_HI k) + o)
    | 1 => if a % 2 ^ 60 / 2 ^ 32 ≠ 0 ∨ off + n > 0x200000 then none else some (1, k * 524288 + off / 4)
    | 2 | 3 => if a / 2 ^ 59 % 2 ≠ 0 ∨ a % 2 ^ 56 / 2 ^ 32 ≠ 0 ∨ off + n > 0x40000 then none else some (sp, core * 65536 + off / 4)
    | 4 => if a / 2 ^ 59 % 2 ≠ 0 ∨ a % 2 ^ 56 / 2 ^ 32 ≠ 0 ∨ off + n > 0x10000 then none else some (4, core * 65536 + off / 4)
    | _ => none

/-- Read and write one word of a DMA space. -/
def State.dmaRead (s : State) (m : Nat × Nat) : W32 :=
  match m.1 with
  | 0 => BitVec.ofNat 32 (bytesAt (s.dbytes m.2 4) 0 4)
  | 1 => tget (fun _ => 0) s.ket.shared m.2
  | 2 => tget (fun _ => 0) s.ket.x m.2
  | 3 => tget (fun _ => 0) s.ket.y m.2
  | _ => tget (fun _ => 0) s.ket.p m.2
def State.dmaWrite (s : State) (m : Nat × Nat) (v : W32) : State :=
  match m.1 with
  | 0 => s.dputs m.2 (leBytes 4 v.toNat)
  | 1 => { s with ket := { s.ket with shared := tset (fun _ => 0) s.ket.shared m.2 v } }
  | 2 => { s with ket := { s.ket with x := tset (fun _ => 0) s.ket.x m.2 v } }
  | 3 => { s with ket := { s.ket with y := tset (fun _ => 0) s.ket.y m.2 v } }
  | _ => { s with ket := { s.ket with p := tset (fun _ => 0) s.ket.p m.2 v } }

/-- Copy `n` words; `bad` counts down to a word whose read is uncorrectable; a poisoned DRAM word is one too (R452). Nothing is written beyond a failing word. -/
def State.dmaRow (c : Nat) : Nat → Nat → Nat → Option Nat → State → State × Bool × Option Nat
  | 0, _, _, bad, s => (s, true, bad)
  | n + 1, src, dst, bad, s =>
    match s.dmaAddr c src 4, s.dmaAddr c dst 4, bad with
    | _, _, some 0 => (s, false, bad)
    | some a, some b, bad =>
      if a.1 = 0 ∧ s.poisoned a.2 4 then (s, false, bad)
      else State.dmaRow c n (src + 4) (dst + 4) (bad.map (· - 1)) (s.dmaWrite b (s.dmaRead a))
    | _, _, _ => (s, false, bad)

/-- Copy `rows` rows. -/
def State.dmaRows (c words : Nat) (ss ds : Int) : Nat → Nat → Nat → Option Nat → State → State × Bool
  | 0, _, _, _, s => (s, true)
  | n + 1, src, dst, bad, s =>
    match State.dmaRow c words src dst bad s with
    | (s, true, bad) =>
      State.dmaRows c words ss ds n (ofSigned 64 (Int.ofNat src + ss)) (ofSigned 64 (Int.ofNat dst + ds)) bad s
    | (s, false, _) => (s, false)

/-- A core's DMA channel. -/
def KCore.ch (k : KCore) (n : Nat) : KDma := tget (fun _ => ⟨0, false⟩) k.dma n
def State.setCh (s : State) (c n : Nat) (d : KDma) : State :=
  let k := s.kc c
  s.setKc c { k with dma := tset (fun _ => ⟨0, false⟩) k.dma n d }

/-- DMA_DESCRIPTOR_DONE (R275, R277): the descriptor in flight on a channel moves its rows; the chain goes on, stops, or stops
on an error with vector 2 and DMA_ERR. A fenced unit's requests are refused. -/
def execDmaDescriptorDone (core : Fin 96) (n : Fin 4) (bad : Option Nat) (s : State) : Host.Outcome State Fault Refusal :=
  let c := s.kKey core
  let d := (s.kc c).ch n
  .next (if d.addr = 0 ∨ s.kFenced c then s
    else
      let w := fun i => (tget (fun _ => 0) s.ket.x (c * 65536 + (d.addr + i) % 65536)).toNat
      let fl := w 5 / 65536
      let rows := w 5 % 65536
      let (s', ok) :=
        if d.addr + 7 > 0xFFFF ∨ w 4 = 0 ∨ w 4 > 65536 ∨ w 4 % 4 ≠ 0 ∨ rows = 0 ∨ fl > 3 then (s, false)
        else State.dmaRows c (w 4 / 4) (toSigned 32 (w 6)) (toSigned 32 (w 7)) rows (w 0 + 2 ^ 32 * w 1) (w 2 + 2 ^ 32 * w 3) bad s
      if ok then
        let s := if fl % 2 = 1 then s'.kRaise c 4 else s'
        s.setCh c n (if fl / 2 % 2 = 1 ∧ !d.stop then ⟨d.addr + 8, false⟩ else ⟨0, false⟩)
      else
        let s := (s'.setCh c n ⟨0, false⟩).kRaise c 2
        (s.kCores c).foldl (fun s x => s.put (DSP_CORE_STAT_DMA_ERR x) (nset (s.fld (DSP_CORE_STAT_DMA_ERR x)) n)) s)

/-! ### The memory window (R305) -/

/-- A window address: the space's word key, none out of range. -/
def State.dspAddr (s : State) (v : W32) (i : Nat) : Option (Nat × Nat) :=
  let k := fieldGet v 16 4
  let c := s.kKey (8 * k + fieldGet v 10 3)
  let a := s.fld DSP_WIN_ADDR_WORD
  let sp := fieldGet v 24 4
  let lim := match sp with | 1 => 524288 | 2 | 3 => 65536 | 4 => 16384 | _ => 0
  if k ≥ 12 ∨ a % 64 ≠ 0 ∨ a + 63 ≥ lim then none
  else some (if sp = 1 then (1, k * 524288 + a + i) else (sp, c * 65536 + a + i))

/-- The effect of DSP_WIN_CMD: `bad` says that a fetched word was uncorrectable. -/
def State.dspWin (s : State) (v : W32) (bad : Bool) : State :=
  let op := fieldGet v 28 4
  let k := fieldGet v 16 4
  let c := s.kKey (8 * k + fieldGet v 10 3)
  match s.dspAddr v 0 with
  | none => if op = 1 ∨ op = 2 then s.put DSP_WIN_STAT_ERR 1 else s
  | some _ =>
    if op = 1 then
      let ws := (List.range 64).map (fun i => match s.dspAddr v i with | some m => s.dmaRead m | none => 0)
      (s.winPut (DSP_WIN_DATA 0) ws).put DSP_WIN_STAT_ERR (if bad then 2 else 0)
    else if op = 2 then
      if !s.bit (DSP_KET_CFG_CUST k) ∨ (fieldGet v 24 4 ≠ 1 ∧ ((s.kc c).st = 2 ∨ (s.kc c).st = 3)) then s.put DSP_WIN_STAT_ERR 3
      else
        let s := (List.range 64).foldl (fun s i => match s.dspAddr v i with
          | some m => s.dmaWrite m (s.rd (DSP_WIN_DATA i))
          | none => s) s
        s.put DSP_WIN_STAT_ERR 0
    else s

/-- DSP_WIN_FETCH. -/
def execDspWinFetch (p : Port) (sp k : Fin 16) (c : Fin 8) (bad : Bool) (s : State) : Host.Outcome State Fault Refusal :=
  let v : W32 := BitVec.ofNat 32 (1 * 2 ^ 28 + sp * 2 ^ 24 + k * 2 ^ 16 + c * 2 ^ 10)
  .next (s.portWrite p DSP_WIN_CMD v (fun s => s.dspWin v bad))
/-- DSP_WIN_WRITE. -/
def execDspWinWrite (p : Port) (sp k : Fin 16) (c : Fin 8) (s : State) : Host.Outcome State Fault Refusal :=
  let v : W32 := BitVec.ofNat 32 (2 * 2 ^ 28 + sp * 2 ^ 24 + k * 2 ^ 16 + c * 2 ^ 10)
  .next (s.portWrite p DSP_WIN_CMD v (fun s => s.dspWin v false))

end Sys2Proof.Machine
end

