-- ==== Sys2Proof/Machine/Apt.lean ====
section
/-! DEFINITION. Audio ports: locking, rings, masks, silent changes, aligned groups and AES3 (chapter 14). -/

namespace Sys2Proof.Machine

/-- A port's state. -/
def State.apt (s : State) (p : Nat) : AptX := tget (fun _ => AptX.zero) s.aud.ports p
def State.setApt (s : State) (p : Nat) (x : AptX) : State :=
  { s with aud := { s.aud with ports := tset (fun _ => AptX.zero) s.aud.ports p x } }

/-- Samples per second of RATE, and the period of a port's frames in raw time (R330). -/
def aptHz (r : Nat) : Nat := [32000, 44100, 48000, 88200, 96000, 192000].getD r 192000
def State.aptPeriod (s : State) (p : Nat) : Nat := 65536 * 1000000000 / aptHz (s.fld (APT_PORT_CFG_RATE p))

/-- Kinds and enables (R328, APT_PORT_CFG). -/
def aptIsIn (p : Nat) : Bool := decide (8 ≤ p ∧ p ≤ 11)
def aptIsOut (p : Nat) : Bool := decide (12 ≤ p)
def State.rxOn (s : State) (p : Nat) : Bool := !aptIsOut p && s.bit (APT_PORT_CFG_RX_EN p)
def State.txOn (s : State) (p : Nat) : Bool := !aptIsIn p && s.bit (APT_PORT_CFG_TX_EN p)
def State.aptOn (s : State) (p : Nat) : Bool := s.rxOn p || s.txOn p

/-- DEPTH in bits, WIDTH, SLOTS. AES3 ports have two slots and the fixed frame word 0x0002_2001 (R345). -/
def depthBits : Nat → Nat
  | 0 => 16 | 1 => 20 | 2 => 24 | _ => 32
def State.aptDepth (s : State) (p : Nat) : Nat := if p ≥ 8 then 24 else depthBits (s.fld (APT_PORT_FRAME_DEPTH p))
def State.aptSlots (s : State) (p : Nat) : Nat := if p ≥ 8 then 2 else s.fld (APT_PORT_FRAME_SLOTS p) + 1

/-- The kettle, the status block's word key, and the ring bases (R336). -/
def State.aptBase (s : State) (p : Nat) : Nat := s.fld (APT_PORT_BUF_KETTLE p) * 524288 + s.fld (APT_PORT_BUF_OFFSET p) / 4
def State.aptWord (s : State) (p w : Nat) : W32 := tget (fun _ => 0) s.ket.shared (s.aptBase p + w)
def State.aptPut (s : State) (p w : Nat) (v : W32) : State :=
  { s with ket := { s.ket with shared := tset (fun _ => 0) s.ket.shared (s.aptBase p + w) v } }
def State.rxLen (s : State) (p : Nat) : Nat := s.fld (APT_PORT_LEN_RX_LEN p)
def State.txLen (s : State) (p : Nat) : Nat := s.fld (APT_PORT_LEN_TX_LEN p)
def State.rxWord (s : State) (p c : Nat) : Nat := 16 + (if s.rxLen p = 0 then 0 else c % s.rxLen p)
def State.txWord (s : State) (p c : Nat) : Nat := 16 + s.rxLen p + (if s.txLen p = 0 then 0 else c % s.txLen p)

/-! ### Sample form (R335) -/

/-- A received code of DEPTH bits with its low bits, as a memory word. -/
def rxForm (fp : Bool) (depth code low : Nat) : W32 :=
  let v := code % 2 ^ depth * 2 ^ (32 - depth)
  if fp then
    let x := toSigned 32 v
    fpRound (decide (x < 0)) x.natAbs (-31)
  else BitVec.ofNat 32 (v + low % 2 ^ (32 - depth))

/-- The code of DEPTH bits that a memory word sends, as a signed number. -/
def txForm (fp : Bool) (depth : Nat) (w : W32) : Int :=
  if fp then
    match fpUnpack w with
    | .nan => 0
    | .inf n => if n then -2 ^ (depth - 1) else 2 ^ (depth - 1) - 1
    | .fin n m e =>
      let e' := e + Int.ofNat (depth - 1)
      let q := if e' ≥ 0 then m * 2 ^ e'.toNat else rneShift m (-e').toNat
      if n then max (-2 ^ (depth - 1)) (-(q : Int)) else min (2 ^ (depth - 1) - 1) q
  else toSigned depth (fieldGet w (32 - depth) depth)

/-! ### Silent changes (R341) -/

/-- Slot state: 0 to 31 receive, 32 to 63 transmit. -/
def AptX.z (x : AptX) (k : Nat) : SlotZ := tget (fun _ => SlotZ.zero) x.zs k
def AptX.setZ (x : AptX) (k : Nat) (z : SlotZ) : AptX := { x with zs := tset (fun _ => SlotZ.zero) x.zs k z }

/-- One sample of a slot: the change takes effect at a zero or a change of sign, or goes on along its ramp. -/
def SlotZ.next (z : SlotZ) (v : Int) : SlotZ × Int :=
  match z.ramp with
  | some i =>
    let out := if z.want then v * (32 - Int.ofNat (i + 1)) / 32 else v * Int.ofNat (i + 1) / 32
    ({ z with prev := v, ramp := if i + 1 ≥ 32 then none else some (i + 1), silent := if i + 1 ≥ 32 then z.want else z.silent }, out)
  | none =>
    let cross := decide (v = 0) || decide ((v < 0) ≠ (z.prev < 0))
    let sil := if z.silent ≠ z.want ∧ cross then z.want else z.silent
    ({ z with prev := v, silent := sil }, if sil then 0 else v)

/-- Whether a slot of a direction is to be silent: direction off, or muted. -/
def State.wantSilent (s : State) (p k : Nat) : Bool :=
  if k < 32 then !s.rxOn p || nbit (s.fld (APT_PORT_RX_MUTE_MUTE p)) k
  else !s.txOn p || nbit (s.fld (APT_PORT_TX_MUTE_MUTE p)) (k - 32)

/-- Whether any slot waits (ZC_WAIT). -/
def AptX.zcWait (x : AptX) : Bool := x.zs.any (fun kv => kv.2.silent != kv.2.want)

/-- Changes of mute and enable that land at a frame-sync; a slot that enters the mask muted is silent at once. -/
def State.landSilent (s : State) (p : Nat) : State :=
  let x := s.apt p
  let ks := (List.range 32).flatMap (fun i => (if nbit (s.fld (APT_PORT_RX_MASK_MASK p)) i then [i] else []) ++
    (if nbit (s.fld (APT_PORT_TX_MASK_MASK p)) i then [32 + i] else []))
  s.setApt p (ks.foldl (fun x k =>
    let z := x.z k
    let w := s.wantSilent p k
    let fresh := if k < 32 then !nbit x.rxMask k else !nbit x.txMask (k - 32)
    if w = z.want then x
    else if fresh ∧ w then x.setZ k { z with want := true, silent := true, ramp := none }
    else x.setZ k { z with want := w, since := s.raw, ramp := none }) x)

/-- APT_MASK_CHANGE (R340): new masks land. -/
def State.landMask (s : State) (p : Nat) (tx : Bool) : State :=
  let x := s.apt p
  let m := if tx then s.fld (APT_PORT_TX_MASK_MASK p) else s.fld (APT_PORT_RX_MASK_MASK p)
  if m = (if tx then x.txMask else x.rxMask) then s
  else
    let pos := if tx then x.txR else x.rxW
    let x := { x with maskPos := pos, maskSeq := (x.maskSeq + 1) % 2 ^ 32, newMask := true }
    let x := if tx then { x with txMask := m } else { x with rxMask := m }
    let s := (s.setApt p x).put (APT_PORT_STAT_MASK_SEQ p) (x.maskSeq % 256)
    s.emit 0x1B04 p (evArg [(0, 1, b2n tx), (4, 4, pos), (8, 4, x.maskSeq)])

/-! ### Locking and groups (R330, R342, R343) -/

/-- APT_LOCKED: a port locks after 32 good frames, and loses lock at a bad one. -/
def State.aptLock (s : State) (p : Nat) (good : Bool) : State :=
  let x := s.apt p
  if aptIsOut p then s
  else if good then
    let x := { x with good := min 32 (x.good + 1) }
    if x.good = 32 ∧ !x.locked then
      ((s.setApt p { x with locked := true }).put (APT_PORT_STAT_LOCKED p) 1).emit 0x1B01 p (evArg [(0, 1, 1)])
    else s.setApt p x
  else
    let s' := (s.setApt p { x with good := 0, locked := false }).put (APT_PORT_STAT_LOCKED p) 0
    if x.locked then s'.emit 0x1B01 p 0 else s'

/-- The group of a port, its members that are enabled, and its leader. -/
def State.aptGroup (s : State) (p : Nat) : Nat := s.fld (APT_PORT_CFG_GROUP p)
def State.aptMembers (s : State) (g : Nat) : List Nat := (List.range 16).filter (fun p => g != 0 && s.aptGroup p == g && s.aptOn p)

/-- The sample index that the frame now beginning has on a member that runs aligned: its own index where its frame-sync of this
sample period has come, else the one that follows (DEDUCED, log 173: R342 and R343 compare counts of one sample period). -/
def State.aptNow (s : State) (m : Nat) : Nat :=
  let x := s.apt m
  if 2 * (s.raw - x.syncRaw) < s.aptPeriod m then x.idx else x.idx + 1

/-- The count that a member takes when it begins a frame without running aligned: that of the lowest-numbered other member which runs
aligned, else the highest of the group with one added (R343; log 173). -/
def State.aptJoin (s : State) (p : Nat) (ms : List Nat) : Nat :=
  match ms.find? (fun m => m != p && (s.apt m).aligned) with
  | some m => s.aptNow m
  | none => ms.foldl (fun n m => max n (s.apt m).idx) (s.apt p).idx + 1

/-- A port starts at a sample index, with the word counts of its rings at 0 (R337, R343). -/
def AptX.start (x : AptX) (n : Nat) (grouped : Bool) : AptX :=
  { x with started := true, aligned := grouped, idx := n, rxW := 0, txR := 0 }

/-- APT_GROUP_START, and the count of the frame that begins (R337, R342, R343): a port starts at index 0; members of a group
start together at the leader's frame-sync once every member is locked, and one that locks later takes the group's count. -/
def State.aptStart (s : State) (p : Nat) : State :=
  let x := s.apt p
  let g := s.aptGroup p
  if !x.locked then s
  else if g = 0 then s.setApt p (if x.started then { x with idx := x.idx + 1, syncRaw := s.raw } else { x.start 0 false with syncRaw := s.raw })
  else
    let ms := s.aptMembers g
    let leader := ms.headD p
    if x.started then
      if x.aligned then s.setApt p { x with idx := x.idx + 1, syncRaw := s.raw }
      else
        let n := s.aptJoin p ms
        let skip := n - x.idx - 1
        (s.setApt p { x with
          idx := n, aligned := true, syncRaw := s.raw
          rxW := (x.rxW + skip * popc x.rxMask 32) % 2 ^ 32, txR := (x.txR + skip * popc x.txMask 32) % 2 ^ 32 }).put
          (APT_PORT_STAT_ALIGNED p) 1
    else if ms.any (fun m => m != p && (s.apt m).started) then
      (s.setApt p { x.start (s.aptJoin p ms) true with syncRaw := s.raw }).put (APT_PORT_STAT_ALIGNED p) 1
    else if p = leader ∧ ms.all (fun m => (s.apt m).locked) then
      (s.setApt p { x.start 0 true with syncRaw := s.raw }).put (APT_PORT_STAT_ALIGNED p) 1
    else s

/-! ### The status block (R337) -/

/-- Write the status block's device fields. -/
def State.aptStatus (s : State) (p : Nat) (t : Int) : State :=
  let x := s.apt p
  let fl := b2n x.newMask + 2 * b2n x.under + 4 * b2n x.overrun + 8 * b2n x.locked + 16 * b2n x.aligned
  [(0, x.idx % 2 ^ 32), (1, x.idx / 2 ^ 32), (2, x.rxW), (3, x.txR), (6, fl), (7, x.maskPos), (8, x.maskSeq),
    (9, ofSigned 32 (t / ((65536 * 1000000000 : Nat) : Int))), (10, timeNs t)].foldl
      (fun s y => s.aptPut p y.1 (BitVec.ofNat 32 y.2)) s

/-- The channel status that an AES3 output sends in the block that begins: the words of APT_AES_CS, byte 23 of each channel computed
when CRC_AUTO is 1 (R334). -/
def State.aesBlock (s : State) (p : Nat) : List W32 :=
  [0, 6].flatMap (fun o =>
    let ws := (List.range 6).map (fun i => s.rd (APT_AES_CS p (o + i)))
    if s.bit (APT_AES_CTRL_CRC_AUTO p) then
      let bs := ws.flatMap (fun w => (leBytes 4 w.toNat))
      ws.take 5 ++ [fieldPut (ws.getD 5 0) 24 8 (Config.aesCrc (bs.take 23)).toNat]
    else ws)

/-- Bits 4 to 0 of a subframe that an AES3 output sends, in the places of R335: first frame of a block, V, U, C and P. `b` is the
frame's place in its block, `k` the channel, `code` the audio of 24 bits. P makes the number of ones even. -/
def aesLow (cs : List W32) (b k code v u : Nat) : Nat :=
  let c := b2n (nbit (cs.getD (6 * k + b / 32) 0).toNat (b % 32))
  16 * b2n (b == 0) + 8 * v + 4 * u + 2 * c + (popc code 24 + v + u + c) % 2

/-- The transmit frame that follows: fetched when it is present, else zeros and an underrun (R338, R339). -/
def State.aptFetch (s : State) (p : Nat) : State :=
  let x := s.apt p
  let slots := bitsOf x.txMask (s.aptSlots p)
  let n := slots.length
  let fill := (s.aptWord p 4).toNat
  let here := decide ((fill + 2 ^ 32 - x.txR) % 2 ^ 32 ≥ n)
  let fp := s.bit (APT_PORT_CFG_FORMAT p)
  let d := s.aptDepth p
  let vu := s.bit (APT_AES_CTRL_VU_SRC p) && !fp
  let b := (x.idx + 1) % 192
  let x := if aptIsOut p ∧ (b = 0 ∨ x.cs = []) then { x with cs := s.aesBlock p } else x
  let (x', out) := ((List.range n).zip slots).foldl (fun (a : AptX × List W32) y =>
    let w := if here then s.aptWord p (s.txWord p (x.txR + y.1)) else 0
    let (z, v) := (a.1.z (32 + y.2)).next (txForm fp d w)
    let code := ofSigned d v
    let low := if !aptIsOut p then 0
      else if vu then aesLow x.cs b y.2 code (w.toNat / 2 % 2) (w.toNat % 2)
      else aesLow x.cs b y.2 code (s.fld (APT_AES_CTRL_V_FORCE p)) 0
    (a.1.setZ (32 + y.2) z, a.2 ++ [BitVec.ofNat 32 (code * 2 ^ (32 - d) + low)])) (x, [])
  let out := if s.safe.forced then out.map (fun _ => 0) else out
  let s := s.setApt p { x' with txOut := out, txR := (x.txR + n) % 2 ^ 32, under := !here }
  let s := s.put (APT_PORT_STAT_UNDER p) (b2n (!here))
  if here then s else (s.cnt (APT_PORT_CNT_UNDER_COUNT p) 1).emitLim 0x1B02 p 1 0

/-- A direction runs while it is on, or until every slot of its mask is silent. -/
def State.dirRuns (s : State) (p : Nat) (tx : Bool) : Bool :=
  let x := s.apt p
  if tx then !aptIsIn p && (s.txOn p || (bitsOf x.txMask 32).any (fun i => !(x.z (32 + i)).silent))
  else !aptIsOut p && (s.rxOn p || (bitsOf x.rxMask 32).any (fun i => !(x.z i).silent))

/-- The bit clocks that a TDM frame needs (R330). -/
def State.frameBits (s : State) (p : Nat) : Nat :=
  s.fld (APT_PORT_FRAME_OFFSET p) + s.aptSlots p * s.fld (APT_PORT_FRAME_WIDTH p)

/-- The frame of a port that is locked while neither direction runs: it is started and aligned no longer, so that its next start begins
at index 0 (R337), and an AES3 output that was stopped sends zero samples with valid framing (R341). -/
def State.aptIdle (s : State) (p : Nat) : State :=
  let x := s.apt p
  let b := (x.idx + 1) % 192
  let cs := if b = 0 ∨ x.cs = [] then s.aesBlock p else x.cs
  let x := if aptIsOut p ∧ x.locked then
      { x with
        idx := x.idx + 1, cs := cs
        txOut := if s.safe.forced then [0, 0]
          else [0, 1].map (fun k => BitVec.ofNat 32 (aesLow cs b k 0 (s.fld (APT_AES_CTRL_V_FORCE p)) 0)) }
    else { x with txOut := [] }
  if x.started then (s.setApt p { x with started := false, aligned := false }).put (APT_PORT_STAT_ALIGNED p) 0 else s.setApt p x

/-- A frame synchronisation of a port (R330, R338, R340 to R343): `good` that the frame that ended lay in the rate window, `bits` its bit clocks.
A frame that is too
short is an error, which a receiving port counts when the frame is written. An output of AES3 follows its reference. -/
def State.aptFrame (s : State) (p : Fin 16) (good : Bool) (bits : Nat) : State :=
    let s := s.aptLock p good
    let s := if p.val < 8 then s.put (APT_PORT_STAT_FRAME_BITS p) bits else s
    if !(s.apt p).locked then (s.setApt p { s.apt p with aligned := false, txOut := [] }).put (APT_PORT_STAT_ALIGNED p) 0
    else if !s.aptOn p ∧ !s.dirRuns p false ∧ !s.dirRuns p true then s.aptIdle p
    else
      let s := if p.val < 8 ∧ !s.dirRuns p false ∧ bits < s.frameBits p then s.cnt (APT_PORT_CNT_ERR_COUNT p) 1 else s
      let s := s.aptStart p
      let s := s.setApt p { s.apt p with newMask := false }
      let s := s.landSilent p
      let s := if s.dirRuns p false then s.landMask p false else s
      let s := if s.dirRuns p true then s.landMask p true else s
      let s := if s.dirRuns p true ∧ (s.apt p).started then s.aptFetch p
        else s.setApt p { s.apt p with txOut := [] }
      let s := s.put (APT_PORT_STAT_ZC_WAIT p) (b2n (s.apt p).zcWait)
      if s.dirRuns p true ∧ (s.apt p).started then s.aptStatus p s.now else s

/-- APT_RX_FRAME_DONE (R330, R335 to R339): the codes of the slots that arrived with their low bits, and the subframes whose
parity failed. Slots not fully received are written as 0. -/
def execAptRxFrameDone (p : Fin 16) (samples : List (Nat × Nat)) (parity : Nat) (sync : Int) (s : State) :
    Host.Outcome State Fault Refusal :=
  let x := s.apt p
  .next (if !x.locked ∨ !x.started ∨ !s.dirRuns p false then s
    else
      let n := s.aptSlots p
      let slots := bitsOf x.rxMask n
      let fp := s.bit (APT_PORT_CFG_FORMAT p)
      let d := s.aptDepth p
      let short := p.val < 8 ∧ samples.length < n
      let s := if short then s.cnt (APT_PORT_CNT_ERR_COUNT p) 1 else s
      let s := if parity > 0 then s.cnt (APT_PORT_CNT_ERR_COUNT p) parity else s
      let done := (s.aptWord p 5).toNat
      let late := decide ((x.rxW + slots.length + 2 ^ 32 - done) % 2 ^ 32 > s.rxLen p)
      let (s, x) := ((List.range slots.length).zip slots).foldl (fun (a : State × AptX) y =>
        let (code, low) := samples.getD y.2 (0, 0)
        let (z, v) := (a.2.z y.2).next (toSigned d code)
        (a.1.aptPut p (a.1.rxWord p (x.rxW + y.1)) (rxForm fp d (ofSigned d v) (if aptIsIn p then low else 0)),
          a.2.setZ y.2 z)) (s, x)
      let s := s.setApt p { x with rxW := (x.rxW + slots.length) % 2 ^ 32, overrun := late }
      let s := if late then (s.cnt (APT_PORT_CNT_OVER_COUNT p) 1).emitLim 0x1B03 p 1 0 else s
      (s.put (APT_PORT_STAT_ZC_WAIT p) (b2n (s.apt p).zcWait)).aptStatus p sync)

/-- ZC_TIMEOUT (R341): a slot that has waited ZC_MS without a crossing ramps over the next 32 samples. -/
def execZcTimeout (p : Fin 16) (k : Fin 64) (s : State) : Host.Outcome State Fault Refusal :=
  let x := s.apt p
  let z := x.z k
  .next (if z.silent = z.want ∨ z.ramp.isSome ∨ s.raw - z.since < s.fld (APT_PORT_CFG_ZC_MS p) * msU then s
    else (s.setApt p (x.setZ k { z with ramp := some 0 })).cnt (APT_PORT_CNT_ZC_TO_COUNT p) 1)

/-- AES_CS_BLOCK_RX (R333): a block of 192 frames with the channel status of both subframes; one that passes its CRC is copied
into APT_AES_CS, one that fails is counted with 0x1B05. -/
def execAesCsBlockRx (p : Fin 16) (frames : Nat) (a b : List Byte) (crcOk : Bool) (s : State) : Host.Outcome State Fault Refusal :=
  .next (if !aptIsIn p ∨ !(s.apt p).locked ∨ frames ≠ 192 then s
    else if crcOk then
      (List.range 6).foldl (fun s i =>
        (s.wr (APT_AES_CS p i) (BitVec.ofNat 32 (bytesAt a (4 * i) 4))).wr (APT_AES_CS p (6 + i)) (BitVec.ofNat 32 (bytesAt b (4 * i) 4))) s
    else (s.cnt (APT_PORT_CNT_ERR_COUNT p) 1).emitLim 0x1B05 p 1 0)

/-- Whether an output's reference is locked: WCLK_IN while its monitor is not in failure, else the TDM port or AES3 input (R334). -/
def State.refLocked (s : State) (r : Nat) : Bool :=
  if r = 0 then !nbit (s.fld CLK_FAIL_LO_FAILED) 3
  else if r ≤ 8 then (s.apt (r - 1)).locked
  else if r ≤ 12 then (s.apt (r - 1)).locked
  else false

/-- AES_OUTPUT_LOCKED (R334): an output's PLL has locked to its reference, and the output starts sending. -/
def execAesOutputLocked (p : Fin 16) (s : State) : Host.Outcome State Fault Refusal :=
  let x := s.apt p
  .next (if !aptIsOut p ∨ x.locked ∨ !s.txOn p ∨ !s.refLocked (s.fld (APT_AES_CTRL_REF p)) then s
    else ((s.setApt p { x with locked := true }).put (APT_PORT_STAT_LOCKED p) 1).emit 0x1B01 p (evArg [(0, 1, 1)]))

/-- A port loses its clock, or an output its reference (R331, R334): nothing is sent or written until it locks again. -/
def State.aptLost (s : State) (p : Nat) : State :=
  let x := s.apt p
  let s' := (s.setApt p { x with locked := false, good := 0, aligned := false, txOut := [] }).put (APT_PORT_STAT_LOCKED p) 0
  let s' := s'.put (APT_PORT_STAT_ALIGNED p) 0
  if x.locked then s'.emit 0x1B01 p 0 else s'

end Sys2Proof.Machine
end

