-- ==== Sys2Proof/Machine/RateCtl.lean ====
section
/-! DEFINITION. Rate control (chapter 5): buffer model, picture budgets, unit targets and caps, floor mode, history, and
statistical multiplex pools. -/

namespace Sys2Proof.Machine

/-! ### Rates -/

def State.rcMode (s : State) (n k : Nat) : Nat := s.fld (ENC_CH_RC_MODE_MODE n k)
/-- TARGET, MAX in bit/s. -/
def State.rcTarget (s : State) (n k : Nat) : Nat := s.fld (ENC_CH_RC_RATE_TARGET n k) * 100000
def State.rcMax (s : State) (n k : Nat) : Nat := s.fld (ENC_CH_RC_RATE_MAX n k) * 100000
/-- The HRD rate of the mode (R115). -/
def State.hrdRate (s : State) (n k : Nat) : Nat := if s.rcMode n k = 0 then s.rcTarget n k else s.rcMax n k
/-- The slots from one picture of a rendition to its next (R80): Tf of R118 to R120 is this many times the channel's (assumption log row 103). -/
def State.picStep (s : State) (n k : Nat) : Nat := 2 ^ s.fld (ENC_CH_REND_SIZE_RATE_DIV n k)
/-- base of R120 in bits times the numerator of the frame rate (R115, R135): MAX in constant quality, the pool share of the
slot for a member. -/
def State.aimBase (s : State) (n k share : Nat) : Nat :=
  let (num, den) := s.chRate n
  (if s.rcMode n k = 2 then s.rcMax n k * den
   else if s.bit (ENC_CH_RC_MODE_SMX_EN n k) then share * num else s.rcTarget n k * den) * s.picStep n k
/-- hrd_rate · d0 in bits, and B in bits (R118, R119). -/
def State.fullStart (s : State) (n k : Nat) : Nat := s.hrdRate n k * s.fld (ENC_CH_RC_BUF_INIT n k) / 1000
def State.bufBits (s : State) (n k : Nat) : Nat := s.fld (ENC_CH_RC_BUF_SIZE n k) * 1000

/-! ### Fullness (R119), in units of one bit divided by the numerator of the frame rate -/

/-- The filler bytes of a CBR picture: the least that keeps the fullness at or below B (R119). -/
def rcFiller (mode num den hrd buf bits : Nat) (full : Int) : Nat :=
  let after := full - (bits * num : Nat) + (hrd * den : Nat)
  let excess := after - (buf * num : Nat)
  if mode = 0 ∧ excess > 0 then ceilDiv excess.toNat (8 * num) else 0

/-- F(k + 1). -/
def rcNext (mode num den hrd buf bits : Nat) (full : Int) : Int :=
  let after := full - ((bits + 8 * rcFiller mode num den hrd buf bits full) * num : Nat) + (hrd * den : Nat)
  if mode = 0 then after else min ((buf * num : Nat) : Int) after

/-! ### Picture budgets (R120, R122, R130) -/

/-- `want` of R120 in modes 0 and 1, without the buffer term: base · clip(c / c_avg, 1/4, 4), four times for intra.
`base` is `bn / bd` bits; c_avg is `cs / cl`. -/
def rcWant (bn bd c cs cl : Nat) (intra : Bool) : Nat :=
  let t := if intra then 4 else 1
  if cs = 0 then bn * Config.ratioZero c * t / (bd * 4)
  else if c * cl ≥ 4 * cs then bn * 4 * t / bd
  else if 4 * c * cl ≤ cs then bn * t / (bd * 4)
  else bn * c * cl * t / (bd * cs)

/-- P(k) from want (R120). -/
def rcClip (want : Int) (floorSum full : Int) : Nat := (min (max want floorSum) full).toNat

/-- The layer weights of R122 in tenths. -/
def layerWeight (layer : Nat) : Nat := if layer = 0 then 10 else if layer = 1 then 6 else 4

/-- The temporal layer of a position in a group of M pictures (R627). -/
def groupLayer (m pos : Nat) : Nat :=
  match m, pos with
  | 2, 0 => 1 | 3, 0 => 2 | 3, 1 => 1 | 4, 0 => 2 | 4, 1 => 1 | 4, 2 => 2 | _, _ => 0

/-- The coding order of a group of M pictures (R627). -/
def groupOrder : Nat → List Nat
  | 2 => [1, 0] | 3 => [2, 1, 0] | 4 => [3, 1, 0, 2] | _ => [0]

/-- Whether the class of a slot is decided as MISSING. -/
def SlotRec.missing (x : SlotRec) : Bool := (x.isCls && x.cls == 2) || (nbit x.decided 0 && nbit x.late 0)

/-- Whether slot j is known to carry a random-access point (R627): it is marked, or a hint names it. -/
def Chan.rapAt (c : Chan) (j : Nat) : Bool := (c.slot j).rap != 0 || c.hints.any (fun h => h.2 == j)

/-- The length of the mini-group that starts at slot `st` with M pictures at most (R627): it ends before a slot known to carry a
random-access point, which is coded alone, as the first picture is, and as the picture that takes a forced point is (R148). -/
def Chan.groupLen (c : Chan) (m st : Nat) : Nat :=
  if st = c.start ∨ c.rapAt st ∨ (st = c.grpStart + c.grpLen ∧ !(c.slot st).missing ∧ c.rcs.any (fun x => x.2.forced != 0)) then 1
  else ((List.range m).find? (fun i => c.rapAt (st + i))).getD m

/-- The first slot and length of the mini-group that slot j lies in, from a group start on. -/
def Chan.groupOf (c : Chan) (m j : Nat) : Nat → Nat → Nat × Nat
  | 0, st => (st, 1)
  | f + 1, st => if j < st + c.groupLen m st then (st, c.groupLen m st) else c.groupOf m j f (st + c.groupLen m st)

/-- The temporal layer that slot j has or will have (R627). -/
def Chan.layerAt (c : Chan) (m j : Nat) : Nat :=
  if c.grpStart ≤ j ∧ j < c.grpStart + c.grpLen then groupLayer c.grpLen (j - c.grpStart)
  else
    let g := c.groupOf m j 16 (c.grpStart + c.grpLen)
    groupLayer g.2 (j - g.1)

/-- The weighted complexities s(j) of the look-ahead window from slot k (R122), in tenths: 0 for a MISSING slot and for one past the end of
the run. A slot that carries or is to carry a random-access point of rendition `rend` counts its intra complexity. -/
def State.windowS (s : State) (n rend k j : Nat) (intraK : Bool) : Nat :=
  let c := s.chan n
  let sl := c.slot j
  if (sl.isCls && sl.cls == 2) || (match c.stop with | some e => decide (e ≤ j) | none => false) then 0
  else if nbit sl.rap rend ∨ c.hints.any (fun h => h.2 == j && nbit h.1 rend) ∨ sl.endsGrey ∨
      (j = c.grpStart + c.grpLen ∧ (c.rc rend).forced ≠ 0) ∨ (j = k ∧ intraK) then sl.mill.sumIntra * 10
  else sl.mill.sumInter * layerWeight (c.layerAt (min ((s.asOf n k).lookL n + 1) 4) j)

/-- Whether every earlier picture of the rendition's history is complete, so that F(k) is known (R83). -/
def Chan.earlierDone (c : Chan) (rend k ord : Nat) : Bool :=
  let f := (c.rcAt rend k).first
  c.pics.all (fun x => x.1 % 16 != rend || decide (x.2.ord ≥ ord) || decide (x.1 / 16 < f) || x.2.done)

/-- The record of the last analysed picture before slot k, with its slot (R121). -/
def Chan.recBefore (c : Chan) (k : Nat) : Option (Nat × MillRec) := (c.recs.filter (fun x => decide (x.1 < k))).getLast?

/-- The record that the budget of slot k uses (R121): in row mode the last analysed one before it, else the slot's own. -/
def State.budgetRec (s : State) (n k : Nat) : Option (Nat × MillRec) :=
  if (s.asOf n k).chMode n = 0 then (s.chan n).recBefore k
  else if (s.chan n).slot k |>.mill.complete then some (k, ((s.chan n).slot k).mill) else none

/-- The words of a rendition's configuration, from which its headers follow (R118, R120). -/
def State.rendCfg (s : State) (n k : Nat) : List W32 :=
  [s.rd (ENC_CH_FMT n), s.rd (ENC_CH_SIZE n), s.rd (ENC_CH_CTRL n), s.rd (ENC_CH_OUT_PKG n k), s.rd (ENC_CH_REND_CODEC n k),
   s.rd (ENC_CH_REND_SIZE n k), s.rd (ENC_CH_RC_MODE n k), s.rd (ENC_CH_RC_RATE n k), s.rd (ENC_CH_RC_BUF n k)]

/-- H(k) (R118, R120): the headers of a random-access picture take H_rap, and no picture's take more. -/
def State.headers (s : State) (n k rend : Nat) (intra rap : Bool) : Nat :=
  let cfg := (s.asOf n k).rendCfg n rend
  if rap then Config.headerRap cfg else min (Config.headerBits cfg k (b2n intra)) (Config.headerRap cfg)

/-- c_avg after a scene cut (R121): the first budget that uses the cut picture's record sets c_avg(inter) to its SUM_INTER. -/
def RcRec.takeCut (rc : RcRec) (r : Option (Nat × MillRec)) : RcRec :=
  match r with
  | some (j, m) => if m.cut ∧ rc.cutAt ≠ some j then { rc with inters := [m.sumInter], cutAt := some j } else rc
  | none => rc

/-- `want` of R120 and R122 in bits: twice the predicted size in constant quality outside look-ahead mode; else the aim of the picture or of
its window, with the buffer term. -/
def State.wantBits (s : State) (n k rend : Nat) (p : RPic) (rc : RcRec) (cplx : Nat) : Int :=
  let t := s.asOf n k
  let num := (t.chRate n).1
  let full := rc.full / (num : Int)
  let term := ((t.fullStart n rend : Int) - full) / 8
  let bn := t.aimBase n rend (tget (fun _ => 0) ((s.chan n).slot k).shares rend)
  let avg := if p.intra then rc.intras else rc.inters
  if t.chMode n = 2 then
    let l := t.lookL n
    let tot := ((List.range (l + 1)).map (fun i => s.windowS n rend k (k + i) p.intra)).sum
    let w := if tot = 0 then bn * Config.ratioZero cplx / (num * 4) else bn * (l + 1) * s.windowS n rend k k p.intra / (num * tot)
    (w : Int) + term
  else if t.rcMode n rend = 2 then ((2 * Config.predictedSize n rend k cplx (t.fld (ENC_CH_RC_MODE_QP n rend)) : Nat) : Int)
  else (rcWant bn num cplx avg.sum avg.length p.intra : Int) + term

/-- The complexity that a picture's budget uses: where no picture was analysed before the slot it is a free value. -/
def cplxOf (n rend k : Nat) (intra : Bool) (r : Option (Nat × MillRec)) : Nat :=
  match r with
  | some (_, m) => if intra then m.sumIntra else m.sumInter
  | none => Config.noRecord n rend k

/-- Set the budget of a picture (R120, R122, R130, R116), under the registers of its slot: nothing in CQP. -/
def State.setBudget (s : State) (n k rend : Nat) : State :=
  let c := s.chan n
  match c.pic k rend with
  | none => s
  | some p =>
    if p.budgeted then s
    else
      let t := s.asOf n k
      let rec' := s.budgetRec n k
      let rc := if p.shape = 0 then (c.rcAt rend k).takeCut rec' else c.rcAt rend k
      let hdr := s.headers n k rend p.intra p.rap
      let full := rc.full / ((t.chRate n).1 : Int)
      let flr := ((hdr + t.floorPic n rend p.intra : Nat) : Int)
      let cplx := cplxOf n rend k p.intra rec'
      let b := if t.rcMode n rend = 3 then 0
        else if p.shape = 0 then rcClip (s.wantBits n k rend p rc cplx) flr full else flr.toNat
      let s := s.setChan n ((c.setRcAt rend k rc).setPic k rend { p with budgeted := true, budget := b, hdr := hdr, cplx := cplx })
      (s.put (ENC_RC_BUDGET_BITS n rend) b).put (ENC_RC_STAT_REPEAT n rend) (b2n (p.shape != 0))

/-! ### Units (R125 to R128) -/

/-- The sequence that a unit is budgeted in: all units in row mode, its partition's otherwise (R123, R125). -/
def State.seqOf (s : State) (n rend u : Nat) : List Nat :=
  let us := s.units n rend
  if s.chMode n = 0 then List.range us.length
  else
    let j := ((us[u]?).map (·.part)).getD 0
    (List.range us.length).filter (fun v => ((us[v]?).map (·.part)).getD 0 = j)

/-- The weight of an area over a mill record (R126): its entries that cover the area of the top-rung picture. -/
def millWeight (m : MillRec) (ctu blkW : Nat) (intra : Bool) (x0 x1 y0 y1 : Nat) : Nat :=
  ((List.range (ceilDiv y1 64 - y0 / 64)).flatMap (fun i =>
    let by_ := y0 / 64 + i
    (List.range (ceilDiv x1 64 - x0 / 64)).map (fun j =>
      let row := by_ * 64 / ctu
      let idx := (by_ - row * ctu / 64) * blkW + x0 / 64 + j
      match ((tfind m.rows row).getD [])[idx]? with
      | some e => if intra then e.intra else min e.intra e.inter
      | none => 0))).sum

/-- The weight of a unit over a record, its area scaled to the top rung. -/
def State.areaWeight (s : State) (n rend : Nat) (m : MillRec) (intra : Bool) (a : Area) : Nat :=
  let w0 := s.rendW n 0
  let h0 := s.rendH n 0
  let w := max 1 (s.rendW n rend)
  let h := max 1 (s.rendH n rend)
  millWeight m (rowLines (s.codec n 0)) (ceilDiv w0 64) intra (a.x0 * w0 / w) (ceilDiv (a.x1 * w0) w)
    (a.y0 * h0 / h) (ceilDiv (a.y1 * h0) h)

/-- X(u) of R125 from P − H, the known sizes or caps of the earlier units, and the floors from u on. -/
def rcX (p : Int) (known : List Nat) (floors : List Nat) : Int := p - (known.sum : Int) - (floors.sum : Int)

/-- Target and cap of a unit from X, its floor f, weight w and the sum of the later weights; the Bool says floor mode. -/
def rcUnit (floorMode : Bool) (x : Int) (f w rest : Nat) : Nat × Nat × Bool :=
  if floorMode ∨ x < f then (0, f, true)
  else
    let x := x.toNat
    let share := if w + rest = 0 then min x (Config.shareZero x f) else x * w / (w + rest)
    (f + share, f + min x (2 * share), false)

/-- The codec's maximum QP. -/
def qpMax (codec : Nat) : Nat := if codec ≤ 1 then 51 else 63

/-- The start offset of R132. -/
def startOfs (n : Nat) : Nat := if n < 8 then (3 * (8 - n) + 7) / 8 else 0

/-- The QP of a unit (R116, R124, R127, R132), `t` holding the registers of its slot: the codec's maximum in floor mode; fixed in CQP; the
lowest QP from QP up whose predicted size fits the cap in constant quality; else the one whose predicted size meets the target. Outside floor
mode and CQP the start offset is added and the result clipped to QP_MIN and QP_MAX. -/
def pickQp (t : State) (n rend k u target cap weight kb kw count : Nat) (inFloor : Bool) : Nat :=
  let mode := t.rcMode n rend
  let qp := t.fld (ENC_CH_RC_MODE_QP n rend)
  let hi := min (t.fld (ENC_CH_RC_MODE_QP_MAX n rend)) (qpMax (t.codec n rend))
  if inFloor then qpMax (t.codec n rend)
  else if mode = 3 then qp
  else
    let q := if mode = 2 then
        ((List.range (64 - qp)).map (· + qp)).find? (fun q => Config.predictedSize n rend k weight q ≤ cap) |>.getD hi
      else Config.unitQp (n, rend, k, u) target weight kb kw
    min (max q (t.fld (ENC_CH_RC_MODE_QP_MIN n rend)) + startOfs count) hi

/-- base_q_idx of AV1 (R127); the other codecs have none. -/
def baseQIdx (codec qp : Nat) : Nat := if codec = 3 then min (4 * qp) 255 else 0

/-- The blocks of a unit in coding order (R128): natural and floor-form bits of each; before a block, the bits so far and
the floor bound of the remaining blocks are compared with the cap. The answer is the size, whether any block is in floor mode and how many
are not; a size never exceeds the cap. -/
def codeBlocks (cap bound : Nat) : List (Nat × Nat) → Nat → Bool → Nat → Nat × Bool × Nat
  | [], b, fl, m => (b, fl, m)
  | (nat, flo) :: t, b, fl, m =>
    if fl ∨ b + (t.length + 1) * bound ≥ cap then codeBlocks cap bound t (b + min flo bound) true m
    else codeBlocks cap bound t (b + min nat (cap - t.length * bound - b)) false (m + 1)

/-- The floor bound of one block of a rendition (R124). -/
def State.blockBound (s : State) (n k : Nat) (intra : Bool) : Nat :=
  let (inter, intr) := match s.codec n k with | 0 => (2, 12) | 1 => (16, 48) | _ => (24, 160)
  let q := match s.fld (ENC_CH_REND_CODEC_CHROMA n k) with | 0 => 4 | 1 => 5 | _ => 6
  if intra then intr * q / 4 else inter

/-! ### History (R121, R131 to R133) -/

/-- The number of 64×64 blocks of the top-rung picture. -/
def State.blocks64 (s : State) (n : Nat) : Nat := ceilDiv (s.rendW n 0) 64 * ceilDiv (s.rendH n 0) 64

/-- Start a rendition without history at slot k (R131); `cause` 0 = channel enable, 1 = rendition restart. The history of the pictures before k
goes on beside it. How the ratio of R127 follows from the seed is a free function. -/
def State.seedRc (s : State) (n r cause k : Nat) : State :=
  let c := s.chan n
  let old := c.rc r
  let b := s.blocks64 n
  let si := s.fld (ENC_CH_RC_SEED_INTRA n r)
  let sx := s.fld (ENC_CH_RC_SEED_INTER n r)
  let olds := if c.pics.any (fun x => x.1 % 16 == r && decide (x.1 / 16 < k) && !x.2.done) then c.olds ++ [(r, k, old)] else c.olds
  let s := s.setChan n ({ c with olds := olds }.setRc r { RcRec.zero with
    active := true, full := ((s.fullStart n r * (s.chRate n).1 : Nat) : Int), intras := [si * b], inters := [sx * b],
    rBits := Config.seedBits si sx, rWeight := Config.seedWeight si sx, maxRap := s.rcMax n r, ord := if cause = 0 then 0 else old.ord,
    cause := cause, first := k })
  let s := (s.put (ENC_RC_STAT_HISTORY n r) 0).put (ENC_RC_FULLNESS_BITS n r) (if s.rcMode n r = 3 then 0 else s.fullStart n r)
  s.emit 0x1031 n (evArg [(0, 1, r), (1, 1, cause)])

/-- The first unit coded in floor mode, or 0x7FF (ENC_RC_STAT). -/
def firstFloor (us : List UnitRec) : Nat := (us.findIdx? (fun u => u.floored)).getD 0x7FF

/-- The descriptor of a coded picture's reconstruction (R88, R129): FLAGS from its type, shape, repeat rows and floor mode. -/
def State.reconDesc (s : State) (n k rend : Nat) (p : RPic) (flo : Bool) : PicDesc :=
  let t := s.asOf n k
  let rows := p.shape == 0 && p.units.any (fun u => u.rep)
  int18Desc (s.liveBuf n (((s.chan n).side).getD 0) k (3 + 3 * rend)) (t.rendW n rend) (t.rendH n rend)
    (t.fld (ENC_CH_REND_CODEC_CHROMA n rend)) (depthOf (t.fld (ENC_CH_REND_CODEC_DEPTH n rend)))
    (descFlags p.intra (p.shape != 0) rows flo false p.rap) p.media ((s.chan n).slot k).epoch p.q

/-- Write the descriptor of the reconstruction and the table of the coded picture buffer. -/
def State.writePic (s : State) (n k rend : Nat) (p : RPic) (flo : Bool) : State :=
  let side := ((s.chan n).side).getD 0
  let h := ceilDiv p.hdr 8
  (s.putDesc (s.liveBuf n side k (4 + 3 * rend)) (s.reconDesc n k rend p flo)).dputs
    (s.liveBuf n side k (5 + 3 * rend) + h + (p.units.map (fun u => ceilDiv u.bits 8)).sum) (entryTable h (p.units.map (fun u => ceilDiv u.bits 8)))

/-- A picture of a rendition is complete (R119, R121, R129, R132, R133), under the registers of its slot: size and fullness, counters,
history, and its descriptor. -/
def State.rcPicDone (s : State) (n k rend : Nat) : State :=
  let c := s.chan n
  match c.pic k rend with
  | none => s
  | some p =>
    let t := s.asOf n k
    let rc := c.rcAt rend k
    let (num, den0) := t.chRate n
    let den := den0 * t.picStep n rend
    let mode := t.rcMode n rend
    let bits := p.hdr + (p.units.map (·.bits)).sum
    let hrd := t.hrdRate n rend
    let buf := t.bufBits n rend
    let fill := if mode = 3 then 0 else rcFiller mode num den hrd buf bits rc.full
    let full := if mode = 3 then rc.full else rcNext mode num den hrd buf bits rc.full
    let flo := p.shape == 0 && mode != 3 && p.units.any (fun u => u.floored)
    let normal := p.shape == 0
    let own := (c.slot k).mill
    let rc := { rc with
      full := full
      intras := if normal ∧ p.intra then (own.sumIntra :: rc.intras).take 16 else rc.intras
      inters := if normal ∧ !p.intra then (own.sumInter :: rc.inters).take 16 else rc.inters
      rBits := if normal then (p.units.map (·.bits)).sum else rc.rBits
      rWeight := if normal then (p.units.map (·.weight)).sum else rc.rWeight
      count := rc.count + 1 }
    let c := (c.setRcAt rend k rc).setPic k rend { p with done := true, fill := fill }
    let c := { c with olds := c.olds.filter (fun x => c.pics.any (fun y => y.1 % 16 == x.1 && decide (y.1 / 16 < x.2.1) && !y.2.done)) }
    let s := (s.setChan n c).writePic n k rend p flo
    let qps := (p.units.map (·.qp)).sum
    let s := s.put (ENC_RC_LAST_BITS_BITS n rend) bits
    let s := s.put (ENC_RC_FULLNESS_BITS n rend) (if mode = 3 then 0 else (full / (num : Int)).toNat)
    let s := s.put (ENC_RC_STAT_FLOORED n rend) (b2n flo)
    let s := s.put (ENC_RC_STAT_FLOOR_UNIT n rend) (if flo then firstFloor p.units else 0x7FF)
    let s := s.put (ENC_RC_STAT_QP_AVG n rend) (qps / max 1 p.units.length)
    let s := s.put (ENC_RC_STAT_START_OFS n rend) (if mode = 3 then 0 else startOfs (rc.count - 1))
    let s := s.put (ENC_RC_STAT_HISTORY n rend) (b2n (decide (rc.count ≥ 8)))
    let s := s.put (ENC_RC_STAT_REPEAT n rend) (b2n (p.shape != 0))
    let s := s.cnt (ENC_RC_CNT_FILLER_COUNT n rend) fill
    if flo then
      (s.cnt (ENC_RC_CNT_FLOOR_COUNT n rend) 1).emitLim 0x1030 (n * 16 + rend) 1 0
    else s

/-! ### Statistical multiplex pools (R134, R135) -/

/-- The members of a pool: (channel, rendition) pairs, rising. -/
def State.smxMembers (s : State) (p : Nat) : List (Nat × Nat) :=
  (List.range 16).flatMap (fun n => ((s.rends n).filter (fun k =>
    s.bit (ENC_CH_RC_MODE_SMX_EN n k) && s.fld (ENC_CH_RC_MODE_SMX_POOL n k) == p)).map (fun k => (n, k)))

/-- A member of the division: complexity, TARGET and MAX, and its fixed share, in bits per slot times the numerator of the frame rate. -/
structure SmxM where
  c     : Nat
  lo    : Nat
  hi    : Nat
  fixed : Option Nat
  deriving DecidableEq, Repr

/-- One round of R135: members outside their bounds are clipped and fixed; none left changes nothing. -/
def smxRound (total : Nat) (ms : List SmxM) : List SmxM :=
  let free := total - (ms.map (fun m => m.fixed.getD 0)).sum
  let cs := (ms.map (fun m => if m.fixed.isSome then 0 else m.c)).sum
  ms.map (fun m =>
    match m.fixed with
    | some _ => m
    | none =>
      let sh := if cs = 0 then min free (Config.shareZero free 0) else free * m.c / cs
      if free * m.c < m.lo * cs then { m with fixed := some m.lo }
      else if free * m.c > m.hi * cs then { m with fixed := some m.hi }
      else if cs = 0 ∧ sh < m.lo then { m with fixed := some m.lo }
      else m)

/-- At most 16 rounds. -/
def smxRounds (total : Nat) : Nat → List SmxM → List SmxM
  | 0, ms => ms
  | r + 1, ms => smxRounds total r (smxRound total ms)

/-- The shares of R135 in whole bits per slot, rounded down; `num` is the numerator of the frame rate. -/
def smxShares (num total : Nat) (ms : List SmxM) : List Nat :=
  let ms := smxRounds total 16 ms
  let free := total - (ms.map (fun m => m.fixed.getD 0)).sum
  let cs := (ms.map (fun m => if m.fixed.isSome then 0 else m.c)).sum
  ms.map (fun m => match m.fixed with
    | some x => x / num
    | none => if cs = 0 then min free (Config.shareZero free 0) / num else free * m.c / (cs * num))

/-- The complexity of a member's last analysed picture before a slot: by the type that the member coded it with (R121, R135). -/
def State.memberCplx (s : State) (n rend k : Nat) : Nat :=
  match (s.chan n).recBefore k with
  | some (j, m) => match (s.chan n).pic j rend with
    | some p => if p.intra then m.sumIntra else m.sumInter
    | none => m.sumInter
  | none => Config.noRecord n rend k

/-- A pool divides TOTAL at a slot boundary of a member's channel (R135): each member's share of the slot that its channel is at. -/
def State.smxDivide (s : State) (p : Nat) : State :=
  let mem := s.smxMembers p
  match mem with
  | [] => s.put (ENC_SMX_MEMBERS_CHANNELS p) 0
  | (n0, _) :: _ =>
    let (num, den) := s.chRate n0
    let total := s.fld (ENC_SMX_TOTAL_TOTAL p) * 100000 * den
    let ms := mem.map (fun m => (⟨s.memberCplx m.1 m.2 (s.chan m.1).next, s.rcTarget m.1 m.2 * den, s.rcMax m.1 m.2 * den, none⟩ : SmxM))
    let sh := smxShares num total ms
    let s := (mem.zip sh).foldl (fun s x =>
      let c := s.chan x.1.1
      let sl := c.slot c.next
      s.setChan x.1.1 (c.setSlot c.next { sl with shares := tset (fun _ => 0) sl.shares x.1.2 x.2 })) s
    s.put (ENC_SMX_MEMBERS_CHANNELS p) ((mem.map (·.1)).foldl nset 0)

/-- Every pool that has a member of channel n, or had one, divides (R135, R140). -/
def State.smxBoundary (s : State) (n : Nat) : State :=
  ((List.range 8).filter (fun p => (s.smxMembers p).any (fun m => m.1 == n) || nbit (s.fld (ENC_SMX_MEMBERS_CHANNELS p)) n)).foldl
    (fun s p => s.smxDivide p) s

end Sys2Proof.Machine
end

