-- ==== Sys2Proof/Machine/Mill.lean ====
section
/-! DEFINITION. The mill (R96 to R104): downscaling, coarse search, picture sums, global motion and scene cuts. -/

namespace Sys2Proof.Machine

/-! ### The downscaled copy (R98 step 1) -/

/-- ENC_MILL_STAT.BUSY of each mill: some row of a running channel on its side is complete in DRAM and not searched. -/
def State.millBusy (s : State) : State :=
  (List.range 2).foldl (fun s m => s.put (ENC_MILL_STAT_BUSY m) (b2n (s.enc.chans.any (fun c =>
    c.2.run && c.2.side == some m && c.2.slots.any (fun x => !x.2.mill.complete &&
      (List.range ((s.asOf c.1 x.1).nRows c.1 0)).any (fun r => nbit x.2.done r && !nbit x.2.late r && (tfind x.2.mill.rows r).isNone)))))) s

/-- The 4-line groups of a CTU row of the top rung. -/
def State.rowGroups (s : State) (n r : Nat) : List Nat :=
  let b := rowLines (s.codec n 0)
  (List.range (ceilDiv (min b (s.fld (ENC_CH_SIZE_HEIGHT n) - r * b)) 4)).map (fun i => r * b / 4 + i)

/-- MILL_GROUP_DOWNSCALE (R98): the group's four luma lines as input samples, once all their pixels are in DRAM; the mill takes them on the
scale of R86. -/
def execMillGroupDownscale (n : Fin 16) (k g : Nat) (l0 l1 l2 l3 : List Nat) (s : State) :
    Host.Outcome State Fault Refusal :=
  let c := s.chan n
  let sl := c.slot k
  let w := s.fld (ENC_CH_SIZE_WIDTH n)
  let b := depthOf (s.fld (ENC_CH_FMT_DEPTH n))
  let v := fun (l : List Nat) => l.map (sampleIn b)
  .next (if c.run ∧ s.blockRuns (40 + c.side.getD 0) ∧ 4 * g + 4 ≤ s.fld (ENC_CH_SIZE_HEIGHT n) ∧
        (List.range 4).all (fun i => decide (tget (fun _ => 0) sl.lines (4 * g + i) ≥ w)) then
      let m := { sl.mill with copy := tput sl.mill.copy g (downscale (v l0) (v l1) (v l2) (v l3)) }
      s.setChan n (c.setSlot k { sl with mill := m })
    else s)

/-- Lines of a copy taken from the copy of the slot before: those of late rows, or of the whole picture where it is repeated (Coinciding
events of chapter 4). -/
def State.copyFrom (s : State) (n k : Nat) (gs : List Nat) (m : MillRec) : MillRec :=
  let prev := ((s.chan n).slot (k - 1)).mill.copy
  { m with copy := gs.foldl (fun t g => match tfind prev g with | some l => tput t g l | none => t) m.copy }

/-- Whether a slot's copy is whole. -/
def State.copyWhole (s : State) (n k : Nat) : Bool :=
  (List.range (s.fld (ENC_CH_SIZE_HEIGHT n) / 4)).all (fun g => (tfind ((s.chan n).slot k).mill.copy g).isSome)

/-- A slot's copy at both levels. -/
def State.millCopy (s : State) (n k : Nat) : MillCopy :=
  let t := ((s.chan n).slot k).mill.copy
  let h := s.fld (ENC_CH_SIZE_HEIGHT n) / 4
  ⟨s.fld (ENC_CH_SIZE_WIDTH n) / 4, h, t, millLevel2 t h⟩

/-! ### The record in DRAM (R101) -/

/-- The entry of a block whose row is late: flag bit 0, zero vectors; 65,535 without a reference, else free costs (R101, R102). -/
def lateEntry (n k : Nat) (noRef : Bool) : MillEntry :=
  ⟨0, 0, 0, 0, min 65535 (Config.lateCost 0 n k), if noRef then 65535 else min 65535 (Config.lateCost 1 n k), true, false, 0, 0, 0, 0⟩

/-- Entries of one CTU row: 64×64 blocks across, and block rows in the row. -/
def State.blkRows (s : State) (n r : Nat) : Nat :=
  let b := rowLines (s.codec n 0)
  ceilDiv (min b (s.rendH n 0 - r * b)) 64
def State.rowBlocks (s : State) (n r : Nat) : Nat := ceilDiv (s.rendW n 0) 64 * s.blkRows n r

/-- The 16 bytes of an entry. -/
def MillEntry.bytes (e : MillEntry) : List Byte :=
  [e.mv0x, e.mv0y, e.mv1x, e.mv1y].flatMap (fun v => leBytes 2 (ofSigned 16 v)) ++ leBytes 2 e.intra ++ leBytes 2 e.inter ++
    leBytes 1 (b2n e.late + 2 * b2n e.limit) ++ leBytes 3 0

/-- The 64-byte header, for a picture of `bw` by `bh` blocks. -/
def MillRec.header (m : MillRec) (bw bh : Nat) : List Byte :=
  let h := leBytes 8 m.media ++ leBytes 4 m.epoch ++ leBytes 2 bw ++ leBytes 2 bh ++
    [m.gmv0x, m.gmv0y, m.gmv1x, m.gmv1y].flatMap (fun v => leBytes 2 (ofSigned 16 v)) ++ leBytes 8 m.sumIntra ++ leBytes 8 m.sumInter ++
    leBytes 1 (b2n m.cut + 2 * b2n m.rep + 4 * b2n m.lateRows + 8 * b2n m.noRef) ++ leBytes 19 0
  h ++ leBytes 4 (crc32c h).toNat

/-- The mill writes the record of slot k on the channel's side, and shows its address in ENC_CH_MILL_REC. -/
def State.millWrite (s : State) (n k : Nat) (m : MillRec) : State :=
  let ad := s.liveBuf n (((s.chan n).side).getD 0) k 2
  let s := s.dputs ad (m.header (ceilDiv (s.rendW n 0) 64) (ceilDiv (s.rendH n 0) 64) ++ m.rows.flatMap (fun r => r.2.flatMap (·.bytes)))
  (s.wr (ENC_CH_MILL_REC_LO n) (BitVec.ofNat 32 ad)).wr (ENC_CH_MILL_REC_HI n) (BitVec.ofNat 32 (ad / 2 ^ 32))

/-- The mark of a repeat: the mill writes its record without analysis, every entry late; the copy is that of the picture repeated
(Coinciding events of chapter 4). -/
def State.millRepeat (s : State) (n k : Nat) : State :=
  let c := s.chan n
  let sl := c.slot k
  let m := s.copyFrom n k (List.range (s.fld (ENC_CH_SIZE_HEIGHT n) / 4)) { sl.mill with
    rep := true, complete := true, media := s.media n k, epoch := sl.epoch, noRef := false, sumIntra := 0, sumInter := 0, cut := false,
    rows := (List.range ((s.asOf n k).nRows n 0)).foldl (fun t r => tput t r (List.replicate ((s.asOf n k).rowBlocks n r) (lateEntry n k false))) [] }
  (s.setChan n (c.setSlot k { sl with mill := m })).millWrite n k m

/-! ### Search and decision -/

/-- Whether a picture has no reference (R102): the first after the enable, and the first input picture after a mid-grey run. -/
def Chan.millNoRef (c : Chan) (k : Nat) : Bool := k == c.start || (c.slot (k - 1)).grey

/-- The slots whose copies the mill searches (R99): the two input pictures before it, which rendition 0 references in row and picture modes.
They do not depend on where a random-access point lands, nor on groups that are not planned yet (assumption log row 112). -/
def Chan.millRefs (c : Chan) (k : Nat) : List Nat :=
  (if c.start + 1 < k then [k - 1, k - 2] else [k - 1]).filter (fun j => !(c.slot j).grey)

/-- MILL_PICTURE_DONE (R98 step 4, R101 to R104): when every row is searched or late and the picture is not one that is repeated, the mill
writes the sums, global motion and the scene-cut decision. The median takes the entries of searched rows. -/
def State.millTry (s : State) (n k : Nat) : State :=
  let c := s.chan n
  let sl := c.slot k
  let rows := List.range ((s.asOf n k).nRows n 0)
  if sl.mill.complete ∨ rows.isEmpty ∨ nbit sl.late 0 ∨ !rows.all (fun r => (tfind sl.mill.rows r).isSome || nbit sl.late r) then s
  else
    let noRef := c.millNoRef k
    let full := rows.foldl (fun t r => if nbit sl.late r ∨ (tfind t r).isNone
      then tput t r (List.replicate ((s.asOf n k).rowBlocks n r) (lateEntry n k noRef)) else t) sl.mill.rows
    let es := full.flatMap (·.2)
    let seen := es.filter (fun e => !e.late)
    let (gx0, a0) := gmvOf 1536 (seen.map (·.mv0x))
    let (gy0, b0) := gmvOf 768 (seen.map (·.mv0y))
    let (gx1, a1) := gmvOf 1536 (seen.map (·.mv1x))
    let (gy1, b1) := gmvOf 768 (seen.map (·.mv1y))
    let si := (es.map (·.intra)).sum
    let sx := (es.map (fun e => min e.intra e.inter)).sum
    let cut := !noRef && decide (sx * 64 > si * (s.asOf n k).fld (ENC_CH_MILL_CUT_RATIO n))
    let m := { (s.copyFrom n k (((List.range ((s.asOf n k).nRows n 0)).filter (nbit sl.late)).flatMap ((s.asOf n k).rowGroups n)) sl.mill) with
      rows := full, media := s.media n k, epoch := sl.epoch, gmv0x := gx0, gmv0y := gy0, gmv1x := gx1,
      gmv1y := gy1, sumIntra := si, sumInter := sx, cut := cut, lateRows := sl.late != 0, noRef := noRef, complete := true }
    let rap := cut && s.chMode n != 0 && (s.asOf n k).bit (ENC_CH_MILL_CUT_RAP n) && !sl.started
    let sl := { sl with mill := m, rap := if rap then 0xFFF else sl.rap }
    let recs := (tput c.recs k m).drop ((tput c.recs k m).length - 16)
    let s := s.setChan n { (c.setSlot k sl) with recs := recs }
    let s := if cut then (s.cnt (ENC_CH_CNT_CUT_COUNT n) 1).emitLim 0x1020 n 1 0 else s
    let s := if a0 || b0 || a1 || b1 then s.emitLim 0x1021 n 1 0 else s
    s.millWrite n k m

/-- Whether the mill may search row r of slot k: its lines are complete in DRAM and downscaled, the row above is done, and the references
are settled and whole (R83). -/
def State.searchReady (s : State) (n k r : Nat) : Bool :=
  let c := s.chan n
  let sl := c.slot k
  c.run && s.blockRuns (40 + c.side.getD 0) && nbit sl.done r && !nbit sl.late r && !sl.mill.complete && (tfind sl.mill.rows r).isNone &&
  ((s.asOf n k).rowGroups n r).all (fun g => (tfind sl.mill.copy g).isSome || decide (4 * g + 4 > s.fld (ENC_CH_SIZE_HEIGHT n))) &&
  (r == 0 || (tfind sl.mill.rows (r - 1)).isSome || nbit sl.late (r - 1)) &&
  (k == c.start || ((!c.greyRun || (c.slot (k - 1)).isCls) && (c.millNoRef k || (c.millRefs k).all (s.copyWhole n))))

/-- MILL_ROW_SEARCH (R98, R99, R101, R102): the mill searches a complete row. -/
def execMillRowSearch (n : Fin 16) (k r : Nat) (s : State) : Host.Outcome State Fault Refusal :=
  .next (if s.searchReady n k r then
      let c := s.chan n
      let sl := c.slot k
      let refs := if c.millNoRef k then [] else (c.millRefs k).map (s.millCopy n)
      let bw := ceilDiv (s.rendW n 0) 64
      let above := if r = 0 then [] else let l := (tfind sl.mill.rows (r - 1)).getD []; l.drop (l.length - bw)
      let es := millCtuRow (s.millCopy n k) refs bw ((s.asOf n k).blkRows n r) (r * rowLines ((s.asOf n k).codec n 0) / 64) above
      let m := { sl.mill with noRef := c.millNoRef k, rows := tput sl.mill.rows r es }
      ((s.setChan n (c.setSlot k { sl with mill := m })).millTry n k).millBusy
    else s)

end Sys2Proof.Machine
end

