-- ==== Sys2Proof/Machine/Live.lean ====
section
/-! DEFINITION. Live channels (chapter 2): receiving and merging packets, arrival classes, planning and starting pictures, the frame
boundary, and hints. -/

namespace Sys2Proof.Machine

/-! ### Input (R29, R30, R34, R35, R40) -/

/-- Whether a channel runs, and a slot is one of its own that it still holds or that has yet to leave. -/
def State.slotOk (s : State) (n k : Nat) : Bool :=
  let c := s.chan n
  c.run && decide (c.start ≤ k) && (match c.stop with | some e => decide (k < e) | none => true) &&
  (decide (c.released ≤ k) || (tfind c.slots k).isSome)

/-- The CTU row that a line of the input of slot k lies in, on the grid of the top rung. -/
def State.rowOfLine (s : State) (n k line : Nat) : Nat := line / rowLines ((s.asOf n k).codec n 0)

/-- A path delivers: a silent one has returned (R60). -/
def State.pathSeen (s : State) (n path : Nat) : State :=
  let c := s.chan n
  let s := s.setChan n { c with pathRaw := c.pathRaw.set path s.raw, pathSil := c.pathSil.set path false }
  if c.pathSil.getD path false then s.emit 0x1004 n (evArg [(0, 1, path), (1, 1, 1)]) else s

/-- Whether the merge discards a copy: it arrives more than SKEW_US after the first copy of a later packet on the other
path (R30). Extended sequence numbers do not wrap. -/
def skewed (seen : List (Nat × Nat × Nat)) (raw skewUs path ext : Nat) : Bool :=
  seen.any (fun x => decide (x.1 > ext) && decide (x.2.2 ≠ path) && decide (raw - x.2.1 > skewUs * usU))

/-- The merge history of an input stream. -/
def Chan.seenOf (c : Chan) (i : Nat) : List (Nat × Nat × Nat) := (tfind c.seen i).getD []

/-- The merge history with a first copy added; entries older than 10 ms go. -/
def Chan.remember (c : Chan) (i raw path ext : Nat) : Chan :=
  { c with seen := tput c.seen i ((ext, raw, path) :: (c.seenOf i).filter (fun x => decide (raw - x.2.1 ≤ 10 * msU))) }

/-- The input phase of a capture time (R34): the offset from a_k, and whether it exceeds 1 µs, are exact; PHASE_NS is the offset rounded
down to whole ns (assumption log row 104). -/
def State.phase (s : State) (n k : Nat) (cap : Int) : State :=
  let num := ((s.asOf n k).chRate n).1
  let x := cap * 65536 * (num : Int) - s.slotExact n k
  let unit := 65536 * num
  let d := x / (unit : Int)
  let off := decide (x.natAbs > 1000 * unit)
  let was := s.bit (ENC_CH_STAT_OFF_GRID n)
  let s := (s.put (ENC_CH_PHASE_PHASE_NS n) (ofSigned 32 d)).put (ENC_CH_STAT_OFF_GRID n) (b2n off)
  if off ∧ !was then s.emit 0x1003 n (evArg [(0, 4, ofSigned 32 d)]) else s

/-- The address and the stride of the input buffer of slot k. -/
def State.inputBuf (s : State) (n k : Nat) : Nat := s.liveBuf n (((s.chan n).side).getD 0) k 0
def State.inputStride (s : State) (n : Nat) : Nat :=
  pgStride n (s.fld (ENC_CH_SIZE_WIDTH n)) (depthOf (s.fld (ENC_CH_FMT_DEPTH n))) (s.fld (ENC_CH_FMT_CHROMA n))

/-- The picture count of R73 in slot k: pictures of the rendition since the channel was enabled, whatever restarts it had (assumption log
row 105). -/
def State.picCount (s : State) (n rend k : Nat) : Nat := (k - (s.chan n).start) / (s.asOf n k).picStep n rend

/-- The descriptor of the input buffer of slot k (R88). -/
def State.inputDesc (s : State) (n k : Nat) : PicDesc :=
  ⟨s.inputBuf n k, 0, 0, s.inputStride n, 0, s.fld (ENC_CH_SIZE_WIDTH n), s.fld (ENC_CH_SIZE_HEIGHT n), 1, s.fld (ENC_CH_FMT_CHROMA n),
   depthOf (s.fld (ENC_CH_FMT_DEPTH n)), 0, s.media n k, ((s.chan n).slot k).epoch, s.picCount n 0 k⟩

/-- The lines of a packet go into the picture buffer of slot k in the order received: those of a decided row are discarded (R40). -/
def State.takeLines (s : State) (n k : Nat) (lines : List (Nat × Nat × List Byte)) : State :=
  lines.foldl (fun s l =>
    let c := s.chan n
    let sl := c.slot k
    if nbit sl.decided (s.rowOfLine n k l.1) ∨ l.1 ≥ s.fld (ENC_CH_SIZE_HEIGHT n) then s
    else
      let off := tget (fun _ => 0) sl.bytes l.1
      (s.setChan n (c.setSlot k { sl with
        lines := tset (fun _ => 0) sl.lines l.1 (tget (fun _ => 0) sl.lines l.1 + l.2.1),
        bytes := tset (fun _ => 0) sl.bytes l.1 (off + l.2.2.length) })).dputs
          (s.inputBuf n k + l.1 * s.inputStride n + off) l.2.2) s

/-- A picture discarded from slot k is counted once (R35). -/
def State.dupPicture (s : State) (n k : Nat) (cap : Int) : State :=
  let c := s.chan n
  let sl := c.slot k
  if sl.dups.contains cap then s
  else (s.setChan n (c.setSlot k { sl with dups := sl.dups ++ [cap] })).cnt (ENC_CH_CNT_DUP_COUNT n) 1

/-- Slot k takes the picture captured at `cap`: its phase, and the descriptor of its buffer. -/
def State.newPicture (s : State) (n k : Nat) (cap : Int) : State :=
  let c := s.chan n
  let s := (s.setChan n (c.setSlot k { c.slot k with cap := some cap, epoch := s.fld TB_EPOCH_EPOCH })).phase n k cap
  s.putDesc (s.liveBuf n (((s.chan n).side).getD 0) k 1) (s.inputDesc n k)

/-- Whether any unit of a slot's pictures has begun. -/
def Chan.begun (c : Chan) (k : Nat) : Bool := c.pics.any (fun x => x.1 / 16 == k && x.2.units.any (fun u => u.phase != .waiting))

/-- Whether an earlier capture can still take slot k: nothing of the later picture is encoded or decided (R35, assumption log row 106). -/
def State.slotFree (s : State) (n k : Nat) : Bool :=
  let c := s.chan n
  let sl := c.slot k
  sl.decided == 0 && !c.begun k && (s.chMode n == 0 || !sl.started)

/-- A packet of the picture captured at `cap` (R34, R35, R40): the earlier of two pictures in one slot is kept. Lines of a decided row, and
of a slot that has left, are discarded and the packet is counted. -/
def State.takePacket (s : State) (n : Nat) (cap : Int) (lines : List (Nat × Nat × List Byte)) : State :=
  let k := s.slotOf n cap
  let c := s.chan n
  if !s.slotOk n k then
    (if decide (c.start ≤ k) && decide (k < c.released) then s.cnt (ENC_CH_CNT_LATE_PKT_COUNT n) 1 else s)
  else
    let sl := c.slot k
    let late := lines.any (fun l => nbit sl.decided (s.rowOfLine n k l.1))
    let own := fun (s : State) => (if late then s.cnt (ENC_CH_CNT_LATE_PKT_COUNT n) 1 else s).takeLines n k lines
    match sl.cap with
    | none => own (s.newPicture n k cap)
    | some c0 =>
      if c0 = cap then own s
      else if cap < c0 ∧ s.slotFree n k ∧ !sl.dups.contains cap then
        ((s.setChan n (c.setSlot k { SlotRec.zero with
          dups := sl.dups, anc := sl.anc, rap := sl.rap, forced := sl.forced, grey := sl.grey, started := sl.started,
          shares := sl.shares, racked := sl.racked })).dupPicture n k c0).newPicture n k cap |>.takeLines n k lines
      else (if sl.dups.contains cap then s else s.phase n k cap).dupPicture n k cap

/-- Ancillary packets: those that match one of the at most 8 filter entries are kept for the access unit of the slot of their RTP timestamp
(R29, R36); others are discarded without a count. No register holds the entries: they are a free value by channel. -/
def State.takeAnc (s : State) (n : Nat) (cap : Int) (pkts : List (Nat × Nat × List Byte)) : State :=
  let k := s.slotOf n cap
  let c := s.chan n
  let flt := (Config.ancFilter n).take 8
  let mine := pkts.filter (fun p => flt.contains (p.1, p.2.1))
  if s.slotOk n k ∧ c.released ≤ k then s.setChan n (c.setSlot k { c.slot k with anc := (c.slot k).anc ++ mine }) else s

/-- An audio packet is held for the outputs of R261; packets older than 1 s have left. -/
def State.takeAudio (s : State) (n i first : Nat) (pcm : List (List Int)) (nonAudio : Bool) : State :=
  let c := s.chan n
  if i < s.fld (AUD_BC_IN_NSTREAMS n) then
    s.setChan n { c with pcm := c.pcm.filter (fun x => decide (s.raw - x.raw ≤ 1000 * msU)) ++ [⟨i, s.raw, first, pcm, nonAudio⟩] }
  else s

/-- The input stream that a packet belongs to: 0 video, 1 + i audio, 9 + i ancillary. -/
def LiveIn.stream : LiveIn → Nat
  | .video _ => 0 | .audio i _ => 1 + i | .anc i _ => 9 + i

/-- A packet that the merge keeps. -/
def State.takeIn (s : State) (n : Nat) (cap : Int) : LiveIn → State
  | .video lines => s.takePacket n cap lines
  | .audio i x => s.takeAudio n i x.1 x.2.1 x.2.2
  | .anc i pkts => if i < 2 then s.takeAnc n cap pkts else s

/-- VIDEO_PACKET_RX (R29, R30, R34 to R36, R40): a packet of an input stream of a channel with its extended sequence number, the capture
time of its RTP timestamp in PTP ns, and what it holds. -/
def execVideoPacketRx (n : Fin 16) (path : Fin 2) (ext : Nat) (cap : Int) (data : LiveIn) (s : State) :
    Host.Outcome State Fault Refusal :=
  let dual := s.bit (ENC_CH_IN_PATH_DUAL n)
  .next (if !(s.chan n).run ∨ (path.val = 1 ∧ !dual) then s
    else
      let s := s.pathSeen n path
      if dual then
        let c := s.chan n
        let seen := c.seenOf data.stream
        if skewed seen s.raw (s.fld (ENC_CH_IN_PATH_SKEW_US n)) path ext then s.cnt (ENC_CH_CNT_MERGE_COUNT n) 1
        else if seen.any (fun x => x.1 == ext) then s
        else (s.setChan n (c.remember data.stream s.raw path ext)).takeIn n cap data
      else s.takeIn n cap data)

/-- CH_PATH_SILENT (R60): 10 ms without packets on a path. -/
def execChPathSilent (n : Fin 16) (path : Fin 2) (s : State) : Host.Outcome State Fault Refusal :=
  let c := s.chan n
  .next (if c.run ∧ !(c.pathSil.getD path false) ∧ (path.val = 0 ∨ s.bit (ENC_CH_IN_PATH_DUAL n)) ∧
        s.raw - c.pathRaw.getD path 0 ≥ 10 * msU then
      (s.setChan n { c with pathSil := c.pathSil.set path true }).emit 0x1004 n (evArg [(0, 1, path), (1, 1, 0)])
    else s)

/-- Whether every line of row r of slot k holds all its pixels. -/
def State.rowFull (s : State) (n k r : Nat) : Bool :=
  let sl := (s.chan n).slot k
  let b := rowLines ((s.asOf n k).codec n 0)
  let h := s.fld (ENC_CH_SIZE_HEIGHT n)
  let w := s.fld (ENC_CH_SIZE_WIDTH n)
  decide (r * b < h) && (List.range (min b (h - r * b))).all (fun i => decide (tget (fun _ => 0) sl.lines (r * b + i) ≥ w))

/-- ROW_COMPLETE (R631): a row whose lines are all in DRAM, if its class is not decided. -/
def execRowComplete (n : Fin 16) (k r : Nat) (s : State) : Host.Outcome State Fault Refusal :=
  let sl := (s.chan n).slot k
  .next (if s.slotOk n k ∧ !nbit sl.decided r ∧ s.rowFull n k r then
      (s.setChan n ((s.chan n).setSlot k { sl with done := nset sl.done r })).millBusy
    else s)

/-! ### Pictures of renditions (R69, R73, R80, R84, R120) -/

/-- Whether a rendition codes a picture in slot k: half and quarter rates code even slots counted from the enable (R80). -/
def State.codesSlot (s : State) (n rend k : Nat) : Bool :=
  let t := s.asOf n k
  t.rendOn n rend && (k - (s.chan n).start) % t.picStep n rend == 0

/-- The slot from which a point that cannot stay in its slot is tried again: in look-ahead mode not inside a group whose coding has begun
(R627). -/
def State.pastGroup (s : State) (n j : Nat) : Nat :=
  let c := s.chan n
  if s.chMode n = 2 ∧ c.grpIdx > 0 ∧ j < c.grpStart + c.grpLen then c.grpStart + c.grpLen else j

/-- A hint for renditions of a mask without a request: a point that a repeat picture, or a slot that a rendition does not code, cannot carry
(assumption log row 107). -/
def State.hintAgain (s : State) (n mask k : Nat) : State :=
  s.setChan n { s.chan n with hints := (mask, s.pastGroup n (k + 1)) :: (s.chan n).hints }

/-- Turn a planned picture into a repeat or mid-grey picture (R39, R41): a repeat carries no random-access point, which waits for a later
slot. -/
def State.reshape (s : State) (n k rend shape : Nat) : State :=
  let c := s.chan n
  match c.pic k rend with
  | none => s
  | some p =>
    if p.shape = shape then s
    else
      let rc := c.rcAt rend k
      let hard := nbit (c.slot k).forced rend
      let move := p.rap && shape == 1
      let look := s.chMode n == 2
      let rc := { rc with
        forced := if move ∧ hard then 2 else if move ∧ !look ∧ rc.forced = 0 then 1 else rc.forced
        suspect := if move ∧ hard then some k else rc.suspect
        begun := rc.begun && !(move && rc.count == 0)
        lastRap := if move then p.was.1 else rc.lastRap }
      let p' := { p with shape := shape, intra := shape == 2, rap := p.rap && shape == 2, budgeted := false }
      let s := (s.setChan n ((c.setRcAt rend k rc).setPic k rend p')).setBudget n k rend
      if move ∧ look ∧ !hard ∧ rc.begun then s.hintAgain n (2 ^ rend) k else s

/-- Whether the mill records that a picture's budget needs are written (R83, R121, R122): its own, those of its look-ahead window, or in row
mode that of the slot before. -/
def State.recordReady (s : State) (n k : Nat) (p : RPic) : Bool :=
  let c := s.chan n
  p.shape != 0 ||
  (if s.chMode n = 0 then k == c.start || (c.slot (k - 1)).mill.complete
   else (List.range (s.lookL n + 1)).all (fun i => (c.slot (k + i)).mill.complete ||
     (match c.stop with | some e => decide (e ≤ k + i) | none => false)))

/-- The global motion offsets of a picture (R103): 0 with GMV_EN = 0 and for the first inter picture after an intra one. -/
def State.gmvFor (s : State) (n k rend : Nat) : Vec × Vec :=
  if (s.asOf n k).bit (ENC_CH_MILL_GMV_EN n) && !((s.chan n).rcAt rend k).prevIntra then
    match s.budgetRec n k with
    | some (_, m) => ((m.gmv0x, m.gmv0y), (m.gmv1x, m.gmv1y))
    | none => ((0, 0), (0, 0))
  else ((0, 0), (0, 0))

/-- The global motion offset in force in a channel: that of the top rung's picture. -/
def State.putGmv (s : State) (n rend : Nat) (p : RPic) : State :=
  if rend = 0 ∧ p.shape = 0 then
    (s.put (ENC_CH_MILL_GMV_GMV_X n) (ofSigned 16 p.gmv.1.1)).put (ENC_CH_MILL_GMV_GMV_Y n) (ofSigned 16 p.gmv.1.2)
  else s

/-- The RC_STATE record of a rendition at the random-access point of slot k (R422): its history and its pool share. -/
def rcState (n rend k share : Nat) (rc : RcRec) : RackItem :=
  .rcState n rend k ([rc.full, (rc.rBits : Int), (rc.rWeight : Int), (rc.count : Int), (share : Int), (rc.intras.length : Int)] ++
    rc.intras.map Int.ofNat ++ rc.inters.map Int.ofNat)

/-- Rate-control history from an RC_STATE record. -/
def rcOf (old : RcRec) (vals : List Int) : RcRec :=
  let g := fun i => (vals.getD i 0).toNat
  let rest := (vals.drop 6).map Int.toNat
  { old with
    active := true, full := vals.getD 0 0, rBits := g 1, rWeight := g 2, count := g 3,
    intras := rest.take (g 5), inters := rest.drop (g 5) }

/-- Whether every rendition of the running channels is ready, and READY of a STANDBY, which ends RESYNC (R430). -/
def State.rendsReady (s : State) : Bool :=
  (List.range 16).all (fun n => !(s.chan n).run || (s.rends n).all (fun k => tget (fun _ => false) s.rdn.rendReady (n * 16 + k)))
def State.readySet (s : State) : State :=
  if s.rdn.warmReady ∧ s.rendsReady then (s.put RDN_STAT_READY 1).put RDN_CTRL_RESYNC 0 else s.put RDN_STAT_READY 0

/-- A rendition is ready: 0x0D05, and 0x1445 where a mismatch had made it not ready (R149). -/
def State.rendIsReady (s : State) (n k : Nat) : State :=
  if tget (fun _ => false) s.rdn.rendReady (n * 16 + k) then s
  else
    let x := n * 16 + k
    let bad := nbit s.rdn.chkBad x
    let s := { s with rdn := { s.rdn with rendReady := tset (fun _ => false) s.rdn.rendReady x true, chkBad := nclr s.rdn.chkBad x } }
    let s := s.emit 0x0D05 n (evArg [(0, 1, k), (1, 1, 1)])
    let s := if bad then s.emit 0x1445 (((tfind s.enc.chkPlace x).getD []).headD 0) (evArg [(0, 1, n), (1, 1, k), (2, 1, 1)]) else s
    s.readySet

/-- A STANDBY takes the racked rate-control state of a picture before it sets its budget, and is ready for the rendition from that picture
on (R149, R430). -/
def State.takeRcState (s : State) (n k rend : Nat) : State :=
  let c := s.chan n
  match c.rcRack.find? (fun x => x.1 == rend && x.2.1 == k) with
  | none => s
  | some x =>
    let sl := c.slot k
    let c := c.setSlot k { sl with shares := tset (fun _ => 0) sl.shares rend (x.2.2.getD 4 0).toNat }
    let c := { c with rcRack := c.rcRack.filter (fun y => !(y.1 == rend && decide (y.2.1 ≤ k))) }
    (s.setChan n (c.setRcAt rend k (rcOf (c.rcAt rend k) x.2.2))).rendIsReady n rend

/-- A random-access point lands on a picture (R148, R149, R422): the suspect run ends and is counted in pictures; a point that R148 forced is
racked and raises 0x1442; RC_STATE is racked while the standby is not ready. -/
def State.rapLands (s : State) (n k rend : Nat) (rc : RcRec) (land hard : Bool) : State :=
  let sus := match rc.suspect with | some f => (k - f) / (s.asOf n k).picStep n rend | none => 0
  let s := s.cnt DEC_CHK_POOL_CNT_CNT_SUSPECT sus
  let s := if land ∨ hard then s.rack [.hint n rend k] else s
  let s := if hard then s.emit 0x1442 (((tfind s.enc.chkPlace (n * 16 + rend)).getD []).headD 0)
      (evArg [(0, 1, n), (1, 1, rend), (4, 8, s.media n k)]) else s
  let share := tget (fun _ => 0) ((s.chan n).slot k).shares rend
  if s.isActive ∧ !s.bit RDN_STAT_READY then s.rack [rcState n rend k share rc] else s

/-- The pictures that a picture may reference (R69, R627): at most two, the nearest coded before it and after it in output order, or in row
and picture modes the two before it; none before the last random-access point. -/
def State.picRefs (s : State) (n k rend lastRap : Nat) : List Nat :=
  let c := s.chan n
  let st := (s.asOf n k).picStep n rend
  let own := fun j => decide (lastRap ≤ j) && (j - c.start) % st == 0
  if s.chMode n ≠ 2 then [k - st, k - 2 * st].filter (fun j => own j && decide (j < k)) |>.eraseDups
  else
    let m := c.grpLen
    let done := ((groupOrder m).takeWhile (fun i => c.grpStart + i != k)).map (fun i => c.grpStart + i)
    let back := (List.range (min st (c.grpStart - c.start))).map (fun i => c.grpStart - 1 - i)
    let before := ((done.filter (fun j => decide (j < k) && own j)).foldl (fun (b : Option Nat) j =>
      match b with | some x => some (max x j) | none => some j) none).orElse (fun _ => back.find? own)
    let after := (done.filter (fun j => decide (k < j) && own j)).foldl (fun (b : Option Nat) j =>
      match b with | some x => some (min x j) | none => some j) none
    before.toList ++ after.toList

/-- Set a budget once it can be set: F(k) is known, the records it needs are there, and in a mid-grey run the class is decided (R41, R83). A
forced random-access point lands on the first such picture; in look-ahead mode it has been given to the group's first slot. -/
def State.tryBudget (s : State) (n k rend : Nat) : State :=
  let c := s.chan n
  match c.pic k rend with
  | none => s
  | some p =>
    if p.budgeted ∨ !c.earlierDone rend k p.ord ∨ (c.greyRun ∧ !(c.slot k).isCls) ∨ !s.recordReady n k p then s
    else
      let s := s.takeRcState n k rend
      let c := s.chan n
      let rc := c.rcAt rend k
      let sl := c.slot k
      let land := rc.forced != 0 && p.shape == 0 && s.chMode n != 2
      let hard := (land && rc.forced == 2) || (p.rap && nbit sl.forced rend)
      let p := { p with
        rap := p.rap || land, intra := p.intra || land, refs := if p.intra || land then [] else s.picRefs n k rend rc.lastRap
        gmv := s.gmvFor n k rend, was := (rc.lastRap, rc.prevIntra) }
      let rc' := { rc with
        forced := if land then 0 else rc.forced
        suspect := if p.rap then none else rc.suspect
        maxRap := if p.rap then (s.asOf n k).rcMax n rend else rc.maxRap
        lastRap := if p.rap then k else rc.lastRap
        prevIntra := p.intra }
      let c := (c.setRcAt rend k rc').setPic k rend p
      let s := (s.setChan n (if hard then c.setSlot k { sl with forced := nset sl.forced rend } else c)).putGmv n rend p
      let s := if p.rap then s.rapLands n k rend rc land hard else s
      s.setBudget n k rend

/-- Plan the picture of a rendition in slot k (R69, R71, R73, R76, R84): its type and tuns, and its units not started. -/
def State.planPic (s : State) (n k rend : Nat) : State :=
  let c := s.chan n
  if !s.codesSlot n rend k ∨ (c.pic k rend).isSome then s
  else
    let sl := c.slot k
    let rc := c.rcAt rend k
    let rap := nbit sl.rap rend || !rc.begun
    let shape := if sl.grey then 2 else if sl.isCls ∧ sl.cls = 2 then 1 else 0
    let lay := if s.chMode n = 2 ∧ c.grpStart ≤ k ∧ k < c.grpStart + c.grpLen then groupLayer c.grpLen (k - c.grpStart) else 0
    let rap := rap && shape != 1
    let intra := rap || shape == 2 || (sl.endsGrey && shape == 0)
    let p : RPic :=
      { q := s.picCount n rend k, ord := (c.rc rend).ord, refs := [],
        tuns := (tfind s.enc.place (n * 16 + rend)).getD [], chk := (tfind s.enc.chkPlace (n * 16 + rend)).getD [],
        gmv := ((0, 0), (0, 0)), media := s.media n k, intra := intra, rap := rap, shape := shape, layer := lay, cplx := 0,
        budgeted := false, budget := 0, hdr := 0, fill := 0, units := ((s.asOf n k).units n rend).map (fun _ => UnitRec.zero),
        done := false, released := decide (k < c.released), sent := 0, part := false, rerun := false, repRows := false,
        was := (rc.lastRap, rc.prevIntra) }
    let c := c.setRcAt rend k { rc with begun := rc.begun || rap }
    let s := s.setChan n ((c.setRc rend { c.rc rend with ord := (c.rc rend).ord + 1 }).setPic k rend p)
    s.tryBudget n k rend

/-- Set the budgets that have waited (R83). -/
def State.tryBudgets (s : State) (n : Nat) : State :=
  (tkeys (s.chan n).pics).foldl (fun s x => s.tryBudget n (x / 16) (x % 16)) s

/-! ### Arrival classes (R38 to R41, R425, R628) -/

/-- The top-rung rows that an area of a rendition covers, under the registers of the picture. -/
def State.rowsOfArea (s : State) (n rend : Nat) (a : Area) : List Nat :=
  let h0 := s.rendH n 0
  let h := max 1 (s.rendH n rend)
  let b := rowLines (s.codec n 0)
  let r0 := a.y0 * h0 / h / b
  let r1 := ceilDiv (ceilDiv (a.y1 * h0) h) b
  (List.range (r1 - r0)).map (· + r0)

/-- Whether some rendition lacks the tun that a unit of its picture in slot k over row r needs (R628). -/
def State.lacksTun (s : State) (n k r : Nat) : Bool :=
  let t := s.asOf n k
  (t.rends n).any (fun rend =>
    let ts := (tfind s.enc.place (n * 16 + rend)).getD []
    s.codesSlot n rend k && decide (ts.length < t.npart n rend) &&
    (t.units n rend).any (fun a => (t.rowsOfArea n rend a).contains r && decide (ts.length ≤ t.tunSlot n rend a.part (s.picCount n rend k))))

/-- A slot's class is decided (R38, R39, R41): LAST_CLASS, the counters and events, and the shape of the pictures. Hints and marked
random-access points of a slot classed MISSING go to a later one. -/
def State.classDone (s : State) (n k cls : Nat) : State :=
  let c := s.chan n
  let first := k == c.start
  let greyRun := (c.greyRun || (first && cls == 2)) && cls != 0
  let sl := c.slot k
  let grey := greyRun && cls != 0
  let ends := c.greyRun && cls == 0
  let mv := cls == 2 && !grey
  let j := s.pastGroup n (k + 1)
  let hints := if mv then c.hints.map (fun h => if h.2 = k then (h.1, j) else h) else c.hints
  let hints := if mv ∧ !sl.started ∧ sl.rap ≠ 0 then (sl.rap, j) :: hints else hints
  let c := { (c.setSlot k { sl with
    isCls := true, cls := cls, grey := grey, endsGrey := ends, decided := 2 ^ (s.asOf n k).nRows n 0 - 1,
    rap := if mv then 0 else sl.rap }) with greyRun := greyRun, hints := hints }
  let c := if ends then { c with pics := c.pics.map (fun x =>
    if x.1 / 16 = k ∧ !x.2.budgeted then (x.1, { x.2 with intra := true, refs := [] }) else x) } else c
  let s := (s.setChan n c).put (ENC_CH_STAT_LAST_CLASS n) cls
  let s := if cls = 2 then s.millRepeat n k else s
  let s := if grey ∨ cls = 2 then (s.cnt (ENC_CH_CNT_REPEAT_COUNT n) 1).emitLim 0x1001 n 1 0
    else if cls = 1 then (s.cnt (ENC_CH_CNT_LATE_ROWS_COUNT n) 1).emitLim 0x1002 n 1 0 else s
  let shape := if grey then 2 else if cls = 2 then 1 else 0
  let s := if shape = 0 then s else (List.range 12).foldl (fun s rend => s.reshape n k rend shape) s
  s.tryBudgets n

/-- Decide one row of a slot as present or late; row 0 late decides the picture (R38). -/
def State.decideRow (s : State) (n k r : Nat) (late : Bool) : State :=
  let c := s.chan n
  let sl := c.slot k
  if nbit sl.decided r ∨ sl.isCls then s
  else
    let sl := { sl with decided := nset sl.decided r, late := if late then nset sl.late r else sl.late }
    let s := s.setChan n (c.setSlot k sl)
    let s := if r = 0 then s.rack [.arrival n k late] else if late then s.rack [.lateRow n k r] else s
    let s := if late then s.millTry n k else s
    if r = 0 ∧ late then s.classDone n k 2
    else if sl.decided = 2 ^ (s.asOf n k).nRows n 0 - 1 then s.classDone n k (if sl.late = 0 then 0 else 1)
    else s

/-- Decide rows at the instant `due` of each: every row in picture and look-ahead modes, where all have one deadline. -/
def State.decideAt (s : State) (n k r : Nat) (due : State → Nat → Bool) : State :=
  let m := (s.asOf n k).nRows n 0
  let rows := if s.chMode n = 0 then [r] else List.range m
  rows.foldl (fun s r => if r < m ∧ due s r then
    s.decideRow n k r (!nbit ((s.chan n).slot k).done r || s.lacksTun n k r) else s) s

/-- A STANDBY takes classes only from racked records (R425); a row racked as present but not complete makes it not ready. -/
def State.decideRacked (s : State) (n k r : Nat) : State :=
  match ((s.chan n).slot k).racked with
  | none => s
  | some (missing, mask) =>
    let m := (s.asOf n k).nRows n 0
    let rows := if s.chMode n = 0 then [r] else List.range m
    rows.foldl (fun s r =>
      if r < m ∧ s.deadline n k r ≤ s.now ∧ !nbit ((s.chan n).slot k).decided r then
        let late := (r == 0 && missing) || nbit mask r
        let bad := !late && !missing && !nbit ((s.chan n).slot k).done r
        let s := s.decideRow n k r late
        if bad then s.rendUnready n 255 else s
      else s) s

/-- ROW_START_DEADLINE (R37, R38): the deadline has passed. -/
def execRowStartDeadline (n : Fin 16) (k r : Nat) (s : State) : Host.Outcome State Fault Refusal :=
  .next (if s.slotOk n k then
      if s.isStandby then s.decideRacked n k r
      else s.decideAt n k r (fun s r => decide (s.deadline n k r ≤ s.now))
    else s)

/-- CLASSIFICATION_CUT (R425): in a pair the class is decided RACK_LEAD before the deadline and racked. -/
def execClassificationCut (n : Fin 16) (k r : Nat) (s : State) : Host.Outcome State Fault Refusal :=
  .next (if s.slotOk n k ∧ s.inPair ∧ !s.isStandby then s.decideAt n k r (fun s r => decide (s.cutTime n k r ≤ s.now)) else s)

/-! ### Starting pictures (R627, R631) -/

/-- Plan the next mini-group of look-ahead mode (R627): it ends before a slot known to carry a random-access point, which is coded alone. A
point that R148 forces goes on its first slot, which is then such a slot. -/
def State.planGroup (s : State) (n : Nat) : State :=
  let c := s.chan n
  if 0 < c.grpIdx ∧ c.grpIdx < c.grpLen then s
  else
    let st := if c.grpIdx < c.grpLen then c.grpStart else c.grpStart + c.grpLen
    let c := { c with grpStart := st, grpLen := 0, grpIdx := 0 }
    let fm := if (c.slot st).missing then [] else (List.range 12).filter (fun r => (c.rc r).forced != 0)
    let hard := fm.filter (fun r => (c.rc r).forced == 2)
    let len := if s.chMode n = 2 then c.groupLen (min (s.lookL n + 1) 4) st else 1
    let sl := c.slot st
    let c := if s.chMode n = 2 ∧ fm ≠ [] then
        fm.foldl (fun c r => c.setRc r { c.rc r with forced := 0 })
          (c.setSlot st { sl with rap := fm.foldl nset sl.rap, forced := hard.foldl nset sl.forced })
      else c
    s.setChan n { c with grpLen := len }

/-- The slot that is coded next in picture and look-ahead modes. -/
def Chan.nextCoded (c : Chan) : Nat := c.grpStart + (groupOrder c.grpLen).getD c.grpIdx 0

/-- Hints that name a slot become its random-access points. -/
def Chan.applyHints (c : Chan) (k : Nat) : Chan :=
  let m := (c.hints.filter (fun h => h.2 == k)).foldl (fun m h => m ||| h.1) 0
  if m = 0 then c
  else { (c.setSlot k { c.slot k with rap := (c.slot k).rap ||| m }) with hints := c.hints.filter (fun h => h.2 != k) }

/-- A slot's pictures start: every rendition plans its picture, and the slot is started. The point of a rendition that codes no picture in
the slot waits for the next. -/
def State.startSlot (s : State) (n k : Nat) : State :=
  let c := (s.chan n).applyHints k
  let sl := c.slot k
  let rest := (List.range 12).filter (fun r => nbit sl.rap r && (s.asOf n k).rendOn n r && !s.codesSlot n r k)
  let s := s.setChan n (c.setSlot k { sl with started := true })
  let s := if rest = [] then s else s.hintAgain n (rest.foldl nset 0) k
  (List.range 12).foldl (fun s rend => s.planPic n k rend) s

/-- A picture descriptor or a mill record with a bad CRC (R88, R101): the slot is coded as a repeat and 0x1015 is raised. -/
def State.descBad (s : State) (n k addr : Nat) : State :=
  let s := s.emit 0x1015 n (evArg [(0, 8, addr)])
  if ((s.chan n).slot k).isCls ∧ ((s.chan n).slot k).cls = 2 then s
  else
    let s := (s.cnt (ENC_CH_CNT_REPEAT_COUNT n) 1).emitLim 0x1001 n 1 0
    (List.range 12).foldl (fun s rend => s.reshape n k rend 1) s

/-- The first of the input descriptor and the mill record of slot k whose CRC does not match (R88, R101): none where the slot holds no
picture. -/
def State.badInput (s : State) (n k : Nat) : Option Nat :=
  let c := s.chan n
  let sl := c.slot k
  let side := c.side.getD 0
  if sl.cap.isSome ∧ !(sl.isCls ∧ sl.cls = 2) then
    let d := s.liveBuf n side k 1
    let m := s.liveBuf n side k 2
    if (s.getDesc d).isNone then some d
    else if sl.mill.complete ∧ !crcGood (s.dbytes m 64) then some m
    else none
  else none

/-- Whether slot j may count as known when k starts (R631): complete and analysed, or its class decided; a slot past the end of a disabled
run, which has no picture, once its deadline comes. -/
def State.slotKnown (s : State) (n j : Nat) : Bool :=
  let sl := (s.chan n).slot j
  sl.isCls || (sl.done == 2 ^ (s.asOf n j).nRows n 0 - 1 && sl.mill.complete) ||
  (match (s.chan n).stop with | some e => decide (e ≤ j) && decide (s.deadline n j 0 ≤ s.now) | none => false)

/-- PICTURE_ENCODE_START (R88, R631): in picture and look-ahead modes the next picture in coding order starts when slots k to k + L are
known. -/
def execPictureEncodeStart (n : Fin 16) (k : Nat) (s : State) : Host.Outcome State Fault Refusal :=
  .next (if s.chMode n = 0 ∨ !s.slotOk n k then s
    else
      let s := s.planGroup n
      let c := s.chan n
      if c.nextCoded = k ∧ (List.range (s.lookL n + 1)).all (fun i => s.slotKnown n (k + i)) then
        let s := s.startSlot n k
        let c := s.chan n
        let s := s.setChan n { c with grpIdx := c.grpIdx + 1 }
        match s.badInput n k with
        | some a => s.descBad n k a
        | none => s
      else s)

/-! ### The frame boundary (R49, R135) -/

/-- At its frame boundary a channel takes an epoch step into its rebase offset: media times go on as without the step (R49). -/
def State.rebaseChan (s : State) (n : Nat) : State :=
  let d := tget (fun _ => 0) s.tb.rebase n
  if d = 0 then s
  else
    let c := s.chan n
    let r := c.rebase + ticks27 c.gridOfs - ticks27 (c.gridOfs + d)
    let s := s.setChan n { c with gridOfs := c.gridOfs + d, rebase := r }
    let s := { s with tb := { s.tb with rebase := tset (fun _ => 0) s.tb.rebase n 0 } }
    s.emit 0x1005 n (evArg [(0, 4, s.fld TB_EPOCH_EPOCH), (4, 8, ofSigned 64 r)])

/-- The frame boundary of the next slot (trigger 32 + 2n): rebase, pool shares, and in row mode the slot's pictures. -/
def State.frameBoundary (s : State) (n : Nat) : State :=
  let c := s.chan n
  if !c.run then s
  else
    let s := (s.rebaseChan n).smxBoundary n
    let k := (s.chan n).next
    let s := s.setChan n { s.chan n with next := k + 1 }
    if s.chMode n = 0 ∧ s.slotOk n k then s.startSlot n k else s

/-! ### Leaving the state -/

/-- Whether a picture of a rendition has nothing more to do: released, complete, sent, and every unit verified or without a check decoder
(R144); one of the top rung stays while another rendition of its slot is not complete, and one that is being coded again stays. -/
def State.picGone (s : State) (n : Nat) (x : Nat × RPic) : Bool :=
  let p := x.2
  p.released && p.done && decide (p.sent ≥ p.units.length) &&
  (p.units.all (fun u => u.verified && !u.refilter) || p.chk == [] || s.enc.unchecked.contains (n * 16 + x.1 % 16)) &&
  (x.1 % 16 != 0 || (s.chan n).pics.all (fun y => y.1 / 16 != x.1 / 16 || y.2.done))

/-- Slots and pictures with nothing more to do leave the state, and the settings that only they used. -/
def State.prune (s : State) (n : Nat) : State :=
  let c := s.chan n
  let pics := c.pics.filter (fun x => !s.picGone n x)
  let keep := (pics.map (fun x => x.1 / 16)).foldl min c.released
  s.setChan n { c with
    pics := pics, slots := c.slots.filter (fun x => decide (x.1 + 8 ≥ keep)), past := c.past.filter (fun x => decide (x.1 > keep)) }

/-- A disabled channel ends once its last slot has left (R58); its tuns are free then. Units that wait for their check decoders go on being
checked. -/
def State.endRun (s : State) (n : Nat) : State :=
  let c := s.chan n
  match c.stop with
  | some e =>
    if c.run ∧ c.released ≥ e ∧ c.pics.all (fun x => decide (x.1 / 16 ≥ e) || decide (x.2.sent ≥ x.2.units.length)) then
      ((s.setChan n { Chan.zero with pathRaw := c.pathRaw, pics := c.pics.filter (fun x => decide (x.1 / 16 < e)), past := c.past }).put
        (ENC_CH_STAT_RUNNING n) 0).runAssign
    else s
  | none => s

/-! ### Hints (R59, R421) -/

/-- The slot that a 90 kHz media time names, counted from the slot whose frame boundary comes next (R59, assumption log row 108). -/
def State.hintSlot (s : State) (n v : Nat) : Nat :=
  let k := (s.chan n).next
  let m := s.media n k
  let d := (v + 2 ^ 32 - (m / 300) % 2 ^ 32) % 2 ^ 32
  if d > 2 ^ 31 then k else k + ceilDiv (300 * (d + m / 300) - m) (s.tf27 n)

/-- The first slot at or after j whose boundary lies at least 2 Tf ahead, and in look-ahead mode not in a group whose
coding has begun (R59). -/
def State.hintLand (s : State) (n j : Nat) : Nat :=
  let (num, den) := s.chRate n
  let x := (s.now - s.gridStart n) * (num : Int) + (2 * den * secU : Nat)
  s.pastGroup n (max j (ceilDiv x.toNat (den * secU)))

/-- A hint for every rendition, racked (R59, R422). -/
def State.hintWrite (s : State) (n v : Nat) : State :=
  if (s.chan n).run then
    let j := s.hintSlot n v
    let j' := s.hintLand n j
    let s := s.setChan n { s.chan n with hints := (0xFFF, j') :: (s.chan n).hints }
    let s := s.rack [.hint n 255 j']
    if j' = j then s else s.emit 0x1006 (n + 256) (evArg [(4, 8, s.media n j')])
  else s

/-- CH_HINT_WRITE (R59): refused on a STANDBY (R421). -/
def execChHintWrite (p : Port) (n : Fin 16) (v : W32) (s : State) : Host.Outcome State Fault Refusal :=
  .next (s.portWrite p (ENC_CH_HINT n) v (fun s => s.hintWrite n v.toNat))

end Sys2Proof.Machine
end

