-- ==== Sys2Proof/Machine/Units.lean ====
section
/-! DEFINITION. Coding the units of live pictures (R72, R76, R79, R92, R105 to R112, R123 to R130, R143). -/

namespace Sys2Proof.Machine

/-! ### Tuns -/

/-- The units that a tun has in flight: (channel, slot, rendition, unit). -/
def State.inFlight (s : State) (t : Nat) : List (Nat × Nat × Nat × Nat) :=
  s.enc.chans.flatMap (fun c => c.2.pics.flatMap (fun p =>
    ((List.range p.2.units.length).filter (fun u =>
      let x := p.2.units.getD u UnitRec.zero
      x.phase == .coding && x.tun == t)).map (fun u => (c.1, p.1 / 16, p.1 % 16, u))))

/-- Whether a tun codes any unit of any channel. -/
def State.tunCoding (s : State) (t : Nat) (re : Bool) : Bool :=
  s.enc.chans.any (fun c => c.2.pics.any (fun p => p.2.units.any (fun x =>
    x.phase == .coding && x.tun == t && (!re || x.rerun))))

/-- The tuns of a picture: those of the rendition when it was planned, while none of them is fenced, else those it has now (R76). -/
def State.picTuns (s : State) (n rend : Nat) (p : RPic) : List Nat :=
  if p.tuns.any s.tunFenced ∨ p.tuns = [] then (tfind s.enc.place (n * 16 + rend)).getD [] else p.tuns

/-- The tun that R73 gives a unit, or the first unfenced tun when the rendition has none (R628). -/
def State.tunFor (s : State) (n k rend part : Nat) (p : RPic) : Nat :=
  ((s.picTuns n rend p)[(s.asOf n k).tunSlot n rend part p.q]?).getD (((List.range 40).find? (fun t => !s.tunFenced t)).getD 0)

/-- The tun of a unit that starts: an abandoned unit keeps the tun that R92 gave it while that tun is not fenced. -/
def State.unitTun (s : State) (n k rend : Nat) (p : RPic) (a : Area) (x : UnitRec) : Nat :=
  if x.phase = .abandoned ∧ !s.tunFenced x.tun then x.tun else s.tunFor n k rend a.part p

/-! ### The window (R105, R107 to R109) -/

/-- A tun's window. -/
def State.win (s : State) (t : Nat) : Win := tget (fun _ => Win.zero) s.enc.wins t
def State.setWin (s : State) (t : Nat) (w : Win) : State :=
  { s with enc := { s.enc with wins := tset (fun _ => Win.zero) s.enc.wins t w } }

/-- The register of a tun's resident strips, of both references. -/
def State.putStrips (s : State) (t : Nat) : State :=
  let w := s.win t
  s.put (ENC_TUN_WIN_STAT_STRIPS t) (w.s0.length + w.s1.length + w.ahead)

/-- The tun on the row above shares its window's lines (R108): WPP rows of one rendition and picture, which use one offset, while that tun
codes the row. -/
def State.shares (s : State) (n k rend u : Nat) (p : RPic) : Bool :=
  let t := s.asOf n k
  let c := t.codec n rend
  s.chMode n == 0 && (c == 1 || c == 2) && !p.intra && decide (u > 0) && (p.units.getD (u - 1) UnitRec.zero).phase == .coding

/-- The opening window of a unit in column `col`: the strips round its first search unit, for each reference that the picture has. -/
def openWin (codec w col : Nat) (p : RPic) (old : Win) : Win :=
  { old with s0 := stripsAt codec w col p.gmv.1.1, s1 := if p.refs.length ≥ 2 then stripsAt codec w col p.gmv.2.1 else [], ahead := 0 }

/-- A step of the window to the next search unit (R107); buffers that become free at the right edge take the opening strips of the tun's next
row. -/
def stepWin (codec w col : Nat) (p : RPic) (old : Win) : Win :=
  let one := fun (g : Vec) (l : List Int) => stripStep codec w col g.1 l
  let s0 := one p.gmv.1 old.s0
  let s1 := if p.refs.length ≥ 2 then one p.gmv.2 old.s1 else []
  let near := fun (g : Vec) (l : List Int) =>
    if decide ((stripsAt codec w (col + 1) g.1).length < 2 * stripReach codec + 1) && decide (col > stripReach codec)
    then min (stripOpen codec) (stripBufs codec - l.length) else 0
  { old with s0 := s0, s1 := s1, ahead := near p.gmv.1 s0 + (if p.refs.length ≥ 2 then near p.gmv.2 s1 else 0) }

/-- Whether a unit's tun must prefill (R109): an inter unit of a re-run, or of a rendition for which the window has not been filled since the
tun was assigned to it or coded an intra picture of it. -/
def State.needsPrefill (s : State) (n rend t : Nat) (p : RPic) (x : UnitRec) : Bool :=
  !p.intra && p.shape == 0 && (x.phase == .abandoned || !(s.win t).filled.contains (n * 16 + rend))

/-! ### What a unit waits for (R72, R83, R100, R110, R112, R125, R126) -/

/-- Whether the input of a unit is there: in row mode its rows complete or late, in a mid-grey run the class decided, in
the other modes the slot started; its mill entries present where its picture is analysed (R126). -/
def State.inputReady (s : State) (n k rend : Nat) (p : RPic) (a : Area) : Bool :=
  let c := s.chan n
  let sl := c.slot k
  if p.shape ≠ 0 then true
  else (if s.chMode n ≠ 0 then sl.started else !c.greyRun || sl.isCls) && ((s.asOf n k).rowsOfArea n rend a).all (fun r =>
    nbit sl.late r || ((s.chMode n != 0 || nbit sl.done r) && (tfind sl.mill.rows r).isSome))

/-- Whether WPP lets search unit `x` of a unit start (R72): the row above has completed search unit x + 1, or its whole row. -/
def State.wppReady (s : State) (n k rend u x : Nat) (p : RPic) : Bool :=
  let c := (s.asOf n k).codec n rend
  s.chMode n != 0 || u == 0 || c == 0 || c == 3 ||
  (match p.units[u - 1]? with
   | some y => y.phase == .coded || (y.phase == .coding && decide (y.prog ≥ x + 2))
   | none => false)

/-- Whether the units of the sequence before u are known as the lag asks (R83, R125): coded up to the lag, started after it. -/
def State.lagReady (s : State) (n k rend u : Nat) (p : RPic) : Bool :=
  let t := s.asOf n k
  let seq := t.seqOf n rend u
  let i := (seq.findIdx? (· == u)).getD 0
  let lag := if s.chMode n = 0 then t.npart n rend else 1
  ((seq.take i).mapIdx (fun j v => (j, p.units.getD v UnitRec.zero))).all (fun y =>
    if y.1 + lag ≤ i then y.2.phase == .coded else y.2.phase != .waiting)

/-- Whether two areas overlap, the first widened by margins. -/
def Area.meets (a b : Area) (mx my : Int) (gx gy : Int) : Bool :=
  decide ((b.x0 : Int) < a.x1 + mx + gx) && decide ((a.x0 : Int) - mx + gx < b.x1) &&
  decide ((b.y0 : Int) < a.y1 + my + gy) && decide ((a.y0 : Int) - my + gy < b.y1)

/-- Whether every line of the references that the unit's windows take is final in DRAM (R110): the units there are coded and filtered. A
picture that has left the state was complete. -/
def State.refsReady (s : State) (n k rend : Nat) (p : RPic) (a : Area) : Bool :=
  p.intra || (p.refs.mapIdx (fun i j => (i, j))).all (fun x =>
    match (s.chan n).pic x.2 rend with
    | none => true
    | some r =>
      let g := if x.1 = 0 then p.gmv.1 else p.gmv.2
      let c := (s.asOf n k).codec n rend
      ((((s.asOf n x.2).units n rend).zip r.units)).all (fun y =>
        !(a.meets y.1 (512 + searchSide c) 256 g.1 g.2) || (y.2.phase == .coded && !y.2.refilter)))

/-- Whether a reusing rung makes its own full search of a picture (R79): the top rung's picture is a random-access point that it does not
share. -/
def State.ownSearch (s : State) (n k rend : Nat) (p : RPic) : Bool :=
  !(s.asOf n k).reuses n rend || (match (s.chan n).pic k 0 with | some q => q.rap && !p.rap | none => false)

/-- An area of a rendition in the samples of the top rung. -/
def State.topArea (t : State) (n rend : Nat) (a : Area) : Area :=
  let w := max 1 (t.rendW n rend)
  let h := max 1 (t.rendH n rend)
  ⟨0, a.x0 * t.rendW n 0 / w, ceilDiv (a.x1 * t.rendW n 0) w, a.y0 * t.rendH n 0 / h, ceilDiv (a.y1 * t.rendH n 0) h⟩

/-- Whether the top-rung vectors of every top-rung unit that a reusing unit covers are there (R112). -/
def State.vectorsReady (s : State) (n k rend : Nat) (p : RPic) (a : Area) : Bool :=
  p.intra || p.shape != 0 || s.ownSearch n k rend p ||
  (match (s.chan n).pic k 0 with
   | none => true
   | some q =>
     let t := s.asOf n k
     let b := t.topArea n rend a
     ((t.units n 0).zip q.units).all (fun y => !(b.meets y.1 0 0 0 0) || y.2.phase == .coded))

/-- Whether a unit may start: a first encode, or one that a fence or a mismatch has abandoned. A tun codes one unit at a time. -/
def State.unitReady (s : State) (n k rend u : Nat) (p : RPic) (a : Area) (x : UnitRec) : Bool :=
  let t := s.unitTun n k rend p a x
  p.budgeted && decide (u < p.units.length) && (x.phase == .waiting || x.phase == .abandoned) && s.inputReady n k rend p a &&
  s.wppReady n k rend u 0 p && (x.cap != 0 || s.lagReady n k rend u p) && s.refsReady n k rend p a && s.vectorsReady n k rend p a &&
  !s.tunFenced t && s.blockRuns t && !s.tunCoding t false

/-! ### Targets and caps (R123, R125, R126, R130) -/

/-- The weights of the units of a picture as unit u sees them (R126): earlier ones and u from the current picture, later
ones in row mode from the previous analysed picture, 0 where there is none (assumption log row 109). -/
def State.weightAt (s : State) (n k rend u v : Nat) (p : RPic) : Nat :=
  let c := s.chan n
  let t := s.asOf n k
  match (t.units n rend)[v]? with
  | none => 0
  | some a => if s.chMode n = 0 ∧ v > u then
      (match c.recBefore k with | some (_, m) => t.areaWeight n rend m p.intra a | none => 0)
    else t.areaWeight n rend (c.slot k).mill p.intra a

/-- Target, cap, weight and floor mode of a unit at its start (R123, R125, R130). Where every weight is 0, the partitions share the bits
evenly (assumption log row 110). -/
def State.unitBudget (s : State) (n k rend u : Nat) (p : RPic) : Nat × Nat × Nat × Bool :=
  let t := s.asOf n k
  let us := t.units n rend
  let fl := fun v => match us[v]? with | some a => t.floorOf n rend p.intra a | none => 0
  let seq := t.seqOf n rend u
  let i := (seq.findIdx? (· == u)).getD 0
  let w := s.weightAt n k rend u u p
  let later := seq.drop (i + 1)
  let lag := if s.chMode n = 0 then t.npart n rend else 1
  let known := (seq.take i).mapIdx (fun j v =>
    let x := p.units.getD v UnitRec.zero
    if j + lag ≤ i then x.bits else x.cap)
  let floors := (seq.drop i).map fl
  let whole := List.range us.length
  let tot : Int := (p.budget : Int) - p.hdr
  let pj : Int := if s.chMode n = 0 then tot
    else
      let all := (whole.map (fun v => s.weightAt n k rend u v p)).sum
      let mine := (seq.map (fun v => s.weightAt n k rend u v p)).sum
      let room := (tot - ((whole.map fl).sum : Nat)).toNat
      ((seq.map fl).sum : Nat) + (if all = 0 then room / max 1 (t.npart n rend) else room * mine / all : Nat)
  let floorMode := (seq.take i).any (fun v => (p.units.getD v UnitRec.zero).inFloor)
  let x := rcX pj known floors
  let (tg, c, f) := rcUnit floorMode x (fl u) w ((later.map (fun v => s.weightAt n k rend u v p)).sum)
  (tg, c, w, f)

/-- Bits and weight whose ratio R127 uses: of the units known under the lag, else the previous picture's. -/
def State.ratioOf (s : State) (n k rend u : Nat) (p : RPic) : Nat × Nat :=
  let t := s.asOf n k
  let seq := t.seqOf n rend u
  let i := (seq.findIdx? (· == u)).getD 0
  let lag := if s.chMode n = 0 then t.npart n rend else 1
  let known := (seq.take (i + 1 - lag)).map (fun v => p.units.getD v UnitRec.zero)
  let rc := (s.chan n).rcAt rend k
  if known = [] then (rc.rBits, rc.rWeight) else ((known.map (·.bits)).sum, (known.map (·.weight)).sum)

/-- A unit starts (R125): target, cap and QP. A re-run takes the recorded target, cap and QP, on a tun of R92; a unit whose
picture is sent as coded becomes repeat rows (R148). Repeat and mid-grey units take the floor form (R130). -/
def State.unitStart (s : State) (n k rend u : Nat) (p : RPic) (a : Area) (x : UnitRec) : State :=
  let c := s.chan n
  let t := s.asOf n k
  let sl := c.slot k
  let re := x.phase == .abandoned && x.cap != 0
  let late := p.shape == 0 && (t.rowsOfArea n rend a).any (fun r => nbit sl.late r)
  let rep := late || (p.repRows && x.phase == .abandoned)
  let fl := t.floorOf n rend p.intra a
  let (t0, c0, w, f0) := s.unitBudget n k rend u p
  let form := decide (p.shape ≠ 0) || rep
  let (tg, cp, inF) := if form then (0, fl, false) else if t.rcMode n rend = 3 then (0, 2 ^ 31, false)
    else if re then (x.target, x.cap, x.inFloor) else (t0, c0, f0)
  let (kb, kw) := s.ratioOf n k rend u p
  let qp := if re ∧ !form then x.qp else pickQp t n rend k u tg cp w kb kw (c.rcAt rend k).count (form || inF)
  let tun := s.unitTun n k rend p a x
  let pre := s.needsPrefill n rend tun p x
  let x' := { x with phase := .coding, tun := tun, prog := 0, weight := if re then x.weight else w, target := tg, cap := cp, qp := qp,
                     qidx := baseQIdx (t.codec n rend) qp, inFloor := inF, rep := rep, rerun := x.phase == .abandoned && !p.repRows,
                     verified := false, refilter := false }
  let p := { p with units := p.units.set u x' }
  let s := (s.setChan n (c.setPic k rend p)).put (ENC_TUN_STAT_BUSY tun) 1
  let s := if x'.rerun then (s.put (ENC_TUN_STAT_RERUN tun) 1).put (ENC_TUN_STAT_REST tun) 0 else s
  let key := n * 16 + rend
  let cd := t.codec n rend
  let wn := s.win tun
  if p.intra then s.setWin tun { wn with filled := wn.filled.filter (· != key) }
  else if pre then s.put (ENC_TUN_WIN_STAT_PREFILL tun) 1
  else if p.shape = 0 then
    ((s.setWin tun (openWin cd (t.rendW n rend) (a.x0 / searchSide cd) p wn)).putStrips tun).put (ENC_TUN_WIN_STAT_SHARING tun)
      (b2n (s.shares n k rend u p))
  else s

/-! ### Poisoned and bad inputs (R88, R101, R452) -/

/-- Input lines of a row come back poisoned (R452): the row is late under R40, whatever was decided before. -/
def State.rowPoisoned (s : State) (n k r : Nat) : State :=
  let sl := (s.chan n).slot k
  if nbit sl.late r then s
  else if !nbit sl.decided r ∧ !sl.isCls then s.decideRow n k r true
  else
    let ends := sl.isCls ∧ sl.cls = 0
    let s := s.setChan n ((s.chan n).setSlot k { sl with late := nset sl.late r, cls := if ends then 1 else sl.cls })
    let s := s.rack [.lateRow n k r]
    if ends then ((s.put (ENC_CH_STAT_LAST_CLASS n) 1).cnt (ENC_CH_CNT_LATE_ROWS_COUNT n) 1).emitLim 0x1002 n 1 0 else s

/-- The poisoned rows of a unit: late rows; a STANDBY, which takes its classes from the ACTIVE, is not ready for the rendition
(R425). -/
def State.unitPoisoned (s : State) (n k rend u : Nat) (rows : List Nat) : State :=
  match ((s.asOf n k).units n rend)[u]?, (s.chan n).pic k rend with
  | some a, some p =>
    let rs := ((s.asOf n k).rowsOfArea n rend a).filter (fun r => rows.contains r)
    if rs = [] ∨ p.shape ≠ 0 then s
    else if s.isStandby then s.rendUnready n rend
    else rs.foldl (fun s r => s.rowPoisoned n k r) s
  | _, _ => s

/-- The first descriptor of a reference picture that the tun refuses (R88). -/
def State.badRef (s : State) (n rend : Nat) (p : RPic) : Option Nat :=
  let c := s.chan n
  (p.refs.map (fun j => (j, s.liveBuf n (c.side.getD 0) j (4 + 3 * rend)))).findSome? (fun x =>
    match c.pic x.1 rend with
    | some r => if r.done ∧ (s.getDesc x.2).isNone then some x.2 else none
    | none => none)

/-- UNIT_START (R72, R79, R88, R100, R101, R109, R110, R112, R125): a tun starts the unit once the picture is budgeted and everything that it
waits for is there; a picture whose input, record or reference has a bad CRC becomes a repeat; `poison` holds the rows whose input lines come
back poisoned (R452). -/
def execUnitStart (n : Fin 16) (k : Nat) (rend : Fin 12) (u : Nat) (poison : List Nat) (s : State) :
    Host.Outcome State Fault Refusal :=
  let s1 := (s.unitPoisoned n k rend u poison).tryBudget n k rend
  .next (match (s1.chan n).pic k rend, ((s1.asOf n k).units n rend)[u]? with
    | some p, some a =>
      let x := p.units.getD u UnitRec.zero
      if s1.unitReady n k rend u p a x then
        match (if p.shape = 0 ∧ x.phase = .waiting then (s1.badInput n k).orElse (fun _ => s1.badRef n rend p) else none) with
        | some addr => s1.descBad n k addr
        | none => s1.unitStart n k rend u p a x
      else s1
    | _, _ => s1)

/-! ### Fine search (R79, R80, R111, R112) -/

/-- The block of a list that holds a sample, with its vector. -/
def vecAt (l : List (CodBlk × Vec)) (x y : Int) : Option (CodBlk × Vec) :=
  l.find? (fun b => decide ((b.1.x : Int) ≤ x) && decide (x < b.1.x + b.1.w) && decide ((b.1.y : Int) ≤ y) && decide (y < b.1.y + b.1.h))

/-- The vector there, 0 where no block is. -/
def vec0 (l : List (CodBlk × Vec)) (x y : Int) : Vec := ((vecAt l x y).map (·.2)).getD (0, 0)

/-- The mill entry whose block holds a sample of the top rung. -/
def State.entryAt (t : State) (n : Nat) (m : MillRec) (x y : Nat) : Option MillEntry :=
  let b := rowLines (t.codec n 0)
  let row := y / b
  ((tfind m.rows row).getD [])[(y % b / 64) * ceilDiv (t.rendW n 0) 64 + x / 64]?

/-- A vector in full samples of the top rung as sixteenths in a rendition's own size. -/
def scaleMill (w w0 h h0 : Nat) (v : Vec) : Vec := (16 * v.1 * (w : Int) / (max 1 w0 : Nat), 16 * v.2 * (h : Int) / (max 1 h0 : Nat))

/-- The vector of an inter block: by the full search of its preset, or from the top rung's vector (R79, R111, R112). `done` holds the blocks
of the picture coded before it. -/
def State.blockVec (s : State) (n k rend : Nat) (p : RPic) (done : List (CodBlk × Vec)) (a : Area) (b : CodBlk) (affine : Bool) : Vec :=
  let c := s.chan n
  let t := s.asOf n k
  let cd := t.codec n rend
  let eff := t.fld (ENC_CH_REND_CODEC_EFFORT n rend)
  let w := t.rendW n rend
  let h := t.rendH n rend
  let w0 := t.rendW n 0
  let h0 := t.rendH n 0
  let g := if b.ref = 0 then p.gmv.1 else p.gmv.2
  let side := searchSide cd
  let rect := winRect cd (b.x / side * side) (if cd = 0 ∧ s.chMode n ≠ 0 then a.y0 else b.y / side * side) g
  let cost := Config.searchCost (n, rend, k) (b.x, b.y, b.w, b.h) b.ref
  let tx := (b.x + b.w / 2) * w0 / max 1 w
  let ty := (b.y + b.h / 2) * h0 / max 1 h
  if s.ownSearch n k rend p then
    let e := t.entryAt n (c.slot k).mill tx ty
    let mv := fun (i : Nat) => match e, i, b.ref with
      | some e, 0, 0 => (e.mv0x, e.mv0y) | some e, 0, _ => (e.mv1x, e.mv1y)
      | some e, _, 0 => (e.b0x, e.b0y) | some e, _, _ => (e.b1x, e.b1y)
      | none, _, _ => (0, 0)
    let colo := match p.refs[b.ref]? with
      | some j => (match c.pic j rend with | some r => vec0 (r.units.flatMap (fun u => u.vecs)) (b.x : Int) (b.y : Int) | none => (0, 0))
      | none => (0, 0)
    fineSearch cost (Sys2Proof.Machine.inWindow rect b) eff cd affine (searchPreds eff (scaleMill w w0 h h0 (mv 0)) (vec0 done ((b.x : Int) - 1) b.y)
      (vec0 done b.x ((b.y : Int) - 1)) colo (vec0 done ((b.x : Int) + b.w) ((b.y : Int) - 1)) (scaleMill w w0 h h0 (mv 1))
      (16 * g.1, 16 * g.2))
  else
    let top := match c.pic k 0 with | some q => vecAt (q.units.flatMap (fun (u : UnitRec) => u.vecs)) tx ty | none => none
    let scaled := match top with
      | some (b0, v) =>
        let d := match p.refs[b.ref]? with | some j => max (k - j) (j - k) | none => 1
        let d0 := match (c.pic k 0).bind (fun q => q.refs[b0.ref]?) with | some j => max (k - j) (j - k) | none => 1
        scaleVec w w0 h h0 d d0 v
      | none => (0, 0)
    reuseSearch cost rect b eff cd affine scaled

/-- The vectors of a unit's blocks in coding order. -/
def State.unitVecs (s : State) (n k rend : Nat) (p : RPic) (a : Area) : List BlkIn → List (CodBlk × Vec) → List (CodBlk × Vec) →
    List (CodBlk × Vec)
  | [], _, acc => acc
  | b :: t, done, acc =>
    match b.inter with
    | none => s.unitVecs n k rend p a t done acc
    | some (blk, affine) =>
      let v := s.blockVec n k rend p done a blk affine
      s.unitVecs n k rend p a t (done ++ [(blk, v)]) (acc ++ [(blk, v)])

/-! ### Checks in wait (R142, R144, R145) -/

/-- Whether a unit waits for its check decoder. -/
def UnitRec.toCheck (x : UnitRec) : Bool := x.phase == .coded && !x.verified && !x.refilter

/-- The check decoder of a unit (R142): that of its tun slot's share when the picture was planned, or now where that one is fenced; none of
an unchecked rendition. -/
def State.chkOf (s : State) (n k rend u : Nat) (p : RPic) : Option Nat :=
  let t := s.asOf n k
  let j := t.tunSlot n rend ((((t.units n rend)[u]?).map (·.part)).getD 0) p.q
  if s.enc.unchecked.contains (n * 16 + rend) then none
  else match p.chk[j]? with
    | none => none
    | some d => if s.chkFenced d then ((tfind s.enc.chkPlace (n * 16 + rend)).getD [])[j]? else some d

/-- The times at which the units that wait for a check decoder were coded. -/
def State.chkWaiting (s : State) (d : Nat) : List Nat :=
  s.enc.chans.flatMap (fun c => c.2.pics.flatMap (fun x => (x.2.units.mapIdx (fun u y => (u, y))).filterMap (fun y =>
    if y.2.toCheck && s.chkOf c.1 (x.1 / 16) (x.1 % 16) y.1 x.2 == some d then some y.2.atRaw else none)))

/-- A check decoder is busy while units wait for it (DEC_CHK_STAT). -/
def State.putChkBusy (s : State) (d : Nat) : State := s.put (DEC_CHK_STAT_BUSY d) (b2n (!(s.chkWaiting d).isEmpty))

/-- The check decoder of a unit that is coded takes it. -/
def State.chkTake (s : State) (n k rend u : Nat) : State :=
  match ((s.chan n).pic k rend).bind (s.chkOf n k rend u) with
  | some d => s.putChkBusy d
  | none => s

/-! ### The end of a unit (R128, R129, R143) -/

/-- Whether the units whose samples the last filter of a unit needs are coded: those above it and to its left (R143, assumption log
row 111). -/
def State.filterReady (s : State) (n k rend u : Nat) (p : RPic) (a : Area) : Bool :=
  let us := ((s.asOf n k).units n rend).zip p.units
  (us.mapIdx (fun i y => (i, y))).all (fun y =>
    y.1 == u || y.2.2.phase == .coded ||
    !((y.2.1.x1 == a.x0 && decide (y.2.1.y0 < a.y1) && decide (a.y0 < y.2.1.y1)) ||
      (y.2.1.y1 == a.y0 && decide (y.2.1.x0 < a.x1) && decide (a.x0 < y.2.1.x1))))

/-- The tools of a unit's blocks: each one that the codec has (R65 to R68). -/
def unitTools (codec : Nat) (blocks : List BlkIn) : List Tool :=
  ((blocks.flatMap (·.tools)).filter (codecTools codec false).contains).eraseDups

/-- A unit whose filtering alone runs again (R91): new final samples, which its check decoder checks again. -/
def State.unitRefilter (s : State) (n k rend u : Nat) (p : RPic) (x : UnitRec) (crc : Nat) : State :=
  (s.setChan n ((s.chan n).setPic k rend { p with
    units := p.units.set u { x with refilter := false, verified := false, crc := crc, atRaw := s.raw } })).chkTake n k rend u

/-- A unit is coded: size by R128, the vectors of its blocks, tools, and the CRC of its final samples. -/
def State.unitDone (s : State) (n k rend u ovh : Nat) (p : RPic) (x : UnitRec) (a : Area) (blocks : List BlkIn) (crc : Nat) : State :=
  let t := s.asOf n k
  let bound := t.blockBound n rend p.intra
  let form := decide (p.shape ≠ 0) || x.rep
  let bl := blocks.map (fun b => (b.nat, b.flo))
  let (bits, fl, m) := if t.rcMode n rend = 3 ∧ !form then (ovh + (bl.map (·.1)).sum, false, bl.length)
    else codeBlocks x.cap bound bl (min ovh (x.cap - bl.length * bound)) (form || x.inFloor) 0
  let own := p.units.flatMap (fun u => u.vecs)
  let x' := { x with phase := .coded, bits := bits, crc := crc, atRaw := s.raw, floored := (fl || x.inFloor) && !form
                     tools := unitTools (t.codec n rend) blocks
                     vecs := if p.intra then [] else s.unitVecs n k rend p a (blocks.take m) own [] }
  let p := { p with units := p.units.set u x' }
  let s := (s.setChan n ((s.chan n).setPic k rend p)).chkTake n k rend u
  let s := if x.rerun then (s.cnt (ENC_TUN_CNT_RERUN_COUNT x.tun) 1).put (ENC_TUN_STAT_RERUN x.tun)
    (b2n (s.tunCoding x.tun true)) else s
  let s := (s.put (ENC_TUN_STAT_BUSY x.tun) (b2n (s.tunCoding x.tun false))).put (ENC_TUN_WIN_STAT_SHARING x.tun) 0
  if p.units.all (fun y => y.phase == .coded) ∧ !p.done then (s.rcPicDone n k rend).tryBudgets n else s

/-- UNIT_ENCODE_DONE (R128, R129, R143): the tun has coded and filtered the unit and sends its CRC-32C. `ovh` is the unit's
slice or tile overhead, `blocks` its blocks in coding order, and `samples` the final samples of its area in the order of R143. -/
def execUnitEncodeDone (n : Fin 16) (k : Nat) (rend : Fin 12) (u ovh : Nat) (blocks : List BlkIn) (samples : List Int)
    (s : State) : Host.Outcome State Fault Refusal :=
  .next (match (s.chan n).pic k rend, ((s.asOf n k).units n rend)[u]? with
    | some p, some a =>
      let x := p.units.getD u UnitRec.zero
      let crc := (unitCrc (depthOf ((s.asOf n k).fld (ENC_CH_REND_CODEC_DEPTH n rend))) samples).toNat
      if u < p.units.length ∧ s.filterReady n k rend u p a ∧ s.wppReady n k rend u a.x1 p then
        if x.phase = .coding ∧ !s.tunFenced x.tun ∧ s.blockRuns x.tun ∧ !s.bit (ENC_TUN_WIN_STAT_PREFILL x.tun) then
          s.unitDone n k rend u ovh p x a blocks crc
        else if x.phase = .coded ∧ x.refilter then s.unitRefilter n k rend u p x crc
        else s
      else s
    | _, _ => s)

/-! ### Window commands (R107 to R110) -/

/-- The step of a tun to its next search unit: the unit's progress, the window, and whether the tun above feeds the shared lines. -/
def State.windowStep (s : State) (t n k rend u : Nat) (p : RPic) (x : UnitRec) (a : Area) : State :=
  let r := s.asOf n k
  let cd := r.codec n rend
  let side := searchSide cd
  let p' := { p with units := p.units.set u { x with prog := x.prog + 1 } }
  let s := s.setChan n ((s.chan n).setPic k rend p')
  if p.intra ∨ p.shape ≠ 0 then s
  else
    let s := (s.setWin t (stepWin cd (r.rendW n rend) (a.x0 / side + x.prog) p (s.win t))).putStrips t
    s.put (ENC_TUN_WIN_STAT_SHARING t) (b2n (s.shares n k rend u p))

/-- PREFILL_DONE (R109): the opening window is in the cache. -/
def execPrefillDone (t : Fin 40) (s : State) : Host.Outcome State Fault Refusal :=
  .next (if s.bit (ENC_TUN_WIN_STAT_PREFILL t) then
      let s := (s.put (ENC_TUN_WIN_STAT_PREFILL t) 0).cnt (ENC_TUN_CNT_PREFILL_COUNT t) 1
      match s.inFlight t with
      | (n, k, rend, u) :: _ =>
        match (s.chan n).pic k rend, ((s.asOf n k).units n rend)[u]? with
        | some p, some a =>
          let r := s.asOf n k
          let cd := r.codec n rend
          let w := s.win t
          let w := { openWin cd (r.rendW n rend) (a.x0 / searchSide cd) p w with
            filled := (n * 16 + rend) :: w.filled.filter (· != n * 16 + rend) }
          ((s.setWin t w).putStrips t).put (ENC_TUN_WIN_STAT_SHARING t) (b2n (s.shares n k rend u p))
        | _, _ => s
      | [] => s
    else s)

end Sys2Proof.Machine
end

