-- ==== Sys2Proof/Machine/Egress.lean ====
section
/-! DEFINITION. How the access units of live channels leave (R33, R43, R47, R48, R51 to R55, R117, R119, R147, R437, R439, R454). -/

namespace Sys2Proof.Machine

/-! ### Timestamps (R46 to R48), under the registers of the slot -/

/-- The RTP timestamp of the video of slot k. -/
def State.rtpVideo (s : State) (n k : Nat) : Nat := (s.media n k / 300 + (s.asOf n k).fld (ENC_CH_RTP_OFS_OFS n)) % 2 ^ 32

/-- The RTP timestamp of audio at a sample rate, whose sample `first` counts from the PTP epoch: its capture time in 27 MHz ticks, rounded
down, plus the rebase offset (R46). -/
def State.rtpAudio (s : State) (n rate first : Nat) : Nat :=
  (ofSigned 64 (((first * 27000000 / max 1 rate : Nat) : Int) + (s.chan n).rebase) * rate / 27000000 + s.fld (ENC_CH_RTP_OFS_OFS n)) % 2 ^ 32

/-- The PTS of slot k in a rendition: D and the initial removal delay of R118 after its media time. -/
def State.pts (s : State) (n k rend : Nat) : Nat :=
  let t := s.asOf n k
  (s.media n k / 300 + t.fld (ENC_CH_DELAY_D_NS n) * 9 / 100000 + t.fld (ENC_CH_RC_BUF_INIT n rend) * 90) % 2 ^ 33

/-- The DTS: the reorder delay of R69 before the PTS, (M − 1) Tf in look-ahead mode. -/
def State.dts (s : State) (n k rend : Nat) : Nat :=
  let t := s.asOf n k
  (s.pts n k rend + 2 ^ 33 - (if t.chMode n = 2 then (min (t.lookL n + 1) 4 - 1) * t.tf27 n / 300 else 0) % 2 ^ 33) % 2 ^ 33

/-- The PCR of a packet released at a presented time: base and extension. -/
def State.pcr (s : State) (n : Nat) (t : Int) : Nat × Nat :=
  let m := ofSigned 64 (ticks27 t + (s.chan n).rebase)
  (m / 300 % 2 ^ 33, m % 300)

/-! ### Packets -/

/-- The stream type of a codec in a transport stream (R51). -/
def streamType (codec : Nat) : Nat := [0x1B, 0x24, 0x33, 0x06].getD codec 0

/-- Whether the AAC-LC audio of a channel goes with its transport streams (R52, R263): one audio stream. -/
def State.tsAudio (s : State) (n : Nat) : List Nat := if s.bit (AUD_BC_CTRL_EN n) && s.fld (AUD_BC_CTRL_OUT n) == 2 then [0] else []

/-- The raw times of a rendition's last PCR, and of its last PAT and PMT; none yet. -/
def Chan.tsLast (c : Chan) (rend : Nat) : Option (Nat × Nat) := tfind c.tsAt rend

/-- Whether 20 ms have passed since the last PCR, and 100 ms since the last PAT and PMT (R52). -/
def State.pcrDue (s : State) (n rend : Nat) : Bool := ((s.chan n).tsLast rend).all (fun x => decide (s.raw - x.1 ≥ 20 * msU))
def State.psiDue (s : State) (n rend : Nat) : Bool := ((s.chan n).tsLast rend).all (fun x => decide (s.raw - x.2 ≥ 100 * msU))

/-- What the transport stream packets of an RTP packet hold (R52): a PCR and the tables when they are due, and the tables at a random-access
point. -/
def State.tsInfo (s : State) (n k rend : Nat) (p : RPic) (first : Bool) : TsInfo :=
  let t := s.asOf n k
  let c := t.codec n rend
  { packets := t.fld (ENC_CH_OUT_PKG_TS_PER_PKT n rend), streamType := streamType c, av1Reg := c == 3, pts := s.pts n k rend,
    dts := s.dts n k rend, pcr := if first || s.pcrDue n rend then some (s.pcr n s.now) else none,
    psi := (first && p.rap) || s.psiDue n rend, audio := t.tsAudio n }

/-- The times of a rendition's last PCR and tables after a packet. -/
def Chan.tsSent (c : Chan) (rend raw : Nat) (t : Option TsInfo) : Chan :=
  match t with
  | none => c
  | some t =>
    let x := (c.tsLast rend).getD (raw, raw)
    { c with tsAt := tput c.tsAt rend (if t.pcr.isSome then raw else x.1, if t.psi then raw else x.2) }

/-- What the first packet of an access unit signals of the buffer model: nothing in CQP (R117). -/
def State.hrdInfo (s : State) (n k rend : Nat) (p : RPic) : Option HrdInfo :=
  let t := s.asOf n k
  if t.rcMode n rend = 3 then none
  else some { params := if p.rap then some (t.hrdRate n rend, t.bufBits n rend, t.rcMode n rend == 0, t.fld (ENC_CH_RC_BUF_INIT n rend)) else none,
              removal := if p.rap then 0 else (k - p.was.1) * t.tf27 n }

/-- The next packet of a picture on a flow. -/
def State.livePkt (s : State) (n k rend bytes : Nat) (last : Bool) (p : RPic) (flow ext : Nat) : LivePkt :=
  let t := s.asOf n k
  let first := p.sent == 0 && !p.part
  let pkg := t.fld (ENC_CH_OUT_PKG_PKG n rend)
  { ch := n, rend := rend, slot := k, unit := p.sent, flow := flow, ext := ext, ssrc := s.ff flow 0x0C 4, ts := s.rtpVideo n k, len := bytes,
    pkg := pkg, codec := t.codec n rend, tstr := if pkg = 1 then some (s.tsInfo n k rend p first) else none,
    hrd := if first then s.hrdInfo n k rend p else none, anc := if first then ((s.chan n).slot k).anc else [],
    filler := if last && p.sent + 1 == p.units.length then p.fill else 0,
    gyle := if s.flag flow 2 then some s.gyle else none }

/-! ### Flows (R55, R215, R229, R230) -/

/-- The extended sequence number of the next packet of a live output, which both its paths carry. -/
def State.liveExt (s : State) (flow : Nat) : Nat :=
  let at' := fun f => if s.recValid 0 f then s.ff f 0xC8 8 else tget (fun _ => 0) s.rdn.lastSent f
  max (at' flow) (at' (flow + 1)) + 1

/-- Whether the SRTP index limit stops a flow at a packet (R230). -/
def State.keyLimit (s : State) (f ext : Nat) : Bool := s.flag f 0 && (decide (s.ff f 0xA8 8 + 1 ≥ 2 ^ 48) || decide (ext ≥ 2 ^ 48))

/-- A packet takes its number on a flow: sequence state, rollover counter, timestamp, and the last sent that is racked. -/
def State.liveNumber (s : State) (f ext ts : Nat) : State :=
  let s := { s with rdn := { s.rdn with lastSent := tset (fun _ => 0) s.rdn.lastSent f ext } }
  if s.recValid 0 f then (((s.fp f 0xC8 8 ext).fp f 0xDC 4 ts).fp f 0x90 4 (ext / 65536)).fp f 0x1AC 4 s.nowUs else s

/-- A packet leaves on a flow, or is dropped where the flow has stopped or its egress stage does not run (R230, R244); one that leaves is
counted. -/
def State.liveOut (s : State) (f ext ts len : Nat) (o : Out) : State :=
  let st := s.recState 0 f
  if s.recValid 0 f && st == 3 then s.cnt BRG_CNT_CRC_COUNT 1
  else if s.recValid 0 f && st == 2 then s.packetLost f
  else if s.recValid 0 f && s.keyLimit f ext then ((s.fp f 0 1 2).packetLost f).emit 0x1802 f 0
  else
    let s := s.liveNumber f ext ts
    if !s.flowUp f then s.packetLost f
    else
      let s := if s.recValid 0 f then ((if s.flag f 0 then s.keyCount f else s).fcnt f 0x180 8 1).fcnt f 0x188 8 len else s
      s.send o

/-- The paths of a live output that this device sends now: FLOW, and with DUAL FLOW + 1 (R55, R437); a STANDBY sends path 1 of a rendition
that it is ready for. -/
def State.livePaths (s : State) (n k rend : Nat) : List Nat :=
  let t := s.asOf n k
  let f := t.fld (ENC_CH_OUT_FLOW_FLOW n rend)
  let two := t.bit (ENC_CH_OUT_PKG_DUAL n rend) && s.egressOk true &&
    (!s.isStandby || tget (fun _ => false) s.rdn.rendReady (n * 16 + rend))
  (if s.egressOk false then [f] else []) ++ (if two then [f + 1] else [])

/-- A twin keeps every coded packet for 32 ms (R439): the packet that a STANDBY makes and does not send on path 0. -/
def State.keepPacket (s : State) (p : LivePkt) : State :=
  let kept := s.rdn.kept.filter (fun x => decide (s.raw - x.raw ≤ 32 * msU))
  { s with rdn := { s.rdn with virt := tset (fun _ => 0) s.rdn.virt p.flow p.ext, kept := kept ++ [⟨p, s.raw⟩] } }

/-! ### Sending (R54, R147, R454) -/

/-- Force a random-access point in a rendition (R84, R148): it lands on the first picture whose budget is not set. -/
def State.forceRap (s : State) (n rend k : Nat) : State :=
  let c := s.chan n
  let rc := c.rc rend
  s.setChan n (c.setRc rend { rc with forced := 2, suspect := some (match rc.suspect with | some f => min f k | none => k) })

/-- Whether every earlier slot of the rendition has left (R54). -/
def Chan.earlierSent (c : Chan) (k rend : Nat) : Bool :=
  c.pics.all (fun x => x.1 % 16 != rend || decide (x.1 / 16 ≥ k) || decide (x.2.sent ≥ x.2.units.length))

/-- The raw time that a packet of `bytes` takes, in 2⁻¹⁶ ns: at PACE_MBPS (0 = line rate) in RTP and TS packaging (R54), and its
part of one Tf by its bytes in ST 2110-22, which spreads an access unit evenly (R53). -/
def State.paceTime (s : State) (n k rend bytes : Nat) (p : RPic) : Nat :=
  let t := s.asOf n k
  if t.fld (ENC_CH_OUT_PKG_PKG n rend) = 2 then
    let total := if p.done then p.hdr + (p.units.map (·.bits)).sum + 8 * p.fill else p.budget
    t.tf n * (bytes * 8) / max (bytes * 8) total
  else
    let r := t.fld (ENC_CH_OUT_PKG_PACE_MBPS n rend)
    if r = 0 then 0 else bytes * 8 * 65536 * 1000 / (r * 100)

/-- Whether the next packet of a picture may leave: its access unit is released, its unit coded, every earlier slot has left, and the pace
allows it. -/
def State.sendReady (s : State) (n k rend : Nat) (p : RPic) : Bool :=
  let c := s.chan n
  p.released && decide (p.sent < p.units.length) && (p.units.getD p.sent UnitRec.zero).phase == .coded && c.earlierSent k rend &&
  decide (s.raw ≥ tget (fun _ => 0) c.pace rend) && (s.egressOk false || s.egressOk true || s.isStandby)

/-- The next packet leaves on every path, and a STANDBY keeps it; `last` says that it ends its unit. -/
def State.liveSend (s : State) (n k rend bytes : Nat) (last : Bool) (p : RPic) : State :=
  let f := (s.asOf n k).fld (ENC_CH_OUT_FLOW_FLOW n rend)
  let ext := if s.isStandby then tget (fun _ => 0) s.rdn.virt f + 1 else s.liveExt f
  let mk := fun g => s.livePkt n k rend bytes last p g ext
  let p' := if last then { p with sent := p.sent + 1, part := false } else { p with part := true }
  let c := s.chan n
  let c := { ((c.setPic k rend p').tsSent rend s.raw (mk f).tstr) with
    pace := tset (fun _ => 0) c.pace rend (s.raw + s.paceTime n k rend bytes p) }
  let paths := s.livePaths n k rend
  let t := paths.foldl (fun (t : State) g => t.liveOut g ext (mk g).ts bytes (.live (mk g))) (s.setChan n c)
  let t := if s.isStandby then t.keepPacket (mk f) else t
  (t.prune n).endRun n

/-- The packets of a unit whose coded-unit CRC fails are dropped and counted (R244); a random-access point is forced (R454). -/
def State.liveDrop (s : State) (n k rend : Nat) (p : RPic) : State :=
  let s := (s.setChan n ((s.chan n).setPic k rend { p with sent := p.sent + 1, part := false })).prune n
  let s := (s.cnt FWD_CNT_DROP_COUNT 1).logFault 10 3 0 n 0
  (s.forceRap n rend k).endRun n

/-- EGRESS_PACKET_SEND (R54, R147, R437, R454): the next packet of a released access unit, in unit order, once its unit is
coded. `last` says that it ends its unit; `crcOk` is the coded-unit CRC check. -/
def execEgressPacketSend (n : Fin 16) (k : Nat) (rend : Fin 12) (bytes : Nat) (last crcOk : Bool) (s : State) :
    Host.Outcome State Fault Refusal :=
  .next (match (s.chan n).pic k rend with
    | some p =>
      if s.sendReady n k rend p then (if crcOk then s.liveSend n k rend bytes last p else s.liveDrop n k rend p) else s
    | none => s)

/-- The kept packets after LAST_SENT leave again, in order (R439). -/
def State.sendKept (s : State) : State :=
  let l := s.rdn.kept.filter (fun x => decide (s.raw - x.raw ≤ 32 * msU) &&
    decide (x.pkt.ext > tget (fun _ => 0) s.rdn.lastSent x.pkt.flow))
  let s : State := l.foldl (fun (s : State) x =>
    let p := { x.pkt with gyle := if s.flag x.pkt.flow 2 then some s.gyle else none }
    s.liveOut p.flow p.ext p.ts p.len (.live p)) s
  { s with rdn := { s.rdn with kept := [] } }

/-! ### Release (R33) -/

/-- The release of the next slot (trigger 33 + 2n, R33): every rendition's access unit may leave; a device that may not
send counts it as gone. -/
def State.slotRelease (s : State) (n : Nat) : State :=
  let c := s.chan n
  if !c.run then s
  else
    let k := c.released
    let t := s.asOf n k
    let mute := !s.egressOk false && !s.egressOk true && !s.isStandby
    let pics := c.pics.map (fun x => if x.1 / 16 = k then
      (x.1, { x.2 with released := true, sent := if mute ∨ (x.1 % 16 = 0 ∧ !t.bit (ENC_CH_OUT_PKG_EN n 0))
        then x.2.units.length else x.2.sent }) else x)
    let s := (s.setChan n { c with pics := pics, released := k + 1 }).prune n
    let s := s.put (ENC_CH_STAT_RUNNING n) 1
    let s := s.rack ((t.rends n).map (fun r => .lastSent (t.fld (ENC_CH_OUT_FLOW_FLOW n r)) (tget (fun _ => 0) s.rdn.lastSent
      (t.fld (ENC_CH_OUT_FLOW_FLOW n r)))))
    s.endRun n

/-! ### Transport streams between packets (R52) -/

/-- A PCR, and PAT and PMT, go on their own where no packet has carried one in time. -/
def State.tsOnly (s : State) (n rend : Nat) : State :=
  let due := s.pcrDue n rend
  let psi := s.psiDue n rend
  if (due || psi) && s.egressOk false then
    let c := s.codec n rend
    let i : TsInfo := { packets := b2n due + 2 * b2n psi, streamType := streamType c, av1Reg := c == 3, pts := 0, dts := 0,
                        pcr := if due then some (s.pcr n s.now) else none, psi := psi, audio := s.tsAudio n }
    (s.setChan n ((s.chan n).tsSent rend s.raw (some i))).send (.tsOnly n rend i)
  else s

/-- At a tick: the transport streams of running channels. -/
def State.tsTick (s : State) : State :=
  s.enc.chans.foldl (fun s c => if c.2.run then c.2.tsAt.foldl (fun s x => s.tsOnly c.1 x.1) s else s) s

/-! ### Queue occupancy (R247) -/

/-- The bytes of released access units of live channels that wait for a MAC. -/
def State.egLive (s : State) (m : Nat) : Nat :=
  (s.enc.chans.map (fun c => (c.2.pics.map (fun x =>
    let f := (s.asOf c.1 (x.1 / 16)).fld (ENC_CH_OUT_FLOW_FLOW c.1 (x.1 % 16))
    if x.2.released && s.recValid 0 f && s.ff f 0x0A 1 == m then
      ((x.2.units.drop x.2.sent).map (fun u => if u.phase == .coded then ceilDiv u.bits 8 else 0)).sum
    else 0)).sum)).sum

/-- FWD_EG_STAT at a tick: the occupancies in KiB, rounded down, at most what each queue holds (log row 114). -/
def State.egStats (s : State) : State :=
  (List.range 16).foldl (fun s m =>
    (s.put (FWD_EG_STAT_LIVE_KB m) (min 2048 (s.egLive m / 1024))).put (FWD_EG_STAT_BRIDGE_KB m) (min 6144 (s.egBridge m / 1024))) s

end Sys2Proof.Machine
end

