-- ==== Sys2Proof/Machine/BcAudio.lean ====
section
/-! DEFINITION. Broadcast audio (R36, R46, R52, R261 to R264). -/

namespace Sys2Proof.Machine

/-- The sample rate, and the samples of an output packet: 1 ms or 125 µs, or an AAC-LC frame. -/
def State.bcRate (s : State) (n : Nat) : Nat := if s.fld (AUD_BC_CTRL_RATE n) = 1 then 96000 else 48000
def State.bcLen (s : State) (n : Nat) : Nat :=
  if s.fld (AUD_BC_CTRL_OUT n) = 2 then 1024 else if s.bit (AUD_BC_CTRL_PTIME n) then s.bcRate n / 8000 else s.bcRate n / 1000

/-- Whether the release time of a sample, its capture time plus D (R36), has come. -/
def State.bcDue (s : State) (n first : Nat) : Bool :=
  decide (((first * secU + s.delayD n * s.bcRate n : Nat) : Int) ≤ s.now * (s.bcRate n : Int))

/-- The latest raw time at which an input packet may come for an output packet (R262): 250 µs before its release time. -/
def State.bcCut (s : State) (n first : Nat) : Int :=
  let rel := ((first * secU / s.bcRate n + s.delayD n : Nat) : Int)
  (s.raw : Int) - (s.now - rel) - ((250 * usU : Nat) : Int)

/-- The route of a processing channel: STREAM, IN_CH, GAIN in 0.5 dB steps; none where its entry is not in use. -/
def State.bcRoute (s : State) (n i : Nat) : Option (Nat × Nat × Int) :=
  if s.bit (AUD_BC_ROUTE_EN n i) then
    some (s.fld (AUD_BC_ROUTE_STREAM n i), s.fld (AUD_BC_ROUTE_IN_CH n i), toSigned 9 (s.fld (AUD_BC_ROUTE_GAIN n i)))
  else none

/-- A sample of an input stream that has come by a raw time, and whether it is non-audio. -/
def Chan.bcSample (c : Chan) (cut : Int) (stream ch i : Nat) : Option (Int × Bool) :=
  (c.pcm.find? (fun x => x.stream == stream && decide ((x.raw : Int) ≤ cut) && decide (x.first ≤ i) &&
    decide (i < x.first + (x.pcm.getD ch []).length))).map (fun x => ((x.pcm.getD ch []).getD (i - x.first) 0, x.nonAudio))

/-- The index of sample i of processing channel ch in a BC_MISS record, which counts the samples of the 64 processing channels in turn
(assumption log row 113). -/
def bcIndex (i ch : Nat) : Nat := i * 64 + ch

/-- Whether sample i of a processing channel is replaced: its packet has not come, or on a STANDBY the record says so. -/
def State.bcGone (s : State) (n : Nat) (cut : Int) (ch i : Nat) : Bool :=
  let c := s.chan n
  match s.bcRoute n ch with
  | none => false
  | some (st, inch, _) => (c.bcSample cut st inch i).isNone ||
      (s.isStandby && c.bcRack.any (fun r => decide (r.1 ≤ bcIndex i ch) && decide (bcIndex i ch < r.1 + r.2)))

/-- The distance from a sample to the nearest replaced one of its processing channel: after it, back over earlier packets, or before it in
this packet; 32 where none is nearer. -/
def State.bcNear (s : State) (n : Nat) (cut : Int) (ch first len i : Nat) : Nat :=
  let back := match tfind (s.chan n).bcMiss ch with | some j => if j < i then min 32 (i - j) else 32 | none => 32
  let inP := (List.range len).foldl (fun m j => if s.bcGone n cut ch (first + j) then min m (max (i - (first + j)) (first + j - i)) else m) 32
  min back inP

/-- A sample of a processing channel as it leaves (R261, R262): zero where it is replaced or the entry is not in use, the linear ramps beside a
replaced one, GAIN; non-audio is passed bit-exact, and never to AAC-LC. How a scaled sample is rounded is a free function. -/
def State.bcOut (s : State) (n : Nat) (cut : Int) (ch first len i : Nat) : Int :=
  match s.bcRoute n ch with
  | none => 0
  | some (st, inch, g) =>
    if s.bcGone n cut ch i then 0
    else match (s.chan n).bcSample cut st inch i with
      | none => 0
      | some (x, true) => if s.fld (AUD_BC_CTRL_OUT n) = 2 then 0 else x
      | some (x, false) =>
        let d := s.bcNear n cut ch first len i
        let x := if g = 0 then x else Config.bcGain g x
        if d < 32 then Config.bcRamp d x else x

/-- The replaced samples of a packet: (sample, processing channel). -/
def State.bcMissing (s : State) (n : Nat) (cut : Int) (first len : Nat) : List (Nat × Nat) :=
  (List.range len).flatMap (fun j => ((List.range (s.fld (AUD_BC_CTRL_NCH n) + 1)).filter (fun ch => s.bcGone n cut ch (first + j))).map
    (fun ch => (first + j, ch)))

/-- Rising indices as runs of consecutive ones. -/
def bcRuns : List Nat → List (Nat × Nat)
  | [] => []
  | i :: t => match bcRuns t with
    | (j, m) :: r => if j = i + 1 then (i, m + 1) :: r else (i, 1) :: (j, m) :: r
    | [] => [(i, 1)]

/-- Replacements are counted, reported once a second and racked (R262); a STANDBY has counted them with their records. -/
def State.bcReplaced (s : State) (n : Nat) (miss : List (Nat × Nat)) : State :=
  let c := s.chan n
  let s := s.setChan n { c with bcMiss := miss.foldl (fun t x => tput t x.2 x.1) c.bcMiss }
  if miss = [] ∨ s.isStandby then s
  else
    ((s.cnt (AUD_BC_CNT_MISS_COUNT n) miss.length).emitLim 0x1A03 n miss.length 0).rack
      ((bcRuns (miss.map (fun x => bcIndex x.1 x.2))).map (fun r => .bcMiss n r.1 r.2))

/-- The packet of an output stream on one of its paths. -/
def State.bcStream (s : State) (n first q flow ext : Nat) (pcm : List (List Int)) : State :=
  let ts := s.rtpAudio n (s.bcRate n) first
  s.liveOut flow ext ts (3 * (pcm.map List.length).sum) (.audio ⟨n, q, flow, ext, ts, first, pcm⟩)

/-- The paths of broadcast audio that this device sends: the offsets from the flow of a stream (R263, R437). -/
def State.bcPaths (s : State) (n : Nat) : List Nat :=
  (if s.egressOk false then [0] else []) ++ (if s.bit (AUD_BC_OUT_DUAL n) && s.egressOk true then [8] else [])

/-- The output streams of PCM: CH_PER_STREAM channels on each of STREAMS flows; both paths carry the same numbers. -/
def State.bcPcm (s : State) (n first : Nat) (out : Nat → List Int) : State :=
  let per := s.fld (AUD_BC_OUT_CH_PER_STREAM n)
  let base := s.fld (AUD_BC_FLOW_FLOW n)
  (List.range (s.fld (AUD_BC_OUT_STREAMS n))).foldl (fun (t : State) q =>
    let f := base + q
    let at' := fun g => if t.recValid 0 g then t.ff g 0xC8 8 else tget (fun _ => 0) t.rdn.lastSent g
    let ext := max (at' f) (at' (f + 8)) + 1
    let pcm := (List.range per).map (fun j => out (q * per + j))
    (s.bcPaths n).foldl (fun (t : State) o => t.bcStream n first q (f + o) ext pcm) t) s

/-- An AAC-LC frame goes into every transport stream of the channel (R52, R263). -/
def State.bcAac (s : State) (n first : Nat) : State :=
  if s.egressOk false then
    ((s.rends n).filter (fun r => s.bit (ENC_CH_OUT_PKG_EN n r) && s.fld (ENC_CH_OUT_PKG_PKG n r) == 1)).foldl (fun (t : State) r =>
      t.send (.aac n r (s.fld (ENC_CH_OUT_FLOW_FLOW n r)) first)) s
  else s

/-- BC_AUDIO_RELEASE (R36, R261 to R263): the packets whose first sample is `first`, counted from the PTP epoch, leave at its capture time plus
D. Packets leave in order and start at a whole number of packets. -/
def execBcAudioRelease (n : Fin 16) (first : Nat) (s : State) : Host.Outcome State Fault Refusal :=
  let len := s.bcLen n
  let c := s.chan n
  .next (if !s.bit (AUD_BC_CTRL_EN n) ∨ !c.run ∨ !s.bcDue n first ∨ first < c.bcNext ∨ first % len ≠ 0 then s
    else
      let cut := s.bcCut n first
      let nch := s.fld (AUD_BC_CTRL_NCH n) + 1
      let out := fun ch => if ch < nch then (List.range len).map (fun j => s.bcOut n cut ch first len (first + j)) else List.replicate len 0
      let miss := s.bcMissing n cut first len
      let t := (s.setChan n { c with bcNext := first + len }).bcReplaced n miss
      if s.fld (AUD_BC_CTRL_OUT n) = 2 then t.bcAac n first else t.bcPcm n first out)

/-- LOUDNESS_UPDATE (R264): every 100 ms while the channel is measured; momentary, short-term, integrated loudness in 0.1 LUFS
and true peak in 0.1 dBTP as the samples give them, none without a value. -/
def execLoudnessUpdate (n : Fin 16) (m sh int tp : Option Int) (s : State) : Host.Outcome State Fault Refusal :=
  let code := fun (v : Option Int) => match v with | some x => ofSigned 16 x | none => 0x8000
  .next (if s.fld (AUD_BC_CTRL_LOUD_LAYOUT n) = 0 ∨ !s.bit (AUD_BC_CTRL_EN n) then s
    else if s.raw / (100 * msU) ≤ tget (fun _ => 0) s.aud.due n then s
    else
      let s := { s with aud := { s.aud with due := tset (fun _ => 0) s.aud.due n (s.raw / (100 * msU)) } }
      let old := s.fld (AUD_BC_LOUD2_TRUE_PEAK n)
      let peak := match tp with
        | none => old
        | some x => if old = 0x8000 ∨ toSigned 16 old < x then ofSigned 16 x else old
      (((s.put (AUD_BC_LOUD_INTEGRATED n) (code int)).put (AUD_BC_LOUD_SHORT n) (code sh)).put
        (AUD_BC_LOUD2_MOMENTARY n) (code m)).put (AUD_BC_LOUD2_TRUE_PEAK n) peak)

end Sys2Proof.Machine
end

