-- ==== Sys2Proof/Machine/ChkUnits.lean ====
section
/-! DEFINITION. The 16 check-value units (chapter 20). -/

namespace Sys2Proof.Machine

/-- Completed feeds, modulo 2¹⁶ (R471). -/
def State.chkFed (s : State) (u : Nat) : State := s.put (CHK_UNIT_STAT_FEEDS u) (s.fld (CHK_UNIT_STAT_FEEDS u) + 1)

/-- Fold bytes into a unit's running value (R467 to R469). -/
def State.chkFeed (s : State) (u : Nat) (bs : List Nat) : State :=
  let v := Sys2Proof.Machine.chkFeed (s.rd (CHK_UNIT_CFG u)) (s.rd (CHK_UNIT_POLY u)) (s.rd (CHK_UNIT_INIT u))
    (s.rd (CHK_UNIT_XOROUT u)) (s.rd (CHK_UNIT_VALUE u)).toNat bs
  (s.wr (CHK_UNIT_VALUE u) (BitVec.ofNat 32 v)).chkFed u

/-- Bytes of a written word, least significant first (R467). -/
def feedBytes (n : Nat) (v : W32) : List Nat := (leBytes n v.toNat).map BitVec.toNat

/-- CHK_FEED_B, CHK_FEED_H, CHK_FEED_W (R467). -/
def execChkFeedB (p : Port) (u : Fin 16) (v : W32) (s : State) : Host.Outcome State Fault Refusal :=
  .next (s.portWrite p (CHK_UNIT_FEED_B u) v (fun s => s.chkFeed u (feedBytes 1 v)))
def execChkFeedH (p : Port) (u : Fin 16) (v : W32) (s : State) : Host.Outcome State Fault Refusal :=
  .next (s.portWrite p (CHK_UNIT_FEED_H u) v (fun s => s.chkFeed u (feedBytes 2 v)))
def execChkFeedW (p : Port) (u : Fin 16) (v : W32) (s : State) : Host.Outcome State Fault Refusal :=
  .next (s.portWrite p (CHK_UNIT_FEED_W u) v (fun s => s.chkFeed u (feedBytes 4 v)))

/-- START: the initial value, PEND cleared (R469). -/
def State.chkStartUnit (s : State) (u : Nat) : State :=
  s.wr (CHK_UNIT_VALUE u) (BitVec.ofNat 32 (Sys2Proof.Machine.chkStart (s.rd (CHK_UNIT_CFG u)) (s.rd (CHK_UNIT_POLY u))
    (s.rd (CHK_UNIT_INIT u)) (s.rd (CHK_UNIT_XOROUT u))))

/-- ALIVE_RST: the next alive value is accepted as first (R472). -/
def State.chkAliveRst (s : State) (u : Nat) : State := { s with chkLive := s.chkLive.filter (· ≠ u) }

/-- The command bits of CHK_UNIT_CTRL. -/
def State.chkCtrl (s : State) (u : Nat) (v : W32) : State :=
  let s := if fieldGet v 1 1 = 1 then s.chkAliveRst u else s
  if fieldGet v 0 1 = 1 then s.chkStartUnit u else s

/-- CHK_START and CHK_ALIVE_RST write CHK_UNIT_CTRL (R469, R472). -/
def execChkStart (p : Port) (u : Fin 16) (v : W32) (s : State) : Host.Outcome State Fault Refusal :=
  .next (s.portWrite p (CHK_UNIT_CTRL u) v (fun s => s.chkCtrl u v))
def execChkAliveRst (p : Port) (u : Fin 16) (v : W32) (s : State) : Host.Outcome State Fault Refusal :=
  .next (s.portWrite p (CHK_UNIT_CTRL u) v (fun s => s.chkCtrl u v))

/-- CHK_VALUE_WRITE (R470): the running value takes the written word. -/
def execChkValueWrite (p : Port) (u : Fin 16) (v : W32) (s : State) : Host.Outcome State Fault Refusal :=
  .next (s.portWrite p (CHK_UNIT_VALUE u) v id)

/-- A write of 6 or 7 leaves ALG as it was (R466). -/
def State.chkCfg (s : State) (u old : Nat) : State :=
  if s.fld (CHK_UNIT_CFG_ALG u) ≥ 6 then s.put (CHK_UNIT_CFG_ALG u) old else s

/-- CHK_CFG_WRITE (R466). -/
def execChkCfgWrite (p : Port) (u : Fin 16) (v : W32) (s : State) : Host.Outcome State Fault Refusal :=
  let old := s.fld (CHK_UNIT_CFG_ALG u)
  .next (s.portWrite p (CHK_UNIT_CFG u) v (fun s => s.chkCfg u old))

/-- The verdict on an alive value (R472); `last` is the last accepted value. -/
def State.chkAlive (s : State) (u last v : Nat) : State :=
  let keep := s.put (CHK_UNIT_ALIVE_VALUE u) last
  if !s.chkLive.contains u then
    let s := { s with chkLive := u :: s.chkLive }
    (s.put (CHK_UNIT_ALIVE_VALUE u) v).put (CHK_UNIT_ALIVE_VERDICT u) 1
  else if v = (last + 1) % 256 then (s.put (CHK_UNIT_ALIVE_VALUE u) v).put (CHK_UNIT_ALIVE_VERDICT u) 1
  else if v = last then (keep.put (CHK_UNIT_ALIVE_VERDICT u) 2).cnt (CHK_UNIT_CNT_ALIVE_CNT_REPEAT u) 1
  else
    let s := (s.put (CHK_UNIT_ALIVE_VALUE u) v).put (CHK_UNIT_ALIVE_VERDICT u) 3
    (s.put (CHK_UNIT_ALIVE_SKIPPED u) ((v + 255 - last) % 256)).cnt (CHK_UNIT_CNT_ALIVE_CNT_SKIP u) 1

/-- CHK_ALIVE_WRITE (R472). -/
def execChkAliveWrite (p : Port) (u : Fin 16) (v : W32) (s : State) : Host.Outcome State Fault Refusal :=
  let last := s.fld (CHK_UNIT_ALIVE_VALUE u)
  .next (s.portWrite p (CHK_UNIT_ALIVE u) v (fun s => s.chkAlive u last (fieldGet v 0 8)))

/-! ### Unit faults (R473, R474) -/

/-- The unit that serves a function, and the change of it. -/
def State.chkServing (s : State) (f : Nat) : Nat :=
  if f < 8 then fieldGet (s.rd CHK_ASSIGN_LO) (4 * f) 4 else fieldGet (s.rd CHK_ASSIGN_HI) 0 4
def State.chkServe (s : State) (f u : Nat) : State :=
  if f < 8 then s.wr CHK_ASSIGN_LO (fieldPut (s.rd CHK_ASSIGN_LO) (4 * f) 4 u)
  else s.wr CHK_ASSIGN_HI (fieldPut (s.rd CHK_ASSIGN_HI) 0 4 u)

/-- Whether a function has a unit that works: when no unit of 0 to 11 is left its CRCs go unchecked and each message fails. -/
def State.chkServed (s : State) (f : Nat) : Bool := !s.bit (CHK_UNIT_STAT_FENCED (s.chkServing f))

/-- Functions that a unit serves. -/
def State.chkFuncs (s : State) (u : Nat) : List Nat := (List.range 9).filter (fun f => s.chkServing f == u)

/-- The unit that takes a fenced unit's functions: the lowest healthy spare, else the lowest healthy unit of 0 to 11, with
whether it is shared. -/
def State.chkNext (s : State) : Option (Nat × Bool) :=
  let healthy := fun u => !s.bit (CHK_UNIT_STAT_FENCED u)
  match [9, 10, 11].find? (fun u => healthy u && (s.chkFuncs u).isEmpty) with
  | some u => some (u, false)
  | none => ((List.range 12).find? healthy).map (fun u => (u, true))

/-- CHK_UNIT_FENCE and CHK_UNIT_SHARE (R473, R474). -/
def State.fenceUnit (s : State) (u cause : Nat) : State :=
  if s.bit (CHK_UNIT_STAT_FENCED u) then s
  else
    let fs := s.chkFuncs u
    let s := (s.put (CHK_UNIT_STAT_FENCED u) 1).put (CHK_UNIT_STAT_CAUSE u) cause
    let s := s.logFault (if cause = 2 then 1 else 6) 1 0x0701 u (evArg [(0, 1, cause), (1, 1, fs.headD 0xFF)])
    match s.chkNext with
    | none => s.emit 0x0701 u (evArg [(0, 1, cause), (1, 1, fs.headD 0xFF), (2, 1, u)])
    | some (v, shared) =>
      let s := fs.foldl (fun s f => s.chkServe f v) s
      let s := s.emit 0x0701 u (evArg [(0, 1, cause), (1, 1, fs.headD 0xFF), (2, 1, if fs.isEmpty then u else v)])
      if shared then fs.foldl (fun s f => s.emit 0x0702 u (evArg [(0, 1, f), (1, 1, v)])) s else s

/-- The value that a unit must give over the check string (R466, R473). -/
def State.chkExpected (s : State) (u : Nat) : Nat :=
  let c := s.rd (CHK_UNIT_CFG u)
  let po := s.rd (CHK_UNIT_POLY u)
  let i := s.rd (CHK_UNIT_INIT u)
  let x := s.rd (CHK_UNIT_XOROUT u)
  Sys2Proof.Machine.chkResult c po i x (Sys2Proof.Machine.chkFeed c po i x (Sys2Proof.Machine.chkStart c po i x) chkString)

/-- CHK_UNIT_TEST_SLOT (R473): a unit that serves a function gives `result` over the check string; a difference fences it
with cause 1, a parity or memory error with cause 2. -/
def execChkUnitTestSlot (u : Fin 12) (result : W32) (memErr : Bool) (s : State) : Host.Outcome State Fault Refusal :=
  .next (if memErr then s.fenceUnit u 2
    else if (s.chkFuncs u).isEmpty then s
    else if result.toNat = s.chkExpected u then s else s.fenceUnit u 1)

end Sys2Proof.Machine
end

