-- ==== Sys2Proof/Machine/Replies.lean ====
section
/-! DEFINITION. Management senders and their replies (R569 to R573), and the registers that name the coordinators. -/

namespace Sys2Proof.Machine

/-- The register of the coordinator of a level (R413). -/
def coordRegOf (lvl : Nat) : Nat := if lvl = 1 then YZ_COORD1 else if lvl = 2 then YZ_COORD2 else YZ_COORD3

/-- The value words of one item of a reply after the items before it: success adds the reply value, a failure ends the reply
with the failing item's index (R572) and what STATUS 9 adds (R573). -/
def Sender.item (x : Sender) (typ status idx : Nat) (ws : List W32) (last : Bool) : Sender :=
  if status = 0 then
    { x with
      reply := { x.reply with items := x.reply.items ++ [(typ + 0x8000, ws)] }
      next := if last then none else some (idx + 1) }
  else
    let extra : List (Nat × List W32) := if status = 9 then [(0x8001, ws)] else []
    { x with
      reply := { x.reply with status := status, items := x.reply.items ++ [(0x8000, [BitVec.ofNat 32 idx])] ++ extra }
      next := none }

/-- The sender record of a request's port. -/
def State.senderOf (s : State) (p : Port) (n : Nat) : Option Sender :=
  if p = .yz then some s.ctl.yzSender else s.ctl.senders.find? (fun x => x.ident == n)

/-- Replace a sender record. -/
def State.setSender (s : State) (p : Port) (x : Sender) : State :=
  if p = .yz then { s with ctl := { s.ctl with yzSender := x } }
  else { s with ctl := { s.ctl with senders := s.ctl.senders.map (fun y => if y.ident = x.ident then x else y) } }

/-- Store what an item gave and send the reply when the request is over. -/
def State.replyItem (s : State) (p : Port) (x : Sender) (typ status idx : Nat) (ws : List W32) (last : Bool) : State :=
  let y := { x.item typ status idx ws last with waits := 0 }
  let s := s.setSender p y
  if y.next = none then s.send (.reply y.reply) else s

/-- A sender that waits for the gravity check or for a group gets its item's reply (R570, R572); the index of the item is the one
before `next`, or the last one. -/
def State.replyTo (s : State) (p : Port) (x : Sender) (typ status : Nat) (ws : List W32) : State :=
  s.replyItem p x typ status (match x.next with | some k => k - 1 | none => x.reply.items.length) ws (x.next == none)

/-- Every sender that waits for `w` gets its reply. -/
def State.replyWaiting (s : State) (w typ status : Nat) (ws : List W32) : State :=
  let s : State := (s.ctl.senders.filter (fun x => x.waits == w)).foldl (fun (s : State) (x : Sender) => s.replyTo .mgmt x typ status ws) s
  if s.ctl.yzSender.waits = w then s.replyTo .yz s.ctl.yzSender typ status ws else s

end Sys2Proof.Machine
end

