-- ==== Sys2Proof/Machine/Timebase.lean ====
section
/-! DEFINITION. The timebase (chapter 15): steps and epochs, the hardware servo, PTP, Yudizor time transfer, arming a
trigger, captures and the time latch. Firing a trigger is in Machine/Triggers.lean. -/

namespace Sys2Proof.Machine

/-! ### Rate, state and steps -/

/-- The time spent in LOCKED joins the history that HOLDOVER's mean rate is taken from (R356). -/
def State.closeLocked (s : State) : State :=
  if s.fld TB_STAT_STATE = 3 then
    { s with tb := { s.tb with
      lockHist := (s.raw - s.tb.lockSince, s.tb.rate) :: s.tb.lockHist, lockSince := s.raw } }
  else s

/-- Give the rate a new value without moving presented time (R348): the offset takes up the difference exactly. The time spent in LOCKED at
the old rate joins the history. -/
def State.setRate (s : State) (r : Int) : State :=
  let s := s.closeLocked
  let p := s.now
  let t := { s.tb with rate := r }
  { s with tb := { t with offset := p - rateProduct t.raw r } }

/-- Take a servo state, raising event 0x0601 on a change (R356). Start-up step 7 ends when the state first reaches LOCKED
(R357). -/
def State.setServo (s : State) (st : Nat) : State :=
  let old := s.fld TB_STAT_STATE
  if old = st then s
  else
    let s := s.closeLocked
    let s := (s.put TB_STAT_STATE st).emit 0x0601 0 (evArg [(0, 1, st), (1, 1, old)])
    let s := { s with tb := { s.tb with nGood := 0, nBad := 0, lockSince := s.raw } }
    if st = 3 then s.bootStepDone 7 else s

/-- The mean rate of the last 64 s spent in LOCKED, or the last rate when there has been less (R356). -/
def holdMean : Nat → List (Nat × Int) → Int → Nat → Option Int
  | 0, _, _, _ => none
  | _, [], _, _ => none
  | n + 1, (d, r) :: t, acc, left =>
    if d ≥ left then some ((acc + r * left) / ((64 * secU : Nat) : Int))
    else holdMean n t (acc + r * d) (left - d)

/-- Raise LATE and event 0x0604 on a trigger: it fires in the next TCLK cycle (R359, R364). -/
def State.trigLate (s : State) (n : Nat) (t : Trig) : State :=
  let s := { s with tb := { s.tb with trigs := tset (fun _ => Trig.zero) s.tb.trigs n { t with late := true } } }
  (s.put (TB_TRIG_CFG_LATE n) 1).emit 0x0604 n (evArg [(0, 8, ofSigned 64 (s.nowNs + 1))])

/-- What a step of `d` does to a trigger (R359): ABS = 0 moves with the step; ABS = 1 keeps its presented time, and fires
at once, late, when a forward step has passed it. -/
def State.stepTrig (s : State) (d : Int) (n : Nat) : State :=
  let t := tget (fun _ => Trig.zero) s.tb.trigs n
  if t.armed then
    if t.abs then
      if d > 0 ∧ t.time ≤ s.now ∧ t.time > s.now - d then s.trigLate n t else s
    else { s with tb := { s.tb with trigs := tset (fun _ => Trig.zero) s.tb.trigs n { t with time := t.time + d } } }
  else s

/-- The epoch takes a new value, written to the cask first (R358), with event 0x0603 at 2³¹ and at the limit (R361). -/
def State.setEpoch (s : State) (e : Nat) : State :=
  let s := ({ s with cask := { s.cask with epoch := e } }).put TB_EPOCH_EPOCH e
  if e = 0x80000000 then s.emit 0x0603 0 (evArg [(0, 1, 0)])
  else if e = 0xFFFFFFFF then s.emit 0x0603 0 (evArg [(0, 1, 1)])
  else s

/-- A step of `d` in 2⁻¹⁶ ns (R359): presented time moves, triggers and timed pitches follow, event 0x0602 is raised. With
an epoch change the epoch becomes `e`, running channels owe a rebase (R49), and an ACTIVE member racks EPOCH (R422). -/
def State.timeStep (s : State) (d : Int) (e : Option Nat) : State :=
  let s := match e with
    | some e => s.setEpoch e
    | none => s
  let s := { s with tb := { s.tb with offset := s.tb.offset + d } }
  let s := { s with stage := { s.stage with
    pitches := s.stage.pitches.map (fun (p : Pitch) => { p with instant := p.instant + d / (65536 : Int) }) } }
  let s := (tkeys s.tb.trigs).foldl (fun s n => s.stepTrig d n) s
  let s := s.emit 0x0602 0 (evArg [(0, 4, s.fld TB_EPOCH_EPOCH), (4, 8, ofSigned 64 d)])
  if e.isSome then
    let chans := (List.range 16).filter (fun n => (s.chan n).run)
    let s := { s with tb := { s.tb with
      rebase := chans.foldl (fun t n => tset (fun _ => 0) t n (tget (fun _ => 0) t n + d)) s.tb.rebase } }
    s.rack [.epoch (s.fld TB_EPOCH_EPOCH) d s.raw]
  else s

/-! ### The servo (R355, R356) -/

/-- A later acquisition starts: ACQUIRE, integral 0, rate 0 (R355). -/
def State.startAcquire (s : State) (startUp : Bool) : State :=
  let s := (s.setRate 0).setServo 1
  { s with tb := { s.tb with integ := 0, startAcq := startUp, acqRaw := s.raw } }

/-- The rate limit in ppm (R355): RATE_PPM under STEP, at most 100 ppm under SLEW or once the epoch is at its limit. -/
def State.rateLim (s : State) : Nat :=
  let r := s.fld TB_SERVO_RATE_RATE_PPM
  if s.bit TB_CTRL_POLICY ∨ s.fld TB_EPOCH_EPOCH = 0xFFFFFFFF then min r 100 else r

/-- The unit of the servo integral: 2³² · 10⁹ to the ppb. -/
def integUnit : Int := (2 ^ 32 * 1000000000 : Nat)

/-- The proportional-integral law of R355, exact; the rate written is truncated to 2⁻⁴⁸. -/
def State.servoLaw (s : State) (m : Int) (dt : Nat) : State :=
  let lim := ((s.rateLim * 1000 : Nat) : Int) * integUnit
  let integ := clipSym lim (s.tb.integ + ((s.fld TB_SERVO_KI : Nat) : Int) * m * (dt : Int))
  let ppb := clipSym lim (-(((s.fld TB_SERVO_KP : Nat) : Int) * m * (integUnit / 256) + integ))
  let s := { s with tb := { s.tb with integ := integ } }
  s.setRate ((ppb * ((2 ^ 48 : Nat) : Int)).tdiv (integUnit * 1000000000))

/-- The lock counts of R356 for a measurement that was neither a step nor discarded. -/
def State.servoCount (s : State) (m : Int) : State :=
  let lock := s.fld TB_SERVO_LIM_LOCK_NS
  let st := s.fld TB_STAT_STATE
  if st = 2 then
    let n := if m.natAbs ≤ lock then s.tb.nGood + 1 else 0
    let s := { s with tb := { s.tb with nGood := n } }
    if n ≥ 16 then s.setServo 3 else s
  else if st = 3 then
    let n := if m.natAbs > 4 * lock then s.tb.nBad + 1 else 0
    let s := { s with tb := { s.tb with nBad := n } }
    if n ≥ 4 then s.setServo 2 else s
  else s

/-- Whether the device follows upstream steps (R355): a STANDBY, or a Yudizor port as source. -/
def State.followsUpstream (s : State) : Bool := s.isStandby || s.fld TB_CTRL_SRC == 2

/-- The state that a measurement finds or makes before the law (R356): FREERUN starts an acquisition; HOLDOVER goes back
to TRACK, or to LOCKED when it was LOCKED before and |m| ≤ LOCK_NS. -/
def State.servoEnter (s : State) (m : Int) : State :=
  let st := s.fld TB_STAT_STATE
  if st = 0 then s.startAcquire false
  else if st = 4 then
    s.setServo (if s.tb.preHold = 3 ∧ m.natAbs ≤ s.fld TB_SERVO_LIM_LOCK_NS then 3 else 2)
  else s

/-- The servo on a measurement of m ns (R355). -/
def State.servo (s : State) (m : Int) : State :=
  let dt := match s.tb.lastMeas with
    | some r => s.raw - r
    | none => Config.firstDt s.fresh
  let s := if s.tb.lastMeas.isNone then s.draw else s
  let s := { s with tb := { s.tb with lastMeas := some s.raw } }
  let s := s.put TB_PTP_OFS_VALUE (ofSigned 32 m)
  let s := s.servoEnter m
  let big := decide (m.natAbs > s.fld TB_SERVO_LIM_STEP_US * 1000)
  let acq := s.fld TB_STAT_STATE == 1
  if acq ∧ s.tb.startAcq then
    let s := if big ∧ s.fld TB_EPOCH_EPOCH < 0xFFFFFFFF then s.timeStep (-m * 65536) none else s
    let s := s.setServo 2
    { s with tb := { s.tb with startAcq := false } }
  else
    let s := if acq then s.setServo 2 else s
    if big ∧ !s.bit TB_CTRL_POLICY ∧ s.followsUpstream then s
    else if big ∧ !s.bit TB_CTRL_POLICY ∧ s.fld TB_EPOCH_EPOCH < 0xFFFFFFFF then
      s.timeStep (-m * 65536) (some (s.fld TB_EPOCH_EPOCH + 1))
    else (s.servoLaw m dt).servoCount m

/-- The source in TB_CTRL.SRC changed (R355 to R357): 0 is FREERUN with offset and rate kept, another source starts a later
acquisition. -/
def State.srcChanged (s : State) : State :=
  let s := { s with tb := { s.tb with yzSum := 0, yzCnt := 0 } }
  if s.fld TB_CTRL_SRC = 0 then s.setServo 0 else s.startAcquire false

/-- Start-up step 6 ends and step 7 begins (R357, R539): the start-up acquisition, or FREERUN at once with no source. -/
def State.step6Done (s : State) : State :=
  if s.atStep 6 then
    let s := s.bootStepDone 6
    if s.fld TB_CTRL_SRC = 0 then s.bootStepDone 7 else s.startAcquire true
  else s

/-! ### PTP (R350 to R354) -/

/-- Whether a PTP message belongs to the configured MAC and domain while PTP is the source (R351). -/
def State.ptpTaken (s : State) (mac domain : Nat) : Bool :=
  s.fld TB_CTRL_SRC == 1 && s.fld TB_PTP_CFG_MAC == mac && s.fld TB_PTP_CFG_DOMAIN == domain

/-- Whether a message comes from the selected master. -/
def State.fromMaster (s : State) (clock : Nat) : Bool := s.bit TB_STAT_MASTER && s.tb.master == clock

/-- Insert into a rising list. -/
def insertInt (x : Int) : List Int → List Int
  | [] => [x]
  | y :: t => if x ≤ y then x :: y :: t else y :: insertInt x t

/-- The median of a list: the mean of the middle two when their number is even. -/
def median (l : List Int) : Int :=
  let l := l.foldr insertInt []
  let n := l.length
  if n % 2 = 1 then l.getD (n / 2) 0 else (l.getD (n / 2 - 1) 0 + l.getD (n / 2) 0) / 2

/-- One offset measurement (R353) from t2 − t1 − correction; discarded until the first delay exchange completes. -/
def State.ptpMeasure (s : State) (diff : Int) : State :=
  let s := { s with tb := { s.tb with syncDiff := some diff } }
  if s.tb.mpdWin = [] then s
  else s.servo (diff - median s.tb.mpdWin - toSigned 32 (s.fld TB_ASYM_VALUE))

/-- PTP_SYNC_RX (R353): the receive time is t2; a two-step Sync waits for its Follow_Up. -/
def execPtpSyncRx (mac : Fin 17) (domain clock seq : Nat) (twoStep : Bool) (t1 corr : Int) (s : State) :
    Host.Outcome State Fault Refusal :=
  .next (if s.ptpTaken mac domain ∧ s.fromMaster clock then
      if twoStep then { s with tb := { s.tb with pendSync := some (seq, s.nowNs, corr) } }
      else s.ptpMeasure (s.nowNs - t1 - corr)
    else s)

/-- PTP_FOLLOW_UP_RX (R353): completes the two-step Sync it matches. -/
def execPtpFollowUpRx (mac : Fin 17) (domain clock seq : Nat) (t1 corr : Int) (s : State) :
    Host.Outcome State Fault Refusal :=
  .next (if s.ptpTaken mac domain ∧ s.fromMaster clock then
      match s.tb.pendSync with
      | some (q, t2, c) =>
        if q = seq then ({ s with tb := { s.tb with pendSync := none } }).ptpMeasure (t2 - t1 - c - corr) else s
      | none => s
    else s)

/-- PTP_DELAY_RESP_RX (R353): one mean path delay joins the last 8; the interval of Delay_Req is the master's. -/
def execPtpDelayRespRx (mac : Fin 17) (domain clock seq : Nat) (t4 corr : Int) (intervalNs : Nat) (s : State) :
    Host.Outcome State Fault Refusal :=
  .next (if s.ptpTaken mac domain ∧ s.fromMaster clock then
      match s.tb.delayReq, s.tb.syncDiff with
      | some (q, t3), some d =>
        if q = seq then
          let w := ((d + (t4 - t3 - corr)) / 2 :: s.tb.mpdWin).take 8
          let s := { s with tb := { s.tb with delayReq := none, mpdWin := w, delIntNs := intervalNs } }
          s.put TB_PTP_MPD_VALUE (ofSigned 32 (median w))
        else s
      | _, _ => s
    else s)

/-- DELAY_REQ_SEND (R353): at the interval that the master's Delay_Resp states. -/
def execDelayReqSend (seq : Nat) (s : State) : Host.Outcome State Fault Refusal :=
  .next (if s.fld TB_CTRL_SRC = 1 ∧ s.bit TB_STAT_MASTER ∧ s.raw - s.tb.delLast ≥ s.tb.delIntNs * nsU then
      ({ s with tb := { s.tb with delayReq := some (seq, s.nowNs), delLast := s.raw } }).send (.delayReq seq)
    else s)

/-- PTP_ANNOUNCE_RX (R350, R354): the default best master clock algorithm. `key` is the data set in comparison order
(priority1, class, accuracy, variance, priority2, identity, steps removed) as one number, lower is better; a master
qualifies with its second Announce within 4 announce intervals (IEEE 1588). A change of grandmaster raises 0x0606. -/
def execPtpAnnounceRx (mac : Fin 17) (domain clock key intervalNs : Nat) (utc : Int) (s : State) :
    Host.Outcome State Fault Refusal :=
  .next (if s.ptpTaken mac domain then
      let (cnt, last) := tget (fun _ => (0, 0)) s.tb.foreign clock
      let cnt := if cnt > 0 ∧ s.raw - last ≤ 4 * intervalNs * nsU then cnt + 1 else 1
      let s := { s with tb := { s.tb with foreign := tset (fun _ => (0, 0)) s.tb.foreign clock (cnt, s.raw) } }
      if s.fromMaster clock then
        let s := { s with tb := { s.tb with annRaw := s.raw, annIntNs := intervalNs, masterKey := key } }
        s.put TB_UTC_VALUE (ofSigned 32 utc)
      else if cnt ≥ 2 ∧ (!s.bit TB_STAT_MASTER ∨ key < s.tb.masterKey) then
        let changed := s.tb.master ≠ clock
        let s := { s with tb := { s.tb with
          master := clock, masterKey := key, annRaw := s.raw, annIntNs := intervalNs, pendSync := none, delayReq := none } }
        let s := (s.put TB_STAT_MASTER 1).put TB_UTC_VALUE (ofSigned 32 utc)
        if changed then s.emit 0x0606 0 (evArg [(0, 8, clock)]) else s
      else s
    else s)

/-- Enter HOLDOVER from TRACK or LOCKED (R356): the rate is the mean of the last 64 s in LOCKED, the integral freezes. -/
def State.enterHoldover (s : State) : State :=
  let st := s.fld TB_STAT_STATE
  if st = 2 ∨ st = 3 then
    let s := { (s.closeLocked) with tb := { s.closeLocked.tb with preHold := st } }
    let r := (holdMean s.tb.lockHist.length s.tb.lockHist 0 (64 * secU)).getD s.tb.rate
    (s.setRate r).setServo 4
  else s

/-- MASTER_LOST (R354): no Announce from the selected master within ANN_TIMEOUT announce intervals. -/
def execMasterLost (s : State) : Host.Outcome State Fault Refusal :=
  .next (if s.bit TB_STAT_MASTER ∧
        s.raw - s.tb.annRaw ≥ s.fld TB_PTP_CFG_ANN_TIMEOUT * s.tb.annIntNs * nsU then
      (s.put TB_STAT_MASTER 0).enterHoldover
    else s)

/-- ACQ_TIMEOUT (R357): no measurement within ACQ_TIMEOUT seconds; the state becomes FREERUN and start-up continues. -/
def execAcqTimeout (s : State) : Host.Outcome State Fault Refusal :=
  .next (if s.fld TB_STAT_STATE = 1 ∧ s.raw - s.tb.acqRaw ≥ s.fld TB_CTRL_ACQ_TIMEOUT * secU then
      ((({ s with tb := { s.tb with startAcq := false } }).setServo 0)).bootStepDone 7
    else s)

/-! ### Yudizor time transfer (R367, R368) -/

/-- The path delays of a port's last 8 exchanges with one more, and the measurement m of R353 that the stamps of an exchange give (R367): the
upstream marker's t1 and t2 in place of Sync, the device's own t3 and t4 in place of Delay_Req. -/
def State.yzPaths (s : State) (port : Nat) (t1 t2 t3 t4 : Int) : List Int :=
  ((t2 - t1 + (t4 - t3)) / 2 :: tget (fun _ => []) s.tb.yzMpd port).take 8
def State.yzOffset (s : State) (port : Nat) (t1 t2 t3 t4 : Int) : Int :=
  t2 - t1 - median (s.yzPaths port t1 t2 t3 t4) - Config.yzAsym port

/-- YZ_STAMP_EXCHANGE (R367): the ends of a port exchange the stamps of one marker in every 64, in ns: sent upstream and received here, sent
here and received upstream. On the downstream device each exchange gives one measurement m. -/
def execYzStampExchange (port : Fin 16) (t1 t2 t3 t4 : Int) (s : State) : Host.Outcome State Fault Refusal :=
  .next (
    let s := s.send (.stamps port)
    if s.fld TB_CTRL_SRC = 2 ∧ s.fld TB_CTRL_YZ_PORT = port.val then
      let m := s.yzOffset port t1 t2 t3 t4
      let s := { s with tb := { s.tb with yzMpd := tset (fun _ => []) s.tb.yzMpd port (s.yzPaths port t1 t2 t3 t4) } }
      let s := if s.tb.yzCnt = 0 then { s with tb := { s.tb with yzWin := s.raw } } else s
      { s with tb := { s.tb with yzSum := s.tb.yzSum + m, yzCnt := s.tb.yzCnt + 1 } }
    else s)

/-- YZ_TIME_MEASURE (R367): the servo takes the mean of the measurements over each 1 ms as one measurement; a device that
locks takes the upstream epoch (R368). -/
def execYzTimeMeasure (upEpoch : Nat) (s : State) : Host.Outcome State Fault Refusal :=
  .next (if s.fld TB_CTRL_SRC = 2 ∧ s.tb.yzCnt > 0 ∧ s.raw - s.tb.yzWin ≥ msU then
      let m := s.tb.yzSum / (s.tb.yzCnt : Int)
      let locked := s.fld TB_STAT_STATE = 3
      let s := ({ s with tb := { s.tb with yzSum := 0, yzCnt := 0 } }).servo m
      if s.fld TB_STAT_STATE = 3 ∧ ¬ locked ∧ s.fld TB_EPOCH_EPOCH ≠ upEpoch then s.setEpoch upEpoch else s
    else s)

/-- UPSTREAM_STEP_RX (R368): each upstream step is applied with its epoch change at the same instant under R359. -/
def execUpstreamStepRx (epoch : Nat) (step : Int) (s : State) : Host.Outcome State Fault Refusal :=
  .next (if s.fld TB_CTRL_SRC = 2 then s.timeStep step (some epoch) else s)

/-! ### Triggers, captures, time latch (R363 to R370) -/

/-- Whether an arming write is refused (R363): periodic with PER_NS outside 1,000 to 4,000,000,000. -/
def State.armRefused (s : State) (n : Nat) (v : W32) : Bool :=
  let per := s.fld (TB_TRIG_PER_NS_PERIOD n)
  fieldGet v 0 1 == 1 && fieldGet v 1 1 == 1 && (decide (per < 1000) || decide (per > 4000000000))

/-- The trigger that a TB_TRIG_CFG write with ARM = 1 puts in force from its registers (R363). -/
def State.armed (s : State) (n : Nat) (v : W32) : Trig :=
  let frac := s.fld (TB_TRIG_PER_FRAC_PERIOD n)
  let sec := s.pairVal (TB_TRIG_S_LO n) (TB_TRIG_S_HI n)
  { armed := true, periodic := fieldGet v 1 1 = 1, abs := fieldGet v 2 1 = 1, late := false,
    time := ((sec * 1000000000 + s.fld (TB_TRIG_NS_TIME n) % 2 ^ 30 : Nat) : Int) * 65536, rem := 0,
    perNs := s.fld (TB_TRIG_PER_NS_PERIOD n), perNum := frac / 65536,
    perDen := if frac % 65536 = 0 then 1 else frac % 65536 }

/-- What a write of TB_TRIG_CFG does after its fields: ARM = 1 arms, and a time less than 1 µs ahead is late (R364);
ARM = 0 disarms. -/
def State.trigCfgEffect (s : State) (n : Nat) (v : W32) : State :=
  if fieldGet v 0 1 = 1 then
    let t := s.armed n v
    if t.time < s.now + usU then s.trigLate n t
    else { s with tb := { s.tb with trigs := tset (fun _ => Trig.zero) s.tb.trigs n t } }
  else { s with tb := { s.tb with trigs := tset (fun _ => Trig.zero) s.tb.trigs n Trig.zero } }

/-- A write of TB_TRIG_CFG: refused arming fails as an access (R363); device-owned triggers ignore writes (R365). -/
def State.trigCfgWrite (s : State) (p : Port) (n : Nat) (v : W32) : State :=
  if n < 32 ∧ s.armRefused n v ∧ s.writeStatus p (TB_TRIG_CFG n) v = 0 then s.accessFail p (TB_TRIG_CFG n) true 4
  else s.portWrite p (TB_TRIG_CFG n) v (fun s => if n < 32 then s.trigCfgEffect n v else s)

/-- TRIGGER_ARM (R363): a write of TB_TRIG_CFG of trigger n. -/
def execTriggerArm (p : Port) (n : Fin 64) (v : W32) (s : State) : Host.Outcome State Fault Refusal :=
  .next (s.trigCfgWrite p n v)

/-- A capture unit takes a record of presented time (R366): an unread record of a user unit is overrun, with event 0x0605
at most once per second per unit. Device-owned units never overrun. -/
def State.capture (s : State) (n : Nat) : State :=
  let c := tget (fun _ => CapRec.zero) s.tb.caps n
  let s := if n < 16 ∧ c.valid then (s.put (TB_CAP_CFG_OVERRUN n) 1).emitLim 0x0605 n 1 0 else s
  let r : CapRec := ⟨true, s.nowNs, s.fld TB_EPOCH_EPOCH⟩
  let s := { s with tb := { s.tb with caps := tset (fun _ => CapRec.zero) s.tb.caps n r } }
  if 32 ≤ n then s.rack [.capture n r.timeNs r.epoch] else s

/-- CAPTURE_EVENT (R366): a unit's source event. A user unit takes it only from its configured source: a timing pin that
is an input with the configured edge (src 1), a lane's alignment marker (2) or loss of signal (3). Units 16 to 63 serve
the device's own sources. -/
def execCaptureEvent (n : Fin 64) (src pin lane : Nat) (rising : Bool) (s : State) : Host.Outcome State Fault Refusal :=
  .next (
    let u := n.val
    let edge := s.fld (TB_CAP_CFG_EDGE u)
    let edgeOk := edge == 2 || (edge == 0 && rising) || (edge == 1 && !rising)
    let ok := decide (u ≥ 16) ||
      (s.fld (TB_CAP_CFG_SRC u) == src &&
        ((src == 1 && s.fld (TB_CAP_CFG_PIN u) == pin && edgeOk && !s.bit (TB_TIO_CFG_OUT pin)) ||
         (src == 2 && s.fld (TB_CAP_CFG_LANE u) == lane) || src == 3))
    if ok then s.capture u else s)

/-- CAPTURE_READ (R370): a read of TB_CAP_EPOCH of unit n clears VALID. -/
def execCaptureRead (p : Port) (n : Fin 64) (s : State) : Host.Outcome State Fault Refusal :=
  .next (
    let s := s.portRead p (TB_CAP_EPOCH n)
    if s.ctl.failed then s
    else
      let c := tget (fun _ => CapRec.zero) s.tb.caps n
      { s with tb := { s.tb with caps := tset (fun _ => CapRec.zero) s.tb.caps n { c with valid := false } } })

/-- TIME_LATCH_READ (R370): a read of TB_TIME_S_LO latches all four words from one TCLK cycle. -/
def execTimeLatchRead (p : Port) (s : State) : Host.Outcome State Fault Refusal :=
  .next (
    let s' := s.portRead p TB_TIME_S_LO
    if s'.ctl.failed then s' else { s' with tb := { s'.tb with latch := s.now, latched := true } })

/-- A timing pin goes to its inactive level (R366). -/
def State.tioEnd (s : State) (i : Nat) : State :=
  ({ s with tb := { s.tb with tioOn := tset (fun _ => 0) s.tb.tioOn i 0 } }).send (.pin i (s.bit (TB_TIO_CFG_POL i)))

/-- A timing pin's pulse starts (R366): high, or low with POL = 1. `tioOn` holds the raw start plus 1. -/
def State.tioStart (s : State) (i : Nat) : State :=
  ({ s with tb := { s.tb with tioOn := tset (fun _ => 0) s.tb.tioOn i (s.raw + 1) } }).send
    (.pin i (!s.bit (TB_TIO_CFG_POL i)))

/-- TIO_PULSE_END (R366): a running output pulse ends after WIDTH_US. -/
def execTioPulseEnd (i : Fin 8) (s : State) : Host.Outcome State Fault Refusal :=
  .next (
    let on := tget (fun _ => 0) s.tb.tioOn i
    if on > 0 ∧ s.raw + 1 - on ≥ s.fld (TB_TIO_CFG_WIDTH_US i) * usU then s.tioEnd i else s)

end Sys2Proof.Machine
end

