-- ==== Sys2Proof/Machine/Lanes.lean ====
section
/-! DEFINITION. Serial lanes and Ethernet (chapter 16): bring-up, link loss, figures of merit, eye scan. A link is a MAC m
(key m) or a Yudizor port p (key 16 + p). -/

namespace Sys2Proof.Machine

/-! ### Links and lanes -/

/-- The bring-up of a link and of a lane. -/
def State.link (s : State) (k : Nat) : LinkX := tget (fun _ => LinkX.zero) s.phy.links k
def State.setLink (s : State) (k : Nat) (x : LinkX) : State :=
  { s with phy := { s.phy with links := tset (fun _ => LinkX.zero) s.phy.links k x } }
def State.laneX (s : State) (l : Nat) : LaneX := tget (fun _ => LaneX.zero) s.phy.lanes l
def State.setLaneX (s : State) (l : Nat) (x : LaneX) : State :=
  { s with phy := { s.phy with lanes := tset (fun _ => LaneX.zero) s.phy.lanes l x } }

/-- A Yudizor port. -/
def State.yzp (s : State) (p : Nat) : YzPort := tget (fun _ => YzPort.zero) s.yz.ports p
def State.setYzp (s : State) (p : Nat) (x : YzPort) : State :=
  { s with yz := { s.yz with ports := tset (fun _ => YzPort.zero) s.yz.ports p x } }

/-- The lanes of a link (R373, R376): a MAC's consecutive lanes, or a bundle's from lane 4q upward, of the width in force. -/
def State.linkLanes (s : State) (k : Nat) : List Nat :=
  if k < 16 then (List.range (2 ^ s.fld (LNK_MAC_CFG_LANES k))).map (· + s.fld (LNK_MAC_CFG_FIRST_LANE k))
  else
    let p := k - 16
    let w := if s.fld (YZ_PORT_STAT_STATE p) ≤ 1 then s.fld (YZ_PORT_CFG_WIDTH p) else s.fld (YZ_PORT_STAT_WIDTH p)
    (List.range (2 ^ w)).map (· + 4 * p)

/-- The quads of a link. -/
def State.linkQuads (s : State) (k : Nat) : List Nat := ((s.linkLanes k).map (· / 4)).eraseDups

/-- Whether a link is enabled: its MAC or port and its quads, with the quads' protocol. -/
def State.linkEn (s : State) (k : Nat) : Bool :=
  (if k < 16 then s.bit (LNK_MAC_CFG_EN k) else s.bit (YZ_PORT_CFG_EN (k - 16))) &&
  (s.linkQuads k).all (fun q => s.bit (LNK_QUAD_CFG_EN q) && s.fld (LNK_QUAD_CFG_PROTO q) == (if k < 16 then 0 else 1))

/-- The enabled link that a lane belongs to. -/
def State.linkOf (s : State) (l : Nat) : Option Nat :=
  (List.range 32).find? (fun k => s.linkEn k && (s.linkLanes k).contains l)

/-- The RATE code of a MAC's lanes (R374). -/
def State.macRate (s : State) (m : Nat) : Nat :=
  let lanes := s.fld (LNK_MAC_CFG_LANES m)
  match s.fld (LNK_MAC_CFG_SPEED m) with
  | 0 => 2
  | 1 => 4
  | 2 => 6
  | 3 => if lanes = 2 then 4 else if lanes = 1 then 6 else 8
  | 4 => if lanes = 2 then 6 else 8
  | 5 => if lanes = 3 then 6 else 8
  | _ => 8

/-- The symbol rate of a RATE code in kBd (R372). -/
def rateKBd : Nat → Nat
  | 1 => 1250000 | 2 => 10312500 | 3 => 12500000 | 4 => 25781250 | 5 => 28125000 | 6 => 26562500 | 7 => 28125000
  | 8 => 53125000 | 9 => 56250000 | _ => 0

/-- SKEW of a delay in ps at a RATE code: symbols, the half rounded up, within the field (R383, LNK_LANE_STAT). -/
def skewSymbols (ps rate : Nat) : Nat := min ((2 * ps * rateKBd rate + 1000000000) / 2000000000) 4095

/-- The thermal zone of a quad (R526). -/
def quadZone (q : Nat) : Nat := if q < 8 then 8 else 9

/-- A zone's T_cold and a limit, signed °C (R527, R530). -/
def State.zoneCold (s : State) (z : Nat) : Int := toSigned 8 (s.fld (THM_ZONE_STAT_T_COLD z))
def State.belowLimit (s : State) (z : Nat) : Bool :=
  decide (s.zoneCold z < toSigned 8 (s.fld (THM_ZONE_LIM_A_COLD_LIMIT z)))
def State.reachedWarn (s : State) (z : Nat) : Bool :=
  decide (s.zoneCold z ≥ toSigned 8 (s.fld (THM_ZONE_LIM_A_COLD_WARN z)))

/-! ### Eye scan abort (R390) -/

/-- A running point is aborted: ABORTED, event 0x0805. -/
def State.esAbort (s : State) (l why : Nat) : State :=
  if s.bit (LNK_ES_CTRL_RUN l) then
    ((s.put (LNK_ES_CTRL_RUN l) 0).put (LNK_ES_STAT_ABORTED l) 1).emit 0x0805 l (evArg [(0, 1, why)])
  else s

/-! ### Bring-up (R377 to R379) -/

/-- Give every lane of a link a STATE. -/
def State.lanesState (s : State) (k st : Nat) : State :=
  (s.linkLanes k).foldl (fun s l => s.put (LNK_LANE_STAT_STATE l) st) s

/-- The lanes of a link move to a RATE code. -/
def State.lanesRate (s : State) (k r : Nat) : State :=
  let s := (s.linkLanes k).foldl (fun s l =>
    (s.put (LNK_LANE_STAT_RATE l) r).put (LNK_LANE_STAT_PAM4 l) (b2n (decide (r ≥ 6)))) s
  (s.linkQuads k).foldl (fun s q => s.put (LNK_QUAD_STAT_RATE q) r) s

/-- Start-up step 6 ends when every enabled link is up or has failed once (R381). -/
def State.step6Check (s : State) : State :=
  if s.atStep 6 ∧ ((List.range 32).all (fun k => !s.linkEn k || (s.link k).tried)) then s.step6Done else s

/-- The device-side effect of a MAC that goes down or restarts: no link, egress stopped. -/
def State.macOff (s : State) (m : Nat) : State := s.put (LNK_MAC_STAT_LINK m) 0

/-- A bring-up step fails (R378): the lanes wait for the retry. -/
def State.linkFail (s : State) (k : Nat) : State :=
  let s := s.setLink k { s.link k with step := 0, failRaw := s.raw + 1, tried := true }
  let s := s.lanesState k 4
  let s := if k < 16 then s else (s.put (YZ_PORT_STAT_STATE (k - 16)) 6).put (YZ_PORT_STAT_UP (k - 16)) 0
  s.step6Check

/-- A bundle comes up or is again up: its lanes, its port, event 0x0C01 with the RATE code and the peer (R377, R416). -/
def State.bundleUp (s : State) (p : Nat) : State :=
  let k := 16 + p
  let r := (s.link k).prev
  let s := s.lanesState k 3
  let s := ((s.put (YZ_PORT_STAT_RATE p) r).put (YZ_PORT_STAT_STATE p) 4).put (YZ_PORT_STAT_UP p) 1
  let s := s.setLink k { s.link k with step := 0, tried := true, back := false, low := false, done := [] }
  let y := s.yzp p
  let s := s.setYzp p { y with ackRaw := s.raw, replays := 0, winRaw := s.raw, winCnt := 0, winBad := 0, downRaw := 0 }
  (s.emit 0x0C01 p (evArg [(0, 1, 1), (1, 1, r), (4, 2, s.fld (YZ_PORT_STAT_PEER p))])).step6Check

/-- Step 4 of a bundle: the next RATE code that both ends support, unless the zone is cold; none left: step 5. -/
def State.bundleNext (s : State) (p : Nat) : State :=
  let k := 16 + p
  let x := s.link k
  match x.rates with
  | [] => s.bundleUp p
  | r :: t =>
    if s.belowLimit (quadZone p) then s.bundleUp p
    else
      let s := s.setLink k { x with step := 4, rates := t, rate := r, done := [], low := false, back := false }
      ((s.lanesRate k r).lanesState k 2).put (YZ_PORT_STAT_STATE p) 3

/-- A rate failed in step 4 (R378): back to the previous rate, to train there again, with event 0x0803. -/
def State.bundleBack (s : State) (p : Nat) : State :=
  let k := 16 + p
  let x := s.link k
  let s := s.setLink k { x with rates := [], rate := x.prev, done := [], low := false, back := true }
  let s := s.lanesRate k x.prev
  s.emit 0x0803 p (evArg [(0, 1, x.rate), (1, 1, x.prev)])

/-- The lanes of a MAC move to its line rate, and train when TRAIN = 1 (steps 2 and 3). -/
def State.macRateStep (s : State) (m : Nat) : State :=
  let s := (s.lanesRate m (s.macRate m)).lanesState m 2
  s.setLink m { s.link m with step := if s.bit (LNK_MAC_CFG_TRAIN m) then 3 else 4, rate := s.macRate m, done := [] }

/-- Step 1 is done: the quad PLLs are locked. A bundle transmits at 1.25 Gb/s; a MAC negotiates, or moves to its rate. -/
def State.linkLocked (s : State) (k : Nat) : State :=
  if k < 16 then (if s.bit (LNK_MAC_CFG_AN k) then s else s.macRateStep k)
  else
    let s := s.lanesRate k 1
    s.setLink k { s.link k with step := 2, rate := 1, prev := 1 }

/-- Whether every quad of a link is locked. -/
def State.linkPll (s : State) (k : Nat) : Bool := (s.linkQuads k).all (fun q => s.bit (LNK_QUAD_STAT_PLL_LOCK q))

/-- Every bring-up starts at step 1 (R377). It waits for a clock that failed (R511); a cold zone refuses it (R379). -/
def State.linkStart (s : State) (k : Nat) : State :=
  let s := (s.linkLanes k).foldl (fun s l => s.esAbort l 1) s
  let x := s.link k
  let s := if k < 16 then s.macOff k else (s.put (YZ_PORT_STAT_UP (k - 16)) 0).put (YZ_PORT_STAT_STATE (k - 16)) 1
  if (s.linkQuads k).any (fun q => s.phy.idle.contains q) then s.setLink k { LinkX.zero with hold := true, tried := x.tried }
  else if (s.linkQuads k).any (fun q => s.belowLimit (quadZone q)) then
    let s := (s.setLink k { LinkX.zero with cold := true, tried := x.tried }).lanesState k 5
    if x.cold then s
    else
      let q := (s.linkQuads k).headD 0
      s.emit 0x0804 q (evArg [(0, 1, quadZone q)])
  else
    let s := s.setLink k { LinkX.zero with step := 1, tried := x.tried }
    let s := s.cnt (LNK_LANE_CNT_BRINGUP_COUNT ((s.linkLanes k).headD 0)) 1
    let s := (s.linkLanes k).foldl (fun s l =>
      ((s.put (LNK_LANE_STAT_CDR_LOCK l) 0).put (LNK_LANE_STAT_ALIGNED l) 0).put (LNK_LANE_STAT_STATE l) 1) s
    if s.linkPll k then s.linkLocked k else s

/-- A link that is taken out of service: its lanes are off. -/
def State.linkStop (s : State) (k : Nat) (lanes : List Nat) : State :=
  let s := lanes.foldl (fun s l => (s.esAbort l 1).wr (LNK_LANE_STAT l) 0) s
  let s := s.setLink k LinkX.zero
  if k < 16 then s.macOff k else (s.setYzp (k - 16) YzPort.zero).wr (YZ_PORT_STAT (k - 16)) 0

/-- Refused bring-ups start when the zone reaches COLD_WARN (R379). A bundle that is stepping up in a zone below COLD_LIMIT tries no
further rate: the step in progress completes, and it comes up at the highest rate reached. -/
def State.coldStarts (s : State) : State :=
  (List.range 32).foldl (fun s k =>
    if (s.link k).step = 4 ∧ (s.link k).rates ≠ [] ∧ (s.linkQuads k).any (fun q => s.belowLimit (quadZone q)) then
      s.setLink k { s.link k with rates := [] }
    else if (s.link k).cold ∧ ((s.linkQuads k).all (fun q => s.reachedWarn (quadZone q))) then s.linkStart k else s) s

/-- Start-up step 6 (R381): every enabled link at once. -/
def State.lanesStart (s : State) : State :=
  let s := { s with phy := { s.phy with step6 := s.raw } }
  let s := (List.range 32).foldl (fun s k => if s.linkEn k then s.linkStart k else s) s
  s.step6Check

/-! ### The commands of the bring-up -/

/-- A lane's test functions run once its quad's PLL has locked (R619). -/
def State.tstRun (s : State) (l : Nat) : State :=
  (s.put (TST_LANE_STAT_GEN_ON l) (s.fld (TST_LANE_GEN_EN l))).put (TST_LANE_STAT_CHK_ON l) (s.fld (TST_LANE_CHK_EN l))

/-- Whether a lane has a test function enabled (R619). -/
def State.tstOn (s : State) (l : Nat) : Bool :=
  s.bit (TST_LANE_GEN_EN l) || s.bit (TST_LANE_CHK_EN l) || s.fld (TST_LANE_LOOP_MODE l) != 0

/-- QUAD_PLL_LOCKED (R377, R506, R619): an enabled quad's LC PLL locks; bring-ups in step 1 whose quads are now all locked go on. -/
def execQuadPllLocked (q : Fin 16) (s : State) : Host.Outcome State Fault Refusal :=
  .next (if s.bit (LNK_QUAD_CFG_EN q) ∧ !s.bit (LNK_QUAD_STAT_PLL_LOCK q) ∧ !s.phy.idle.contains q.val then
      let s := s.put (LNK_QUAD_STAT_PLL_LOCK q) 1
      let s : State := ((List.range 4).filter (fun i => s.tstOn (4 * q + i))).foldl (fun (s : State) i => s.tstRun (4 * q + i)) s
      (List.range 32).foldl (fun s k =>
        if (s.link k).step = 1 ∧ (s.linkQuads k).contains q.val ∧ s.linkPll k then s.linkLocked k else s) s
    else s)

/-- AUTO_NEGOTIATION_DONE (R377): Clause 73 ends; the lanes move to the line rate, or the bring-up fails. -/
def execAutoNegotiationDone (m : Fin 16) (ok : Bool) (s : State) : Host.Outcome State Fault Refusal :=
  .next (if (s.link m).step = 1 ∧ s.bit (LNK_MAC_CFG_AN m) ∧ s.linkPll m then
      if ok then s.macRateStep m else s.linkFail m
    else s)

/-- CDR_LOCKED (R377): clock and data recovery of a lane that runs. -/
def execCdrLocked (l : Fin 64) (s : State) : Host.Outcome State Fault Refusal :=
  .next (if s.fld (LNK_LANE_STAT_RATE l) ≠ 0 then
      (s.put (LNK_LANE_STAT_CDR_LOCK l) 1).put (LNK_LANE_STAT_SIGNAL l) 1
    else s)

/-- The lanes of a link are aligned: ALIGNED, and SKEW of each delay in ps behind the earliest lane. -/
def State.lanesAlign (s : State) (k : Nat) (delays : List Nat) : State :=
  ((s.linkLanes k).zip delays).foldl (fun s (l, d) =>
    (s.put (LNK_LANE_STAT_ALIGNED l) 1).put (LNK_LANE_STAT_SKEW l) (skewSymbols d (s.fld (LNK_LANE_STAT_RATE l)))) s

/-- ALIGNMENT_LOCKED (R383, R384): markers of link k are found on lanes whose clock recovery is locked. A bundle tolerates
40 ns; a larger skew fails step 2. `rxDly` is the receive delay of a MAC, held until the next bring-up. -/
def execAlignmentLocked (k : Fin 32) (delays : List Nat) (rxDly : Nat) (s : State) : Host.Outcome State Fault Refusal :=
  .next (
    let x := s.link k
    let ready := s.linkEn k && decide (delays.length = (s.linkLanes k).length) &&
      (s.linkLanes k).all (fun l => s.bit (LNK_LANE_STAT_CDR_LOCK l))
    if !ready then s
    else if k.val < 16 then
      if x.step = 4 then (s.lanesAlign k delays).put (LNK_MAC_RX_DLY_DELAY k) rxDly else s
    else if delays.any (fun d => decide (d > 40000)) then (if x.step = 2 then s.linkFail k else s)
    else
      let s := s.lanesAlign k delays
      if x.step = 2 then
        let s := (s.setLink k { x with step := 3 }).put (YZ_PORT_STAT_STATE (k - 16)) 2
        let s := s.put (YZ_PORT_STAT_WIDTH (k - 16)) (s.fld (YZ_PORT_CFG_WIDTH (k - 16)))
        let y := s.yzp (k - 16)
        s.setYzp (k - 16) { y with peerCap := false, capRaw := 0, rates := [] }
      else s)

/-- A figure of merit of a lane: FOM, and FOM_LOW since the last read. -/
def State.setFom (s : State) (l fom : Nat) : State :=
  let s := s.put (LNK_LANE_FOM_FOM l) fom
  s.put (LNK_LANE_FOM_FOM_LOW l) (min (s.fld (LNK_LANE_FOM_FOM_LOW l)) fom)

/-- LANE_TRAINING_DONE (R377, R378): training of a lane ends with a figure of merit. When every lane of a bundle has ended, it
goes on, or back to the previous rate; a fall-back that ends brings it up there. -/
def execLaneTrainingDone (l : Fin 64) (ok : Bool) (fom : Fin 256) (s : State) : Host.Outcome State Fault Refusal :=
  .next (match s.linkOf l with
    | none => s
    | some k =>
      let x := s.link k
      if k < 16 then
        if x.step ≠ 3 ∨ x.done.contains l.val then s
        else
          let s := s.setFom l fom
          if !ok then s.linkFail k
          else
            let d := l.val :: x.done
            s.setLink k { x with done := d, step := if d.length = (s.linkLanes k).length then 4 else 3 }
      else if x.step ≠ 4 ∨ x.done.contains l.val then s
      else
        let s := s.setFom l fom
        let low := x.low || !ok || decide (fom.val < s.fld (LNK_LANE_FOM_FOM_MIN l))
        let x := { x with done := l.val :: x.done, low := low }
        let s := s.setLink k x
        if x.done.length < (s.linkLanes k).length then s
        else if x.back then (if ok then s.bundleUp (k - 16) else s.linkFail k)
        else if low then s.bundleBack (k - 16)
        else (s.setLink k { x with prev := x.rate }).bundleNext (k - 16))

/-- LINK_UP (R377 step 5): the PCS of a MAC reports no local fault. -/
def execLinkUp (m : Fin 16) (txDly : Nat) (s : State) : Host.Outcome State Fault Refusal :=
  .next (
    let x := s.link m
    let ready := decide (x.step = 4) && (s.linkLanes m).all (fun l => s.bit (LNK_LANE_STAT_CDR_LOCK l)) &&
      ((s.linkLanes m).length == 1 || (s.linkLanes m).all (fun l => s.bit (LNK_LANE_STAT_ALIGNED l)))
    if ready then
      let s := (s.setLink m { x with step := 0, tried := true }).lanesState m 3
      let s := ((s.put (LNK_MAC_STAT_LINK m) 1).put (LNK_MAC_STAT_LOCAL_FAULT m) 0).put (LNK_MAC_TX_DLY_DELAY m) txDly
      (s.emit 0x0801 m (evArg [(0, 1, 1)])).step6Check
    else s)

/-- BRINGUP_RETRY (R378): 100 ms after a failed Ethernet step, 1 s after a failed Yudizor start. -/
def execBringupRetry (k : Fin 32) (s : State) : Host.Outcome State Fault Refusal :=
  .next (
    let x := s.link k
    if x.failRaw > 0 ∧ s.linkEn k ∧ s.raw + 1 - x.failRaw ≥ (if k.val < 16 then 100 else 1000) * msU then s.linkStart k
    else s)

/-- LANE_STEP_TIMEOUT (R381): start-up step 6 ends after 10 s. -/
def execLaneStepTimeout (s : State) : Host.Outcome State Fault Refusal :=
  .next (if s.atStep 6 ∧ s.raw - s.phy.step6 ≥ 10 * secU then s.step6Done else s)

/-- A MAC's link goes down (R380): its egress stops, event 0x0801 with the cause, and bring-up restarts. -/
def State.macDown (s : State) (m cause : Nat) : State :=
  if s.bit (LNK_MAC_STAT_LINK m) then
    let s := s.put (LNK_MAC_STAT_LOCAL_FAULT m) (b2n (cause == 4))
    ((s.macOff m).emit 0x0801 m (evArg [(0, 1, 0), (1, 1, cause)])).linkStart m
  else s

/-- LINK_DOWN (R380): cause 1 block lock, 2 alignment, 3 FEC, 4 local fault. -/
def execLinkDown (m : Fin 16) (cause : Fin 4) (s : State) : Host.Outcome State Fault Refusal :=
  .next (s.macDown m (cause + 1))

/-! ### Figure of merit (R385 to R387) -/

/-- clip(floor(−16 · log10(n / d)), 0, 255): the greatest k with (n / d)¹⁶ ≤ 10⁻ᵏ. -/
def fomOf (n d : Nat) : Nat → Nat
  | 0 => 0
  | k + 1 => if n ^ 16 * 10 ^ (k + 1) ≤ d ^ 16 then k + 1 else fomOf n d k

/-- ADAPT_STEP (R386): the step under judgement is kept when the figure of merit is not lower, else reverted; a next step
starts unless adaptation is off, frozen, or a point is measured. -/
def State.adapt (s : State) (l fom : Nat) (next : Option Nat) : State :=
  let x := s.laneX l
  let x := match x.trial with
    | some (old, f) => { x with coef := if fom < f then old else x.coef, trial := none }
    | none => x
  let free := s.bit (LNK_LANE_ADAPT_EN l) && !s.bit (LNK_LANE_ADAPT_FREEZE l) && !s.bit (LNK_ES_CTRL_RUN l)
  match next, free with
  | some c, true => s.setLaneX l { x with coef := c, trial := some (x.coef, fom) }
  | _, _ => s.setLaneX l x

/-- FOM_LOW (R387): 8 windows in a row below FOM_MIN raise 0x0802 once, and again when the lane recovers. -/
def State.fomLow (s : State) (l fom : Nat) : State :=
  let x := s.laneX l
  if fom < s.fld (LNK_LANE_FOM_FOM_MIN l) then
    let s := s.setLaneX l { x with lowRun := min (x.lowRun + 1) 8, lowEv := x.lowEv || decide (x.lowRun + 1 ≥ 8) }
    if !x.lowEv ∧ x.lowRun + 1 ≥ 8 then s.emit 0x0802 l (evArg [(0, 1, 0), (1, 1, fom)]) else s
  else
    let s := s.setLaneX l { x with lowRun := 0, lowEv := false }
    if x.lowEv then s.emit 0x0802 l (evArg [(0, 1, 1), (1, 1, fom)]) else s

/-- FOM_WINDOW_END (R385): the window of 2²⁴ symbols ends with an estimated bit error ratio num / den; `next` is the adaptation
step that the receiver makes after it. -/
def execFomWindowEnd (l : Fin 64) (num den : Nat) (next : Option Nat) (s : State) : Host.Outcome State Fault Refusal :=
  .next (if s.fld (LNK_LANE_STAT_RATE l) = 0 then s
    else
      let fom := if num = 0 then Config.fomZero l s.fresh % 256 else fomOf num den 255
      let s := if num = 0 then s.draw else s
      let s := s.setFom l fom
      let s := if fom < s.fld (LNK_LANE_FOM_FOM_MIN l) then s.esAbort l 0 else s
      (s.fomLow l fom).adapt l fom next)

/-! ### Eye scan (R388, R389) -/

/-- What RUN = 1 does: one point starts unless one is measured. -/
def State.esRun (s : State) (l : Nat) (v : W32) : State :=
  if fieldGet v 0 1 = 1 ∧ !s.bit (LNK_ES_CTRL_RUN l) then (s.put (LNK_ES_CTRL_RUN l) 1).put (LNK_ES_STAT_DONE l) 0 else s

/-- EYE_SCAN_RUN (R388): a write of LNK_ES_CTRL. -/
def execEyeScanRun (p : Port) (l : Fin 64) (v : W32) (s : State) : Host.Outcome State Fault Refusal :=
  .next (s.portWrite p (LNK_ES_CTRL l) v (fun s => s.esRun l v))

/-- EYE_SCAN_DONE (R388): the comparison of 2^(DWELL + 10) bits ends with its disagreements. -/
def execEyeScanDone (l : Fin 64) (errors : Nat) (s : State) : Host.Outcome State Fault Refusal :=
  .next (if s.bit (LNK_ES_CTRL_RUN l) then
      let s := (s.put (LNK_ES_CTRL_RUN l) 0).put (LNK_ES_STAT_DONE l) 1
      (s.put (LNK_ES_SAMPLES_COUNT l) (2 ^ s.fld (LNK_ES_DWELL_DWELL l))).put (LNK_ES_ERRORS_COUNT l) errors
    else s)

end Sys2Proof.Machine
end

