-- ==== Sys2Proof/Machine/Yudizor.lean ====
section
/-! DEFINITION. Yudizor links (chapter 17): flits, credits, sequence numbers and replay, the capability exchange, retraining
and loss. -/

namespace Sys2Proof.Machine

/-! ### Flits (R393) -/

/-- The fields of a 128-byte flit; none when its CRC-32C fails (R393). -/
def flitOf (bs : List Byte) : Option YzFlit :=
  if bs.length ≠ 128 ∨ ofLeBytes (bs.drop 124) ≠ (crc32c (bs.take 124)).toNat then none
  else
    let h := ofLeBytes (bs.take 8)
    let bits (lo n : Nat) : Nat := (h >>> lo) % 2 ^ n
    some { typ := bits 61 3, vc := bits 58 3, sop := bits 57 1 = 1, eop := bits 56 1 = 1, seq := bits 44 12, ack := bits 32 12,
           nak := bits 31 1 = 1, crdVc := bits 28 3, crd := bits 16 12, payload := (bs.drop 8).take (min (bits 9 7) 116) }

/-- The 128 bytes of a flit (R393). LEN is 116 but in the last flit of a message; bytes 8 to 123 beyond the payload are free. -/
def flitBytes (f : YzFlit) : List Byte :=
  let len := if f.typ = 1 ∧ f.eop then f.payload.length else 116
  let head := f.typ * 2 ^ 61 + f.vc * 2 ^ 58 + b2n f.sop * 2 ^ 57 + b2n f.eop * 2 ^ 56 + f.seq * 2 ^ 44 + f.ack * 2 ^ 32 +
    b2n f.nak * 2 ^ 31 + f.crdVc * 2 ^ 28 + f.crd * 2 ^ 16 + len * 2 ^ 9
  let bs := leBytes 8 head ++ f.payload ++ (List.range (116 - f.payload.length)).map Config.flitPad
  bs ++ leBytes 4 (crc32c bs).toNat

/-- The receive buffer of a virtual channel in flits (R395). -/
def vcBuf (vc : Nat) : Nat := [64, 512, 64, 256, 1024, 1536, 128, 64].getD vc 0

/-! ### Sending (R396 to R398) -/

/-- Show how many flits are unacknowledged. -/
def State.yzOut (s : State) (p : Nat) : State := s.put (YZ_PORT_SEQ_OUTSTANDING p) (s.yzp p).replay.length

/-- A flit leaves: it carries the ACK of its direction (R398) and the cumulative credits of one virtual channel, VC 0 to VC 7 in
turn, flit after flit (R396). -/
def State.yzEmit (s : State) (p typ vc : Nat) (sop eop : Bool) (seq : Nat) (nak : Bool) (payload : List Byte) : State :=
  let y := s.yzp p
  (s.setYzp p { y with crdVc := (y.crdVc + 1) % 8 }).send (.flit p
    { typ := typ, vc := vc, sop := sop, eop := eop, seq := seq, ack := y.expect, nak := nak, crdVc := y.crdVc,
      crd := tget (fun _ => 0) y.retCrd y.crdVc, payload := payload })

/-- The idle flit that a port would send next. -/
def State.idleFlit (s : State) (p : Nat) (nak : Bool) : YzFlit :=
  let y := s.yzp p
  { typ := 0, vc := 0, sop := false, eop := false, seq := 0, ack := y.expect, nak := nak, crdVc := y.crdVc,
    crd := tget (fun _ => 0) y.retCrd y.crdVc, payload := [] }

/-- An idle flit leaves, with or without a NAK. -/
def State.yzIdle (s : State) (p : Nat) (nak : Bool) : State := s.yzEmit p 0 0 false false 0 nak []

/-- The virtual channel that the transmitter grants next (R397), among those with a waiting flit and a credit. -/
def State.yzPick (s : State) (p : Nat) : Option Nat :=
  let y := s.yzp p
  let can (vc : Nat) : Bool := decide (tget (fun _ => []) y.wait vc ≠ []) && decide (s.fld (YZ_PORT_CREDIT_CREDITS p vc) > 0)
  let low := if y.lowTurn then [7, 6] else [6, 7]
  let mid := if y.turn then [5, 4] else [4, 5]
  if y.lowCnt ≥ 63 ∧ low.any can then low.find? can else ([0, 1, 2, 3] ++ mid ++ low).find? can

/-- Grant flits while the port is up, a flit waits with a credit and fewer than 4,095 are unacknowledged. -/
def State.yzDrain : Nat → State → Nat → State
  | 0, s, _ => s
  | n + 1, s, p =>
    let y := s.yzp p
    if !s.bit (YZ_PORT_STAT_UP p) ∨ y.replay.length ≥ 4095 then s
    else match s.yzPick p with
      | none => s
      | some vc =>
        match tget (fun _ => []) y.wait vc with
        | [] => s
        | f :: t =>
          let seq := s.fld (YZ_PORT_SEQ_NEXT_TX p)
          let y' := { y with wait := tset (fun _ => []) y.wait vc t, replay := y.replay ++ [f] }
          let y' := { y' with
            turn := if vc = 4 then true else if vc = 5 then false else y.turn
            lowTurn := if vc = 6 then true else if vc = 7 then false else y.lowTurn
            lowCnt := if vc ≥ 6 then 0 else y.lowCnt + 1 }
          let y' := if y.replay.isEmpty then { y' with ackRaw := s.raw } else y'
          let s := (s.setYzp p y').put (YZ_PORT_SEQ_NEXT_TX p) (seq + 1)
          let s := s.put (YZ_PORT_CREDIT_CREDITS p vc) (s.fld (YZ_PORT_CREDIT_CREDITS p vc) - 1)
          ((s.yzEmit p 1 vc f.sop f.eop seq false f.payload).yzOut p).yzDrain n p

/-- Grant whatever can be granted. -/
def State.yzGo (s : State) (p : Nat) : State := s.yzDrain ((s.yzp p).wait.map (fun x => x.2.length)).sum p

/-- A message in flits of 116 payload bytes, SOP to EOP (R405). -/
def flitsOf (num vc : Nat) : Nat → Bool → List Byte → List Flit
  | 0, _, _ => []
  | n + 1, first, bs =>
    if bs.length ≤ 116 then [⟨num, vc, first, true, bs⟩]
    else ⟨num, vc, first, false, bs.take 116⟩ :: flitsOf num vc n false (bs.drop 116)

/-- A message joins the queue of its virtual channel on a port. -/
def State.yzEnqueue (s : State) (p vc : Nat) (bs : List Byte) : State :=
  let y := s.yzp p
  let fs := flitsOf s.yz.msgNum vc (bs.length + 1) true bs
  let s := s.setYzp p { y with wait := tset (fun _ => []) y.wait vc (tget (fun _ => []) y.wait vc ++ fs) }
  ({ s with yz := { s.yz with msgNum := s.yz.msgNum + 1 } }).yzGo p

/-! ### Retraining (R403) -/

/-- RETRAIN_START (R403): the bundle retrains at its current rate; sequence numbers and replay buffers stay. -/
def State.yzRetrain (s : State) (p cause : Nat) : State :=
  if s.bit (YZ_PORT_STAT_UP p) then
    let s := ((s.put (YZ_PORT_STAT_UP p) 0).put (YZ_PORT_STAT_STATE p) 5).cnt (YZ_PORT_CNT_RETRAIN_COUNT p) 1
    let s := s.lanesState (16 + p) 2
    let y := s.yzp p
    let s := s.setYzp p { y with downRaw := s.raw + 1, replays := 0, repEnd := 0 }
    s.emit 0x0C02 p (evArg [(0, 1, cause)])
  else s

/-- The time that a flit takes on a bundle (R394), in 2⁻¹⁶ ns rounded up: 1,024 bits at the flit rate of each lane, in Mb/s. -/
def flitMbps : Nat → Nat
  | 1 => 1207 | 3 => 12070 | 5 => 27160 | 7 => 52530 | _ => 105050
def State.flitTime (s : State) (p : Nat) : Nat :=
  ceilDiv (1024 * 1000 * 65536) (flitMbps (s.fld (YZ_PORT_STAT_RATE p)) * 2 ^ s.fld (YZ_PORT_STAT_WIDTH p))

/-- REPLAY_START (R400): every buffered flit leaves again, before any new one; the eighth replay without an advance of ACK
retrains the bundle (R403). -/
def State.yzReplay (s : State) (p : Nat) : State :=
  let y := s.yzp p
  if y.replay.isEmpty then s
  else
    let first := (s.fld (YZ_PORT_SEQ_NEXT_TX p) + 4096 - y.replay.length) % 4096
    let s := (y.replay.zipIdx).foldl (fun s (f, i) => s.yzEmit p 1 f.vc f.sop f.eop ((first + i) % 4096) false f.payload) s
    let s := s.cnt (YZ_PORT_CNT_REPLAY_COUNT p) y.replay.length
    let s := s.setYzp p { s.yzp p with replays := y.replays + 1, ackRaw := s.raw, repEnd := s.raw + y.replay.length * s.flitTime p }
    if y.replays + 1 ≥ 8 then s.yzRetrain p 2 else s

/-! ### Receiving (R399, R400) -/

/-- NAK_SEND (R399): NAK with the expected number, no more than one until the expected flit or 2 µs. -/
def State.yzNak (s : State) (p : Nat) : State :=
  let y := s.yzp p
  if y.nakRaw > 0 ∧ s.raw + 1 - y.nakRaw < 2 * usU then s.setYzp p { y with nakDisc := true }
  else (s.setYzp p { y with nakRaw := s.raw + 1, nakDisc := false }).yzIdle p true

/-- The ACK of a received flit passes buffered flits: they leave the replay buffer. -/
def State.yzAck (s : State) (p ack : Nat) : State :=
  let y := s.yzp p
  let first := (s.fld (YZ_PORT_SEQ_NEXT_TX p) + 4096 - y.replay.length) % 4096
  let n := (ack + 4096 - first) % 4096
  if n = 0 ∨ n > y.replay.length then s
  else (s.setYzp p { y with replay := y.replay.drop n, ackRaw := s.raw, replays := 0 }).yzOut p

/-- The credit count of a received flit (R396): cumulative, modulo 2¹². -/
def State.yzCredit (s : State) (p vc crd : Nat) : State :=
  let y := s.yzp p
  let d := (crd + 4096 - tget (fun _ => 0) y.lastCrd vc) % 4096
  let s := s.setYzp p { y with lastCrd := tset (fun _ => 0) y.lastCrd vc crd }
  s.put (YZ_PORT_CREDIT_CREDITS p vc) (min (s.fld (YZ_PORT_CREDIT_CREDITS p vc) + d) 4095)

/-- A data flit with a good CRC: accepted only with the expected number. A whole message waits for YZ_MESSAGE_RX. -/
def State.yzAccept (s : State) (p : Nat) (f : YzFlit) : State :=
  let y := s.yzp p
  if f.seq ≠ y.expect then (s.cnt (YZ_PORT_CNT_DISCARD_COUNT p) 1).yzNak p
  else
    let cur := (if f.sop then [] else tget (fun _ => []) y.part f.vc) ++ f.payload
    let y := { y with expect := (y.expect + 1) % 4096, nakRaw := 0, nakDisc := false }
    let y := if f.eop then { y with msgs := y.msgs ++ [(f.vc, cur)], part := tset (fun _ => []) y.part f.vc [] }
      else { y with part := tset (fun _ => []) y.part f.vc cur }
    (s.setYzp p y).put (YZ_PORT_CREDIT_OCC p f.vc) (s.fld (YZ_PORT_CREDIT_OCC p f.vc) + 1)

/-- The CRC rate of R403 over each second: more than 1 flit in 2²⁰. -/
def State.yzCrcRate (s : State) (p : Nat) (bad : Bool) : State :=
  let y := s.yzp p
  let y := { y with winCnt := y.winCnt + 1, winBad := y.winBad + b2n bad }
  if s.raw - y.winRaw < secU then s.setYzp p y
  else
    let s' := s.setYzp p { y with winRaw := s.raw, winCnt := 0, winBad := 0 }
    if y.winBad * 2 ^ 20 > y.winCnt then s'.yzRetrain p 3 else s'

/-- A NAK (R400): the replay begins unless one is in progress, which covers every buffered flit. -/
def State.yzNaked (s : State) (p : Nat) : State := if s.raw < (s.yzp p).repEnd then s else s.yzReplay p

/-- FLIT_RX (R399): a flit arrives on a port that is up. -/
def execFlitRx (p : Fin 16) (bytes : List Byte) (s : State) : Host.Outcome State Fault Refusal :=
  .next (if !s.bit (YZ_PORT_STAT_UP p) then s
    else match flitOf bytes with
      | none => (((s.cnt (YZ_PORT_CNT_CRC_COUNT p) 1).yzNak p).yzCrcRate p true)
      | some f =>
        let s := (s.yzAck p f.ack).yzCredit p f.crdVc f.crd
        let s := if f.nak then s.yzNaked p else s
        let s := if f.typ = 1 then s.yzAccept p f else s
        (s.yzCrcRate p false).yzGo p)

/-- NAK_HOLDOFF_EXPIRE (R399): 2 µs after a NAK another may leave; it does when a flit was discarded meanwhile. -/
def execNakHoldoffExpire (p : Fin 16) (s : State) : Host.Outcome State Fault Refusal :=
  .next (
    let y := s.yzp p
    if y.nakRaw = 0 ∨ s.raw + 1 - y.nakRaw < 2 * usU then s
    else
      let s := s.setYzp p { y with nakRaw := 0 }
      if y.nakDisc ∧ s.bit (YZ_PORT_STAT_UP p) then s.yzNak p else s)

/-- ACK_TIMEOUT (R400): no advance of ACK for 10 µs while flits are unacknowledged. -/
def execAckTimeout (p : Fin 16) (s : State) : Host.Outcome State Fault Refusal :=
  .next (if s.bit (YZ_PORT_STAT_UP p) ∧ (s.yzp p).replay ≠ [] ∧ s.raw - (s.yzp p).ackRaw ≥ 10 * usU then s.yzReplay p else s)

/-- CREDIT_RETURN (R396): a received flit passed on returns one credit of its channel. -/
def execCreditReturn (p : Fin 16) (vc : Fin 8) (s : State) : Host.Outcome State Fault Refusal :=
  .next (if s.fld (YZ_PORT_CREDIT_OCC p vc) = 0 then s
    else
      let y := s.yzp p
      let n := (tget (fun _ => 0) y.retCrd vc + 1) % 4096
      (s.setYzp p { y with retCrd := tset (fun _ => 0) y.retCrd vc n }).put (YZ_PORT_CREDIT_OCC p vc)
        (s.fld (YZ_PORT_CREDIT_OCC p vc) - 1))

/-! ### Capability exchange (R401, R402) -/

/-- The lanes that a width code stands for. -/
def widthLanes (code : Nat) : Nat := 2 ^ code

/-- The payload of a capability flit of a port (R401). -/
def State.capBytes (s : State) (p : Nat) : List Byte :=
  leBytes 4 (s.fld SYS_ID_ID) ++ leBytes 2 1 ++ leBytes 2 (s.fld YZ_CFG_ADDR) ++
    leBytes 2 ((([1, 3, 5, 7, 9].filter (· ≤ s.fld (YZ_PORT_CFG_MAX_RATE p))).map (2 ^ ·)).sum) ++
    leBytes 1 (widthLanes (s.fld (YZ_PORT_CFG_WIDTH p))) ++ leBytes 1 (b2n (s.yzp p).peerCap) ++
    ((List.range 8).map (fun v => leBytes 2 (vcBuf v))).flatten ++ List.replicate 88 0

/-- CAPABILITY_SEND (R401): every 10 µs during the exchange. -/
def execCapabilitySend (p : Fin 16) (s : State) : Host.Outcome State Fault Refusal :=
  .next (
    let y := s.yzp p
    if s.fld (YZ_PORT_STAT_STATE p) = 2 ∧ (y.capRaw = 0 ∨ s.raw + 1 - y.capRaw ≥ 10 * usU) then
      (s.setYzp p { y with capRaw := s.raw + 1 }).yzEmit p 2 0 false false 0 false (s.capBytes p)
    else s)

/-- The fields of a capability payload that R402 uses: DEV_ID, major version, address, RATES, width, FLAGS bit 0, VC_BUF. -/
structure CapX where
  dev   : Nat
  major : Nat
  addr  : Nat
  rates : Nat
  width : Nat
  seen  : Bool
  bufs  : List Nat
  deriving DecidableEq, Repr

/-- Read a capability payload (R401). -/
def capOf (bs : List Byte) : CapX :=
  { dev := bytesAt bs 0 4, major := bytesAt bs 5 1, addr := bytesAt bs 6 2 % 4096, rates := bytesAt bs 8 2, width := bytesAt bs 10 1,
    seen := bytesAt bs 11 1 % 2 = 1, bufs := (List.range 8).map (fun v => bytesAt bs (12 + 2 * v) 2) }

/-- Whether another port has taken the capability of a different device with the same address: the second bundle of two members
with one address is refused (coinciding events of chapter 17). -/
def State.capTwice (s : State) (p : Nat) (c : CapX) : Bool :=
  (List.range 16).any (fun q => q != p && (s.yzp q).peerCap && decide (2 ≤ s.fld (YZ_PORT_STAT_STATE q)) &&
    decide (s.fld (YZ_PORT_STAT_STATE q) ≤ 5) && s.fld (YZ_PORT_STAT_PEER q) == c.addr && (s.yzp q).peerId != c.dev)

/-- The cause with which R402 refuses a peer, 0 when it does not. -/
def State.capRefuse (s : State) (p : Nat) (c : CapX) : Nat :=
  let own := s.fld YZ_CFG_ADDR
  if c.major ≠ 1 then 1
  else if c.addr = own ∨ s.capTwice p c then 2
  else if c.addr / 16 = own / 16 ∧ !s.bit (YZ_ROUTE_VALID (c.addr % 16)) then 3
  else 0

/-- CAPABILITY_REFUSED (R402): event 0x0C03; the port retries every 1 s. -/
def State.capRefused (s : State) (p cause peer : Nat) : State :=
  let y := s.yzp p
  let s := s.setYzp p { y with refused := s.raw + 1, peerCap := false }
  let s := (s.setLink (16 + p) { s.link (16 + p) with tried := true }).put (YZ_PORT_STAT_STATE p) 6
  (s.emit 0x0C03 p (evArg [(0, 1, cause), (4, 2, peer)])).step6Check

/-- The width code of a lane count. -/
def widthCode (n : Nat) : Nat := if n ≥ 8 then 3 else if n ≥ 4 then 2 else if n ≥ 2 then 1 else 0

/-- The peer's capability is taken: width, RATE codes of both, the peer's address, credits; lanes outside are off. -/
def State.capTake (s : State) (p : Nat) (c : CapX) : State :=
  let all := s.linkLanes (16 + p)
  let s := s.put (YZ_PORT_STAT_WIDTH p) (min (s.fld (YZ_PORT_CFG_WIDTH p)) (widthCode c.width))
  let s := s.put (YZ_PORT_STAT_PEER p) c.addr
  let keep := s.linkLanes (16 + p)
  let s := (all.filter (fun l => !keep.contains l)).foldl (fun s l => s.wr (LNK_LANE_STAT l) 0) s
  let own := ([3, 5, 7, 9].filter (fun r => r ≤ s.fld (YZ_PORT_CFG_MAX_RATE p)))
  let s := (List.range 8).foldl (fun s v => s.put (YZ_PORT_CREDIT_CREDITS p v) (min (c.bufs.getD v 0) 4095)) s
  let y := s.yzp p
  s.setYzp p { y with peerCap := true, peerId := c.dev, rates := own.filter (fun r => nbit c.rates r) }

/-- The exchange ends: sequence numbers restart at 0 (R404), and the bundle steps through the rates (R377 step 4). -/
def State.capDone (s : State) (p : Nat) : State :=
  let y := s.yzp p
  let y := { y with expect := 0, replay := [], part := [], lastCrd := [], retCrd := [], nakRaw := 0, nakDisc := false }
  let s := s.setYzp p { y with replays := 0 }
  let s := (s.wr (YZ_PORT_SEQ p) 0)
  let s := (List.range 8).foldl (fun s v => s.put (YZ_PORT_CREDIT_OCC p v) 0) s
  (s.setLink (16 + p) { s.link (16 + p) with rates := y.rates, prev := 1 }).bundleNext p

/-- CAPABILITY_RX (R402): a capability flit whose CRC is good. -/
def execCapabilityRx (p : Fin 16) (bytes : List Byte) (s : State) : Host.Outcome State Fault Refusal :=
  .next (match flitOf bytes with
    | none => if s.fld (YZ_PORT_STAT_STATE p) = 2 then s.cnt (YZ_PORT_CNT_CRC_COUNT p) 1 else s
    | some f =>
      if s.fld (YZ_PORT_STAT_STATE p) ≠ 2 ∨ f.typ ≠ 2 then s
      else
        let c := capOf f.payload
        match s.capRefuse p c with
        | 0 =>
          let s := s.capTake p c
          if c.seen then s.capDone p else s
        | r => s.capRefused p r c.addr)

/-- CAPABILITY_RETRY (R402): a refused port tries the exchange again after 1 s. -/
def execCapabilityRetry (p : Fin 16) (s : State) : Host.Outcome State Fault Refusal :=
  .next (
    let y := s.yzp p
    if y.refused > 0 ∧ s.raw + 1 - y.refused ≥ secU ∧ s.linkEn (16 + p) then
      (s.setYzp p { y with refused := 0, peerCap := false, capRaw := 0 }).put (YZ_PORT_STAT_STATE p) 2
    else s)

/-! ### Loss (R403, R404) -/

/-- The bundle is up again after a retrain: lanes, port, the second of the CRC rate. -/
def State.bundleAgain (s : State) (p : Nat) : State :=
  let s := ((s.lanesState (16 + p) 3).put (YZ_PORT_STAT_STATE p) 4).put (YZ_PORT_STAT_UP p) 1
  let y := s.yzp p
  s.setYzp p { y with downRaw := 0, ackRaw := s.raw, winRaw := s.raw, winCnt := 0, winBad := 0 }

/-- RETRAIN_DONE (R403): a retrain ends with the ACK that the peer's idle flits carry, or fails: the bundle steps down one
rate (R378) and retrains there. -/
def execRetrainDone (p : Fin 16) (ok : Bool) (ack : Fin 4096) (s : State) : Host.Outcome State Fault Refusal :=
  .next (if s.fld (YZ_PORT_STAT_STATE p) ≠ 5 then s
    else if ok then
      let s := s.bundleAgain p
      let s := (s.yzIdle p false).yzAck p ack
      (s.yzReplay p).yzGo p
    else
      let cur := s.fld (YZ_PORT_STAT_RATE p)
      let low := ((1 :: (s.yzp p).rates).filter (· < cur)).foldl max 0
      if low = 0 then s
      else
        let s := (s.lanesRate (16 + p) low).put (YZ_PORT_STAT_RATE p) low
        let s := s.setLink (16 + p) { s.link (16 + p) with prev := low }
        s.emit 0x0803 p (evArg [(0, 1, cur), (1, 1, low)]))

/-- Distinct message numbers of flits. -/
def msgsOf (fs : List Flit) : List Nat := (fs.map (·.msg)).eraseDups

/-- BUNDLE_DOWN (R404): not up again within 500 ms: event 0x0C01, and every message with a flit not acknowledged is
indeterminate, with event 0x0C04; what was left of those messages is dropped. -/
def execBundleDown (p : Fin 16) (s : State) : Host.Outcome State Fault Refusal :=
  .next (
    let y := s.yzp p
    if y.downRaw = 0 ∨ s.bit (YZ_PORT_STAT_UP p) ∨ s.raw + 1 - y.downRaw < 500 * msU then s
    else
      let ms := msgsOf y.replay
      let wait := y.wait.foldl (fun t (vc, fs) => tset (fun _ => []) t vc (fs.filter (fun f => !ms.contains f.msg))) []
      let s := s.setYzp p { y with replay := [], wait := wait, part := [], downRaw := 0 }
      let s := s.yzOut p
      let s := s.emit 0x0C01 p (evArg [(1, 1, s.fld (YZ_PORT_STAT_RATE p)), (4, 2, s.fld (YZ_PORT_STAT_PEER p))])
      let s := if ms = [] then s else s.emit 0x0C04 p (evArg [(0, 4, ms.length)])
      s.linkFail (16 + p))

/-- BUNDLE_LANE_LOSS (R403): a lane of a bundle loses clock recovery (`cdr`) or alignment. -/
def execBundleLaneLoss (l : Fin 64) (cdr : Bool) (s : State) : Host.Outcome State Fault Refusal :=
  .next (match s.linkOf l with
    | some k =>
      if k < 16 then s
      else
        let s := if cdr then s.put (LNK_LANE_STAT_CDR_LOCK l) 0 else s.put (LNK_LANE_STAT_ALIGNED l) 0
        s.yzRetrain (k - 16) 1
    | none => s)

end Sys2Proof.Machine
end

