-- ==== Sys2Proof/Machine/Floor.lean ====
section
/-! DEFINITION. Yudizor messages, encapsulation, members, coordinators and capacity (chapter 17). Group pitches are in
Machine/Groups.lean. -/

namespace Sys2Proof.Machine

/-! ### Messages (R405, R406) -/

/-- Whether messages of a virtual channel carry a CRC and an alive count (R406). -/
def vcChecked (vc : Nat) : Bool := vc ≤ 2 || vc == 6

/-- The check-value function of a virtual channel (R465). -/
def vcFunc (vc : Nat) : Nat := if vc = 6 then 5 else 2 + vc

/-- A message header (R405). -/
structure MsgHdr where
  dst   : Nat
  kind  : Nat
  src   : Nat
  typ   : Nat
  hops  : Nat
  alive : Nat
  len   : Nat
  deriving DecidableEq, Repr

/-- Read a header. -/
def msgHdr (bs : List Byte) : MsgHdr :=
  let d := bytesAt bs 0 2
  { dst := d % 4096, kind := d / 4096 % 4, src := bytesAt bs 2 2 % 4096, typ := bytesAt bs 4 1, hops := bytesAt bs 5 1,
    alive := bytesAt bs 6 1, len := bytesAt bs 8 4 }

/-- A message in bytes: header, body, and the CRC-32C of both on a checked channel. -/
def msgBytes (vc : Nat) (h : MsgHdr) (body : List Byte) : List Byte :=
  let b := leBytes 2 (h.dst + 4096 * h.kind) ++ leBytes 2 h.src ++ leBytes 1 h.typ ++ leBytes 1 h.hops ++ leBytes 1 h.alive ++
    leBytes 1 0 ++ leBytes 4 body.length ++ leBytes 4 0 ++ body
  if vcChecked vc then b ++ leBytes 4 (crc32c b).toNat else b

/-- Whether a message is whole and its CRC is good where it has one. -/
def msgGood (vc : Nat) (bs : List Byte) : Bool :=
  let n := 16 + (msgHdr bs).len
  if vcChecked vc then decide (bs.length = n + 4) && decide (ofLeBytes (bs.drop n) = (crc32c (bs.take n)).toNat)
  else decide (bs.length = n)

/-! ### Routes (R408, R409) -/

/-- Whether an address lies in the device's first-level group. -/
def State.sameGroup (s : State) (a : Nat) : Bool := a / 16 == s.ownAddr / 16

/-- The port towards a member of the device's first-level group. -/
def State.yzRoute (s : State) (a : Nat) : Option Nat :=
  if s.sameGroup a ∧ s.bit (YZ_ROUTE_VALID (a % 16)) then some (s.fld (YZ_ROUTE_PORT (a % 16))) else none

/-- The peer-table entry of an address. -/
def State.yzPeer (s : State) (a : Nat) : Option Nat :=
  (List.range 64).find? (fun i => s.bit (YZ_PEER_CTRL_VALID i) && s.fld (YZ_PEER_CTRL_ADDR i) == a)

/-- Encapsulation towards a peer. -/
def State.udpx (s : State) (i vc : Nat) : UdpX := tget (fun _ => UdpX.zero) s.yz.udp (i * 8 + vc)
def State.setUdpx (s : State) (i vc : Nat) (x : UdpX) : State :=
  { s with yz := { s.yz with udp := tset (fun _ => UdpX.zero) s.yz.udp (i * 8 + vc) x } }

/-- Send a message to a peer-table entry in a datagram of its own (R409). -/
def State.udpSend (s : State) (i vc : Nat) (bs : List Byte) : State :=
  let x := s.udpx i vc
  (s.setUdpx i vc { x with tx := x.tx + 1, unack := x.unack ++ [(x.tx + 1, s.raw, 0, bs)] }).send
    (.udp i vc (x.tx + 1) x.rx bs)

/-- Send a message to a device: the bundle first, the encapsulation when the bundle is down or the peer is in another group
(R408, R409, coinciding events). What has no way is discarded and counted. -/
def State.yzTo (s : State) (vc dst : Nat) (bs : List Byte) : State :=
  let udp := if (vc = 0 ∨ vc = 1 ∨ vc = 6) ∧ s.bit YZ_UDP_CFG_EN then s.yzPeer dst else none
  match s.yzRoute dst, udp with
  | some p, some i => if s.bit (YZ_PORT_STAT_UP p) then s.yzEnqueue p vc bs else s.udpSend i vc bs
  | some p, none => s.yzEnqueue p vc bs
  | none, some i => s.udpSend i vc bs
  | none, none => s.cnt YZ_CNT_UNKNOWN_COUNT 1

/-- Send a message of the device's own: 3 relays, the next alive count of its destination and channel. -/
def State.yzSend (s : State) (vc use dst : Nat) : State :=
  let k := dst * 8 + vc
  let a := if vcChecked vc then (tget (fun _ => 0) s.yz.aliveTx k + 1) % 256 else 0
  let s := { s with yz := { s.yz with aliveTx := tset (fun _ => 0) s.yz.aliveTx k a } }
  let n := min (Config.msgLen use s.fresh) 7404
  let body := (List.range n).map (Config.msgByte use s.fresh)
  let h : MsgHdr := ⟨dst, 0, s.ownAddr, Config.msgType use, 3, a, n⟩
  (s.draw).yzTo vc dst (msgBytes vc h body)

/-- Relay a message (R408): on the same channel, HOPS less 1; never on VC 5 and VC 7 (R622); at HOPS = 0 it is discarded. -/
def State.yzRelay (s : State) (vc dst : Nat) (bs : List Byte) : State :=
  let h := msgHdr bs
  if h.hops = 0 ∨ vc = 5 ∨ vc = 7 then s.cnt YZ_CNT_UNKNOWN_COUNT 1
  else s.yzTo vc dst (msgBytes vc { h with hops := h.hops - 1 } ((bs.drop 16).take h.len))

/-- The device that handles a message (R405, R410): its address, or the known coordinator of the addressed group when that
group is the device's own; a message to another group goes to a peer of that group. -/
def State.msgTarget (s : State) (h : MsgHdr) : Option Nat :=
  let own := s.ownAddr
  let peer (ok : Nat → Bool) : Option Nat :=
    ((List.range 64).find? (fun i => s.bit (YZ_PEER_CTRL_VALID i) && ok (s.fld (YZ_PEER_CTRL_ADDR i)))).map
      (fun i => s.fld (YZ_PEER_CTRL_ADDR i))
  match h.kind with
  | 0 => some h.dst
  | 1 =>
    if h.dst / 16 = own / 16 then (if s.bit YZ_COORD1_VALID then some (s.fld YZ_COORD1_ADDR) else none)
    else peer (fun a => a / 16 == h.dst / 16)
  | 2 =>
    if h.dst / 256 = own / 256 then (if s.bit YZ_COORD2_VALID then some (s.fld YZ_COORD2_ADDR) else none)
    else peer (fun a => a / 256 == h.dst / 256)
  | _ => if s.bit YZ_COORD3_VALID then some (s.fld YZ_COORD3_ADDR) else none

/-- The coordination of a group change ends (R411): with every check passed it can be committed; else nothing pitches and the
refusal is reported. The answer goes to the coordinator above or to the waiting management request. -/
def State.groupEnd (s : State) (status : Nat) : State :=
  match s.yz.group with
  | none => s
  | some g =>
    let s := if status = 0 then s
      else ({ s with yz := { s.yz with group := none } }.send (.group 3 g.ident 0 false)).bankEmpty
    if g.up then s.send (.group 4 g.ident (s.fld ⟨coordRegOf (g.lvl + 1), 0, 12⟩) (status == 0))
    else s.replyWaiting 2 4 status [s.rd CFG_CHECK_RES, s.rd CFG_CHECK_ADDR]

/-- A member's answer to a group change that this device coordinates. -/
def State.groupAnswer (s : State) (m : Nat) (pass : Bool) : State :=
  match s.yz.group with
  | none => s
  | some g =>
    if !g.wait.contains m then s
    else
      let g := { g with wait := g.wait.filter (· ≠ m), ok := g.ok && pass }
      let s := { s with yz := { s.yz with group := some g } }
      if g.wait = [] then s.groupEnd (if g.ok then 0 else 7) else s

/-- Deliver a message (R406): its CRC and alive count are checked; `port` is where it came from. A VC 7 message that is not
the device's own goes back unchanged (R622); `mirror` is the part of the content that the device acts on: a picture of VC 5
updates LATEST of its mirror context (context and address, R415), an answer to a group change on VC 0 carries its verdict
(1 in the first number: passed, R411). -/
def State.yzDeliver (s : State) (port : Option Nat) (vc : Nat) (bs : List Byte) (mirror : Option (Nat × Nat)) : State :=
  let h := msgHdr bs
  if !msgGood vc bs ∨ (vcChecked vc ∧ !s.chkServed (vcFunc vc)) then s.cnt YZ_CNT_MSG_CHK_COUNT 1
  else
    let k := h.src * 8 + vc
    let last := tget (fun _ => none) s.yz.aliveRx k
    if vcChecked vc ∧ last = some h.alive then s.cnt YZ_CNT_MSG_CHK_COUNT 1
    else
      let s := if vcChecked vc then
          let s := if last.isSome ∧ last ≠ some ((h.alive + 255) % 256) then s.cnt YZ_CNT_MSG_CHK_COUNT 1 else s
          { s with yz := { s.yz with aliveRx := tset (fun _ => none) s.yz.aliveRx k (some h.alive) } }
        else s
      let s := s.send (.deliver vc h.src h.typ h.len)
      if vc = 7 then
        match port with
        | some p => if h.src = s.ownAddr then s else s.yzEnqueue p 7 bs
        | none => s
      else if vc = 5 then
        match mirror with
        | some (c, d) => s.rp 1 c 0x30 8 d
        | none => s
      else if vc = 0 then
        match mirror with
        | some (c, _) => s.groupAnswer h.src (c == 1)
        | none => s
      else s

/-- A message that came in: delivered here, or relayed (R408, R410). -/
def State.yzTake (s : State) (port : Option Nat) (vc : Nat) (bs : List Byte) (mirror : Option (Nat × Nat)) : State :=
  match s.msgTarget (msgHdr bs) with
  | none => s.cnt YZ_CNT_UNKNOWN_COUNT 1
  | some d => if d = s.ownAddr ∨ vc = 7 then s.yzDeliver port vc bs mirror else s.yzRelay vc d bs

/-- YZ_MESSAGE_RX (R406): the oldest complete message of a channel of a port. A test message of the device's own that has come back is
YZ_TEST_MSG_RX's (R622). -/
def execYzMessageRx (p : Fin 16) (vc : Fin 8) (mirror : Option (Nat × Nat)) (s : State) : Host.Outcome State Fault Refusal :=
  .next (
    let y := s.yzp p
    match y.msgs.find? (fun m => m.1 == vc.val) with
    | none => s
    | some m => if vc.val = 7 ∧ (msgHdr m.2).src = s.ownAddr then s else (s.setYzp p { y with msgs := y.msgs.erase m }).yzTake (some p.val) vc m.2 mirror)

/-! ### Encapsulation (R409) -/

/-- Deliver held messages that are now in order. -/
def State.udpInOrder : Nat → State → Nat → Nat → State
  | 0, s, _, _ => s
  | n + 1, s, i, vc =>
    let x := s.udpx i vc
    match x.held.find? (fun m => m.1 == x.rx + 1) with
    | none => s
    | some m =>
      ((s.setUdpx i vc { x with rx := x.rx + 1, held := x.held.erase m }).yzTake none vc m.2 none).udpInOrder n i vc

/-- YZ_UDP_RX (R14, R409): a datagram of a media MAC to a UDP port from an IP address: number, ACK, channel and message. Only the MAC and
the port of YZ_UDP_CFG carry control; a datagram of any other MAC or port is none. -/
def execYzUdpRx (mac : Fin 64) (udpPort : Fin 65536) (ip seq ack : Nat) (vc : Fin 8) (bytes : List Byte) (s : State) :
    Host.Outcome State Fault Refusal :=
  .next (if !s.yzPort mac udpPort then s
    else match s.peerOfIp ip with
      | none => s.cnt YZ_CNT_UNKNOWN_COUNT 1
      | some i =>
        if vc.val ≠ 0 ∧ vc.val ≠ 1 ∧ vc.val ≠ 6 then s.cnt YZ_CNT_UNKNOWN_COUNT 1
        else
          let x := s.udpx i vc
          let x := { x with unack := x.unack.filter (fun u => u.1 > ack) }
          let s := s.setUdpx i vc x
          if seq ≤ x.rx ∨ x.held.any (fun m => m.1 == seq) then s
          else if seq ≠ x.rx + 1 ∧ x.held.length ≥ 64 then s
          else (s.setUdpx i vc { x with held := x.held ++ [(seq, bytes)] }).udpInOrder (x.held.length + 1) i vc)

/-- The messages to a peer that are not acknowledged, over its virtual channels. -/
def State.udpOut (s : State) (i : Nat) : Nat := ((List.range 8).map (fun v => (s.udpx i v).unack.length)).sum

/-- An unreachable peer's unacknowledged messages are given up (R409). -/
def State.udpLost (s : State) (i : Nat) : State :=
  (List.range 8).foldl (fun s v => if (s.udpx i v).unack = [] then s else s.setUdpx i v { s.udpx i v with unack := [] }) s

/-- YZ_UDP_RESEND (R409): a datagram not acknowledged for 4 ms is sent again, up to 8 times; then the peer is unreachable and
its messages are indeterminate. -/
def execYzUdpResend (i : Fin 64) (vc : Fin 8) (s : State) : Host.Outcome State Fault Refusal :=
  .next (
    let x := s.udpx i vc
    match x.unack with
    | [] => s
    | (q, r, n, bs) :: t =>
      if s.raw - r < 4 * msU then s
      else if n ≥ 8 then
        (s.udpLost i).emit 0x0C04 0 (evArg [(0, 4, s.udpOut i), (4, 1, 1)])
      else ((s.setUdpx i vc { x with unack := t ++ [(q, s.raw, n + 1, bs)] }).cnt YZ_CNT_UDP_RETX_COUNT 1).send
        (.udp i vc q x.rx bs))

/-! ### Members and coordinators (R412, R413) -/

/-- Whether this device is healthy (R412): RUN, the first kiln round done, not SAFE. -/
def State.selfHealthy (s : State) : Bool := s.fld PWR_MODE_CUR == 2 && s.bit THM_ROUND_FIRST_DONE && !s.safe.mode

/-- Whether a view holds a quorum over a configuration: more than half, or half with the lowest configured member. -/
def quorum (view conf : Nat) : Bool :=
  let n := popc conf 16
  let v := popc (view &&& conf) 16
  decide (2 * v > n) || (decide (n > 0 ∧ 2 * v = n) && (match (bitsOf conf 16).head? with
    | some b => nbit view b
    | none => false))

/-- The registers of a level. -/
def membersHeard (lvl : Nat) : FRef := if lvl = 1 then YZ_MEMBERS1_HEARD else if lvl = 2 then YZ_MEMBERS2_HEARD else YZ_MEMBERS3_HEARD
def membersConf (lvl : Nat) : FRef := if lvl = 1 then YZ_MEMBERS1_CONF else if lvl = 2 then YZ_MEMBERS2_CONF else YZ_MEMBERS3_CONF
def coordReg (lvl : Nat) : Nat := coordRegOf lvl

/-- The digit of an address that numbers members at a level. -/
def addrDigit (lvl a : Nat) : Nat := if lvl = 1 then a % 16 else if lvl = 2 then a / 16 % 16 else a / 256

/-- The members in view at a level: healthy members heard, or coordinators heard, with this device where it takes part. -/
def State.inView (s : State) (lvl : Nat) : List Nat :=
  let own := s.ownAddr
  if lvl = 1 then
    (List.range 16).map (· + own / 16 * 16) |>.filter (fun a =>
      if a = own then s.selfHealthy else let m := tget (fun _ => MemberX.zero) s.yz.members a; decide (m.raw > 0) && m.healthy)
  else if s.bit ⟨coordReg (lvl - 1), 30, 1⟩ then
    own :: ((tkeys s.yz.coords).filter (fun k => k / 4096 == lvl)).map (· % 4096)
  else []

/-- One level of the election (R413): HEARD, the coordinator and its events. -/
def State.electLevel (s : State) (lvl : Nat) : State :=
  let mem := s.inView lvl
  let view := mem.foldl (fun v a => nset v (addrDigit lvl a)) 0
  let conf := s.fld (membersConf lvl)
  let s := s.put (membersHeard lvl) view
  let takes := lvl = 1 ∨ s.bit ⟨coordReg (lvl - 1), 30, 1⟩
  let ok := decide (conf ≠ 0) && quorum view conf
  let cand := (mem.filter (fun a => nbit conf (addrDigit lvl a))).foldl (fun b a => min b a) 4096
  let reg := coordReg lvl
  if ok ∧ cand < 4096 then
    let old := s.rd reg
    let new : W32 := BitVec.ofNat 32 (2 ^ 31 + (if cand = s.ownAddr then 2 ^ 30 else 0) + cand)
    let s := { s with yz := { s.yz with noQuo := s.yz.noQuo.filter (· ≠ lvl) } }
    if old = new then s else (s.wr reg new).emit 0x0C05 0 (evArg [(0, 1, lvl), (4, 2, cand)])
  else
    let s := s.wr reg 0
    if conf ≠ 0 ∧ takes ∧ !s.yz.noQuo.contains lvl then
      ({ s with yz := { s.yz with noQuo := lvl :: s.yz.noQuo } }).emit 0x0C07 0
        (evArg [(0, 1, lvl), (4, 2, popc (view &&& conf) 16)])
    else s

/-- COORDINATOR_CHANGE (R413): the coordinators are elected again from the view. -/
def State.elect (s : State) : State :=
  if s.bit YZ_CFG_EN then ((s.electLevel 1).electLevel 2).electLevel 3 else s

/-- HEARTBEAT_SEND (R412): every 1 ms to each configured member; between coordinators every 10 ms over R409. -/
def execHeartbeatSend (s : State) : Host.Outcome State Fault Refusal :=
  .next (if !s.bit YZ_CFG_EN ∨ s.raw - s.yz.hbRaw < msU then s
    else
      let s := { s with yz := { s.yz with hbRaw := s.raw } }
      let own := s.ownAddr
      let s : State := ((bitsOf (s.fld YZ_MEMBERS1_CONF) 16).filter (· ≠ own % 16)).foldl (fun (s : State) d =>
        (s.send (.heartbeat (own / 16 * 16 + d) s.selfHealthy)).yzSend 0 0 (own / 16 * 16 + d)) s
      if s.bit YZ_COORD1_SELF ∧ s.raw - s.yz.hbUp ≥ 10 * msU then
        let s := { s with yz := { s.yz with hbUp := s.raw } }
        ((List.range 64).filter (fun i => s.bit (YZ_PEER_CTRL_VALID i) && !s.sameGroup (s.fld (YZ_PEER_CTRL_ADDR i)))).foldl
          (fun (s : State) i => (s.send (.heartbeat (s.fld (YZ_PEER_CTRL_ADDR i)) s.selfHealthy)).yzSend 0 0 (s.fld (YZ_PEER_CTRL_ADDR i))) s
      else s)

/-- HEARTBEAT_RX (R412): a heartbeat of a member of the first-level group (level 1), or of a coordinator of level 1 or 2
elsewhere (levels 2 and 3): level 2 names the coordinators of this second-level group. One that is no longer healthy leaves the
view. -/
def execHeartbeatRx (src : Fin 4096) (healthy : Bool) (view : Nat) (lvl : Fin 4) (s : State) :
    Host.Outcome State Fault Refusal :=
  .next (if !s.bit YZ_CFG_EN ∨ src.val = s.ownAddr ∨ !s.chkServed (vcFunc 0) then s
    else if lvl.val ≤ 1 then
      if !s.sameGroup src ∨ !nbit (s.fld YZ_MEMBERS1_CONF) (src % 16) then s
      else
        let m := tget (fun _ => MemberX.zero) s.yz.members src
        let was := decide (m.raw > 0) && m.healthy
        let s := { s with yz := { s.yz with
          members := tset (fun _ => MemberX.zero) s.yz.members src ⟨s.raw + 1, healthy, view % 65536⟩ } }
        let s := if was = healthy then s else s.emit 0x0C06 0 (evArg [(0, 2, src), (2, 1, b2n healthy)])
        s.elect
    else if lvl.val = 2 ∧ src.val / 256 ≠ s.ownAddr / 256 then s
    else
      ({ s with yz := { s.yz with
        coords := tset (fun _ => 0) s.yz.coords (lvl * 4096 + src) (if healthy then s.raw + 1 else 0) } }).elect)

/-- HOME_MOVED (R210): a home that left the floor passes its sessions to the lowest healthy member in MEMBERS, which raises
event 0x1705. -/
def State.homesMove (s : State) (gone : Nat) : State :=
  (s.liveRecs 2).foldl (fun s x =>
    if s.rf 2 x 2 2 % 4096 ≠ gone then s
    else
      match (bitsOf (s.rf 2 x 4 2 &&& s.fld YZ_MEMBERS1_HEARD) 16).find? (· ≠ gone % 16) with
      | none => s
      | some d =>
        let home := s.ownAddr / 16 * 16 + d
        let s := s.rp 2 x 2 2 home
        if home = s.ownAddr then s.emit 0x1705 x (evArg [(0, 2, home)]) else s) s

/-- MEMBER_DEAD (R412, R413): a member unheard for DEAD_MS, or a coordinator of another group unheard for 50 ms, leaves the
view. -/
def execMemberDead (src : Fin 4096) (lvl : Fin 4) (s : State) : Host.Outcome State Fault Refusal :=
  .next (if lvl.val ≤ 1 then
      let m := tget (fun _ => MemberX.zero) s.yz.members src
      if m.raw = 0 ∨ s.raw + 1 - m.raw < s.fld YZ_CFG_DEAD_MS * msU then s
      else
        let s := { s with yz := { s.yz with members := tset (fun _ => MemberX.zero) s.yz.members src MemberX.zero } }
        let s := if m.healthy then s.emit 0x0C06 0 (evArg [(0, 2, src)]) else s
        (s.elect).homesMove src
    else
      let r := tget (fun _ => 0) s.yz.coords (lvl * 4096 + src)
      if r = 0 ∨ s.raw + 1 - r < 50 * msU then s
      else ({ s with yz := { s.yz with coords := tset (fun _ => 0) s.yz.coords (lvl * 4096 + src) 0 } }).elect)

/-! ### Capacity (R410) -/

/-- Add capacity figures: tun grist, decode grist, composer grist, legs. -/
def capSum (l : List (Nat × Nat × Nat × Nat)) : Nat × Nat × Nat × Nat :=
  l.foldl (fun a b => (a.1 + b.1, a.2.1 + b.2.1, a.2.2.1 + b.2.2.1, a.2.2.2 + b.2.2.2)) (0, 0, 0, 0)

/-- The device's own figures: free grist of its pools and free legs (R198: 262,144). -/
def State.capOwn (s : State) : Nat × Nat × Nat × Nat :=
  (s.fld ENC_POOL_STAT_FREE_GRIST, s.fld DEC_POOL_STAT_FREE_GRIST, s.fld CMP_POOL_STAT_FREE_GRIST, 262144 - (s.liveRecs 3).length)

/-- Show the figures of a level. -/
def State.capPut (s : State) (l : Nat) (c : Nat × Nat × Nat × Nat) : State :=
  (((s.put (YZ_CAP_TUN_VALUE l) c.1).put (YZ_CAP_DEC_VALUE l) c.2.1).put (YZ_CAP_CMP_VALUE l) c.2.2.1).put
    (YZ_CAP_LEGS_VALUE l) c.2.2.2

/-- The reports of members by address, in their order. -/
def reportTab (ms : List Nat) (r : List (Nat × Nat × Nat × Nat)) : Tab (Nat × Nat × Nat × Nat) :=
  (ms.zip r).foldl (fun t x => tset (fun _ => (0, 0, 0, 0)) t x.1 x.2) []

/-- CAPACITY_REFRESH (R410): every 10 ms a coordinator sums the reports that came on VC 6, level by level (`r1` in the order
of the other members in view); other devices show 0 and send their own report to the coordinator. -/
def execCapacityRefresh (r1 r2 r3 : List (Nat × Nat × Nat × Nat)) (s : State) : Host.Outcome State Fault Refusal :=
  .next (if !s.bit YZ_CFG_EN ∨ s.raw - s.yz.capRaw < 10 * msU then s
    else
      let others := (s.inView 1).filter (· ≠ s.ownAddr)
      let s := { s with yz := { s.yz with capRaw := s.raw, reports := reportTab others r1 } }
      let c1 := capSum (s.capOwn :: r1)
      let c2 := capSum (c1 :: r2)
      let c3 := capSum (c2 :: r3)
      let z := (0, 0, 0, 0)
      let s := s.capPut 0 (if s.bit YZ_COORD1_SELF then c1 else z)
      let s := s.capPut 1 (if s.bit YZ_COORD2_SELF then c2 else z)
      let s := s.capPut 2 (if s.bit YZ_COORD3_SELF then c3 else z)
      if s.bit YZ_COORD1_VALID ∧ !s.bit YZ_COORD1_SELF then s.yzSend 6 6 (s.fld YZ_COORD1_ADDR) else s)

end Sys2Proof.Machine
end

