-- ==== Sys2Proof/Machine/Tuns.lean ====
section
/-! DEFINITION. Fencing tuns and check decoders, re-runs and forced random-access points, checking, and the strips of the search window
(R89 to R93, R107, R108, R110, R142 to R152). -/

namespace Sys2Proof.Machine

/-! ### Scope (R90, R91) -/

/-- The units of a picture that are coded again with a set of its units (R91): under WPP every later row, else all of their tiles or
slices. -/
def State.scopeOf (s : State) (n k rend : Nat) (hit : List Nat) : List Nat :=
  let t := s.asOf n k
  let us := t.units n rend
  let all := List.range us.length
  let part := fun u => ((us[u]?).map (·.part)).getD 0
  match hit with
  | [] => []
  | h :: l =>
    if s.chMode n = 0 ∧ (t.codec n rend = 1 ∨ t.codec n rend = 2) then all.filter (fun u => decide (u ≥ l.foldl min h))
    else all.filter (fun u => hit.any (fun v => part v == part u))

/-- The units beside a scope whose in-loop filtering runs again (R91): those within one CTU, or one macroblock row, of it. -/
def State.besideOf (s : State) (n k rend : Nat) (sc : List Nat) : List Nat :=
  let t := s.asOf n k
  let us := t.units n rend
  let b : Int := if t.codec n rend = 0 then 16 else (rowLines (t.codec n rend) : Int)
  (List.range us.length).filter (fun u => !sc.contains u && sc.any (fun v =>
    match us[u]?, us[v]? with | some a, some x => x.meets a b b 0 0 | _, _ => false))

/-- The begun units of a picture that predicted from units of slot j of a scope (R91): their windows reach them. -/
def State.reachOf (s : State) (n k rend j : Nat) (sc : List Nat) (p : RPic) : List Nat :=
  let t := s.asOf n k
  let src := (s.asOf n j).units n rend
  let side := searchSide (t.codec n rend)
  let g := if p.refs[0]? = some j then p.gmv.1 else p.gmv.2
  (((t.units n rend).zip p.units).mapIdx (fun u y => (u, y))).filterMap (fun x =>
    if x.2.2.phase != .waiting && sc.any (fun v => (src[v]?).any (fun b => x.2.1.meets b (512 + side) 256 g.1 g.2)) then some x.1 else none)

/-- A scope's units of a slot, with more of them. -/
def scopeAdd (k : Nat) (us : List Nat) (l : List (Nat × List Nat)) : List (Nat × List Nat) :=
  if us = [] then l
  else match l.find? (fun x => x.1 == k) with
    | some _ => l.map (fun x => if x.1 = k then (k, (x.2 ++ us).eraseDups) else x)
    | none => l ++ [(k, us)]

/-- The slots of a rendition's pictures in coding order. -/
def Chan.inOrder (c : Chan) (rend : Nat) : List Nat :=
  let mine := c.pics.filter (fun x => x.1 % 16 == rend)
  let top := (mine.map (fun x => x.2.ord)).foldl max 0
  sortDesc (fun k => top - ((c.pic k rend).map (·.ord)).getD 0) (mine.map (fun x => x.1 / 16))

/-- The whole scope of a rendition: the hit units of each slot with those that depend on them in the picture, and in coding order those of
later pictures that predicted from them. -/
def State.wholeScope (s : State) (n rend : Nat) (hits : List (Nat × List Nat)) : List (Nat × List Nat) :=
  let c := s.chan n
  (c.inOrder rend).foldl (fun l k =>
    match c.pic k rend with
    | none => l
    | some p =>
      let own := ((hits.find? (fun x => x.1 == k)).map (·.2)).getD []
      let dep := if p.intra then [] else (p.refs.flatMap (fun j => match l.find? (fun x => x.1 == j) with
        | some x => s.reachOf n k rend j x.2 p
        | none => []))
      scopeAdd k (s.scopeOf n k rend (own ++ dep).eraseDups) l) []

/-! ### The choice (R92, R146 to R149) -/

/-- The tuns that may run a re-run of a rendition, in the order of R92: load 0 first, then the free grist of the channel's
tuns, then any free grist; each must have room for one share. -/
def State.rerunTuns (s : State) (n k rend : Nat) : List Nat :=
  let g := (s.asOf n k).share16 n rend
  let ok := (List.range 40).filter (fun t => !s.tunFenced t && decide (s.fld (ENC_TUN_LOAD_LOAD t) + g ≤ 8192))
  let idle := ok.filter (fun t => s.fld (ENC_TUN_LOAD_LOAD t) == 0)
  let mine := ok.filter (fun t => s.fld (ENC_TUN_LOAD_LOAD t) != 0 && s.fld (ENC_TUN_MAP_CHANNEL t) == n)
  let rest := ok.filter (fun t => s.fld (ENC_TUN_LOAD_LOAD t) != 0 && s.fld (ENC_TUN_MAP_CHANNEL t) != n)
  idle ++ mine ++ rest

/-- The time of a unit on a whole tun, in 2⁻¹⁶ ns: t_row of R37 over its own area, without the prefill. -/
def State.unitTime (s : State) (n k rend : Nat) (a : Area) : Nat :=
  let t := s.asOf n k
  let (ec, ed) := t.effC n rend
  (a.x1 - a.x0) * (a.y1 - a.y0) * ec * 1000 * 65536 * (64 + t.margin n) / (512 * ed * 64)

/-- The time at which the units `sc` of slot k end on `m` tuns from now on (R146): in row mode the begun ones in rounds and each later row
once its lines are due, else the partitions of the scope in rounds. -/
def State.scopeEnd (s : State) (n k rend m : Nat) (sc : List Nat) (p : RPic) : Int :=
  let t := s.asOf n k
  let us := t.units n rend
  let time := fun u => ((us[u]?).map (s.unitTime n k rend)).getD 0
  let begun := fun u => (p.units.getD u UnitRec.zero).phase != .waiting
  let pre : Int := ((40 * usU : Nat) : Int)
  if s.chMode n = 0 then
    let b := sc.filter begun
    let first : Int := s.now + pre + ((ceilDiv b.length (max 1 m) * (b.map time).foldl max 0 : Nat) : Int)
    (sc.filter (fun u => !begun u)).foldl (fun (e : Int) u =>
      let rows := ((us[u]?).map (t.rowsOfArea n rend)).getD []
      let due := s.slotTime n k + (((rows.foldl max 0 + 1) * t.tf n / max 1 (t.nRows n 0) : Nat) : Int)
      max e (max s.now due + pre + (time u : Int))) first
  else
    let part := fun u => ((us[u]?).map (·.part)).getD 0
    let parts := (sc.map part).eraseDups
    let long := (parts.map (fun j => ((sc.filter (fun u => part u == j)).map time).sum)).foldl max 0
    s.now + pre + ((ceilDiv parts.length (max 1 m) * long : Nat) : Int)

/-- Whether R146 chooses a re-run of a scope: no packet of its units has left, tuns with the grist exist, and it ends by
a_k + D + Tf − Tf/8 of its first picture. -/
def State.canRerun (s : State) (n rend : Nat) (scope : List (Nat × List Nat)) : Bool :=
  match scope with
  | [] => false
  | (k, _) :: _ =>
    let t := s.asOf n k
    let m := min (s.rerunTuns n k rend).length (t.npart n rend)
    let limit := s.slotTime n k + ((t.delayD n + t.tf n - t.tf n / 8 : Nat) : Int)
    decide (m > 0) && scope.all (fun x => match (s.chan n).pic x.1 rend with
      | none => true
      | some p =>
        let sc := if x.1 = k then x.2 else x.2.filter (fun u => (p.units.getD u UnitRec.zero).phase != .waiting)
        x.2.all (fun u => decide (p.sent < u) || (p.sent == u && !p.part)) && decide (s.scopeEnd n x.1 rend m sc p ≤ limit))

/-- Units marked to be coded again on the given tuns in turn; those not begun stay waiting (R92). -/
def rerunUnits (ts : List Nat) (sc : List Nat) (us : List UnitRec) : List UnitRec :=
  us.mapIdx (fun u x => if sc.contains u ∧ x.phase ≠ .waiting then
    { x with phase := .abandoned, tun := (ts[u % max 1 ts.length]?).getD x.tun, verified := false } else x)

/-- Units that are filtered again: they are checked again. -/
def refilterUnits (l : List Nat) (us : List UnitRec) : List UnitRec :=
  us.mapIdx (fun u x => if l.contains u ∧ x.phase = .coded then { x with refilter := true, verified := false } else x)

/-- Abandon the units of a scope that are being coded (R146). -/
def abandonUnits (sc : List Nat) (us : List UnitRec) : List UnitRec :=
  us.mapIdx (fun u x => if sc.contains u ∧ x.phase = .coding then { x with phase := .abandoned } else x)

/-- Change the pictures of a scope. -/
def State.scopePics (s : State) (n rend : Nat) (scope : List (Nat × List Nat)) (f : Nat → List Nat → RPic → RPic) : State :=
  scope.foldl (fun s x => match (s.chan n).pic x.1 rend with
    | some p => s.setChan n ((s.chan n).setPic x.1 rend (f x.1 x.2 p))
    | none => s) s

/-- A STANDBY that cannot re-run is not ready for the rendition; 0x1445 where it was (R149). -/
def State.chkUnready (s : State) (n rend : Nat) : State :=
  if tget (fun _ => false) s.rdn.rendReady (n * 16 + rend) then
    let s := { s with rdn := { s.rdn with
      rendReady := tset (fun _ => false) s.rdn.rendReady (n * 16 + rend) false, chkBad := nset s.rdn.chkBad (n * 16 + rend) } }
    (s.put RDN_STAT_READY 0).emit 0x1445 (((tfind s.enc.chkPlace (n * 16 + rend)).getD []).headD 0)
      (evArg [(0, 1, n), (1, 1, rend), (2, 1, 0)])
  else s

/-- The re-run units of a rendition that have not been coded and checked. -/
def Chan.rerunHits (c : Chan) (rend : Nat) : List (Nat × List Nat) :=
  c.pics.filterMap (fun x =>
    if x.1 % 16 = rend ∧ x.2.rerun then
      some (x.1 / 16, (List.range x.2.units.length).filter (fun u =>
        let y := x.2.units.getD u UnitRec.zero
        (y.phase == .abandoned || y.rerun) && !y.verified))
    else none)

/-- What follows mismatches and fences in a rendition (R146 to R149), over the hit units of each slot and those of a re-run that has not
ended: what is being coded is abandoned; then a re-run, counted in CNT_RERUN; else, on an ACTIVE device with a ready standby, a takeover
request; on a STANDBY, not ready; else the pictures are sent as coded, with abandoned units as repeat rows, and a random-access point is
forced. -/
def State.afterScope (s : State) (n rend : Nat) (hits : List (Nat × List Nat)) : State :=
  let c := s.chan n
  let hits := (c.rerunHits rend).foldl (fun l x => scopeAdd x.1 x.2 l) (hits.foldl (fun l x => scopeAdd x.1 x.2 l) [])
  let scope := s.wholeScope n rend hits
  match scope with
  | [] => s
  | (k, _) :: _ =>
    if s.canRerun n rend scope then
      let ts := (s.rerunTuns n k rend).take ((s.asOf n k).npart n rend)
      let own := fun (j : Nat) => hits.any (fun x => x.1 == j)
      let s := s.scopePics n rend scope (fun j sc p =>
        { p with units := refilterUnits (s.besideOf n j rend sc) (rerunUnits ts sc p.units), rerun := p.rerun || own j, repRows := false })
      s.cnt DEC_CHK_POOL_CNT_CNT_RERUN 1
    else
      let s := s.scopePics n rend scope (fun _ sc p => { p with units := abandonUnits sc p.units, repRows := true, rerun := false })
      if s.isActive ∧ s.bit RDN_STAT_READY then (s.logFault 5 4 0 n 0).requestTakeover
      else if s.isStandby then s.chkUnready n rend
      else s.forceRap n rend k

/-! ### Fencing a tun (R89, R90, R93) -/

/-- The renditions among hit units (channel, slot, rendition, unit), and the hits of one by slot. -/
def hitRends (l : List (Nat × Nat × Nat × Nat)) : List (Nat × Nat) := (l.map (fun x => (x.1, x.2.2.1))).eraseDups
def hitSlots (l : List (Nat × Nat × Nat × Nat)) (g : Nat × Nat) : List (Nat × List Nat) :=
  l.foldl (fun acc x => if (x.1, x.2.2.1) = g then scopeAdd x.2.1 [x.2.2.2] acc else acc) []

/-- TUN_FENCE (R89, R90): the tun stops, 0x1010 is raised, the assignment runs without it, and the units it had in flight, with the
unit of a mismatch, form re-run scopes. -/
def State.fenceTun (s : State) (t cause : Nat) (hit : List (Nat × Nat × Nat × Nat)) : State :=
  let after := fun (s : State) (l : List (Nat × Nat × Nat × Nat)) =>
    (hitRends l).foldl (fun s g => s.afterScope g.1 g.2 (hitSlots l g)) s
  if s.tunFenced t then after s hit
  else
    let fl := s.inFlight t
    let ch := if s.bit (ENC_TUN_MAP_VALID t) then s.fld (ENC_TUN_MAP_CHANNEL t) else 0xFF
    let md := match fl with
      | x :: _ => (((s.chan x.1).pic x.2.1 x.2.2.1).map (·.media)).getD 0
      | [] => 0
    let s := (((s.put (ENC_TUN_STAT_FENCED t) 1).put (ENC_TUN_STAT_CAUSE t) cause).put (ENC_TUN_STAT_BUSY t) 0).put
      (ENC_TUN_STAT_RERUN t) 0
    let s := ((s.put (ENC_TUN_STAT_REST t) 0).put (ENC_TUN_WIN_STAT_PREFILL t) 0).put (ENC_TUN_WIN_STAT_SHARING t) 0
    let s := (s.setWin t Win.zero).put (ENC_TUN_WIN_STAT_STRIPS t) 0
    let arg := evArg [(0, 1, cause), (1, 1, ch), (4, 8, md)]
    let s := s.emit 0x1010 t arg
    let s := if cause = 4 then s else s.logFault (if cause = 2 then 1 else if cause = 3 then 3 else 5) 1 0x1010 t arg
    let s := fl.foldl (fun s x => s.scopePics x.1 x.2.2.1 [(x.2.1, [x.2.2.2])] (fun _ sc p => { p with units := abandonUnits sc p.units })) s
    after s.runAssign (fl ++ hit)

/-- TUN_FENCE_CMD (R89). -/
def execTunFenceCmd (p : Port) (t : Fin 40) (v : W32) (s : State) : Host.Outcome State Fault Refusal :=
  .next (s.portWrite p (ENC_TUN_CTRL t) v (fun s => if fieldGet v 0 1 = 1 then s.fenceTun t 4 [] else s))

/-- The effect of UNFENCE on a tun: the self-test runs, UNFENCE reads 1 (R93). -/
def State.tunUnfence (s : State) (t : Nat) : State :=
  if s.tunFenced t then s.put (ENC_TUN_CTRL_UNFENCE t) 1 else s

/-- TUN_UNFENCE_CMD (R93). -/
def execTunUnfenceCmd (p : Port) (t : Fin 40) (v : W32) (s : State) : Host.Outcome State Fault Refusal :=
  .next (s.portWrite p (ENC_TUN_CTRL t) v (fun s => if fieldGet v 1 1 = 1 then s.tunUnfence t else s))

/-- TUN_SELFTEST_DONE (R89, R93, R95): after UNFENCE no failing vector clears FENCED with 0x1012 and a failure sets CAUSE 5 with 0x1013;
a tun in service that fails the self-test is fenced with cause 5. -/
def execTunSelftestDone (t : Fin 40) (failAt : Option Nat) (s : State) : Host.Outcome State Fault Refusal :=
  let bad := fun (s : State) (i : Nat) => s.emit 0x1013 t (evArg [(0, 4, i)])
  .next (if s.bit (ENC_TUN_CTRL_UNFENCE t) then
      let s := s.put (ENC_TUN_CTRL_UNFENCE t) 0
      match failAt with
      | none => ((s.put (ENC_TUN_STAT_FENCED t) 0).emit 0x1012 t 0).poolStat
      | some i => bad (s.put (ENC_TUN_STAT_CAUSE t) 5) i
    else match failAt with
      | some i => if s.tunFenced t then s else bad (s.fenceTun t 5 []) i
      | none => s)

/-! ### Checking (R142 to R151) -/

/-- The word of DEC_CHK_LAST for a mismatch. -/
def chkLast (unit tun rend ch : Nat) (bridge : Bool) : W32 :=
  fieldPut (fieldPut (fieldPut (fieldPut (fieldPut (fieldPut 0 21 11 unit) 20 1 1) 19 1 (b2n bridge)) 13 6 tun) 8 4 rend) 0 4 ch

/-- A mismatch is recorded and raises 0x1440. -/
def State.chkReport (s : State) (d : Nat) (w : W32) (media : Nat) : State :=
  (s.wr (DEC_CHK_LAST d) w).emit 0x1440 d (evArg [(0, 4, w.toNat), (4, 8, media)])

/-- A unit of a live rendition is decoded (R143 to R147): checked, with 0x1441 after the last one of a re-run, or a mismatch, which fences
the tun. -/
def State.chkRendUnit (s : State) (n k rend u : Nat) (recon : Option (List Int)) : State :=
  match (s.chan n).pic k rend with
  | none => s
  | some p =>
    let x := p.units.getD u UnitRec.zero
    match s.chkOf n k rend u p with
    | none => s
    | some d =>
      if u < p.units.length ∧ x.toCheck ∧ s.blockRuns (66 + d) ∧ (s.chkWaiting d).all (fun y => decide (x.atRaw ≤ y)) then
        let crc := recon.map (fun v => (unitCrc (depthOf ((s.asOf n k).fld (ENC_CH_REND_CODEC_DEPTH n rend))) v).toNat)
        let us := p.units.set u { x with verified := true }
        if crc = some x.crc then
          let fin := p.rerun && us.all (fun y => y.verified)
          let s := s.setChan n ((s.chan n).setPic k rend { p with units := us, rerun := p.rerun && !fin })
          ((if fin then s.emit 0x1441 d (evArg [(0, 1, n), (1, 1, rend), (4, 8, p.media)]) else s).prune n).putChkBusy d
        else
          let s := (s.setChan n ((s.chan n).setPic k rend { p with units := us })).chkReport d (chkLast u x.tun rend n false) p.media
          ((s.fenceTun x.tun 1 [(n, k, rend, u)]).prune n).putChkBusy d
      else s

/-- The check decoder of a bridge picture (R142): the unfenced one with the most free grist, of several the first. -/
def State.chkBridge (s : State) : Option Nat :=
  (sortDesc (fun d => 40960 - s.fld (DEC_CHK_LOAD_LOAD d)) ((List.range 8).filter (fun d => !s.chkFenced d && s.blockRuns (66 + d)))).head?

/-- A picture of a bridge output is decoded (R150): a mismatch fences the tun that coded it, and the output's next picture is intra. -/
def State.chkOut (s : State) (o t u crc : Nat) (recon : Option (List Int)) : State :=
  match s.chkBridge with
  | none => s
  | some d =>
    if s.recState 4 o = 0 ∨ s.enc.brgUnchk.contains o ∨ recon.map (fun v => (unitCrc 8 v).toNat) = some crc then s
    else
      let s := s.chkReport d (chkLast u t 0 0 true) s.now27
      let s := { s with brg := { s.brg with intraNext := s.brg.intraNext.filter (· ≠ o) ++ [o] } }
      s.fenceTun t 1 []

/-- CHECK_UNIT_DECODED (R142 to R147, R150): the samples that a check decoder has decoded, none where it cannot parse the unit or runs out of
its budget. Each decoder takes its units oldest first (R145). -/
def execCheckUnitDecoded (what : ChkTarget) (recon : Option (List Int)) (s : State) : Host.Outcome State Fault Refusal :=
  .next (match what with
    | .live n k rend u => s.chkRendUnit n k rend u recon
    | .bridge o t u crc => if t < 40 then s.chkOut o t u crc recon else s)

/-- A check decoder is fenced (R151, R154): 0x1443, and its shares are placed again. -/
def State.fenceChk (s : State) (d cause : Nat) : State :=
  if s.chkFenced d then s
  else
    let s := ((s.put (DEC_CHK_STAT_FENCED d) 1).put (DEC_CHK_STAT_CAUSE d) cause).put (DEC_CHK_STAT_BUSY d) 0
    let s := if cause = 3 then s else s.logFault (if cause = 2 then 1 else 6) 1 0x1443 d cause
    (s.emit 0x1443 d (evArg [(0, 1, cause)])).placeChk d

/-- CHK_DEC_TEST_SLOT (R151): the check decoder must report exactly the deliberate mismatch of the golden vector. -/
def execChkDecTestSlot (d : Fin 8) (pass : Bool) (s : State) : Host.Outcome State Fault Refusal :=
  .next (if pass then s else s.fenceChk d 1)

/-- CHK_DEC_FENCE_CMD (R151, R154). -/
def execChkDecFenceCmd (p : Port) (d : Fin 8) (v : W32) (s : State) : Host.Outcome State Fault Refusal :=
  .next (s.portWrite p (DEC_CHK_CTRL d) v (fun s => if fieldGet v 0 1 = 1 then s.fenceChk d 3 else s))

/-- The effect of UNFENCE on a check decoder: its golden-vector test runs. -/
def State.chkUnfence (s : State) (d : Nat) : State :=
  if s.chkFenced d then s.put (DEC_CHK_CTRL_UNFENCE d) 1 else s

/-- CHK_DEC_UNFENCE_CMD (R154). -/
def execChkDecUnfenceCmd (p : Port) (d : Fin 8) (v : W32) (s : State) : Host.Outcome State Fault Refusal :=
  .next (s.portWrite p (DEC_CHK_CTRL d) v (fun s => if fieldGet v 1 1 = 1 then s.chkUnfence d else s))

/-- CHK_DEC_TEST_DONE (R154): a pass unfences and the shares are placed again; after a failure CAUSE is 1. -/
def execChkDecTestDone (d : Fin 8) (pass : Bool) (s : State) : Host.Outcome State Fault Refusal :=
  .next (if s.bit (DEC_CHK_CTRL_UNFENCE d) then
      let s := s.put (DEC_CHK_CTRL_UNFENCE d) 0
      if pass then (s.put (DEC_CHK_STAT_FENCED d) 0).placeChk d else s.put (DEC_CHK_STAT_CAUSE d) 1
    else s)

/-! ### The strips of the search window (R107, R108, R110) -/

/-- WINDOW_STRIP_LOAD (R72, R107, R108, R110): the tun goes on to the next search unit of the unit that it codes, with the strips that come
and go. Corrected single-bit errors are counted; an uncorrectable one fences the tun. Lines of the reference that come back poisoned force a
random-access point in the rendition (R452, R148). -/
def execWindowStripLoad (t : Fin 40) (corrected : Nat) (uncorrectable poison : Bool) (s : State) :
    Host.Outcome State Fault Refusal :=
  .next (if s.tunFenced t then s
    else match s.inFlight t with
      | [] => s
      | (n, k, rend, u) :: _ =>
        let s := s.cnt (ENC_TUN_CNT_WINCORR_COUNT t) corrected
        let s := match (s.chan n).pic k rend, ((s.asOf n k).units n rend)[u]? with
          | some p, some a =>
            let x := p.units.getD u UnitRec.zero
            let side := searchSide ((s.asOf n k).codec n rend)
            if !s.bit (ENC_TUN_WIN_STAT_PREFILL t) ∧ x.prog + 1 < ceilDiv (a.x1 - a.x0) side ∧ s.wppReady n k rend u (x.prog + 1) p then
              s.windowStep t n k rend u p x a
            else s
          | _, _ => s
        let s := if poison then s.forceRap n rend k else s
        if uncorrectable then s.fenceTun t 2 [] else s)

end Sys2Proof.Machine
end

