-- ==== Sys2Proof/Machine/Faults.lean ====
section
/-! DEFINITION. Faults, the safe states, SAFE mode and the fault log (chapter 19). -/

namespace Sys2Proof.Machine

/-! ### Safe states (R458 to R461) -/

/-- The packets of released access units that have not left are lost (R43); the units go on being checked. -/
def State.releasedLost (s : State) : State :=
  let s := { s with enc := { s.enc with chans := s.enc.chans.map (fun c => (c.1, { c.2 with pics := c.2.pics.map (fun x =>
    if x.2.released then (x.1, { x.2 with sent := x.2.units.length, part := false }) else x) })) } }
  (List.range 16).foldl (fun s n => (s.prune n).endRun n) s

/-- Force the safe states (R458): transmit lanes idle, egress stopped with its queues discarded, timing pins inactive. The
audio outputs and the lease read `forced`. -/
def State.forceSafe (s : State) : State :=
  if s.safe.forced then s
  else
    let s := { s with safe := { s.safe with forced := true }, phy := { s.phy with idle := List.range 16 },
                      brg := { s.brg with pacers := [] } }.releasedLost
    (List.range 8).foldl (fun s i => if s.bit (TB_TIO_CFG_OUT i) then s.tioEnd i else s) s

/-- The quads that a failed clock of their own holds idle (R510): their LC PLL, or their reference. -/
def State.quadFailed (s : State) (q : Nat) : Bool := s.failedMon (12 + q) || s.failedMon (1 + s.fld (LNK_QUAD_CFG_REFSEL q))

/-- Restart the bring-up of links whose quads are free again (R511). -/
def State.linksResume (s : State) : State :=
  (List.range 32).foldl (fun s k =>
    if s.linkEn k ∧ !(s.linkQuads k).any (fun q => s.phy.idle.contains q) then s.linkStart k else s) s

/-- End the safe states when no cause is left; SAFE mode keeps them (R459, R511). The lanes restart bring-up. -/
def State.clearSafe (s : State) : State :=
  if !s.safe.forced ∨ s.safe.mode ∨ s.safe.hotCrit ∨ s.safe.clkFail ∨ s.safe.brownout then s
  else
    let s := { s with safe := { s.safe with forced := false } }
    let s := { s with phy := { s.phy with idle := (List.range 16).filter s.quadFailed } }
    s.linksResume

/-- The mode changes: event 0x0201. -/
def State.setMode (s : State) (m : Nat) : State :=
  let old := s.fld PWR_MODE_CUR
  if old = m then s else (s.put PWR_MODE_CUR m).emit 0x0201 0 (evArg [(0, 1, m), (1, 1, old)])

/-- Enter SAFE mode (R461, R462): lease released, fault log record with ACTION 5, event 0x0001. -/
def State.enterSafe (s : State) (cls cause inst : Nat) : State :=
  if s.safe.mode then s
  else
    let s := s.forceSafe
    let s := { s with safe := { s.safe with mode := true } }
    let s := s.releaseLease
    let arg := evArg [(0, 1, cls), (1, 1, cause), (4, 4, s.cask.boot)]
    let s := s.logFault cls 5 0x0001 inst arg
    let s := (s.put SYS_STAT_SAFE 1).put SYS_STAT_SAFE_CAUSE cause
    let s := { s with cask := { s.cask with safeHist := s.cask.safeHist ++ [(cls, s.nowNs.toNat)] } }
    (s.emit 0x0001 inst arg).setMode 5

/-- Whether three entries within one hour on one CLASS hold the next start-up in BOOT (R462). -/
def safeHeld (h : List (Nat × Nat)) : Bool :=
  h.any (fun x => x.1 != 0 &&
    decide (3 ≤ h.countP (fun y => y.1 == x.1 && decide (x.2 ≤ y.2 ∧ y.2 ≤ x.2 + 3600000000000))))

/-! ### Memory and fabric faults (R450, R453) -/

/-- A line of the context cache with a double-bit error: a clean one is fetched again, a dirty one loses its newest state
(R450, R214). -/
def State.lineLost (s : State) (f : Nat) : State :=
  let x := s.fx f
  if !x.resident then s
  else
    let s := s.setFx f { x with resident := false, dirty := false }
    let arg := evArg [(0, 1, 0), (4, 4, f)]
    let s := if x.dirty then s.logFault 1 0 0x1703 (s.ff f 8 2) arg else s.logFault 1 2 0 (s.ff f 8 2) arg
    if x.dirty then (s.rp 0 f 0 1 3).emit 0x1703 (s.ff f 8 2) arg
    else if s.brg.fetches.contains f then s
    else { s with brg := { s.brg with fetches := s.brg.fetches ++ [f] } }

/-- SRAM_UNCORRECTABLE (R450): the engine that owns the memory is fenced; the forwarding packet buffer is caught by stage 6
(R245). -/
def execSramUncorrectable (o : MemOwner) (s : State) : Host.Outcome State Fault Refusal :=
  .next (match o with
    | .tun t => s.fenceTun t 2 []
    | .chkDec d => s.fenceChk d 2
    | .decCore d => s.fenceCore d 2
    | .pipe p => s.fencePipe p 2 0
    | .kettle c => s.fenceKet c 2
    | .chkUnit u => s.fenceUnit u 2
    | .ctxLine f => s.lineLost f
    | .fwdBuffer => s.logFault 1 0 0 0 0)

/-- An engine's own fabric port fails (R453): fenced with the fabric cause, or with the memory cause where its CAUSE field has
none for the fabric. -/
def State.portFence (s : State) (o : MemOwner) : State :=
  match o with
  | .tun t => s.fenceTun t 3 []
  | .decCore d => s.fenceCore d 3
  | .chkDec d => s.fenceChk d 2
  | .pipe p => s.fencePipe p 2 0
  | .kettle c => s.fenceKet c 2
  | .chkUnit u => s.fenceUnit u 2
  | .ctxLine _ => s
  | .fwdBuffer => s

/-- FABRIC_PARITY_ERROR (R453): a flit on a wort-fabric link fails parity. At an engine's own port the engine is fenced; else
the previous hop sends it again, and a flit that failed twice, or more than 16 resends of the link in 1 ms, is SAFE mode. -/
def execFabricParityError (link : Fin 1024) (plane : Fin 2) (again : Bool) (own : Option MemOwner) (s : State) :
    Host.Outcome State Fault Refusal :=
  .next (match own with
    | some o => s.portFence o
    | none =>
      let w := ((tget (fun _ => []) s.safe.linkWin link).filter (fun r => decide (s.raw < r + msU))) ++ [s.raw]
      let s := { s with safe := { s.safe with linkWin := tset (fun _ => []) s.safe.linkWin link w } }
      if again ∨ w.length > 16 then s.enterSafe 3 3 0xFF
      else (s.emitLim 0x0004 plane 1 0).logFault 3 2 0x0004 plane (evArg [(0, 4, 1)]))

/-- CONTROL_PARITY_ERROR (R453, R562): an access fails, or a status update of the mirror does, and the entry reads with an
error until it is refreshed. -/
def execControlParityError (p : Port) (a : Nat) (update write : Bool) (s : State) : Host.Outcome State Fault Refusal :=
  .next (if update then { s with ctl := { s.ctl with stale := if s.ctl.stale.contains a then s.ctl.stale else a :: s.ctl.stale } }
    else s.accessFail p a write 5)

/-! ### SAFE mode (R449, R460) -/

/-- MGMT_LOCKSTEP_MISMATCH (R460, R461): the pair is fenced and SAFE mode follows; with no pair left PD0 forces the safe states
and nothing else. -/
def execMgmtLockstepMismatch (pair : Fin 2) (s : State) : Host.Outcome State Fault Refusal :=
  .next (if !nbit s.safe.pairs pair then s
    else
      let v := nclr s.safe.pairs pair
      let s := ({ s with safe := { s.safe with pairs := v } }).put SYS_STAT_MGMT_OK v
      if v = 0 then s.forceSafe else s.enterSafe 4 1 pair)

/-- FAULT_LOG_HOURLY (R464): one record with ACTION 6 for each CLASS with corrected errors. -/
def execFaultLogHourly (s : State) : Host.Outcome State Fault Refusal :=
  .next (if s.raw - s.safe.hourRaw < 3600 * secU then s
    else
      let cs := s.safe.hourCnt
      let s := { s with safe := { s.safe with hourCnt := [], hourRaw := s.raw } }
      cs.foldl (fun s c => s.logWrite c.1 6 0 0 (evArg [(0, 4, c.2)]) 0) s)

/-- FWD_TEST_SLOT (R449). -/
def execFwdTestSlot (pass : Bool) (s : State) : Host.Outcome State Fault Refusal :=
  .next (if pass then s else s.enterSafe 6 2 0xFF)

/-- IMAGE_COPY_ERROR (R460): the error lies in DRAM (CLASS 2) or in on-chip SRAM (CLASS 1). -/
def execImageCopyError (dram : Bool) (s : State) : Host.Outcome State Fault Refusal :=
  .next (s.enterSafe (if dram then 2 else 1) 4 0xFF)

/-- SAFE_COMMAND (R460): a write of SYS_CTRL. -/
def State.safeCmd (s : State) (v : W32) : State := if fieldGet v 0 1 = 1 then s.enterSafe 0 5 0xFF else s
def execSafeCommand (p : Port) (v : W32) (s : State) : Host.Outcome State Fault Refusal :=
  .next (s.portWrite p SYS_CTRL v (fun s => s.safeCmd v))

end Sys2Proof.Machine
end

