-- ==== Sys2Proof/Machine/Dram.lean ====
section
/-! DEFINITION. DRAM controllers (chapter 21). Memory holds what a read returns, the last write to each byte that reached the
controller (R487); the queues decide what is counted and when a burst's poison bit changes. -/

namespace Sys2Proof.Machine

/-! ### The address map (R477 to R481) -/

/-- The system address of a data address of a channel. -/
def State.sysOf (s : State) (c d : Nat) : Nat :=
  let side := s.drU - s.drG
  if d < side then c / 12 * 2 ^ 38 + (d / 4096 * 12 + c % 12) * 4096 + d % 4096
  else
    let e := d - side
    2 ^ 39 + (e / 4096 * 24 + c) * 4096 + e % 4096

/-- Whether an access lies in one populated channel. -/
def State.populated (s : State) (a len : Nat) : Bool :=
  match s.xlate a, s.xlate (a + (len - 1)) with
  | some x, some y => x.1 == y.1
  | _, _ => false

/-- UCLK cycles in 2⁻¹⁶ ns at a RATE code (R477, R505). -/
def rateMt (r : Nat) : Nat := [1600, 3200, 4267, 6400, 7500, 8533, 9600].getD r 9600
def State.uclk (s : State) (c n : Nat) : Nat := n * 8 * usU / rateMt (s.fld (DRM_CH_STAT_RATE c))

/-! ### Poison (R483, R484, R451) -/

/-- A burst is poisoned, or not any more. -/
def State.poisonSet (s : State) (b : Nat) (v : Bool) : State :=
  let c := s.chanOf (64 * b)
  let x := s.drc c
  let l := x.poison.filter (· ≠ b)
  s.setDrc c { x with poison := if v then b :: l else l }

/-- An uncorrectable burst: 0x0E01 and a fault-log record of CLASS 2 (R484). -/
def State.poisonSeen (s : State) (b : Nat) (scrub : Bool) : State :=
  let c := s.chanOf (64 * b)
  let arg := evArg [(0, 1, b2n scrub), (1, 1, s.rankOf (64 * b)), (4, 8, s.rawAddr (64 * b))]
  let s := (s.poisonSet b true).cnt (DRM_CH_CNT_POISON_COUNT c) 1
  (s.emit 0x0E01 c arg).logFault 2 0 0x0E01 c arg

/-! ### Queues (R483, R485 to R488) -/

/-- The channel of an access uses the ECC burst of its block (R482): the cache holds 256; which one leaves it for another is free. A write
makes it dirty. -/
def State.eccUse (s : State) (a : Nat) (w : Bool) : State :=
  let c := s.chanOf a
  let x := s.drc c
  let b := s.rawAddr a / 512
  if x.ecc.any (fun e => e.1 == b) then s.setDrc c { x with ecc := x.ecc.map (fun e => if e.1 = b then (b, e.2 || w) else e) }
  else if x.ecc.length < 256 then s.setDrc c { x with ecc := x.ecc ++ [(b, w)] }
  else (s.setDrc c { x with ecc := x.ecc.eraseIdx (Config.eccVictim c s.fresh % 256) ++ [(b, w)] }).draw

/-- A write reaches its burst (R483): a whole burst clears the poison bit, a merge keeps it, and sets it where the read that it
needs is uncorrectable. Its check bytes change in the ECC cache. -/
def State.drApply (s : State) (w : DrWrite) : State :=
  let s := s.eccUse (64 * w.burst) true
  if w.ofs = 0 ∧ w.bytes.length ≥ 64 then s.poisonSet w.burst false
  else if w.ue ∧ !s.isPoison w.burst then s.poisonSet w.burst true
  else s

/-- Drain the n oldest writes of a channel. -/
def State.drDrain (s : State) (c n : Nat) : State :=
  let x := s.drc c
  (x.writes.take n).foldl (fun s w => s.drApply w) (s.setDrc c { x with writes := x.writes.drop n })

/-- A rank is accessed: it leaves power-down and its idle count restarts (R490). -/
def State.drTouch (s : State) (a : Nat) : State :=
  let c := s.chanOf a
  let r := s.rankOf a
  let x := s.drc c
  (s.setDrc c { x with last := x.last.set r s.raw }).put (DRM_CH_STAT_PD c) (nclr (s.fld (DRM_CH_STAT_PD c)) r)

/-- Whether a queued write covers an address. -/
def queuedByte (ws : List DrWrite) (a : Nat) : Bool :=
  ws.any (fun w => let lo := 64 * w.burst + w.ofs
    decide (lo ≤ a ∧ a < lo + w.bytes.length))

/-- The position after the last queued write that overlaps a range: what a partial hit drains. -/
def lastHit (ws : List DrWrite) (a len : Nat) : Nat :=
  (ws.foldl (fun (p : Nat × Nat) w =>
    let lo := 64 * w.burst + w.ofs
    (p.1 + 1, if lo < a + len ∧ a < lo + w.bytes.length then p.1 + 1 else p.2)) (0, 0)).2

/-- Return to each requester, in its order, the reads that have their data (R488). -/
def State.drReturn : Nat → State → Nat → State
  | 0, s, _ => s
  | n + 1, s, c =>
    let x := s.drc c
    match x.reads.find? (fun r => r.res.isSome && !(x.reads.any (fun q => q.req == r.req && decide (q.num < r.num)))) with
    | none => s
    | some r =>
      let s := s.setDrc c { x with reads := x.reads.erase r }
      ({ s with dr := { s.dr with ret := s.dr.ret ++ [(r.num, r.data, r.res.getD 0)] } }).drReturn n c

/-- Whether a channel serves accesses (R490 to R492): it is in service, or zero-fills other segments. -/
def State.segOf (s : State) (a : Nat) : Nat :=
  if s.drRank = 0 then 0 else s.rankOf a * 8 + s.rawAddr a % s.drRank * 8 / s.drRank
def State.drServes (s : State) (c a : Nat) : Bool :=
  s.fld (DRM_CH_STAT_STATE c) == 3 || (s.fld (DRM_CH_STAT_STATE c) == 9 && !(s.drc c).fill.contains (s.segOf a))

/-- A read enters the controller (R487): it is served from the write queue, after a drain, or from DRAM. -/
def State.drTakeRead (s : State) (num : Nat) (req : Requester) (addr len : Nat) : State :=
  let c := s.chanOf addr
  let ws := (s.drc c).writes
  let d := s.dbytes addr len
  if (List.range len).all (fun i => queuedByte ws (addr + i)) then
    let x := s.drc c
    let s := s.setDrc c { x with reads := x.reads ++ [⟨num, req, addr, len, d, some 0⟩] }
    (s.cnt (DRM_CH_CNT_FWD_COUNT c) 1).drReturn 64 c
  else
    let k := lastHit ws addr len
    let s := if k = 0 then s else (s.drDrain c k).cnt (DRM_CH_CNT_HITDRAIN_COUNT c) 1
    let x := s.drc c
    (s.setDrc c { x with reads := x.reads ++ [⟨num, req, addr, len, d, none⟩] }).drTouch addr

/-- A write enters the controller (R483, R486): at the high watermark the queue drains to the low one. -/
def State.drTakeWrite (s : State) (burst ofs : Nat) (bytes : List Byte) (ue : Bool) : State :=
  let a := 64 * burst + ofs
  let c := s.chanOf a
  let x := s.drc c
  let s := (((s.dputs a bytes).setDrc c { x with writes := x.writes ++ [⟨burst, ofs, bytes, ue, s.raw⟩] })).drTouch a
  let n := x.writes.length + 1
  if n ≥ s.fld (DRM_CH_SCHED_WR_HIGH c) then s.drDrain c (n - s.fld (DRM_CH_SCHED_WR_LOW c)) else s

/-- A request enters the controller. -/
def State.drTake (s : State) : DrReq → State
  | .read num req addr len => s.drTakeRead num req addr len
  | .write _ burst ofs bytes ue => s.drTakeWrite burst ofs bytes ue

/-- Whether a channel has a credit for a request (R485): its queue of 64 has room and the channel serves. -/
def State.drCredit (s : State) (c : Nat) (q : DrReq) : Bool :=
  s.drServes c q.addr && (match q with
    | .read _ _ _ _ => decide ((s.drc c).reads.length < 64)
    | .write _ _ _ _ _ => decide ((s.drc c).writes.length < 64))

/-- The requests that the fabric holds for a channel enter it while it has credits, in the order of each class and as the link's arbiter
grants them (R15 to R17). -/
def State.drAdmit : Nat → State → Nat → State
  | 0, s, _ => s
  | f + 1, s, c =>
    let x := s.drc c
    let head := fun k => x.held.find? (fun q => q.cls == k)
    match x.arb.pick (fun k => (head k).any (s.drCredit c)) with
    | none => s
    | some (k, arb) =>
      match head k with
      | none => s
      | some q => State.drAdmit f ((s.setDrc c { x with held := x.held.erase q, arb := arb }).drTake q) c

/-- A request reaches the fabric port of its channel. -/
def State.drAsk (s : State) (q : DrReq) : State :=
  let c := s.chanOf q.addr
  let x := s.drc c
  (s.setDrc c { x with held := x.held ++ [q] }).drAdmit (x.held.length + 1) c

/-- An access outside the populated windows is refused (R480) and counted with the violations of R169 where a decode core asked. -/
def State.drRefuse (s : State) : Requester → State
  | .decCore _ => s.cnt DEC_POOL_CNT_DMA_COUNT 1
  | _ => s

/-- The parts of a range that lie in one burst each: address and length. -/
def burstParts (a len : Nat) : List (Nat × Nat) :=
  (burstsOf a len).map (fun b => (max a (64 * b), min (a + len) (64 * b + 64) - max a (64 * b)))

/-- DRAM_READ (R15, R480, R485, R487): each part of the range in one burst is a read of its own; outside the populated windows it returns
zeros with an error. -/
def execDramRead (req : Requester) (addr len : Nat) (s : State) : Host.Outcome State Fault Refusal :=
  .next ((burstParts addr len).foldl (fun s p =>
    let num := s.dr.num
    let s := { s with dr := { s.dr with num := num + 1 } }
    if s.populated p.1 p.2 then s.drAsk (.read num req p.1 p.2)
    else ({ s with dr := { s.dr with ret := s.dr.ret ++ [(num, List.replicate p.2 0, 2)] } }).drRefuse req) s)

/-- DRAM_READ_RETURN (R451, R484, R485): read `num` is issued and its data come from DRAM with `ce` words corrected; `ue` is a burst of the read
whose first decode was uncorrectable, with whether a retry was clean. Reads of class T are issued before others; which of the others is the
oldest whose bank is ready is for the command, since no rule maps addresses to banks. -/
def execDramReadReturn (c : Fin 24) (num ce : Nat) (ue : Option (Nat × Bool)) (s : State) : Host.Outcome State Fault Refusal :=
  .next (match (s.drc c).reads.find? (fun r => r.num == num && r.res.isNone &&
      (r.req.cls == .timed || (s.drc c).reads.all (fun q => q.req.cls != .timed || q.res.isSome))) with
    | none => s
    | some r =>
      let s := s.eccUse r.addr false
      let s := s.cnt (DRM_CH_CNT_CE_COUNT c) ce
      let s := if ce > 0 then s.countCorrected 2 else s
      let bs := burstsOf r.addr r.len
      let marked := bs.filter s.isPoison
      let (s, bad) : State × List Nat := match ue with
        | none => (s, marked)
        | some (i, ok) =>
          let b := bs.getD i 0
          if i ≥ bs.length ∨ marked.contains b then (s, marked)
          else
            let s := s.cnt (DRM_CH_CNT_UE_COUNT c) 1
            if ok then ((s.cnt (DRM_CH_CNT_RETRY_COUNT c) 1).logFault 2 2 0 c 0, marked) else (s, b :: marked)
      let s := bad.foldl (fun s b => s.poisonSeen b false) s
      let x := s.drc c
      let rs := x.reads.map (fun q => if q.num = num then { q with res := some (b2n (!bad.isEmpty)) } else q)
      ((s.setDrc c { x with reads := rs }).drReturn 64 c).drAdmit (s.drc c).held.length c)

/-- DRAM_WRITE (R15, R480, R483, R486): bytes from an offset of a burst, at most to its end; discarded outside the populated windows. `ue`
says whether the read that a merge needs is uncorrectable. -/
def execDramWrite (req : Requester) (burst : Nat) (ofs : Fin 64) (bytes : List Byte) (ue : Bool) (s : State) :
    Host.Outcome State Fault Refusal :=
  .next (
    let bytes := bytes.take (64 - ofs)
    if bytes = [] then s
    else if s.populated (64 * burst + ofs) bytes.length then s.drAsk (.write req burst ofs bytes ue)
    else s.drRefuse req)

/-- WRITE_AGE_EXPIRE (R486): the oldest write has waited WR_AGE cycles. -/
def execWriteAgeExpire (c : Fin 24) (s : State) : Host.Outcome State Fault Refusal :=
  .next (match (s.drc c).writes with
    | [] => s
    | w :: _ => if s.raw - w.raw ≥ s.uclk c (s.fld (DRM_CH_SCHED_WR_AGE c)) then
      (s.drDrain c (s.drc c).writes.length).drAdmit (s.drc c).held.length c else s)

/-- At a tick each channel with writes and no read issues one write (R486), and takes the held requests that it has room for (R485). -/
def State.drIdle (s : State) : State :=
  s.dr.chs.foldl (fun s kv =>
    (if kv.2.reads.isEmpty ∧ !kv.2.writes.isEmpty then s.drDrain kv.1 1 else s).drAdmit kv.2.held.length kv.1) s

/-! ### Refresh, power-down, zero-fill, scrub (R489 to R493) -/

/-- REFRESH_DUE (R489, R490): a bank of rank r is refreshed; the rank wakes and its idle count runs on. -/
def execRefreshDue (c : Fin 24) (r : Fin 2) (s : State) : Host.Outcome State Fault Refusal :=
  .next (s.put (DRM_CH_STAT_PD c) (nclr (s.fld (DRM_CH_STAT_PD c)) r))

/-- RANK_POWER_DOWN (R490). -/
def execRankPowerDown (c : Fin 24) (r : Fin 2) (s : State) : Host.Outcome State Fault Refusal :=
  .next (
    let x := s.drc c
    let busy := x.reads.any (fun q => s.rankOf q.addr == r.val) || x.writes.any (fun w => s.rankOf (64 * w.burst) == r.val)
    if s.fld (DRM_CH_STAT_STATE c) = 3 ∧ r.val < s.drRanks ∧ s.bit (DRM_CH_PWR_PD_EN c) ∧ !busy ∧
        s.raw - x.last.getD r 0 ≥ s.uclk c (s.fld (DRM_CH_PWR_PD_IDLE c)) then
      s.put (DRM_CH_STAT_PD c) (nset (s.fld (DRM_CH_STAT_PD c)) r)
    else s)

/-- ZERO_FILL_DONE (R492): a masked segment reads as zero, with its poison mask clear. -/
def execZeroFillDone (c : Fin 24) (seg : Fin 16) (s : State) : Host.Outcome State Fault Refusal :=
  .next (
    let x := s.drc c
    if s.fld (DRM_CH_STAT_STATE c) ≠ 9 ∨ !x.fill.contains seg.val then s
    else
      let inSeg (a : Nat) : Bool := decide (s.xlate a ≠ none) && s.chanOf a == c.val && s.segOf a == seg.val
      let fill := x.fill.filter (· ≠ seg.val)
      let s := s.setDrc c { x with fill := fill, poison := x.poison.filter (fun b => !inSeg (64 * b)) }
      let s := { s with dram := s.dram.filter (fun kv => !inSeg kv.1) }
      if fill = [] then s.put (DRM_CH_STAT_STATE c) 3 else s)

/-- SCRUB_READ (R493): the next block is read; `ce` words are corrected and written back, the bursts `ue` are uncorrectable. -/
def execScrubRead (c : Fin 24) (ce : Nat) (ue : List (Fin 7)) (s : State) : Host.Outcome State Fault Refusal :=
  .next (if s.fld (DRM_CH_STAT_STATE c) ≠ 3 then s
    else
      let b := s.fld (DRM_CH_SCRUB_BLOCK c)
      let s := s.cnt (DRM_CH_CNT_CE_COUNT c) ce
      let s := if ce > 0 then s.countCorrected 2 else s
      let s := ue.foldl (fun s i => s.poisonSeen (s.sysOf c (b * 448 + i * 64) / 64) true) s
      if b + 1 ≥ s.drRaw / 512 then
        (s.put (DRM_CH_SCRUB_BLOCK c) 0).put (DRM_CH_SCRUB_PASSES c) (s.fld (DRM_CH_SCRUB_PASSES c) + 1)
      else s.put (DRM_CH_SCRUB_BLOCK c) (b + 1))

/-- A rank's refresh multiplier as MR4 gives it (R489); the field shows the greatest of the channel. -/
def State.drMult (s : State) (c r m : Nat) : State :=
  let x := s.drc c
  if r ≥ s.drRanks ∨ x.mult.getD r 0 = m then s
  else
    let s := s.setDrc c { x with mult := x.mult.set r m }
    let s := s.put (DRM_CH_STAT_REFRESH c) ((x.mult.set r m).foldl max 0)
    s.emit 0x0E05 c (evArg [(0, 1, r), (1, 1, m)])

/-! ### Self-refresh and set points (R491, R492, R500, R501) -/

/-- The channels that the image describes. -/
def State.drChans (s : State) : List Nat := (List.range 24).filter (fun c => s.bit (DRM_CH_CFG_EN c))

/-- The RATE code that USE_ALT selects. -/
def State.drRate (s : State) : Nat := if s.bit DRM_CFG_USE_ALT then s.fld DRM_CFG_ALT_RATE else s.fld DRM_CFG_RATE

/-- Self-refresh entry: queues drained, dirty lines of the ECC cache written back, masked segments lost (R491, R492). -/
def State.drSleep (s : State) : State :=
  s.drChans.foldl (fun s c =>
    if s.fld (DRM_CH_STAT_STATE c) = 3 ∨ s.fld (DRM_CH_STAT_STATE c) = 9 then
      let s := s.drDrain c (s.drc c).writes.length
      let m := s.fld (DRM_CH_PASR_RANK0 c) + 256 * s.fld (DRM_CH_PASR_RANK1 c)
      (s.setDrc c { s.drc c with
        fill := ((s.drc c).fill ++ bitsOf m (8 * s.drRanks)).eraseDups, ecc := (s.drc c).ecc.map (fun e => (e.1, false)) }).put (DRM_CH_STAT_STATE c) 7
    else s) s

/-- Self-refresh exit: masked segments are zero-filled before they serve. -/
def State.drWake (s : State) : State :=
  s.drChans.foldl (fun s c =>
    if s.fld (DRM_CH_STAT_STATE c) = 7 then s.put (DRM_CH_STAT_STATE c) (if (s.drc c).fill = [] then 3 else 9) else s) s

/-- The set point changes (R500, R501): the channels switch in order; training in progress restarts its step with INVALID. -/
def State.drSwitch (s : State) : State :=
  let s := { s with dr := { s.dr with setPend := false } }
  let r := s.drRate
  let s := s.drChans.foldl (fun s c =>
    let st := s.fld (DRM_CH_STAT_STATE c)
    let s := (s.put (DRM_CH_STAT_PD c) 0).put (DRM_CH_STAT_RATE c) r
    if st = 1 ∨ st = 2 ∨ st = 4 then s.put (DRM_TR_STAT_INVALID c) 1 else s) s
  s.emit 0x0E03 (s.drChans.getLastD 0) (evArg [(0, 1, r)])

/-- A change of USE_ALT (R26, R501): while a channel gathers training data it waits for the end of the pattern burst in progress. -/
def State.drSetPoint (s : State) : State :=
  if s.drChans.any (fun c => s.fld (DRM_CH_STAT_STATE c) == 1 || s.fld (DRM_CH_STAT_STATE c) == 2) then
    { s with dr := { s.dr with setPend := true } }
  else s.drSwitch

/-- The pattern burst ends within a tick: a set-point change that waits goes on (R501). -/
def State.drPending (s : State) : State := if s.dr.setPend then s.drSwitch else s

/-- A pitch of DRM_CH_CTRL.MODE (R499): in and out of TRAIN mode. -/
def State.drMode (s : State) (c : Nat) : State :=
  let st := s.fld (DRM_CH_STAT_STATE c)
  if s.bit (DRM_CH_CTRL_MODE c) then
    (if st = 3 then (s.put (DRM_CH_STAT_STATE c) 4).put DRM_STAT_READY (nclr (s.fld DRM_STAT_READY) c) else s)
  else if st = 4 then (s.put (DRM_CH_STAT_STATE c) 3).put DRM_STAT_READY (nset (s.fld DRM_STAT_READY) c)
  else s

/-! ### Training (R495 to R498) -/

/-- The zone of a channel's PHY (R526). -/
def drZone (c : Nat) : Nat := 12 + c / 6

/-- The last-good record of a channel, rank and set point, and its rate. -/
def goodKey (c r sp : Nat) : Nat := (2 * c + r) * 2 + sp
def State.setPoints (s : State) : List Nat := if s.fld DRM_CFG_ALT_RATE = 15 then [0] else [0, 1]
def State.spRate (s : State) (sp : Nat) : Nat := if sp = 0 then s.fld DRM_CFG_RATE else s.fld DRM_CFG_ALT_RATE

/-- Whether the fast path applies (R497). -/
def State.fastOk (s : State) (c : Nat) : Bool :=
  (List.range s.drRanks).all (fun r => s.setPoints.all (fun sp =>
    let g := tget (fun _ => LastGood.zero) s.cask.lastGood (goodKey c r sp)
    g.present && g.rate == s.spRate sp && g.ident == Config.partIdent c r &&
      decide ((g.temp - s.zoneCold (drZone c)).natAbs ≤ 40)))

/-- Write the last-good records of a channel (R496). -/
def State.saveGood (s : State) (c : Nat) (words : List W32) : State :=
  let ks := (List.range s.drRanks).flatMap (fun r => s.setPoints.map (fun sp => (r, sp)))
  { s with cask := { s.cask with lastGood := ks.foldl (fun t k =>
      tset (fun _ => LastGood.zero) t (goodKey c k.1 k.2)
        ⟨true, s.spRate k.2, Config.partIdent c k.1, s.zoneCold (drZone c), words⟩) s.cask.lastGood } }

/-- A channel starts training: refused for cold, on the fast path, or in full (R497, R498). -/
def State.drTrain (s : State) (c : Nat) : State :=
  let z := drZone c
  if s.belowLimit z then
    let x := s.drc c
    let s := (s.setDrc c { x with cold := true }).put (DRM_CH_STAT_STATE c) 5
    if x.cold then s else s.emit 0x0E04 c (evArg [(0, 1, z)])
  else
    let f := s.fastOk c
    (s.setDrc c { s.drc c with again := false, fast := f, start := s.raw }).put (DRM_CH_STAT_STATE c) (if f then 2 else 1)

/-- Channels refused for cold start when their zone reaches COLD_WARN (R498). -/
def State.drWarm (s : State) : State :=
  s.drChans.foldl (fun s c =>
    if s.fld (DRM_CH_STAT_STATE c) = 5 ∧ s.reachedWarn (drZone c) then s.drTrain c else s) s

/-- Start-up step 5 ends when every channel has finished (R497); step 6 begins. -/
def State.step5Check (s : State) : State :=
  if s.atStep 5 ∧ s.drChans.all (fun c => s.fld (DRM_CH_STAT_STATE c) == 3 || s.fld (DRM_CH_STAT_STATE c) == 6) then
    (s.bootStepDone 5).lanesStart
  else s

/-- Start-up step 5: every channel trains at once. -/
def State.dramStart (s : State) : State := (s.drChans.foldl (fun s c => s.drTrain c) s).step5Check

/-- A channel passed verification; segments that self-refresh lost are zero-filled before they serve (R492, R520). -/
def State.drPass (s : State) (c res : Nat) (words : List W32) : State :=
  let x := s.drc c
  let s := s.saveGood c words
  let s := ((s.put (DRM_CH_STAT_STATE c) (if x.fill = [] then 3 else 9)).put (DRM_CH_STAT_SRC c) (if res = 1 then 2 else 1)).put (DRM_CH_STAT_RATE c) s.drRate
  let s := s.put DRM_STAT_READY (nset (s.fld DRM_STAT_READY) c)
  let s := s.setDrc c { s.drc c with last := [s.raw, s.raw] }
  (s.emit 0x0E02 c (evArg [(0, 1, res), (4, 4, (s.raw - x.start) / msU)])).step5Check

/-- DRAM_TRAINING_DONE (R495 to R497): the verification of a channel ends with its trained values. A failed fast path runs full
training; a failed full training runs once more, and then the channel has failed. -/
def execDramTrainingDone (c : Fin 24) (pass : Bool) (words : List W32) (s : State) : Host.Outcome State Fault Refusal :=
  .next (
    let x := s.drc c
    match s.fld (DRM_CH_STAT_STATE c) with
    | 2 => if pass then s.drPass c 1 words else s.put (DRM_CH_STAT_STATE c) 1
    | 1 =>
      if pass then s.drPass c (if x.fast then 2 else 0) words
      else if !x.again then s.setDrc c { x with again := true }
      else
        let s := s.put (DRM_CH_STAT_STATE c) 6
        (s.emit 0x0E02 c (evArg [(0, 1, 3), (4, 4, (s.raw - x.start) / msU)])).step5Check
    | _ => s)

/-! ### Training helpers (R494, R499) -/

/-- What a helper finds: compare errors and passing edges of the 18 bits. -/
structure TrFound where
  errors : List Nat
  edges  : List (Option (Nat × Nat))
  deriving DecidableEq, Repr

/-- A write of DRM_TR_CMD: outside TRAIN mode ERR = 1; OP 1 writes the pattern, 2 compares, 3 sweeps, 4 applies. -/
def State.trCmd (s : State) (c : Nat) (v : W32) (f : TrFound) : State :=
  let op := fieldGet v 28 4
  if s.fld (DRM_CH_STAT_STATE c) ≠ 4 then s.put (DRM_TR_STAT_ERR c) 1
  else
    let s := s.put (DRM_TR_STAT_ERR c) 0
    if op = 2 then (List.range 18).foldl (fun s b => s.cnt (DRM_TR_ERR_COUNT c b) (f.errors.getD b 0)) s
    else if op = 3 then
      let put (s : State) (b l r m : Nat) : State :=
        ((s.put (DRM_TR_EDGE_LEFT c b) l).put (DRM_TR_EDGE_RIGHT c b) r).put (DRM_TR_EDGE_CENTRE c b) m
      let s := (List.range 18).foldl (fun s b => match f.edges.getD b none with
        | some (l, r) => put s b l r ((l + r) / 2)
        | none =>
          let n := s.fresh
          (put s b (Config.trNoEdge c (3 * b) n) (Config.trNoEdge c (3 * b + 1) n) (Config.trNoEdge c (3 * b + 2) n)).draw) s
      let s := if (List.range 18).any (fun b => (f.edges.getD b none).isNone) then s.put (DRM_TR_STAT_ERR c) 2 else s
      let x := s.drc c
      s.setDrc c { x with sweep := some (s.fld (DRM_TR_SWEEP_PARAM c),
        (List.range 18).map (fun b => s.fld (DRM_TR_EDGE_CENTRE c b))) }
    else if op = 4 then
      let x := s.drc c
      match x.sweep with
      | some (p, cs) => s.setDrc c { x with params := tput x.params p cs }
      | none => s
    else s

/-- What helpers find where nothing else says: free. -/
def State.trFree (s : State) (c : Nat) : TrFound :=
  ⟨(List.range 18).map (fun b => Config.trErrors c b s.fresh), (List.range 18).map (fun b => Config.trEdges c b s.fresh)⟩

/-- The word of a helper command. -/
def trWord (op rank count : Nat) : W32 := BitVec.ofNat 32 (op * 2 ^ 28 + rank * 2 ^ 24 + count)

/-- TR_PATTERN_WRITE, TR_READ_COMPARE, TR_SWEEP, TR_APPLY_CENTRES (R494, R499): writes of DRM_TR_CMD. -/
def execTrPatternWrite (p : Port) (c : Fin 24) (rank : Fin 2) (count : Fin 8192) (s : State) : Host.Outcome State Fault Refusal :=
  .next (let v := trWord 1 rank count
    s.portWrite p (DRM_TR_CMD c) v (fun s => s.trCmd c v ⟨[], []⟩))
def execTrReadCompare (p : Port) (c : Fin 24) (rank : Fin 2) (count : Fin 8192) (errors : List Nat) (s : State) :
    Host.Outcome State Fault Refusal :=
  .next (let v := trWord 2 rank count
    s.portWrite p (DRM_TR_CMD c) v (fun s => s.trCmd c v ⟨errors, []⟩))
def execTrSweep (p : Port) (c : Fin 24) (rank : Fin 2) (count : Fin 8192) (edges : List (Option (Nat × Nat))) (s : State) :
    Host.Outcome State Fault Refusal :=
  .next (let v := trWord 3 rank count
    s.portWrite p (DRM_TR_CMD c) v (fun s => s.trCmd c v ⟨[], edges⟩))
def execTrApplyCentres (p : Port) (c : Fin 24) (s : State) : Host.Outcome State Fault Refusal :=
  .next (let v := trWord 4 0 0
    s.portWrite p (DRM_TR_CMD c) v (fun s => s.trCmd c v ⟨[], []⟩))

/-- TR_SAVE (R499): SAVE in TRAIN mode writes the values in force as last-good records, with SRC = 3. -/
def State.trSave (s : State) (c : Nat) (v : W32) : State :=
  if fieldGet v 4 1 = 1 ∧ s.fld (DRM_CH_STAT_STATE c) = 4 then
    (s.saveGood c ((s.drc c).params.flatMap (fun kv => kv.2.map (BitVec.ofNat 32)))).put (DRM_CH_STAT_SRC c) 3
  else s
def execTrSave (p : Port) (c : Fin 24) (v : W32) (s : State) : Host.Outcome State Fault Refusal :=
  .next (s.portWrite p (DRM_CH_CTRL c) v (fun s => s.trSave c v))

/-! ### Translation -/

/-- A write of DRM_XLATE_HI translates the address in both registers (R479). -/
def State.xlateDo (s : State) : State :=
  let a := s.pairVal DRM_XLATE_LO DRM_XLATE_HI
  match s.xlate a with
  | none => (s.wr DRM_XLATE_CH 0).putPair DRM_XLATE_PHYS_LO DRM_XLATE_PHYS_HI 0
  | some (c, d) =>
    let r := rawOf d
    let s := (s.put DRM_XLATE_CH_CHANNEL c).put DRM_XLATE_CH_RANK (r / s.drRank)
    let s := (s.put DRM_XLATE_CH_BURST (d % 448 / 64)).put DRM_XLATE_CH_VALID 1
    s.putPair DRM_XLATE_PHYS_LO DRM_XLATE_PHYS_HI r

/-- XLATE. -/
def execXlate (p : Port) (v : W32) (s : State) : Host.Outcome State Fault Refusal :=
  .next (s.portWrite p DRM_XLATE_HI v (fun s => s.xlateDo))

end Sys2Proof.Machine
end

