-- ==== Sys2Proof/Machine/Service.lean ====
section
/-! DEFINITION. Start-up steps 9 and 10 (chapter 24): settling the role and starting service. -/

namespace Sys2Proof.Machine

/-- Start-up step 10 begins (R548): every SERVICE_REGS and RECORDS entry is staged as though written in order by the HCP, and
the gravity check runs. A STANDBY skips what R421 refuses. -/
def State.serviceStart (s : State) : State :=
  let sb := s.isStandby
  let s := s.boot.service.foldl (fun s e =>
    if sb ∧ rackedBlock e.1 then s else s.writePlain .hcp e.1 e.2) s
  let s := if sb then s else s.boot.svcRecs.foldl (fun s r => s.stageRecPut 1 r) s
  { s with stage := { s.stage with checking := true, invalid := false } }

/-- Step 9 ends when the role is settled (R547). -/
def State.roleSettled (s : State) (r : Nat) : State :=
  let s := s.setRole r
  if s.atStep 9 then (s.bootStepDone 9).serviceStart else s

/-- Start-up step 9 (R547, R455): SOLO and REFEREE at once; a pair member listens for DEAD first. -/
def State.roleStart (s : State) : State :=
  let m := s.fld RDN_CFG_MODE
  if s.cask.identBad ∧ m ≠ 2 then (s.emit 0x0D07 0 0).roleSettled 2
  else if m = 0 then s.roleSettled 0
  else if m = 2 then s.roleSettled 3
  else { s with rdn := { s.rdn with listenRaw := s.raw } }

/-- Step 8 ends and step 9 begins. -/
def State.step8Done (s : State) : State := if s.atStep 8 then (s.bootStepDone 8).roleStart else s

end Sys2Proof.Machine
end

