-- ==== Sys2Proof/Machine/Thermal.lean ====
section
/-! DEFINITION. Temperature sensing and throttling (chapter 23). Temperatures are in 1/8 °C. -/

namespace Sys2Proof.Machine

/-! ### Sensors (R526, R527, R529) -/

/-- The reading of a sensor, and whether it is broken. -/
def State.temp (s : State) (i : Nat) : Int := toSigned 12 (s.fld (THM_SENS_TEMP i))
def State.broken (s : State) (i : Nat) : Bool := s.bit (THM_SENS_BROKEN i)

/-- The healthy neighbours of a sensor, as fused. -/
def State.neighbours (s : State) (i : Nat) : List Nat :=
  let w := s.rd (THM_SENS_NBR i)
  (((List.range 4).filter (fun b => fieldGet w (8 * b + 7) 1 == 1)).map (fun b => fieldGet w (8 * b) 6)).filter
    (fun j => !s.broken j)

/-- The greatest and the least of a list. -/
def maxInt (d : Int) (l : List Int) : Int := l.foldl max (l.headD d)
def minInt (d : Int) (l : List Int) : Int := l.foldl min (l.headD d)

/-- What a sensor counts as in its zone: a broken one as its hottest healthy neighbour, or the device's highest. -/
def State.temper (s : State) (i : Nat) : Int :=
  if !s.broken i then s.temp i
  else match s.neighbours i with
    | [] => maxInt 0 (((List.range 64).filter (fun j => !s.broken j)).map s.temp)
    | ns => maxInt 0 (ns.map s.temp)

/-- T_hot and T_cold of a zone (R527). -/
def State.tHot (s : State) (z : Nat) : Int := maxInt 0 ((List.range 4).map (fun i => s.temper (4 * z + i)))
def State.tCold (s : State) (z : Nat) : Int := minInt 0 ((List.range 4).map (fun i => s.temper (4 * z + i)))

/-- A limit in 1/8 °C. -/
def State.limit (s : State) (f : FRef) : Int := 8 * toSigned 8 (s.fld f)

/-- The cross-check of a sensor against the median of its healthy neighbours, in 1/16 °C to keep the mean exact: `none` with
fewer than 2 of them, else whether it lies within 15 °C. -/
def State.agrees (s : State) (i : Nat) : Option Bool :=
  let ns := (s.neighbours i).map (fun j => 2 * s.temp j)
  if ns.length < 2 then none else some (decide ((2 * s.temp i - median ns).natAbs ≤ 15 * 16))

/-- The verdict of a round on one sensor, whose cross-check gave `check` (R529): broken after 3 rounds apart, rejoined after 3 rounds together;
a round without a cross-check ends a row of rounds. -/
def State.sensorVerdict (s : State) (i : Nat) (check : Option Bool) : State :=
  let bad := tget (fun _ => 0) s.thm.bad i
  let ok := tget (fun _ => 0) s.thm.ok i
  let setBad (s : State) (n : Nat) : State := { s with thm := { s.thm with bad := tset (fun _ => 0) s.thm.bad i n } }
  let setOk (s : State) (n : Nat) : State := { s with thm := { s.thm with ok := tset (fun _ => 0) s.thm.ok i n } }
  match check with
  | none => setOk (setBad s 0) 0
  | some g =>
    if s.broken i then
      if !s.bit (THM_SENS_REJOIN i) ∨ !g then setOk s 0
      else if ok + 1 ≥ 3 then
        (((setOk s 0).put (THM_SENS_BROKEN i) 0).put (THM_SENS_REJOIN i) 0).emit 0x0302 i (evArg [(0, 1, 1)])
      else setOk s (ok + 1)
    else if g then setBad s 0
    else if bad + 1 ≥ 3 then ((setBad s 0).put (THM_SENS_BROKEN i) 1).emit 0x0302 i 0
    else setBad s (bad + 1)

/-! ### Zones (R530, R532, R534) -/

/-- A zone. -/
def State.zone (s : State) (z : Nat) : ZoneX := tget (fun _ => ZoneX.zero) s.thm.zones z
def State.setZone (s : State) (z : Nat) (x : ZoneX) : State :=
  { s with thm := { s.thm with zones := tset (fun _ => ZoneX.zero) s.thm.zones z x } }

/-- The STATE of a zone after `old` (R530): a state is entered at its limit and left past it by HYST; hot states go first. -/
def State.zoneState (s : State) (z old : Nat) (hot cold : Int) : Nat :=
  let h := 8 * (s.fld THM_CFG_HYST : Int)
  let past (st : Nat) (lim : Int) : Bool := decide (hot ≥ lim) || (decide (old ≥ st) && decide (hot ≥ lim - h))
  let under (st : Nat) (lim : Int) : Bool := decide (cold < lim) || (decide (old ≤ st) && decide (cold < lim + h))
  if past 5 (s.limit (THM_ZONE_LIM_B_HOT_CRIT z)) then 5
  else if past 4 (s.limit (THM_ZONE_LIM_A_HOT_THROTTLE z)) then 4
  else if past 3 (s.limit (THM_ZONE_LIM_A_HOT_WARN z)) then 3
  else if under 0 (s.limit (THM_ZONE_LIM_A_COLD_LIMIT z)) then 0
  else if under 1 (s.limit (THM_ZONE_LIM_A_COLD_WARN z)) then 1
  else 2

/-- A zone takes a STATE: event 0x0301 at each crossing. -/
def State.putZoneState (s : State) (z st : Nat) : State :=
  if s.fld (THM_ZONE_STAT_STATE z) = st then s
  else (s.put (THM_ZONE_STAT_STATE z) st).emit 0x0301 z (evArg [(0, 1, st), (1, 1, s.fld (THM_ZONE_STAT_T_HOT z))])

/-- A zone is at HOT_CRIT (R534): safe states, lease released. -/
def State.hotCrit (s : State) (z : Nat) : State :=
  let s := { s with safe := { s.safe with hotCrit := true }, thm := { s.thm with cool := 0 } }
  ((s.forceSafe).releaseLease).putZoneState z 5

/-- HOT_CRIT_DETECT (R534): the comparator of a healthy sensor. -/
def execHotCritDetect (i : Fin 64) (s : State) : Host.Outcome State Fault Refusal :=
  .next (if s.broken i then s
    else
      let z := i / 4
      let c := s.fld (THM_ZONE_LIM_B_HOT_CRIT z)
      let s := if toSigned 8 (s.fld (THM_ZONE_STAT_T_HOT z)) < toSigned 8 c then s.put (THM_ZONE_STAT_T_HOT z) c else s
      s.hotCrit z)

/-- The zones whose rested sets the PHY zones share (R526). -/
def restZones (z : Nat) : List Nat :=
  if z < 8 then [z] else if z < 12 then [] else if z < 14 then [0, 1, 2, 3] else [4, 5, 6, 7]

/-- Whether an engine lies in a zone's rested set: tun t, decode core d, pipe p, kettle k. -/
def restsTun (z t : Nat) : Bool := (restZones z).any (fun y => decide (y % 4 < 2) && t / 10 == y / 4 * 2 + y % 4)
def restsCore (z d : Nat) : Bool := (restZones z).any (fun y => y % 4 == 2 && d / 12 == y / 4)
def restsPipe (z p : Nat) : Bool := (restZones z).any (fun y => y % 4 == 2 && p / 8 == y / 4)
def restsKet (z k : Nat) : Bool := (restZones z).any (fun y => y % 4 == 3 && k / 6 == y / 4)

/-- The demand of an engine: the highest of the zones whose set holds it. -/
def State.demand (s : State) (inSet : Nat → Bool) : Nat :=
  (((List.range 16).filter inSet).map (fun z => s.fld (THM_ZONE_STAT_DEMAND z))).foldl max 0

/-- The kc of the broadcast audio placed on the unit of a leading core. -/
def State.unitBc (s : State) (u : Nat) : Nat := ((s.aud.bcUnit.filter (fun kv => kv.2 == u)).map (fun kv => s.bcKc kv.1)).sum

/-- Rest ratios of every engine (R532): r = min(L, b) where it carries broadcast work, else L. A tun that runs a re-run never rests (R92). -/
def State.putRests (s : State) : State :=
  let r (l cap load : Nat) : Nat := if load = 0 then l else min l (restBound cap load)
  let live := s.livePipes
  let s := (List.range 40).foldl (fun s t =>
    let load := if s.bit (ENC_TUN_MAP_VALID t) then s.fld (ENC_TUN_LOAD_LOAD t) else 0
    s.put (ENC_TUN_STAT_REST t) (if s.tunFenced t ∨ s.bit (ENC_TUN_STAT_RERUN t) then 0 else r (s.demand (restsTun · t)) 8192 load)) s
  let s := (List.range 24).foldl (fun s d => s.coreRest d (s.demand (restsCore · d))) s
  let s := (List.range 16).foldl (fun s p =>
    s.put (CMP_PIPE_STAT_REST p) (r (s.demand (restsPipe · p)) 64000
      ((live.filter (fun x => x.2 == p)).map (fun x => s.liveScale x.1)).sum)) s
  (List.range 96).foldl (fun s c =>
    s.put (DSP_CORE_STAT_REST c) (r (s.demand (restsKet · (c / 8))) 13500 (s.unitBc (s.kKey c)))) s

/-! ### Shedding (R533) -/

/-- Legs with bridge work in a zone: a decode context, mix slot or output encode in the rested set; any leg in zones 8 to 11. -/
def State.legIn (s : State) (z l : Nat) : Bool :=
  if 8 ≤ z ∧ z < 12 then true
  else
    let c := s.rf 3 l 0x10 4
    let i := s.rf 3 l 14 2
    let o := s.rf 3 l 0x14 4
    s.legKind l == 1 &&
      ((s.recState 1 c != 0 && s.recState 1 c != 5 && restsCore z (s.rf 1 c 2 1)) ||
       (s.activeSlots.contains i && (match (s.sx i).core with | some u => restsKet z (u / 8) | none => false)) ||
       (s.recState 4 o != 0 && restsTun z (s.rf 4 o 15 1)))

/-- The next leg to shed: lowest PRIORITY, then highest number. -/
def State.shedNext (s : State) (z : Nat) : Option Nat :=
  ((s.liveRecs 3).filter (fun l => !s.legShed l && s.legIn z l)).foldl (fun b l => match b with
    | none => some l
    | some m => if s.legPrio l < s.legPrio m ∨ (s.legPrio l = s.legPrio m ∧ m < l) then some l else some m) none

/-- Shed a leg: its context is SUSPENDED, its slot plays silence. -/
def State.shedLeg (s : State) (z l : Nat) : State :=
  let c := s.rf 3 l 0x10 4
  let s := { s with brg := { s.brg with shed := l :: s.brg.shed } }
  let s := if s.legKind l = 1 ∧ s.recState 1 c ≠ 0 then
      ((s.setDx c { s.dx c with job := none, queue := [] }).rp 1 c 2 1 0xFF |>.ctxState c 5).decRefresh
    else s
  let s := s.setZone z { s.zone z with shed := l :: (s.zone z).shed }
  (s.cnt THM_CNT_SHED_COUNT 1).emit 0x0303 z (evArg [(0, 4, l)])

/-- Shed up to n legs. -/
def State.shedSome : Nat → State → Nat → State
  | 0, s, _ => s
  | n + 1, s, z => match s.shedNext z with
    | none => s
    | some l => (s.shedLeg z l).shedSome n z

/-- Restore a leg: its context restarts in WAIT_RAP (R172). -/
def State.restoreLeg (s : State) (z l : Nat) : State :=
  let c := s.rf 3 l 0x10 4
  if !s.legShed l then s
  else
    let s := { s with brg := { s.brg with shed := s.brg.shed.filter (· ≠ l) } }
    let s := if s.legKind l = 1 ∧ s.recState 1 c = 5 then
        let s := s.placeCtx c
        if s.rf 1 c 2 1 < 24 then s.ctxState c 1 else s
      else s
    s.emit 0x0303 z (evArg [(0, 4, l), (4, 1, 1)])

/-- Restore up to n legs, in the reverse order of shedding. -/
def State.restoreSome : Nat → State → Nat → State
  | 0, s, _ => s
  | n + 1, s, z => match (s.zone z).shed with
    | [] => s
    | l :: t => ((s.setZone z { s.zone z with shed := t }).restoreLeg z l).restoreSome n z

/-! ### The round (R527, R528, R532 to R535) -/

/-- Demand of a zone in a round, then shedding or restoring. -/
def State.zoneDemand (s : State) (z : Nat) : State :=
  let x := s.zone z
  let n := s.fld THM_CFG_STEP_ROUNDS
  let l := s.fld (THM_ZONE_STAT_DEMAND z)
  let thr := s.limit (THM_ZONE_LIM_A_HOT_THROTTLE z)
  let hot := decide (s.tHot z ≥ thr)
  let cool := decide (s.tHot z < thr - 8 * (s.fld THM_CFG_HYST : Int))
  let up := hot && decide (x.rise + 1 ≥ n) && decide (l < 7)
  let down := cool && decide (x.fall + 1 ≥ n) && decide (0 < l)
  let l' := if up then l + 1 else if down then l - 1 else l
  let x := { x with
    rise := if hot && !up then x.rise + 1 else 0, fall := if cool && !down then x.fall + 1 else 0,
    seven := if l = 7 && l' == 7 then x.seven + 1 else 0, nil := if l' = 0 then x.nil + 1 else 0 }
  let s := (s.setZone z x).put (THM_ZONE_STAT_DEMAND z) l'
  let shed := hot && (if restZones z = [] then decide (l' > 0) else decide (l' = 7 ∧ x.seven ≥ n))
  let s := s.put (THM_ZONE_STAT_SHEDDING z) (b2n shed)
  if shed then s.shedSome (s.fld THM_CFG_SHED_PER_ROUND) z
  else if x.nil ≥ 500 then s.restoreSome (s.fld THM_CFG_SHED_PER_ROUND) z
  else s

/-- The voltage monitors and auxiliary channels of a round (R528). -/
def State.putMon (s : State) (v x : Nat) : State :=
  let out := decide (x < Config.monLow v) || decide (Config.monHigh v < x)
  let was := s.bit (THM_MON_OUT v)
  let s := (s.put (THM_MON_VALUE v) x).put (THM_MON_OUT v) (b2n out)
  if out = was then s else s.emit 0x0304 v (evArg [(0, 1, b2n (!out)), (4, 2, x)])

/-- The target of the core voltage in mV, by the hottest zone (R522). -/
def State.avsTarget (s : State) : Nat :=
  let hot := maxInt 0 ((List.range 16).map s.tHot) / 8
  max 650 (min 850 (ceilDiv (Config.coreMv hot + s.fld PWR_AVS_CFG_MARGIN_MV) 5 * 5))

/-- Request a voltage. -/
def State.avsGo (s : State) (t : Nat) : State :=
  { s with pwr := { s.pwr with avs := t, avsLow := 0, tries := 0 } }.put PWR_AVS_STAT_BUSY 1

/-- Request the RUN target before leaving DEEP (R522). -/
def State.avsRun (s : State) : State := if s.bit PWR_AVS_CFG_EN then s.avsGo s.avsTarget else s

/-- The core voltage that a round asks for (R522): a higher target at once, a lower one after 10 rounds; 0.70 V in DEEP, until it
is left. -/
def State.avsRequest (s : State) : State :=
  let t := if s.fld PWR_MODE_CUR = 4 ∧ s.pwr.trans = none then 700 else s.avsTarget
  if !s.bit PWR_AVS_CFG_EN then s
  else if t > s.pwr.avs then s.avsGo t
  else if t = s.pwr.avs then
    let s := { s with pwr := { s.pwr with avsLow := 0 } }
    if s.bit PWR_AVS_STAT_FAULT then s.avsGo t else s
  else if s.pwr.avsLow + 1 ≥ 10 then s.avsGo t
  else
    let s := { s with pwr := { s.pwr with avsLow := s.pwr.avsLow + 1 } }
    if s.bit PWR_AVS_STAT_FAULT then ({ s with pwr := { s.pwr with tries := 0 } }).put PWR_AVS_STAT_BUSY 1 else s

/-- The trim moves by at most 1 ppb per round after start-up (R507). -/
def State.trimStep (s : State) : State :=
  match s.clk.trim with
  | none => s
  | some t =>
    let c := s.sfld CLK_TRIM_STAT_TRIM_PPB
    if c = t then { s with clk := { s.clk with trim := none } }
    else s.put CLK_TRIM_STAT_TRIM_PPB (ofSigned 20 (if c < t then c + 1 else c - 1))

/-- The causes of HOT_CRIT clear when every zone has stayed below HOT_THROTTLE for 500 rounds (R534). -/
def State.hotClear (s : State) : State :=
  if !s.safe.hotCrit then s
  else if (List.range 16).all (fun z => decide (s.tHot z < s.limit (THM_ZONE_LIM_A_HOT_THROTTLE z))) then
    let n := s.thm.cool + 1
    let s := { s with thm := { s.thm with cool := n } }
    if n < 500 then s
    else ({ s with safe := { s.safe with hotCrit := false } }).clearSafe.gyleStop
  else { s with thm := { s.thm with cool := 0 } }

/-- T_hot and T_cold of every zone, rounded down to °C. -/
def State.putTemps (s : State) : State :=
  (List.range 16).foldl (fun s z =>
    (s.put (THM_ZONE_STAT_T_HOT z) (ofSigned 8 (s.tHot z / 8))).put (THM_ZONE_STAT_T_COLD z) (ofSigned 8 (s.tCold z / 8))) s

/-- ENC_TUN_MAP.BRIDGE: the tuns on which bridge jobs ran in the round that ends. -/
def State.putBridge (s : State) : State :=
  let ran := s.enc.brgRan
  let s := (List.range 40).foldl (fun s t => s.put (ENC_TUN_MAP_BRIDGE t) (b2n (nbit ran t))) s
  { s with enc := { s.enc with brgRan := 0 } }

/-- A full round after its readings. -/
def State.fullRound (s : State) (mons : List Nat) (mults : List (Nat × Nat × Nat)) : State :=
  let s := s.put THM_ROUND_COUNT (s.fld THM_ROUND_COUNT + 1)
  let read := s
  let s := (List.range 64).foldl (fun s i => s.sensorVerdict i (read.agrees i)) s
  let s := s.putTemps
  let first := s.thm.zones.isEmpty && !s.bit THM_ROUND_FIRST_DONE
  let s : State := (List.range 16).foldl (fun (s : State) z =>
    let old := if first then 2 else s.fld (THM_ZONE_STAT_STATE z)
    let st := s.zoneState z old (s.tHot z) (s.tCold z)
    let s := if first ∧ st = 2 then s.put (THM_ZONE_STAT_STATE z) 2 else s
    if st = 5 ∧ old ≠ 5 then s.hotCrit z else s.putZoneState z st) s
  let s := ((List.range 16).foldl (fun s z => s.zoneDemand z) s).putRests.putBridge
  let s := mults.foldl (fun s m => s.drMult m.1 m.2.1 m.2.2) s
  let s := (s.avsRequest.trimStep).hotClear
  let s := s.coldStarts.drWarm
  let s := (List.range 64).foldl (fun s v => match mons[v]? with | some x => s.putMon v x | none => s) s
  if s.atStep 8 ∧ (List.range 16).all (fun z => s.fld (THM_ZONE_STAT_STATE z) != 5) then
    (s.put THM_ROUND_FIRST_DONE 1).step8Done
  else s

/-- KILN_ROUND (R527, R535): the 64 sensor readings in 1/8 °C, the 64 monitor values, and the refresh multipliers read from
MR4 (channel, rank, code). From step 2 to step 7 only the sensors are read, and nothing while monitor 0 is in failure. -/
def execKilnRound (temps : List Int) (mons : List Nat) (mults : List (Nat × Nat × Nat)) (s : State) :
    Host.Outcome State Fault Refusal :=
  .next (if s.failedMon 0 ∨ s.fld CFG_BOOT_STAT_STEP < 2 ∨ (s.thm.raw > 0 ∧ s.raw + 1 - s.thm.raw < 2 * msU) then s
    else
      let s := { s with thm := { s.thm with raw := s.raw + 1 } }
      let s : State := (List.range 64).foldl (fun (s : State) i => match temps[i]? with
        | some t => s.put (THM_SENS_TEMP i) (ofSigned 12 t)
        | none => s) s
      if s.fld CFG_BOOT_STAT_STEP ≥ 8 then s.fullRound mons mults
      else s.putTemps.coldStarts.drWarm)

/-- SENSOR_REJOIN_CMD (R529): a write of THM_SENS. -/
def State.sensorRejoin (s : State) (i : Nat) (v : W32) : State :=
  if fieldGet v 17 1 = 1 ∧ s.broken i then
    ({ s with thm := { s.thm with ok := tset (fun _ => 0) s.thm.ok i 0 } }).put (THM_SENS_REJOIN i) 1
  else s
def execSensorRejoinCmd (p : Port) (i : Fin 64) (v : W32) (s : State) : Host.Outcome State Fault Refusal :=
  .next (s.portWrite p (THM_SENS i) v (fun s => s.sensorRejoin i v))

end Sys2Proof.Machine
end

