-- ==== Sys2Proof/Machine/TstLane.lean ====
section
/-! DEFINITION. Lane patterns, checkers and loopback (R619 to R621). -/

namespace Sys2Proof.Machine

/-- The line rate of a RATE code in kb/s (R372). -/
def lineKb (r : Nat) : Nat := if 6 ≤ r then 2 * rateKBd r else rateKBd r

/-- The bits that a lane's checker has compared: those before its present sync, and those since (R620). -/
def State.tstBits (s : State) (l : Nat) : Nat :=
  let t := tget (fun _ => 0) s.tst.sync l
  tget (fun _ => 0) s.tst.bits l +
    (if t = 0 then 0 else (s.raw + 1 - t) * lineKb (s.fld (TST_LANE_GEN_RATE l)) / (65536 * 1000000))

/-- The bit counter shows the bits compared. -/
def State.tstCount (s : State) (l : Nat) : State := s.putPair (TST_LANE_CNT_BITS_LO l) (TST_LANE_CNT_BITS_HI l) (s.tstBits l)

/-- A checker ends its sync: its bits are settled. -/
def State.tstSettle (s : State) (l : Nat) : State :=
  let s := s.tstCount l
  let b := s.tstBits l
  ({ s with tst := { s.tst with sync := tset (fun _ => 0) s.tst.sync l 0, bits := tset (fun _ => 0) s.tst.bits l b } }).put
    (TST_LANE_STAT_SYNC l) 0

/-- Bit errors that a checker in sync counts (R620). -/
def State.tstErrors (s : State) (l n : Nat) : State :=
  if s.bit (TST_LANE_STAT_SYNC l) then
    s.putPair (TST_LANE_CNT_ERR_LO l) (TST_LANE_CNT_ERR_HI l)
      ((s.pairVal (TST_LANE_CNT_ERR_LO l) (TST_LANE_CNT_ERR_HI l) + n) % 2 ^ 64)
  else s

/-- A checker loses sync: counted, with event 0x2001 (R620). -/
def State.tstLoss (s : State) (l : Nat) : State :=
  if s.bit (TST_LANE_STAT_SYNC l) then
    ((s.tstSettle l).cnt (TST_LANE_CNT_LOCK_COUNT l) 1).emit 0x2001 l (evArg [(0, 1, 0)])
  else s

/-- TST_STAT.LANES. -/
def State.tstLanes (s : State) : State := s.put TST_STAT_LANES (b2n ((List.range 64).any s.tstOn))

/-- A pitch stops a lane's test functions; the counters keep their values (R621). -/
def State.tstStop (s : State) (l : Nat) : State :=
  if s.tstOn l then
    let s := s.tstSettle l
    let s := ((s.put (TST_LANE_GEN_EN l) 0).put (TST_LANE_CHK_EN l) 0).put (TST_LANE_LOOP_MODE l) 0
    ((s.put (TST_LANE_STAT_GEN_ON l) 0).put (TST_LANE_STAT_CHK_ON l) 0).tstLanes
  else s

/-- Whether a lane belongs to an enabled MAC or Yudizor port. -/
def State.laneServes (s : State) (l : Nat) : Bool :=
  (List.range 16).any (fun m => (s.bit (LNK_MAC_CFG_EN m) && (s.linkLanes m).contains l) ||
    (s.bit (YZ_PORT_CFG_EN m) && (s.linkLanes (16 + m)).contains l))

/-- Whether enabling a function of a lane at a RATE is refused (R619). -/
def State.tstRefused (s : State) (l rate : Nat) : Bool :=
  let q := l / 4
  s.laneServes l || !s.bit (LNK_QUAD_CFG_EN q) || s.belowLimit (quadZone q) ||
  (List.range 4).any (fun i => 4 * q + i != l && s.tstOn (4 * q + i) && s.fld (TST_LANE_GEN_RATE (4 * q + i)) != rate)

/-- After a change of a lane's functions: they run if the quad's PLL is locked; else it locks at the lane's RATE. -/
def State.tstChanged (s : State) (l : Nat) : State :=
  let q := l / 4
  let s := if s.bit (TST_LANE_STAT_SYNC l) ∧ !s.bit (TST_LANE_CHK_EN l) then s.tstSettle l else s
  let s := if s.bit (LNK_QUAD_STAT_PLL_LOCK q) ∨ !s.tstOn l then s.tstRun l else s
  let s := if s.tstOn l then s.put (LNK_QUAD_STAT_RATE q) (s.fld (TST_LANE_GEN_RATE l)) else s
  s.tstLanes

/-- A write of TST_LANE_GEN: EN, and INJECT inserts one bit error, which the lane's own checker sees in near-end loopback. -/
def State.tstGenWrite (s : State) (p : Port) (l : Nat) (v : W32) : State :=
  if s.writeStatus p (TST_LANE_GEN l) v = 0 ∧ fieldGet v 0 1 = 1 ∧ s.tstRefused l (fieldGet v 28 4) then
    s.accessFail p (TST_LANE_GEN l) true 4
  else s.portWrite p (TST_LANE_GEN l) v (fun s =>
    let s := s.tstChanged l
    if fieldGet v 2 1 = 1 ∧ s.bit (TST_LANE_STAT_GEN_ON l) ∧ s.fld (TST_LANE_LOOP_MODE l) = 1 then s.tstErrors l 1 else s)

/-- A write of TST_LANE_CHK: EN, and CLEAR clears the counters. -/
def State.tstChkWrite (s : State) (p : Port) (l : Nat) (v : W32) : State :=
  if s.writeStatus p (TST_LANE_CHK l) v = 0 ∧ fieldGet v 0 1 = 1 ∧ s.tstRefused l (s.fld (TST_LANE_GEN_RATE l)) then
    s.accessFail p (TST_LANE_CHK l) true 4
  else s.portWrite p (TST_LANE_CHK l) v (fun s =>
    let s := s.tstChanged l
    if fieldGet v 1 1 = 1 then
      let t := { s.tst with
        bits := tset (fun _ => 0) s.tst.bits l 0
        sync := if tget (fun _ => 0) s.tst.sync l = 0 then s.tst.sync else tset (fun _ => 0) s.tst.sync l (s.raw + 1) }
      let s := { s with tst := t }
      ((s.putPair (TST_LANE_CNT_BITS_LO l) (TST_LANE_CNT_BITS_HI l) 0).putPair (TST_LANE_CNT_ERR_LO l)
        (TST_LANE_CNT_ERR_HI l) 0).put (TST_LANE_CNT_LOCK_COUNT l) 0
    else s)

/-- A write of TST_LANE_LOOP. -/
def State.tstLoopWrite (s : State) (p : Port) (l : Nat) (v : W32) : State :=
  if s.writeStatus p (TST_LANE_LOOP l) v = 0 ∧ fieldGet v 0 2 ≠ 0 ∧ s.tstRefused l (s.fld (TST_LANE_GEN_RATE l)) then
    s.accessFail p (TST_LANE_LOOP l) true 4
  else s.portWrite p (TST_LANE_LOOP l) v (fun s => s.tstChanged l)

/-- TST_LANE_GEN_WRITE (R619). -/
def execTstLaneGenWrite (p : Port) (l : Fin 64) (v : W32) (s : State) : Host.Outcome State Fault Refusal :=
  .next (s.tstGenWrite p l v)

/-- TST_LANE_CHK_WRITE (R619). -/
def execTstLaneChkWrite (p : Port) (l : Fin 64) (v : W32) (s : State) : Host.Outcome State Fault Refusal :=
  .next (s.tstChkWrite p l v)

/-- TST_LANE_LOOP_WRITE (R621). -/
def execTstLaneLoopWrite (p : Port) (l : Fin 64) (v : W32) (s : State) : Host.Outcome State Fault Refusal :=
  .next (s.tstLoopWrite p l v)

/-- TST_ERROR_INJECT (R619): a write of TST_LANE_GEN with INJECT = 1 and the other fields as they are. -/
def execTstErrorInject (p : Port) (l : Fin 64) (s : State) : Host.Outcome State Fault Refusal :=
  .next (s.tstGenWrite p l (s.rd (TST_LANE_GEN l) ||| 4))

/-- TST_CHK_CLEAR (R620): a write of TST_LANE_CHK with CLEAR = 1 and the other fields as they are. -/
def execTstChkClear (p : Port) (l : Fin 64) (s : State) : Host.Outcome State Fault Refusal :=
  .next (s.tstChkWrite p l (s.rd (TST_LANE_CHK l) ||| 2))

/-- CHECKER_SYNC (R620): a running checker has seen 256 correct bits in a row. -/
def execCheckerSync (l : Fin 64) (s : State) : Host.Outcome State Fault Refusal :=
  .next (if s.bit (TST_LANE_STAT_CHK_ON l) ∧ !s.bit (TST_LANE_STAT_SYNC l) ∧ !s.phy.idle.contains (l.val / 4) then
      let s := { s with tst := { s.tst with sync := tset (fun _ => 0) s.tst.sync l (s.raw + 1) } }
      (s.put (TST_LANE_STAT_SYNC l) 1).emit 0x2001 l (evArg [(0, 1, 1)])
    else s)

/-- CHECKER_SYNC_LOSS (R620): `errs` of the last 1,024 bits were in error; more than 16 lose the sync. -/
def execCheckerSyncLoss (l : Fin 64) (errs : Nat) (s : State) : Host.Outcome State Fault Refusal :=
  .next (
    let s := s.tstErrors l (min errs 1024)
    if errs > 16 then s.tstLoss l else s)

/-- At a tick the bit counters of the checkers in sync go on. -/
def State.tstTick (s : State) : State := (tkeys s.tst.sync).foldl (fun s l => s.tstCount l) s

end Sys2Proof.Machine
end

