-- ==== Sys2Proof/Machine/Clock.lean ====
section
/-! DEFINITION. Clocks, power domains, modes and core voltage (chapter 22). -/

namespace Sys2Proof.Machine

/-! ### Monitors (R508 to R511) -/

/-- Whether a PLL takes its reference from a source (0 HOSC, 1 REFCLK0, 2 REFCLK1). -/
def State.pllNames (s : State) (m : Nat) : Bool := (List.range 7).any (fun p => s.fld (CLK_PLL_CFG_REF p) == m)

/-- The class of a monitor: 0 device, 1 quad, 2 audio; 3 for the numbers that R508 leaves out. -/
def State.monClass (s : State) (m : Nat) : Nat :=
  if m = 0 ∨ (4 ≤ m ∧ m ≤ 10) then 0
  else if m = 1 ∨ m = 2 then (if s.pllNames m then 0 else 1)
  else if 12 ≤ m ∧ m ≤ 27 then 1
  else if m = 3 ∨ (32 ≤ m ∧ m ≤ 47) then 2
  else 3

/-- Whether a monitor judges: EN, which device-class monitors always have, and HOSC good for all but monitor 0. -/
def State.monJudges (s : State) (m : Nat) : Bool :=
  s.monClass m != 3 && (s.monClass m == 0 || s.bit (CLK_MON_CFG_EN m)) && (m == 0 || !s.failedMon 0)

/-- Set or clear a bit of CLK_FAIL. -/
def State.setFailed (s : State) (m : Nat) (v : Bool) : State :=
  let f := if m < 32 then CLK_FAIL_LO_FAILED else CLK_FAIL_HI_FAILED
  s.put f (if v then nset (s.fld f) (m % 32) else nclr (s.fld f) (m % 32))

/-- The audio ports that follow a source: 3 WCLK_IN, 32 + p the pins of TDM port p (R329), 40 + p AES3 input p, 44 + p the PLL
of output p (R334). -/
def State.audioFollow (s : State) (m : Nat) : List Nat :=
  if m = 3 then (List.range 16).filter (fun q => aptIsOut q && s.fld (APT_AES_CTRL_REF q) == 0)
  else if m < 32 then []
  else
    let p := m - 32
    (List.range 16).filter (fun q =>
      if q < 8 then s.fld (APT_PORT_CFG_CLK_SRC q) == p else q == p || (aptIsOut q && s.fld (APT_AES_CTRL_REF q) == p + 1))

/-- Whether a reference that a pitch may move (R511) still names a source: a PLL's, an enabled quad's, an enabled audio port's. -/
def State.refNames (s : State) (m : Nat) : Bool :=
  if m = 1 ∨ m = 2 then
    s.pllNames m || (List.range 16).any (fun q => s.bit (LNK_QUAD_CFG_EN q) && s.fld (LNK_QUAD_CFG_REFSEL q) + 1 == m)
  else if m = 3 ∨ (32 ≤ m ∧ m < 44) then (s.audioFollow m).any (fun q => s.aptOn q)
  else true

/-- The HOSC trim loses its source (R507). -/
def State.trimHold (s : State) : State :=
  if s.bit CLK_TRIM_STAT_HELD then s
  else (({ s with clk := { s.clk with trim := none } }.put CLK_TRIM_STAT_HELD 1).put CLK_TRIM_STAT_TRACKING 0).emit 0x0103 0 0

/-- What the monitors' failures force after one of them, or a reference, has changed (R505, R510, R511): PLL holdover, the safe
states of a device-class failure, and the idle quads; freed links restart bring-up, and checkers
on idle quads lose sync (R621). -/
def State.clkRecheck (s : State) : State :=
  let s : State := (List.range 7).foldl (fun (s : State) p =>
    s.put (CLK_PLL_STAT_HOLDOVER p) (b2n (s.failedMon (s.fld (CLK_PLL_CFG_REF p))))) s
  let dev := (List.range 48).any (fun m => s.failedMon m && s.monClass m == 0)
  let s := { s with safe := { s.safe with clkFail := dev } }
  if dev then s.forceSafe
  else if s.safe.forced then s.clearSafe
  else
    let idle := (List.range 16).filter s.quadFailed
    let freed := s.phy.idle.filter (fun q => !idle.contains q)
    let s := { s with phy := { s.phy with idle := idle } }
    let s := idle.foldl (fun (s : State) q => (List.range 4).foldl (fun (s : State) i => s.tstLoss (4 * q + i)) s) s
    (List.range 32).foldl (fun s k =>
      if s.linkEn k ∧ (s.linkQuads k).any (fun q => freed.contains q) ∧ !(s.linkQuads k).any (fun q => idle.contains q) then
        s.linkStart k else s) s

/-- A monitor declares a failure (R509, R510): 1 a stop, 2 a window fault. -/
def State.monFail (s : State) (m how : Nat) : State :=
  let s := { s with clk := { s.clk with good := tset (fun _ => 0) s.clk.good m 0 } }
  if s.failedMon m then (if how = 1 then s.put (CLK_MON_STAT_STOPPED m) 1 else s)
  else
    let c := s.monClass m
    let s := ((s.setFailed m true).put (CLK_MON_STAT_FAILED m) 1).put (CLK_MON_STAT_STOPPED m) (b2n (how == 1))
    let arg := evArg [(1, 1, how), (2, 1, c)]
    let s : State := (s.audioFollow m).foldl (fun (s : State) q => s.aptLost q) s
    let s := if (m = 1 ∨ m = 2) ∧ s.fld CLK_TRIM_CFG_SRC = m then s.trimHold else s
    (s.clkRecheck.emit 0x0101 m arg).logFault 11 0 0x0101 m arg

/-- A source is stable again (R511). -/
def State.monGood (s : State) (m : Nat) : State :=
  let c := s.monClass m
  let s := ((s.setFailed m false).put (CLK_MON_STAT_FAILED m) 0).put (CLK_MON_STAT_STOPPED m) 0
  let s := { s with clk := { s.clk with good := tset (fun _ => 0) s.clk.good m 0 } }
  s.clkRecheck.emit 0x0101 m (evArg [(0, 1, 1), (2, 1, c)])

/-- CLK_STOP_DETECT (R509). -/
def execClkStopDetect (m : Fin 48) (s : State) : Host.Outcome State Fault Refusal :=
  .next (if s.monJudges m then (s.put (CLK_MON_STAT_OK m) 0).monFail m 1 else s)

/-- The window of 65,536 HOSC cycles: 327.68 µs. -/
def windowU : Nat := 327680 * 65536

/-- CLK_WINDOW_END (R509, R511): the window ends with a measured frequency and a deviation in ppm, and whether the PLL reports
loss of lock. Audio monitors use the ±0.1 % of R330. -/
def execClkWindowEnd (m : Fin 48) (hz : Nat) (dev : Int) (unlock : Bool) (s : State) : Host.Outcome State Fault Refusal :=
  .next (if !s.monJudges m then s
    else
      let s := (s.put (CLK_MON_FREQ_HZ m) hz).put (CLK_MON_STAT_DEV_PPM m) (ofSigned 16 (max (-32768) (min 32767 dev)))
      let tol := if s.monClass m = 2 then 1000 else s.fld (CLK_MON_CFG_TOL_PPM m)
      if dev.natAbs > tol ∨ unlock then (s.put (CLK_MON_STAT_OK m) 0).monFail m 2
      else
        let s := s.put (CLK_MON_STAT_OK m) 1
        if !s.failedMon m then s
        else
          let g := tget (fun _ => 0) s.clk.good m
          let g := if g = 0 then s.raw - windowU + 1 else g
          let s := { s with clk := { s.clk with good := tset (fun _ => 0) s.clk.good m g } }
          if s.raw + 1 - g ≥ s.fld (CLK_MON_CFG_STABLE_MS m) * msU then s.monGood m else s)

/-! ### PLLs, muxes and trim (R505 to R507, R512) -/

/-- A mux switch from a clock (its monitor) begins. Keys 0 to 6 are the clock roots, 16 + p PLL references, 32 + q the
references of quads. -/
def State.muxStart (s : State) (k old : Nat) : State :=
  { s with clk := { s.clk with mux := tset (fun _ => 0) s.clk.mux k (old + 1) } }

/-- Whether SRAM BIST runs between steps 4 and 5 (R623). -/
def State.bistAtBoot (s : State) : Bool :=
  if s.boot.cold then s.bit SYS_STAT_TEST_EN else s.bit TST_BIST_CFG_BOOT_EN

/-- Start-up step 4 ends when every root runs on its PLL and BIST, where it runs, is done; step 5 begins. -/
def State.step4Check (s : State) : State :=
  if s.atStep 4 ∧ (List.range 7).all (fun p => s.bit (CLK_PLL_STAT_ROOT p)) then
    if s.bistAtBoot then ({ s with tst := { s.tst with boot := true } }).put TST_STAT_BIST 1
    else (s.bootStepDone 4).dramStart
  else s

/-- A mux runs on its new clock. -/
def State.muxDone (s : State) (k : Nat) : State :=
  let s := { s with clk := { s.clk with mux := tset (fun _ => 0) s.clk.mux k 0 } }
  if k < 7 then (s.put (CLK_PLL_STAT_ROOT k) 1).step4Check else s

/-- PLL_LOCKED (R506): from start-up step 4 on; its root switches from HOSC. -/
def execPllLocked (p : Fin 7) (s : State) : Host.Outcome State Fault Refusal :=
  .next (if s.fld CFG_BOOT_STAT_STEP < 4 ∨ s.bit (CLK_PLL_STAT_LOCK p) ∨ s.failedMon (s.fld (CLK_PLL_CFG_REF p)) then s
    else (s.put (CLK_PLL_STAT_LOCK p) 1).muxStart p 0)

/-- MUX_SWITCH (R512). -/
def execMuxSwitch (k : Fin 48) (s : State) : Host.Outcome State Fault Refusal :=
  .next (if tget (fun _ => 0) s.clk.mux k = 0 then s else s.muxDone k)

/-- MUX_FORCED_SWITCH (R512): the old clock gave no edge for 320 ns. -/
def execMuxForcedSwitch (k : Fin 48) (s : State) : Host.Outcome State Fault Refusal :=
  .next (
    let o := tget (fun _ => 0) s.clk.mux k
    if o = 0 then s else ((s.muxDone k).cnt CLK_CNT_FORCED_COUNT 1).emit 0x0102 (o - 1) 0)

/-- The servo rate in ppb (R355), which the trim drives toward zero: a fast timebase asks for a faster HOSC. -/
def State.servoPpb (s : State) : Int := s.tb.rate * 1000000000 / (2 ^ 48 : Int)

/-- TRIM_MEASURE (R507): a measurement asks for a change in ppb, with the PTP seconds the servo rate; `none` when the source gives
none. In BOOT the trim moves at once, later by 1 ppb per kiln round. -/
def execTrimMeasure (meas : Option Int) (s : State) : Host.Outcome State Fault Refusal :=
  let src := s.fld CLK_TRIM_CFG_SRC
  let valid := src != 0 && (if src = 1 ∨ src = 2 then !s.failedMon src else if src = 3 then s.fld TB_STAT_STATE == 3 else true)
  .next (if src = 0 then s
    else match (if valid then (if src = 3 then some s.servoPpb else meas) else none) with
      | none => s.trimHold
      | some m =>
        let s := if s.bit CLK_TRIM_STAT_TRACKING then s
          else ((s.put CLK_TRIM_STAT_TRACKING 1).put CLK_TRIM_STAT_HELD 0).emit 0x0103 0 (evArg [(0, 1, 1)])
        let want := s.sfld CLK_TRIM_STAT_TRIM_PPB + m
        let t := clipSym 50000 want
        let s := if t = want then s else s.emit 0x0103 0 (evArg [(0, 1, 2)])
        if s.fld PWR_MODE_CUR = 1 then s.put CLK_TRIM_STAT_TRIM_PPB (ofSigned 20 t)
        else { s with clk := { s.clk with trim := some t } })

/-! ### Gates (R513 to R515) -/

/-- The power domain of a gate's block (R12). -/
def gateDomain (n : Nat) : Nat :=
  if n < 40 then 4 + n / 10 else if n = 40 then 4 else if n = 41 then 6
  else if n < 54 then 8 else if n < 66 then 9 else if n < 74 then 10
  else if n < 82 then 11 else if n < 90 then 12 else if n < 96 then 13 else if n < 102 then 14
  else if n = 102 then 15 else if n = 103 then 16 else if n < 116 then 17 else if n < 128 then 18
  else if n < 136 then 19 else if n < 144 then 20 else if n = 144 then 21 else if n = 145 then 22 else if n = 146 then 23 else 1

/-- Whether a block's clock is to run: its enable for the mode. BOOT and SAFE use that of RUN. -/
def State.gateOn (s : State) (n : Nat) : Bool :=
  match s.fld PWR_MODE_CUR with
  | 3 => s.bit (CLK_GATE_SLEEP n)
  | 4 => s.bit (CLK_GATE_DEEP n)
  | _ => s.bit (CLK_GATE_RUN n)

/-- A gate follows its enable and its domain: it opens at once, or begins to close. -/
def State.gateStep (s : State) (n : Nat) : State :=
  let st := s.fld (CLK_GATE_STATE n)
  if !nbit (s.fld PWR_PD_STAT_ON) (gateDomain n) then s.put (CLK_GATE_STATE n) 3
  else if s.gateOn n then s.put (CLK_GATE_STATE n) 0
  else if st = 0 then
    ({ s with clk := { s.clk with gates := tset (fun _ => 0) s.clk.gates n (s.raw + 1) } }).put (CLK_GATE_STATE n) 2
  else if st = 3 then s.put (CLK_GATE_STATE n) 1
  else s
def State.gatesStep (s : State) : State := (List.range 148).foldl (fun s n => s.gateStep n) s

/-- GATE_PORT_IDLE (R515): no request is outstanding; the clock stops. -/
def execGatePortIdle (n : Fin 148) (s : State) : Host.Outcome State Fault Refusal :=
  .next (if s.fld (CLK_GATE_STATE n) = 2 then s.put (CLK_GATE_STATE n) 1 else s)

/-- GATE_DRAIN_TIMEOUT (R515): after 1 µs the outstanding requests complete with errors. -/
def execGateDrainTimeout (n : Fin 148) (outstanding : Nat) (s : State) : Host.Outcome State Fault Refusal :=
  .next (if s.fld (CLK_GATE_STATE n) ≠ 2 ∨ s.raw + 1 - tget (fun _ => 0) s.clk.gates n < usU then s
    else
      let s := s.put (CLK_GATE_STATE n) 1
      if outstanding = 0 then s
      else (s.cnt PWR_CNT_GATE_ERR_COUNT outstanding).emit 0x0203 n (evArg [(0, 4, outstanding)]))

/-! ### Domains (R517, R518) -/

/-- What a mode and PWR_PD_CTRL want powered (R517, R519): bits 0, 1, 22 and 23 always. -/
def State.wantDomains (s : State) : Nat :=
  if s.fld PWR_MODE_CUR = 4 then 0xC00003 else s.fld PWR_PD_CTRL_ON ||| 0xC00003

/-- Engine state that a domain loses (R518): the tuns' search windows, kettles, the context cache. -/
def State.domainLost (s : State) (d : Nat) : State :=
  if 4 ≤ d ∧ d ≤ 7 then { s with enc := { s.enc with wins := s.enc.wins.filter (fun w => decide (w.1 / 10 + 4 ≠ d)) } }
  else if d = 13 ∨ d = 14 then
    (List.range 48).foldl (fun s i => s.setKc (48 * (d - 13) + i) KCore.zero) s
  else if d = 16 then
    { s with brg := { s.brg with fx := s.brg.fx.map (fun kv => (kv.1, { kv.2 with resident := false, dirty := false })) } }
  else s

/-- A domain's gates after a change, and the reload of its kettles (R303). -/
def State.domainGates (s : State) (d : Nat) : State :=
  (List.range 148).foldl (fun s n => if gateDomain n = d then s.gateStep n else s) s
def State.domainReload (s : State) (d : Nat) : State :=
  if d = 13 ∨ d = 14 then (List.range 6).foldl (fun s i => s.ketLoad (6 * (d - 13) + i)) s else s

/-- Whether PWR_PD_CTRL acts: in RUN, with no change of mode under way (a mode change lands first), and during start-up (R517,
R519). -/
def State.domainsMove (s : State) : Bool :=
  s.fld PWR_MODE_CUR == 1 || (s.fld PWR_MODE_CUR == 2 && s.pwr.trans == none)

/-- DOMAIN_POWER_ON (R517): in increasing order, one at a time. -/
def execDomainPowerOn (d : Fin 24) (s : State) : Host.Outcome State Fault Refusal :=
  .next (
    let on := s.fld PWR_PD_STAT_ON
    let want := s.wantDomains
    if !s.domainsMove ∨ nbit on d ∨ !nbit want d ∨ (List.range d).any (fun e => nbit want e && !nbit on e) then s
    else
      let s := (s.put PWR_PD_STAT_ON (nset on d)).emit 0x0202 d (evArg [(0, 1, 1)])
      (s.domainGates d).domainReload d)

/-- A domain's gates close before it goes off; the requests still outstanding at each complete with errors (R515, R517). -/
def State.domainDrain (s : State) (d : Nat) (outstanding : List (Nat × Nat)) : State :=
  outstanding.foldl (fun (s : State) e =>
    if gateDomain e.1 = d ∧ e.1 < 148 ∧ e.2 ≠ 0 ∧ (s.fld (CLK_GATE_STATE e.1) = 0 ∨ s.fld (CLK_GATE_STATE e.1) = 2) then
      (s.cnt PWR_CNT_GATE_ERR_COUNT e.2).emit 0x0203 e.1 (evArg [(0, 4, e.2)])
    else s) s

/-- DOMAIN_POWER_OFF (R517, R518): in decreasing order, one at a time; the requests still outstanding at the gates of the domain
1 µs after they began to close, each gate with their number. -/
def execDomainPowerOff (d : Fin 24) (outstanding : List (Nat × Nat)) (s : State) : Host.Outcome State Fault Refusal :=
  .next (
    let on := s.fld PWR_PD_STAT_ON
    let want := s.wantDomains
    if !s.domainsMove ∨ !nbit on d ∨ nbit want d ∨ (List.range 24).any (fun e => decide (d < e) && nbit on e && !nbit want e) then s
    else
      let s := (s.domainDrain d outstanding).put PWR_PD_STAT_ON (nclr on d)
      ((s.domainLost d).domainGates d).emit 0x0202 d 0)

/-! ### Power modes (R519, R520) -/

/-- The links that a mode stops or restarts: those of quads whose gate does not run. -/
def State.modeLinks (s : State) : State :=
  (List.range 32).foldl (fun (s : State) k =>
    if !s.linkEn k then s
    else if (s.linkQuads k).all (fun q => s.gateOn (128 + q)) ∧ s.fld PWR_MODE_CUR ≠ 4 then
      (if (s.linkLanes k).all (fun l => s.fld (LNK_LANE_STAT_STATE l) == 0) then s.linkStart k else s)
    else s.linkStop k (s.linkLanes k)) s

/-- PLLs that DEEP stops: all but those of QCLK and TCLK (R519). -/
def State.deepPlls (s : State) (stop : Bool) : State :=
  [0, 1, 2, 5, 6].foldl (fun (s : State) p =>
    if stop then (s.put (CLK_PLL_STAT_LOCK p) 0).put (CLK_PLL_STAT_ROOT p) 0
    else (s.put (CLK_PLL_STAT_LOCK p) 1).put (CLK_PLL_STAT_ROOT p) 1) s

/-- All domains from 2 to 21 in or out of DEEP, with their events in order (R517, R520). -/
def State.deepDomains (s : State) (off : Bool) : State :=
  let ds : List Nat := (List.range 20).map (· + 2)
  if off then ds.reverse.foldl (fun (s : State) (d : Nat) =>
      if nbit (s.fld PWR_PD_STAT_ON) d then
        ((s.put PWR_PD_STAT_ON (nclr (s.fld PWR_PD_STAT_ON) d)).domainLost d).emit 0x0202 d 0 else s) s
  else ds.foldl (fun (s : State) (d : Nat) =>
      if nbit (s.fld PWR_PD_CTRL_ON) d ∧ !nbit (s.fld PWR_PD_STAT_ON) d then
        ((s.put PWR_PD_STAT_ON (nset (s.fld PWR_PD_STAT_ON) d)).domainReload d).emit 0x0202 d (evArg [(0, 1, 1)]) else s) s

/-- The exit from DEEP begins (R520, R522): the RUN target is requested, the PLLs run, the domains turn on, and the channels in
self-refresh train, on the fast path where R497 allows it. -/
def State.deepExit (s : State) : State :=
  let s : State := ((s.avsRun.deepPlls false).deepDomains false).gatesStep
  s.drChans.foldl (fun (s : State) c => if s.fld (DRM_CH_STAT_STATE c) = 7 then s.drTrain c else s) s

/-- A transition to a mode begins; one that is under way goes on. -/
def State.modeGo (s : State) (m : Nat) : State :=
  let begun := s.pwr.trans == some m
  let s : State := { s with pwr := { s.pwr with trans := some m } }
  if s.fld PWR_MODE_CUR = 4 ∧ m = 2 ∧ !begun then s.deepExit else s

/-- A wake (R520): from SLEEP or DEEP at once, during an entry after it; refused while HOSC is in failure. -/
def State.wake (s : State) : State :=
  let cur := s.fld PWR_MODE_CUR
  if s.failedMon 0 then s
  else if cur = 3 ∨ cur = 4 then s.modeGo 2
  else match s.pwr.trans with
    | some 3 => { s with pwr := { s.pwr with wake := true } }
    | some 4 => { s with pwr := { s.pwr with wake := true } }
    | _ => s

/-- WAKE_PIN (R520): WAKE_N low. -/
def execWakePin (s : State) : Host.Outcome State Fault Refusal := .next (if s.bit PWR_WAKE_PIN_EN then s.wake else s)

/-- A pitch of PWR_MODE.REQ (R520): from RUN to SLEEP or DEEP; from SLEEP or DEEP to RUN where the HCP or the management port staged it. -/
def State.modeReq (s : State) (host : Bool) : State :=
  let want := s.fld PWR_MODE_REQ + 2
  if want = 2 then (if host then s.wake else s)
  else if want ≤ 4 ∧ s.fld PWR_MODE_CUR = 2 then s.modeGo want
  else s

/-- What a transition to a mode changes in DRAM, PLLs and domains (R520). -/
def State.modeWork (s : State) (old m : Nat) : State :=
  if m = 2 then s.drWake
  else
    let s : State := if old = 2 then s.drSleep else s
    if m = 4 then (s.deepDomains true).deepPlls true else s

/-- A transition to a mode completes; a wake that came during an entry starts the exit. -/
def State.modeDone (s : State) (m : Nat) : State :=
  let old := s.fld PWR_MODE_CUR
  let w := s.pwr.wake && m != 2
  let s : State := { s with pwr := { s.pwr with trans := none, wake := false } }
  let s : State := (((s.modeWork old m).put PWR_MODE_CUR m).gatesStep).modeLinks
  let s := if old = m then s else s.emit 0x0201 0 (evArg [(0, 1, m), (1, 1, old)])
  if w then s.modeGo 2 else s

/-- Whether a DRAM channel still trains, or waits for its zone to warm (R497, R498). -/
def State.drTraining (s : State) : Bool :=
  s.drChans.any (fun c =>
    s.fld (DRM_CH_STAT_STATE c) == 1 || s.fld (DRM_CH_STAT_STATE c) == 2 || s.fld (DRM_CH_STAT_STATE c) == 5)

/-- MODE_TRANSITION_DONE (R520): not before the DRAM training of an exit from DEEP has ended, and not in SAFE mode. -/
def execModeTransitionDone (s : State) : Host.Outcome State Fault Refusal :=
  .next (match s.pwr.trans with
    | none => s
    | some m => if s.fld PWR_MODE_CUR = 5 ∨ (m = 2 ∧ s.drTraining) then s else s.modeDone m)

/-- AVS_TRANSACTION_DONE (R523): not acknowledged, it is retried up to 3 times, then FAULT is set. -/
def execAvsTransactionDone (ack : Bool) (s : State) : Host.Outcome State Fault Refusal :=
  .next (if !s.bit PWR_AVS_STAT_BUSY then s
    else if ack then
      let s := (s.put PWR_AVS_STAT_BUSY 0).put PWR_AVS_STAT_REQ_MV s.pwr.avs
      if s.bit PWR_AVS_STAT_FAULT then
        (s.put PWR_AVS_STAT_FAULT 0).emit 0x0204 0 (evArg [(0, 1, 1), (4, 2, s.pwr.avs)])
      else s
    else
      let s := s.cnt PWR_CNT_AVS_ERR_COUNT 1
      if s.pwr.tries < 3 then { s with pwr := { s.pwr with tries := s.pwr.tries + 1 } }
      else
        let s := s.put PWR_AVS_STAT_BUSY 0
        if s.bit PWR_AVS_STAT_FAULT then s
        else (s.put PWR_AVS_STAT_FAULT 1).emit 0x0204 0 (evArg [(4, 2, s.pwr.avs)]))

end Sys2Proof.Machine
end

