-- ==== Sys2Proof/Machine/Gravity.lean ====
section
/-! DEFINITION. The gravity check (R552, R553): the projected configuration and every refusal that the manual attributes to
the check, by the rule codes of R553. -/

namespace Sys2Proof.Machine

/-! ### The projected configuration -/

/-- Put the ST fields of a staged register in force. -/
def State.landWrite (s : State) (a : Nat) (w : W32) : State :=
  match regRow a with
  | none => s
  | some r => s.wr a ((w &&& r.stMask) ||| (s.rd a &&& ~~~r.stMask))

/-- Put a list of staged registers in force. -/
def State.landWrites (s : State) (ws : Tab W32) : State := ws.foldl (fun s e => s.landWrite e.1 e.2) s

/-- Land records: the bridge's together, then the audio records in order. -/
def State.landRecords (s : State) (rs : List StagedRec) : Option State :=
  match s.landBridge (rs.filter (fun r => r.typ < 8)) with
  | none => none
  | some s => (rs.filter (fun r => r.typ ≥ 8)).foldl (fun (a : Option State) r => a.bind (fun s => s.landAudRec r)) (some s)

/-- The configuration in force with every pending pitch applied in order; a pitch whose records are refused leaves them. -/
def State.projectPending (s : State) : State :=
  s.stage.pitches.foldl (fun (s : State) p =>
    let s := (s.landWrites p.writes).runAssign
    (s.landRecords p.records).getD s) s

/-- The projected registers, with the placements of R75, R142 and R182 made over them. -/
def State.projected (s : State) : State :=
  let s := { s with enc := { s.enc with chans := s.enc.chans.map (fun (kv : Nat × Chan) => (kv.1, { kv.2 with stop := none })) } }
  (s.projectPending.landWrites s.stage.writes).runAssign

/-- The first element of a list that fails a test, as an address. -/
def firstAt {α : Type} (l : List α) (bad : α → Bool) (at' : α → Nat) : Option Nat := (l.find? bad).map at'

/-- The first failure of a list of tests. -/
def firstOf : List (Option Nat) → Option Nat
  | [] => none
  | some x :: _ => some x
  | none :: t => firstOf t

/-- The record index with bit 31 that CFG_CHECK_ADDR reports. -/
def recWhere (r : StagedRec) : Nat := 2 ^ 31 + r.index

/-! ### Rule 1: ranges, enumerations, alignment -/

/-- Whether a field of a register definition takes a value: `base` the first instance's address, `lo` the field. -/
def fieldOk (base lo v : Nat) : Bool :=
  let within := fun (x y : Nat) => decide (x ≤ v) && decide (v ≤ y)
  match base, lo with
  | 0x100000, 8 => within 0 16
  | 0x100000, 1 => within 0 2
  | 0x100008, 8 => within 0 10
  | 0x100008, 6 => within 0 2
  | 0x100008, 4 => within 0 2
  | 0x100008, 2 => within 0 2
  | 0x100008, 0 => within 0 2
  | 0x10000C, 16 => within 0 4320
  | 0x10000C, 0 => within 0 7680
  | 0x100010, 16 => within 0 2000
  | 0x100040, 20 => within 1 7
  | 0x100040, 1 => within 0 2
  | 0x100048, 24 => within 0 20
  | 0x100048, 21 => within 0 2
  | 0x100048, 19 => within 0 2
  | 0x100048, 17 => within 0 2
  | 0x100048, 0 => within 0 3
  | 0x10004C, 30 => within 0 2
  | 0x10004C, 16 => v % 2 == 0
  | 0x10004C, 0 => v % 2 == 0
  | 0x100300, 8 => within 1 63
  | 0x148000, 8 => within 2 8
  | 0x148000, 0 => within 1 255
  | 0x160000, 16 => within 1 255
  | 0x160000, 8 => within 0 63
  | 0x170000, 8 => within 1 255
  | 0x170004, 0 => v % 4096 == 0
  | 0x17000C, 0 => v % 1048576 == 0
  | 0x170014, 0 => v % 1048576 == 0
  | 0x180000, 24 => within 16 64
  | 0x180000, 16 => within 10 255
  | 0x180000, 8 => within 1 255
  | 0x180004, 16 => within 100 10000
  | 0x180004, 8 => within 1 255
  | 0x180004, 0 => within 5 255
  | 0x180008, 0 => v % 4096 == 0
  | 0x180010, 0 => v % 4096 == 0
  | 0x180018, 0 => v % 4096 == 0
  | 0x1A0004, 0 => v % 4096 == 0
  | 0x1A000C, 0 => v % 4096 == 0
  | 0x1A8000, 14 => within 0 2
  | 0x1A8000, 4 => within 0 2
  | 0x1A8000, 1 => within 0 1
  | 0x1A8018, 28 => within 0 8
  | 0x1A8100, 23 => decide (-192 ≤ toSigned 9 v) && decide (toSigned 9 v ≤ 96)
  | 0x1C0010, 0 => v % 4096 == 0
  | 0x1C0004, 0 => (List.range 4).all (fun i => !nbit v (8 * i + 6))
  | 0x1B0000, 20 => within 0 7
  | 0x1B0000, 16 => within 0 5
  | 0x1B0000, 8 => within 1 255
  | 0x1B0004, 8 => within 8 32
  | 0x1B0018, 24 => within 0 11
  | 0x1B0018, 0 => v % 64 == 0
  | 0x1B0040, 0 => within 0 12
  | 0x60000, 16 => within 1 255
  | 0x60000, 0 => within 0 2
  | 0x60034, 16 => within 1 65535
  | 0x60034, 0 => within 1 65535
  | 0x60038, 0 => within 1 500
  | 0x60040, 16 => within 2 15
  | 0x60040, 8 => within 0 127
  | 0x60040, 6 => within 0 2
  | 0x60040, 0 => within 0 16
  | 0x80E00, 19 => within 0 6
  | 0xC0000, 16 => within 2 255
  | 0xC00C0, 8 => within 0 15
  | 0xC1000, 28 => v % 2 == 1 && decide (v ≤ 9)
  | 0xD0000, 0 => within 0 2
  | 0xD0000, 16 => within 0 2
  | 0xD0004, 24 => within 2 16
  | 0xD0008, 16 => within 256 1024
  | 0xD0008, 8 => within 1 255
  | 0xD0010, 0 => v % 4096 == 0
  | 0xE0008, 16 => within 16 65535
  | 0xEC000, 24 => within 1 255
  | 0x10000, 0 => within 0 2
  | 0x10100, 0 => within 0 4
  | 0x11000, 16 => within 1 65535
  | 0x11000, 4 => within 10 1000
  | 0x20000, 0 => within 0 2
  | 0x20020, 8 => within 0 50
  | 0x30000, 16 => within 1 255
  | 0x30000, 8 => within 1 15
  | 0x30000, 0 => within 1 255
  | 0x24, 0 => within 0 128
  | _, _ => true

/-- Whether every ST field of a staged register is in range. -/
def wordOk (a : Nat) (w : W32) : Bool :=
  match regRow a with
  | none => false
  | some r => r.fields.all (fun f => f.acc != .st || fieldOk r.base f.lo (fieldGet w f.lo f.width))

/-- Whether the fields of a staged record are in range (R178, R215, R216, R251, R252). -/
def recOk (r : StagedRec) : Bool :=
  let b := rget r.words
  match r.typ with
  | 0 => decide (b 0 1 ≤ 3) && decide (b 1 1 ≤ 1) && decide (b 2 1 ≤ 2) && (decide (b 0xA 1 ≤ 15) || b 0xA 1 == 255) &&
      decide (b 0xB 1 ≤ 4) && decide (b 0x148 2 ≤ 1000 ∨ b 0x140 8 = 0) && decide (r.index < 2097152)
  | 1 => decide (b 1 1 ≤ 3) && decide (b 12 1 ≤ 120) && decide (r.index < 8192)
  | 2 => decide (b 0 1 ≤ 1) && decide (r.index < 32768)
  | 3 => decide (b 0 1 ≤ 1) && (b 0 1 == 0 || (decide (b 1 1 ≤ 2) && decide (b 2 1 ≤ 7) && decide (b 3 1 ≤ 15) &&
      decide (1 ≤ b 12 1) && decide (b 12 1 ≤ 16))) && decide (r.index < 262144)
  | 4 => decide (b 0 1 ≤ 1) && (b 0 1 == 0 || (decide (b 1 1 ≤ 3) && decide (b 3 1 ≤ 2) && decide (1 ≤ b 12 1) &&
      decide (b 12 1 ≤ 120) && decide (b 13 1 ≤ 31))) && decide (r.index < 4096)
  | 8 => decide (b 0 1 ≤ 3) && (b 0 1 == 0 || (decide (b 1 1 ≤ 4) && decide (b 2 1 ≤ 4) &&
      decide (-48 ≤ toSigned 8 (b 0x17 1)) && decide (toSigned 8 (b 0x17 1) ≤ 24) &&
      decide (20 ≤ b 0x18 2) && decide (b 0x18 2 ≤ b 0x1A 2) && decide (b 0x1A 2 ≤ 400))) && decide (r.index < 8192)
  | 9 => decide (1 ≤ b 0 1) && decide (b 0 1 ≤ 16) && decide (r.index < 32768)
  | _ => false

/-- Whether an enabled channel's sizes agree with its input (ENC_CH_REND_SIZE): none 0, rendition 0 the input's. -/
def State.sizesOk (s : State) (n : Nat) : Bool :=
  s.rendW n 0 == s.fld (ENC_CH_SIZE_WIDTH n) && s.rendH n 0 == s.fld (ENC_CH_SIZE_HEIGHT n) &&
  s.fld (ENC_CH_REND_SIZE_RATE_DIV n 0) == 0 &&
  (s.rends n).all (fun k => s.rendW n k != 0 && s.rendH n k != 0 &&
    decide (s.fld (ENC_CH_RC_MODE_QP_MIN n k) ≤ s.fld (ENC_CH_RC_MODE_QP_MAX n k)))

/-- Whether broadcast audio outputs are in range (AUD_BC_OUT). -/
def State.bcOutOk (s : State) (n : Nat) : Bool :=
  let aac := s.fld (AUD_BC_CTRL_OUT n) == 2
  let st := s.fld (AUD_BC_OUT_STREAMS n)
  let ch := s.fld (AUD_BC_OUT_CH_PER_STREAM n)
  let kb := s.fld (AUD_BC_OUT_AAC_KBPS n)
  if aac then decide (8 ≤ kb) && decide (kb ≤ 40)
  else decide (1 ≤ st) && decide (st ≤ 8) && decide (1 ≤ ch) && decide (ch ≤ 64)

/-- Bases that may change only while their unit is disabled (BRG_STORE to BRG_DREC_E, the FWD tables, the audio bases). -/
def State.baseLocked (s : State) (a : Nat) : Bool :=
  ((decide (0x170004 ≤ a ∧ a ≤ 0x170018) || decide (0x180008 ≤ a ∧ a ≤ 0x18001C)) && s.bit BRG_CFG_EN) ||
  (decide (0x1A0004 ≤ a ∧ a ≤ 0x1A0010) && s.bit AUD_CFG_EN)

/-- The live channels of a configuration. -/
def State.onChans (s : State) : List Nat := (List.range 16).filter s.chOn

/-- Whether a staged tap leaves its phase with a sum that is not 256 (R184, R197). -/
def State.filtBad (s : State) (a : Nat) : Bool :=
  decide (0x169000 ≤ a ∧ a < 0x16A000) &&
  ((List.range 8).map (fun t => toSigned 10 (s.fld (CMP_FILT_DATA_TAP ((a - 0x169000) / 32 * 8 + t))))).sum != 256

/-- Whether a kettle's DRAM window leaves the kettle's side (R19, R278). -/
def State.ketWindowBad (s : State) (k : Nat) : Bool :=
  let len := s.pairVal (DSP_KET_DRAM_LIMIT_LO k) (DSP_KET_DRAM_LIMIT_HI k)
  len != 0 && !s.onSide (k / 6) (s.pairVal (DSP_KET_DRAM_BASE_LO k) (DSP_KET_DRAM_BASE_HI k)) len

/-- Rule 1. `P` is the projected configuration throughout. -/
def State.rule1 (s P : State) : Option Nat := firstOf [
  firstAt s.stage.writes (fun e => !wordOk e.1 e.2) (·.1),
  firstAt s.stage.writes (fun e => s.baseLocked e.1 && s.view e.1 != e.2) (·.1),
  firstAt s.stage.records (fun r => !recOk r) recWhere,
  firstAt s.stage.writes (fun e => P.filtBad e.1) (·.1),
  firstAt P.onChans (fun n => !P.sizesOk n) (fun n => ENC_CH_REND_SIZE n 0),
  firstAt P.onChans (fun n => P.fld (ENC_CH_FMT_CHROMA n) == 2 && P.fld (ENC_CH_FMT_DEPTH n) == 2) ENC_CH_FMT,
  firstAt ((List.range 16).filter (fun n => P.bit (AUD_BC_CTRL_EN n))) (fun n => !P.bcOutOk n) AUD_BC_OUT,
  firstAt (List.range 16) (fun p => let m := P.fld (APT_PORT_FRAME_SLOTS p) + 1
    decide (p < 8) && P.rxOn p && decide (2 ^ m ≤ P.fld (APT_PORT_RX_MASK_MASK p))) APT_PORT_RX_MASK,
  firstAt (List.range 16) (fun p => let m := P.fld (APT_PORT_FRAME_SLOTS p) + 1
    decide (p < 8) && P.txOn p && decide (2 ^ m ≤ P.fld (APT_PORT_TX_MASK_MASK p))) APT_PORT_TX_MASK,
  if P.fld RDN_CFG_MODE = 1 ∧ (P.fld RDN_CFG_ARB = 0 ∨ P.fld RDN_CFG2_RENEW ≥ P.fld RDN_CFG2_LEASE_MS * 5) then some RDN_CFG
    else none ]

/-! ### Rules 2 to 5: live channels, codecs, mills, check decoders -/

/-- The least D of R32 in 2⁻¹⁶ ns, without a pair's lead. -/
def State.minD (s : State) (n : Nat) : Nat :=
  match s.chMode n with
  | 0 => 3 * s.tf n / 10 + msU
  | 1 => 3 * s.tf n / 2
  | _ => (2 + s.lookL n) * s.tf n

/-- The lead that a pair adds (R425). -/
def State.rackLead (s : State) : Nat := if s.inPair then s.fld RDN_CFG2_RACK_LEAD * 10 * usU else 0

/-- t_row of a rendition's own rows in 2⁻¹⁶ ns (R37, R110). -/
def State.tRowOf (s : State) (n k : Nat) : Nat :=
  let w := s.rendW n k
  let b := rowLines (s.codec n k)
  let wide := if s.codec n k = 3 then (tileCols w b (ceilDiv w 4096)).foldl (fun m x => max m (x.2 - x.1)) 0 else w
  let (ec, ed) := s.effC n k
  wide * min b (s.rendH n k) * ec * 1000 * 65536 * (64 + s.margin n) / (512 * ed * 64) + 40 * usU

/-- The input rate of a channel in bits per second (R45). -/
def State.inRate (s : State) (n : Nat) : Nat :=
  let depth := [8, 10, 12].getD (s.fld (ENC_CH_FMT_DEPTH n)) 12
  let cf := [3, 4, 6].getD (s.fld (ENC_CH_FMT_CHROMA n)) 6
  s.fld (ENC_CH_SIZE_WIDTH n) * s.fld (ENC_CH_SIZE_HEIGHT n) * depth * cf * (s.chRate n).1 / (2 * (s.chRate n).2)

/-- A MAC's rate in bits per second (R374). -/
def State.macBits (s : State) (m : Nat) : Nat :=
  [10, 25, 50, 100, 200, 400, 800].getD (s.fld (LNK_MAC_CFG_SPEED m)) 0 * 1000000000

/-- The input paths of a channel. -/
def State.inMacs (s : State) (n : Nat) : List Nat :=
  s.fld (ENC_CH_IN_PATH_MAC_A n) :: (if s.bit (ENC_CH_IN_PATH_DUAL n) then [s.fld (ENC_CH_IN_PATH_MAC_B n)] else [])

/-- The rate of the broadcast audio streams of a channel that come in on a MAC, in bits per second: 24-bit samples of the channels that its
routes take of each stream, on both paths (R261). -/
def State.audRate (s : State) (n m : Nat) : Nat :=
  if !s.bit (AUD_BC_CTRL_EN n) then 0
  else
    let hz := if s.fld (AUD_BC_CTRL_RATE n) = 1 then 96000 else 48000
    ((List.range (s.fld (AUD_BC_IN_NSTREAMS n))).map (fun i =>
      let chs := ((List.range 64).filter (fun e => s.bit (AUD_BC_ROUTE_EN n e) && s.fld (AUD_BC_ROUTE_STREAM n e) == i)).map (fun e =>
        s.fld (AUD_BC_ROUTE_IN_CH n e) + 1)
      let on := fun f => if s.recValid 0 f ∧ s.ff f 0x0A 1 = m then 1 else 0
      let f := s.fld (AUD_BC_IN_FLOW n) + i
      chs.foldl max 0 * 24 * hz * (on f + (if s.bit (ENC_CH_IN_PATH_DUAL n) then on (f + 8) else 0)))).sum

/-- Whether a MAC's staged streams exceed its rate: the video and the broadcast audio inputs, the streams whose rate is configured. -/
def State.macOver (s : State) (m : Nat) : Bool :=
  let ins := (s.onChans.flatMap (fun n => (s.inMacs n).map (fun x => (x, n)))).filter (fun x => x.1 == m)
  decide ((ins.map (fun x => s.inRate x.2)).sum + (s.onChans.map (fun n => s.audRate n m)).sum > s.macBits m)

/-- The largest load over a channel's tuns in an assignment. -/
def Asg.maxLoadOf (a : Asg) (n : Nat) : Nat :=
  (List.range 40).foldl (fun m t => if a.own.getD t 0 = n + 1 then max m (a.load.getD t 0) else m) 0

/-- Rule 2. -/
def State.rule2 (s P : State) (a : Asg) : Option Nat := firstOf [
  firstAt P.onChans (fun n => P.chMode n == 2 && (P.lookL n == 0 || P.lookL n == 7)) ENC_CH_CTRL,
  firstAt P.onChans (fun n => decide (P.delayD n < P.minD n) || decide (P.delayD n > 8 * P.tf n)) ENC_CH_DELAY,
  firstAt P.onChans (fun n => P.chMode n != 0 &&
    decide (P.delayD n < (P.lookL n + 1) * P.tf n + P.tPic n (a.maxLoadOf n))) ENC_CH_DELAY,
  if (P.onChans.map P.gAdmit).sum + P.enc.brgTun * 64 > 20480 * 1024 then some (ENC_CH_CTRL (P.onChans.getLastD 0)) else none,
  if (P.onChans.map (fun n => (P.rends n).length)).sum > 96 then some (ENC_CH_CTRL (P.onChans.getLastD 0)) else none,
  firstAt P.onChans (fun n => (P.inMacs n).any P.macOver) ENC_CH_IN_PATH,
  firstAt P.onChans (fun n => s.bit (ENC_CH_CTRL_EN n) && (P.delayD n != s.delayD n || P.chMode n != s.chMode n ||
    P.fld (ENC_CH_FMT_RATE n) != s.fld (ENC_CH_FMT_RATE n) || P.rd (ENC_CH_SIZE n) != s.rd (ENC_CH_SIZE n))) ENC_CH_DELAY,
  if !a.full then some (ENC_CH_CTRL (P.chanOrder.getLastD 0)) else none,
  firstAt (P.onChans.flatMap (fun n => (P.rends n).map (fun k => (n, k)))) (fun x => P.chMode x.1 == 0 &&
    decide (P.tRowOf x.1 x.2 * P.nRows x.1 x.2 > P.tf x.1 * (P.nRows x.1 x.2 - 3))) (fun x => ENC_CH_REND_CODEC x.1 x.2) ]

/-- Every rendition of a configuration. -/
def State.allRends (s : State) : List (Nat × Nat) := s.onChans.flatMap (fun n => (s.rends n).map (fun k => (n, k)))

/-- The codec combinations of R64: codec, profile, chroma, depth. -/
def codecOk (codec prof chroma depth : Nat) : Bool :=
  match codec, prof with
  | 0, 0 => chroma == 0 && depth == 0
  | 0, 1 => chroma == 0 && decide (depth ≤ 1)
  | 0, 2 => decide (chroma ≤ 1) && decide (depth ≤ 1)
  | 1, 0 => chroma == 0 && depth == 0
  | 1, 1 => chroma == 0 && decide (depth ≤ 1)
  | 1, 2 => decide (chroma ≤ 1) && decide (depth ≤ 1)
  | 2, 0 => chroma == 0 && decide (depth ≤ 1)
  | 2, 1 => decide (chroma ≤ 2) && decide (depth ≤ 1)
  | 3, 0 => chroma == 0 && decide (depth ≤ 1)
  | 3, 1 => decide (chroma ≤ 1 ∧ depth ≤ 2) || (chroma == 2 && decide (depth ≤ 1))
  | _, _ => false

/-- Whether a rendition has a codec of R64 within its level and its input's format. -/
def State.codecFits (s : State) (n k : Nat) : Bool :=
  let c := s.codec n k
  let ch := s.fld (ENC_CH_REND_CODEC_CHROMA n k)
  let d := s.fld (ENC_CH_REND_CODEC_DEPTH n k)
  let lv := s.fld (ENC_CH_REND_CODEC_LEVEL n k)
  let ti := if c = 0 then 0 else s.fld (ENC_CH_REND_CODEC_TIER n k)
  let px := s.rendW n k * s.rendH n k
  codecOk c (s.fld (ENC_CH_REND_CODEC_PROFILE n k)) ch d && decide (lv ≤ if c = 3 then 63 else 62) &&
  decide (d ≤ s.fld (ENC_CH_FMT_DEPTH n)) && decide (ch ≤ s.fld (ENC_CH_FMT_CHROMA n)) &&
  decide (px ≤ Config.levelPicture c lv ti) &&
  decide (px * (s.chRate n).1 ≤ Config.levelRate c lv ti * (s.chRate n).2 * 2 ^ s.fld (ENC_CH_REND_SIZE_RATE_DIV n k))

/-- The units that R71 can cut: macroblock rows of AVC, else CTU or superblock columns. -/
def State.cutUnits (s : State) (n k : Nat) : Nat :=
  match s.codec n k with
  | 0 => ceilDiv (s.rendH n k) 16
  | 1 => ceilDiv (s.rendW n k) 64
  | _ => ceilDiv (s.rendW n k) 128

/-- Whether a rendition's buffer breaks R118. Tf is the time between pictures of the rendition (assumption log row 103); the buffer limit of
AV1 is one second of the level's greatest rate. -/
def State.bufferBad (s : State) (n k : Nat) : Bool :=
  let lv := s.fld (ENC_CH_REND_CODEC_LEVEL n k)
  let cd := s.codec n k
  let ti := if cd = 0 then 0 else s.fld (ENC_CH_REND_CODEC_TIER n k)
  let h := s.hrdRate n k
  let b := s.bufBits n k
  let d0 := s.fld (ENC_CH_RC_BUF_INIT n k)
  let (fn, fd0) := s.chRate n
  let fd := fd0 * s.picStep n k
  let most := if cd = 3 then Config.levelBits cd lv ti else Config.levelBuffer cd lv ti
  decide (s.rcMode n k ≤ 2) && (decide (b > most) ||
    decide (h > Config.levelBits cd lv ti) || decide (d0 * fn < 1000 * fd) || decide (d0 * h > b * 1000) ||
    decide (b * fn < 2 * h * fd) || decide (h * fd < (Config.headerRap (s.rendCfg n k) + s.floorPic n k true) * fn))

/-- Whether a pool breaks R134. -/
def State.poolBad (s : State) (p : Nat) : Bool :=
  let ms := s.smxMembers p
  let tot := s.fld (ENC_SMX_TOTAL_TOTAL p)
  !ms.isEmpty && (ms.any (fun m => s.rcMode m.1 m.2 != 1) ||
    ms.any (fun m => s.fld (ENC_CH_FMT_RATE m.1) != s.fld (ENC_CH_FMT_RATE (ms.headD (0, 0)).1)) ||
    decide ((ms.map (·.1)).eraseDups.length < ms.length) ||
    decide ((ms.map (fun m => s.rcTarget m.1 m.2)).sum > tot * 100000) ||
    decide (tot * 100000 > (ms.map (fun m => s.rcMax m.1 m.2)).sum))

/-- Rule 3. -/
def State.rule3 (P : State) : Option Nat := firstOf [
  firstAt P.allRends (fun x => !P.codecFits x.1 x.2) (fun x => ENC_CH_REND_CODEC x.1 x.2),
  firstAt P.allRends (fun x => decide (P.npart x.1 x.2 < P.npartAuto x.1 x.2) || decide (P.npart x.1 x.2 > 20) ||
    decide (P.npart x.1 x.2 > P.cutUnits x.1 x.2)) (fun x => ENC_CH_REND_CODEC x.1 x.2),
  firstAt P.allRends (fun x => P.reuses x.1 x.2 && (decide (P.rendW x.1 x.2 > P.rendW x.1 0) ||
    decide (P.rendH x.1 x.2 > P.rendH x.1 0))) (fun x => ENC_CH_REND_CODEC x.1 x.2),
  firstAt P.allRends (fun x => P.rcMode x.1 x.2 == 3 && (decide (1 ≤ P.fld (ENC_CH_OUT_PKG_PKG x.1 x.2)) ||
    P.bit (ENC_CH_RC_MODE_SMX_EN x.1 x.2))) (fun x => ENC_CH_RC_MODE x.1 x.2),
  firstAt P.allRends (fun x => P.bufferBad x.1 x.2) (fun x => ENC_CH_RC_BUF x.1 x.2),
  firstAt (List.range 8) P.poolBad ENC_SMX_TOTAL ]

/-- Rule 4: the input of the channels of a side, in Mpixel/s (R97), compared exactly over 1,001. -/
def State.rule4 (P : State) (a : Asg) : Option Nat :=
  firstAt (List.range 2) (fun m => decide (((P.onChans.filter (fun n => tfind a.sides n == some m)).map (fun n =>
    P.fld (ENC_CH_SIZE_WIDTH n) * P.fld (ENC_CH_SIZE_HEIGHT n) * (P.chRate n).1 * (1001 / (P.chRate n).2))).sum >
      10240000000 * 1001)) (fun m => ENC_CH_SIZE ((P.onChans.filter (fun n => tfind a.sides n == some m)).getLastD 0))

/-- Rule 5. -/
def State.rule5 (P : State) : Option Nat :=
  if (P.chkPlaceOf P.chkOrder).fail then some (ENC_CH_CTRL (P.chanOrder.getLastD 0)) else none

/-! ### Rules 6 to 9: bridge, composer, packaging, audio, audio ports -/

/-- Whether a context's window holds its picture pool (R170). -/
def State.windowOk (s : State) (r : StagedRec) : Bool :=
  let b := rget r.words
  let n := Config.dpbPictures (b 1 1) (b 8 2) (b 10 2) + 2
  decide ((Config.ctxTop r.index + 1) * n * int18Bytes (b 8 2) (b 10 2) (s.decChroma r.index) ≤ b 0x18 8 - b 0x10 8)

/-- Rule 6: the staged records land, or the first that does not. -/
def State.rule6 (s P : State) : Option Nat :=
  let rs := s.stage.records
  firstOf [
    firstAt (rs.filter (fun r => r.typ == 1)) (fun r => !P.windowOk r) recWhere,
    match P.landBridge (rs.filter (fun r => r.typ < 8)) with
    | some _ => none
    | none =>
      let b := rs.filter (fun r => r.typ < 8)
      match (List.range b.length).find? (fun i => (P.landBridge (b.take (i + 1))).isNone) with
      | some i => (b[i]?).map recWhere
      | none => some (2 ^ 31) ]

/-- A merge layout of R193: whole LEG layers at full opacity, without border, at their input's size, that tile the output. -/
def State.mergeLayoutOk (s : State) (y : Layout) : Bool :=
  let ls := y.layers
  ls.all (fun l => l.kind == 1 && l.cropW == 0 && l.alpha == 255 && l.bord == 0 && l.dw == s.rf 1 l.src 8 2 && l.dh == s.rf 1 l.src 10 2 &&
    decide (l.dx + l.dw ≤ y.width) && decide (l.dy + l.dh ≤ y.height)) &&
  (ls.map (fun l => l.dw * l.dh)).sum == y.width * y.height &&
  (List.range ls.length).all (fun i => (List.range i).all (fun j =>
    match ls[i]?, ls[j]? with
    | some a, some b => decide (a.dx + a.dw ≤ b.dx ∨ b.dx + b.dw ≤ a.dx ∨ a.dy + a.dh ≤ b.dy ∨ b.dy + b.dh ≤ a.dy)
    | _, _ => true))

/-- The live load of a pipe in 1/16 composer grist. -/
def State.pipeLive (s : State) (p : Nat) : Nat :=
  ((bitsOf (s.fld (CMP_PIPE_LIVE_CHANNELS p)) 16).map s.liveScale).sum

/-- Rule 7. -/
def State.rule7 (P : State) : Option Nat :=
  let on := (List.range 16).filter (fun p => P.bit (CMP_PIPE_CFG_EN p))
  firstOf [
    firstAt (List.range 16) (fun p => decide (P.pipeReads p > 8000000000)) CMP_PIPE_LAYOUT_LO,
    firstAt on (fun p => decide (P.fld (CMP_PIPE_LOAD_LOAD p) > 64000)) CMP_PIPE_CFG,
    firstAt P.onChans (fun n => P.liveScale n != 0 && !(P.livePipes.any (fun x => x.1 == n))) ENC_CH_CTRL,
    firstAt (List.range 16) (fun p => P.bit (CMP_PIPE_STAT_LIVE p) && !(List.range 16).any (fun q =>
      q != p && !P.pipeFenced q && decide (P.fld (CMP_PIPE_LOAD_LOAD q) + P.pipeLive p ≤ 64000))) CMP_PIPE_LIVE,
    firstAt on (fun p => P.bit (CMP_PIPE_CFG_MODE p) &&
      !(match P.fetchLayout (P.pipeLayout p) with | some y => P.mergeLayoutOk y | none => false)) CMP_PIPE_LAYOUT_LO ]

/-- Whether a kettle of the audio library has work placed on its units. -/
def State.kettleAudio (s : State) (k : Nat) : Bool :=
  nbit (s.fld AUD_CFG_KETTLES) k && s.aud.loads.any (fun y => y.1 / 8 == k && y.2 != 0)

/-- Whether broadcast audio breaks R263. The input packet time is taken as PTIME too (assumption log). -/
def State.bcBad (s : State) (n : Nat) : Bool :=
  let pt := if s.bit (AUD_BC_CTRL_PTIME n) then 125000 else 1000000
  let d := s.fld (ENC_CH_DELAY_D_NS n)
  let aac := s.fld (AUD_BC_CTRL_OUT n) == 2
  let r96 := s.fld (AUD_BC_CTRL_RATE n) != 0
  s.bit (AUD_BC_CTRL_EN n) && ((!aac && decide (d < 2 * pt + 500000)) || (aac && decide (d < 25334000)) ||
    (r96 && (aac || (pt == 1000000 && decide (s.fld (AUD_BC_OUT_CH_PER_STREAM n) > 8)))))

/-- The staged audio records landed on the projected configuration. -/
def State.audProjected (s P : State) : State :=
  (s.stage.records.filter (fun r => r.typ ≥ 8)).foldl (fun (a : State) r => (a.landAudRec r).getD a)
    ((P.landBridge (s.stage.records.filter (fun r => r.typ < 8))).getD P)

/-- Rule 8. -/
def State.rule8 (s P : State) : Option Nat := firstOf [
  firstAt P.allRends (fun x => P.fld (ENC_CH_OUT_PKG_PKG x.1 x.2) == 2 && P.rcMode x.1 x.2 != 0)
    (fun x => ENC_CH_OUT_PKG x.1 x.2),
  if P.bit AUD_CFG_EN ∧ (s.audProjected P).audPlan.isNone then
    some (((s.stage.records.find? (fun r => r.typ ≥ 8)).map recWhere).getD AUD_CFG) else none,
  firstAt (List.range 16) P.bcBad AUD_BC_CTRL,
  firstAt (List.range 12) (fun k => P.bit (DSP_KET_CFG_CUST k) && (nbit (P.fld AUD_CFG_KETTLES) k ||
    (P.kernOf k).isNone || (match P.kernOf k with | some x => x.split != P.bit (DSP_KET_CFG_MODE k) | none => true))) DSP_KET_CFG,
  firstAt (List.range 12) (fun k => s.kettleAudio k && (P.fld (DSP_KET_CFG_MODE k) != s.fld (DSP_KET_CFG_MODE k) ||
    P.fld (DSP_KET_CFG_CUST k) != s.fld (DSP_KET_CFG_CUST k) || P.fld (DSP_KET_CFG_KSEL k) != s.fld (DSP_KET_CFG_KSEL k)))
    DSP_KET_CFG,
  firstAt (List.range 12) P.ketWindowBad DSP_KET_DRAM_BASE_LO ]

/-- The bytes that a port's status block and rings occupy in its kettle. -/
def State.aptSpan (s : State) (p : Nat) : Nat × Nat :=
  (s.fld (APT_PORT_BUF_OFFSET p), s.fld (APT_PORT_BUF_OFFSET p) + 64 + 4 * (s.rxLen p + s.txLen p))

/-- Whether an enabled port breaks R331 by itself. -/
def State.aptBad (s : State) (p : Nat) : Bool :=
  let k := s.fld (APT_PORT_BUF_KETTLE p)
  (decide (p < 8) && decide (s.aptSlots p * s.fld (APT_PORT_FRAME_WIDTH p) * aptHz (s.fld (APT_PORT_CFG_RATE p)) > 49152000)) ||
  decide (depthBits (s.fld (APT_PORT_FRAME_DEPTH p)) > s.fld (APT_PORT_FRAME_WIDTH p)) ||
  (decide (8 ≤ p) && s.fld (APT_PORT_FRAME_DEPTH p) == 3) ||
  (s.rxOn p && decide (s.rxLen p < 4 * popc (s.fld (APT_PORT_RX_MASK_MASK p)) 32)) ||
  (s.txOn p && decide (s.txLen p < 4 * popc (s.fld (APT_PORT_TX_MASK_MASK p)) 32)) ||
  decide ((s.aptSpan p).2 > 2097152) || !s.bit (DSP_KET_CFG_EN k) || !s.bit (DSP_KET_CFG_CUST k)

/-- Whether two enabled ports overlap. -/
def State.aptClash (s : State) (p q : Nat) : Bool :=
  s.fld (APT_PORT_BUF_KETTLE p) == s.fld (APT_PORT_BUF_KETTLE q) &&
  decide ((s.aptSpan p).1 < (s.aptSpan q).2 ∧ (s.aptSpan q).1 < (s.aptSpan p).2)

/-- Whether an AES3 output's reference breaks R331. -/
def State.aesRefBad (s : State) (p : Nat) : Bool :=
  let r := s.fld (APT_AES_CTRL_REF (p - 8))
  let src := r - 1
  decide (12 ≤ p) && s.txOn p && decide (1 ≤ r) &&
    (!s.rxOn src || s.fld (APT_PORT_CFG_RATE src) != s.fld (APT_PORT_CFG_RATE p))

/-- Whether an aligned group breaks R342. -/
def State.groupBad (s : State) (g : Nat) : Bool :=
  let ms := (List.range 16).filter (fun p => s.fld (APT_PORT_CFG_GROUP p) == g)
  match ms with
  | [] => false
  | l :: _ =>
    decide (ms.length > 8) || ms.any (fun p => s.fld (APT_PORT_CFG_RATE p) != s.fld (APT_PORT_CFG_RATE l) ||
      (if p < 8 then s.fld (APT_PORT_CFG_CLK_SRC p) != s.fld (APT_PORT_CFG_CLK_SRC l)
       else decide (p < 12) || decide (8 ≤ l) || s.fld (APT_AES_CTRL_REF (p - 8)) != s.fld (APT_PORT_CFG_CLK_SRC l) + 1))

/-- Rule 9. -/
def State.rule9 (P : State) : Option Nat :=
  let on := (List.range 16).filter P.aptOn
  firstOf [
    firstAt on P.aptBad APT_PORT_CFG,
    firstAt on (fun p => on.any (fun q => decide (q < p) && P.aptClash p q)) APT_PORT_BUF,
    firstAt on P.aesRefBad (fun p => APT_AES_CTRL (p - 8)),
    (firstAt ((List.range 7).map (· + 1)) P.groupBad (fun g =>
      APT_PORT_CFG (((List.range 16).find? (fun p => P.fld (APT_PORT_CFG_GROUP p) == g)).getD 0))) ]

/-! ### Rules 10 to 15: links, DRAM, power, triggers, pairs, limits -/

/-- The MAC configurations of R374: SPEED, LANES code, FEC. -/
def macCfgOk (speed lanes fec : Nat) : Bool :=
  match speed, lanes with
  | 0, 0 => decide (fec ≤ 1)
  | 1, 0 => decide (fec ≤ 2)
  | 2, 0 => fec == 3
  | 3, 2 => fec == 0 || fec == 2
  | 3, 1 => fec == 3
  | 3, 0 => fec == 3
  | 4, 2 => fec == 3
  | 4, 1 => fec == 3
  | 5, 3 => fec == 3
  | 5, 2 => fec == 3
  | 6, 3 => fec == 3
  | _, _ => false

/-- Whether the lanes of a MAC break R376. -/
def State.macLanesBad (s : State) (m : Nat) : Bool :=
  let ls := s.linkLanes m
  let on := (List.range 16).filter (fun x => s.bit (LNK_MAC_CFG_EN x))
  decide (s.fld (LNK_MAC_CFG_FIRST_LANE m) % 2 ^ s.fld (LNK_MAC_CFG_LANES m) ≠ 0) ||
  (s.linkQuads m).any (fun q => s.fld (LNK_QUAD_CFG_PROTO q) != 0) ||
  on.any (fun x => x != m && ((s.linkLanes x).any ls.contains ||
    ((s.linkQuads x).any (s.linkQuads m).contains && s.macRate x != s.macRate m)))

/-- The MACs that an enabled live channel names: input paths and the MACs of its output flows (R382). -/
def State.chanMacs (s : State) (n : Nat) : List Nat :=
  s.inMacs n ++ (s.rends n).flatMap (fun k =>
    let f := s.fld (ENC_CH_OUT_FLOW_FLOW n k)
    s.ff f 10 1 :: (if s.bit (ENC_CH_OUT_PKG_DUAL n k) then [s.ff (f + 1) 10 1] else []))

/-- Whether a change takes a MAC down, a move away from a failed reference apart (R382, R511). -/
def State.takesDown (s P : State) (m : Nat) : Bool :=
  s.bit (LNK_MAC_CFG_EN m) && (P.rd (LNK_MAC_CFG m) != s.rd (LNK_MAC_CFG m) ||
    (s.linkQuads m).any (fun q => P.fld (LNK_QUAD_CFG_EN q) != s.fld (LNK_QUAD_CFG_EN q) ||
      P.fld (LNK_QUAD_CFG_PROTO q) != s.fld (LNK_QUAD_CFG_PROTO q) ||
      (P.fld (LNK_QUAD_CFG_REFSEL q) != s.fld (LNK_QUAD_CFG_REFSEL q) && !s.failedMon (1 + s.fld (LNK_QUAD_CFG_REFSEL q)))))

/-- Rule 10. -/
def State.rule10 (s P : State) : Option Nat :=
  let on := (List.range 16).filter (fun m => P.bit (LNK_MAC_CFG_EN m))
  firstOf [
    firstAt on (fun m => !macCfgOk (P.fld (LNK_MAC_CFG_SPEED m)) (P.fld (LNK_MAC_CFG_LANES m)) (P.fld (LNK_MAC_CFG_FEC m)))
      LNK_MAC_CFG,
    firstAt on P.macLanesBad LNK_MAC_CFG,
    firstAt ((List.range 16).filter (fun p => P.bit (YZ_PORT_CFG_EN p)))
      (fun p => (P.linkQuads (16 + p)).any (fun q => P.fld (LNK_QUAD_CFG_PROTO q) != 1)) YZ_PORT_CFG,
    firstAt (List.range 16) (fun m => s.takesDown P m && (P.onChans.filter s.chOn).any (fun n => (s.chanMacs n).contains m))
      LNK_MAC_CFG ]

/-- The segments of a channel that a region covers (R492): rank · 8 + segment. -/
def State.regionSegs (s : State) (c base len : Nat) : List Nat :=
  let p0 := base / 4096
  let p1 := (base + len - 1) / 4096
  let on := fun p => (s.xlate (p * 4096)).any (fun x => x.1 == c)
  let lo := ((List.range (min 24 (p1 + 1 - p0))).map (· + p0)).find? on
  let hi := ((List.range (min 24 (p1 + 1 - p0))).map (p1 - ·)).find? on
  match lo, hi with
  | some a, some b =>
    let x := s.segOf (a * 4096)
    (List.range (s.segOf (b * 4096 + 4095) + 1 - x)).map (· + x)
  | _, _ => []

/-- The DRAM regions that registers name, while a unit that uses one is enabled or its base is not 0. -/
def State.regions (s : State) : List (Nat × Nat) :=
  let use := fun (en : Bool) (lo hi len : Nat) =>
    if en || s.pairVal lo hi != 0 then [(s.pairVal lo hi, len)] else []
  let b := s.bit BRG_CFG_EN
  let u := s.bit AUD_CFG_EN
  use b BRG_STORE_LO BRG_STORE_HI 0x41240000 ++ use b BRG_DREC_W_LO BRG_DREC_W_HI 0x100000 ++
  use b BRG_DREC_E_LO BRG_DREC_E_HI 0x100000 ++ use b FWD_CLS_BASE_LO FWD_CLS_BASE_HI 0x4000000 ++
  use b FWD_LRT_BASE_LO FWD_LRT_BASE_HI 0x10000000 ++ use b FWD_SMAP_BASE_LO FWD_SMAP_BASE_HI 0x40000000 ++
  use u AUD_SLOT_BASE_LO AUD_SLOT_BASE_HI 0x100000 ++ use u AUD_SESS_BASE_LO AUD_SESS_BASE_HI 0x80000 ++
  use s.inPair RDN_JOURNAL_LO RDN_JOURNAL_HI 0x4000000 ++
  (List.range 12).flatMap (fun k =>
    let len := s.pairVal (DSP_KET_DRAM_LIMIT_LO k) (DSP_KET_DRAM_LIMIT_HI k)
    if len = 0 then [] else [(s.pairVal (DSP_KET_DRAM_BASE_LO k) (DSP_KET_DRAM_BASE_HI k), len)])

/-- The masked segments of a channel. -/
def State.masked (s : State) (c : Nat) : List Nat :=
  bitsOf (s.fld (DRM_CH_PASR_RANK0 c)) 8 ++ (bitsOf (s.fld (DRM_CH_PASR_RANK1 c)) 8).map (· + 8)

/-- Whether any engine is enabled: a live channel, bridge, audio or kettle (R499). -/
def State.anyEngine (s : State) : Bool :=
  !s.onChans.isEmpty || s.bit BRG_CFG_EN || s.bit AUD_CFG_EN || (List.range 12).any (fun k => s.bit (DSP_KET_CFG_EN k))

/-- Rule 11. Picture buffers of a channel lie on its side's DRAM channels (R86), so USE_ALT may change only while no live
channel is enabled. -/
def State.rule11 (s P : State) : Option Nat := firstOf [
  firstAt (List.range 24) (fun c => decide (P.fld (DRM_CH_SCHED_WR_LOW c) ≥ P.fld (DRM_CH_SCHED_WR_HIGH c)) ||
    decide (P.fld (DRM_CH_SCHED_WR_HIGH c) > 63) || decide (P.fld (DRM_CH_SCHED_WR_AGE c) < 256) ||
    P.fld (DRM_CH_SCHED_WR_LOW c) == 0) DRM_CH_SCHED,
  firstAt (List.range 24) (fun c => !(P.masked c).isEmpty && (P.regions ++ s.regions).any (fun r =>
    (P.regionSegs c r.1 r.2).any (P.masked c).contains)) DRM_CH_PASR,
  firstAt (List.range 24) (fun c => P.bit (DRM_CH_CTRL_MODE c) && (P.anyEngine || s.anyEngine)) DRM_CH_CTRL,
  if P.fld DRM_CFG_USE_ALT ≠ s.fld DRM_CFG_USE_ALT ∧ (P.fld DRM_CFG_ALT_RATE = 15 ∨ !P.onChans.isEmpty ∨ !s.onChans.isEmpty)
    then some DRM_CFG else none ]

/-- Whether the block behind a gate carries admitted work, or a quad a link (R516, R518). -/
def State.gateWork (s : State) (n : Nat) : Bool :=
  if n < 40 then s.fld (ENC_TUN_LOAD_LOAD n) != 0 || s.tunBridge n != 0
  else if n < 42 then s.onChans.any (fun c => (s.chan c).side == some (n - 40))
  else if n < 66 then s.fld (DEC_CORE_LOAD_LOAD (n - 42)) != 0
  else if n < 74 then s.fld (DEC_CHK_LOAD_LOAD (n - 66)) != 0
  else if n < 90 then s.fld (CMP_PIPE_LOAD_LOAD (n - 74)) != 0 || s.bit (CMP_PIPE_CFG_EN (n - 74))
  else if n < 102 then s.bit (DSP_KET_CFG_EN (n - 90)) || s.kettleAudio (n - 90)
  else if n < 104 then s.bit BRG_CFG_EN || !s.onChans.isEmpty
  else if n < 128 then s.anyEngine
  else if n < 144 then (List.range 32).any (fun k => s.linkEn k && (s.linkQuads k).contains (n - 128))
  else if n = 144 then (List.range 16).any s.aptOn
  else decide (n ≤ 146)

/-- Whether a domain may not be off (R518). -/
def State.domainHeld (s : State) (d : Nat) : Bool :=
  let on := fun x => nbit (s.fld PWR_PD_CTRL_ON) x
  (List.range 148).any (fun n => gateDomain n == d && s.gateWork n) ||
  (d == 2 && [4, 5, 8, 11, 13].any on) || (d == 3 && [6, 7, 9, 12, 14].any on) ||
  ((d == 15 || d == 16) && (s.bit BRG_CFG_EN || !s.onChans.isEmpty)) || (d == 10 && [4, 5, 6, 7].any on)

/-- The enables whose setting is further work (R523). -/
def workEnables : List FRef :=
  (List.range 16).map ENC_CH_CTRL_EN ++ (List.range 192).map (fun i => ENC_CH_OUT_PKG_EN (i / 12) (i % 12)) ++
  (List.range 16).map CMP_PIPE_CFG_EN ++ [BRG_CFG_EN, AUD_CFG_EN] ++ (List.range 16).map AUD_BC_CTRL_EN ++
  (List.range 12).map DSP_KET_CFG_EN ++ (List.range 16).map APT_PORT_CFG_RX_EN ++ (List.range 16).map APT_PORT_CFG_TX_EN ++
  (List.range 16).map LNK_MAC_CFG_EN ++ (List.range 16).map YZ_PORT_CFG_EN

/-- A staged record that adds work (R523). -/
def State.addsWork (s : State) (r : StagedRec) : Bool :=
  rget r.words 0 1 != 0 && (if r.typ = 8 then rget ((tfind s.aud.slots r.index).getD []) 0 1 == 0
    else decide (r.typ ≤ 4) && s.recState r.typ r.index == 0)

/-- Rule 12. -/
def State.rule12 (s P : State) : Option Nat := firstOf [
  firstAt (List.range 148) (fun n => !P.bit (CLK_GATE_RUN n) && P.gateWork n) CLK_GATE,
  if (List.range 24).any (fun d => decide (2 ≤ d ∧ d ≤ 21) && !nbit (P.fld PWR_PD_CTRL_ON) d && P.domainHeld d) then
    some PWR_PD_CTRL else none,
  if P.fld PWR_MODE_REQ ≠ 0 ∧ (!P.onChans.isEmpty ∨ P.bit BRG_CFG_EN ∨ P.bit AUD_CFG_EN ∨ P.fld RDN_CFG_MODE ≠ 0) then
    some PWR_MODE else none,
  if s.bit PWR_AVS_STAT_FAULT then
    firstOf [firstAt workEnables (fun f => P.bit f && !s.bit f) (·.addr), firstAt s.stage.records s.addsWork recWhere]
  else none ]

/-- Rule 13: a device-owned trigger named by a register that software writes (R365). -/
def State.rule13 (s P : State) : Option Nat := firstOf [
  firstAt (List.range 16) (fun p => decide (P.fld (CMP_PIPE_CFG_TRIGGER p) ≥ 32)) CMP_PIPE_CFG,
  if P.fld AUD_CFG_TRIGGER ≥ 32 then some AUD_CFG else none,
  firstAt (List.range 12) (fun k => (List.range 4).any (fun i =>
    let b := fieldGet (P.rd (DSP_KET_TRIG k)) (8 * i) 8
    nbit b 7 && decide (b % 64 ≥ 32))) DSP_KET_TRIG,
  firstAt s.stage.records (fun r => r.typ == 4 && rget r.words 0 1 != 0 && decide (rget r.words 13 1 ≥ 32)) recWhere ]

/-- Rule 14. -/
def State.rule14 (s P : State) : Option Nat := firstOf [
  if s.isStandby then firstAt s.stage.writes (fun e => rackedBlock e.1) (·.1) else none,
  firstAt P.onChans (fun n => decide (P.delayD n < P.minD n + P.rackLead)) ENC_CH_DELAY,
  if P.inPair ∧ P.bit RDN_CFG_MEDIA then
    firstAt P.allRends (fun x => P.bit (ENC_CH_OUT_PKG_DUAL x.1 x.2) &&
      nbit (rget (P.flowAfter s.stage.records (P.fld (ENC_CH_OUT_FLOW_FLOW x.1 x.2) + 1)) 3 1) 2)
      (fun x => ENC_CH_OUT_FLOW x.1 x.2)
  else none ]

/-- Rule 15 (R531). -/
def State.rule15 (P : State) : Option Nat :=
  firstAt (List.range 16) (fun z =>
    let a := P.sfld (THM_ZONE_LIM_A_COLD_LIMIT z)
    let b := P.sfld (THM_ZONE_LIM_A_COLD_WARN z)
    let c := P.sfld (THM_ZONE_LIM_A_HOT_WARN z)
    let d := P.sfld (THM_ZONE_LIM_A_HOT_THROTTLE z)
    let e := P.sfld (THM_ZONE_LIM_B_HOT_CRIT z)
    !(decide (a < b) && decide (b < c) && decide (c < d) && decide (d < e) && decide (e ≤ 115))) THM_ZONE_LIM_A

/-! ### The check -/

/-- The first failure of the check over the bank's content: the rule code of R553 and where. -/
def State.gravity (s : State) : Option (Nat × Nat) :=
  let P := s.projected
  let a := P.assign
  let rules : List (Nat × Option Nat) :=
    [(1, s.rule1 P), (2, s.rule2 P a), (3, P.rule3), (4, P.rule4 a), (5, P.rule5), (6, s.rule6 P), (7, P.rule7),
     (8, s.rule8 P), (9, P.rule9), (10, s.rule10 P), (11, s.rule11 P), (12, s.rule12 P), (13, s.rule13 P),
     (14, s.rule14 P), (15, P.rule15)]
  (rules.find? (fun r => r.2.isSome)).map (fun r => (r.1, r.2.getD 0))

/-- The placement rules that are re-run at the pitch instant over the configuration then in force (R556): R75, R142, R157,
R183 and R255. -/
def State.placementOk (s : State) (p : Pitch) : Bool :=
  let P := (s.landWrites p.writes).runAssign
  P.assign.full && !(P.chkPlaceOf P.chkOrder).fail &&
  match P.landRecords p.records with
  | none => false
  | some Q => !Q.bit AUD_CFG_EN || Q.audPlan.isSome

/-- Whether admission refuses the bridge records of a change over a configuration (R202). -/
def State.admitFails (P : State) (rs : List StagedRec) : Bool :=
  (P.landBridge (rs.filter (fun r => r.typ < 8))).isNone

/-- The check completes (R552), and a refusal by admission is counted (R202): result, rule and place in CFG_CHECK_RES and CFG_CHECK_ADDR, event 0x0402. -/
def State.gravityDone (s : State) : State :=
  let g := if s.stage.invalid then some (0, 0) else s.gravity
  let res := if s.stage.invalid then 3 else if g.isSome then 2 else 1
  let (rule, at') := g.getD (0, 0)
  let s := if g.isSome ∧ rule = 6 ∧ s.projected.admitFails s.stage.records then s.cnt BRG_CNT_REFUSED_COUNT 1 else s
  let s := { s with stage := { s.stage with checking := false, invalid := false } }
  let s := ((s.put CFG_CHECK_RES_RESULT res).put CFG_CHECK_RES_RULE rule).put CFG_CHECK_ADDR_WHERE at'
  let s := (s.put CFG_STAGE_STAT_CHECKED (b2n (res == 1))).put CFG_CTRL_CHECK 0
  s.emit 0x0402 0 (evArg [(0, 1, res), (1, 1, rule), (4, 4, at')])

end Sys2Proof.Machine
end

