-- ==== Sys2Proof/Machine/Reset.lean ====
section
/-! DEFINITION. Resets (R538, R605, R606): what each keeps, and the pins that cause them. -/

namespace Sys2Proof.Machine

/-- The levels that the TEST_EN ball shows. -/
def State.testEn (s : State) (v : Nat) : State := (s.put SYS_STAT_TEST_EN v).put TST_JTAG_STAT_TEST_EN v

/-- Everything at reset but the cask, the flash, the TEST_EN ball, and what is the model's own: the queue, the record of what has
left, and the count of free values. -/
def State.freshFrom (s : State) : State :=
  ({ State.reset with
    cask := s.cask, ctl := { Ctl.zero with flash := s.ctl.flash }, out := s.out, fresh := s.fresh, pending := s.pending }).testEn
    (s.fld SYS_STAT_TEST_EN)

/-- A register's word with its sticky fields kept and the others at reset. -/
def stickyWord (a : Nat) (w : W32) : W32 :=
  match regRow a with
  | none => regReset a
  | some r => r.fields.foldl (fun v f =>
      if f.acc = .rws ∨ f.acc = .ros then fieldPut v f.lo f.width (fieldGet w f.lo f.width) else v) (regReset a)

/-- The registers that a warm reset leaves: every RWS field and fence flag, and nothing else (R538). -/
def stickyRegs (t : Tab W32) : Tab W32 := t.foldl (fun k e => tset regReset k e.1 (stickyWord e.1 e.2)) []

/-- A cold reset: PORST_N is low. -/
def State.coldReset (s : State) : State := s.freshFrom

/-- Start-up step 1 ends and the next begins (R539). -/
def State.startUp (s : State) (cold : Bool) : State :=
  let s := { s with boot := { s.boot with cold := cold, porHeld := false, startRaw := s.raw } }
  (s.put CFG_BOOT_STAT_COLD (b2n cold)).bootStepDone 1

/-- A warm reset. PD0 stays powered, so the raw counter runs on (R346) and step 1 takes no time; a pin that is low holds the
device in it. Spare rows stay in use (R623). -/
def State.warmReset (s : State) (pin : Bool) : State :=
  let f := s.freshFrom
  let f := { f with regs := stickyRegs s.regs, tb := { Tb.zero with raw := s.raw } }
  let f := { f with boot := { Boot.zero with cold := false, startRaw := s.raw, porHeld := pin } }
  let f := (f.testEn (s.fld SYS_STAT_TEST_EN)).wr TST_BIST_CNT_REPAIR (s.rd TST_BIST_CNT_REPAIR)
  let f := f.runAssign.decRefresh
  if pin then f else f.startUp false

/-- COLD_RESET (R538, R606): PORST_N goes low, which also ends the hold of a brownout. -/
def execColdReset (s : State) : Host.Outcome State Fault Refusal := .next s.coldReset

/-- WARM_RESET_PIN (R538): WRST_N goes low. A device that PORST_N or a brownout holds in cold reset stays there. -/
def execWarmResetPin (s : State) : Host.Outcome State Fault Refusal :=
  .next (if s.boot.porHeld ∧ s.boot.cold then s else s.warmReset true)

/-- BROWNOUT (R606): the safe states are forced and the device holds itself in cold reset. -/
def execBrownout (s : State) : Host.Outcome State Fault Refusal :=
  let s := s.forceSafe
  let r := s.coldReset
  .next { r with safe := { r.safe with forced := true, brownout := true }, phy := { r.phy with idle := List.range 16 } }

/-- RESET_PIN_RELEASE (R539, R605, R606): the pin that holds the device goes high with the supplies valid. -/
def execResetPinRelease (railsOk : Bool) (s : State) : Host.Outcome State Fault Refusal :=
  .next (if s.boot.porHeld ∧ railsOk ∧ !s.safe.brownout then s.startUp s.boot.cold else s)

end Sys2Proof.Machine
end

