-- ==== Sys2Proof/Machine/Stage.lean ====
section
/-! DEFINITION. Staging, the check command, and pitching (chapter 24): the pitch queue, the parts of a pitch and the boundary
of each (R26, R56 to R58), and completion. -/

namespace Sys2Proof.Machine

/-! ### The parts of a pitch (R26) -/

/-- The part to which a register belongs: 0 the pitch instant, 1 + n live channel n, 17 shared encoding, 18 decoding, 19 the
composer's shared registers, 20 forwarding, 21 audio, 22 + p audio port p, 40 + p composer pipe p, 64 + k the triggers and the DRAM window of
the kernel on kettle k. -/
def partOf (a : Nat) : Nat :=
  let b := a / 0x10000
  if b = 16 ∧ a < 0x104000 then 1 + (a - 0x100000) / 0x400
  else if 16 ≤ b ∧ b ≤ 19 then 17
  else if b = 20 ∨ b = 21 then 18
  else if b = 22 then (if a < 0x161000 then 40 + (a - 0x160000) / 0x100 else 19)
  else if b = 24 ∨ b = 25 then 20
  else if b = 26 then 21
  else if b = 27 ∧ a < 0x1B1000 then 22 + (a - 0x1B0000) / 0x100
  else if b = 28 ∧ a < 0x1C0C00 ∧ (a % 0x100 = 4 ∨ (0x10 ≤ a % 0x100 ∧ a % 0x100 < 0x20)) then 64 + (a - 0x1C0000) / 0x100
  else 0

/-- The live channel whose enabled renditions send a flow (R213, R218): the flow of a rendition or its second path. -/
def State.chanOfFlow (s : State) (f : Nat) : Option Nat :=
  (List.range 16).find? (fun n => (s.rends n).any (fun k =>
    let g := s.fld (ENC_CH_OUT_FLOW_FLOW n k)
    g == f || (s.bit (ENC_CH_OUT_PKG_DUAL n k) && g + 1 == f)))

/-- The part of a staged record: audio records with audio, flows of live outputs with their channel (R218), the rest at the
instant. -/
def State.recPart (s : State) (r : StagedRec) : Nat :=
  if r.typ ≥ 8 then 21
  else if r.typ = 0 then (match s.chanOfFlow r.index with | some n => 1 + n | none => 0)
  else 0

/-- The parts of a pitch, part 0 always among them. -/
def State.partsOf (s : State) (p : Pitch) : List Nat :=
  (0 :: (p.writes.map (fun e => partOf e.1) ++ p.records.map s.recPart)).eraseDups

/-- The staged registers of a part. -/
def Pitch.part (p : Pitch) (k : Nat) : Tab W32 := p.writes.filter (fun e => partOf e.1 == k)

/-- The references of AES3 outputs, whose change lands at the pitch instant (R334) and not with the rest of their register. -/
def aesRefReg (a : Nat) : Bool := decide (0x1B0000 ≤ a ∧ a < 0x1B1000 ∧ a % 0x100 = 0x40)

/-- The registers that part 0 writes: its own and the references. -/
def State.instantWrites (s : State) (p : Pitch) : Tab W32 :=
  p.part 0 ++ ((p.writes.filter (fun e => aesRefReg e.1)).map (fun e => (e.1, fieldPut (s.rd e.1) 0 4 (fieldGet e.2 0 4))))

/-- The registers that an audio port's part writes: its own, with the reference in force. -/
def State.portWrites (s : State) (p : Pitch) (k : Nat) : Tab W32 :=
  (p.part k).map (fun e => if aesRefReg e.1 then (e.1, fieldPut e.2 0 4 (fieldGet (s.rd e.1) 0 4)) else e)

/-- Whether a unit of a kettle runs a kernel invocation. -/
def State.ketBusy (s : State) (k : Nat) : Bool := (List.range 8).any (fun c => s.fld (DSP_CORE_STAT_STATE (8 * k + c)) == 3)

/-! ### What landing at the pitch instant starts (R382, R500, R499, R304, R505, R517, R520) -/

/-- Whether a pitch changes one of a link's registers: its MAC or port, or the quads of its lanes. -/
def State.linkTouched (s t : State) (k : Nat) : Bool :=
  let cfg := if k < 16 then LNK_MAC_CFG k else YZ_PORT_CFG (k - 16)
  s.rd cfg != t.rd cfg ||
  ((s.linkQuads k) ++ (t.linkQuads k)).any (fun q => s.rd (LNK_QUAD_CFG q) != t.rd (LNK_QUAD_CFG q))

/-- Links whose settings changed return to step 1 (R382); test functions of lanes that now serve stop (R621). `s` is the state
before the pitch. -/
def State.landLinks (s t : State) : State :=
  let qs := (List.range 16).filter (fun q => s.rd (LNK_QUAD_CFG q) != t.rd (LNK_QUAD_CFG q))
  let t : State := qs.foldl (fun (t : State) (q : Nat) =>
    let t := if s.fld (LNK_QUAD_CFG_REFSEL q) ≠ t.fld (LNK_QUAD_CFG_REFSEL q) then
        t.muxStart (32 + q) (1 + s.fld (LNK_QUAD_CFG_REFSEL q)) else t
    t.put (LNK_QUAD_STAT_PLL_LOCK q) 0) t
  let ks := (List.range 32).filter (fun k => s.linkTouched t k)
  let t : State := ks.foldl (fun (t : State) (k : Nat) => if s.linkEn k then t.linkStop k (s.linkLanes k) else t) t
  ks.foldl (fun (t : State) (k : Nat) =>
    if t.linkEn k then ((t.linkLanes k).foldl (fun (t : State) (l : Nat) => t.tstStop l) t).linkStart k else t) t

/-- Clocks, gates and power: PLL references switch, monitors are judged again, gates follow their enables, the trim follows
its source, a written mode request begins its transition. A failed source
that no reference names any more holds nothing: event 0x0101 says so (R511). -/
def State.landClocks (s t : State) (p : Pitch) : State :=
  let ps := (List.range 7).filter (fun i => s.rd (CLK_PLL_CFG i) != t.rd (CLK_PLL_CFG i))
  let t : State := ps.foldl (fun (t : State) (i : Nat) => t.muxStart (16 + i) (s.fld (CLK_PLL_CFG_REF i))) t
  let quads := (List.range 16).any (fun q => s.fld (LNK_QUAD_CFG_REFSEL q) != t.fld (LNK_QUAD_CFG_REFSEL q))
  let t := if ps = [] ∧ !quads ∧ !p.writes.any (fun e => decide (0x11000 ≤ e.1 ∧ e.1 < 0x12000)) then t else t.clkRecheck
  let freed := (List.range 48).filter (fun m => s.failedMon m && s.refNames m && !t.refNames m)
  let t : State := freed.foldl (fun (t : State) (m : Nat) => t.emit 0x0101 m (evArg [(0, 1, 1), (2, 1, s.monClass m)])) t
  let t := if t.fld CLK_TRIM_CFG_SRC ≠ s.fld CLK_TRIM_CFG_SRC ∧ t.fld CLK_TRIM_CFG_SRC = 0 then
      { t with clk := { t.clk with trim := none } }.put CLK_TRIM_STAT_TRACKING 0 else t
  let t := if p.writes.any (fun e => e.1 == PWR_MODE) then t.modeReq p.host else t
  if p.writes.any (fun e => decide (0x12000 ≤ e.1 ∧ e.1 < 0x13000)) then t.gatesStep else t

/-- DRAM, kettles, timebase and audio output references. -/
def State.landUnits (s t : State) : State :=
  let t := if s.bit DRM_CFG_USE_ALT ≠ t.bit DRM_CFG_USE_ALT then t.drSetPoint else t
  let t : State := (List.range 24).foldl (fun (t : State) (c : Nat) =>
    if s.bit (DRM_CH_CTRL_MODE c) ≠ t.bit (DRM_CH_CTRL_MODE c) then t.drMode c else t) t
  let t : State := (List.range 12).foldl (fun (t : State) (k : Nat) =>
    if s.rd (DSP_KET_CFG k) ≠ t.rd (DSP_KET_CFG k) then t.ketLoad k else t) t
  let t : State := (List.range 4).foldl (fun (t : State) (i : Nat) =>
    if s.fld (APT_AES_CTRL_REF (12 + i)) ≠ t.fld (APT_AES_CTRL_REF (12 + i)) ∧ t.txOn (12 + i) then t.aptLost (12 + i) else t) t
  if s.fld TB_CTRL_SRC ≠ t.fld TB_CTRL_SRC then t.srcChanged else t

/-- The part of a pitch that lands at its instant. -/
def State.landInstant (s : State) (p : Pitch) : State :=
  let t := s.landWrites (s.instantWrites p)
  let t := if s.bit BRG_CFG_EN = false ∧ t.bit BRG_CFG_EN then t.brgClear else t
  let t := (t.landBridge (p.records.filter (fun r => s.recPart r == 0))).getD t
  (s.landUnits (s.landClocks (s.landLinks t) p)).resumeCtx

/-! ### A live channel's part (R56 to R58, R137) -/

/-- The first slot whose row-0 start deadline lies after an instant in 2⁻¹⁶ ns (R56). -/
def State.slotAfter (s : State) (n : Nat) (t : Int) : Nat :=
  let x := (t - s.deadline n 0 0).toNat
  let k := x * (s.chRate n).1 / ((s.chRate n).2 * secU)
  ([k - 1, k, k + 1].find? (fun j => decide (s.deadline n j 0 > t))).getD (k + 2)

/-- The first slot from k on whose release lies after now (R58). -/
def State.slotOpen (s : State) (n k : Nat) : Nat :=
  let x := (s.now - s.delayD n - s.slotTime n 0).toNat
  max k (x * (s.chRate n).1 / ((s.chRate n).2 * secU) + (if s.now < s.slotTime n 0 + (s.delayD n : Int) then 0 else 1))

/-- Whether a change of a rendition restarts it with a random-access point (R57, R71): it is added, or its codec, profile, level, tier,
sample format, size, rate, packaging or unit structure changes; effort and reuse alone do not. `t` holds the new settings. -/
def State.rendRestarts (s t : State) (n k : Nat) : Bool :=
  t.rendOn n k && (!s.rendOn n k ||
    [ENC_CH_REND_CODEC_CODEC n k, ENC_CH_REND_CODEC_PROFILE n k, ENC_CH_REND_CODEC_LEVEL n k, ENC_CH_REND_CODEC_TIER n k,
     ENC_CH_REND_CODEC_DEPTH n k, ENC_CH_REND_CODEC_CHROMA n k, ENC_CH_OUT_PKG_PKG n k].any (fun f => s.fld f != t.fld f) ||
    s.rd (ENC_CH_REND_SIZE n k) != t.rd (ENC_CH_REND_SIZE n k) || s.units n k != t.units n k ||
    s.rd (ENC_CH_FMT n) != t.rd (ENC_CH_FMT n) || s.rd (ENC_CH_SIZE n) != t.rd (ENC_CH_SIZE n))

/-- Whether a change of a rendition's rate control forces a random-access point (R137). -/
def State.rcForces (s t : State) (n k : Nat) : Bool :=
  s.rendOn n k && t.rendOn n k &&
  (s.rcMode n k != t.rcMode n k ||
   (s.rcMode n k != 3 &&
    ((s.rcMode n k == 0 && s.rcTarget n k != t.rcTarget n k) || s.rd (ENC_CH_RC_BUF n k) != t.rd (ENC_CH_RC_BUF n k) ||
     (s.rcMax n k != t.rcMax n k && decide (t.rcMax n k > ((s.chan n).rc k).maxRap)))))

/-- A rendition's history without the pictures from slot k on: its place in coding order, its last random-access point and the type of its
last picture are those of before the first of them. -/
def Chan.unplanRc (c : Chan) (k r : Nat) : RcRec :=
  let rc := c.rc r
  let gone := c.pics.filter (fun x => x.1 % 16 == r && decide (k ≤ x.1 / 16))
  match gone with
  | [] => rc
  | x :: l =>
    let p := l.foldl (fun (p : RPic) y => if y.2.ord < p.ord then y.2 else p) x.2
    let left := c.pics.any (fun y => y.1 % 16 == r && decide (rc.first ≤ y.1 / 16) && decide (y.1 / 16 < k))
    let rc := { rc with ord := p.ord, begun := rc.begun && (decide (rc.count > 0) || left) }
    if p.budgeted then { rc with lastRap := p.was.1, prevIntra := p.was.2 } else rc

/-- Take back the pictures planned for slots from k on; a random-access point of one of them stays with its slot. -/
def State.unplan (s : State) (n k : Nat) : State :=
  let c := s.chan n
  let gone := c.pics.filter (fun x => decide (k ≤ x.1 / 16))
  let rcs := (List.range 12).foldl (fun t r => tset (fun _ => RcRec.zero) t r (c.unplanRc k r)) c.rcs
  let c := { c with pics := c.pics.filter (fun x => decide (x.1 / 16 < k)), rcs := rcs }
  let c := (gone.filter (fun x => x.2.rap)).foldl (fun (c : Chan) x =>
    let sl := c.slot (x.1 / 16)
    c.setSlot (x.1 / 16) { sl with rap := nset sl.rap (x.1 % 16) }) c
  let s := s.setChan n c
  (gone.flatMap (fun x => (x.2.units.filter (fun u => u.phase == .coding)).map (·.tun))).foldl (fun (s : State) t =>
    s.put (ENC_TUN_STAT_BUSY t) (b2n (s.tunCoding t false))) s

/-- Land a channel's writes at slot k: earlier slots keep the registers of before them (R56). -/
def State.landAt (s : State) (n k : Nat) (ws : Tab W32) : State :=
  let c := s.chan n
  (s.setChan n { c with past := c.past ++ [(k, ws.map (fun e => (e.1, s.rd e.1)))] }).landWrites ws

/-- Plan again the slots from k on that had started. -/
def State.replan (s : State) (n k : Nat) : State :=
  ((s.chan n).slots.filter (fun x => decide (k ≤ x.1) && x.2.started)).foldl (fun (s : State) x =>
    (List.range 12).foldl (fun (s : State) r => s.planPic n x.1 r) s) s

/-- Mark random-access points for the renditions of a slot. -/
def State.markRaps (s : State) (n k : Nat) (rs : List Nat) : State :=
  let c := s.chan n
  let sl := c.slot k
  s.setChan n (c.setSlot k { sl with rap := rs.foldl nset sl.rap })

/-- A channel is enabled: it starts at slot k (R58, R131). Pictures of the last run that still wait for their check stay. -/
def State.chanStart (s : State) (n k : Nat) (ws : Tab W32) : State :=
  let s := s.landAt n k ws
  let c := s.chan n
  let s := s.setChan n { Chan.zero with
    side := c.side, run := true, start := k, next := k, released := k, pathRaw := [s.raw, s.raw], grpStart := k,
    pics := c.pics.filter (fun x => decide (x.1 / 16 < k)), past := if c.pics.any (fun x => decide (x.1 / 16 < k)) then c.past else [] }
  let s := s.runAssign
  (s.rends n).foldl (fun (s : State) r => s.seedRc n r 0 k) s

/-- A channel is disabled from slot k on: every earlier slot is still released (R58). -/
def State.chanStop (s : State) (n k : Nat) (ws : Tab W32) : State :=
  let s := s.unplan n k
  if (s.chan n).run then
    let s := s.landAt n k ws
    let c := s.chan n
    (s.setChan n { c with stop := some k, slots := c.slots.filter (fun x => decide (x.1 < k)) }).endRun n
  else (s.landWrites ws).runAssign

/-- A running channel changes at slot k (R56, R57, R76, R137); `deferred` names a pitch that was deferred to k. The random-access points of
restarts are racked, and those of R137 when they were deferred (R84). -/
def State.chanChange (s : State) (n k : Nat) (ws : Tab W32) (rest force : List Nat) (deferred : Option Nat) : State :=
  let s := ((s.unplan n k).landAt n k ws).runAssign
  let s : State := rest.foldl (fun (s : State) r => s.seedRc n r 1 k) s
  let s := s.markRaps n k (rest ++ force)
  let s := match deferred with
    | some i => s.emit 0x1006 n (evArg [(0, 4, i), (4, 8, s.media n k)])
    | none => s
  let s := s.rack ((if deferred.isSome then rest ++ force else rest).map (fun r => .hint n r k))
  s.replan n k

/-- A live channel's part of a pitch: not yet due, landed, or held to the slot given. `gone` says that the slot it would land
on will be MISSING, where its class is not decided yet (Coinciding events of chapter 2). -/
def State.landChan (s : State) (n : Nat) (p : Pitch) (gone : Bool) : Option (State × Option Nat) :=
  let ws := p.part (1 + n)
  let P := s.landWrites ws
  let inst := p.instant * 65536
  let was := s.bit (ENC_CH_CTRL_EN n)
  let will := P.bit (ENC_CH_CTRL_EN n)
  if !was then
    if !will then some (match (s.chan n).stop with | some e => s.landAt n e ws | none => P, none)
    else if (s.chan n).run then none
    else
      let P := (P.setChan n { Chan.zero with side := (s.chan n).side }).runAssign
      let k := P.slotOpen n (P.slotAfter n inst)
      if s.now < P.slotTime n k then none else some (s.chanStart n k ws, none)
  else
    let k := ((tfind p.skip (1 + n)).getD (s.slotAfter n inst))
    if s.now < s.slotTime n k then none
    else if !will then some (s.chanStop n k ws, none)
    else
      let rest := (List.range 12).filter (fun r => s.rendRestarts P n r)
      let force := (List.range 12).filter (fun r => !rest.contains r && s.rcForces P n r)
      let sl := (s.chan n).slot k
      let miss := sl.missing || (gone && !nbit sl.decided 0)
      if (rest ≠ [] ∨ force ≠ []) ∧ miss then some (s, some (k + 1))
      else some (s.chanChange n k ws rest force (if (tfind p.skip (1 + n)).isSome then some p.ident else none), none)

/-! ### Landing a part, completion (R555 to R557) -/

/-- Land the flow records of a channel's outputs. -/
def State.landFlows (s : State) (rs : List StagedRec) : State :=
  rs.foldl (fun (s : State) r => (s.landRec rs r).getD s) s

/-- Land one part of a pitch; none when its boundary has not come. A kernel's configuration lands between its invocations (R295). -/
def State.landPart (s : State) (p : Pitch) (k : Nat) (gone : Bool) : Option (State × Option Nat) :=
  let recs := p.records.filter (fun r => s.recPart r == k)
  if k = 0 then some (s.landInstant p, none)
  else if k ≤ 16 then
    match s.landChan (k - 1) p gone with
    | some (t, none) => some ((t.landFlows recs).pinFlows, none)
    | r => r
  else if k = 21 then
    let t := s.landWrites (p.part 21)
    let t := if s.bit AUD_CFG_EN = false ∧ t.bit AUD_CFG_EN then t.audClear else t
    let t := recs.foldl (fun (t : State) r => (t.landAudRec r).getD t) t
    some ({ t with aud := { t.aud with place := true } }, none)
  else if 64 ≤ k then (if s.ketBusy (k - 64) then none else some (s.landWrites (p.part k), none))
  else if 40 ≤ k then
    let t := s.landWrites (p.part k)
    some ((if s.bit (CMP_PIPE_CFG_EN (k - 40)) ∧ !t.bit (CMP_PIPE_CFG_EN (k - 40)) then t.setComp (k - 40) CompX.zero else t).placeLive, none)
  else some (s.landWrites (s.portWrites p k), none)

/-- Replace a pending pitch by its sequence number. -/
def State.setPitch (s : State) (p : Pitch) : State :=
  { s with stage := { s.stage with pitches := s.stage.pitches.map (fun q => if q.seq = p.seq then p else q) } }

/-- The oldest pitch completes (R557). -/
def State.pitchDone (s : State) (p : Pitch) : State :=
  let s := { s with stage := { s.stage with pitches := s.stage.pitches.filter (fun q => q.seq != p.seq) } }
  let s := s.emit 0x0401 0 (evArg [(0, 4, p.ident), (4, 1, b2n p.refused), (5, 1, b2n p.late), (8, 4, p.seq)])
  (s.put CFG_PITCH_LAST_ID p.ident).put CFG_PITCH_STAT_LAST_REFUSED (b2n p.refused)

/-- Complete, in order, the pitches at the head of the queue of which every part has landed. -/
def State.pitchFinish : Nat → State → State
  | 0, s => s
  | f + 1, s =>
    match s.stage.pitches with
    | p :: _ => if p.checked ∧ p.waiting = [] then State.pitchFinish f (s.pitchDone p) else s
    | [] => s

/-- Whether an earlier pitch keeps a part of pitch `seq` waiting (R555): it has the same part to land, or a deferral holds it. -/
def State.partHeld (s : State) (seq k : Nat) : Bool :=
  (s.stage.pitches.takeWhile (fun q => q.seq != seq)).any (fun q => q.waiting.contains k || !q.skip.isEmpty)

/-- Land a part of a pitch if its boundary has come and no earlier pitch stands in the way. -/
def State.tryPart (s : State) (p : Pitch) (k : Nat) (gone : Bool) : State :=
  if !p.checked ∨ !p.waiting.contains k ∨ s.partHeld p.seq k then s
  else match s.landPart p k gone with
    | none => s
    | some (t, some j) => t.setPitch { p with skip := tput p.skip k j }
    | some (t, none) =>
      let left := p.records.filter (fun r => s.recPart r != k)
      let p' := { p with waiting := p.waiting.filter (· != k), skip := tdel p.skip k, records := left }
      let t := if p'.waiting = [] then (t.landFlows (left.filter (fun r => decide (r.typ < 8)))) else t
      State.pitchFinish 16 (t.setPitch p')

/-- Land a part of the oldest pitch that has it waiting. -/
def State.applyPart (s : State) (k : Nat) (gone : Bool) : State :=
  match s.stage.pitches.find? (fun p => p.checked && p.waiting.contains k) with
  | some p => s.tryPart p k gone
  | none => s

/-- PITCH_BOUNDARY_APPLY (R26, R555): a subsystem reaches its boundary. -/
def execPitchBoundaryApply (part : Fin 76) (gone : Bool) (s : State) : Host.Outcome State Fault Refusal :=
  .next (s.applyPart part gone)

/-- The sides that the assignment at the pitch instant gives the channels that the pitch enables; a channel keeps its side from
there (R75). -/
def State.takeSides (s : State) (p : Pitch) : State :=
  let P := (s.landWrites p.writes).runAssign
  ((List.range 16).filter (fun n => !s.chOn n && P.chOn n && !(s.chan n).run)).foldl (fun (s : State) n =>
    s.setChan n { s.chan n with side := (P.chan n).side }) s

/-- A pitch reaches its instant (R556): it is checked again, and the part of the instant lands at once, with those of kettles that run no kernel. A group's pitch is not
applied by a device that has left its group (R411). -/
def State.pitchInstant (s : State) : State :=
  match s.stage.pitches.find? (fun p => !p.checked) with
  | none => s
  | some p =>
    if s.nowNs < p.instant then s
    else if s.placementOk p ∧ (!p.group ∨ s.bit YZ_COORD1_VALID) then
      let p := { p with checked := true, waiting := s.partsOf p }
      let off := ((List.range 12).filter (fun k => !s.bit (DSP_KET_CFG_EN k))).map (64 + ·)
      off.foldl (fun (t : State) k => if p.waiting.contains k then t.applyPart k false else t) (((s.takeSides p).setPitch p).tryPart p 0 false)
    else
      let s := if ((s.landWrites p.writes).runAssign).admitFails p.records then s.cnt BRG_CNT_REFUSED_COUNT 1 else s
      State.pitchFinish 16 (s.setPitch { p with checked := true, refused := true, waiting := [] })

/-- PITCH_INSTANT (R556). -/
def execPitchInstant (s : State) : Host.Outcome State Fault Refusal := .next s.pitchInstant

/-! ### The pitch command (R554) -/

/-- A list cut into pieces of at most 256. -/
def pieces {α : Type} : Nat → List α → List (List α)
  | 0, _ => []
  | _ + 1, [] => []
  | f + 1, l => l.take 256 :: pieces f (l.drop 256)

/-- Rack a pitch: PITCH and its PITCH_DATA for the blocks that a STANDBY takes only so (R421, R422), in sets of at most 256. -/
def State.rackPitch (s : State) (p : Pitch) : State :=
  let data := (p.writes.filter (fun e => rackedBlock e.1)).map (fun e => RackItem.pitchData e.1 e.2) ++
    p.records.map RackItem.pitchRec
  (pieces (data.length + 2) (.pitch p.ident p.instant data.length :: data)).foldl (fun (s : State) l => s.rack l) s

/-- The instant that WHEN names, in ns. -/
def State.pitchTime (s : State) (when' ch : Nat) : Int :=
  if when' = 1 then s.slotTime ch (s.slotAfter ch s.now) / (65536 : Int)
  else if when' = 2 then
    toSigned 64 (s.pairVal CFG_PITCH_TIME_S_LO CFG_PITCH_TIME_S_HI) * 1000000000 +
      ((s.fld ⟨CFG_PITCH_TIME_NS, 0, 30⟩ : Nat) : Int)
  else s.nowNs

/-- Move the bank to the pending queue, for the instant wanted. -/
def State.pitchAt (s : State) (ident : Nat) (want : Int) (group : Bool) : State :=
  let i := max want s.nowNs
  let i := if s.isActive then max i (s.nowNs + 2000000) else i
  let i := match s.stage.pitches.getLast? with | some q => max i q.instant | none => i
  let p : Pitch := { Pitch.blank with
    ident := ident, seq := s.stage.pitchSeq + 1, instant := i, late := decide (want < s.nowNs),
    writes := s.stage.writes, records := s.stage.records, group := group, host := s.stage.owner == 1 || s.stage.owner == 2 }
  let s := s.bankEmpty
  let s := { s with stage := { s.stage with pitches := s.stage.pitches ++ [p], pitchSeq := p.seq } }
  s.rackPitch p

/-- Take a pitch command: the instant is the one that WHEN names. -/
def State.pitchAccept (s : State) (ident when' ch : Nat) : State := s.pitchAt ident (s.pitchTime when' ch) false

/-- Why a pitch command is refused, 0 when it is taken: not the owner, not checked, queue full, channel not enabled, WHEN
reserved. -/
def State.pitchErr (s : State) (owner : Nat) (v : W32) : Nat :=
  if s.stage.owner ≠ 0 ∧ s.stage.owner ≠ owner then 1
  else if !s.bit CFG_STAGE_STAT_CHECKED then 2
  else if s.stage.pitches.length ≥ 8 then 3
  else if fieldGet v 1 2 = 1 ∧ !s.bit (ENC_CH_CTRL_EN (fieldGet v 4 4)) then 4
  else if fieldGet v 1 2 = 3 then 5
  else 0

/-- A write of CFG_PITCH takes effect. -/
def State.pitchCmd (s : State) (owner : Nat) (v : W32) : State :=
  if fieldGet v 0 1 = 0 then s
  else match s.pitchErr owner v with
    | 0 => s.pitchAccept (s.rd CFG_PITCH_ID).toNat (fieldGet v 1 2) (fieldGet v 4 4)
    | e => s.put CFG_PITCH_STAT_ERR e

/-- PITCH_COMMAND (R554). -/
def execPitchCommand (p : Port) (v : W32) (s : State) : Host.Outcome State Fault Refusal :=
  .next (s.portWrite p CFG_PITCH v (fun s => s.pitchCmd p.owner v))

/-! ### CFG_CTRL (R538, R551, R552) -/

/-- The gravity check starts; additions to sessions whose home is another member ask the home (R210). A check that runs already goes
on. -/
def State.checkStart (s : State) : State :=
  if s.stage.checking then s
  else
    let s := ({ s with stage := { s.stage with checking := true, invalid := false } }).put CFG_CTRL_CHECK 1
    let adds := s.stage.records.filter (fun r => r.typ == 3 && rget r.words 0 1 != 0 && s.recState 3 r.index == 0 &&
      s.rf 2 (rget r.words 4 4) 2 2 % 4096 != s.ownAddr)
    adds.foldl (fun (s : State) r =>
      let x := rget r.words 4 4
      let keep := s.brg.admits.filter (fun a => !(a.sess == x && a.leg == r.index))
      ({ s with brg := { s.brg with admits := keep ++ [({ sess := x, leg := r.index, grant := none } : Admit)] } }).send (.admissionReq x r.index)) s

/-- The command bits of CFG_CTRL. -/
def State.cfgCtrl (s : State) (v : W32) : State :=
  let s := if fieldGet v 1 1 = 1 then s.bankEmpty else s
  let s := if fieldGet v 0 1 = 1 then s.checkStart else s
  if fieldGet v 3 1 = 1 then s.warmReset false else s

/-- A write of CFG_CTRL. DISCARD is for the bank's owner and for MAINTAIN (R551). -/
def State.ctrlWrite (s : State) (p : Port) (v : W32) : State :=
  if s.writeStatus p CFG_CTRL v = 0 ∧ fieldGet v 1 1 = 1 ∧ s.stage.owner ≠ 0 ∧ s.stage.owner ≠ p.owner ∧ s.level p < 4 then
    s.accessFail p CFG_CTRL true 6
  else s.portWrite p CFG_CTRL v (fun s => s.cfgCtrl v)

/-- CFG_CTRL with one command bit and the port's VIEW as it is. -/
def State.ctrlWord (s : State) (p : Port) (bit : Nat) : W32 := BitVec.ofNat 32 (bit + 4 * b2n (s.ctl.view.contains p.num))

/-- WARM_RESET_CMD (R538). -/
def execWarmResetCmd (p : Port) (s : State) : Host.Outcome State Fault Refusal := .next (s.ctrlWrite p (s.ctrlWord p 8))
/-- STAGE_DISCARD (R551). -/
def execStageDiscard (p : Port) (s : State) : Host.Outcome State Fault Refusal := .next (s.ctrlWrite p (s.ctrlWord p 2))
/-- GRAVITY_CHECK (R552). -/
def execGravityCheck (p : Port) (s : State) : Host.Outcome State Fault Refusal := .next (s.ctrlWrite p (s.ctrlWord p 1))

/-- The effect of a stage: only DRM_CH_CTRL has a command field beside its ST fields (R496). -/
def State.stageEffect (s : State) (a : Nat) (v : W32) : State :=
  if 0xE0000 ≤ a ∧ a < 0xEC000 ∧ a % 0x800 = 0x10 then s.trSave ((a - 0xE0000) / 0x800) v else s

/-- STAGE_WRITE (R550, R551): a write to a register with ST fields. -/
def execStageWrite (p : Port) (a : Nat) (v : W32) (s : State) : Host.Outcome State Fault Refusal :=
  .next (match regRow a with
    | some r => if r.stMask = 0 then s else s.portWrite p a v (fun s => s.stageEffect a v)
    | none => s)

end Sys2Proof.Machine
end

