-- ==== Sys2Proof/Machine/Groups.lean ====
section
/-! DEFINITION. Group changes (R411): what a member does with a change, a commit and their absence, and what the coordinator does
when a member does not answer. -/

namespace Sys2Proof.Machine

/-- The members that a coordinator of a level asks: those in its view at that level and below, itself among them. -/
def State.groupMembers (s : State) (lvl : Nat) : List Nat :=
  ((List.range lvl).flatMap (fun i => s.inView (i + 1))).eraseDups

/-! ### Placement of what is added through the group's address (R414) -/

/-- What a member has free: this device's own figures, or the member's last report (R410). -/
def State.memberFree (s : State) (a : Nat) : Nat × Nat × Nat × Nat :=
  if a = s.ownAddr then s.capOwn else tget (fun _ => (0, 0, 0, 0)) s.yz.reports a

/-- The member of an ascending list with the most free decode grist, the lowest address on a tie. -/
def State.mostFree (s : State) (l : List Nat) : Option Nat :=
  let best := l.foldl (fun m a => max m (s.memberFree a).2.1) 0
  l.find? (fun a => (s.memberFree a).2.1 == best)

/-- Whether a direct bundle joins two members: this device's own ports show its bundles. -/
def State.directBundle (s : State) (a h : Nat) : Bool :=
  let own (m : Nat) : Bool := match s.yzRoute m with
    | some p => s.bit (YZ_PORT_STAT_UP p) && s.fld (YZ_PORT_STAT_PEER p) == m
    | none => false
  if a = h then true else if a = s.ownAddr then own h else if h = s.ownAddr then own a else Config.directBundle a h

/-- Whether a staged record of a type adds something that is not in place. -/
def State.addsRec (s : State) (typ : Nat) (r : StagedRec) : Bool :=
  r.typ == typ && rget r.words 0 1 != 0 && s.recState typ r.index == 0

/-- Whether a member has room for a leg under R202, as far as its figures show; this device runs the checks of R202 when the
session is in place. -/
def State.legRoom (s : State) (recs : List StagedRec) (r : StagedRec) (a : Nat) : Bool :=
  let w := r.words
  let P := (recs.filter (fun x => x.typ == 1)).foldl (fun (P : State) x => P.setRecTab 1 (tput P.brg.decs x.index x.words)) s
  let cost := if rget w 1 1 = 1 then P.decCost (rget w 0x10 4) (rget w 13 1 % 4) else 0
  let free := s.memberFree a
  decide (1 ≤ free.2.2.2) && decide (cost ≤ 16 * free.2.1) &&
    (a != s.ownAddr || s.recState 2 (rget w 4 4) == 0 || s.legAdmits recs r.index w)

/-- The member on which a new session opens. -/
def State.openSess (s : State) : Nat := (s.mostFree (s.inView 1)).getD s.ownAddr

/-- The home of a session of a change: the member on which it opens, or HOME of its record. -/
def State.homeIn (s : State) (recs : List StagedRec) (x : Nat) : Nat :=
  if recs.any (fun r => s.addsRec 2 r && r.index == x) then s.openSess else s.rf 2 x 2 2 % 4096

/-- The member on which a new leg is placed: HOME while it has room, else the member with the most free decode grist among those
that have; a mixed leg only one with a direct bundle to HOME. -/
def State.placeLeg (s : State) (recs : List StagedRec) (r : StagedRec) : Nat :=
  let h := s.homeIn recs (rget r.words 4 4)
  if s.legRoom recs r h then h
  else
    let can := (s.inView 1).filter (fun a => a != h && s.legRoom recs r a && (rget r.words 1 1 != 1 || s.directBundle a h))
    (s.mostFree can).getD h

/-- The member that a record of a change goes to, none where every member gets it: new sessions, new legs, and the flows and decode
contexts that go with a new leg. -/
def State.placeRec (s : State) (recs : List StagedRec) (r : StagedRec) : Option Nat :=
  let leg (ok : StagedRec → Bool) : Option Nat := (recs.find? (fun x => s.addsRec 3 x && ok x)).map (s.placeLeg recs)
  if s.addsRec 2 r then some s.openSess
  else if s.addsRec 3 r then some (s.placeLeg recs r)
  else if s.addsRec 0 r then leg (fun x => x.index == rget r.words 4 4)
  else if s.addsRec 1 r then leg (fun x => rget x.words 1 1 == 1 && rget x.words 0x10 4 == r.index)
  else none

/-- The records of a change as a member gets them; the member on which a session opens becomes its HOME. -/
def State.recsFor (s : State) (recs : List StagedRec) (m : Nat) : List StagedRec :=
  (recs.filter (fun r => match s.placeRec recs r with | some a => a == m | none => true)).map (fun r =>
    if s.addsRec 2 r then { r with words := rput r.words 2 2 (rget r.words 2 2 / 4096 * 4096 + s.openSess) } else r)

/-! ### The coordinator -/

/-- The coordinator starts a group change: every member is asked to stage and check its part of it, this device too. -/
def State.groupAsk (s : State) (lvl ident : Nat) (up : Bool) : State :=
  let all := s.groupMembers lvl
  let recs := s.stage.records
  let part := s.recsFor recs
  let s := { s with yz := { s.yz with group := some ⟨ident, lvl, all, all, s.raw, true, up⟩ } }
  let s : State := (all.filter (· ≠ s.ownAddr)).foldl (fun (s : State) (m : Nat) =>
    (s.send (.groupStage ident m s.stage.writes (part m))).yzSend 0 7 m) s
  ({ s with stage := { s.stage with records := part s.ownAddr } }).checkStart

/-- The coordinator commits: every member is told the identifier and the time. -/
def State.groupTell (s : State) : State :=
  match s.yz.group with
  | none => s
  | some g =>
    let s := { s with yz := { s.yz with group := none } }
    (g.all.filter (· ≠ s.ownAddr)).foldl (fun (s : State) (m : Nat) => (s.send (.group 2 g.ident m true)).yzSend 0 7 m) s

/-- This device's own check of a group change is over: the answer goes to the coordinator, and the time in which the commit must
come begins. -/
def State.groupChecked (s : State) (pass : Bool) : State :=
  let asked := match s.yz.group with | some g => g.wait.contains s.ownAddr | none => false
  let s1 := if asked then s.groupAnswer s.ownAddr pass
    else match s.yz.grpId with
      | some i => if s.yz.grpRaw = 0 then s.send (.group 4 i (s.fld YZ_COORD1_ADDR) pass) else s
      | none => s
  if s.yz.grpId.isSome ∧ s.yz.grpRaw = 0 then { s1 with yz := { s1.yz with grpRaw := s.raw + 1 } } else s1

/-- Whether a register takes stages. -/
def stageable (a : Nat) : Bool :=
  match regRow a with
  | some r => r.stMask != 0
  | none => false

/-- Stage one register of a group change with the floor's authority (R551). -/
def State.groupStage (s : State) (a : Nat) (v : W32) : State :=
  match regRow a with
  | some r => s.stagePut 3 a v r.stMask
  | none => s

/-- GROUP_STAGE_CHECK: a member gets a change of its group of level `lvl`. It stages the change for the floor and starts its check; what
the bank refuses is answered as a failure. A coordinator of the level below asks its own members in turn. -/
def execGroupStageCheck (lvl : Fin 4) (ident : Nat) (writes : List (Nat × W32)) (recs : List StagedRec) (s : State) :
    Host.Outcome State Fault Refusal :=
  .next (if !s.bit YZ_CFG_EN then s
    else
      let racked := recs ≠ [] ∨ writes.any (fun w => rackedBlock w.1)
      let bad := s.stageStatus 3 racked ≠ 0 ∨ writes.any (fun w => !stageable w.1) ∨ s.stage.records.length + recs.length > 1024
      if bad then s.send (.group 4 ident (s.fld ⟨coordReg lvl, 0, 12⟩) false)
      else
        let s : State := writes.foldl (fun (s : State) (w : Nat × W32) => s.groupStage w.1 w.2) s
        let s : State := recs.foldl (fun (s : State) (r : StagedRec) => s.stageRecPut 3 r) s
        let s := { s with yz := { s.yz with grpId := some ident, grpRaw := 0 } }
        if 2 ≤ lvl.val ∧ s.bit ⟨coordReg (lvl - 1), 30, 1⟩ then s.groupAsk (lvl - 1) ident true else s.checkStart)

/-- GROUP_COMMIT: a member that holds the change, checked, pitches it under the named identifier at the named trigger time. -/
def execGroupCommit (ident pid : Nat) (atNs : Int) (s : State) : Host.Outcome State Fault Refusal :=
  .next (if s.yz.grpId = some ident ∧ s.yz.grpRaw ≠ 0 then
      let ok := s.stage.owner = 3 ∧ s.pitchErr 3 (BitVec.ofNat 32 5) = 0
      let s := { s with yz := { s.yz with grpId := none, grpRaw := 0 } }
      let s := match s.yz.group with
        | some g => if g.up ∧ g.ident = ident then s.groupTell else s
        | none => s
      if ok then s.pitchAt pid atNs true else s
    else s)

/-- GROUP_COMMIT_TIMEOUT: 10 ms after its check a member without a commit discards the change; one that has become the coordinator
meanwhile reports it as refused. -/
def execGroupCommitTimeout (s : State) : Host.Outcome State Fault Refusal :=
  .next (if s.yz.grpRaw ≠ 0 ∧ s.raw + 1 - s.yz.grpRaw ≥ 10 * msU then
      let s := if s.stage.owner = 3 then s.bankEmpty else s
      let s := if s.bit YZ_COORD1_SELF then s.send (.group 3 (s.yz.grpId.getD 0) 0 false) else s
      { s with yz := { s.yz with grpId := none, grpRaw := 0 } }
    else s)

/-- GROUP_ANSWER_TIMEOUT: 10 ms after it asked, the coordinator refuses the change for a member that has not answered. -/
def execGroupAnswerTimeout (s : State) : Host.Outcome State Fault Refusal :=
  .next (match s.yz.group with
    | some g => if g.wait ≠ [] ∧ s.raw - g.raw ≥ 10 * msU then s.groupEnd 11 else s
    | none => s)

end Sys2Proof.Machine
end

