-- ==== Sys2Proof/Machine/Mirror.lean ====
section
/-! DEFINITION. Snapshots of the status mirror (R564), the event queue's read pointer (R590), and the cask window (R565, R567). -/

namespace Sys2Proof.Machine

/-! ### Snapshots -/

/-- The effect of a write of SYS_SNAP: 1 starts a freeze unless one is in force, 0 ends it. -/
def State.snapWrite (s : State) (v : W32) : State :=
  if fieldGet v 0 1 = 1 then
    if s.ctl.frozen.isSome then s
    else
      let s := s.put SYS_SNAP_EXPIRED 0
      { s with ctl := { s.ctl with frozen := some ⟨s.regs, s.evq, s.stage, s.tb⟩, frozenRaw := s.raw } }
  else { s with ctl := { s.ctl with frozen := none } }

/-- SNAP_FREEZE (R564): a write of 1 to SYS_SNAP.FREEZE. -/
def execSnapFreeze (p : Port) (s : State) : Host.Outcome State Fault Refusal :=
  .next (s.portWrite p SYS_SNAP 1 (fun s => s.snapWrite 1))

/-- SNAP_RELEASE (R564): a write of 0. -/
def execSnapRelease (p : Port) (s : State) : Host.Outcome State Fault Refusal :=
  .next (s.portWrite p SYS_SNAP 0 (fun s => s.snapWrite 0))

/-- SNAP_EXPIRE (R564): 10 µs after its start a freeze ends, with EXPIRED. -/
def execSnapExpire (s : State) : Host.Outcome State Fault Refusal :=
  .next (if s.ctl.frozen.isSome ∧ s.raw - s.ctl.frozenRaw ≥ 10 * usU then
      (({ s with ctl := { s.ctl with frozen := none } }).put SYS_SNAP_EXPIRED 1).put SYS_SNAP_FREEZE 0
    else s)

/-! ### The event queue's read pointer -/

/-- Whether a value is refused as EVQ_RD: below the count in force or above EVQ_WR. Counts compare as 32-bit numbers. -/
def State.evqRefused (s : State) (v : W32) : Bool := decide ((v - BitVec.ofNat 32 s.evq.rd).toNat > s.evq.fill)

/-- A write of EVQ_RD: the records before the value leave the queue, or the write is ignored and fails. -/
def State.evqRdWrite (s : State) (p : Port) (v : W32) : State :=
  match s.writeStatus p EVQ_RD v with
  | 0 =>
    if s.evqRefused v then s.accessFail p EVQ_RD true 4
    else
      let s := { s with evq := { s.evq with rd := s.evq.rd + (v - BitVec.ofNat 32 s.evq.rd).toNat } }
      (s.evReport).accessOk 0
  | st => s.accessFail p EVQ_RD true st

/-- EVQ_RD_WRITE (R590). -/
def execEvqRdWrite (p : Port) (v : W32) (s : State) : Host.Outcome State Fault Refusal := .next (s.evqRdWrite p v)

/-! ### The fault log's bytes (R463) -/

/-- The first 56 bytes of a fault log record. -/
def FaultRec.head (r : FaultRec) : List Byte :=
  leBytes 8 r.rawNs ++ leBytes 8 r.sec ++ leBytes 4 r.ns ++ leBytes 4 r.epoch ++ leBytes 4 r.boot ++ leBytes 2 r.code ++
  leBytes 2 r.inst ++ leBytes 1 r.cls ++ leBytes 1 r.action ++ leBytes 2 r.suppressed ++ leBytes 12 r.arg ++ leBytes 8 r.seq

/-- Bytes as little-endian words. -/
def bytesWords : Nat → List Byte → List W32
  | 0, _ => []
  | n + 1, bs => BitVec.ofNat 32 (ofLeBytes (bs.take 4)) :: bytesWords n (bs.drop 4)

/-- The 16 words of a slot of the ring: an empty slot reads 0, any other ends with 0 and the CRC-32C of the bytes before. -/
def FaultRec.words (r : FaultRec) : List W32 :=
  if r = FaultRec.zero then List.replicate 16 0
  else
    bytesWords 14 r.head ++ (match r.odd with
      | some (a, b) => [a, b]
      | none => [0, crc32c (r.head ++ leBytes 4 0)])

/-- The slot that 16 written words make. -/
def faultOf (ws : List W32) : FaultRec :=
  let g := rget ws
  let r : FaultRec :=
    { rawNs := g 0 8, sec := g 8 8, ns := g 16 4, epoch := g 20 4, boot := g 24 4, code := g 28 2, inst := g 30 2, cls := g 32 1,
      action := g 33 1, suppressed := g 34 2, arg := g 36 12, seq := g 48 8, odd := none }
  let a := ws.getD 14 0
  let b := ws.getD 15 0
  if ws.all (· == 0) then FaultRec.zero
  else if a = 0 ∧ b = crc32c (r.head ++ leBytes 4 0) ∧ r ≠ FaultRec.zero then r
  else { r with odd := some (a, b) }

/-! ### The cask window (R567) -/

/-- 64 words of the cask from a byte offset; none where the layout has nothing. -/
def State.caskWords (s : State) (off : Nat) : Option (List W32) :=
  let k := s.cask
  if off < 0x1000 then some ((List.range 64).map (fun i => Config.identityWord (off / 4 + i) k.boot k.epoch k.gyle k.gyleSeen))
  else if off < 0x19000 then
    let g := tget (fun _ => LastGood.zero) k.lastGood ((off - 0x1000) / 0x400)
    some ((List.range 64).map (fun i => Config.goodWord (off % 0x400 / 4 + i) g.present g.rate g.ident g.temp g.words))
  else if off < 0x20000 then none
  else if off < 0xA0000 then
    some ((List.range 4).flatMap (fun i => (tget (fun _ => FaultRec.zero) k.log ((off - 0x20000) / 64 + i)).words))
  else some (List.replicate 64 0)

/-- Write 64 words into the cask; none where R567 refuses it. -/
def State.caskPut (s : State) (off : Nat) (ws : List W32) : Option State :=
  let k := s.cask
  if off < 0x1000 then
    let (b, e, g, h) := Config.identityDecode ws
    if e < k.epoch ∨ g < k.gyle ∨ h < k.gyleSeen then none
    else some { s with cask := { k with boot := b, epoch := e, gyle := g, gyleSeen := h, identBad := false } }
  else if off < 0x19000 then
    let i := (off - 0x1000) / 0x400
    let g := tget (fun _ => LastGood.zero) k.lastGood i
    let (p, r, d, t, w) := Config.goodWrite (off % 0x400 / 0x100) ws (g.present, g.rate, g.ident, g.temp, g.words)
    some { s with cask := { k with lastGood := tset (fun _ => LastGood.zero) k.lastGood i ⟨p, r, d, t, w⟩ } }
  else if off < 0xA0000 then
    let i := (off - 0x20000) / 64
    let log := (List.range 4).foldl (fun t j => tset (fun _ => FaultRec.zero) t (i + j) (faultOf ((ws.drop (16 * j)).take 16))) k.log
    some { s with cask := { k with log := log } }
  else none

/-- The effect of SYS_CASK_CMD; `bad` says that a fetched word is uncorrectable, which is logged (R464), and in the identity area is
R455's loss, with event 0x0D07. -/
def State.caskCmd (s : State) (v : W32) (bad : Bool) : State :=
  let off := s.fld SYS_CASK_ADDR_BYTE
  let op := fieldGet v 28 4
  if op = 1 ∨ op = 2 then
    match (if off % 256 = 0 then s.caskWords off else none) with
    | none => s.put SYS_CASK_STAT_ERR 1
    | some ws =>
      if op = 1 then
        let s := (s.winPut (SYS_CASK_DATA 0) ws).put SYS_CASK_STAT_ERR (if bad then 2 else 0)
        let s := if bad then s.logFault 12 0 (if off < 0x1000 then 0x0D07 else 0) 0 0 else s
        if bad ∧ off < 0x1000 ∧ !s.cask.identBad then ({ s with cask := { s.cask with identBad := true } }).emit 0x0D07 0 0 else s
      else
        match s.caskPut off (s.winGet (SYS_CASK_DATA 0) 64) with
        | some t => t.put SYS_CASK_STAT_ERR 0
        | none => s.put SYS_CASK_STAT_ERR 3
  else s

/-- CASK_FETCH (R567): OP 1. -/
def execCaskFetch (p : Port) (bad : Bool) (s : State) : Host.Outcome State Fault Refusal :=
  .next (s.portWrite p SYS_CASK_CMD (BitVec.ofNat 32 (1 * 2 ^ 28)) (fun s => s.caskCmd (BitVec.ofNat 32 (1 * 2 ^ 28)) bad))

/-- CASK_WRITE (R567): OP 2. -/
def execCaskWrite (p : Port) (s : State) : Host.Outcome State Fault Refusal :=
  .next (s.portWrite p SYS_CASK_CMD (BitVec.ofNat 32 (2 * 2 ^ 28)) (fun s => s.caskCmd (BitVec.ofNat 32 (2 * 2 ^ 28)) false))

end Sys2Proof.Machine
end

