-- ==== Sys2Proof/Machine/TestCmd.lean ====
section
/-! DEFINITION. BIST and golden-vector commands on fenced blocks (R624), and Yudizor test traffic (R622). -/

namespace Sys2Proof.Machine

/-! ### BIST and golden vectors (R623, R624, R626) -/

/-- Whether a block of a kind of R626 exists and is fenced. -/
def State.blockFenced (s : State) (kind i : Nat) : Bool :=
  match kind with
  | 0 => i < 40 && s.tunFenced i
  | 1 => i < 24 && s.coreFenced i
  | 2 => i < 8 && s.chkFenced i
  | 3 => i < 16 && s.pipeFenced i
  | 4 => i < 96 && s.kFenced i
  | 5 => i < 16 && s.bit (CHK_UNIT_STAT_FENCED i)
  | _ => false

/-- The effect of TST_BIST_CMD (gv = false) or TST_GV_CMD (gv = true): the test of a fenced block starts; any other block is ERR 1. A
command of the same kind that runs already goes on. -/
def State.tstCmd (s : State) (gv : Bool) (v : W32) : State :=
  let stat := if gv then TST_GV_STAT else TST_BIST_STAT
  let run := if gv then s.tst.gv else s.tst.bist
  let kind := fieldGet v 16 3
  let i := fieldGet v 0 7
  if fieldGet v 28 4 ≠ 1 ∨ run.isSome then s
  else if !s.blockFenced kind i then s.put ⟨stat, 4, 4⟩ 1
  else
    let s := (s.put ⟨stat, 4, 4⟩ 0).put ⟨stat, 0, 1⟩ 0
    if gv then ({ s with tst := { s.tst with gv := some (kind, i) } }).put TST_STAT_GV 1
    else ({ s with tst := { s.tst with bist := some (kind, i) } }).put TST_STAT_BIST 1

/-- The word of a test command. -/
def tstWord (kind inst : Nat) : W32 := BitVec.ofNat 32 (2 ^ 28 + kind * 2 ^ 16 + inst)

/-- TST_BIST_CMD (R624). -/
def execTstBistCmd (p : Port) (kind : Fin 8) (inst : Fin 128) (s : State) : Host.Outcome State Fault Refusal :=
  .next (s.portWrite p TST_BIST_CMD (tstWord kind inst) (fun s => s.tstCmd false (tstWord kind inst)))

/-- TST_GV_CMD (R624). -/
def execTstGvCmd (p : Port) (kind : Fin 8) (inst : Fin 128) (s : State) : Host.Outcome State Fault Refusal :=
  .next (s.portWrite p TST_GV_CMD (tstWord kind inst) (fun s => s.tstCmd true (tstWord kind inst)))

/-- After BIST every array of the block holds zeros (R623): of the blocks' arrays, the state has the memories of kettle units. -/
def State.bistZero (s : State) (kind i : Nat) : State :=
  if kind = 4 then
    let c := s.kKey i
    let keep := fun (t : Tab W32) => t.filter (fun e => e.1 / 65536 != c)
    { s with ket := { s.ket with p := keep s.ket.p, x := keep s.ket.x, y := keep s.ket.y } }
  else s

/-- A BIST command completes: rows repaired, and the place of an array that could not be repaired. -/
def State.bistDone (s : State) (kind i : Nat) (fail : Option Nat) (repaired : Nat) : State :=
  let s := (({ s with tst := { s.tst with bist := none } }.put TST_STAT_BIST 0).put TST_BIST_STAT_READY 1).bistZero kind i
  let s := (s.cnt TST_BIST_CNT_REPAIR_VALUE repaired).put TST_BIST_STAT_FAIL (b2n fail.isSome)
  match fail with
  | some a => (s.put TST_BIST_FAIL_ADDR_VALUE a).emit 0x2002 0 (evArg [(0, 4, a)])
  | none => s

/-- A golden-vector command completes: the first failing vector. -/
def State.gvDone (s : State) (kind i : Nat) (fail : Option Nat) : State :=
  let r := fail.getD 0xFFFFFFFF
  let s := ({ s with tst := { s.tst with gv := none } }.put TST_STAT_GV 0).put TST_GV_STAT_READY 1
  ((s.put TST_GV_STAT_FAIL (b2n fail.isSome)).put TST_GV_RESULT_VALUE r).emit 0x2003 0 (evArg [(0, 1, kind), (1, 1, i), (4, 4, r)])

/-- TST_TEST_DONE (R624): the running BIST (gv = false) or golden-vector command completes. -/
def execTstTestDone (gv : Bool) (fail : Option Nat) (repaired : Nat) (s : State) : Host.Outcome State Fault Refusal :=
  .next (match (if gv then s.tst.gv else s.tst.bist) with
    | none => s
    | some (k, i) => if gv then s.gvDone k i fail else s.bistDone k i fail repaired)

/-! ### Yudizor test traffic (R622) -/

/-- A test message of a port: LEN + 1 flits of 116 bytes, header included. -/
def State.yzTestBytes (s : State) (p : Nat) : List Byte :=
  let n := 116 * (s.fld (TST_YZ_CTRL_LEN p) + 1) - 16
  let h : MsgHdr := ⟨s.fld (YZ_PORT_STAT_PEER p), 0, s.ownAddr, Config.msgType 8, 0, 0, n⟩
  msgBytes 7 h ((List.range n).map (Config.msgByte 8 s.fresh))

/-- YZ_TEST_SEND (R622): every INTERVAL µs on VC 7 to the direct peer. -/
def execYzTestSend (p : Fin 16) (s : State) : Host.Outcome State Fault Refusal :=
  .next (
    let y := s.yzp p
    if !s.bit (TST_YZ_CTRL_EN p) ∨ !s.bit (YZ_PORT_STAT_UP p) then s
    else if y.testRaw ≠ 0 ∧ s.raw + 1 - y.testRaw < s.fld (TST_YZ_CTRL_INTERVAL p) * usU then s
    else
      let bs := s.yzTestBytes p
      let s := s.setYzp p { y with testRaw := s.raw + 1 }
      ((s.cnt (TST_YZ_CNT_SENT_COUNT p) 1).draw).yzEnqueue p 7 bs)

/-- YZ_TEST_MSG_RX (R622): the oldest test message that has come back to a port is compared. -/
def execYzTestMsgRx (p : Fin 16) (ok : Bool) (s : State) : Host.Outcome State Fault Refusal :=
  .next (
    let y := s.yzp p
    match y.msgs.find? (fun (m : Nat × List Byte) => m.1 == 7 && (msgHdr m.2).src == s.ownAddr) with
    | none => s
    | some m =>
      let s := (s.setYzp p { y with msgs := y.msgs.erase m }).cnt (TST_YZ_CNT_BACK_COUNT p) 1
      if ok then s else s.cnt (TST_YZ_CNT_BAD_COUNT p) 1)

end Sys2Proof.Machine
end

