-- ==== Sys2Proof/Machine/Coded.lean ====
section
/-! DEFINITION. Media that the device codes for conferences and sends on its flows: the pictures of bridge outputs (R203, R237, R533)
and the mixes of sessions (R256, R258). What a coded packet holds is codec arithmetic; its size is free. -/

namespace Sys2Proof.Machine

/-- A packet that the device's own encoder makes, as R231 rewrites it. -/
def codedPkt (seq ts len : Nat) (first last rap : Bool) : RtpPkt :=
  { frame := 64 + len, hdrOk := true, mac := 0, raddr := 0, laddr := 0, rport := 0, lport := 0, ssrc := 0, b0 := 0, b1 := 0, seq := seq % 65536, ts := ts % 2 ^ 32,
    marker := last, sid := 0, tid := 0, rap := rap, swT := false, swS := false, auStart := first, authOk := true, gyle := none,
    len := len, au := ⟨0, rap, none, ⟨0, 0, 0, 8, false⟩, [], 0, false, len, 0, true, true, true⟩, words := [], data := [], hdr := 0, bad := [] }

/-! ### Bridge outputs -/

/-- The mixed legs that receive an output. -/
def State.outLegs (s : State) (o : Nat) : List Nat := (s.liveRecs 3).filter (fun l => s.legKind l == 1 && s.rf 3 l 0x14 4 == o)

/-- Whether an output is encoded: in use, on a tun that is not fenced and runs no re-run (R92), not while a live channel lacks grist (R93), not
with every receiving leg shed (R533), and only while media may leave (R419). -/
def State.outServes (s : State) (o : Nat) : Bool :=
  let t := s.rf 4 o 15 1
  s.recState 4 o == 1 && decide (t < 40) && !s.tunFenced t && !s.bit (ENC_TUN_STAT_RERUN t) && s.enc.short.isEmpty && s.egressOk false &&
    ((s.outLegs o).isEmpty || (s.outLegs o).any (fun l => !s.legShed l))

/-- The next picture of an output: intra where it is the first or one was asked for (R150, R241); a new target lands with it (R237).
Its packets go to the flows whose source is the output. -/
def State.outEncode (s : State) (o : Nat) : State :=
  if !s.outServes o then s
  else
    let n := (tfind s.brg.outSeq o).getD 0
    let rap := (tfind s.brg.outSeq o).isNone || s.brg.intraNext.contains o
    let sizes := Config.outPackets o s.fresh
    let s := ({ s with brg := { s.brg with
      intraNext := s.brg.intraNext.filter (· ≠ o)
      outSeq := tput s.brg.outSeq o ((n + sizes.length) % 65536)
      outNow := tset (fun _ => 0) s.brg.outNow o (tget (fun _ => 0) s.brg.outKbps o) } }).draw
    let s := { s with enc := { s.enc with brgRan := nset s.enc.brgRan (s.rf 4 o 15 1) } }
    let src := 2 ^ 31 + o
    let m := s.now27
    let gs := s.targets src
    ((List.range sizes.length).zip sizes).foldl (fun (s : State) x => gs.foldl (fun (s : State) g =>
      s.copyOne src false (codedPkt (n + x.1) (m * s.ff g 0xD8 4 / 27000000) x.2 (x.1 == 0) (x.1 + 1 == sizes.length) rap) g) s) s

/-- STRIP_COMPOSED (R191, R192, R203): the composer's work; an output whose composition is complete is encoded. -/
def execStripComposed (key : Fin 4112) (sums : List Int) (poison : List Nat) (s : State) :
    Host.Outcome State Fault Refusal :=
  .next (
    let t := s.stripDone key sums poison
    if 16 ≤ key.val ∧ (s.comp key).run.isSome ∧ (t.comp key).run.isNone then t.outEncode (key - 16) else t)

/-! ### Mixes -/

/-- The encode that a slot listens to (R258): its seat's mix-minus, or the listener mix of its format. -/
def State.encOf (s : State) (x i : Nat) : Nat :=
  let f := s.slotFmt i
  if s.sf i 0x2B 1 ≠ 0 then 2 ^ 60 + 16 * x + (s.sf i 0x2B 1 - 1)
  else 2 ^ 61 + (((x * 256 + f.1) * 2 + b2n f.2.1) * 65536 + f.2.2.1) * 256 + f.2.2.2

/-- The samples at 48 kHz of one packet of a slot's format: the packet time, or a frame of AAC-LC (R250). -/
def State.encSamples (s : State) (i : Nat) : Nat := if s.sf i 2 1 = 4 then 1024 else 48 * s.sf i 0x16 1

/-- The size of an encode's packet: 8 bytes a millisecond of G.711 and G.722 at 64 kb/s (R250); none where Opus with DTX sends nothing. -/
def State.encBytes (s : State) (i e : Nat) (p : Pcm) : Option Nat :=
  match s.sf i 2 1 with
  | 0 => if nbit (s.sf i 3 1) 5 ∧ Config.opusSilent e p s.fresh then none else some (Config.audioBytes e p s.fresh)
  | 4 => some (Config.audioBytes e p s.fresh)
  | _ => some (8 * s.sf i 0x16 1)

/-- The mix of one encode in this cycle, limited and saturated (R258): a seat's is a mix-minus. A mix has its own limiter. -/
def State.encMix (s : State) (x e i : Nat) : State × Pcm :=
  let own := if s.sf i 0x2B 1 ≠ 0 then some i else none
  let (g, p) := limitPcm (tget (fun _ => f32One) s.aud.limit e) (s.mixSum x own (nbit (s.sf i 3 1) 1))
  ({ s with aud := { s.aud with limit := tset (fun _ => f32One) s.aud.limit e g } }, p)

/-- The momentary loudness of a session's first listener mix (R252, R264): over 400 ms, so no value before. -/
def State.mixLoud (s : State) (x : Nat) (p : Pcm) : State :=
  let buf := tget (fun _ => []) s.aud.loud x ++ p
  let buf := buf.drop (buf.length - 19200)
  let s := { s with aud := { s.aud with loud := tset (fun _ => []) s.aud.loud x buf } }
  if buf.length = 19200 then s.ap x 0xA 2 (Config.mixLoudness buf) else s

/-- One encode of a session in mix cycle `c`: its mix joins the samples that no packet has carried; where a packet is complete it goes to the
TX_FLOW of every slot that listens. The RTP timestamp advances by 480 × clock / 48,000 a cycle. An Opus encode with DTX may send
nothing, and nothing leaves while media may not leave (R419). -/
def State.encSend (s : State) (x c e : Nat) (first : Bool) : State :=
  let slots := (s.sessSlots x).filter (fun i => s.encOf x i == e)
  match slots with
  | [] => s
  | i :: _ =>
    let n := s.encSamples i
    let (s, p) := s.encMix x e i
    let s := if first then s.mixLoud x p else s
    let buf := tget (fun _ => []) s.aud.encBuf e ++ p
    let keep := fun (s : State) (b : Pcm) => { s with aud := { s.aud with encBuf := tset (fun _ => []) s.aud.encBuf e b } }
    if n = 0 then s
    else if 480 * c / n = 480 * (c - 1) / n then keep s buf
    else
      let rest := 480 * c % n
      let len := s.encBytes i e ((buf.take (buf.length - rest)).drop (buf.length - rest - n))
      let s := (keep s (buf.drop (buf.length - rest))).draw
      if !s.egressOk false then s else
      match len with
      | none => s
      | some b =>
        let q := tget (fun _ => 0) s.aud.encSeq e
        let s := { s with aud := { s.aud with encSeq := tset (fun _ => 0) s.aud.encSeq e ((q + 1) % 65536) } }
        let gs := (slots.map (fun j => s.sf j 0x10 4)).filter (fun g => s.recState 0 g != 0 && s.isSend g)
        gs.foldl (fun (s : State) g =>
          s.copyOne e false (codedPkt q ((480 * c / n - 1) * n * s.ff g 0xD8 4 / 48000) b true true true) g) s

/-- The members that are sent a mix of a session (R260): each holder of a remote seat its mix-minus, and each other hosting member of MEMBERS the
listener mix; once each, in a message of VC 4 (assumption log row 121). -/
def State.mixRemote (s : State) (x : Nat) : List Nat :=
  let own := s.ownAddr
  ((tget (fun _ => []) s.aud.seats x).filter (fun y => decide (2 ^ 20 ≤ y.2))).map (fun y => y.2 / 2 ^ 20 - 1) ++
    ((bitsOf (s.rf 2 x 4 2) 16).map (fun i => own / 16 * 16 + i)).filter (· ≠ own)

/-- The mixes of a cycle are complete (R256): by 8 ms after its trigger the mixes of every session whose mix unit is here are summed, limited,
measured, encoded and sent. -/
def State.mixSend (s : State) : State :=
  let s := { s with aud := { s.aud with pack := false } }
  let c := s.aud.cyc
  let here := s.audSessions.filter (fun x => s.mixHere x && (tfind s.aud.mixCore x).isSome)
  here.foldl (fun (s : State) x =>
    let es := ((s.sessSlots x).map (s.encOf x)).eraseDups
    let loud := es.find? (fun e => decide (2 ^ 61 ≤ e))
    let s := es.foldl (fun (s : State) e => s.encSend x c e (loud == some e)) s
    (s.mixRemote x).foldl (fun (s : State) d => s.yzSend 4 4 d) s) s

/-- A member that is not the home sends its candidate set to the mix unit (R256, R260) on VC 3. -/
def State.candSend (s : State) : State :=
  (s.audSessions.filter (fun x => !s.mixHere x)).foldl (fun (s : State) x =>
    if (s.competitors x s.lateUnits).isEmpty then s else s.yzSend 3 3 (s.rf 2 x 2 2 % 4096)) s

/-- At a tick, 8 ms after the trigger of a cycle whose packets have not left. -/
def State.mixTick (s : State) : State := if s.aud.pack ∧ s.raw ≥ s.aud.cycRaw + 8 * msU then s.mixSend else s

/-- The mix cycle at its trigger; the cycle before is finished first. -/
def State.mixStart (s : State) (ins : List MixIn) : State :=
  let s := if s.aud.pack then s.mixSend else s
  if !s.bit AUD_CFG_EN then s
  else
    let s := (s.mixCycle ins).candSend
    { s with aud := { s.aud with pack := true, cyc := s.aud.cyc + 1 } }

end Sys2Proof.Machine
end

