-- ==== Sys2Proof/Machine/Triggers.lean ====
section
/-! DEFINITION. Triggers firing into their targets (R25, R363 to R366), and the frame boundary of an audio port. The part of a pitch that
waits for a boundary lands at it (R26). -/

namespace Sys2Proof.Machine

/-- Whether a trigger is due (R363, R364). -/
def State.trigDue (s : State) (n : Nat) : Bool :=
  let t := s.trig n
  t.armed && (t.late || decide (t.time ≤ s.now))

/-- A user's trigger after its firing: a periodic one comes again after its exact period, a one-shot one is disarmed (R363). -/
def Trig.after (t : Trig) : Trig :=
  if t.periodic then
    let r := t.rem + t.perNum
    { t with late := false, time := t.time + (((t.perNs + r / t.perDen) * 65536 : Nat) : Int), rem := r % t.perDen }
  else Trig.zero

/-- A composition starts at its trigger, after the part of a pitch that waited for it. -/
def State.fireComp (s : State) (n key : Nat) : State :=
  if key < 16 then
    if s.bit (CMP_PIPE_CFG_EN key) ∧ s.fld (CMP_PIPE_CFG_TRIGGER key) = n then
      let s := s.applyPart (40 + key) false
      if s.bit (CMP_PIPE_CFG_EN key) ∧ s.fld (CMP_PIPE_CFG_TRIGGER key) = n then s.compStart key else s
    else s
  else s.compStart key

/-- The mix cycle at its trigger. -/
def State.fireMix (s : State) (n : Nat) (mix : List MixIn) : State :=
  if s.bit AUD_CFG_EN ∧ s.fld AUD_CFG_TRIGGER = n then
    let s := s.applyPart 21 false
    if s.bit AUD_CFG_EN ∧ s.fld AUD_CFG_TRIGGER = n then s.mixStart mix else s
  else s

/-- A user's trigger fires into each of its targets. -/
def State.fireUser (s : State) (n : Nat) (mix : List MixIn) : State :=
  let t := s.trig n
  let s := { s with tb := { s.tb with trigs := tset (fun _ => Trig.zero) s.tb.trigs n t.after } }
  let outs := if s.bit BRG_CFG_EN then ((s.liveRecs 4).filter (fun o => s.rf 4 o 0x0D 1 == n)).map (· + 16) else []
  let s : State := (List.range 16 ++ outs).foldl (fun (s : State) (k : Nat) => s.fireComp n k) s
  let s := (s.fireMix n mix).ketTrigger n
  let pins := (List.range 8).filter (fun i => s.bit (TB_TIO_CFG_OUT i) && s.fld (TB_TIO_CFG_TRIGGER i) == n)
  let s : State := pins.foldl (fun (s : State) (i : Nat) => s.tioStart i) s
  if s.bit PWR_WAKE_TRIG_EN ∧ s.fld PWR_WAKE_TRIGGER = n then s.wake else s

/-- The frame trigger of a channel (R365): its part of a pitch lands, then its next frame begins. -/
def State.fireFrame (s : State) (n : Nat) : State :=
  let s := s.applyPart (1 + n) false
  if s.trigDue (32 + 2 * n) then s.frameBoundary n else s

/-- The release trigger of a channel (R365). -/
def State.fireRelease (s : State) (n : Nat) : State := if s.trigDue (33 + 2 * n) then s.slotRelease n else s

/-- TRIGGER_FIRE (R363): trigger n reaches its time; `mix` is what a mix cycle finds of its slots. -/
def execTriggerFire (n : Fin 64) (mix : List MixIn) (s : State) : Host.Outcome State Fault Refusal :=
  .next (if n.val < 32 then (if s.trigDue n then s.fireUser n mix else s)
    else if n.val % 2 = 0 then s.fireFrame ((n.val - 32) / 2)
    else s.fireRelease ((n.val - 32) / 2))

/-- APT_FRAME_SYNC (R330, R338, R340 to R343): `good` that the frame that ended lay in the rate window, `bits` its bit clocks. -/
def execAptFrameSync (p : Fin 16) (good : Bool) (bits : Nat) (s : State) : Host.Outcome State Fault Refusal :=
  .next ((s.applyPart (22 + p) false).aptFrame p good bits)

end Sys2Proof.Machine
end

