-- ==== Sys2Proof/Machine/Boot.lean ====
section
/-! DEFINITION. Start-up steps 2 to 4 and 10 (chapter 24): the cask, the Swevo image, start-up BIST, and entering RUN. -/

namespace Sys2Proof.Machine

/-! ### Step 2: the cask (R455, R462, R358, R436) -/

/-- BOOT_CASK_OPENED (R539): the boot counter and the epoch are incremented and written; records that cannot be read count as
absent, with a fault log record of CLASS 12. Three SAFE entries within an hour on one CLASS hold the device in BOOT (R462). -/
def execBootCaskOpened (bad : Bool) (s : State) : Host.Outcome State Fault Refusal :=
  .next (if !s.atStep 2 then s
    else
      let b := if bad then 1 else (s.cask.boot + 1) % 2 ^ 32
      let s := { s with cask := { s.cask with boot := b, identBad := bad } }
      let s := if bad then s.logFault 12 0 0 0 0 else s
      let s := s.put ⟨CFG_BOOT_CNT, 0, 32⟩ b
      let s := if bad then s.put TB_EPOCH_EPOCH 1
        else ((s.setEpoch (min (s.cask.epoch + 1) 0xFFFFFFFF)).putPair RDN_GYLE_LO RDN_GYLE_HI s.cask.gyle).putPair
          RDN_GYLE_SEEN_LO RDN_GYLE_SEEN_HI s.cask.gyleSeen
      let s := (s.bootStepDone 2).emit 0x0002 0 (evArg [(0, 1, b2n !s.boot.cold), (4, 4, b)])
      let held := safeHeld s.cask.safeHist
      let s := { s with cask := { s.cask with safeHist := if held then [] else s.cask.safeHist } }
      if held then ({ s with boot := { s.boot with held := true } }).put CFG_BOOT_STAT_ERR 8 else s)

/-! ### Step 3: the Swevo image (R540 to R546) -/

/-- The number of sections of a type. -/
def Img.count (i : Img) (t : Nat) : Nat := (i.types.filter (fun x => x.1 == t)).length

/-- Whether the sections are those that an image must hold and the AUTHORITY bytes are classes, FLOOR only for Yudizor (R542,
R544). -/
def Img.setOk (i : Img) : Bool :=
  i.layout && i.count 1 == 1 && i.count 4 == 1 && i.count 8 == 1 &&
  i.types.all (fun x => decide (1 ≤ x.1 ∧ x.1 ≤ 8) || x.1 == 15 || !x.2) &&
  i.auth.length == 5 && (List.range 5).all (fun p => decide (i.auth.getD p 0 ≤ 4) || (p == 2 && i.auth.getD p 0 == 5))

/-- Whether the MEMORY section describes parts that the device supports (R478): DENSITY, RANKS, BYTE_MODE, RATE, ALT_RATE,
GLOBAL_GIB. -/
def Img.memOk (i : Img) : Bool :=
  let m := fun k => i.mem.getD k 0
  i.mem.length == 6 && decide (m 0 ≤ 4) && decide (m 1 ≤ 1) && m 2 == b2n (m 0 == 4) && decide (m 3 ≤ 6) &&
  (decide (m 4 ≤ 6) || m 4 == 15) && decide (m 5 ≤ 31) && decide (m 5 * 8 ≤ (1 + m 1) * rankGib (m 0) * 7)

/-- Whether a BOOT_REGS entry may stand in an image: a register of SYS, CLK, PWR, THM, TB, CHK, LNK, YZ or RDN (R544). -/
def bootRegOk (a : Nat) : Bool := (regRow a).isSome && [0, 1, 2, 3, 6, 7, 8, 9, 10, 11, 12, 13].contains (a / 0x10000)

/-- The verdict on an image as CFG_BOOT_STAT.ERR codes it, 0 when it is valid (R542, R545). -/
def Img.verdict (i : Img) : Nat :=
  if !i.header then 1
  else if !i.crcs then 2
  else if !Config.keyHashBlank ∧ i.signed ∧ !i.sigOk then 3
  else if !Config.keyHashBlank ∧ !i.signed ∧ Config.sigRequired then 4
  else if !i.setOk then 5
  else if !i.memOk then 6
  else if !i.bootRegs.all (fun e => bootRegOk e.1) then 7
  else 0

/-- A BOOT_REGS entry: every field that software may set takes its value, staged ones at once. -/
def State.bootReg (s : State) (a : Nat) (v : W32) : State :=
  match regRow a with
  | none => s
  | some r => r.fields.foldl (fun (s : State) f =>
      if f.acc = .st ∨ f.acc = .rw ∨ f.acc = .rws then s.put ⟨a, f.lo, f.width⟩ (fieldGet v f.lo f.width) else s) s

/-- The MEMORY section: the geometry fields of every channel, the rates, and the global window. -/
def State.bootMem (s : State) (m : List Nat) : State :=
  let g := fun k => m.getD k 0
  let s : State := (List.range 24).foldl (fun (s : State) (c : Nat) =>
    (((s.put (DRM_CH_CFG_DENSITY c) (g 0)).put (DRM_CH_CFG_RANKS c) (g 1)).put (DRM_CH_CFG_BYTE_MODE c) (g 2)).put (DRM_CH_CFG_EN c) 1) s
  let s := ((s.put DRM_CFG_RATE (g 3)).put DRM_CFG_ALT_RATE (g 4)).put DRM_MAP_GLOBAL_GIB (g 5)
  s.put DRM_MAP_USABLE_GIB (s.drU / 2 ^ 30)

/-- Boot an image from a slot. -/
def State.bootImg (s : State) (slot : Nat) (i : Img) : State :=
  let s := { s with
    boot := { s.boot with noImage := false, auth := i.auth, service := i.service, svcRecs := i.recs }
    ket := { s.ket with kerns := i.kerns } }
  let s := ((s.put CFG_BOOT_STAT_SLOT slot).put CFG_BOOT_STAT_SIGNED (b2n (!Config.keyHashBlank && i.signed))).put
    ⟨CFG_IMAGE_GEN, 0, 32⟩ i.gen
  let s := s.bootMem i.mem
  (i.bootRegs.foldl (fun (s : State) e => s.bootReg e.1 e.2) s).bootStepDone 3

/-- An image that fails: event 0x0404, byte 2 telling whether another slot is left. -/
def State.bootFail (s : State) (slot cause : Nat) (last : Bool) : State :=
  let s := s.emit 0x0404 0 (evArg [(0, 1, slot), (1, 1, cause), (2, 1, b2n last)])
  if last then s.put CFG_BOOT_STAT_ERR cause else s

/-- Try the slots of a list in order (R540, R543). -/
def State.bootTry : List (Nat × Img) → State → State
  | [], s => s
  | (k, i) :: t, s =>
    if i.verdict = 0 then s.bootImg k i else State.bootTry t (s.bootFail k i.verdict t.isEmpty)

/-- What the device keeps of a slot as it read it. -/
def slotOf' (i : Option Img) : Slot :=
  match i with
  | none => ⟨false, 1, 0, false⟩
  | some i => ⟨i.header, i.verdict, i.gen, i.signed⟩

/-- IMAGE_READ_DONE (R540 to R545): both slots have been read; the highest GENERATION is tried first, slot A on a tie. -/
def execImageReadDone (a b : Option Img) (s : State) : Host.Outcome State Fault Refusal :=
  .next (if !s.atStep 3 ∨ s.boot.held then s
    else
      let s := { s with boot := { s.boot with slotImg := [slotOf' a, slotOf' b] } }
      let la := ((a.toList.filter (·.header)).map (fun i => (0, i)))
      let lb := ((b.toList.filter (·.header)).map (fun i => (1, i)))
      let aFirst := match a, b with
        | some x, some y => decide (y.gen ≤ x.gen)
        | _, _ => true
      let l := if aFirst then la ++ lb else lb ++ la
      if l.isEmpty then s.bootFail 0 1 true else State.bootTry l s)

/-! ### Start-up BIST (R623) -/

/-- The fence of a block for its memory. -/
def State.memFence (s : State) (o : MemOwner) : State :=
  match o with
  | .tun t => s.fenceTun t 2 []
  | .chkDec d => s.fenceChk d 2
  | .decCore d => s.fenceCore d 2
  | .pipe p => s.fencePipe p 2 0
  | .kettle c => s.fenceKet c 2
  | .chkUnit u => s.fenceUnit u 2
  | .ctxLine _ => s
  | .fwdBuffer => s

/-- BOOT_BIST_DONE (R623): rows repaired, blocks with an array that could not be repaired, and the place of a failure in any other
block, which stops start-up at step 4. -/
def execBootBistDone (repaired : Nat) (bad : List MemOwner) (other : Option Nat) (s : State) :
    Host.Outcome State Fault Refusal :=
  .next (if !s.tst.boot then s
    else
      let s := ({ s with tst := { s.tst with boot := false } }.put TST_STAT_BIST 0).cnt ⟨TST_BIST_CNT_REPAIR, 0, 32⟩ repaired
      let s : State := bad.foldl (fun (s : State) o => s.memFence o) s
      match other with
      | some a => ((s.put TST_BIST_STAT_FAIL 1).put ⟨TST_BIST_FAIL_ADDR, 0, 32⟩ a).emit 0x2002 0 (evArg [(0, 4, a)])
      | none => (s.bootStepDone 4).dramStart)

/-! ### Step 10 (R548) -/

/-- The check of step 10 has completed: a pass is pitched at once with identifier 0, else nothing is enabled; the device enters
RUN, or SAFE mode when a DRAM channel did not train (R495). -/
def State.step10Done (s : State) : State :=
  if !s.atStep 10 then s
  else
    let s := if s.bit CFG_STAGE_STAT_CHECKED then s.pitchAccept 0 0 0 else s.bankEmpty
    let s := (s.setMode 2).bootStepDone 10
    if s.drChans.any (fun c => s.fld (DRM_CH_STAT_STATE c) == 6) then s.enterSafe 2 Config.trainCause 0xFF else s

end Sys2Proof.Machine
end

