-- ==== Sys2Proof/Machine/Twin.lean ====
section
/-! DEFINITION. Twin pairs (chapter 18): rack sets, reservations, readiness, lease and arbiter, gyle, takeover and planned swaps; and
the settling of the role at start-up (R547). -/

namespace Sys2Proof.Machine

/-! ### Periods of RDN_CFG2 and RDN_CFG3 -/

def State.rdnDead (s : State) : Nat := s.fld RDN_CFG2_DEAD * 100 * usU
def State.leaseUs (s : State) : Nat := s.fld RDN_CFG2_LEASE_MS * 1000
def State.leaseU (s : State) : Nat := s.fld RDN_CFG2_LEASE_MS * msU

/-- Whether no rack set or heartbeat has come for DEAD (R438). -/
def State.peerSilent (s : State) : Bool := decide (s.raw - s.rdn.peerRaw ≥ s.rdnDead)

/-! ### Lease requests (R433, R434, R436) -/

/-- Ask for the lease, or the shadow lease: of a REFEREE by message, of a host by RDN_HG_REQ. -/
def State.leaseAsk (s : State) (shadow renew : Bool) : State :=
  let q := s.rdn.lseq + 1
  let s := { s with rdn := { s.rdn with lseq := q, reqs := s.rdn.reqs ++ [⟨q, s.raw, shadow, renew⟩], renewRaw := s.raw } }
  if s.fld RDN_CFG_ARB = 1 then s.send (.lease 1 shadow s.ownAddr q s.gyle s.leaseUs)
  else if s.fld RDN_CFG_ARB = 2 then
    (s.put RDN_HG_REQ_VALUE (2 ^ 31 + b2n shadow * 2 ^ 30 + q % 65536)).putPair RDN_HG_REQ_GYLE_LO RDN_HG_REQ_GYLE_HI s.gyle
  else s

/-- Claim the lease (R436, R438, R455): the gyle becomes the highest seen plus 1, in the cask first; a device that has seen the
last gyle, or whose cask area cannot be read, never claims. A gyle that MAINTAIN has written higher into the cask (R567) is not lowered. -/
def State.claim (s : State) (cause : Nat) : State :=
  if s.cask.identBad then s.emit 0x0D07 0 0
  else if s.gyleSeen ≥ 2 ^ 64 - 1 then s.emit 0x0D07 0 0
  else
    let g := max (s.gyleSeen + 1) s.cask.gyle
    let s := ({ s with cask := { s.cask with gyle := g } }).putPair RDN_GYLE_LO RDN_GYLE_HI g
    let s := { s with rdn := { s.rdn with cause := cause, causeRaw := s.raw, claimRaw := s.raw } }
    (s.setRole 4).leaseAsk false false

/-- A partial set is discarded (R429). -/
def State.setDiscard (s : State) : State :=
  match s.rdn.held with
  | [] => s
  | r :: _ =>
    let s := (s.cnt RDN_CNT_DISCARD_COUNT 1).emit 0x0D04 0 (evArg [(0, 8, r.seq)])
    { s with rdn := { s.rdn with held := [], forceRap := true } }

/-- PEER_SILENT (R438, R429): a STANDBY that has heard nothing for DEAD takes over from the last committed set. -/
def execPeerSilent (s : State) : Host.Outcome State Fault Refusal :=
  .next (if s.role = 2 ∧ s.inPair ∧ s.peerSilent ∧ (s.rdn.claimRaw ≤ s.rdn.peerRaw ∨ s.raw - s.rdn.claimRaw ≥ s.leaseU) then
      s.setDiscard.claim 1
    else s)

/-! ### Readiness and the DEGRADED mark (R424, R430) -/

/-- Warm state becomes ready, or is not. -/
def State.warmSet (s : State) (v : Bool) : State :=
  if s.rdn.warmReady = v then s
  else ({ s with rdn := { s.rdn with warmReady := v } }).emit 0x0D05 0xFF (evArg [(0, 1, 0xFF), (1, 1, b2n v)])

/-- The ACTIVE becomes DEGRADED. -/
def State.degrade (s : State) (cause : Nat) : State :=
  if s.bit RDN_STAT_DEGRADED then s
  else ((s.put RDN_STAT_DEGRADED 1).put RDN_STAT_READY 0).emit 0x0D03 0 (evArg [(1, 1, cause)])

/-- Whether the direct bundle to the peer is down. -/
def State.peerLinkDown (s : State) : Bool :=
  match s.yzRoute (s.fld RDN_CFG_PEER) with
  | some p => !s.bit (YZ_PORT_STAT_UP p)
  | none => false

/-- DEGRADED_ENTER (R430): a set has waited longer than DEAD for its acknowledgement. -/
def execDegradedEnter (s : State) : Host.Outcome State Fault Refusal :=
  .next (if s.isActive ∧ s.rdn.unacked.any (fun x => decide (s.raw - x.2 > s.rdnDead)) then
      s.degrade (if s.peerLinkDown then 3 else 1)
    else s)

/-- A STANDBY asks for the records from a SEQ on; 0 asks for a snapshot. -/
def State.askFrom (s : State) (q : Nat) : State := s.send (.rackResendReq q)

/-- A STANDBY resynchronises (R430). -/
def State.resync (s : State) : State :=
  let s := (s.warmSet false).put RDN_STAT_READY 0
  ({ s with rdn := { s.rdn with expect := 0, held := [], pitchLeft := 0, rendReady := [] } }).askFrom 0

/-- The commands of RDN_CTRL.RESYNC: for a STANDBY. -/
def State.resyncCmd (s : State) : State := if s.role = 2 then (s.put RDN_CTRL_RESYNC 1).resync else s

/-- RESYNC_CMD (R430). -/
def execResyncCmd (p : Port) (s : State) : Host.Outcome State Fault Refusal :=
  .next (s.portWrite p RDN_CTRL 2 (fun s => s.resyncCmd))

/-! ### Applying records (R422 to R428) -/

/-- The S fields of a flow (R215) from a FLOW_STATE record, in its order. -/
def flowOffs : List (Nat × Nat) :=
  [(0x90, 4), (0xA8, 8), (0xB0, 4), (0xC0, 2), (0xC4, 4), (0xC8, 8), (0xD0, 8), (0xDC, 4), (0xE0, 4), (0x100, 4), (0x104, 4),
   (0x108, 4), (0x10C, 4), (0x110, 4), (0x114, 2)]

/-- A racked configuration item takes its place: in the pitch that announced it, or at once (a snapshot). -/
def State.rackData (s : State) (f : Pitch → Pitch) (now : State → State) : State :=
  if s.rdn.pitchLeft = 0 then now s
  else
    let s := { s with rdn := { s.rdn with pitchLeft := s.rdn.pitchLeft - 1 } }
    match s.stage.pitches.getLast? with
    | some p => s.setPitch (f p)
    | none => s

/-- Whether the class of a racked row came after its instant, so that the STANDBY is not ready (R424). -/
def State.classLate (s : State) (n k r : Nat) : State := if s.deadline n k r < s.now then s.rendUnready n 255 else s

/-- A racked write to a live channel's registers that comes after the landing of its pitch: the STANDBY is not ready for the channel
(R424). -/
def State.dataLate (s : State) (a : Nat) : State :=
  let late := s.rdn.pitchLeft != 0 && (match s.stage.pitches.getLast? with | some p => decide (p.instant < s.now) | none => false)
  if late ∧ 0x100000 ≤ a ∧ a < 0x104000 then s.rendUnready ((a - 0x100000) / 0x400) 255 else s

/-- A racked hint for a slot that has started: the pictures without a budget become random-access points; where one has its budget, the
STANDBY is not ready (R424). -/
def State.hintLate (s : State) (n k m rend : Nat) : State :=
  let c := s.chan n
  let mine := c.pics.filter (fun x => x.1 / 16 == k && nbit m (x.1 % 16))
  let c' := { c with pics := c.pics.map (fun x =>
    if x.1 / 16 = k ∧ nbit m (x.1 % 16) ∧ !x.2.budgeted ∧ x.2.shape ≠ 1 then (x.1, { x.2 with rap := true, intra := true }) else x) }
  let s := s.setChan n c'
  if mine.any (fun x => x.2.budgeted && !x.2.rap) then s.rendUnready n rend else s

/-- A racked step at raw count r comes after the next frame boundary that a channel has had since: the STANDBY is not ready for the channel
(R424), and one that is claiming forces a random-access point after takeover (coinciding events of chapter 18). -/
def State.epochLate (s : State) (r : Nat) : State :=
  let ns := (List.range 16).filter (fun n =>
    (s.chan n).run && decide ((s.chan n).next > 0) && decide (s.slotTime n ((s.chan n).next - 1) > s.now - ((s.raw - r : Nat) : Int)))
  let s := ns.foldl (fun (s : State) n => s.rendUnready n 255) s
  if ns ≠ [] ∧ s.role = 4 then { s with rdn := { s.rdn with forceRap := true } } else s

/-- A STANDBY applies one record. -/
def State.rackApply (s : State) (i : RackItem) : State :=
  match i with
  | .arrival n k miss =>
    let c := s.chan n
    let sl := c.slot k
    let m := match sl.racked with | some x => x.2 | none => 0
    (s.setChan n (c.setSlot k { sl with racked := some (miss, m) })).classLate n k 0
  | .lateRow n k r =>
    let c := s.chan n
    let sl := c.slot k
    let x := sl.racked.getD (false, 0)
    (s.setChan n (c.setSlot k { sl with racked := some (x.1, nset x.2 r) })).classLate n k r
  | .capture u t e => { s with tb := { s.tb with caps := tset (fun _ => CapRec.zero) s.tb.caps u ⟨true, t, e⟩ } }
  | .epoch e d r => (s.epochLate r).timeStep d (some e)
  | .pitch i t n =>
    let p : Pitch := { Pitch.blank with ident := i, seq := s.stage.pitchSeq + 1, instant := t }
    let s := if t < s.now then s.warmSet false else s
    { s with
      stage := { s.stage with pitches := s.stage.pitches ++ [p], pitchSeq := p.seq }, rdn := { s.rdn with pitchLeft := n } }
  | .pitchData a w => (s.dataLate a).rackData (fun p => { p with writes := tput p.writes a w }) (fun s => s.landWrite a w)
  | .pitchRec r => s.rackData (fun p => { p with records := p.records ++ [r] })
      (fun s => if r.typ ≥ 8 then (s.landAudRec r).getD s else (s.landRec [r] r).getD s)
  | .hint n rend k =>
    let m := if rend = 255 then 0xFFF else 2 ^ rend
    if ((s.chan n).slot k).started then s.hintLate n k m rend
    else s.setChan n { s.chan n with hints := (m, k) :: (s.chan n).hints }
  | .lastSent f e =>
    let v := tget (fun _ => 0) s.rdn.virt f
    { s with rdn := { s.rdn with
      lastSent := tset (fun _ => 0) s.rdn.lastSent f e
      virt := if v = 0 then tset (fun _ => 0) s.rdn.virt f e else s.rdn.virt } }
  | .flowState f vals =>
    if !s.recValid 0 f then s
    else
      let s := (flowOffs.zip vals).foldl (fun (s : State) x => s.fp f x.1.1 x.1.2 x.2) s
      s.setFx f { s.fx f with resv := vals.getD 15 0, cResv := vals.getD 2 0 }
  | .bcMiss n f c =>
    let s := s.setChan n { s.chan n with bcRack := ((s.chan n).bcRack ++ [(f, c)]).drop ((s.chan n).bcRack.length - 255) }
    (s.cnt (AUD_BC_CNT_MISS_COUNT (n % 16)) c).emitLim 0x1A03 n c 0
  | .rcState n rend k vals =>
    let c := s.chan n
    if !c.run ∨ ((c.pic k rend).any (fun p => p.budgeted)) then s.rendUnready n rend
    else (s.setChan n { c with rcRack := ((rend, k, vals) :: c.rcRack).take 96 }).tryBudget n k rend
  | .heartbeat => s
  | .handover i => { s with rdn := { s.rdn with swapId := some i } }

/-- A committed set is applied in SEQ order and acknowledged (R428). `snap` says that it completes a snapshot. -/
def State.rackCommit (s : State) (recs : List RackRec) (last : Nat) (snap : Bool) : State :=
  let s := { s with rdn := { s.rdn with held := [], peerRaw := s.raw } }
  let s : State := recs.foldl (fun (s : State) r => s.rackApply r.item) s
  let s := if snap then s.warmSet true else s
  ((s.putPair RDN_RACK_SEQ_LO RDN_RACK_SEQ_HI last).send (.rackAck last)).readySet

/-- RACK_RECORD_RX (R428): a record is checked and held until its set commits. A device that settles its role and hears an ACTIVE peer
becomes STANDBY (R547); an ACTIVE that sees a higher gyle in a record stops (R437). -/
def execRackRecordRx (r : RackRec) (crcOk snap : Bool) (s : State) : Host.Outcome State Fault Refusal :=
  .next (
    let crcOk := crcOk && s.chkServed 1
    let listening := s.atStep 9 && s.inPair && s.role != 4
    if s.role = 1 ∧ s.inPair ∧ crcOk then (s.noteGyle r.gyle).gyleStop
    else if s.role ≠ 2 ∧ s.role ≠ 4 ∧ !listening then s
    else
      let s := if crcOk then s.noteGyle r.gyle else s
      let s := if listening ∧ s.role ≠ 2 ∧ crcOk then
          (({ s with rdn := { s.rdn with peerRaw := s.raw } }).roleSettled 2).resync
        else s
      let e := s.rdn.expect
      if !crcOk then s.askFrom e
      else if e = 0 ∧ !r.first then s
      else if e ≠ 0 ∧ r.seq < e then s
      else if e ≠ 0 ∧ r.seq > e then s.askFrom e
      else
        let recs := if r.first then [r] else s.rdn.held ++ [r]
        let s := { s with rdn := { s.rdn with expect := r.seq + 1, held := recs } }
        if r.commit then s.rackCommit recs r.seq snap else s)

/-! ### The ACTIVE's side (R422, R427, R430, R431) -/

/-- Rack items in sets of at most 256. -/
def State.rackAll (s : State) (l : List RackItem) : State :=
  (pieces (l.length + 1) l).foldl (fun (s : State) x => s.rack x) s

/-- The FLOW_STATE records of every active flow. -/
def State.flowItems (s : State) : List RackItem :=
  (s.liveRecs 0).map (fun f => RackItem.flowState f (s.flowVals f (s.fx f).resv))

/-- The LAST_SENT records of the output flows. -/
def State.lastItems (s : State) : List RackItem := s.rdn.lastSent.map (fun x => RackItem.lastSent x.1 x.2)

/-- The records of every session, leg and output (R430). -/
def State.sessItems (s : State) : List RackItem :=
  ([2, 3, 4] : List Nat).flatMap (fun t => (s.liveRecs t).map (fun i => RackItem.pitchRec ⟨t, i, s.record t i⟩))

/-- The snapshot of R430: a FLOW_STATE for every active flow, and every session, leg and output record. -/
def State.snapshot (s : State) : State :=
  let l := s.flowItems ++ s.sessItems
  let s := s.rackAll (if l = [] then [.heartbeat] else l)
  ({ s with rdn := { s.rdn with snapSeq := s.rdn.nextSeq - 1, warmReady := false, rendReady := [] } }).put RDN_STAT_READY 0

/-- The records of the journal from a SEQ on, by sets. -/
def journalFrom (j : List (List RackRec)) (q : Nat) : List (List RackRec) :=
  (j.map (fun l => l.filter (fun r => decide (q ≤ r.seq)))).filter (fun l => !l.isEmpty)

/-- RACK_RESEND_REQ_RX (R428, R430): resent from the journal; a snapshot when it is asked for, or when the journal no longer holds the
record or reads it poisoned (R452), which makes the ACTIVE DEGRADED. -/
def execRackResendReqRx (q : Nat) (poison : Bool) (s : State) : Host.Outcome State Fault Refusal :=
  .next (if !s.isActive then s
    else if q = 0 then s.snapshot
    else if q ≥ s.rdn.nextSeq then s
    else if !poison ∧ s.rdn.journal.any (fun l => l.any (fun r => r.seq == q)) then
      let sets := journalFrom s.rdn.journal q
      let s := s.cnt RDN_CNT_RESEND_COUNT ((sets.map List.length).sum)
      sets.foldl (fun (s : State) l => s.send (.rackSet l)) s
    else (s.degrade 2).snapshot)

/-- Reservations whose set has been acknowledged count (R431). -/
def State.ackFlows (s : State) (q : Nat) : State :=
  { s with brg := { s.brg with fx := s.brg.fx.map (fun (kv : Nat × FlowX) =>
    let x := kv.2
    let x := if x.resv > 0 ∧ x.resvSeq ≤ q then { x with resvAck := x.resv } else x
    (kv.1, if x.cResv > 0 ∧ x.cSeq ≤ q then { x with cAck := x.cResv } else x)) } }

/-- The renditions whose RC_STATE an acknowledgement covers. -/
def ackRends (j : List (List RackRec)) (q : Nat) : List (Nat × Nat) :=
  j.flatMap (fun l => l.filterMap (fun r => match r.item with
    | .rcState n k _ _ => if r.seq ≤ q then some (n, k) else none
    | _ => none))

/-- Live pictures of which some packets have left and some not: a slot in progress (R441). -/
def State.slotBusy (s : State) : Bool :=
  s.enc.chans.any (fun c => c.2.pics.any (fun x => x.2.released && decide (x.2.sent < x.2.units.length)))

/-- A planned swap goes on: once no slot is in progress LAST_SENT and HANDOVER are racked; once they are acknowledged the lease is
released and the device is STANDBY (R441). -/
def State.swapStep (s : State) (acked : Nat) : State :=
  match s.rdn.swapId with
  | none => s
  | some i =>
    if !s.isActive then s
    else if s.rdn.handSeq = 0 then
      if s.slotBusy then s
      else
        let s := s.rackAll (s.lastItems ++ [.handover i])
        { s with rdn := { s.rdn with handSeq := s.rdn.nextSeq - 1 } }
    else if acked ≥ s.rdn.handSeq then
      let s := (((s.releaseLease).setRole 2).put RDN_CTRL_SWAP 0).put RDN_STAT_DAYS 0
      let s := { s with rdn := { s.rdn with swapId := none, handSeq := 0, dayRaw := s.raw, peerRaw := s.raw, expect := 0, held := [] } }
      s.put RDN_STAT_READY 0
    else s

/-- RACK_ACK_RX (R427, R430, R431, R441). -/
def execRackAckRx (q : Nat) (s : State) : Host.Outcome State Fault Refusal :=
  .next (if !s.isActive ∨ q ≥ s.rdn.nextSeq then s
    else
      let rs := ackRends s.rdn.journal q
      let s := { s with rdn := { s.rdn with
        unacked := s.rdn.unacked.filter (fun (x : Nat × Nat) => decide (x.1 > q))
        journal := s.rdn.journal.filter (fun l => l.any (fun r => decide (r.seq > q)))
        rendReady := rs.foldl (fun (t : Tab Bool) (x : Nat × Nat) => tset (fun _ => false) t (x.1 * 16 + x.2) true) s.rdn.rendReady
        warmReady := s.rdn.warmReady || (s.rdn.snapSeq != 0 && decide (s.rdn.snapSeq ≤ q)) } }
      let s := (s.putPair RDN_RACK_ACK_LO RDN_RACK_ACK_HI (max q (s.pairVal RDN_RACK_ACK_LO RDN_RACK_ACK_HI))).ackFlows q
      let late := s.rdn.unacked.any (fun x => decide (s.raw - x.2 > s.rdnDead))
      let s := if s.rdn.warmReady ∧ s.rendsReady ∧ !late then s.put RDN_STAT_READY 1 else s
      let s := if s.bit RDN_STAT_READY ∧ s.bit RDN_STAT_DEGRADED then
          (s.put RDN_STAT_DEGRADED 0).emit 0x0D03 0 (evArg [(0, 1, 1)]) else s
      s.swapStep q)

/-- RACK_HEARTBEAT_SEND (R422). -/
def execRackHeartbeatSend (s : State) : Host.Outcome State Fault Refusal :=
  .next (if s.isActive ∧ s.raw - s.rdn.sinceSent ≥ 250 * usU then s.rack [.heartbeat] else s)

/-- LAST_SENT_RACK (R422): LAST_SENT every 1 ms; every 100 ms the FLOW_STATE of every flow with it. -/
def execLastSentRack (s : State) : Host.Outcome State Fault Refusal :=
  .next (if s.isActive ∧ s.raw - s.rdn.lsRaw ≥ msU then
      let full := decide (s.raw / (100 * msU) ≠ s.rdn.lsRaw / (100 * msU))
      let s := { s with rdn := { s.rdn with lsRaw := s.raw } }
      (s.rackAll (s.lastItems ++ (if full then s.flowItems else []))).swapStep 0
    else s)

/-! ### Takeover (R432, R439) -/

/-- A send flow continues at its last racked reservation, or on a STANDBY that was not ready waits for new keys (R432). -/
def State.resumeFlow (s : State) (f : Nat) : State :=
  if !s.isSend f then (s.fp f 0x98 8 0).fp f 0xA0 8 0
  else if (s.chanOfFlow f).isSome then s
  else if !s.rdn.warmReady ∧ s.flag f 0 then (s.fp f 0 1 2).emit 0x1802 f 0
  else
    let h := (s.fx f).resv
    let e := s.ff f 0xC8 8
    if h ≤ e + 1 then s
    else
      let d := h - 1 - e
      let s := (s.fp f 0xC8 8 (h - 1)).fp f 0x90 4 (s.ff f 0x90 4 + ((h - 1) / 65536 - e / 65536))
      let s := if s.flag f 0 then (s.fp f 0xA8 8 (s.ff f 0xA8 8 + d)).fp f 0xB0 4 (max (s.ff f 0xB0 4) (s.fx f).cResv) else s
      s.setFx f { s.fx f with prevSrc := some resumeMark, resv := 0, resvAck := 0, cResv := 0, cAck := 0 }

/-- Live renditions carry a random-access point after a discarded set (R429). -/
def State.rapAll (s : State) : State :=
  let s : State := (List.range 16).foldl (fun (s : State) n => if (s.chan n).run then
    (s.rends n).foldl (fun (s : State) k => s.forceRap n k (s.chan n).next) s else s) s
  { s with rdn := { s.rdn with forceRap := false } }

/-- The new ACTIVE device starts (R439): in order egress, live renditions, flows, intra pictures of the outputs, decode contexts, and
audio. A pitch whose set was not complete is not applied. -/
def State.takeover (s : State) (endRaw : Nat) : State :=
  let startUp := s.atStep 9
  let drop := s.rdn.pitchLeft != 0
  let s := { s with stage := { s.stage with pitches := if drop then s.stage.pitches.dropLast else s.stage.pitches } }
  let s := { s with rdn := { s.rdn with
    leaseEnd := endRaw, renewRaw := s.raw, nextSeq := max s.rdn.nextSeq s.rdn.expect, journal := [], unacked := [], expect := 0,
    pitchLeft := 0, dayRaw := s.raw, swapId := none, handSeq := 0, egressStop := false, sinceSent := s.raw, lsRaw := s.raw } }
  let s := (s.setDiscard.put RDN_STAT_DAYS 0).setRole 1
  let s := if startUp then s
    else (s.cnt RDN_CNT_TAKEOVER_COUNT 1).emit 0x0D02 0 (evArg [(0, 1, s.rdn.cause), (4, 4, (s.raw - s.rdn.causeRaw) / usU)])
  let s := s.sendKept
  let s := if s.rdn.forceRap then s.rapAll else s
  let s : State := (s.liveRecs 0).foldl (fun (s : State) f => s.resumeFlow f) s
  let s := { s with brg := { s.brg with intraNext := s.liveRecs 4 } }
  let s : State := ((s.liveRecs 1).filter (fun c => s.recState 1 c != 5)).foldl (fun (s : State) c => (s.ctxState c 1).startCond c) s
  let s := { s with aud := { s.aud with takeover := true }, rdn := { s.rdn with warmReady := false, rendReady := [], snapSeq := 0 } }
  let s := s.put RDN_STAT_READY 0
  if startUp then s.roleSettled 1 else s

/-! ### Grants, denials, revocation (R433 to R438) -/

/-- The request of this device that a reply to a holder answers (R433: HOLDER, SHADOW and LSEQ). -/
def State.leaseReq (s : State) (holder : Nat) (q : Nat) : Option LeaseReq :=
  if holder = s.ownAddr then s.rdn.reqs.find? (fun r => r.lseq == q) else none

/-- Requests up to one that was answered are done. -/
def State.reqsDone (s : State) (q : Nat) : State :=
  { s with rdn := { s.rdn with reqs := s.rdn.reqs.filter (fun r => decide (r.lseq > q)) } }

/-- A grant (R434, R439): counted from the instant of its request. A claimant whose lease has run out already asks again. -/
def State.grantTake (s : State) (holder q gyle durUs : Nat) : State :=
  let s := s.noteGyle gyle
  match s.leaseReq holder q with
  | none => s.gyleStop
  | some r =>
    let s := s.reqsDone q
    let e := r.raw + durUs * usU
    if r.shadow then { s with rdn := { s.rdn with shadowEnd := e } }
    else if s.role = 4 then (if e ≤ s.raw then s.leaseAsk false false else s.takeover e)
    else if s.role = 1 then { s with rdn := { s.rdn with leaseEnd := max s.rdn.leaseEnd e, egressStop := false } }
    else s

/-- A lease message takes effect only where its CRC-32C and its alive count pass and a check-value unit serves VC 0 (R27, R433, R465); one
that fails is discarded and counted (R406). -/
def State.leaseMsg (s : State) (sound : Bool) (act : State → State) : State :=
  if sound && s.chkServed (vcFunc 0) then act s else s.cnt YZ_CNT_MSG_CHK_COUNT 1

/-- LEASE_GRANT_RX. The arbiter's grant reaches both members: one that did not ask for it sees the higher gyle (R437). -/
def execLeaseGrantRx (sound : Bool) (holder : Fin 4096) (shadow : Bool) (lseq gyle durUs : Nat) (s : State) : Host.Outcome State Fault Refusal :=
  .next (s.leaseMsg sound (fun s =>
    if (s.leaseReq holder lseq).any (fun r => r.shadow != shadow) then s.noteGyle gyle else s.grantTake holder lseq gyle durUs))

/-- A claim ends without a lease: STANDBY, and at start-up step 9 is over (R438, R547). -/
def State.claimEnd (s : State) (event : Bool) : State :=
  let s := if event ∧ !s.atStep 9 then s.emit 0x0D02 0 0 else s
  (s.roleSettled 2).resync

/-- A denial (R438). -/
def State.denyTake (s : State) (holder q gyle : Nat) : State :=
  let s := s.noteGyle gyle
  match s.leaseReq holder q with
  | none => s
  | some r =>
    let s := s.reqsDone q
    if s.role = 4 ∧ !r.shadow then s.claimEnd true else s

/-- LEASE_DENY_RX. -/
def execLeaseDenyRx (sound : Bool) (holder : Fin 4096) (lseq gyle : Nat) (s : State) : Host.Outcome State Fault Refusal :=
  .next (s.leaseMsg sound (fun s => s.denyTake holder lseq gyle))

/-- The arbiter revokes the ACTIVE's lease, and the STANDBY claims (R438). -/
def State.revoked (s : State) : State :=
  if s.role = 1 then s.setLease s.raw
  else if s.role = 2 then s.setDiscard.claim 4
  else s

/-- LEASE_REVOKE_RX. -/
def execLeaseRevokeRx (sound : Bool) (gyle : Nat) (s : State) : Host.Outcome State Fault Refusal :=
  .next (s.leaseMsg sound (fun s => (s.noteGyle gyle).revoked))

/-- LEASE_RENEW (R434, R437, R459): the holder asks for renewal every RENEW, a STANDBY of twin-both mode for its shadow lease; none
while the safe states are forced. -/
def execLeaseRenew (s : State) : Host.Outcome State Fault Refusal :=
  .next (if s.safe.forced ∨ !s.inPair ∨ s.raw - s.rdn.renewRaw < s.fld RDN_CFG2_RENEW * 100 * usU then s
    else if s.role = 1 then s.leaseAsk false true
    else if s.role = 2 ∧ s.bit RDN_CFG_MEDIA then s.leaseAsk true true
    else s)

/-- LEASE_EXPIRE (R437): egress stops, counted, with event 0x0D09. -/
def execLeaseExpire (s : State) : Host.Outcome State Fault Refusal :=
  .next (if s.role = 1 ∧ !s.rdn.egressStop ∧ s.rdn.leaseEnd ≤ s.raw then
      (({ s with rdn := { s.rdn with egressStop := true } }).cnt RDN_CNT_GYLE_STOP_COUNT 1).emit 0x0D09 0 (evArg [(0, 4, (s.raw - s.rdn.leaseEnd) / usU)])
    else s)

/-- LEASE_CLAIM_TIMEOUT (R547): a claim without an answer for LEASE_MS ends; a STANDBY claims again every LEASE_MS while its peer stays
silent. -/
def execLeaseClaimTimeout (s : State) : Host.Outcome State Fault Refusal :=
  .next (if s.raw - s.rdn.claimRaw < s.leaseU then s
    else if s.role = 4 then (s.reqsDone s.rdn.lseq).claimEnd false
    else if s.role = 2 ∧ s.inPair ∧ s.peerSilent then s.setDiscard.claim 1
    else s)

/-! ### The arbiter (R434, R435) -/

/-- A pair's grants; the shadow lease has its own. -/
def State.arb (s : State) (pair : Nat) (shadow : Bool) : ArbPair := tget (fun _ => ArbPair.zero) s.rdn.arb (2 * pair + b2n shadow)
def State.setArb (s : State) (pair : Nat) (shadow : Bool) (a : ArbPair) : State :=
  { s with rdn := { s.rdn with arb := tset (fun _ => ArbPair.zero) s.rdn.arb (2 * pair + b2n shadow) a } }

/-- Grant: the arbiter counts the duration and its guard from now. -/
def State.arbGrant (s : State) (pair : Nat) (shadow : Bool) (who q g dur : Nat) : State :=
  let e := s.raw + dur * usU + s.fld RDN_CFG3_GUARD_US * 10 * usU
  (s.setArb pair shadow ⟨who, g, e, none⟩).send (.lease 2 shadow who q g dur)

/-- Deny, with the highest gyle granted. -/
def State.arbDeny (s : State) (pair : Nat) (shadow : Bool) (who q dur : Nat) : State :=
  s.send (.lease 3 shadow who q (s.arb pair shadow).gyle dur)

/-- LEASE_REQUEST_RX (R435): a REFEREE grants no lease while a grant for the pair is valid in its own count; a higher claim waits for
that end, and the holder's renewals are granted unless one waits. -/
def execLeaseRequestRx (sound : Bool) (pair : Fin 256) (who : Fin 4096) (shadow : Bool) (lseq gyle durUs : Nat) (s : State) :
    Host.Outcome State Fault Refusal :=
  .next (s.leaseMsg sound (fun s => if s.role ≠ 3 then s
    else
      let a := s.arb pair shadow
      let valid := decide (s.raw < a.endRaw)
      if valid ∧ who.val = a.holder ∧ gyle = a.gyle then
        if a.waiting.isSome then s.arbDeny pair shadow who lseq durUs else s.arbGrant pair shadow who lseq gyle durUs
      else if gyle ≤ a.gyle then s.arbDeny pair shadow who lseq durUs
      else if !valid then s.arbGrant pair shadow who lseq gyle durUs
      else match a.waiting with
        | some (w, q, g, d) =>
          if gyle ≤ g ∧ who.val ≠ w then s.arbDeny pair shadow who lseq durUs
          else
            let s := if who.val = w then s else s.arbDeny pair shadow w q d
            s.setArb pair shadow { a with waiting := some (who.val, lseq, gyle, durUs) }
        | none => s.setArb pair shadow { a with waiting := some (who.val, lseq, gyle, durUs) }))

/-- A waiting claim is granted once no grant is valid. -/
def State.arbNext (s : State) (pair : Nat) (shadow : Bool) : State :=
  let a := s.arb pair shadow
  if s.raw < a.endRaw then s
  else match a.waiting with
    | some (w, q, g, d) => s.arbGrant pair shadow w q g d
    | none => s

/-- ARBITER_LEASE_END (R434). -/
def execArbiterLeaseEnd (pair : Fin 256) (shadow : Bool) (s : State) : Host.Outcome State Fault Refusal :=
  .next (if s.role = 3 then s.arbNext pair shadow else s)

/-- LEASE_RELEASE_RX (R435, R438): a REFEREE ends its count of the lease; a STANDBY claims, at once. `req` says that the ACTIVE asks
for a takeover under R149. -/
def execLeaseReleaseRx (sound : Bool) (pair : Fin 256) (shadow req : Bool) (s : State) : Host.Outcome State Fault Refusal :=
  .next (s.leaseMsg sound (fun s => if s.role = 3 then
      (s.setArb pair shadow { s.arb pair shadow with endRaw := min (s.arb pair shadow).endRaw s.raw }).arbNext pair shadow
    else if s.role = 2 ∧ s.inPair then
      s.setDiscard.claim (if req then 2 else if s.rdn.swapId.isSome then 3 else 4)
    else s))

/-! ### Planned swaps and their interval (R441, R442) -/

/-- RDN_CTRL.SWAP: for an ACTIVE whose standby is READY, else ignored. -/
def State.swapCmd (s : State) : State :=
  if s.isActive ∧ s.bit RDN_STAT_READY ∧ s.rdn.swapId.isNone then
    let s := { s with rdn := { s.rdn with swapId := some (s.rdn.nextSeq % 2 ^ 32), handSeq := 0 } }
    (s.put RDN_CTRL_SWAP 1).swapStep 0
  else s

/-- The command bits of RDN_CTRL. -/
def State.rdnCtrl (s : State) (v : W32) : State :=
  let s := if fieldGet v 0 1 = 1 then s.swapCmd else s
  if fieldGet v 1 1 = 1 then s.resyncCmd else s

/-- SWAP_CMD (R441). -/
def execSwapCmd (p : Port) (s : State) : Host.Outcome State Fault Refusal :=
  .next (s.portWrite p RDN_CTRL 1 (fun s => s.swapCmd))

/-- SWAP_DAYS_TICK (R442). -/
def execSwapDaysTick (s : State) : Host.Outcome State Fault Refusal :=
  .next (if !s.inPair ∨ s.raw - s.rdn.dayRaw < 86400 * secU then s
    else
      let s := { s with rdn := { s.rdn with dayRaw := s.rdn.dayRaw + 86400 * secU } }
      let s := s.cnt RDN_STAT_DAYS 1
      if s.fld RDN_STAT_DAYS ≥ s.fld RDN_CFG3_SWAP_DAYS then s.emit 0x0D08 0 (evArg [(0, 2, s.fld RDN_STAT_DAYS)]) else s)

/-! ### A host arbiter (R433, RDN_HG_CMD) -/

/-- A write of RDN_HG_CMD: a grant or a denial takes effect only for the pending request. -/
def State.hgCmd (s : State) (v : W32) : State :=
  let op := fieldGet v 28 4
  let req := s.fld RDN_HG_REQ_VALUE
  let q := fieldGet v 0 16
  let hit := nbit req 31 && req % 65536 == q
  let lseq := match s.rdn.reqs.find? (fun r => r.lseq % 65536 == q) with | some r => r.lseq | none => 0
  if op = 2 then (if hit then (s.put RDN_HG_REQ_VALUE (nclr req 31)).grantTake s.ownAddr lseq s.gyle (fieldGet v 23 5 * 1000) else s)
  else if op = 3 then (if hit then (s.put RDN_HG_REQ_VALUE (nclr req 31)).denyTake s.ownAddr lseq 0 else s)
  else if op = 5 then s.revoked
  else s

/-- HG_GRANT, HG_DENY, HG_REVOKE. -/
def execHgGrant (p : Port) (durMs : Fin 32) (lseq : Fin 65536) (s : State) : Host.Outcome State Fault Refusal :=
  let v : W32 := BitVec.ofNat 32 (2 * 2 ^ 28 + durMs.val * 2 ^ 23 + lseq.val)
  .next (s.portWrite p RDN_HG_CMD v (fun s => s.hgCmd v))
def execHgDeny (p : Port) (lseq : Fin 65536) (s : State) : Host.Outcome State Fault Refusal :=
  let v : W32 := BitVec.ofNat 32 (3 * 2 ^ 28 + lseq.val)
  .next (s.portWrite p RDN_HG_CMD v (fun s => s.hgCmd v))
def execHgRevoke (p : Port) (lseq : Fin 65536) (s : State) : Host.Outcome State Fault Refusal :=
  let v : W32 := BitVec.ofNat 32 (5 * 2 ^ 28 + lseq.val)
  .next (s.portWrite p RDN_HG_CMD v (fun s => s.hgCmd v))

/-! ### Settling the role (R547) -/

/-- ROLE_LISTEN_END: the listening of DEAD is over, and with PREFER = 0 the further wait of 2 · LEASE_MS. -/
def execRoleListenEnd (s : State) : Host.Outcome State Fault Refusal :=
  .next (if !s.atStep 9 ∨ !s.inPair ∨ s.role = 2 ∨ s.role = 4 then s
    else
      let t := s.raw - s.rdn.listenRaw
      if t < s.rdnDead then s
      else if s.rdn.peerRaw > s.rdn.listenRaw then (s.roleSettled 2).resync
      else if s.bit RDN_CFG_PREFER ∨ t ≥ s.rdnDead + 2 * s.leaseU then
        let s' := s.claim 1
        if s'.role = 4 then s' else (s'.roleSettled 2).resync
      else s)

end Sys2Proof.Machine
end

