-- ==== Sys2Proof/Machine/RegWrite.lean ====
section
/-! DEFINITION. Any write and any read of any register (R561, R563): a register whose command bits have an effect takes the same
effect here as in its own row; every other register takes its written fields. -/

namespace Sys2Proof.Machine

/-! ### The command registers of arrays of units -/

/-- FENCE and UNFENCE of a control word: bits 0 and 1. -/
def fenceCmd (v : W32) (fence unfence : State → State) (s : State) : State :=
  let s := if fieldGet v 0 1 = 1 then fence s else s
  if fieldGet v 1 1 = 1 then unfence s else s

/-- The effect of a written register of an engine: encode (R59, R89, R93, R151, R154), decode (R175, R177), composer (R192),
kettles (R294). -/
def State.engineEffect (s : State) (a : Nat) (v : W32) : State :=
  let b := a / 0x10000
  if b = 16 ∧ a < 0x104000 ∧ a % 0x400 = 0x20 then s.hintWrite ((a - 0x100000) / 0x400) v.toNat
  else if b = 17 ∧ a < 0x112800 ∧ a % 0x100 = 0 then
    let t := (a - 0x110000) / 0x100
    fenceCmd v (fun s => s.fenceTun t 4 []) (fun s => s.tunUnfence t) s
  else if b = 21 ∧ a < 0x150800 ∧ a % 0x100 = 0 then
    let d := (a - 0x150000) / 0x100
    fenceCmd v (fun s => s.fenceChk d 3) (fun s => s.chkUnfence d) s
  else if b = 20 ∧ a < 0x141800 ∧ a % 0x100 = 0 then
    let d := (a - 0x140000) / 0x100
    fenceCmd v (fun s => s.fenceCore d 4) (fun s => s.coreUnfence d) s
  else if b = 22 ∧ a < 0x161000 ∧ a % 0x100 = 0x14 then
    let q := (a - 0x160000) / 0x100
    fenceCmd v (fun s => s.fencePipe q 3 0) (fun s => s.pipeUnfence q) s
  else if b = 29 ∧ a < 0x1D1800 ∧ a % 0x40 = 0 then s.ketCtrl ((a - 0x1D0000) / 0x40) v
  else if b = 29 ∧ a < 0x1D1800 ∧ a % 0x40 = 0xC then s.mboxWrite ((a - 0x1D0000) / 0x40) v
  else s

/-- The effect of a written register of a check-value unit; `old` is the state before the write. -/
def State.chkEffect (old s : State) (a : Nat) (v : W32) : State :=
  let u := (a - 0x70000) / 0x40
  match a % 0x40 with
  | 0x00 => s.chkCfg u (old.fld (CHK_UNIT_CFG_ALG u))
  | 0x10 => s.chkCtrl u v
  | 0x18 => s.chkFeed u (feedBytes 1 v)
  | 0x1C => s.chkFeed u (feedBytes 2 v)
  | 0x20 => s.chkFeed u (feedBytes 4 v)
  | 0x28 => s.chkAlive u (old.fld (CHK_UNIT_ALIVE_VALUE u)) (fieldGet v 0 8)
  | _ => s

/-- The effect of any other written register. `old` is the state before the write. -/
def State.regEffect (old s : State) (p : Port) (a : Nat) (v : W32) : State :=
  let b := a / 0x10000
  if 16 ≤ b ∧ b ≤ 22 ∨ b = 29 then s.engineEffect a v
  else if b = 7 ∧ a < 0x70400 then State.chkEffect old s a v
  else if a = SYS_CTRL then s.safeCmd v
  else if a = SYS_SNAP then s.snapWrite v
  else if a = SYS_CASK_CMD then s.caskCmd v false
  else if a = CFG_PITCH then s.pitchCmd p.owner v
  else if a = RDN_CTRL then s.rdnCtrl v
  else if a = RDN_HG_CMD then s.hgCmd v
  else if a = FWD_PUNT_CMD then s.puntCmd v
  else if a = DSP_WIN_CMD then s.dspWin v false
  else if a = DRM_XLATE_HI then s.xlateDo
  else if a = TST_BIST_CMD then s.tstCmd false v
  else if a = TST_GV_CMD then s.tstCmd true v
  else if 0x80000 ≤ a ∧ a < 0xC0000 ∧ a % 0x1000 = 0x800 then s.esRun ((a - 0x80000) / 0x1000) v
  else if 0x30400 ≤ a ∧ a < 0x30600 ∧ a % 8 = 0 then s.sensorRejoin ((a - 0x30400) / 8) v
  else if 0xF0000 ≤ a ∧ a < 0xF6000 ∧ a % 0x400 = 0 then
    let c := (a - 0xF0000) / 0x400
    (s.trCmd c v (s.trFree c)).draw
  else s.stageEffect a v

/-- A write of any register by a port: those with a refusal of their own first, then the plain write with its effect. -/
def State.regWrite (s : State) (p : Port) (a : Nat) (v : W32) : State :=
  if a = CFG_CTRL then s.ctrlWrite p v
  else if a = EVQ_RD then s.evqRdWrite p v
  else if a = BRG_WIN_CMD then s.brgWinWrite p v false
  else if a = AUD_WIN_CMD then s.audWinWrite p v false
  else if 0x61000 ≤ a ∧ a < 0x61800 ∧ a % 0x20 = 0 then s.trigCfgWrite p ((a - 0x61000) / 0x20) v
  else if 0x201000 ≤ a ∧ a < 0x202000 ∧ a % 0x40 = 0 then s.tstGenWrite p ((a - 0x201000) / 0x40) v
  else if 0x201000 ≤ a ∧ a < 0x202000 ∧ a % 0x40 = 4 then s.tstChkWrite p ((a - 0x201000) / 0x40) v
  else if 0x201000 ≤ a ∧ a < 0x202000 ∧ a % 0x40 = 8 then s.tstLoopWrite p ((a - 0x201000) / 0x40) v
  else s.portWrite p a v (fun t => State.regEffect s t p a v)

/-- REGISTER_WRITE (R561). -/
def execRegisterWrite (p : Port) (a : Nat) (v : W32) (s : State) : Host.Outcome State Fault Refusal := .next (s.regWrite p a v)

/-! ### Reads -/

/-- A read of any register by a port, with the side effects of the timebase's (R370) and of RC fields (R563). -/
def State.regRead (s : State) (p : Port) (a : Nat) : State :=
  let t := s.portRead p a
  if t.ctl.failed then t
  else if a = TB_TIME_S_LO then { t with tb := { t.tb with latch := s.now, latched := true } }
  else if 0x63000 ≤ a ∧ a < 0x63800 ∧ a % 0x20 = 0x10 then
    let n := (a - 0x63000) / 0x20
    let c := tget (fun _ => CapRec.zero) t.tb.caps n
    { t with tb := { t.tb with caps := tset (fun _ => CapRec.zero) t.tb.caps n { c with valid := false } } }
  else t

/-- RC_READ (R563). -/
def execRcRead (p : Port) (a : Nat) (s : State) : Host.Outcome State Fault Refusal := .next (s.regRead p a)

end Sys2Proof.Machine
end

