-- ==== Sys2Proof/Machine/Jtag.lean ====
section
/-! DEFINITION. The test access port (R616 to R618). -/

namespace Sys2Proof.Machine

/-- The TAP takes an instruction: TST_JTAG_STAT.IR shows it, `drive` says what holds the outputs (0 the device). -/
def State.tapIr (s : State) (ir drive : Nat) : State :=
  ({ s with tst := { s.tst with drive := drive } }).put TST_JTAG_STAT_IR ir

/-- Whether the TAP responds (R616), and whether it takes the instructions that drive outputs (R617). -/
def State.tapOn (s : State) : Bool := s.bit SYS_STAT_TEST_EN
def State.scanOk (s : State) : Bool := s.fld PWR_MODE_CUR == 1 || s.fld PWR_MODE_CUR == 5

/-- An instruction that drives the outputs from the boundary register or holds or floats them; `cells` is what Update-DR loads. In
another mode than BOOT or SAFE it acts as BYPASS and REFUSED is set. -/
def State.tapScan (s : State) (op : Nat) (cells : Option Nat) : State :=
  if !s.tapOn then s
  else if s.scanOk then
    let s := match cells with
      | some c => { s with tst := { s.tst with bound := c % 2 ^ 1486 } }
      | none => s
    s.tapIr op (op + 1)
  else (s.tapIr 0xFF 0).put TST_JTAG_STAT_REFUSED 1

/-- EXTEST (R617): the boundary cells drive. -/
def execExtest (cells : Nat) (s : State) : Host.Outcome State Fault Refusal := .next (s.tapScan 0x00 (some cells))
/-- CLAMP: the outputs hold what the boundary register has. -/
def execClamp (s : State) : Host.Outcome State Fault Refusal := .next (s.tapScan 0x03 none)
/-- HIGHZ: the outputs float. -/
def execHighz (s : State) : Host.Outcome State Fault Refusal := .next (s.tapScan 0x04 none)
/-- EXTEST_PULSE. -/
def execExtestPulse (cells : Nat) (s : State) : Host.Outcome State Fault Refusal := .next (s.tapScan 0x05 (some cells))
/-- EXTEST_TRAIN. -/
def execExtestTrain (cells : Nat) (s : State) : Host.Outcome State Fault Refusal := .next (s.tapScan 0x06 (some cells))

/-- IDCODE (R616): the data register is the identification. -/
def execIdcode (s : State) : Host.Outcome State Fault Refusal :=
  .next (if !s.tapOn then s
    else ({ s with tst := { s.tst with dr := (s.rd TST_IDCODE).toNat } }).tapIr 0x01 0)

/-- SAMPLE_PRELOAD (R616): Capture-DR takes the balls, Update-DR loads the boundary register; the outputs stay the device's. -/
def execSamplePreload (balls cells : Nat) (s : State) : Host.Outcome State Fault Refusal :=
  .next (if !s.tapOn then s
    else ({ s with tst := { s.tst with dr := balls % 2 ^ 1486, bound := cells % 2 ^ 1486 } }).tapIr 0x02 0)

/-- BYPASS (R616): 0xFF and every opcode that is no instruction. Capture-DR loads 0 (IEEE 1149.1). -/
def execBypass (s : State) : Host.Outcome State Fault Refusal :=
  .next (if !s.tapOn then s else ({ s with tst := { s.tst with dr := 0 } }).tapIr 0xFF 0)

/-- The data register after an access: the read data in bits 52 to 21, ERR in bit 53 (R618). -/
def State.accessDr (s : State) (we : Bool) : Nat :=
  Config.captureLow s.fresh % 2 ^ 21 + (if we then 0 else s.ctl.rdData.toNat) * 2 ^ 21 + b2n s.ctl.failed * 2 ^ 53

/-- REG_ACCESS (R618): an access with the TAP's authority through the write sequencer. -/
def execRegAccess (we : Bool) (word : Fin 1048576) (data : W32) (s : State) : Host.Outcome State Fault Refusal :=
  .next (if !s.tapOn then s
    else
      let s := s.tapIr 0x20 0
      let s := if we then s.regWrite .jtag (4 * word) data else s.regRead .jtag (4 * word)
      ({ s with tst := { s.tst with dr := s.accessDr we } }).draw)

/-- TEST_EN_FALL (R616): Test-Logic-Reset; the boundary cells release. -/
def execTestEnFall (s : State) : Host.Outcome State Fault Refusal :=
  .next ((s.testEn 0).tapIr 0 0)

/-- TEST_EN_RISE (R616). -/
def execTestEnRise (s : State) : Host.Outcome State Fault Refusal := .next (s.testEn 1)

end Sys2Proof.Machine
end

