-- ==== Sys2Proof/Machine/Mgmt.lean ====
section
/-! DEFINITION. The management port (R568 to R577): senders, the operations of a request, subscriptions and the event stream. Each
operation of a request is one command; a request is its commands in payload order. -/

namespace Sys2Proof.Machine

/-! ### Requests (R569 to R573, R576) -/

/-- Whether a port is up for requests: the management port from step 3 on while a management pair works, Yudizor while it is up. -/
def State.mgmtUp (s : State) (p : Port) : Bool :=
  match p with
  | .mgmt => decide (3 ≤ s.fld CFG_BOOT_STAT_STEP) && s.safe.pairs != 0
  | .yz => s.bit YZ_CFG_EN && s.safe.pairs != 0
  | .hcp | .media | .jtag => false

/-- Whether a check-value unit serves the frames of a port (R465): function 6 for the management port, VC 0 for Yudizor. -/
def State.mgmtChecked (s : State) (p : Port) : Bool :=
  match p with
  | .mgmt => s.chkServed 6
  | .yz => s.chkServed (vcFunc 0)
  | .hcp | .media | .jtag => true

/-- Whether a port takes requests: it is up, and their checks can pass. -/
def State.mgmtPort (s : State) (p : Port) : Bool := s.mgmtUp p && s.mgmtChecked p

/-- A request that no unit checks fails its check (R473): it is discarded and counted. -/
def State.mgmtLost (s : State) (p : Port) : State :=
  if !s.mgmtUp p ∨ s.mgmtChecked p then s
  else match p with
    | .mgmt => s.cnt SYS_MGMT_CNT_CRC_COUNT 1
    | .yz => s.cnt YZ_CNT_MSG_CHK_COUNT 1
    | .hcp | .media | .jtag => s

/-- A sender that begins a request: nothing run yet, an empty reply with the request's ALIVE and TAG. -/
def Sender.start (q : Req) (raw : Nat) : Sender :=
  { ident := q.sender, alive := q.alive, reply := ⟨q.sender, q.alive, q.tag, 0, []⟩, lastRaw := raw, next := some 0, waits := 0 }

/-- Whether a sender's request is still running. -/
def Sender.busy (x : Sender) : Bool := x.next.isSome || x.waits != 0

/-- The senders with a new one, which takes the place of the one heard least recently when there are 16 (R571). -/
def addSender (l : List Sender) (x : Sender) : List Sender :=
  if l.length < 16 then l ++ [x]
  else
    let oldest := l.foldl (fun m y => min m y.lastRaw) ((l.map (·.lastRaw)).headD 0)
    match l.find? (fun y => y.lastRaw == oldest) with
    | some y => l.erase y ++ [x]
    | none => l ++ [x]

/-- The first item of a request arrives: the sender that runs it, or none when it does not run (a repeat, or a sender whose
earlier request is not over), and the state. -/
def State.mgmtOpen (s : State) (q : Req) : State × Option Sender :=
  let n := Sender.start q s.raw
  if q.port = .yz then
    if s.ctl.yzSender.busy then (s, none) else (s.setSender .yz n, some n)
  else match s.senderOf .mgmt q.sender with
    | none => ({ s with ctl := { s.ctl with senders := addSender s.ctl.senders n } }, some n)
    | some x =>
      if x.alive = q.alive then
        let s := (s.cnt SYS_MGMT_CNT_REPEAT_COUNT 1).setSender .mgmt { x with lastRaw := s.raw }
        if x.busy then (s, none) else (s.send (.reply x.reply), none)
      else if x.busy then (s, none)
      else
        let s := if q.alive % 256 = (x.alive + 1) % 256 then s else s.cnt SYS_MGMT_CNT_SKIP_COUNT 1
        (s.setSender .mgmt n, some n)

/-- The sender for an item of a request. -/
def State.mgmtSender (s : State) (q : Req) : State × Option Sender :=
  if !s.mgmtPort q.port then (if q.item = 0 then s.mgmtLost q.port else s, none)
  else if q.item = 0 then s.mgmtOpen q
  else match s.senderOf q.port q.sender with
    | some x => if x.next = some q.item ∧ x.waits = 0 ∧ (q.port = .yz ∨ x.alive = q.alive) then (s, some x) else (s, none)
    | none => (s, none)

/-- The bytes of a reply that holds some items (R569). -/
def replyBytes (items : List (Nat × List W32)) : Nat := 20 + (items.map (fun i => 4 + 4 * i.2.length)).sum

/-- The STATUS with which an item is refused before it runs, 0 when it runs: VERSION, a reply too large, a group that this device does
not coordinate, the class of the operation, SAFE mode or BOOT. `open'` operations run in SAFE mode without MAINTAIN. -/
def State.mgmtRefused (s : State) (q : Req) (x : Sender) (cls words : Nat) (open' : Bool) : Nat :=
  if q.version ≠ 1 then 2
  else if (q.item = 0 ∧ q.bytes > 1472) ∨ replyBytes x.reply.items + 4 + 4 * words > 1472 then 12
  else if q.kind ≠ 0 ∧ !s.bit ⟨coordReg q.kind, 30, 1⟩ then (if s.yz.noQuo.contains q.kind then 13 else 9)
  else if s.level q.port < cls then 3
  else if (s.safe.mode ∨ s.fld PWR_MODE_CUR = 1) ∧ cls < 4 ∧ !open' then 10
  else 0

/-- Run an item: `typ` its operation, `cls` the class it needs, `words` the words of its reply value, `body` its effect with STATUS
and reply value. -/
def State.mgmtRun (s : State) (q : Req) (typ cls words : Nat) (open' : Bool) (body : State → State × Nat × List W32) : State :=
  match s.mgmtSender q with
  | (s, none) => s
  | (s, some x) =>
    match s.mgmtRefused q x cls words open' with
    | 0 =>
      let r := body s
      r.1.replyItem q.port x typ r.2.1 q.item r.2.2 q.last
    | st => s.replyItem q.port x typ st q.item [BitVec.ofNat 32 (s.fld ⟨coordReg q.kind, 0, 12⟩)] q.last

/-- Run an item whose reply comes later: 1 with the gravity check, 2 with the answers of a group. -/
def State.mgmtWait (s : State) (q : Req) (typ cls words waits : Nat) (body : State → State) : State :=
  match s.mgmtSender q with
  | (s, none) => s
  | (s, some x) =>
    match s.mgmtRefused q x cls words false with
    | 0 => body (s.setSender q.port { x with waits := waits, next := if q.last then none else some (q.item + 1) })
    | st => s.replyItem q.port x typ st q.item [BitVec.ofNat 32 (s.fld ⟨coordReg q.kind, 0, 12⟩)] q.last

/-! ### Registers and records -/

/-- Read `n` words from an address on: the words, all of one state, and STATUS of the first that fails. -/
def State.mgmtReadWords (p : Port) : Nat → Nat → State → State × Nat × List W32
  | 0, _, s => (s, 0, [])
  | n + 1, a, s =>
    let s := s.regRead p a
    if s.ctl.failed then (s, s.ctl.status, [])
    else
      let d := s.ctl.rdData
      let (s, st, ws) := State.mgmtReadWords p n (a + 4) s
      (s, st, d :: ws)

/-- MGMT_READ (R570): 1 to 256 words. -/
def execMgmtRead (q : Req) (a n : Nat) (s : State) : Host.Outcome State Fault Refusal :=
  .next (s.mgmtRun q 1 1 n true (fun s =>
    if n = 0 ∨ n > 256 then (s, 4, [])
    else
      let r := State.mgmtReadWords q.port n a s
      (r.1, r.2.1, if r.2.1 = 0 then r.2.2 else [])))

/-- Write words to consecutive addresses until one fails. -/
def State.mgmtWriteWords (p : Port) : List W32 → Nat → State → State × Nat × List W32
  | [], _, s => (s, 0, [])
  | w :: ws, a, s =>
    let s := s.regWrite p a w
    if s.ctl.failed then (s, s.ctl.status, []) else State.mgmtWriteWords p ws (a + 4) s

/-- The class that a WRITE needs: the highest that any of its words reaches (R575). -/
def State.wordsLevel (s : State) (p : Port) (a : Nat) : List W32 → Nat
  | [] => 1
  | w :: ws => max (match regRow a with | some r => s.writeLevel p a w r | none => 1) (s.wordsLevel p (a + 4) ws)

/-- MGMT_WRITE (R570): a write to an ST register stages it. -/
def execMgmtWrite (q : Req) (a : Nat) (ws : List W32) (s : State) : Host.Outcome State Fault Refusal :=
  .next (s.mgmtRun q 2 (s.wordsLevel q.port a ws) 0 false (fun s => State.mgmtWriteWords q.port ws a s))

/-- Whether a record of a type, index and length exists (R198, R250, R544). -/
def recordOk (typ i len : Nat) : Bool :=
  (decide (typ ≤ 4) && decide (i < recCount typ) && len == recWords typ) ||
  (typ == 8 && decide (i < 8192) && len == 32) || (typ == 9 && decide (i < 32768) && len == 4)

/-- MGMT_STAGE_RECORD (R570). -/
def execMgmtStageRecord (q : Req) (typ i : Nat) (ws : List W32) (s : State) : Host.Outcome State Fault Refusal :=
  .next (s.mgmtRun q 3 2 0 false (fun s =>
    let st := s.stageStatus q.port.owner true
    let have' := s.stage.records.any (fun r => r.typ == typ && r.index == i)
    if st ≠ 0 then (s, st, [])
    else if !recordOk typ i ws.length ∨ (s.stage.records.length ≥ 1024 ∧ !have') then (s, 4, [])
    else (s.stageRecPut q.port.owner ⟨typ, i, ws⟩, 0, [])))

/-! ### Changes -/

/-- MGMT_CHECK (R570, R411): the reply comes with the check's completion; a group's with the answers of its members. -/
def execMgmtCheck (q : Req) (s : State) : Host.Outcome State Fault Refusal :=
  .next (if q.kind = 0 then s.mgmtWait q 4 2 2 1 (fun s => s.checkStart)
    else s.mgmtWait q 4 2 2 2 (fun s => s.groupAsk q.kind q.tag false))

/-- The pitch of a group: named to every member, at least 2 ms ahead (R411). -/
def State.groupPitch (s : State) (ident when' ch : Nat) : State × Nat × List W32 :=
  match s.yz.group with
  | none => (s, 7, [])
  | some g =>
    if g.up ∨ g.wait ≠ [] ∨ !g.ok then (s, 7, [])
    else
      let want := max (s.pitchTime when' ch) (s.nowNs + 2000000)
      ((s.groupTell).pitchAt ident want true, 0, [0])

/-- MGMT_PITCH (R570, R573): as the CFG_PITCH registers. -/
def execMgmtPitch (q : Req) (ident : Nat) (when' : Fin 4) (ch : Fin 16) (sec ns : Nat) (s : State) :
    Host.Outcome State Fault Refusal :=
  .next (s.mgmtRun q 5 2 1 false (fun s =>
    let v : W32 := BitVec.ofNat 32 (1 + 2 * when' + 16 * ch)
    let s := ((s.wr CFG_PITCH_ID (BitVec.ofNat 32 ident)).putPair CFG_PITCH_TIME_S_LO CFG_PITCH_TIME_S_HI sec).wr
      CFG_PITCH_TIME_NS (BitVec.ofNat 32 (ns % 2 ^ 30))
    match s.pitchErr q.port.owner v with
    | 0 => if q.kind = 0 then (s.pitchCmd q.port.owner v, 0, [0]) else s.groupPitch ident when' ch
    | e => (s.pitchCmd q.port.owner v, if e = 1 then 6 else 7, [])))

/-- MGMT_DISCARD (R570, R551). -/
def execMgmtDiscard (q : Req) (s : State) : Host.Outcome State Fault Refusal :=
  .next (s.mgmtRun q 6 2 0 false (fun s =>
    if s.stage.owner ≠ 0 ∧ s.stage.owner ≠ q.port.owner ∧ s.level q.port < 4 then (s, 6, []) else (s.bankEmpty, 0, [])))

/-- The gravity check is over: the result and event 0x0402, the answer to a coordinator, the end of step 10, and the replies that
waited. -/
def State.checkDone (s : State) : State :=
  if !s.stage.checking then s
  else
    let s := s.gravityDone
    let pass := s.bit CFG_STAGE_STAT_CHECKED
    ((s.groupChecked pass).step10Done).replyWaiting 1 4 0 [s.rd CFG_CHECK_RES, s.rd CFG_CHECK_ADDR]

/-- GRAVITY_CHECK_DONE (R552). -/
def execGravityCheckDone (s : State) : Host.Outcome State Fault Refusal := .next s.checkDone

/-! ### Status, log, flash -/

/-- MGMT_STATUS (R570, R410). -/
def execMgmtStatus (q : Req) (s : State) : Host.Outcome State Fault Refusal :=
  .next (s.mgmtRun q 7 1 (if q.kind = 0 then 5 else 10) true (fun s =>
    let own := [BitVec.ofNat 32 (s.fld PWR_MODE_CUR), s.view RDN_STAT, s.view CFG_BOOT_STAT, s.view CFG_PITCH_LAST,
      BitVec.ofNat 32 s.stage.pitches.length]
    let l := q.kind - 1
    let grp := if q.kind = 0 then [] else
      [s.rd (YZ_CAP_TUN l), s.rd (YZ_CAP_DEC l), s.rd (YZ_CAP_CMP l), s.rd (YZ_CAP_LEGS l),
        BitVec.ofNat 32 (s.fld (membersHeard q.kind))]
    (s, 0, own ++ grp)))

/-- The fault log record with a SEQ, where the ring still holds it. -/
def State.logOf (s : State) (q : Nat) : Option FaultRec :=
  let r := tget (fun _ => FaultRec.zero) s.cask.log (q % 8192)
  if r.seq = q ∧ r ≠ FaultRec.zero then some r else none

/-- MGMT_LOG (R570): 1 to 20 records from a SEQ on, those that the log holds. -/
def execMgmtLog (q : Req) (first n : Nat) (s : State) : Host.Outcome State Fault Refusal :=
  .next (s.mgmtRun q 9 1 (16 * n) true (fun s =>
    if n = 0 ∨ n > 20 then (s, 4, [])
    else (s, 0, (((List.range n).map (· + first)).filterMap s.logOf).flatMap FaultRec.words)))

/-- The first flash byte of the slot that was not booted (R540, R543). -/
def State.flashBase (s : State) : Nat := if s.boot.noImage then 0 else (1 - s.fld CFG_BOOT_STAT_SLOT) * 0x10000000

/-- Store bytes in flash. -/
def State.flashPut (s : State) (a : Nat) (bs : List Byte) : State :=
  { s with ctl := { s.ctl with flash :=
    (bs.foldl (fun (x : Tab Byte × Nat) b => (tset (fun _ => 0xFF) x.1 x.2 b, x.2 + 1)) (s.ctl.flash, a)).1 } }

/-- MGMT_FLASH (R570): 0 erases the slot, 1 writes and 2 verifies bytes at an offset; the result is free where the manual gives no
code, and tells a pass of a verification from a failure. -/
def execMgmtFlash (q : Req) (op : Fin 3) (ofs : Nat) (bytes : List Byte) (s : State) : Host.Outcome State Fault Refusal :=
  .next (s.mgmtRun q 11 4 1 false (fun s =>
    let a := s.flashBase + ofs
    if op.val = 0 then
      ({ s with ctl := { s.ctl with flash := s.ctl.flash.filter (fun e => e.1 / 0x10000000 != s.flashBase / 0x10000000) } }, 0,
        [Config.flashResult true])
    else if ofs + bytes.length > 0x10000000 then (s, 4, [])
    else if op.val = 1 then (s.flashPut a bytes, 0, [Config.flashResult true])
    else
      let same := (List.range bytes.length).all (fun i => tget (fun _ => 0xFF) s.ctl.flash (a + i) == bytes.getD i 0)
      (s, 0, [Config.flashResult same])))

/-- MGMT_SAFE (R570, R460). -/
def execMgmtSafe (q : Req) (s : State) : Host.Outcome State Fault Refusal :=
  .next (s.mgmtRun q 12 4 0 false (fun s => (s.safeCmd 1, 0, [])))

/-- MGMT_WARM_RESET (R570): the reply leaves before the reset. -/
def execMgmtWarmReset (q : Req) (s : State) : Host.Outcome State Fault Refusal :=
  .next (match s.mgmtSender q with
    | (s, none) => s
    | (s, some x) =>
      match s.mgmtRefused q x 4 0 false with
      | 0 => (s.replyItem q.port x 13 0 q.item [] true).warmReset false
      | st => s.replyItem q.port x 13 st q.item [BitVec.ofNat 32 (s.fld ⟨coordReg q.kind, 0, 12⟩)] q.last)

/-! ### Windows (R565, R570) -/

/-- The CMD and DATA addresses, the ADDR address and the STAT address of a window. -/
def MgWin.cmd : MgWin → Nat
  | .brg => BRG_WIN_CMD | .aud => AUD_WIN_CMD | .dsp => DSP_WIN_CMD | .cask => SYS_CASK_CMD | .punt => FWD_PUNT_CMD
def MgWin.data : MgWin → Nat
  | .brg => BRG_WIN_DATA 0 | .aud => AUD_WIN_DATA 0 | .dsp => DSP_WIN_DATA 0 | .cask => SYS_CASK_DATA 0 | .punt => FWD_PUNT_DATA 0
def MgWin.addr : MgWin → Option Nat
  | .dsp => some DSP_WIN_ADDR | .cask => some SYS_CASK_ADDR | .brg | .aud | .punt => none
def MgWin.stat : MgWin → Nat
  | .brg => BRG_WIN_STAT | .aud => AUD_WIN_STAT | .dsp => DSP_WIN_STAT | .cask => SYS_CASK_STAT | .punt => FWD_PUNT_STAT

/-- The words that a fetch of a window returns: all its words, or the packet that a punt fetch gives. -/
def State.winFetchWords (s : State) (w : MgWin) : Nat :=
  match w with
  | .brg => 128 | .aud => 32 | .dsp => 64 | .cask => 64
  | .punt => match s.brg.punt with | x :: _ => 1 + ceilDiv x.len 4 | [] => 1

/-- A write of a window's CMD register whose fetch may find an uncorrectable word or record. -/
def State.winCmd (s : State) (p : Port) (w : MgWin) (v : W32) (bad : Bool) : State :=
  match w with
  | .brg => s.brgWinWrite p v bad
  | .aud => s.audWinWrite p v bad
  | .dsp => s.portWrite p DSP_WIN_CMD v (fun s => s.dspWin v bad)
  | .cask => s.portWrite p SYS_CASK_CMD v (fun s => s.caskCmd v bad)
  | .punt => s.portWrite p FWD_PUNT_CMD v (fun s => s.puntCmd v)

/-- MGMT_WINDOW (R570): the whole sequence of R565. The data words and the address are written, then the command, and STAT is returned
with the fetched words. -/
def execMgmtWindow (q : Req) (w : MgWin) (v : W32) (addr : W32) (data : List W32) (bad : Bool) (s : State) :
    Host.Outcome State Fault Refusal :=
  let fetch := fieldGet v 28 4 == 1
  let n := if fetch then s.winFetchWords w else 0
  .next (s.mgmtRun q 10 (fieldLevel w.cmd 0 v) (1 + n) false (fun s =>
    let (s, st, _) := State.mgmtWriteWords q.port data w.data s
    if st ≠ 0 then (s, st, [])
    else
      let s := match w.addr with | some a => s.regWrite q.port a addr | none => s
      if w.addr.isSome ∧ s.ctl.failed then (s, s.ctl.status, [])
      else
        let s := s.winCmd q.port w v bad
        if s.ctl.failed then (s, s.ctl.status, [])
        else (s, 0, s.view w.stat :: s.winGet w.data n)))

/-! ### Subscriptions (R577) -/

/-- The subscriber's place. -/
def State.sub (s : State) (i : Nat) : Subscriber := tget (fun _ => Subscriber.zero) s.ctl.subs i
def State.setSub (s : State) (i : Nat) (u : Subscriber) : State :=
  { s with ctl := { s.ctl with subs := tset (fun _ => Subscriber.zero) s.ctl.subs i u } }

/-- The place that a new subscriber takes: a free one, else that of the one that subscribed least recently. -/
def State.subPlace (s : State) : Nat :=
  match (List.range 8).find? (fun i => !(s.sub i).used) with
  | some i => i
  | none =>
    let oldest := (List.range 8).foldl (fun m i => min m (s.sub i).lastRaw) (s.sub 0).lastRaw
    ((List.range 8).find? (fun i => (s.sub i).lastRaw == oldest)).getD 0

/-- MGMT_SUBSCRIBE (R577): enrol, renew with a mask, or end a subscription. -/
def execMgmtSubscribe (q : Req) (enable : Bool) (mask : Nat) (s : State) : Host.Outcome State Fault Refusal :=
  .next (s.mgmtRun q 8 1 1 false (fun s =>
    match (List.range 8).find? (fun i => (s.sub i).used && (s.sub i).sender == q.sender) with
    | some i =>
      let u := if enable then { s.sub i with mask := mask, lastRaw := s.raw } else Subscriber.zero
      (s.setSub i u, 0, [BitVec.ofNat 32 i])
    | none =>
      if enable then
        let i := s.subPlace
        let s := if (s.sub i).used then s.emit 0x0502 0 (evArg [(0, 1, i), (1, 1, 2)]) else s
        let s := s.setSub i { Subscriber.zero with used := true, sender := q.sender, mask := mask, lastRaw := s.raw }
        (s.emit 0x0502 0 (evArg [(0, 1, i)]), 0, [BitVec.ofNat 32 i])
      else (s, 0, [])))

/-- SUBSCRIPTION_LAPSE (R577): 10 s after its last SUBSCRIBE. -/
def execSubscriptionLapse (i : Fin 8) (s : State) : Host.Outcome State Fault Refusal :=
  .next (let u := s.sub i
    if u.used ∧ s.raw - u.lastRaw ≥ 10 * secU then
      (s.setSub i Subscriber.zero).emit 0x0502 0 (evArg [(0, 1, i), (1, 1, 1)])
    else s)

/-- EVENT_STREAM_SEND (R577): a datagram leaves when it is full or 1 ms after its first record was queued. -/
def execEventStreamSend (i : Fin 8) (s : State) : Host.Outcome State Fault Refusal :=
  .next (let u := s.sub i
    match u.queue with
    | [] => s
    | (r, _) :: _ =>
      if u.queue.length < 44 ∧ s.raw - r < msU then s
      else
        let out := (u.queue.take 44).map (·.2)
        (s.setSub i { u with queue := u.queue.drop 44, tag := u.tag + 1, dropped := 0 }).send (.stream i u.tag out u.dropped))

/-! ### Frames that are no command (R568, R571) -/

/-- MGMT_CRC_FAIL (R571). -/
def execMgmtCrcFail (s : State) : Host.Outcome State Fault Refusal :=
  .next (if s.mgmtUp .mgmt then s.cnt SYS_MGMT_CNT_CRC_COUNT 1 else s)

/-- MGMT_ARP_ND_ECHO (R568). -/
def execMgmtArpNdEcho (sender : Nat) (s : State) : Host.Outcome State Fault Refusal :=
  .next (if s.mgmtUp .mgmt then s.send (.arpEcho sender) else s)

end Sys2Proof.Machine
end

