-- ==== Sys2Proof/Machine/Imports.lean ====
section
/-! DEFINITION. The families of meanings, gathered for the dispatch. -/
end

