-- ==== Sys2Proof/Machine/Dispatch.lean ====
section
/-! DEFINITION. One arm per command: each calls its meaning. -/

namespace Sys2Proof.Machine

/-- The effect of a command on everything but the queue. -/
def exec (i : Instr) (s : State) : Host.Outcome State Fault Refusal :=
  match i with
  | .videoPacketRx n path ext cap data => Sys2Proof.Machine.execVideoPacketRx n path ext cap data s
  | .chPathSilent n path => Sys2Proof.Machine.execChPathSilent n path s
  | .rowComplete n k r => Sys2Proof.Machine.execRowComplete n k r s
  | .rowStartDeadline n k r => Sys2Proof.Machine.execRowStartDeadline n k r s
  | .classificationCut n k r => Sys2Proof.Machine.execClassificationCut n k r s
  | .pictureEncodeStart n k => Sys2Proof.Machine.execPictureEncodeStart n k s
  | .triggerFire n mix => Sys2Proof.Machine.execTriggerFire n mix s
  | .egressPacketSend n k rend bytes last crcOk => Sys2Proof.Machine.execEgressPacketSend n k rend bytes last crcOk s
  | .bcAudioRelease n first => Sys2Proof.Machine.execBcAudioRelease n first s
  | .chHintWrite p n v => Sys2Proof.Machine.execChHintWrite p n v s
  | .unitStart n k rend u poison => Sys2Proof.Machine.execUnitStart n k rend u poison s
  | .unitEncodeDone n k rend u ovh blocks samples => Sys2Proof.Machine.execUnitEncodeDone n k rend u ovh blocks samples s
  | .tunFenceCmd p t v => Sys2Proof.Machine.execTunFenceCmd p t v s
  | .tunUnfenceCmd p t v => Sys2Proof.Machine.execTunUnfenceCmd p t v s
  | .tunSelftestDone t failAt => Sys2Proof.Machine.execTunSelftestDone t failAt s
  | .millGroupDownscale n k g l0 l1 l2 l3 => Sys2Proof.Machine.execMillGroupDownscale n k g l0 l1 l2 l3 s
  | .millRowSearch n k r => Sys2Proof.Machine.execMillRowSearch n k r s
  | .windowStripLoad t corrected uncorrectable poison => Sys2Proof.Machine.execWindowStripLoad t corrected uncorrectable poison s
  | .prefillDone t => Sys2Proof.Machine.execPrefillDone t s
  | .checkUnitDecoded what recon => Sys2Proof.Machine.execCheckUnitDecoded what recon s
  | .chkDecTestSlot d pass => Sys2Proof.Machine.execChkDecTestSlot d pass s
  | .chkDecFenceCmd p d v => Sys2Proof.Machine.execChkDecFenceCmd p d v s
  | .chkDecUnfenceCmd p d v => Sys2Proof.Machine.execChkDecUnfenceCmd p d v s
  | .rtpPacketRx p => Sys2Proof.Machine.execRtpPacketRx p s
  | .contextFetchDone f crcOk => Sys2Proof.Machine.execContextFetchDone f crcOk s
  | .contextWriteback f => Sys2Proof.Machine.execContextWriteback f s
  | .rtcpSrRrRx f lsr dlsr => Sys2Proof.Machine.execRtcpSrRrRx f lsr dlsr s
  | .rtcpNackRx f seqs bad => Sys2Proof.Machine.execRtcpNackRx f seqs bad s
  | .rtcpPliFirRx f fir => Sys2Proof.Machine.execRtcpPliFirRx f fir s
  | .rtcpFeedbackRx f bits lost seen delaySum delayCnt => Sys2Proof.Machine.execRtcpFeedbackRx f bits lost seen delaySum delayCnt s
  | .rtcpByeRx f ssrc len words => Sys2Proof.Machine.execRtcpByeRx f ssrc len words s
  | .rtcpReportSend f => Sys2Proof.Machine.execRtcpReportSend f s
  | .feedbackReportSend f => Sys2Proof.Machine.execFeedbackReportSend f s
  | .rxNackSend f => Sys2Proof.Machine.execRxNackSend f s
  | .bweStep l => Sys2Proof.Machine.execBweStep l s
  | .outputTargetUpdate o => Sys2Proof.Machine.execOutputTargetUpdate o s
  | .layerRateUpdate f => Sys2Proof.Machine.execLayerRateUpdate f s
  | .pacedCopySend l => Sys2Proof.Machine.execPacedCopySend l s
  | .pacerDrop l => Sys2Proof.Machine.execPacerDrop l s
  | .upswitchPliTimeout f => Sys2Proof.Machine.execUpswitchPliTimeout f s
  | .keyframeHoldEnd f => Sys2Proof.Machine.execKeyframeHoldEnd f s
  | .fwdUsageUpdate x => Sys2Proof.Machine.execFwdUsageUpdate x s
  | .puntFetch p => Sys2Proof.Machine.execPuntFetch p s
  | .puntSend p f => Sys2Proof.Machine.execPuntSend p f s
  | .brgWinFetch p ty idx bad => Sys2Proof.Machine.execBrgWinFetch p ty idx bad s
  | .brgWinStage p ty idx => Sys2Proof.Machine.execBrgWinStage p ty idx s
  | .brgWinDiscard p ty idx => Sys2Proof.Machine.execBrgWinDiscard p ty idx s
  | .admissionRequestRx x leg fwd dec mix => Sys2Proof.Machine.execAdmissionRequestRx x leg fwd dec mix s
  | .admissionGrantRx x leg grant => Sys2Proof.Machine.execAdmissionGrantRx x leg grant s
  | .decodePictureStart d recOk => Sys2Proof.Machine.execDecodePictureStart d recOk s
  | .decodeBudgetCut d r => Sys2Proof.Machine.execDecodeBudgetCut d r s
  | .decodePictureDone d r => Sys2Proof.Machine.execDecodePictureDone d r s
  | .keyframeReqRepeat c => Sys2Proof.Machine.execKeyframeReqRepeat c s
  | .decCoreTestSlot d pass => Sys2Proof.Machine.execDecCoreTestSlot d pass s
  | .decCoreFenceCmd p d v => Sys2Proof.Machine.execDecCoreFenceCmd p d v s
  | .decCoreUnfenceCmd p d v => Sys2Proof.Machine.execDecCoreUnfenceCmd p d v s
  | .decCoreUnfenceDone d pass => Sys2Proof.Machine.execDecCoreUnfenceDone d pass s
  | .stripComposed key sums poison => Sys2Proof.Machine.execStripComposed key sums poison s
  | .mergeRapWaitExpire p => Sys2Proof.Machine.execMergeRapWaitExpire p s
  | .cmpTestSlot p pass => Sys2Proof.Machine.execCmpTestSlot p pass s
  | .cmpPipeFenceCmd p q v => Sys2Proof.Machine.execCmpPipeFenceCmd p q v s
  | .cmpPipeUnfenceCmd p q v => Sys2Proof.Machine.execCmpPipeUnfenceCmd p q v s
  | .candidateSetRx x member cands => Sys2Proof.Machine.execCandidateSetRx x member cands s
  | .audWinFetch p ty idx bad => Sys2Proof.Machine.execAudWinFetch p ty idx bad s
  | .audWinStage p ty idx => Sys2Proof.Machine.execAudWinStage p ty idx s
  | .audWinDiscard p ty idx => Sys2Proof.Machine.execAudWinDiscard p ty idx s
  | .loudnessUpdate n m sh int tp => Sys2Proof.Machine.execLoudnessUpdate n m sh int tp s
  | .lockstepMismatch c memErr => Sys2Proof.Machine.execLockstepMismatch c memErr s
  | .kettleTestSlot c pass => Sys2Proof.Machine.execKettleTestSlot c pass s
  | .kettleFenceCmd p c v => Sys2Proof.Machine.execKettleFenceCmd p c v s
  | .kettleUnfenceCmd p c v => Sys2Proof.Machine.execKettleUnfenceCmd p c v s
  | .kettleHaltCmd p c v => Sys2Proof.Machine.execKettleHaltCmd p c v s
  | .kettleReleaseCmd p c v => Sys2Proof.Machine.execKettleReleaseCmd p c v s
  | .mboxWrite p c v => Sys2Proof.Machine.execMboxWrite p c v s
  | .interruptAccept c => Sys2Proof.Machine.execInterruptAccept c s
  | .kettleTimerExpire c => Sys2Proof.Machine.execKettleTimerExpire c s
  | .dmaDescriptorDone c n bad => Sys2Proof.Machine.execDmaDescriptorDone c n bad s
  | .restWaitEnd c => Sys2Proof.Machine.execRestWaitEnd c s
  | .dspWinFetch p sp k c bad => Sys2Proof.Machine.execDspWinFetch p sp k c bad s
  | .dspWinWrite p sp k c => Sys2Proof.Machine.execDspWinWrite p sp k c s
  | .nop c => Sys2Proof.Machine.execNop c s
  | .bra c => Sys2Proof.Machine.execBra c s
  | .call c => Sys2Proof.Machine.execCall c s
  | .jmp c => Sys2Proof.Machine.execJmp c s
  | .rti c => Sys2Proof.Machine.execRti c s
  | .wait c => Sys2Proof.Machine.execWait c s
  | .add c => Sys2Proof.Machine.execAdd c s
  | .sub c => Sys2Proof.Machine.execSub c s
  | .neg c => Sys2Proof.Machine.execNeg c s
  | .abs c => Sys2Proof.Machine.execAbs c s
  | .mul c => Sys2Proof.Machine.execMul c s
  | .and c => Sys2Proof.Machine.execAnd c s
  | .or c => Sys2Proof.Machine.execOr c s
  | .xor c => Sys2Proof.Machine.execXor c s
  | .shl c => Sys2Proof.Machine.execShl c s
  | .shr c => Sys2Proof.Machine.execShr c s
  | .asr c => Sys2Proof.Machine.execAsr c s
  | .min c => Sys2Proof.Machine.execMin c s
  | .max c => Sys2Proof.Machine.execMax c s
  | .cmp c => Sys2Proof.Machine.execCmp c s
  | .tst c => Sys2Proof.Machine.execTst c s
  | .clz c => Sys2Proof.Machine.execClz c s
  | .csel c => Sys2Proof.Machine.execCsel c s
  | .fadd c => Sys2Proof.Machine.execFadd c s
  | .fsub c => Sys2Proof.Machine.execFsub c s
  | .fmul c => Sys2Proof.Machine.execFmul c s
  | .fneg c => Sys2Proof.Machine.execFneg c s
  | .fabs c => Sys2Proof.Machine.execFabs c s
  | .fmin c => Sys2Proof.Machine.execFmin c s
  | .fmax c => Sys2Proof.Machine.execFmax c s
  | .fcmp c => Sys2Proof.Machine.execFcmp c s
  | .i2f c => Sys2Proof.Machine.execI2f c s
  | .f2i c => Sys2Proof.Machine.execF2i c s
  | .fscl c => Sys2Proof.Machine.execFscl c s
  | .frcp c => Sys2Proof.Machine.execFrcp c s
  | .frsq c => Sys2Proof.Machine.execFrsq c s
  | .fmac c => Sys2Proof.Machine.execFmac c s
  | .fmacM c => Sys2Proof.Machine.execFmacM c s
  | .ld c => Sys2Proof.Machine.execLd c s
  | .st c => Sys2Proof.Machine.execSt c s
  | .move c => Sys2Proof.Machine.execMove c s
  | .movei c => Sys2Proof.Machine.execMovei c s
  | .moveu c => Sys2Proof.Machine.execMoveu c s
  | .movel c => Sys2Proof.Machine.execMovel c s
  | .rep c => Sys2Proof.Machine.execRep c s
  | .repD c => Sys2Proof.Machine.execRepD c s
  | .loop c => Sys2Proof.Machine.execLoop c s
  | .maxi c => Sys2Proof.Machine.execMaxi c s
  | .mini c => Sys2Proof.Machine.execMini c s
  | .parallelForm c => Sys2Proof.Machine.execParallelForm c s
  | .aptFrameSync p good bits => Sys2Proof.Machine.execAptFrameSync p good bits s
  | .aptRxFrameDone p samples parity sync => Sys2Proof.Machine.execAptRxFrameDone p samples parity sync s
  | .zcTimeout p k => Sys2Proof.Machine.execZcTimeout p k s
  | .aesCsBlockRx p frames a b crcOk => Sys2Proof.Machine.execAesCsBlockRx p frames a b crcOk s
  | .aesOutputLocked p => Sys2Proof.Machine.execAesOutputLocked p s
  | .triggerArm p n v => Sys2Proof.Machine.execTriggerArm p n v s
  | .ptpSyncRx mac domain clock seq twoStep t1 corr => Sys2Proof.Machine.execPtpSyncRx mac domain clock seq twoStep t1 corr s
  | .ptpFollowUpRx mac domain clock seq t1 corr => Sys2Proof.Machine.execPtpFollowUpRx mac domain clock seq t1 corr s
  | .ptpDelayRespRx mac domain clock seq t4 corr intervalNs => Sys2Proof.Machine.execPtpDelayRespRx mac domain clock seq t4 corr intervalNs s
  | .delayReqSend seq => Sys2Proof.Machine.execDelayReqSend seq s
  | .ptpAnnounceRx mac domain clock key intervalNs utc => Sys2Proof.Machine.execPtpAnnounceRx mac domain clock key intervalNs utc s
  | .masterLost => Sys2Proof.Machine.execMasterLost s
  | .acqTimeout => Sys2Proof.Machine.execAcqTimeout s
  | .captureEvent n src pin lane rising => Sys2Proof.Machine.execCaptureEvent n src pin lane rising s
  | .captureRead p n => Sys2Proof.Machine.execCaptureRead p n s
  | .timeLatchRead p => Sys2Proof.Machine.execTimeLatchRead p s
  | .yzStampExchange port t1 t2 t3 t4 => Sys2Proof.Machine.execYzStampExchange port t1 t2 t3 t4 s
  | .yzTimeMeasure upEpoch => Sys2Proof.Machine.execYzTimeMeasure upEpoch s
  | .upstreamStepRx epoch step => Sys2Proof.Machine.execUpstreamStepRx epoch step s
  | .quadPllLocked q => Sys2Proof.Machine.execQuadPllLocked q s
  | .autoNegotiationDone m ok => Sys2Proof.Machine.execAutoNegotiationDone m ok s
  | .cdrLocked l => Sys2Proof.Machine.execCdrLocked l s
  | .alignmentLocked k delays rxDly => Sys2Proof.Machine.execAlignmentLocked k delays rxDly s
  | .laneTrainingDone l ok fom => Sys2Proof.Machine.execLaneTrainingDone l ok fom s
  | .linkUp m txDly => Sys2Proof.Machine.execLinkUp m txDly s
  | .bringupRetry k => Sys2Proof.Machine.execBringupRetry k s
  | .laneStepTimeout => Sys2Proof.Machine.execLaneStepTimeout s
  | .linkDown m cause => Sys2Proof.Machine.execLinkDown m cause s
  | .fomWindowEnd l num den next => Sys2Proof.Machine.execFomWindowEnd l num den next s
  | .eyeScanRun p l v => Sys2Proof.Machine.execEyeScanRun p l v s
  | .eyeScanDone l errors => Sys2Proof.Machine.execEyeScanDone l errors s
  | .flitRx p bytes => Sys2Proof.Machine.execFlitRx p bytes s
  | .nakHoldoffExpire p => Sys2Proof.Machine.execNakHoldoffExpire p s
  | .ackTimeout p => Sys2Proof.Machine.execAckTimeout p s
  | .creditReturn p vc => Sys2Proof.Machine.execCreditReturn p vc s
  | .capabilitySend p => Sys2Proof.Machine.execCapabilitySend p s
  | .capabilityRx p bytes => Sys2Proof.Machine.execCapabilityRx p bytes s
  | .capabilityRetry p => Sys2Proof.Machine.execCapabilityRetry p s
  | .retrainDone p ok ack => Sys2Proof.Machine.execRetrainDone p ok ack s
  | .bundleDown p => Sys2Proof.Machine.execBundleDown p s
  | .yzMessageRx p vc mirror => Sys2Proof.Machine.execYzMessageRx p vc mirror s
  | .yzUdpRx mac udpPort ip seq ack vc bytes => Sys2Proof.Machine.execYzUdpRx mac udpPort ip seq ack vc bytes s
  | .yzUdpResend idx vc => Sys2Proof.Machine.execYzUdpResend idx vc s
  | .heartbeatSend => Sys2Proof.Machine.execHeartbeatSend s
  | .heartbeatRx src healthy view lvl => Sys2Proof.Machine.execHeartbeatRx src healthy view lvl s
  | .memberDead src lvl => Sys2Proof.Machine.execMemberDead src lvl s
  | .capacityRefresh r1 r2 r3 => Sys2Proof.Machine.execCapacityRefresh r1 r2 r3 s
  | .groupStageCheck lvl ident writes recs => Sys2Proof.Machine.execGroupStageCheck lvl ident writes recs s
  | .groupCommit ident pid atNs => Sys2Proof.Machine.execGroupCommit ident pid atNs s
  | .groupCommitTimeout => Sys2Proof.Machine.execGroupCommitTimeout s
  | .groupAnswerTimeout => Sys2Proof.Machine.execGroupAnswerTimeout s
  | .rackRecordRx r crcOk snap => Sys2Proof.Machine.execRackRecordRx r crcOk snap s
  | .rackResendReqRx q poison => Sys2Proof.Machine.execRackResendReqRx q poison s
  | .rackAckRx q => Sys2Proof.Machine.execRackAckRx q s
  | .rackHeartbeatSend => Sys2Proof.Machine.execRackHeartbeatSend s
  | .lastSentRack => Sys2Proof.Machine.execLastSentRack s
  | .degradedEnter => Sys2Proof.Machine.execDegradedEnter s
  | .resyncCmd p => Sys2Proof.Machine.execResyncCmd p s
  | .peerSilent => Sys2Proof.Machine.execPeerSilent s
  | .leaseRequestRx sound pair who shadow lseq gyle durUs => Sys2Proof.Machine.execLeaseRequestRx sound pair who shadow lseq gyle durUs s
  | .arbiterLeaseEnd pair shadow => Sys2Proof.Machine.execArbiterLeaseEnd pair shadow s
  | .leaseGrantRx sound holder shadow lseq gyle durUs => Sys2Proof.Machine.execLeaseGrantRx sound holder shadow lseq gyle durUs s
  | .leaseDenyRx sound holder lseq gyle => Sys2Proof.Machine.execLeaseDenyRx sound holder lseq gyle s
  | .leaseReleaseRx sound pair shadow req => Sys2Proof.Machine.execLeaseReleaseRx sound pair shadow req s
  | .leaseRevokeRx sound gyle => Sys2Proof.Machine.execLeaseRevokeRx sound gyle s
  | .leaseRenew => Sys2Proof.Machine.execLeaseRenew s
  | .leaseExpire => Sys2Proof.Machine.execLeaseExpire s
  | .swapCmd p => Sys2Proof.Machine.execSwapCmd p s
  | .swapDaysTick => Sys2Proof.Machine.execSwapDaysTick s
  | .hgGrant p durMs lseq => Sys2Proof.Machine.execHgGrant p durMs lseq s
  | .hgDeny p lseq => Sys2Proof.Machine.execHgDeny p lseq s
  | .hgRevoke p lseq => Sys2Proof.Machine.execHgRevoke p lseq s
  | .sramUncorrectable o => Sys2Proof.Machine.execSramUncorrectable o s
  | .fabricParityError link plane again own => Sys2Proof.Machine.execFabricParityError link plane again own s
  | .controlParityError p a update write => Sys2Proof.Machine.execControlParityError p a update write s
  | .mgmtLockstepMismatch pair => Sys2Proof.Machine.execMgmtLockstepMismatch pair s
  | .faultLogHourly => Sys2Proof.Machine.execFaultLogHourly s
  | .fwdTestSlot pass => Sys2Proof.Machine.execFwdTestSlot pass s
  | .imageCopyError dram => Sys2Proof.Machine.execImageCopyError dram s
  | .safeCommand p v => Sys2Proof.Machine.execSafeCommand p v s
  | .chkFeedB p u v => Sys2Proof.Machine.execChkFeedB p u v s
  | .chkFeedH p u v => Sys2Proof.Machine.execChkFeedH p u v s
  | .chkFeedW p u v => Sys2Proof.Machine.execChkFeedW p u v s
  | .chkStart p u v => Sys2Proof.Machine.execChkStart p u v s
  | .chkValueWrite p u v => Sys2Proof.Machine.execChkValueWrite p u v s
  | .chkCfgWrite p u v => Sys2Proof.Machine.execChkCfgWrite p u v s
  | .chkAliveWrite p u v => Sys2Proof.Machine.execChkAliveWrite p u v s
  | .chkAliveRst p u v => Sys2Proof.Machine.execChkAliveRst p u v s
  | .chkUnitTestSlot u result memErr => Sys2Proof.Machine.execChkUnitTestSlot u result memErr s
  | .dramRead req addr len => Sys2Proof.Machine.execDramRead req addr len s
  | .dramReadReturn c num ce ue => Sys2Proof.Machine.execDramReadReturn c num ce ue s
  | .dramWrite req burst ofs bytes ue => Sys2Proof.Machine.execDramWrite req burst ofs bytes ue s
  | .writeAgeExpire c => Sys2Proof.Machine.execWriteAgeExpire c s
  | .refreshDue c r => Sys2Proof.Machine.execRefreshDue c r s
  | .rankPowerDown c r => Sys2Proof.Machine.execRankPowerDown c r s
  | .zeroFillDone c seg => Sys2Proof.Machine.execZeroFillDone c seg s
  | .scrubRead c ce ue => Sys2Proof.Machine.execScrubRead c ce ue s
  | .dramTrainingDone c pass words => Sys2Proof.Machine.execDramTrainingDone c pass words s
  | .trPatternWrite p c rank count => Sys2Proof.Machine.execTrPatternWrite p c rank count s
  | .trReadCompare p c rank count errors => Sys2Proof.Machine.execTrReadCompare p c rank count errors s
  | .trSweep p c rank count edges => Sys2Proof.Machine.execTrSweep p c rank count edges s
  | .trApplyCentres p c => Sys2Proof.Machine.execTrApplyCentres p c s
  | .trSave p c v => Sys2Proof.Machine.execTrSave p c v s
  | .xlate p v => Sys2Proof.Machine.execXlate p v s
  | .clkStopDetect m => Sys2Proof.Machine.execClkStopDetect m s
  | .clkWindowEnd m hz dev unlock => Sys2Proof.Machine.execClkWindowEnd m hz dev unlock s
  | .pllLocked p => Sys2Proof.Machine.execPllLocked p s
  | .muxSwitch k => Sys2Proof.Machine.execMuxSwitch k s
  | .muxForcedSwitch k => Sys2Proof.Machine.execMuxForcedSwitch k s
  | .trimMeasure meas => Sys2Proof.Machine.execTrimMeasure meas s
  | .gatePortIdle n => Sys2Proof.Machine.execGatePortIdle n s
  | .gateDrainTimeout n outstanding => Sys2Proof.Machine.execGateDrainTimeout n outstanding s
  | .domainPowerOn d => Sys2Proof.Machine.execDomainPowerOn d s
  | .domainPowerOff d outstanding => Sys2Proof.Machine.execDomainPowerOff d outstanding s
  | .wakePin => Sys2Proof.Machine.execWakePin s
  | .modeTransitionDone => Sys2Proof.Machine.execModeTransitionDone s
  | .avsTransactionDone ack => Sys2Proof.Machine.execAvsTransactionDone ack s
  | .kilnRound temps mons mults => Sys2Proof.Machine.execKilnRound temps mons mults s
  | .hotCritDetect idx => Sys2Proof.Machine.execHotCritDetect idx s
  | .sensorRejoinCmd p idx v => Sys2Proof.Machine.execSensorRejoinCmd p idx v s
  | .coldReset => Sys2Proof.Machine.execColdReset s
  | .warmResetPin => Sys2Proof.Machine.execWarmResetPin s
  | .warmResetCmd p => Sys2Proof.Machine.execWarmResetCmd p s
  | .brownout => Sys2Proof.Machine.execBrownout s
  | .bootCaskOpened bad => Sys2Proof.Machine.execBootCaskOpened bad s
  | .imageReadDone a b => Sys2Proof.Machine.execImageReadDone a b s
  | .roleListenEnd => Sys2Proof.Machine.execRoleListenEnd s
  | .stageWrite p a v => Sys2Proof.Machine.execStageWrite p a v s
  | .gravityCheck p => Sys2Proof.Machine.execGravityCheck p s
  | .gravityCheckDone => Sys2Proof.Machine.execGravityCheckDone s
  | .stageDiscard p => Sys2Proof.Machine.execStageDiscard p s
  | .pitchCommand p v => Sys2Proof.Machine.execPitchCommand p v s
  | .pitchInstant => Sys2Proof.Machine.execPitchInstant s
  | .pitchBoundaryApply part gone => Sys2Proof.Machine.execPitchBoundaryApply part gone s
  | .registerWrite p a v => Sys2Proof.Machine.execRegisterWrite p a v s
  | .rcRead p a => Sys2Proof.Machine.execRcRead p a s
  | .snapFreeze p => Sys2Proof.Machine.execSnapFreeze p s
  | .snapRelease p => Sys2Proof.Machine.execSnapRelease p s
  | .snapExpire => Sys2Proof.Machine.execSnapExpire s
  | .mgmtRead q a n => Sys2Proof.Machine.execMgmtRead q a n s
  | .mgmtWrite q a ws => Sys2Proof.Machine.execMgmtWrite q a ws s
  | .mgmtStageRecord q typ idx ws => Sys2Proof.Machine.execMgmtStageRecord q typ idx ws s
  | .mgmtCheck q => Sys2Proof.Machine.execMgmtCheck q s
  | .mgmtPitch q ident when' ch sec ns => Sys2Proof.Machine.execMgmtPitch q ident when' ch sec ns s
  | .mgmtDiscard q => Sys2Proof.Machine.execMgmtDiscard q s
  | .mgmtStatus q => Sys2Proof.Machine.execMgmtStatus q s
  | .mgmtSubscribe q enable mask => Sys2Proof.Machine.execMgmtSubscribe q enable mask s
  | .mgmtLog q first n => Sys2Proof.Machine.execMgmtLog q first n s
  | .mgmtWindow q w v addr data bad => Sys2Proof.Machine.execMgmtWindow q w v addr data bad s
  | .mgmtFlash q op ofs bytes => Sys2Proof.Machine.execMgmtFlash q op ofs bytes s
  | .mgmtSafe q => Sys2Proof.Machine.execMgmtSafe q s
  | .mgmtWarmReset q => Sys2Proof.Machine.execMgmtWarmReset q s
  | .subscriptionLapse idx => Sys2Proof.Machine.execSubscriptionLapse idx s
  | .eventStreamSend idx => Sys2Proof.Machine.execEventStreamSend idx s
  | .caskFetch p bad => Sys2Proof.Machine.execCaskFetch p bad s
  | .caskWrite p => Sys2Proof.Machine.execCaskWrite p s
  | .evqRdWrite p v => Sys2Proof.Machine.execEvqRdWrite p v s
  | .extest cells => Sys2Proof.Machine.execExtest cells s
  | .idcode => Sys2Proof.Machine.execIdcode s
  | .samplePreload balls cells => Sys2Proof.Machine.execSamplePreload balls cells s
  | .clamp => Sys2Proof.Machine.execClamp s
  | .highz => Sys2Proof.Machine.execHighz s
  | .extestPulse cells => Sys2Proof.Machine.execExtestPulse cells s
  | .extestTrain cells => Sys2Proof.Machine.execExtestTrain cells s
  | .bypass => Sys2Proof.Machine.execBypass s
  | .regAccess we word data => Sys2Proof.Machine.execRegAccess we word data s
  | .testEnFall => Sys2Proof.Machine.execTestEnFall s
  | .tstLaneGenWrite p l v => Sys2Proof.Machine.execTstLaneGenWrite p l v s
  | .tstLaneChkWrite p l v => Sys2Proof.Machine.execTstLaneChkWrite p l v s
  | .tstLaneLoopWrite p l v => Sys2Proof.Machine.execTstLaneLoopWrite p l v s
  | .tstErrorInject p l => Sys2Proof.Machine.execTstErrorInject p l s
  | .tstChkClear p l => Sys2Proof.Machine.execTstChkClear p l s
  | .checkerSync l => Sys2Proof.Machine.execCheckerSync l s
  | .checkerSyncLoss l errs => Sys2Proof.Machine.execCheckerSyncLoss l errs s
  | .yzTestSend p => Sys2Proof.Machine.execYzTestSend p s
  | .yzTestMsgRx p ok => Sys2Proof.Machine.execYzTestMsgRx p ok s
  | .tstBistCmd p kind inst => Sys2Proof.Machine.execTstBistCmd p kind inst s
  | .tstGvCmd p kind inst => Sys2Proof.Machine.execTstGvCmd p kind inst s
  | .tstTestDone gv fail repaired => Sys2Proof.Machine.execTstTestDone gv fail repaired s
  | .chkDecTestDone d pass => Sys2Proof.Machine.execChkDecTestDone d pass s
  | .cmpPipeTestDone p pass => Sys2Proof.Machine.execCmpPipeTestDone p pass s
  | .kettleUnitTestDone c pass => Sys2Proof.Machine.execKettleUnitTestDone c pass s
  | .bundleLaneLoss l cdr => Sys2Proof.Machine.execBundleLaneLoss l cdr s
  | .resetPinRelease railsOk => Sys2Proof.Machine.execResetPinRelease railsOk s
  | .testEnRise => Sys2Proof.Machine.execTestEnRise s
  | .tioPulseEnd idx => Sys2Proof.Machine.execTioPulseEnd idx s
  | .mgmtCrcFail => Sys2Proof.Machine.execMgmtCrcFail s
  | .mgmtArpNdEcho sender => Sys2Proof.Machine.execMgmtArpNdEcho sender s
  | .leaseClaimTimeout => Sys2Proof.Machine.execLeaseClaimTimeout s
  | .bootBistDone repaired bad other => Sys2Proof.Machine.execBootBistDone repaired bad other s
  | .reservedEncoding c => Sys2Proof.Machine.execReservedEncoding c s

end Sys2Proof.Machine
end

