-- ==== Sys2Proof/Machine/Tick.lean ====
section
/-! DEFINITION. One TCLK cycle: what happens whatever is commanded (R256, R346, R486, R562, R586, R620). -/

namespace Sys2Proof.Machine

/-- The raw counter advances by 1 ns (R346); pending rate-limited events whose second is over are raised (R586); each idle DRAM
channel issues one queued write and takes requests that the fabric holds (R485, R486), and a set-point change waits no longer than a pattern burst (R501); transport streams insert what is due between packets (R52); the status of the egress queues follows them (R247); running checkers count (R620); the packets of a mix cycle leave 8 ms after its trigger (R256); mirror entries that failed parity have been refreshed
(R562). A device held in cold reset stands still. -/
def State.tick (s : State) : State :=
  if s.boot.porHeld ∧ s.boot.cold then s
  else
    let s := { s with tb := { s.tb with raw := s.tb.raw + 65536 }, ctl := { s.ctl with stale := [] } }
    ((s.flushLims.drPending.drIdle).tstTick).mixTick.tsTick.egStats

end Sys2Proof.Machine
end

