-- ==== Sys2Proof/Safety.lean ====
section
/-! DEFINITION. What the statements say about states: the invariants that every step keeps, and what a command raised, sent and
left as it was. -/

namespace Sys2Proof.Machine

/-- The event queue's counts (R588, R589): nothing is consumed that has not entered, at most 1,024 records wait, and the ring has
1,024 slots. -/
def Evq.ok (q : Evq) : Bool := decide (q.rd ≤ q.wr) && decide (q.wr ≤ q.rd + 1024) && q.ring.all (fun e => decide (e.1 < 1024))

/-- The fault log is a ring of 8,192 slots (R463). -/
def Cask.ok (k : Cask) : Bool := k.log.all (fun e => decide (e.1 < 8192))

/-- A run of `n` steps that meets no fault and no refusal ends in a state. -/
def runs : Nat → State → State → Prop
  | 0, s, t => s = t
  | n + 1, s, t => ∃ u, step s = .next u ∧ runs n u t

/-- Record `n` of the event queue, counted since reset (R588). -/
def Evq.record (q : Evq) (n : Nat) : EvRec := tget (fun _ => EvRec.zero) q.ring (n % 1024)

/-- Record `n` of the fault log, counted since the log was new (R463). -/
def Cask.record (k : Cask) (n : Nat) : FaultRec := tget (fun _ => FaultRec.zero) k.log (n % 8192)

/-- Between `s` and `t` the event with this code, source instance and argument was raised: where the mask lets its block in and the
queue overwrites (R589, R590), a record of it with the time of `s` (R585) has entered. -/
def Raises (s t : State) (code inst arg : Nat) : Prop :=
  s.evMasked code = true → s.bit EVQ_CFG_HOLD = false →
    ∃ n, s.evq.wr ≤ n ∧ n < t.evq.wr ∧ t.evq.record n = s.evRec code inst arg

/-- No register changed but those listed and the two that count what the event queue loses. -/
def Keeps (s t : State) (l : List Nat) : Prop :=
  ∀ a, a ∉ l → a ≠ EVQ_STAT → a ≠ EVQ_CNT_LOST → t.rd a = s.rd a

/-- What left the device between two states. -/
def Sent (s t : State) (l : List Out) : Prop := t.out = s.out ++ l

/-- A register write by a port that is taken: the authority, the window, SAFE mode, the bank's owner and the role allow it
(R562, R575, R461, R551, R421), and the register is not one that ignores writes. -/
def Taken (s : State) (p : Port) (a : Nat) (v : W32) : Prop := s.writeStatus p a v = 0 ∧ ignoredWrite a = false

/-- An access that succeeded (R561). -/
def Succeeded (t : State) : Prop := t.ctl.failed = false ∧ t.ctl.status = 0

/-! ### Links, the floor and twin pairs -/

/-- The lanes of a link are lanes of the device (R371, R376). -/
def State.LanesIn (s : State) (k : Nat) : Prop := ∀ l, l ∈ s.linkLanes k → l < 64

/-- How many unacknowledged flits of port `p` an ACK passes (R398), and the flits that leave again after the first `n` of them, when `c`
flits have left before (R396, R400). -/
def State.acked (s : State) (p ack : Nat) : Nat :=
  (ack + 4096 - (s.fld (YZ_PORT_SEQ_NEXT_TX p) + 4096 - (s.yzp p).replay.length) % 4096) % 4096
def State.replayOut (s : State) (p n c : Nat) : List Out :=
  ((s.yzp p).replay.drop n).zipIdx.map (fun x => Out.flit p
    { typ := 1, vc := x.1.vc, sop := x.1.sop, eop := x.1.eop,
      seq := ((s.fld (YZ_PORT_SEQ_NEXT_TX p) + 4096 - ((s.yzp p).replay.drop n).length) % 4096 + x.2) % 4096,
      ack := (s.yzp p).expect, nak := false, crdVc := ((s.yzp p).crdVc + c + x.2) % 8,
      crd := tget (fun _ => 0) (s.yzp p).retCrd (((s.yzp p).crdVc + c + x.2) % 8), payload := x.1.payload })

/-- The capacity registers of the three levels show the sums where the device coordinates the level, and 0 where it does not (R410). -/
def State.Shows (s t : State) (r1 r2 r3 : List (Nat × Nat × Nat × Nat)) : Prop :=
  let c1 := capSum (s.capOwn :: r1)
  let c2 := capSum (c1 :: r2)
  let c3 := capSum (c2 :: r3)
  ∀ l, l < 3 →
    let c := if s.bit ⟨coordRegOf (l + 1), 30, 1⟩ then [c1, c2, c3].getD l (0, 0, 0, 0) else (0, 0, 0, 0)
    t.fld (YZ_CAP_TUN_VALUE l) = c.1 % 2 ^ (YZ_CAP_TUN_VALUE l).width ∧ t.fld (YZ_CAP_DEC_VALUE l) = c.2.1 % 2 ^ (YZ_CAP_DEC_VALUE l).width ∧
    t.fld (YZ_CAP_CMP_VALUE l) = c.2.2.1 % 2 ^ (YZ_CAP_CMP_VALUE l).width ∧
    t.fld (YZ_CAP_LEGS_VALUE l) = c.2.2.2 % 2 ^ (YZ_CAP_LEGS_VALUE l).width

/-- The bank with a group change staged for the floor (R411, R551). -/
def State.stagedFor (s : State) (ws : List (Nat × W32)) (rs : List StagedRec) : State :=
  rs.foldl (fun (s : State) r => s.stageRecPut 3 r) (ws.foldl (fun (s : State) w => s.groupStage w.1 w.2) s)

/-- A device claims the lease (R436, R438): its gyle, in the cask and in its register, is the highest seen plus 1, or what the cask already
holds above it; it is CLAIMING, has discarded what it held of a set (R429), and has asked the arbiter of RDN_CFG. -/
def State.claimGyle (s : State) : Nat := max (s.gyleSeen + 1) s.cask.gyle
def Asks (s t : State) (shadow : Bool) (gyle : Nat) : Prop :=
  (s.fld RDN_CFG_ARB = 1 →
    Sent s t [.lease 1 shadow (s.fld YZ_CFG_ADDR) (s.rdn.lseq + 1) gyle (s.fld RDN_CFG2_LEASE_MS * 1000)]) ∧
  (s.fld RDN_CFG_ARB = 2 → t.out = s.out ∧ t.fld RDN_HG_REQ_VALUE = 2 ^ 31 + b2n shadow * 2 ^ 30 + (s.rdn.lseq + 1) % 65536 ∧
    t.pairVal RDN_HG_REQ_GYLE_LO RDN_HG_REQ_GYLE_HI = gyle)
def Claims (s t : State) (cause : Nat) : Prop :=
  t.role = 4 ∧ t.cask.gyle = s.claimGyle ∧ t.gyle = s.claimGyle % 2 ^ 64 ∧ t.gyleSeen = s.gyleSeen ∧ t.rdn.cause = cause ∧
  t.rdn.causeRaw = s.raw ∧ t.rdn.reqs = s.rdn.reqs ++ [⟨s.rdn.lseq + 1, s.raw, false, false⟩] ∧ t.rdn.held = [] ∧
  Asks s t false (s.claimGyle % 2 ^ 64) ∧ Raises s t 0x0D01 0 (evArg [(0, 1, 4), (1, 1, s.role), (4, 8, s.claimGyle % 2 ^ 64)]) ∧
  (∀ r l, s.rdn.held = r :: l → Raises s t 0x0D04 0 (evArg [(0, 8, r.seq)]) ∧ t.rdn.forceRap = true) ∧
  t = { s with rdn := t.rdn, cask := { s.cask with gyle := t.cask.gyle }, regs := t.regs, out := t.out, evq := t.evq, ctl := t.ctl } ∧
  Keeps s t [RDN_GYLE_LO, RDN_GYLE_HI, RDN_STAT, RDN_CNT_DISCARD, RDN_HG_REQ, RDN_HG_REQ_GYLE_LO, RDN_HG_REQ_GYLE_HI]

/-- A claim is possible (R436, R455): the cask can be read and the last gyle has not been seen. -/
def State.MayClaim (s : State) : Prop := s.cask.identBad = false ∧ s.gyleSeen < 2 ^ 64 - 1

/-- The rack sets sent hold these items in order, at most 256 in a set (R427). -/
def RacksItems (s t : State) (items : List RackItem) : Prop :=
  ∃ sets : List (List RackRec), Sent s t (sets.map Out.rackSet) ∧ sets.flatten.map (·.item) = items ∧
    (∀ l, l ∈ sets → l ≠ [] ∧ l.length ≤ 256)

/-- The adaptation step of lane `l` after a window of figure of merit `f` (R386): the step under judgement is kept or reverted, and the
receiver's next one is made only while adaptation is on, not frozen and no point is measured. -/
def State.judged (s : State) (l f : Nat) : Nat :=
  match (s.laneX l).trial with
  | some (old, g) => if f < g then old else (s.laneX l).coef
  | none => (s.laneX l).coef
def Judged (s t : State) (l f : Nat) (next : Option Nat) : Prop :=
  match next with
  | some c =>
    if s.bit (LNK_LANE_ADAPT_EN l) = true ∧ s.bit (LNK_LANE_ADAPT_FREEZE l) = false ∧ t.bit (LNK_ES_CTRL_RUN l) = false then
      (t.laneX l).coef = c ∧ (t.laneX l).trial = some (s.judged l f, f)
    else (t.laneX l).coef = s.judged l f ∧ (t.laneX l).trial = none
  | none => (t.laneX l).coef = s.judged l f ∧ (t.laneX l).trial = none

/-! ### Live channels -/

/-- The merge keeps a packet of an input stream (R30): one path and no merge, or with DUAL neither later than the skew allows nor a copy of
one that is kept. -/
def State.InKept (s : State) (n path ext stream : Nat) : Prop :=
  (s.bit (ENC_CH_IN_PATH_DUAL n) = false ∧ path = 0) ∨
  (s.bit (ENC_CH_IN_PATH_DUAL n) = true ∧
    skewed ((s.chan n).seenOf stream) s.raw (s.fld (ENC_CH_IN_PATH_SKEW_US n)) path ext = false ∧
    ((s.chan n).seenOf stream).any (fun x => x.1 == ext) = false)

/-- A capture time in ns minus the alignment point of slot k (R34), in 2⁻¹⁶ ns times the numerator of the frame rate. -/
def State.capOffset (s : State) (n k : Nat) (cap : Int) : Int :=
  cap * 65536 * (((s.asOf n k).chRate n).1 : Int) - s.slotExact n k

/-- An address lies off a range. -/
def Off (a base len : Nat) : Prop := a < base ∨ base + len ≤ a

/-- Where the next bytes of a line of slot k go in its input buffer, and the bytes that a packet brings for a line. -/
def State.pieceAt (s : State) (n k l : Nat) : Nat :=
  s.inputBuf n k + l * s.inputStride n + tget (fun _ => 0) ((s.chan n).slot k).bytes l
def linesOf (lines : List (Nat × Nat × List Byte)) (l : Nat) : Nat := ((lines.filter (fun x => x.1 == l)).map (fun x => x.2.2.length)).sum

/-- A row's instant has come: its start deadline (R37), or with `cut` the classification cut of a pair (R425). -/
def State.RowDue (s : State) (n k r : Nat) (cut : Bool) : Prop :=
  if cut then s.inPair = true ∧ s.cutTime n k r ≤ s.now else s.deadline n k r ≤ s.now

/-- A unit codes its input (R39, R40): its picture is no repeat or mid-grey picture, and none of its rows is late. -/
def State.RowsThere (s : State) (n k rend : Nat) (p : RPic) (a : Area) : Prop :=
  p.shape = 0 ∧ ((s.asOf n k).rowsOfArea n rend a).any (fun r => nbit ((s.chan n).slot k).late r) = false

/-- A flow sends the packet with this extended sequence number: its link runs, and a flow with a record has one that is sound, not
stopped, and below the key limit (R230). -/
def State.FlowSends (s : State) (f ext : Nat) : Prop :=
  s.flowUp f = true ∧ (s.recValid 0 f = true → s.recState 0 f ≠ 2 ∧ s.recState 0 f ≠ 3 ∧ s.keyLimit f ext = false)

/-- The extended sequence number of the next packet of an output stream of broadcast audio, which both its paths carry (R263). -/
def State.bcExt (s : State) (n q : Nat) : Nat :=
  let at' := fun g => if s.recValid 0 g then s.ff g 0xC8 8 else tget (fun _ => 0) s.rdn.lastSent g
  max (at' (s.fld (AUD_BC_FLOW_FLOW n) + q)) (at' (s.fld (AUD_BC_FLOW_FLOW n) + q + 8)) + 1

/-- No pitch waits for a boundary with this part (R26). -/
def State.NoPart (s : State) (k : Nat) : Prop := s.stage.pitches.find? (fun p => p.checked && p.waiting.contains k) = none

/-- The strips of the window of the search unit that a unit's tun is at, and of the next one (R107). -/
def State.colStrips (s : State) (n k rend : Nat) (a : Area) (u : Nat) (p : RPic) : List Int :=
  stripsAt ((s.asOf n k).codec n rend) ((s.asOf n k).rendW n rend)
    (a.x0 / searchSide ((s.asOf n k).codec n rend) + (p.units.getD u UnitRec.zero).prog) p.gmv.1.1
def State.nextStrips (s : State) (n k rend : Nat) (a : Area) (u : Nat) (p : RPic) : List Int :=
  stripsAt ((s.asOf n k).codec n rend) ((s.asOf n k).rendW n rend)
    (a.x0 / searchSide ((s.asOf n k).codec n rend) + (p.units.getD u UnitRec.zero).prog + 1) p.gmv.1.1

/-- A unit is the one that its check decoder takes next (R142, R145): coded, not verified, none waits longer,
and the decoder's clock runs. -/
def State.ChkNext (s : State) (n k rend u d : Nat) (p : RPic) : Prop :=
  s.chkOf n k rend u p = some d ∧ u < p.units.length ∧ (p.units.getD u UnitRec.zero).toCheck = true ∧ s.blockRuns (66 + d) = true ∧
  (s.chkWaiting d).all (fun y => decide ((p.units.getD u UnitRec.zero).atRaw ≤ y)) = true

/-! ### Forwarding -/

/-- A frame that the pipeline takes as an RTP packet of a flow (R221 to R223): forwarding and the bridge are enabled, the headers are sound, the
port is not that of the encapsulation, and the packet is RTP, no RTCP and no retransmission. -/
def State.RtpOk (s : State) (p : RtpPkt) (f : Nat) : Prop :=
  s.bit FWD_CFG_EN = true ∧ s.bit BRG_CFG_EN = true ∧ s.blockRuns 102 = true ∧ p.hdrOk = true ∧ 64 ≤ p.frame ∧ p.frame ≤ 9216 ∧
  s.yzPort p.mac p.lport = false ∧ 128 ≤ p.b0 ∧ p.b0 < 192 ∧ ¬ (192 ≤ p.b1 ∧ p.b1 < 224) ∧ s.classify p = some f ∧ s.isRtx f p = false

/-- A flow takes RTCP (R226): its record is sound, and its context on chip. -/
def State.RtcpOk (s : State) (f : Nat) : Prop := s.recState 0 f ≠ 0 ∧ s.recState 0 f ≠ 3 ∧ (s.fx f).resident = true

/-- An RTCP packet of a flow may leave (R230, R431): no SRTP, or its SRTCP index is below the limit and reserved where reservations hold. -/
def State.SrtcpMay (s : State) (f : Nat) : Prop :=
  s.flag f 0 = false ∨ ((s.fx f).rtcpStop = false ∧ s.ff f 0xB0 4 + 1 ≤ 2 ^ 31 - 1 ∧
    (s.isActive = false ∨ s.bit RDN_STAT_DEGRADED = true ∨ s.ff f 0xB0 4 + 1 < (s.fx f).cAck))

/-! ### Compositions -/

/-- A composition whose further layers came back poisoned (R452, R187). -/
def Comp.poisoned (c : Comp) (poison : List Nat) : Comp := { c with conc := c.conc || !poison.isEmpty, bad := c.bad ++ poison }

/-- A line of a plane lies in the strip that a composition is at, and where the output holds it (R191, R87). -/
def Comp.InStrip (c : Comp) (p y : Nat) : Prop :=
  p < 3 ∧ 16 * c.strip ≤ y ∧ y < 16 * c.strip + 16 ∧ y < c.lay.height ∧ y % subY c.lay.chroma p = 0
def Comp.lineAt (c : Comp) (p y : Nat) : Nat := c.out.base p + y / subY c.lay.chroma p * c.out.stride p

/-! ### Kettle cores -/

/-- Core `c` issues instruction `i` of `words` words now (R286): it and its clock run, it is not fenced, its program counter lies in P memory, the
words there decode to `i`, no position that R327 marks forbids it, and no HALT waits. -/
def Issues (s : State) (c : Nat) (i : KI) (words : Nat) : Prop :=
  ((s.kc (s.kKey c)).st = 2 ∨ (s.kc (s.kKey c)).st = 3) ∧ s.kFenced (s.kKey c) = false ∧ s.blockRuns (90 + c / 8) = true ∧
  (s.kc (s.kKey c)).pc ≤ 0x3FFF ∧
  decK (s.kFetch (s.kKey c) (s.kc (s.kKey c)).pc) (s.kFetch (s.kKey c) ((s.kc (s.kKey c)).pc + 1)) = some (i, words) ∧
  (i.forbidden = false ∨ (s.kc (s.kKey c)).marked = false) ∧ (s.kc (s.kKey c)).halt = false

/-- The issue at the position of `s` has written register code, or memory word, `r` with `v`; a reader sees it after the distance
of R287. -/
def Writes (s t : State) (c r : Nat) (v : W32) (kind : WKind) : Prop :=
  (⟨r, v, (s.kc (s.kKey c)).pos, kind⟩ : PWrite) ∈ (t.kc (s.kKey c)).pend

/-- Register codes and memory words outside a list that no earlier write waits for are as they were: no write to one is under way
and its value is the same. TIMER (0x46) counts, LC0 and LC1 count at the end of a loop, SR (0x43) collects NV and SAT. -/
def Untouched (s t : State) (c : Nat) (l : List Nat) : Prop :=
  ∀ r, r ∉ l → r ∉ [0x40, 0x41, 0x43, 0x46] → (∀ w, w ∈ (s.kc (s.kKey c)).pend → w.reg ≠ r) →
    (∀ w, w ∈ (t.kc (s.kKey c)).pend → w.reg ≠ r) ∧ t.kBase (s.kKey c) r = s.kBase (s.kKey c) r

/-- The next instruction is the one `n` words on, where no repeat, branch or loop is under way. -/
def GoesOn (s t : State) (c n : Nat) : Prop :=
  (s.kc (s.kKey c)).rep = none → (s.kc (s.kKey c)).slots = 0 → (s.kc (s.kKey c)).target = none → (s.kc (s.kKey c)).loops = [] →
    (t.kc (s.kKey c)).pc = (s.kc (s.kKey c)).pc + n

/-- Nothing but one core, the X and Y memories and the registers of a list changed. -/
def CoreOnly (s t : State) (c : Nat) (l : List Nat) : Prop :=
  (∀ d, d ≠ s.kKey c → t.kc d = s.kc d) ∧ t.ket.p = s.ket.p ∧ t.ket.shared = s.ket.shared ∧ t.ket.kerns = s.ket.kerns ∧
  t = { s with ket := t.ket, regs := t.regs } ∧ Keeps s t ((s.kCores (s.kKey c)).map DSP_CORE_CNT_BUSY ++ l)

/-- An instruction that goes on in sequence issued: the position is the next one, and only the core changed. -/
def Issued (s t : State) (c words : Nat) (l : List Nat) : Prop :=
  (t.kc (s.kKey c)).pos = (s.kc (s.kKey c)).pos + 1 ∧ GoesOn s t c words ∧ Untouched s t c l ∧ CoreOnly s t c []

/-- A core that faulted (R286): STATE is FAULT with its code and program counter, and event 0x1C03 was raised. -/
def Faulted (s t : State) (c code : Nat) : Prop :=
  (t.kc (s.kKey c)).st = 4 ∧ (∀ x, x ∈ s.kCores (s.kKey c) → t.fld (DSP_CORE_STAT_STATE x) = 4 ∧ t.fld (DSP_CORE_STAT_FAULT x) = code) ∧
  Raises s t 0x1C03 (s.kUnit c) (evArg [(0, 1, code), (4, 4, (s.kc (s.kKey c)).pc)])

/-- The command of an integer operation's code (R317), and of a floating-point one's (R318). -/
def aluCmd (code : Nat) (c : Fin 96) : Instr :=
  match code with
  | 0 => .add c | 1 => .sub c | 2 => .neg c | 3 => .abs c | 4 => .mul c | 5 => .and c | 6 => .or c | 7 => .xor c | 8 => .shl c
  | 9 => .shr c | 10 => .asr c | 11 => .min c | 12 => .max c | 13 => .cmp c | 14 => .tst c | 15 => .clz c | _ => .csel c
def fpCmd (code : Nat) (c : Fin 96) : Instr :=
  match code with
  | 0 => .fadd c | 1 => .fsub c | 2 => .fmul c | 3 => .fneg c | 4 => .fabs c | 5 => .fmin c | 6 => .fmax c | 7 => .fcmp c
  | 8 => .i2f c | 9 => .f2i c | 10 => .fscl c | 11 => .frcp c | _ => .frsq c

/-- The command of a move's code (R321), and the word that it moves, read after the cycle of its issue has passed (R282): a register for
MOVE, the sign-extended immediate for MOVEI, the immediate above a low half of 0 for MOVEU, and below the half that is not written for MOVEL. -/
def moveCmd (code : Nat) (c : Fin 96) : Instr :=
  match code with
  | 0 => .move c | 1 => .movei c | 2 => .moveu c | _ => .movel c
def State.moveVal (s : State) (c code rd f : Nat) : W32 :=
  match code with
  | 0 => (s.kCycles (s.kKey c) 1).kGet (s.kKey c) f
  | 1 => (BitVec.ofNat 16 f).signExtend 32
  | 2 => BitVec.ofNat 16 f ++ (0 : BitVec 16)
  | _ => ((s.kCycles (s.kKey c) 1).kHalf (s.kKey c) rd).extractLsb' 16 16 ++ BitVec.ofNat 16 f

/-- What an operation issues when it stands alone (R317 to R319), and the registers and memory words that a move of the parallel form
writes (R325). -/
def State.opWrites (s : State) (c : Nat) (op : KI) : List PWrite :=
  ((match op with | .alu .. => runAlu c op s | .fp .. => runFp c op s | _ => runMac c op s).kc c).pend.drop (s.kc c).pend.length
def State.moveRegs (s : State) (c bus : Nat) (m : Option KMove) : List Nat :=
  match m with
  | none => []
  | some m => (if m.store then memCode bus (s.kA c m.a).toNat else m.d) :: (if m.pm then [0x20 + m.a] else [])

/-- A move of the parallel form has issued its write, a load into the register that the operation writes apart (R288), and its post-modify. -/
def Moved (s t : State) (c bus : Nat) (m : Option KMove) (skip : Option Nat) : Prop :=
  ∀ k, m = some k →
    (k.store = true → Writes s t c (memCode bus (s.kA (s.kKey c) k.a).toNat) (s.kD (s.kKey c) k.d) .mem) ∧
    (k.store = false → skip ≠ some k.d → Writes s t c k.d (s.kMem (s.kKey c) bus (s.kA (s.kKey c) k.a).toNat) .load) ∧
    (k.pm = true → Writes s t c (0x20 + k.a) (postModify (s.kA (s.kKey c) k.a) (s.kM (s.kKey c) k.a)) .post)

/-! ### The timebase -/

/-- A measurement of m ns goes into the servo's law (R355, R360, R362): start-up's acquisition is over, and m is no more than the step limit or
the policy is SLEW. -/
def State.Measures (s : State) (m : Int) : Prop :=
  s.fld TB_STAT_STATE ≤ 4 ∧ (s.fld TB_STAT_STATE = 1 → s.tb.startAcq = false) ∧ s.atStep 7 = false ∧
  (m.natAbs ≤ s.fld TB_SERVO_LIM_STEP_US * 1000 ∨ s.bit TB_CTRL_POLICY = true)

/-- The law took it: presented time is where it was, the offset register shows it, the rate keeps its limit, and no more changed. -/
def Measured (s t : State) (m : Int) : Prop :=
  t.now = s.now ∧ t.fld TB_PTP_OFS_VALUE = ofSigned 32 m ∧ t.tb.rate.natAbs * 1000000 ≤ s.rateLim * 2 ^ 48 ∧ t.tb.lastMeas = some s.raw ∧
  t = { s with tb := t.tb, regs := t.regs, evq := t.evq, ctl := t.ctl, fresh := t.fresh } ∧ Keeps s t [TB_PTP_OFS, TB_STAT]

/-! ### SAFE mode -/

/-- The device entered SAFE mode between `s` and `t` for a fault of this class with this cause and instance (R458, R461, R462): the safe
states are forced, an ACTIVE's lease is released, a fault log record with ACTION 5 is written unless one of its class and instance
was within the second (R464), event 0x0001 is raised, and the entry is remembered. -/
def SafeEntered (s t : State) (cls cause inst : Nat) : Prop :=
  t.safe.mode = true ∧ t.safe.forced = true ∧ (s.safe.forced = false → t.phy.idle = List.range 16 ∧ t.brg.pacers = []) ∧
  (s.role = 1 → t.rdn.leaseEnd = s.raw ∧ Out.lease 4 false (s.fld YZ_CFG_ADDR) s.rdn.lseq s.gyle (s.fld RDN_CFG2_LEASE_MS * 1000) ∈ t.out) ∧
  t.fld SYS_STAT_SAFE = 1 ∧ t.fld SYS_STAT_SAFE_CAUSE = cause ∧ t.fld PWR_MODE_CUR = 5 ∧
  (tget (fun _ => Lim.zero) s.safe.suppress (limKey cls inst) = Lim.zero → t.cask.logSeq = s.cask.logSeq + 1 ∧
    t.cask.record s.cask.logSeq = ⟨s.raw / 65536, timeSec s.now, timeNs s.now, s.fld TB_EPOCH_EPOCH, s.cask.boot, 1, inst, cls, 5, 0,
      evArg [(0, 1, cls), (1, 1, cause), (4, 4, s.cask.boot)], s.cask.logSeq, none⟩) ∧
  t.cask.safeHist = s.cask.safeHist ++ [(cls, s.nowNs.toNat)] ∧ Raises s t 1 inst (evArg [(0, 1, cls), (1, 1, cause), (4, 4, s.cask.boot)]) ∧
  (s.safe.forced = false → ∀ n x, x ∈ (t.chan n).pics → x.2.released = true → x.2.sent = x.2.units.length) ∧
  t.dram = s.dram ∧ t.ket = s.ket ∧ t.aud = s.aud

/-! ### Resets and images -/

/-- Every sticky field, the fence flags among them, reads as it did (R538). -/
def KeepsSticky (s t : State) : Prop :=
  ∀ (a : Nat) (r : RegRow) (f : FieldRow), regRow a = some r → f ∈ r.fields → (f.acc = .rws ∨ f.acc = .ros) →
    fieldGet (t.rd a) f.lo f.width = fieldGet (s.rd a) f.lo f.width

/-- The image that step 3 tries first: the one with a valid header in slot `k`, with the highest GENERATION, slot A on a tie (R540). -/
def FirstImage (a b : Option Img) (k : Nat) (i : Img) : Prop :=
  i.header = true ∧
  ((k = 0 ∧ a = some i ∧ ∀ j, b = some j → j.header = true → j.gen ≤ i.gen) ∨
   (k = 1 ∧ b = some i ∧ ∀ j, a = some j → j.header = true → j.gen < i.gen))

/-! ### Staging and pitches -/

/-- No one waits for the gravity check that runs: no group change, no request, and not step 10 of start-up (R411, R548, R570). -/
def State.Unawaited (s : State) : Prop :=
  s.yz.group = none ∧ s.yz.grpId = none ∧ s.fld CFG_BOOT_STAT_STEP ≠ 10 ∧ (∀ x, x ∈ s.ctl.senders → x.waits ≠ 1) ∧ s.ctl.yzSender.waits ≠ 1

/-- The pitches behind one in the queue, none of them checked again at its instant yet. -/
def LaterPitches (q : Pitch) (l : List Pitch) : Prop := ∀ x, x ∈ l → x.checked = false ∧ x.seq ≠ q.seq

/-! ### Gates -/

/-- The requests of a list still outstanding at the gates of a domain that run or close: they complete with errors (R515, R517). -/
def State.drained (s : State) (d : Nat) (l : List (Nat × Nat)) : Nat :=
  ((l.filter (fun e => decide (gateDomain e.1 = d ∧ e.1 < 148 ∧ (s.fld (CLK_GATE_STATE e.1) = 0 ∨ s.fld (CLK_GATE_STATE e.1) = 2)))).map
    (fun e => e.2)).sum

/-! ### Fenced engines and DRAM -/

/-- The engine that owns a memory, or a fabric port, is fenced, and its CAUSE field reads (R450, R453). -/
def FencedBy (t : State) (o : MemOwner) (cause : Nat) : Prop :=
  match o with
  | .tun x => t.fld (ENC_TUN_STAT_FENCED x) = 1 ∧ t.fld (ENC_TUN_STAT_CAUSE x) = cause
  | .chkDec x => t.fld (DEC_CHK_STAT_FENCED x) = 1 ∧ t.fld (DEC_CHK_STAT_CAUSE x) = cause
  | .decCore x => t.fld (DEC_CORE_STAT_FENCED x) = 1 ∧ t.fld (DEC_CORE_STAT_CAUSE x) = cause
  | .pipe x => t.fld (CMP_PIPE_STAT_FENCED x) = 1 ∧ t.fld (CMP_PIPE_STAT_CAUSE x) = cause
  | .kettle x => t.fld (DSP_CORE_STAT_FENCED x) = 1 ∧ t.fld (DSP_CORE_STAT_CAUSE x) = cause
  | .chkUnit x => t.fld (CHK_UNIT_STAT_FENCED x) = 1 ∧ t.fld (CHK_UNIT_STAT_CAUSE x) = cause
  | .ctxLine _ => True
  | .fwdBuffer => True

/-- Whether it is an engine, and fenced already. -/
def State.ownerFenced (s : State) : MemOwner → Bool
  | .tun x => s.tunFenced x
  | .chkDec x => s.chkFenced x
  | .decCore x => s.coreFenced x
  | .pipe x => s.pipeFenced x
  | .kettle x => s.kFenced (s.kKey x)
  | .chkUnit x => s.bit (CHK_UNIT_STAT_FENCED x)
  | .ctxLine _ => true
  | .fwdBuffer => true

/-- The CAUSE of a fabric port's fence: the fabric's where the engine has one, else the memory's. -/
def portCause : MemOwner → Nat
  | .tun _ => 3
  | .decCore _ => 3
  | _ => 2

/-- A DRAM channel with nothing held by the fabric, in service for an address, with room for reads and writes (R485). -/
def State.DrFree (s : State) (c a : Nat) : Prop :=
  c = s.chanOf a ∧ s.drServes c a = true ∧ (s.drc c).held = [] ∧ (s.drc c).reads.length < 64 ∧ (s.drc c).writes.length < 64

/-- An access lies in one burst. -/
def OneBurst (a len : Nat) : Prop := 0 < len ∧ a / 64 = (a + len - 1) / 64

/-! ### Management requests -/

/-- A request of one operation, addressed to this device, arrives at the management port from a sender not heard before, whose port has the
class that the operation needs; the device is neither in SAFE mode nor in BOOT (R569 to R575). -/
def NewRequest (s : State) (q : Req) (cls : Nat) : Prop :=
  q.port = .mgmt ∧ s.mgmtPort .mgmt = true ∧ q.item = 0 ∧ q.last = true ∧ s.senderOf .mgmt q.sender = none ∧ q.version = 1 ∧
  q.bytes ≤ 1472 ∧ q.kind = 0 ∧ cls ≤ s.level .mgmt ∧ s.safe.mode = false ∧ s.fld PWR_MODE_CUR ≠ 1

/-- An operation of a request runs, with state `u` and its sender `x` when it begins, and an effect that needs this class and this many words
of reply; `open'` operations run in SAFE mode and in BOOT with any class (R569 to R575). -/
def Runs (s u : State) (q : Req) (x : Sender) (cls words : Nat) (open' : Bool) : Prop :=
  s.mgmtSender q = (u, some x) ∧ u.mgmtRefused q x cls words open' = 0

/-- After the effect that made `u`, the operation has answered: its item has joined the reply of its sender, which leaves when the request
is over (R569, R572). -/
def Replied (u t : State) (q : Req) (x : Sender) (typ status : Nat) (ws : List W32) : Prop :=
  t = u.replyItem q.port x typ status q.item ws q.last

/-- A port has written words to consecutive registers, up to the first that fails: the state then and the STATUS. -/
def Wrote (p : Port) : List W32 → Nat → State → State → Nat → Prop
  | [], _, u, v, st => v = u ∧ st = 0
  | w :: ws, a, u, v, st => ∃ m, exec (.registerWrite p a w) u = .next m ∧
      ((m.ctl.failed = true ∧ v = m ∧ st = m.ctl.status) ∨ (m.ctl.failed = false ∧ Wrote p ws (a + 4) m v st))

/-- A port has read words of consecutive registers, all of them, or up to the first that fails. -/
def WasRead (p : Port) : Nat → Nat → State → State → Nat → List W32 → Prop
  | 0, _, u, v, st, l => v = u ∧ st = 0 ∧ l = []
  | n + 1, a, u, v, st, l => ∃ m, exec (.rcRead p a) u = .next m ∧
      ((m.ctl.failed = true ∧ v = m ∧ st = m.ctl.status ∧ l = []) ∨
       (m.ctl.failed = false ∧ ∃ k, l = (if st = 0 then m.ctl.rdData :: k else []) ∧ WasRead p n (a + 4) m v st k))

/-- The registers whose write has a refusal or an effect before its plain part. -/
def ownWrite (a : Nat) : Bool :=
  a == CFG_CTRL || a == EVQ_RD || a == BRG_WIN_CMD || a == AUD_WIN_CMD || decide (0x61000 ≤ a ∧ a < 0x61800 ∧ a % 0x20 = 0) ||
  decide (0x201000 ≤ a ∧ a < 0x202000 ∧ a % 0x40 < 12)

/-- The reply with this STATUS and these items left, and nothing else (R569, R572). -/
def Answered (s t : State) (q : Req) (status : Nat) (items : List (Nat × List W32)) : Prop :=
  Sent s t [.reply ⟨q.sender, q.alive, q.tag, status, items⟩]

/-- The fault log's words from a record on: 16 for each (R463). -/
def Cask.recordWords (k : Cask) (first n : Nat) : List W32 := (List.range n).flatMap (fun i => (k.record (first + i)).words)

end Sys2Proof.Machine
end

