-- ==== Sys2Proof/Certificates/Slice0/Obligations.lean ====
section
/-! DEFINITION. The statements for the provers: what the manual's rules say the commands do, and the invariants of the model. -/

open Sys2Proof Sys2Proof.Machine

/-- A packet that the merge keeps (one path, or with DUAL neither late nor a copy of a kept one) and that is the first of its slot opens
it: the slot takes the packet's capture time, PHASE_NS the capture minus the alignment point in whole ns, rounded down (log row 104), OFF_GRID
whether that exceeds 1 µs, each line of the picture the packet's pixels of it (R34, R40), and DRAM changes only in the slot's descriptor (R88) and at the
lines' places in the input buffer, where a packet of one piece is read back. An audio packet of a stream in use is held and those older than 1 s go; ancillary packets that
match a filter entry are kept for the slot's access unit (R29, R36). With DUAL, a copy later than the skew allows is discarded and counted in
ENC_CH_CNT_MERGE, a copy of a kept packet is discarded, and neither changes a slot (R30). A path without packets for 10 ms is
marked silent with event 0x1004 (R60). A row whose lines are all in DRAM becomes complete (R631). Each command leaves every other channel and
everything that its conclusion does not name as they were. -/
def Obligations.LiveInput : Prop :=
  (∀ (s : State) (n : Fin 16) (path : Fin 2) (ext : Nat) (cap : Int) (lines : List (Nat × Nat × List Byte)) (d : Int),
    (s.chan n).run = true → s.InKept n path ext 0 → (s.chan n).pathSil.getD path false = false →
    s.slotOk n (s.slotOf n cap) = true → ((s.chan n).slot (s.slotOf n cap)).cap = none →
    ((s.chan n).slot (s.slotOf n cap)).decided = 0 →
    d * (65536 * ((s.asOf n (s.slotOf n cap)).chRate n).1 : Nat) ≤ s.capOffset n (s.slotOf n cap) cap →
    s.capOffset n (s.slotOf n cap) cap < (d + 1) * (65536 * ((s.asOf n (s.slotOf n cap)).chRate n).1 : Nat) →
    ∃ t, exec (.videoPacketRx n path ext cap (.video lines)) s = .next t ∧
      ((t.chan n).slot (s.slotOf n cap)).cap = some cap ∧
      ((t.chan n).slot (s.slotOf n cap)).epoch = s.fld TB_EPOCH_EPOCH ∧
      t.fld (ENC_CH_PHASE_PHASE_NS n) = ofSigned 32 d ∧
      t.bit (ENC_CH_STAT_OFF_GRID n) = decide ((s.capOffset n (s.slotOf n cap) cap).natAbs >
        1000 * (65536 * ((s.asOf n (s.slotOf n cap)).chRate n).1)) ∧
      (∀ l, tget (fun _ => 0) ((t.chan n).slot (s.slotOf n cap)).lines l =
        tget (fun _ => 0) ((s.chan n).slot (s.slotOf n cap)).lines l +
          (if l < s.fld (ENC_CH_SIZE_HEIGHT n) then ((lines.filter (fun x => x.1 == l)).map (fun x => x.2.1)).sum else 0)) ∧
      (∀ j, j ≠ s.slotOf n cap → (t.chan n).slot j = (s.chan n).slot j) ∧
      (∀ a, (∀ l, l ∈ lines → l.1 < s.fld (ENC_CH_SIZE_HEIGHT n) → Off a (s.pieceAt n (s.slotOf n cap) l.1) (linesOf lines l.1)) →
        Off a (s.liveBuf n (((s.chan n).side).getD 0) (s.slotOf n cap) 1) 64 → t.dbyte a = s.dbyte a) ∧
      (∀ x l i, lines = [x] → x.1 = l → l < s.fld (ENC_CH_SIZE_HEIGHT n) → i < x.2.2.length →
        t.dbyte (s.pieceAt n (s.slotOf n cap) l + i) = x.2.2.getD i 0) ∧
      (lines = [] → t.getDesc (s.liveBuf n (((s.chan n).side).getD 0) (s.slotOf n cap) 1) =
        some (t.rawDesc (s.liveBuf n (((s.chan n).side).getD 0) (s.slotOf n cap) 1))) ∧
      (∀ m, m ≠ n.val → t.chan m = s.chan m) ∧
      t = { s with enc := t.enc, dram := t.dram, regs := t.regs, evq := t.evq, ctl := t.ctl } ∧
      Keeps s t [ENC_CH_PHASE n, ENC_CH_STAT n]) ∧
  (∀ (s : State) (n : Fin 16) (path : Fin 2) (ext i : Nat) (cap : Int) (x : Nat × List (List Int) × Bool),
    (s.chan n).run = true → s.InKept n path ext (1 + i) → (s.chan n).pathSil.getD path false = false →
    i < s.fld (AUD_BC_IN_NSTREAMS n) →
    ∃ t, exec (.videoPacketRx n path ext cap (.audio i x)) s = .next t ∧
      (t.chan n).pcm = (s.chan n).pcm.filter (fun y => decide (s.raw - y.raw ≤ 1000 * msU)) ++ [⟨i, s.raw, x.1, x.2.1, x.2.2⟩] ∧
      (t.chan n).slots = (s.chan n).slots ∧ (∀ m, m ≠ n.val → t.chan m = s.chan m) ∧ t = { s with enc := t.enc }) ∧
  (∀ (s : State) (n : Fin 16) (path : Fin 2) (ext i : Nat) (cap : Int) (pkts : List (Nat × Nat × List Byte)),
    (s.chan n).run = true → s.InKept n path ext (9 + i) → (s.chan n).pathSil.getD path false = false → i < 2 →
    s.slotOk n (s.slotOf n cap) = true → (s.chan n).released ≤ s.slotOf n cap →
    ∃ t, exec (.videoPacketRx n path ext cap (.anc i pkts)) s = .next t ∧
      (t.chan n).slot (s.slotOf n cap) = { (s.chan n).slot (s.slotOf n cap) with
        anc := ((s.chan n).slot (s.slotOf n cap)).anc ++ pkts.filter (fun p => ((Config.ancFilter n).take 8).contains (p.1, p.2.1)) } ∧
      (∀ j, j ≠ s.slotOf n cap → (t.chan n).slot j = (s.chan n).slot j) ∧
      (∀ m, m ≠ n.val → t.chan m = s.chan m) ∧ t = { s with enc := t.enc }) ∧
  (∀ (s : State) (n : Fin 16) (path : Fin 2) (ext : Nat) (cap : Int) (data : LiveIn),
    (s.chan n).run = true → s.bit (ENC_CH_IN_PATH_DUAL n) = true → (s.chan n).pathSil.getD path false = false →
    skewed ((s.chan n).seenOf data.stream) s.raw (s.fld (ENC_CH_IN_PATH_SKEW_US n)) path ext = true →
    ∃ t, exec (.videoPacketRx n path ext cap data) s = .next t ∧
      t.fld (ENC_CH_CNT_MERGE_COUNT n) = min (s.fld (ENC_CH_CNT_MERGE_COUNT n) + 1) (2 ^ 32 - 1) ∧
      t.chan n = { s.chan n with pathRaw := (s.chan n).pathRaw.set path s.raw, pathSil := (s.chan n).pathSil.set path false } ∧
      (∀ m, m ≠ n.val → t.chan m = s.chan m) ∧
      t = { s with enc := t.enc, regs := t.regs } ∧ Keeps s t [ENC_CH_CNT_MERGE n]) ∧
  (∀ (s : State) (n : Fin 16) (path : Fin 2) (ext : Nat) (cap : Int) (data : LiveIn),
    (s.chan n).run = true → s.bit (ENC_CH_IN_PATH_DUAL n) = true → (s.chan n).pathSil.getD path false = false →
    skewed ((s.chan n).seenOf data.stream) s.raw (s.fld (ENC_CH_IN_PATH_SKEW_US n)) path ext = false →
    ((s.chan n).seenOf data.stream).any (fun x => x.1 == ext) = true →
    ∃ t, exec (.videoPacketRx n path ext cap data) s = .next t ∧
      t.chan n = { s.chan n with pathRaw := (s.chan n).pathRaw.set path s.raw, pathSil := (s.chan n).pathSil.set path false } ∧
      (∀ m, m ≠ n.val → t.chan m = s.chan m) ∧ t = { s with enc := t.enc }) ∧
  (∀ (s : State) (n : Fin 16) (path : Fin 2),
    (s.chan n).run = true → (s.chan n).pathSil.getD path false = false →
    (path.val = 0 ∨ s.bit (ENC_CH_IN_PATH_DUAL n) = true) → s.raw ≥ (s.chan n).pathRaw.getD path 0 + 10 * msU →
    ∃ t, exec (.chPathSilent n path) s = .next t ∧
      t.chan n = { s.chan n with pathSil := (s.chan n).pathSil.set path true } ∧
      Raises s t 0x1004 n (evArg [(0, 1, path), (1, 1, 0)]) ∧
      (∀ m, m ≠ n.val → t.chan m = s.chan m) ∧
      t = { s with enc := t.enc, regs := t.regs, evq := t.evq, ctl := t.ctl } ∧ Keeps s t []) ∧
  (∀ (s : State) (n : Fin 16) (k r : Nat),
    s.slotOk n k = true → nbit ((s.chan n).slot k).decided r = false → s.rowFull n k r = true →
    ∃ t, exec (.rowComplete n k r) s = .next t ∧
      (t.chan n).slot k = { (s.chan n).slot k with done := nset ((s.chan n).slot k).done r } ∧
      (∀ j, j ≠ k → (t.chan n).slot j = (s.chan n).slot j) ∧ (∀ m, m ≠ n.val → t.chan m = s.chan m) ∧
      t = { s with enc := t.enc, regs := t.regs } ∧ Keeps s t [ENC_MILL_STAT 0, ENC_MILL_STAT 1])

/-- Once the start deadline of a row has passed, in row mode on a device that is no STANDBY, the row is decided: a row that is
complete and has its tuns counts as present, and while other rows of the slot are undecided nothing else changes; a row that is not complete is late;
row 0 late makes the slot MISSING (R37, R38). In a pair the same three hold at the classification cut (R425). The row counted as present
is any but row 0, whose decision is racked as well. -/
def Obligations.ArrivalClasses : Prop :=
  (∀ (s : State) (n : Fin 16) (k r : Nat) (cut : Bool),
    s.slotOk n k = true → s.isStandby = false → s.chMode n = 0 → 0 < r → r < (s.asOf n k).nRows n 0 →
    s.RowDue n k r cut →
    ((s.chan n).slot k).isCls = false → nbit ((s.chan n).slot k).decided r = false →
    nbit ((s.chan n).slot k).done r = true → s.lacksTun n k r = false →
    nset ((s.chan n).slot k).decided r ≠ 2 ^ (s.asOf n k).nRows n 0 - 1 →
    ∃ t, exec (if cut then .classificationCut n k r else .rowStartDeadline n k r) s = .next t ∧
      (t.chan n).slot k = { (s.chan n).slot k with decided := nset ((s.chan n).slot k).decided r } ∧
      (∀ j, j ≠ k → (t.chan n).slot j = (s.chan n).slot j) ∧ (∀ m, m ≠ n.val → t.chan m = s.chan m) ∧
      t = { s with enc := t.enc }) ∧
  (∀ (s : State) (n : Fin 16) (k r : Nat) (cut : Bool),
    s.slotOk n k = true → s.isStandby = false → s.chMode n = 0 → 0 < r → r < (s.asOf n k).nRows n 0 →
    s.RowDue n k r cut →
    ((s.chan n).slot k).isCls = false → nbit ((s.chan n).slot k).decided r = false →
    nbit ((s.chan n).slot k).done r = false →
    nset ((s.chan n).slot k).decided r ≠ 2 ^ (s.asOf n k).nRows n 0 - 1 →
    ∃ t, exec (if cut then .classificationCut n k r else .rowStartDeadline n k r) s = .next t ∧
      ((t.chan n).slot k).decided = nset ((s.chan n).slot k).decided r ∧
      ((t.chan n).slot k).late = nset ((s.chan n).slot k).late r ∧ ((t.chan n).slot k).isCls = false ∧
      (∀ j, j ≠ k → (t.chan n).slot j = (s.chan n).slot j) ∧ (∀ m, m ≠ n.val → t.chan m = s.chan m)) ∧
  (∀ (s : State) (n : Fin 16) (k : Nat) (cut : Bool),
    s.slotOk n k = true → s.isStandby = false → s.chMode n = 0 → 0 < (s.asOf n k).nRows n 0 →
    s.RowDue n k 0 cut →
    ((s.chan n).slot k).isCls = false → nbit ((s.chan n).slot k).decided 0 = false →
    nbit ((s.chan n).slot k).done 0 = false →
    ∃ t, exec (if cut then .classificationCut n k 0 else .rowStartDeadline n k 0) s = .next t ∧
      ((t.chan n).slot k).isCls = true ∧ ((t.chan n).slot k).cls = 2 ∧
      ((t.chan n).slot k).decided = 2 ^ (s.asOf n k).nRows n 0 - 1 ∧ (∀ m, m ≠ n.val → t.chan m = s.chan m))

/-- In picture and look-ahead modes the picture that is next in coding order starts once the slots of its window are known: every
rendition that codes the slot has its picture (R69, R631). A waiting unit of a budgeted picture for which everything that it waits for is there, and
whose inputs have good CRCs, starts on its tun, which is BUSY: outside CQP a unit of a picture with no late row takes the target and cap of R125, and outside floor mode a QP of at
most QP_MAX and the codec's greatest (R127); in CQP it takes MODE.QP (R116); a unit of a repeat or mid-grey picture, or over a late
row, takes its floor as its cap and the codec's greatest QP (R124, R130). A unit that is coded holds the CRC of its final samples (R143), and its size is within its
cap, in every case but a normal unit in CQP, if the floor bounds of its blocks are (R128); the picture is complete once all its units are. Other channels and every register
but those named stay as they were, and while another unit of the picture is not coded, so does DRAM. -/
def Obligations.LivePictures : Prop :=
  (∀ (s : State) (n : Fin 16) (k : Nat),
    s.chMode n ≠ 0 → s.slotOk n k = true → ((s.planGroup n).chan n).nextCoded = k →
    (∀ i, i ≤ s.lookL n → (s.planGroup n).slotKnown n (k + i) = true) →
    ∃ t, exec (.pictureEncodeStart n k) s = .next t ∧ ((t.chan n).slot k).started = true ∧
      (t.chan n).grpIdx = ((s.planGroup n).chan n).grpIdx + 1 ∧
      (∀ r, r < 12 → s.codesSlot n r k = true → ((t.chan n).pic k r).isSome = true) ∧
      t.dram = s.dram ∧ (∀ m, m ≠ n.val → t.chan m = s.chan m)) ∧
  (∀ (s : State) (n : Fin 16) (k : Nat) (rend : Fin 12) (u : Nat) (p : RPic) (a : Area),
    (s.chan n).pic k rend = some p → ((s.asOf n k).units n rend)[u]? = some a →
    (p.units.getD u UnitRec.zero).phase = .waiting → s.unitReady n k rend u p a (p.units.getD u UnitRec.zero) = true →
    (p.shape = 0 → s.badInput n k = none ∧ s.badRef n rend p = none) →
    ∃ t x, exec (.unitStart n k rend u []) s = .next t ∧
      (t.chan n).pic k rend = some { p with units := p.units.set u x } ∧
      x.phase = .coding ∧ x.tun = s.unitTun n k rend p a (p.units.getD u UnitRec.zero) ∧
      (s.RowsThere n k rend p a → (s.asOf n k).rcMode n rend ≠ 3 →
        x.target = (s.unitBudget n k rend u p).1 ∧ x.cap = (s.unitBudget n k rend u p).2.1 ∧
        ((s.unitBudget n k rend u p).2.2.2 = false →
          x.qp ≤ (s.asOf n k).fld (ENC_CH_RC_MODE_QP_MAX n rend) ∧ x.qp ≤ qpMax ((s.asOf n k).codec n rend))) ∧
      (s.RowsThere n k rend p a → (s.asOf n k).rcMode n rend = 3 → x.qp = (s.asOf n k).fld (ENC_CH_RC_MODE_QP n rend)) ∧
      (¬ s.RowsThere n k rend p a → x.target = 0 ∧ x.cap = (s.asOf n k).floorOf n rend p.intra a ∧
        x.qp = qpMax ((s.asOf n k).codec n rend)) ∧
      t.fld (ENC_TUN_STAT_BUSY x.tun) = 1 ∧ (∀ m, m ≠ n.val → t.chan m = s.chan m) ∧
      t = { s with enc := t.enc, regs := t.regs } ∧ Keeps s t [ENC_TUN_STAT x.tun, ENC_TUN_WIN_STAT x.tun]) ∧
  (∀ (s : State) (n : Fin 16) (k : Nat) (rend : Fin 12) (u ovh : Nat) (blocks : List BlkIn) (samples : List Int) (p : RPic) (a : Area),
    (s.chan n).pic k rend = some p → ((s.asOf n k).units n rend)[u]? = some a → u < p.units.length →
    (p.units.getD u UnitRec.zero).phase = .coding → s.filterReady n k rend u p a = true → s.wppReady n k rend u a.x1 p = true →
    s.tunFenced (p.units.getD u UnitRec.zero).tun = false →
    s.blockRuns (p.units.getD u UnitRec.zero).tun = true →
    s.bit (ENC_TUN_WIN_STAT_PREFILL (p.units.getD u UnitRec.zero).tun) = false →
    ∃ t x q, exec (.unitEncodeDone n k rend u ovh blocks samples) s = .next t ∧
      (t.chan n).pic k rend = some q ∧ q.units = p.units.set u x ∧ x.phase = .coded ∧
      x.crc = (unitCrc (depthOf ((s.asOf n k).fld (ENC_CH_REND_CODEC_DEPTH n rend))) samples).toNat ∧
      ((s.asOf n k).rcMode n rend ≠ 3 ∨ p.shape ≠ 0 ∨ (p.units.getD u UnitRec.zero).rep = true →
        blocks.length * (s.asOf n k).blockBound n rend p.intra ≤ (p.units.getD u UnitRec.zero).cap →
        x.bits ≤ (p.units.getD u UnitRec.zero).cap) ∧
      ((∀ v, v < p.units.length → v ≠ u → (p.units.getD v UnitRec.zero).phase = .coded) → q.done = true) ∧
      (∀ m, m ≠ n.val → t.chan m = s.chan m) ∧
      ((∃ v, v < p.units.length ∧ v ≠ u ∧ (p.units.getD v UnitRec.zero).phase ≠ .coded) →
        q = { p with units := q.units } ∧ t = { s with enc := t.enc, regs := t.regs } ∧
        Keeps s t ((s.chkOf n k rend u p).toList.map DEC_CHK_STAT ++ [ENC_TUN_STAT (p.units.getD u UnitRec.zero).tun,
          ENC_TUN_WIN_STAT (p.units.getD u UnitRec.zero).tun, ENC_TUN_CNT_RERUN (p.units.getD u UnitRec.zero).tun])))

/-- The next packet of a released access unit whose unit is coded and whose pace allows it leaves on each path that this device sends (R54,
R55), where the paths' flows are in order and their links run; the next one waits the packet's time. A unit whose CRC check fails is dropped and counted, a fault log
record of class 10 is written unless one of its instance was within the second, and the rendition is to make a random-access point (R84,
R454). A broadcast audio packet leaves once the capture time of its first sample plus D has come (R36): PCM on every path of every output stream, AAC-LC in
every transport stream (R263). A taken write of ENC_CH_HINT adds a request for the slot of hintSlot and hintLand (log row 108) for every rendition of a running channel, with event 0x1006 where it moved,
and nothing to one that does not run (R59). A user's trigger that is due comes again after its period or is disarmed (R363): where nothing but timing pins listens, it moves exactly
those that name it (R366); where the mix listens, a mix cycle is counted; where a composer pipe in service with a layout listens, it composes. A channel's frame trigger that is due
goes to the next slot and starts its pictures in row mode; its release trigger releases the slot's pictures (R33, R365). -/
def Obligations.LiveEgress : Prop :=
  (∀ (s : State) (n : Fin 16) (k : Nat) (rend : Fin 12) (bytes : Nat) (last : Bool) (p : RPic),
    (s.chan n).pic k rend = some p → s.sendReady n k rend p = true → s.isStandby = false → (s.chan n).stop = none →
    (∀ f, f ∈ s.livePaths n k rend → s.FlowSends f (s.liveExt ((s.asOf n k).fld (ENC_CH_OUT_FLOW_FLOW n rend)))) →
    ∃ t, exec (.egressPacketSend n k rend bytes last true) s = .next t ∧
      Sent s t ((s.livePaths n k rend).map (fun f => .live (s.livePkt n k rend bytes last p f
        (s.liveExt ((s.asOf n k).fld (ENC_CH_OUT_FLOW_FLOW n rend)))))) ∧
      tget (fun _ => 0) (t.chan n).pace rend = s.raw + s.paceTime n k rend bytes p ∧
      (last = false → (t.chan n).pic k rend = some { p with part := true }) ∧
      (last = true → p.sent + 1 < p.units.length → (t.chan n).pic k rend = some { p with sent := p.sent + 1, part := false }) ∧
      (∀ m, m ≠ n.val → t.chan m = s.chan m) ∧
      t = { s with enc := t.enc, rdn := t.rdn, brg := t.brg, out := t.out, evq := t.evq, ctl := t.ctl, regs := t.regs } ∧ Keeps s t []) ∧
  (∀ (s : State) (n : Fin 16) (k : Nat) (rend : Fin 12) (bytes : Nat) (last : Bool) (p : RPic),
    (s.chan n).pic k rend = some p → s.sendReady n k rend p = true → (s.chan n).stop = none →
    ∃ t, exec (.egressPacketSend n k rend bytes last false) s = .next t ∧ t.out = s.out ∧
      t.fld FWD_CNT_DROP_COUNT = min (s.fld FWD_CNT_DROP_COUNT + 1) (2 ^ FWD_CNT_DROP_COUNT.width - 1) ∧
      (tget (fun _ => Lim.zero) s.safe.suppress (limKey 10 n) = Lim.zero → t.cask.logSeq = s.cask.logSeq + 1 ∧
        t.cask.record s.cask.logSeq = ⟨s.raw / 65536, timeSec s.now, timeNs s.now, s.fld TB_EPOCH_EPOCH, s.cask.boot, 0, n, 10, 3, 0,
          0, s.cask.logSeq, none⟩) ∧
      ((t.chan n).rc rend).forced = 2 ∧ (∀ m, m ≠ n.val → t.chan m = s.chan m) ∧
      t = { s with enc := t.enc, regs := t.regs, safe := t.safe, cask := t.cask } ∧ Keeps s t [FWD_CNT_DROP]) ∧
  (∀ (s : State) (n : Fin 16) (first : Nat),
    s.bit (AUD_BC_CTRL_EN n) = true → (s.chan n).run = true → s.bcDue n first = true → (s.chan n).bcNext ≤ first →
    first % s.bcLen n = 0 →
    (s.fld (AUD_BC_CTRL_OUT n) ≠ 2 → s.fld (AUD_BC_OUT_STREAMS n) ≤ 8 ∧
      ∀ q, q < s.fld (AUD_BC_OUT_STREAMS n) → ∀ o, o ∈ s.bcPaths n → s.FlowSends (s.fld (AUD_BC_FLOW_FLOW n) + q + o) (s.bcExt n q)) →
    ∃ t, exec (.bcAudioRelease n first) s = .next t ∧ (t.chan n).bcNext = first + s.bcLen n ∧
      (s.fld (AUD_BC_CTRL_OUT n) ≠ 2 → ∀ q, q < s.fld (AUD_BC_OUT_STREAMS n) → ∀ o, o ∈ s.bcPaths n →
        Out.audio ⟨n, q, s.fld (AUD_BC_FLOW_FLOW n) + q + o, s.bcExt n q, s.rtpAudio n (s.bcRate n) first, first,
          (List.range (s.fld (AUD_BC_OUT_CH_PER_STREAM n))).map (fun j =>
            if q * s.fld (AUD_BC_OUT_CH_PER_STREAM n) + j < s.fld (AUD_BC_CTRL_NCH n) + 1
            then (List.range (s.bcLen n)).map (fun i => s.bcOut n (s.bcCut n first) (q * s.fld (AUD_BC_OUT_CH_PER_STREAM n) + j) first
              (s.bcLen n) (first + i))
            else List.replicate (s.bcLen n) 0)⟩ ∈ t.out) ∧
      (s.fld (AUD_BC_CTRL_OUT n) = 2 → s.egressOk false = true → ∀ r, r ∈ s.rends n → s.bit (ENC_CH_OUT_PKG_EN n r) = true →
        s.fld (ENC_CH_OUT_PKG_PKG n r) = 1 → Out.aac n r (s.fld (ENC_CH_OUT_FLOW_FLOW n r)) first ∈ t.out) ∧
      (t.chan n).slots = (s.chan n).slots ∧ (t.chan n).pics = (s.chan n).pics ∧ (∀ m, m ≠ n.val → t.chan m = s.chan m) ∧
      t.dram = s.dram ∧ Keeps s t [AUD_BC_CNT_MISS n, RDN_RACK_SEQ_LO, RDN_RACK_SEQ_HI]) ∧
  (∀ (s : State) (p : Port) (n : Fin 16) (v : W32),
    Taken s p (ENC_CH_HINT n) v →
    ∃ t, exec (.chHintWrite p n v) s = .next t ∧ Succeeded t ∧
      ((s.chan n).run = true →
        (t.chan n).hints = (0xFFF, s.hintLand n (s.hintSlot n v.toNat)) :: (s.chan n).hints ∧
        (s.hintLand n (s.hintSlot n v.toNat) ≠ s.hintSlot n v.toNat →
          Raises s t 0x1006 (n + 256) (evArg [(4, 8, s.media n (s.hintLand n (s.hintSlot n v.toNat)))]))) ∧
      ((s.chan n).run = false → t.chan n = s.chan n) ∧
      (t.chan n).slots = (s.chan n).slots ∧ (∀ m, m ≠ n.val → t.chan m = s.chan m) ∧
      t = { s with enc := t.enc, rdn := t.rdn, regs := t.regs, evq := t.evq, ctl := t.ctl, out := t.out } ∧
      Keeps s t [RDN_RACK_SEQ_LO, RDN_RACK_SEQ_HI]) ∧
  (∀ (s : State) (n : Fin 64) (mix : List MixIn),
    n.val < 32 → s.trigDue n = true → s.bit BRG_CFG_EN = false →
    (∀ q, q < 16 → ¬ (s.bit (CMP_PIPE_CFG_EN q) = true ∧ s.fld (CMP_PIPE_CFG_TRIGGER q) = n.val)) →
    ¬ (s.bit AUD_CFG_EN = true ∧ s.fld AUD_CFG_TRIGGER = n.val) → (∀ k, k < 12 → s.bit (DSP_KET_STAT_LOADED k) = false) →
    ¬ (s.bit PWR_WAKE_TRIG_EN = true ∧ s.fld PWR_WAKE_TRIGGER = n.val) →
    ∃ t, exec (.triggerFire n mix) s = .next t ∧
      t.trig n = (s.trig n).after ∧ (∀ m, m < 32 → m ≠ n.val → t.trig m = s.trig m) ∧
      Sent s t (((List.range 8).filter (fun i => s.bit (TB_TIO_CFG_OUT i) && s.fld (TB_TIO_CFG_TRIGGER i) == n.val)).map
        (fun i => .pin i (!s.bit (TB_TIO_CFG_POL i)))) ∧
      t = { s with tb := t.tb, out := t.out }) ∧
  (∀ (s : State) (n : Fin 64) (mix : List MixIn),
    n.val < 32 → s.trigDue n = true → s.bit BRG_CFG_EN = false →
    (∀ q, q < 16 → ¬ (s.bit (CMP_PIPE_CFG_EN q) = true ∧ s.fld (CMP_PIPE_CFG_TRIGGER q) = n.val)) →
    s.bit AUD_CFG_EN = true → s.fld AUD_CFG_TRIGGER = n.val → s.NoPart 21 → s.aud.pack = false →
    (∀ k, k < 12 → s.bit (DSP_KET_STAT_LOADED k) = false) → ¬ (s.bit PWR_WAKE_TRIG_EN = true ∧ s.fld PWR_WAKE_TRIGGER = n.val) →
    ∃ t, exec (.triggerFire n mix) s = .next t ∧ t.aud.cyc = s.aud.cyc + 1 ∧ t.aud.pack = true) ∧
  (∀ (s : State) (n : Fin 64) (mix : List MixIn) (q : Nat),
    n.val < 32 → s.trigDue n = true → s.bit BRG_CFG_EN = false → q < 16 →
    (∀ r, r < 16 → r ≠ q → ¬ (s.bit (CMP_PIPE_CFG_EN r) = true ∧ s.fld (CMP_PIPE_CFG_TRIGGER r) = n.val)) →
    ¬ (s.bit AUD_CFG_EN = true ∧ s.fld AUD_CFG_TRIGGER = n.val) → (∀ k, k < 12 → s.bit (DSP_KET_STAT_LOADED k) = false) →
    ¬ (s.bit PWR_WAKE_TRIG_EN = true ∧ s.fld PWR_WAKE_TRIGGER = n.val) →
    s.bit (CMP_PIPE_CFG_EN q) = true → s.fld (CMP_PIPE_CFG_TRIGGER q) = n.val → s.NoPart (40 + q) → s.pipeFenced q = false →
    (s.comp q).run = none → (s.fetchLayout (s.compLayout q)).isSome = true ∨ (s.comp q).good.isSome = true →
    ∃ t, exec (.triggerFire n mix) s = .next t ∧ t.trig n = (s.trig n).after ∧ (t.comp q).run.isSome = true ∧
      t.bit (CMP_PIPE_STAT_BUSY q) = true) ∧
  (∀ (s : State) (n : Fin 16) (m : Fin 64) (mix : List MixIn),
    m.val = 32 + 2 * n.val → (s.chan n).run = true → s.trigDue m = true → s.NoPart (1 + n) →
    ∃ t, exec (.triggerFire m mix) s = .next t ∧ (t.chan n).next = (s.chan n).next + 1 ∧
      (s.chMode n = 0 → s.slotOk n (s.chan n).next = true → ((t.chan n).slot (s.chan n).next).started = true) ∧
      (t.chan n).released = (s.chan n).released ∧ t.dram = s.dram) ∧
  (∀ (s : State) (n : Fin 16) (m : Fin 64) (mix : List MixIn),
    m.val = 33 + 2 * n.val → (s.chan n).run = true → s.trigDue m = true → (s.chan n).stop = none →
    ∃ t, exec (.triggerFire m mix) s = .next t ∧ (t.chan n).released = (s.chan n).released + 1 ∧
      (t.chan n).next = (s.chan n).next ∧
      (∀ r p, (s.chan n).pic (s.chan n).released r = some p → 0 < r → r < 12 → p.done = false → s.egressOk false = true →
        (t.chan n).pic (s.chan n).released r = some { p with released := true }) ∧
      (∀ j, j ≠ n.val → t.chan j = s.chan j) ∧
      t = { s with enc := t.enc, regs := t.regs, rdn := t.rdn, out := t.out } ∧
      Keeps s t [ENC_CH_STAT n, RDN_RACK_SEQ_LO, RDN_RACK_SEQ_HI])

/-- A taken write of 1 to FENCE fences a tun: FENCED reads 1, CAUSE 4, BUSY 0, and 0x1010 is raised with the cause, the channel that the tun was
assigned to (0xFF where none) and the media time of the first unit it had in flight, 0 where none (R89, R94); with no unit in flight no fault log record
is written. A taken write of 1 to
UNFENCE of a fenced tun starts its self-test: UNFENCE reads 1 (R93). A self-test that passes clears UNFENCE and FENCED and raises
0x1012; one that fails leaves the tun fenced with CAUSE 5 and raises 0x1013 with the number of the vector (R93). A tun in service that fails the
self-test is fenced with CAUSE 5 (R89). No byte of DRAM changes, and the self-test's end after UNFENCE changes no register but the tun's and the pool's. -/
def Obligations.TunFencing : Prop :=
  (∀ (s : State) (p : Port) (t : Fin 40) (v : W32),
    Taken s p (ENC_TUN_CTRL t) v → fieldGet v 0 1 = 1 → s.tunFenced t = false →
    ∃ u, exec (.tunFenceCmd p t v) s = .next u ∧ Succeeded u ∧ u.fld (ENC_TUN_STAT_FENCED t) = 1 ∧
      u.fld (ENC_TUN_STAT_CAUSE t) = 4 ∧ u.fld (ENC_TUN_STAT_BUSY t) = 0 ∧ u.dram = s.dram ∧
      Raises s u 0x1010 t (evArg [(0, 1, 4), (1, 1, if s.bit (ENC_TUN_MAP_VALID t) then s.fld (ENC_TUN_MAP_CHANNEL t) else 0xFF),
        (4, 8, ((s.inFlight t).head?.map (fun x => (((s.chan x.1).pic x.2.1 x.2.2.1).map (fun q => q.media)).getD 0)).getD 0)]) ∧
      (s.inFlight t = [] → u.cask = s.cask)) ∧
  (∀ (s : State) (p : Port) (t : Fin 40) (v : W32),
    Taken s p (ENC_TUN_CTRL t) v → fieldGet v 1 1 = 1 → s.tunFenced t = true →
    ∃ u, exec (.tunUnfenceCmd p t v) s = .next u ∧ Succeeded u ∧ u.fld (ENC_TUN_CTRL_UNFENCE t) = 1 ∧
      u = { s with regs := u.regs, boot := u.boot, ctl := u.ctl } ∧ Keeps s u [ENC_TUN_CTRL t, CFG_BOOT_STAT]) ∧
  (∀ (s : State) (t : Fin 40),
    s.bit (ENC_TUN_CTRL_UNFENCE t) = true →
    ∃ u, exec (.tunSelftestDone t none) s = .next u ∧ u.fld (ENC_TUN_STAT_FENCED t) = 0 ∧
      u.fld (ENC_TUN_CTRL_UNFENCE t) = 0 ∧ Raises s u 0x1012 t 0 ∧
      u = { s with regs := u.regs, evq := u.evq, ctl := u.ctl } ∧
      Keeps s u [ENC_TUN_CTRL t, ENC_TUN_STAT t, ENC_POOL_STAT]) ∧
  (∀ (s : State) (t : Fin 40) (i : Nat),
    s.bit (ENC_TUN_CTRL_UNFENCE t) = true →
    ∃ u, exec (.tunSelftestDone t (some i)) s = .next u ∧ u.fld (ENC_TUN_STAT_FENCED t) = s.fld (ENC_TUN_STAT_FENCED t) ∧
      u.fld (ENC_TUN_STAT_CAUSE t) = 5 ∧ u.fld (ENC_TUN_CTRL_UNFENCE t) = 0 ∧ Raises s u 0x1013 t (evArg [(0, 4, i)]) ∧
      u = { s with regs := u.regs, evq := u.evq, ctl := u.ctl } ∧ Keeps s u [ENC_TUN_CTRL t, ENC_TUN_STAT t]) ∧
  (∀ (s : State) (t : Fin 40) (i : Nat),
    s.bit (ENC_TUN_CTRL_UNFENCE t) = false → s.tunFenced t = false →
    ∃ u, exec (.tunSelftestDone t (some i)) s = .next u ∧ u.fld (ENC_TUN_STAT_FENCED t) = 1 ∧
      u.fld (ENC_TUN_STAT_CAUSE t) = 5 ∧ Raises s u 0x1013 t (evArg [(0, 4, i)]) ∧ u.dram = s.dram)

/-- A 4-line group whose lines are in DRAM is downscaled to the rounded averages of its 4×4 blocks (R98). The search of a row that is ready
writes one entry for each 64×64 block of it, with costs of at most 65,535 and vectors of at most ±2,048 by ±1,024, and without a reference zero vectors and
inter costs of 65,535 (R99, R101, R102); the row is one after which another row is still missing. A tun that goes on to its next search unit counts
corrected errors, and for an inter picture the strips of the next window are resident, within the buffers of R105 after a window in place; STRIPS counts
them (R107). An uncorrectable error fences the tun with CAUSE 2 (R110); poisoned reference lines force a random-access point. A prefill that ends clears PREFILL and is counted, and the window holds
the opening strips of the tun's unit (R109). Everything not named stays as it was. -/
def Obligations.MillAndWindow : Prop :=
  (∀ (s : State) (n : Fin 16) (k g : Nat) (l0 l1 l2 l3 : List Nat),
    (s.chan n).run = true → s.blockRuns (40 + (s.chan n).side.getD 0) = true → 4 * g + 4 ≤ s.fld (ENC_CH_SIZE_HEIGHT n) →
    (∀ i, i < 4 → s.fld (ENC_CH_SIZE_WIDTH n) ≤ tget (fun _ => 0) ((s.chan n).slot k).lines (4 * g + i)) →
    ∃ t, exec (.millGroupDownscale n k g l0 l1 l2 l3) s = .next t ∧
      tfind ((t.chan n).slot k).mill.copy g = some (downscale (l0.map (sampleIn (depthOf (s.fld (ENC_CH_FMT_DEPTH n)))))
        (l1.map (sampleIn (depthOf (s.fld (ENC_CH_FMT_DEPTH n))))) (l2.map (sampleIn (depthOf (s.fld (ENC_CH_FMT_DEPTH n)))))
        (l3.map (sampleIn (depthOf (s.fld (ENC_CH_FMT_DEPTH n)))))) ∧
      (∀ j, j ≠ g → tfind ((t.chan n).slot k).mill.copy j = tfind ((s.chan n).slot k).mill.copy j) ∧
      ((t.chan n).slot k).mill.rows = ((s.chan n).slot k).mill.rows ∧
      (∀ j, j ≠ k → (t.chan n).slot j = (s.chan n).slot j) ∧ (∀ m, m ≠ n.val → t.chan m = s.chan m) ∧
      t = { s with enc := t.enc }) ∧
  (∀ (s : State) (n : Fin 16) (k r r' : Nat),
    s.searchReady n k r = true →
    r' < (s.asOf n k).nRows n 0 → r' ≠ r → tfind ((s.chan n).slot k).mill.rows r' = none → nbit ((s.chan n).slot k).late r' = false →
    ∃ t es, exec (.millRowSearch n k r) s = .next t ∧ tfind ((t.chan n).slot k).mill.rows r = some es ∧
      es.length = (s.asOf n k).rowBlocks n r ∧ (∀ e, e ∈ es → e.intra ≤ 65535 ∧ e.inter ≤ 65535 ∧ e.late = false ∧
        e.mv0x.natAbs ≤ 2048 ∧ e.mv0y.natAbs ≤ 1024 ∧ e.mv1x.natAbs ≤ 2048 ∧ e.mv1y.natAbs ≤ 1024) ∧
      ((s.chan n).millNoRef k = true →
        ∀ e, e ∈ es → e.mv0x = 0 ∧ e.mv0y = 0 ∧ e.mv1x = 0 ∧ e.mv1y = 0 ∧ e.inter = 65535) ∧
      (∀ j, j ≠ r → tfind ((t.chan n).slot k).mill.rows j = tfind ((s.chan n).slot k).mill.rows j) ∧
      (∀ m, m ≠ n.val → t.chan m = s.chan m) ∧ t = { s with enc := t.enc, regs := t.regs } ∧
      Keeps s t [ENC_MILL_STAT 0, ENC_MILL_STAT 1]) ∧
  (∀ (s : State) (t : Fin 40) (corrected n k rend u : Nat) (l : List (Nat × Nat × Nat × Nat)) (p : RPic) (a : Area),
    s.tunFenced t = false → s.inFlight t = (n, k, rend, u) :: l → (s.chan n).pic k rend = some p →
    ((s.asOf n k).units n rend)[u]? = some a → s.bit (ENC_TUN_WIN_STAT_PREFILL t) = false →
    (p.units.getD u UnitRec.zero).prog + 1 < ceilDiv (a.x1 - a.x0) (searchSide ((s.asOf n k).codec n rend)) →
    s.wppReady n k rend u ((p.units.getD u UnitRec.zero).prog + 1) p = true →
    ∃ v, exec (.windowStripLoad t corrected false false) s = .next v ∧
      (v.chan n).pic k rend = some
        { p with units := p.units.set u { p.units.getD u UnitRec.zero with prog := (p.units.getD u UnitRec.zero).prog + 1 } } ∧
      v.fld (ENC_TUN_CNT_WINCORR_COUNT t) = min (s.fld (ENC_TUN_CNT_WINCORR_COUNT t) + corrected) (2 ^ 32 - 1) ∧
      (p.intra = false → p.shape = 0 →
        s.colStrips n k rend a u p ≠ [] →
        (∀ x, x ∈ s.nextStrips n k rend a u p → x ∈ (v.win t).s0) ∧
        ((s.win t).s0 = s.colStrips n k rend a u p → (v.win t).s0.length ≤ stripBufs ((s.asOf n k).codec n rend)) ∧
        v.fld (ENC_TUN_WIN_STAT_STRIPS t) =
          ((v.win t).s0.length + (v.win t).s1.length + (v.win t).ahead) % 2 ^ (ENC_TUN_WIN_STAT_STRIPS t).width) ∧
      (∀ m, m ≠ n → v.chan m = s.chan m) ∧ (∀ w, w ≠ t.val → v.win w = s.win w) ∧
      v = { s with enc := v.enc, regs := v.regs } ∧ Keeps s v [ENC_TUN_WIN_STAT t, ENC_TUN_CNT_WINCORR t]) ∧
  (∀ (s : State) (t : Fin 40) (corrected : Nat) (poison : Bool),
    s.tunFenced t = false → s.inFlight t ≠ [] →
    ∃ v, exec (.windowStripLoad t corrected true poison) s = .next v ∧ v.fld (ENC_TUN_STAT_FENCED t) = 1 ∧
      v.fld (ENC_TUN_STAT_CAUSE t) = 2 ∧ v.dram = s.dram) ∧
  (∀ (s : State) (t : Fin 40) (corrected n k rend u : Nat) (l : List (Nat × Nat × Nat × Nat)),
    s.tunFenced t = false → s.inFlight t = (n, k, rend, u) :: l →
    ∃ v, exec (.windowStripLoad t corrected false true) s = .next v ∧ ((v.chan n).rc rend).forced = 2 ∧ v.dram = s.dram) ∧
  (∀ (s : State) (t : Fin 40),
    s.bit (ENC_TUN_WIN_STAT_PREFILL t) = true →
    ∃ v, exec (.prefillDone t) s = .next v ∧ v.fld (ENC_TUN_WIN_STAT_PREFILL t) = 0 ∧
      v.fld (ENC_TUN_CNT_PREFILL_COUNT t) = min (s.fld (ENC_TUN_CNT_PREFILL_COUNT t) + 1) (2 ^ 32 - 1) ∧
      (∀ n k rend u l p a, s.inFlight t = (n, k, rend, u) :: l → (s.chan n).pic k rend = some p →
        ((s.asOf n k).units n rend)[u]? = some a →
        (v.win t).s0 = stripsAt ((s.asOf n k).codec n rend) ((s.asOf n k).rendW n rend)
          (a.x0 / searchSide ((s.asOf n k).codec n rend)) p.gmv.1.1 ∧ (n * 16 + rend) ∈ (v.win t).filled) ∧
      (∀ w, w ≠ t.val → v.win w = s.win w) ∧
      v = { s with enc := v.enc, regs := v.regs } ∧ Keeps s v [ENC_TUN_WIN_STAT t, ENC_TUN_CNT_PREFILL t])

/-- The oldest unit that waits for a check decoder is verified where the CRC of the decoded samples is the one that the tun sent, and nothing but BUSY and the
picture changes while the picture is not in a re-run (R144, R145); the last one of a re-run raises 0x1441 (R147, R153). Where the CRC differs, or the decoder cannot parse the unit, DEC_CHK_LAST
records it, 0x1440 is raised and the tun is fenced with CAUSE 1 (R146). A bridge picture with the right CRC changes nothing; with a wrong one it raises 0x1440, fences the tun, and
its output's next picture is intra (R150). A check decoder that passes its test slot changes nothing; one that fails is fenced with CAUSE 1, and a taken
write of 1 to FENCE fences one with CAUSE 3, with 0x1443 (R151, R153). A taken write of 1 to UNFENCE of a fenced one starts its test: UNFENCE reads 1; the
test's end clears UNFENCE, and a pass clears FENCED, a failure sets CAUSE 1 (R154). No byte of DRAM changes. -/
def Obligations.CheckDecoding : Prop :=
  (∀ (s : State) (n : Fin 16) (k : Nat) (rend : Fin 12) (u d : Nat) (p : RPic) (v : List Int),
    (s.chan n).pic k rend = some p → s.ChkNext n k rend u d p →
    (unitCrc (depthOf ((s.asOf n k).fld (ENC_CH_REND_CODEC_DEPTH n rend))) v).toNat = (p.units.getD u UnitRec.zero).crc → p.rerun = false →
    ∃ t, exec (.checkUnitDecoded (.live n k rend u) (some v)) s = .next t ∧
      (p.released = false → (t.chan n).pic k rend = some { p with units := p.units.set u { p.units.getD u UnitRec.zero with verified := true } }) ∧
      (∀ m, m ≠ n.val → t.chan m = s.chan m) ∧ t = { s with enc := t.enc, regs := t.regs } ∧ Keeps s t [DEC_CHK_STAT d]) ∧
  (∀ (s : State) (n : Fin 16) (k : Nat) (rend : Fin 12) (u d : Nat) (p : RPic) (v : List Int),
    (s.chan n).pic k rend = some p → s.ChkNext n k rend u d p →
    (unitCrc (depthOf ((s.asOf n k).fld (ENC_CH_REND_CODEC_DEPTH n rend))) v).toNat = (p.units.getD u UnitRec.zero).crc → p.rerun = true →
    (∀ w, w < p.units.length → w ≠ u → (p.units.getD w UnitRec.zero).verified = true) →
    ∃ t, exec (.checkUnitDecoded (.live n k rend u) (some v)) s = .next t ∧
      Raises s t 0x1441 d (evArg [(0, 1, n), (1, 1, rend), (4, 8, p.media)]) ∧ (∀ m, m ≠ n.val → t.chan m = s.chan m) ∧
      t = { s with enc := t.enc, regs := t.regs, evq := t.evq, ctl := t.ctl } ∧ Keeps s t [DEC_CHK_STAT d]) ∧
  (∀ (s : State) (n : Fin 16) (k : Nat) (rend : Fin 12) (u d : Nat) (p : RPic) (r : Option (List Int)),
    (s.chan n).pic k rend = some p → s.ChkNext n k rend u d p → d < 8 →
    (∀ v, r = some v → (unitCrc (depthOf ((s.asOf n k).fld (ENC_CH_REND_CODEC_DEPTH n rend))) v).toNat ≠ (p.units.getD u UnitRec.zero).crc) →
    (p.units.getD u UnitRec.zero).tun < 40 → s.tunFenced (p.units.getD u UnitRec.zero).tun = false →
    ∃ t, exec (.checkUnitDecoded (.live n k rend u) r) s = .next t ∧
      t.rd (DEC_CHK_LAST d) = chkLast u (p.units.getD u UnitRec.zero).tun rend n false ∧
      Raises s t 0x1440 d (evArg [(0, 4, (chkLast u (p.units.getD u UnitRec.zero).tun rend n false).toNat), (4, 8, p.media)]) ∧
      t.fld (ENC_TUN_STAT_FENCED (p.units.getD u UnitRec.zero).tun) = 1 ∧
      t.fld (ENC_TUN_STAT_CAUSE (p.units.getD u UnitRec.zero).tun) = 1 ∧ t.dram = s.dram) ∧
  (∀ (s : State) (o t u crc : Nat) (v : List Int),
    (unitCrc 8 v).toNat = crc → exec (.checkUnitDecoded (.bridge o t u crc) (some v)) s = .next s) ∧
  (∀ (s : State) (o t u crc d : Nat) (r : Option (List Int)),
    t < 40 → s.chkBridge = some d → s.recState 4 o ≠ 0 → s.enc.brgUnchk.contains o = false →
    (∀ v, r = some v → (unitCrc 8 v).toNat ≠ crc) → s.tunFenced t = false →
    ∃ x, exec (.checkUnitDecoded (.bridge o t u crc) r) s = .next x ∧ x.rd (DEC_CHK_LAST d) = chkLast u t 0 0 true ∧
      Raises s x 0x1440 d (evArg [(0, 4, (chkLast u t 0 0 true).toNat), (4, 8, s.now27)]) ∧ o ∈ x.brg.intraNext ∧
      x.fld (ENC_TUN_STAT_FENCED t) = 1 ∧ x.fld (ENC_TUN_STAT_CAUSE t) = 1 ∧ x.dram = s.dram) ∧
  (∀ (s : State) (d : Fin 8), exec (.chkDecTestSlot d true) s = .next s) ∧
  (∀ (s : State) (d : Fin 8), s.chkFenced d = false →
    ∃ t, exec (.chkDecTestSlot d false) s = .next t ∧ t.fld (DEC_CHK_STAT_FENCED d) = 1 ∧ t.fld (DEC_CHK_STAT_CAUSE d) = 1 ∧
      t.fld (DEC_CHK_STAT_BUSY d) = 0 ∧ Raises s t 0x1443 d (evArg [(0, 1, 1)]) ∧ t.dram = s.dram ∧ t.cask.logSeq ≤ s.cask.logSeq + 1) ∧
  (∀ (s : State) (p : Port) (d : Fin 8) (v : W32),
    Taken s p (DEC_CHK_CTRL d) v → fieldGet v 0 1 = 1 → s.chkFenced d = false →
    ∃ t, exec (.chkDecFenceCmd p d v) s = .next t ∧ Succeeded t ∧ t.fld (DEC_CHK_STAT_FENCED d) = 1 ∧
      t.fld (DEC_CHK_STAT_CAUSE d) = 3 ∧ Raises s t 0x1443 d (evArg [(0, 1, 3)]) ∧ t.dram = s.dram ∧ t.cask = s.cask) ∧
  (∀ (s : State) (p : Port) (d : Fin 8) (v : W32),
    Taken s p (DEC_CHK_CTRL d) v → fieldGet v 1 1 = 1 → s.chkFenced d = true →
    ∃ t, exec (.chkDecUnfenceCmd p d v) s = .next t ∧ Succeeded t ∧ t.fld (DEC_CHK_CTRL_UNFENCE d) = 1 ∧
      t = { s with regs := t.regs, boot := t.boot, ctl := t.ctl } ∧ Keeps s t [DEC_CHK_CTRL d, CFG_BOOT_STAT]) ∧
  (∀ (s : State) (d : Fin 8), s.bit (DEC_CHK_CTRL_UNFENCE d) = true →
    ∃ t, exec (.chkDecTestDone d true) s = .next t ∧ t.fld (DEC_CHK_CTRL_UNFENCE d) = 0 ∧
      t.fld (DEC_CHK_STAT_FENCED d) = 0 ∧ t.dram = s.dram ∧ t.cask = s.cask) ∧
  (∀ (s : State) (d : Fin 8), s.bit (DEC_CHK_CTRL_UNFENCE d) = true →
    ∃ t, exec (.chkDecTestDone d false) s = .next t ∧ t.fld (DEC_CHK_CTRL_UNFENCE d) = 0 ∧
      t.fld (DEC_CHK_STAT_CAUSE d) = 1 ∧ t.fld (DEC_CHK_STAT_FENCED d) = s.fld (DEC_CHK_STAT_FENCED d) ∧
      t = { s with regs := t.regs } ∧ Keeps s t [DEC_CHK_CTRL d, DEC_CHK_STAT d])

/-- With forwarding and the bridge enabled, an RTP packet in order of a resident flow without SRTP takes its extended sequence number and is counted (R224); an audio
send flow that goes on with the same source sends it with its own SSRC, sequence offset and timestamp offset (R231). A packet of a known flow whose context is
not resident is counted as a miss, waits, and the context's fetch is asked for once (R23). A fetch among the 64 that run and for which nothing waits any more makes the context
resident; one whose record CRC fails puts the flow into STATE 3 with event 0x1703, and everything that waited is dropped and counted in BRG_CNT_CRC (R214).
A resident context that has been dirty for WB_MS is written back: it is clean, and nothing else changes (R214). -/
def Obligations.ContextCache : Prop :=
  (∀ (s : State) (p : RtpPkt) (f e gap : Nat),
    s.RtpOk p f → (s.fx f).resident = true → s.recState 0 f = 1 → s.flag f 0 = false → s.ff f 0x36 1 = 0 →
    seqCase (s.fresh0 f) (s.ff f 0xC8 8) (s.fx f).probe p.seq = .order e gap → (s.record 0 f).length = 128 →
    ∃ t, exec (.rtpPacketRx p) s = .next t ∧ t.ff f 0xC8 8 = e % 2 ^ 64 ∧
      t.ff f 0x180 8 = (s.ff f 0x180 8 + 1) % 2 ^ 64 ∧ t.ff f 0x188 8 = (s.ff f 0x188 8 + p.len) % 2 ^ 64) ∧
  (∀ (s : State) (p : RtpPkt) (f g e : Nat),
    s.RtpOk p f → (s.fx f).resident = true → s.recState 0 f = 1 → s.flag f 0 = false → s.ff f 0x36 1 = 0 →
    seqCase (s.fresh0 f) (s.ff f 0xC8 8) (s.fx f).probe p.seq = .order e 0 → s.ff f 0x3C 4 ≥ 8192 →
    s.targets f = [g] → (s.fx g).resident = true → s.recState 0 g = 1 → s.isVideo g = false → (s.fx g).prevSrc = some f →
    f < 2097152 → (s.fx g).withheld = 0 → s.flag g 0 = false → s.flag g 2 = false → s.isActive = false → s.egressOk false = true → s.flowUp g = true →
    s.flowLeg g = none → s.sendFlows g = [] → p.bad.contains g = false → g ≠ f →
    ∃ t, exec (.rtpPacketRx p) s = .next t ∧
      Sent s t [.copy g (s.ff g 0x0C 4) ((p.seq + s.ff g 0xC0 2) % 65536) (s.ff g 0xC8 8 + 1) ((p.ts + s.ff g 0xC4 4) % 2 ^ 32) p.len none]) ∧
  (∀ (s : State) (p : RtpPkt) (f : Nat),
    s.RtpOk p f → (s.fx f).resident = false →
    ∃ t, exec (.rtpPacketRx p) s = .next t ∧ t.fx f = { s.fx f with waiting := (s.fx f).waiting ++ [.rtp p] } ∧
      t.brg.fetches = (if s.brg.fetches.contains f then s.brg.fetches else s.brg.fetches ++ [f]) ∧
      t.fld BRG_CNT_MISS_COUNT = min (s.fld BRG_CNT_MISS_COUNT + 1) (2 ^ BRG_CNT_MISS_COUNT.width - 1) ∧
      (∀ g, g ≠ f → t.fx g = s.fx g) ∧ t = { s with brg := t.brg, regs := t.regs } ∧ Keeps s t [BRG_CNT_MISS]) ∧
  (∀ (s : State) (f : Fin 2097152),
    (s.brg.fetches.take 64).contains f.val = true → (s.fx f).waiting = [] →
    ∃ t, exec (.contextFetchDone f true) s = .next t ∧ (t.fx f).resident = true ∧ t.brg.fetches.contains f.val = false ∧
      t.brg.flows = s.brg.flows ∧ t = { s with brg := t.brg, regs := t.regs } ∧
      Keeps s t [BRG_COUNT, BRG_CACHE_STAT, DEC_POOL_CTX]) ∧
  (∀ (s : State) (f : Fin 2097152) (w : List W32),
    (s.brg.fetches.take 64).contains f.val = true → tfind s.brg.flows f = some w → w.length = 128 →
    ∃ t, exec (.contextFetchDone f false) s = .next t ∧ t.recState 0 f = 3 ∧ (t.fx f).waiting = [] ∧
      t.fld BRG_CNT_CRC_COUNT = min (s.fld BRG_CNT_CRC_COUNT + (s.fx f).waiting.length) (2 ^ BRG_CNT_CRC_COUNT.width - 1) ∧
      Raises s t 0x1703 (s.ff f 8 2) (evArg [(0, 1, 0), (4, 4, f)]) ∧ t.out = s.out ∧ t.dram = s.dram) ∧
  (∀ (s : State) (f : Fin 2097152),
    (s.fx f).resident = true → (s.fx f).dirty = true → s.raw ≥ (s.fx f).dirtyRaw + s.fld BRG_CFG_WB_MS * msU →
    ∃ t, exec (.contextWriteback f) s = .next t ∧ t.fx f = { s.fx f with dirty := false } ∧ (∀ g, g ≠ f.val → t.fx g = s.fx g) ∧
      t = { s with brg := { s.brg with fx := t.brg.fx } })

/-- RTCP about a flow whose context is on chip. A report block with LSR about a send flow writes the round-trip time in µs into its record (R226). A PLI or FIR is counted; where no
hold of its source, a flow without SRTP, runs, a request goes to the source and a hold begins; during a hold it waits; a bridge output's next picture is intra (R241). RFC 8888 feedback is added up for the estimator
flow of the leg (R235). A BYE is put into the punt queue, which has room, with event 0x1809 (R223, R226). Of a generic NACK, a number
that the sequence map does not hold is counted as a miss, and, for a flow without SRTP, one whose packet is good in the source's history waits in the leg's pacer as
a retransmission with the number that CNT_RTX has given it (R243). RTCP about a flow whose context is not on chip waits for its fetch (R23). DRAM stays as it was. -/
def Obligations.RtcpReceived : Prop :=
  (∀ (s : State) (f : Fin 2097152) (lsr dlsr : Nat),
    s.RtcpOk f → s.isSend f = true → lsr ≠ 0 →
    ∃ t, exec (.rtcpSrRrRx f lsr dlsr) s = .next t ∧
      t.record 0 f = rput (s.record 0 f) 0x110 4
        ((s.ntpMid + 2 ^ 33 - lsr % 2 ^ 32 - dlsr % 2 ^ 32) % 2 ^ 32 * 1000000 / 65536) ∧
      (∀ g, g ≠ f.val → t.record 0 g = s.record 0 g ∧ t.fx g = s.fx g) ∧ t = { s with brg := t.brg }) ∧
  (∀ (s : State) (f : Fin 2097152) (fir : Bool) (src : Nat),
    s.RtcpOk f → s.isSend f = true → src = s.ff f 0x3C 4 → src < 2 ^ 31 → src ≠ f.val → (s.fx src).holdRaw = none →
    (s.record 0 f).length = 128 → s.flag src 0 = false → s.egressOk false = true →
    ∃ t, exec (.rtcpPliFirRx f fir) s = .next t ∧
      t.record 0 f = rput (s.record 0 f) 0x1A8 4 (s.ff f 0x1A8 4 + 1) ∧ (t.fx src).holdRaw = some s.raw ∧
      Sent s t [.keyframeReq src fir (if fir then ((s.fx src).firSeq + 1) % 256 else (s.fx src).firSeq)] ∧
      t.fld FWD_CNT_KF_SENT_COUNT = min (s.fld FWD_CNT_KF_SENT_COUNT + 1) (2 ^ FWD_CNT_KF_SENT_COUNT.width - 1) ∧
      t = { s with brg := t.brg, regs := t.regs, out := t.out } ∧ Keeps s t [FWD_CNT_KF_SENT]) ∧
  (∀ (s : State) (f : Fin 2097152) (fir : Bool) (src r : Nat),
    s.RtcpOk f → s.isSend f = true → src = s.ff f 0x3C 4 → src < 2 ^ 31 → src ≠ f.val → (s.fx src).holdRaw = some r →
    (s.record 0 f).length = 128 →
    ∃ t, exec (.rtcpPliFirRx f fir) s = .next t ∧
      t.record 0 f = rput (s.record 0 f) 0x1A8 4 (s.ff f 0x1A8 4 + 1) ∧ (t.fx src).pendReq = true ∧
      (t.fx src).pendFir = ((s.fx src).pendFir || fir) ∧ t = { s with brg := t.brg }) ∧
  (∀ (s : State) (f : Fin 2097152) (fir : Bool) (o : Nat),
    s.RtcpOk f → s.isSend f = true → s.ff f 0x3C 4 = 2 ^ 31 + o → o < 2 ^ 31 → (s.record 0 f).length = 128 →
    ∃ t, exec (.rtcpPliFirRx f fir) s = .next t ∧ o ∈ t.brg.intraNext ∧
      t.record 0 f = rput (s.record 0 f) 0x1A8 4 (s.ff f 0x1A8 4 + 1) ∧ t = { s with brg := t.brg }) ∧
  (∀ (s : State) (f : Fin 2097152) (bits lost seen : Nat) (d : Int) (n l e : Nat),
    s.RtcpOk f → s.isSend f = true → s.flowLeg f = some l → s.estFlow l = some e →
    ∃ t, exec (.rtcpFeedbackRx f bits lost seen d n) s = .next t ∧
      (t.fx e).fbBits = (s.fx e).fbBits + bits ∧ (t.fx e).fbLost = (s.fx e).fbLost + lost ∧
      (t.fx e).fbSeen = (s.fx e).fbSeen + seen ∧ (t.fx e).fbDelay = (s.fx e).fbDelay + d ∧
      (t.fx e).fbCnt = (s.fx e).fbCnt + n ∧ (t.fx e).fbRaw = s.raw ∧ (t.fx e).outRaw = none ∧
      (∀ g, g ≠ e → g ≠ f.val → t.fx g = s.fx g) ∧ (∀ g, g ≠ e → t.record 0 g = s.record 0 g) ∧ t = { s with brg := t.brg }) ∧
  (∀ (s : State) (f : Fin 2097152) (ssrc len : Nat) (ws : List W32),
    s.RtcpOk f → s.brg.punt.length < 256 → len ≤ 1536 →
    ∃ t, exec (.rtcpByeRx f ssrc len ws) s = .next t ∧ t.brg.punt = s.brg.punt ++ [Punt.mk f len ws] ∧
      Raises s t 0x1809 f (evArg [(0, 4, ssrc)]) ∧ (∀ g, g ≠ f.val → t.fx g = s.fx g) ∧ t.brg.flows = s.brg.flows ∧
      t = { s with brg := t.brg, regs := t.regs, evq := t.evq, ctl := t.ctl } ∧
      Keeps s t [FWD_PUNT_STAT]) ∧
  (∀ (s u : State) (f : Fin 2097152) (q : Nat) (bad : List Nat),
    s.RtcpOk f → s.isSend f = true → u = (s.useCtx f).fcnt f 0x198 4 1 → u.ff f 0x35 1 ≠ 0 →
    mapFind (u.ff f 0xC8 8) q (u.fx f).smap = none →
    ∃ t, exec (.rtcpNackRx f [q] bad) s = .next t ∧
      t.fld FWD_CNT_NACK_MISS_COUNT = min (s.fld FWD_CNT_NACK_MISS_COUNT + 1) (2 ^ FWD_CNT_NACK_MISS_COUNT.width - 1) ∧
      t = { u with regs := t.regs } ∧ Keeps s t [FWD_CNT_NACK_MISS]) ∧
  (∀ (s u : State) (f : Fin 2097152) (q ofs src l : Nat) (h : HistRec),
    s.RtcpOk f → s.isSend f = true → u = (s.useCtx f).fcnt f 0x198 4 1 → u.ff f 0x35 1 ≠ 0 →
    mapFind (u.ff f 0xC8 8) q (u.fx f).smap = some (ofs, src) →
    (u.fx src).hist.find? (fun h => h.ext % 65536 == (q + 65536 - ofs) % 65536) = some h → u.flowLeg f = some l →
    ((u.legSends l).map (fun g => (u.fx g).rtxBits)).sum + 8 * h.len ≤ u.legEst l * 25 → u.ff f 0x19C 4 < 2 ^ 32 - 1 →
    (s.record 0 f).length = 128 → u.ringPoison src h.ofs (histLen h.len) = false → u.histGood src h = true → s.recState 0 f ≠ 2 → s.flag f 0 = false →
    (16 ≤ u.ff f 0x0A 1 ∨ u.egBridge (u.ff f 0x0A 1) + h.len ≤ 6291456) →
    ∃ t, exec (.rtcpNackRx f [q] []) s = .next t ∧
      (tget (fun _ => Pacer.zero) t.brg.pacers l).queue =
        (tget (fun _ => Pacer.zero) s.brg.pacers l).queue ++ [⟨f, u.ff f 0x19C 4, u.ff f 0x19C 4, 0, h.len, s.raw, true, q⟩] ∧
      (∀ k, k ≠ l → tget (fun _ => Pacer.zero) t.brg.pacers k = tget (fun _ => Pacer.zero) s.brg.pacers k) ∧
      (∀ g, g ≠ f.val → t.record 0 g = s.record 0 g ∧ t.fx g = s.fx g) ∧ t = { s with brg := t.brg }) ∧
  (∀ (s : State) (f : Fin 2097152) (ssrc len : Nat) (ws : List W32),
    s.recState 0 f ≠ 0 → (s.fx f).resident = false →
    ∃ t, exec (.rtcpByeRx f ssrc len ws) s = .next t ∧
      t.fx f = { s.fx f with waiting := (s.fx f).waiting ++ [.rtcp (.bye ssrc len ws)] } ∧
      t.brg.fetches.contains f.val = true ∧ t = { s with brg := t.brg, regs := t.regs } ∧ Keeps s t [BRG_CNT_MISS])

/-- Where egress is allowed, an active flow (STATE 1 or 2) without SRTP, or whose SRTCP index lets a packet leave (R230), sends its report once in each report interval: a
sender report with the NTP and RTP timestamps and its packet and octet counts for a send flow, a receiver report with the extended highest sequence number and
the packets lost for a receive flow; a receive flow with feedback sends its RFC 8888
report of every packet since the last one, every FB_MS (R227), and one generic NACK with every number whose gap was found at the same time, 5 ms after it was found (R225).
A taken fetch of the punt queue moves its oldest packet into the window, with its flow in FWD_PUNT_FLOW, and with none reads 0 there; an injected packet leaves on its
flow (R223). -/
def Obligations.RtcpSent : Prop :=
  (∀ (s : State) (f : Fin 2097152),
    s.flowActive f = true → s.SrtcpMay f → s.egressOk false = true → s.fld FWD_CFG2_RTCP_MS ≠ 0 →
    (s.fx f).repRaw < (s.raw + s.fld FWD_CFG2_RTCP_MS * msU - f.val % 64 * (s.fld FWD_CFG2_RTCP_MS * msU) / 64) /
      (s.fld FWD_CFG2_RTCP_MS * msU) →
    ∃ t, exec (.rtcpReportSend f) s = .next t ∧
      (s.isSend f = true → Out.senderReport f s.ntp (s.rtpNow f) (s.ff f 0x180 4) (s.ff f 0x188 4) ∈ t.out) ∧
      (s.isSend f = false → Out.receiverReport f (s.ff f 0xC8 4) (s.ff f 0x190 3) ∈ t.out) ∧
      (t.fx f).repRaw = (s.raw + s.fld FWD_CFG2_RTCP_MS * msU - f.val % 64 * (s.fld FWD_CFG2_RTCP_MS * msU) / 64) /
        (s.fld FWD_CFG2_RTCP_MS * msU) ∧
      (∀ g, g ≠ f.val → t.fx g = s.fx g) ∧
      (s.flag f 0 = false → t.out.length = s.out.length + 1 ∧ t.brg.flows = s.brg.flows ∧ t = { s with brg := t.brg, out := t.out })) ∧
  (∀ (s : State) (f : Fin 2097152),
    s.flowActive f = true → s.isSend f = false → s.flag f 5 = true → s.SrtcpMay f → s.egressOk false = true →
    s.raw ≥ (s.fx f).fbkRaw + s.fld FWD_CFG_FB_MS * msU →
    ∃ t, exec (.feedbackReportSend f) s = .next t ∧ Out.feedback f (s.fx f).fbPkts ∈ t.out ∧ (t.fx f).fbkRaw = s.raw ∧
      (t.fx f).fbPkts = [] ∧ (∀ g, g ≠ f.val → t.fx g = s.fx g) ∧
      (s.flag f 0 = false → t.out = s.out ++ [.feedback f (s.fx f).fbPkts] ∧ t = { s with brg := { s.brg with fx := t.brg.fx }, out := t.out })) ∧
  (∀ (s : State) (f : Fin 2097152) (e r : Nat) (gs : List (Nat × Nat)),
    (s.fx f).gaps = (e, r) :: gs → s.raw ≥ r + 5 * msU → s.egressOk false = true → s.SrtcpMay f →
    ∃ t, exec (.rxNackSend f) s = .next t ∧
      Out.nack f ((((e, r) :: gs).filter (fun y => y.2 = r)).map (fun y => y.1 % 65536)) ∈ t.out ∧
      (t.fx f).gaps = ((e, r) :: gs).filter (fun y => y.2 ≠ r) ∧ (∀ g, g ≠ f.val → t.fx g = s.fx g) ∧
      (s.flag f 0 = false → t.out.length = s.out.length + 1 ∧ t = { s with brg := t.brg, out := t.out })) ∧
  (∀ (s : State) (p : Port) (q : Punt) (qs : List Punt),
    Taken s p FWD_PUNT_CMD (BitVec.ofNat 32 (1 * 2 ^ 28)) → s.brg.punt = q :: qs →
    ∃ t, exec (.puntFetch p) s = .next t ∧ Succeeded t ∧ t.brg.punt = qs ∧
      t.fld FWD_PUNT_FLOW_FLOW = q.flow % 2 ^ FWD_PUNT_FLOW_FLOW.width ∧ t.rd (FWD_PUNT_DATA 0) = BitVec.ofNat 32 q.len ∧
      (∀ i w, i < 384 → q.words[i]? = some w → t.rd (FWD_PUNT_DATA (i + 1)) = w) ∧
      t = { s with brg := { s.brg with punt := qs }, regs := t.regs, ctl := t.ctl } ∧
      Keeps s t ([FWD_PUNT_CMD, FWD_PUNT_STAT, FWD_PUNT_FLOW] ++ (List.range 385).map FWD_PUNT_DATA)) ∧
  (∀ (s : State) (p : Port),
    Taken s p FWD_PUNT_CMD (BitVec.ofNat 32 (1 * 2 ^ 28)) → s.brg.punt = [] →
    ∃ t, exec (.puntFetch p) s = .next t ∧ Succeeded t ∧ t.rd (FWD_PUNT_DATA 0) = 0 ∧
      t = { s with regs := t.regs, ctl := t.ctl } ∧ Keeps s t [FWD_PUNT_CMD, FWD_PUNT_DATA 0]) ∧
  (∀ (s : State) (p : Port) (f : Fin 2097152),
    Taken s p FWD_PUNT_CMD (BitVec.ofNat 32 (2 * 2 ^ 28 + f.val)) → s.recState 0 f ≠ 0 → s.egressOk false = true →
    ∃ t, exec (.puntSend p f) s = .next t ∧ Succeeded t ∧ Sent s t [.punt f (s.rd (FWD_PUNT_DATA 0)).toNat] ∧
      t = { s with regs := t.regs, ctl := t.ctl, out := t.out } ∧ Keeps s t [FWD_PUNT_CMD])

/-- With feedback without loss or delay reports, a leg's estimate grows by 8 % where the bits received reach half of it, and stays within
MIN and MAX (R235). An output's target lies between 100 kb/s and its greatest, or at its greatest where that is less, and no leg of its
own gets more than 15/16 of its estimate less its audio, down to 100 kb/s (R237). The layer rates of a source take in the bits of the
last 100 ms, and only the source's 128 bytes of the table in DRAM are written (R239). The head of a pacer leaves when the pace allows, is
dropped and counted after MAX_QDLY (R236). An up-switch that has waited asks its source, a flow without SRTP and without a hold, again (R240). A hold of
key-frame requests ends and, when one waited and no random-access point came, one more request is sent for a flow without SRTP (R241). The forwarded usage of a session without a limit
is written to its record (R204). -/
def Obligations.Adaptation : Prop :=
  (∀ (s : State) (l : Fin 262144) (f : Nat),
    s.recState 3 l = 1 → s.raw / (100 * msU) > tget (fun _ => 0) s.brg.due l → s.estFlow l = some f →
    s.raw - (s.fx f).fbRaw < 500 * msU → 0 < (s.fx f).fbSeen → (s.fx f).fbLost = 0 → (s.fx f).fbCnt = 0 → (s.record 0 f).length = 128 →
    ∃ t e, exec (.bweStep l) s = .next t ∧ t.ff f 0x100 4 = e ∧ t.ff f 0x114 2 = 0 ∧
      (2 * (s.fx f).fbBits ≥ s.ff f 0x100 4 * 100 →
        e = max (s.ff f 0x108 4) (min (s.ff f 0x10C 4) (s.ff f 0x100 4 * 108 / 100))) ∧
      (2 * (s.fx f).fbBits < s.ff f 0x100 4 * 100 → e = max (s.ff f 0x108 4) (min (s.ff f 0x10C 4) (s.ff f 0x100 4))) ∧
      (t.fx f).fbSeen = 0 ∧ (t.fx f).fbBits = 0 ∧ t.dram = s.dram) ∧
  (∀ (s : State) (o : Fin 4096),
    s.recState 4 o = 1 → s.raw / (100 * msU) > tget (fun _ => 0) s.brg.due (3 * 2 ^ 24 + o) →
    ∃ t, exec (.outputTargetUpdate o) s = .next t ∧
      tget (fun _ => 0) t.brg.outKbps o ≤ s.rf 4 o 0x20 4 ∧
      min 100 (s.rf 4 o 0x20 4) ≤ tget (fun _ => 0) t.brg.outKbps o ∧
      (∀ l, l ∈ s.liveRecs 3 → s.legKind l = 1 → s.rf 3 l 0x14 4 = o.val →
        tget (fun _ => 0) t.brg.outKbps o ≤ max 100 (s.legEst l * 15 / 16 - s.legAudio l)) ∧
      (∀ p, p ≠ o.val → tget (fun _ => 0) t.brg.outKbps p = tget (fun _ => 0) s.brg.outKbps p) ∧
      t = { s with brg := { s.brg with outKbps := t.brg.outKbps, due := t.brg.due } }) ∧
  (∀ (s : State) (f : Fin 2097152),
    s.recState 0 f ≠ 0 → s.isSend f = false → s.raw / (100 * msU) > tget (fun _ => 0) s.brg.due (1 * 2 ^ 24 + f) →
    ∃ t, exec (.layerRateUpdate f) s = .next t ∧ (t.fx f).layBits = [] ∧
      (∀ a b, a < 4 → b < 8 → tget (fun _ => []) (t.fx f).rates (8 * a + b) =
        (((((s.fx f).layBits.filter (fun kv => decide (kv.1 / 8 ≤ a) && decide (kv.1 % 8 ≤ b))).map (·.2)).sum) ::
          tget (fun _ => []) (s.fx f).rates (8 * a + b)).take 10) ∧
      (∀ x, x < s.pairVal FWD_LRT_BASE_LO FWD_LRT_BASE_HI + 128 * f.val ∨
          s.pairVal FWD_LRT_BASE_LO FWD_LRT_BASE_HI + 128 * f.val + 128 ≤ x → t.dbyte x = s.dbyte x)) ∧
  (∀ (s : State) (l : Fin 262144) (c : Copy) (cs : List Copy) (r : Nat),
    tget (fun _ => Pacer.zero) s.brg.pacers l = ⟨c :: cs, r⟩ → r ≤ s.raw → s.raw - c.raw ≤ s.fld FWD_CFG2_MAX_QDLY * msU →
    s.fld FWD_CFG_PACE * s.legEst l ≠ 0 → s.egressOk false = true → s.flowUp c.flow = true → c.rtx = true →
    ∃ t, exec (.pacedCopySend l) s = .next t ∧ Sent s t [.rtx c.flow ((s.ff c.flow 0x0C 4 + 1) % 2 ^ 32) (s.ff c.flow 0x35 1) c.seq c.osn] ∧
      tget (fun _ => Pacer.zero) t.brg.pacers l = ⟨cs, max s.raw r + s.copyTime l c.len⟩ ∧
      t = { s with brg := { s.brg with pacers := t.brg.pacers }, out := t.out }) ∧
  (∀ (s : State) (l : Fin 262144) (c : Copy) (cs : List Copy) (r : Nat),
    tget (fun _ => Pacer.zero) s.brg.pacers l = ⟨c :: cs, r⟩ → r ≤ s.raw → s.raw - c.raw ≤ s.fld FWD_CFG2_MAX_QDLY * msU →
    s.fld FWD_CFG_PACE * s.legEst l ≠ 0 → s.egressOk false = true → s.flowUp c.flow = true → c.rtx = false → (s.sendFlows c.flow = []) →
    (s.record 0 c.flow).length = 128 →
    ∃ t, exec (.pacedCopySend l) s = .next t ∧ Sent s t [.copy c.flow (s.ff c.flow 0x0C 4) c.seq c.ext c.ts c.len (if s.flag c.flow 2 then some s.gyle else none)] ∧
      tget (fun _ => Pacer.zero) t.brg.pacers l = ⟨cs, max s.raw r + s.copyTime l c.len⟩ ∧
      t = { s with brg := t.brg, out := t.out }) ∧
  (∀ (s : State) (l : Fin 262144) (c : Copy) (cs : List Copy) (r : Nat),
    tget (fun _ => Pacer.zero) s.brg.pacers l = ⟨c :: cs, r⟩ → s.raw - c.raw > s.fld FWD_CFG2_MAX_QDLY * msU →
    ∃ t, exec (.pacerDrop l) s = .next t ∧ tget (fun _ => Pacer.zero) t.brg.pacers l = ⟨cs, r⟩ ∧
      t.fld FWD_CNT_DROP_COUNT = min (s.fld FWD_CNT_DROP_COUNT + 1) (2 ^ FWD_CNT_DROP_COUNT.width - 1) ∧
      t.out = s.out ∧ t = { s with brg := t.brg, regs := t.regs } ∧
      Keeps s t (FWD_CNT_DROP :: (if s.ff c.flow 0x0A 1 < 16 then [FWD_EG_CNT_DROP (s.ff c.flow 0x0A 1)] else []))) ∧
  (∀ (s : State) (f : Fin 2097152) (r src : Nat),
    (s.fx f).upRaw = some r → s.recState 0 f ≠ 0 → s.isSend f = true → s.raw ≥ r + s.fld FWD_CFG2_KF_WAIT * 100 * msU →
    src = s.ff f 0x3C 4 → src < 2 ^ 31 → src ≠ f.val → (s.fx src).holdRaw = none → s.flag src 0 = false → s.egressOk false = true →
    ∃ t, exec (.upswitchPliTimeout f) s = .next t ∧ (t.fx f).upRaw = some s.raw ∧
      Sent s t [.keyframeReq src false (s.fx src).firSeq] ∧
      t = { s with brg := t.brg, regs := t.regs, out := t.out } ∧ Keeps s t [FWD_CNT_KF_SENT]) ∧
  (∀ (s : State) (f : Fin 2097152) (r : Nat),
    (s.fx f).holdRaw = some r → s.raw ≥ r + s.fld FWD_CFG_KF_HOLD * 10 * msU →
    ∃ t, exec (.keyframeHoldEnd f) s = .next t ∧
      (((s.fx f).pendReq = false ∨ (s.fx f).rapSince = true) →
        t = s.setFx f { s.fx f with holdRaw := none, pendReq := false, pendFir := false }) ∧
      ((s.fx f).pendReq = true → (s.fx f).rapSince = false → s.flag f 0 = false → s.egressOk false = true →
        Sent s t [.keyframeReq f (s.fx f).pendFir (if (s.fx f).pendFir then ((s.fx f).firSeq + 1) % 256 else (s.fx f).firSeq)] ∧
        (t.fx f).holdRaw = some s.raw) ∧
      (∀ g, g ≠ f.val → t.fx g = s.fx g) ∧ t.dram = s.dram) ∧
  (∀ (s : State) (x : Fin 32768) (w : List W32),
    s.recState 2 x = 1 → tfind s.brg.sess x = some w → w.length = 16 → s.sessLegs x = [] →
    s.raw / (100 * msU) > tget (fun _ => 0) s.brg.due (2 * 2 ^ 24 + x) → s.rf 2 x 16 4 = 0xFFFFFFFF → s.rf 2 x 0x2C 4 = 0 →
    ∃ t, exec (.fwdUsageUpdate x) s = .next t ∧
      t.record 2 x = rput w 0x14 4 (0 + (tget (fun _ => []) s.brg.remote x).getD 1 0) ∧ t = { s with brg := t.brg })

/-- A taken fetch puts the record into the window's DATA registers, the keys of a flow as zeros, with ERR 0, or with ERR 2 where the CRC of a
record in DRAM did not match; one of a type or an index that does not exist gives ERR 1 and changes no DATA register (R217). A taken stage
puts the window's words into the steep bank in place of an earlier stage of the same record and clears CHECKED; with 1,024 other records in
the bank it gives ERR 3 and the bank stays; a discard takes the record out of the bank (R217, R551, R552). The home of a session whose
quotas have room grants a member's addition, counts it in the group sums and says so; with no room in one of the four it refuses and counts
that; a member notes the answer (R210). -/
def Obligations.BridgeWindow : Prop :=
  (∀ (s : State) (p : Port) (ty : Fin 16) (i : Nat) (bad : Bool),
    Taken s p BRG_WIN_CMD (BitVec.ofNat 32 (1 * 2 ^ 28 + ty * 2 ^ 24 + i % 2 ^ 22)) → ty.val ≤ 4 → i < recCount ty →
    ∃ t, exec (.brgWinFetch p ty i bad) s = .next t ∧ Succeeded t ∧
      t.fld BRG_WIN_STAT_ERR = (if bad && s.recValid ty i && !(ty == 0 && (s.fx i).resident) then 2 else 0) ∧
      (∀ j w, j < recWords ty → (s.fetchRec ty i)[j]? = some w → t.rd (BRG_WIN_DATA j) = w) ∧
      t = { s with regs := t.regs, ctl := t.ctl }) ∧
  (∀ (s : State) (p : Port) (ty : Fin 16) (i : Nat) (bad : Bool),
    Taken s p BRG_WIN_CMD (BitVec.ofNat 32 (1 * 2 ^ 28 + ty * 2 ^ 24 + i % 2 ^ 22)) → (ty.val > 4 ∨ recCount ty ≤ i % 2 ^ 22) →
    ∃ t, exec (.brgWinFetch p ty i bad) s = .next t ∧ t.fld BRG_WIN_STAT_ERR = 1 ∧
      t = { s with regs := t.regs, ctl := t.ctl } ∧ Keeps s t [BRG_WIN_CMD, BRG_WIN_STAT]) ∧
  (∀ (s : State) (p : Port) (ty : Fin 16) (i : Nat),
    Taken s p BRG_WIN_CMD (BitVec.ofNat 32 (2 * 2 ^ 28 + ty * 2 ^ 24 + i % 2 ^ 22)) → s.stageStatus p.owner true = 0 →
    ty.val ≤ 4 → i < recCount ty → s.stage.records.length < 1024 →
    ∃ t, exec (.brgWinStage p ty i) s = .next t ∧ Succeeded t ∧
      t.stage.records = s.stage.records.filter (fun x => ¬ (x.typ = ty.val ∧ x.index = i)) ++
        [⟨ty, i, s.winGet (BRG_WIN_DATA 0) (recWords ty)⟩] ∧
      t.stage.owner = p.owner ∧ t.fld CFG_STAGE_STAT_CHECKED = 0 ∧
      t = { s with regs := t.regs, ctl := t.ctl, stage := t.stage } ∧ Keeps s t [BRG_WIN_CMD, BRG_WIN_STAT, CFG_STAGE_STAT]) ∧
  (∀ (s : State) (p : Port) (ty : Fin 16) (i : Nat),
    Taken s p BRG_WIN_CMD (BitVec.ofNat 32 (2 * 2 ^ 28 + ty * 2 ^ 24 + i % 2 ^ 22)) → s.stageStatus p.owner true = 0 →
    ty.val ≤ 4 → i < recCount ty → 1024 ≤ s.stage.records.length → (∀ x, x ∈ s.stage.records → ¬ (x.typ = ty.val ∧ x.index = i)) →
    ∃ t, exec (.brgWinStage p ty i) s = .next t ∧ t.fld BRG_WIN_STAT_ERR = 3 ∧ t.stage = s.stage ∧
      t = { s with regs := t.regs, ctl := t.ctl } ∧ Keeps s t [BRG_WIN_CMD, BRG_WIN_STAT]) ∧
  (∀ (s : State) (p : Port) (ty : Fin 16) (i : Nat),
    Taken s p BRG_WIN_CMD (BitVec.ofNat 32 (3 * 2 ^ 28 + ty * 2 ^ 24 + i % 2 ^ 22)) → ty.val ≤ 4 → i < recCount ty →
    ∃ t, exec (.brgWinDiscard p ty i) s = .next t ∧ Succeeded t ∧
      t.stage.records = s.stage.records.filter (fun r => !(r.typ == ty.val && r.index == i)) ∧
      t = { s with regs := t.regs, ctl := t.ctl, stage := t.stage } ∧ Keeps s t [BRG_WIN_CMD, BRG_WIN_STAT, CFG_STAGE_STAT]) ∧
  (∀ (s : State) (x : Fin 32768) (leg fwd dec mix : Nat),
    s.recState 2 x = 1 → s.rf 2 x 2 2 % 4096 = s.ownAddr → s.roomQ x 0 1 = true → s.roomQ x 1 fwd = true →
    s.roomQ x 2 dec = true → s.roomQ x 3 mix = true →
    ∃ t, exec (.admissionRequestRx x leg fwd dec mix) s = .next t ∧ Sent s t [.admission x leg true] ∧
      tget (fun _ => []) t.brg.remote x =
        [(tget (fun _ => []) s.brg.remote x).getD 0 0 + 1, (tget (fun _ => []) s.brg.remote x).getD 1 0 + fwd,
         (tget (fun _ => []) s.brg.remote x).getD 2 0 + dec, (tget (fun _ => []) s.brg.remote x).getD 3 0 + mix] ∧
      t = { s with brg := t.brg, out := t.out }) ∧
  (∀ (s : State) (x : Fin 32768) (leg fwd dec mix : Nat),
    s.recState 2 x = 1 → s.rf 2 x 2 2 % 4096 = s.ownAddr →
    (s.roomQ x 0 1 && s.roomQ x 1 fwd && s.roomQ x 2 dec && s.roomQ x 3 mix) = false →
    ∃ t, exec (.admissionRequestRx x leg fwd dec mix) s = .next t ∧ Sent s t [.admission x leg false] ∧
      t.fld BRG_CNT_REFUSED_COUNT = min (s.fld BRG_CNT_REFUSED_COUNT + 1) (2 ^ BRG_CNT_REFUSED_COUNT.width - 1) ∧
      t = { s with regs := t.regs, out := t.out } ∧ Keeps s t [BRG_CNT_REFUSED]) ∧
  (∀ (s : State) (x : Fin 32768) (leg : Nat) (grant : Bool),
    ∃ t, exec (.admissionGrantRx x leg grant) s = .next t ∧ t.brg.admits.length = s.brg.admits.length ∧
      (∀ (i : Nat) (a : Admit), s.brg.admits[i]? = some a → a.sess = x.val → a.leg = leg → a.grant = none →
        t.brg.admits[i]? = some { a with grant := some grant }) ∧
      (∀ (i : Nat) (a : Admit), s.brg.admits[i]? = some a → ¬ (a.sess = x.val ∧ a.leg = leg ∧ a.grant = none) → t.brg.admits[i]? = some a) ∧
      t = { s with brg := { s.brg with admits := t.brg.admits } })

/-- A free core takes the oldest queued access unit of its contexts and starts its lowest layer picture with the budget of R164, and is BUSY; in
WAIT_RAP only one that can start decoding is taken so (R160, R166, R172). A context whose record fails its CRC is SUSPENDED with 0x1408
(R171). An access unit that the context's limits refuse leaves its queue, and the context waits for a random-access point (R168). A layer picture below the last
of its access unit is followed by the next with a budget of its own (R160, R164). The last one, clean in a running context, becomes LATEST
and the GOOD picture of its layer, its descriptor is written, the core is free again, and no byte of DRAM outside the window, or off the
descriptor and the core's writes, changes (R161, R169). One whose parts were lost is output with cause 2, and one whose budget is used up
is cut with cause 3 and counted; a request condition holds from then (R162, R165, R173). While a condition lasts and its time has come a
PLI, or a FIR under policies 2 and 3, is sent again (R173). No record change waits in the context. -/
def Obligations.DecodePictures : Prop :=
  (∀ (s : State) (d : Fin 24) (c : Nat) (q : QAu) (qs : List QAu) (l : LayerPic) (ls : List LayerPic),
    s.coreFenced d = false → s.blockRuns (42 + d) = true → s.coreJob d = none → s.coreNext d = some c → (s.dx c).queue = q :: qs → s.auRefuse c q.au = 0 →
    (s.recState 1 c ≠ 1 ∨ q.au.starts = true) → (q.au.rasl = false ∨ (s.dx c).skip = false) →
    s.auLayers c q.au (effLayer (s.ctxTarget c) (s.dx c).eff q.au) = l :: ls →
    ∃ t, exec (.decodePictureStart d true) s = .next t ∧
      t.dx c = { s.dx c with
        queue := qs, eff := effLayer (s.ctxTarget c) (s.dx c).eff q.au, skip := (if q.au.rap = true then s.recState 1 c == 1 else (s.dx c).skip)
        job := some ⟨q.au, l :: ls, s.raw, 0, s.raw, decBudget (s.fld DEC_POOL_CFG_BUDGET_MULT) l.width l.height (cf3 q.au.par.chroma), []⟩ } ∧
      (∀ e, e ≠ c → t.dx e = s.dx e) ∧
      t.fld (DEC_CORE_STAT_BUSY d) = 1 ∧ t = { s with brg := { s.brg with dx := t.brg.dx }, regs := t.regs } ∧
      Keeps s t [DEC_CORE_STAT d]) ∧
  (∀ (s : State) (d : Fin 24) (c : Nat) (q : QAu) (qs : List QAu) (w : List W32),
    s.coreFenced d = false → s.blockRuns (42 + d) = true → s.coreJob d = none → s.coreNext d = some c → (s.dx c).queue = q :: qs →
    tfind s.brg.decs c = some w → w.length = 32 →
    ∃ t, exec (.decodePictureStart d false) s = .next t ∧ t.recState 1 c = 5 ∧ (t.dx c).crcBad = true ∧ (t.dx c).queue = q :: qs ∧
      Raises s t 0x1408 c (evArg [(0, 1, 1)]) ∧ t = { s with brg := t.brg, regs := t.regs, evq := t.evq, ctl := t.ctl }) ∧
  (∀ (s : State) (d : Fin 24) (c : Nat) (q : QAu) (qs : List QAu) (w : List W32),
    s.coreFenced d = false → s.blockRuns (42 + d) = true → s.coreJob d = none → s.coreNext d = some c → (s.dx c).queue = q :: qs → s.auRefuse c q.au ≠ 0 →
    tfind s.brg.decs c = some w → w.length = 32 →
    ∃ t, exec (.decodePictureStart d true) s = .next t ∧ t.recState 1 c = 1 ∧ (t.dx c).queue = qs ∧ (t.dx c).job = (s.dx c).job ∧
      t.dram = s.dram) ∧
  (∀ (s : State) (d : Fin 24) (c : Nat) (j : DecJob) (l m : LayerPic) (ls : List LayerPic) (r : DecRes),
    s.coreJob d = some c → (s.dx c).job = some j → j.todo = l :: m :: ls → s.decViolation c r = none →
    ∃ t k, exec (.decodePictureDone d r) s = .next t ∧
      (t.dx c).job = some ⟨j.au, m :: ls, s.raw, 0, s.raw, decBudget (s.fld DEC_POOL_CFG_BUDGET_MULT) m.width m.height (cf3 j.au.par.chroma), j.got ++ [⟨l.sid, r.desc, k⟩]⟩ ∧
      t.fld (DEC_CORE_STAT_BUSY d) = 1 ∧ (∀ a, s.inWindow c a 1 = false → t.dbyte a = s.dbyte a)) ∧
  (∀ (s : State) (d : Fin 24) (c : Nat) (j : DecJob) (l : LayerPic) (r : DecRes) (w : List W32),
    s.coreJob d = some c → (s.dx c).job = some j → j.todo = [l] → j.got = [] → l.sid < 4 → tfind s.brg.decs c = some w → w.length = 32 →
    s.recState 1 c = 3 → (s.dx c).next = none → (s.dx c).held = 0 → (s.dx c).taint = false → l.lost = false → s.decViolation c r = none →
    r.syntaxE = false → r.lost = false → r.hashOk ≠ some false → r.refs.any s.refMissing = false → r.refs.any s.refConc = false → r.areas = [] →
    ∃ t, exec (.decodePictureDone d r) s = .next t ∧ t.rf 1 c 0x30 8 = r.desc % 2 ^ 64 ∧ t.rf 1 c (0x38 + 8 * l.sid) 8 = r.desc % 2 ^ 64 ∧
      t.rf 1 c 14 1 = l.sid ∧ t.rf 1 c 0x58 4 = (s.rf 1 c 0x58 4 + 1) % 2 ^ 32 ∧ t.recState 1 c = 3 ∧
      (t.dx c).job = none ∧ t.fld (DEC_CORE_STAT_BUSY d) = 0 ∧
      ((∀ i, i < 64 → s.inWindow c (r.desc + i) 1 = true ∧ (s.xlate (r.desc + i)).isSome = true) →
        t.dbytes r.desc 64 = (s.decDesc r.desc r.base l.width l.height j.au.par.chroma j.au.par.depth
          (b2n r.intra + 32 * b2n (if l.sid = 0 then j.au.rap else l.up)) j.au.media).bytes) ∧
      (∀ a, s.inWindow c a 1 = false → t.dbyte a = s.dbyte a) ∧
      (∀ a, Off a r.desc 64 → (∀ x, x ∈ r.writes → Off a x.1 x.2.length) → t.dbyte a = s.dbyte a) ∧
      t = { s with brg := t.brg, regs := t.regs, out := t.out, dram := t.dram } ∧ Keeps s t [DEC_CORE_STAT d]) ∧
  (∀ (s : State) (d : Fin 24) (c : Nat) (j : DecJob) (l : LayerPic) (r : DecRes) (w : List W32),
    s.coreJob d = some c → (s.dx c).job = some j → j.todo = [l] → j.got = [] → tfind s.brg.decs c = some w → w.length = 32 →
    (s.dx c).next = none → (s.dx c).held = 0 → (l.lost = true ∨ r.lost = true) → s.decViolation c r = none →
    r.syntaxE = false → r.hashOk ≠ some false →
    ∃ t, exec (.decodePictureDone d r) s = .next t ∧ t.rf 1 c 0x30 8 = r.desc % 2 ^ 64 ∧ t.rf 1 c 15 1 = 2 ∧
      t.rf 1 c 0x5C 4 = (s.rf 1 c 0x5C 4 + 1) % 2 ^ 32 ∧ (t.dx c).job = none ∧ (t.dx c).cond = true ∧ t.fld (DEC_CORE_STAT_BUSY d) = 0 ∧
      (∀ a, s.inWindow c a 1 = false → t.dbyte a = s.dbyte a)) ∧
  (∀ (s : State) (d : Fin 24) (c : Nat) (j : DecJob) (l : LayerPic) (r : DecRes) (w : List W32),
    s.coreJob d = some c → (s.dx c).job = some j → j.todo = [l] → j.got = [] → tfind s.brg.decs c = some w → w.length = 32 →
    j.budget ≤ s.jobCycles d j → (s.dx c).next = none → (s.dx c).held = 0 → s.decViolation c r = none →
    ∃ t, exec (.decodeBudgetCut d r) s = .next t ∧ t.rf 1 c 0x30 8 = r.desc % 2 ^ 64 ∧ t.rf 1 c 15 1 = 3 ∧
      t.rf 1 c 0x60 4 = (s.rf 1 c 0x60 4 + 1) % 2 ^ 32 ∧ (t.dx c).job = none ∧ (t.dx c).cond = true ∧ t.fld (DEC_CORE_STAT_BUSY d) = 0 ∧
      t.fld (DEC_CORE_CNT_CUT_COUNT d) = min (s.fld (DEC_CORE_CNT_CUT_COUNT d) + 1) (2 ^ (DEC_CORE_CNT_CUT_COUNT d).width - 1) ∧
      (∀ a, s.inWindow c a 1 = false → t.dbyte a = s.dbyte a)) ∧
  (∀ (s : State) (c : Fin 8192) (w : List W32) (fir : Bool),
    (s.dx c).cond = true → 0 < (s.dx c).reqs → s.raw ≥ (s.dx c).condRaw + (s.dx c).reqs * s.fld DEC_POOL_CFG_REQ_HOLD * 10 * msU →
    tfind s.brg.decs c = some w → w.length = 32 → s.rf 1 c 3 1 % 4 ≠ 0 → fir = decide (2 ≤ s.rf 1 c 3 1 % 4) →
    (s.fx (s.rf 1 c 4 4)).holdRaw = none → s.egressOk false = true → s.SrtcpMay (s.rf 1 c 4 4) →
    ∃ t, exec (.keyframeReqRepeat c) s = .next t ∧ (t.dx c).reqs = (s.dx c).reqs + 1 ∧ t.dram = s.dram ∧
      .keyframeReq (s.rf 1 c 4 4) fir (if fir then ((s.fx (s.rf 1 c 4 4)).firSeq + 1) % 256 else (s.fx (s.rf 1 c 4 4)).firSeq) ∈ t.out ∧
      (s.flag (s.rf 1 c 4 4) 0 = false →
        Sent s t [.keyframeReq (s.rf 1 c 4 4) fir (if fir then ((s.fx (s.rf 1 c 4 4)).firSeq + 1) % 256 else (s.fx (s.rf 1 c 4 4)).firSeq)] ∧
        t = { s with brg := t.brg, regs := t.regs, out := t.out } ∧ Keeps s t [FWD_CNT_KF_SENT]))

/-- A test slot that passes lengthens the uncounted time of a running picture by 0.4 ms and changes nothing on an idle core; one that fails
fences the core with CAUSE 1, and a taken write of 1 to FENCE with CAUSE 4; a core without contexts raises 0x1401 with no context moved
or suspended (R175, R176). A taken write of 1 to UNFENCE of a fenced core starts its test; a pass clears FENCED with 0x1402 and a
failure sets CAUSE 1 (R177). No context is suspended in these states. -/
def Obligations.DecodeFencing : Prop :=
  (∀ (s : State) (d : Fin 24), s.coreJob d = none → exec (.decCoreTestSlot d true) s = .next s) ∧
  (∀ (s : State) (d : Fin 24) (c : Nat) (j : DecJob),
    s.coreFenced d = false → s.coreJob d = some c → (s.dx c).job = some j →
    exec (.decCoreTestSlot d true) s =
      .next (s.setDx c { s.dx c with job := some { j with paused := j.paused + 400 * usU, mark := j.mark + 400 * usU } })) ∧
  (∀ (s : State) (d : Fin 24), s.coreFenced d = false → s.coreCtx d = [] →
    ∃ t, exec (.decCoreTestSlot d false) s = .next t ∧ t.fld (DEC_CORE_STAT_FENCED d) = 1 ∧
      t.fld (DEC_CORE_STAT_CAUSE d) = 1 ∧ Raises s t 0x1401 d (evArg [(0, 1, 1), (4, 4, 0), (8, 4, 0)]) ∧
      t = { s with regs := t.regs, evq := t.evq, ctl := t.ctl, safe := t.safe, cask := t.cask }) ∧
  (∀ (s : State) (p : Port) (d : Fin 24) (v : W32),
    Taken s p (DEC_CORE_CTRL d) v → fieldGet v 0 1 = 1 → s.coreFenced d = false → s.coreCtx d = [] →
    ∃ t, exec (.decCoreFenceCmd p d v) s = .next t ∧ Succeeded t ∧ t.fld (DEC_CORE_STAT_FENCED d) = 1 ∧
      t.fld (DEC_CORE_STAT_CAUSE d) = 4 ∧ t.dram = s.dram ∧ t.cask = s.cask ∧ t.brg = s.brg) ∧
  (∀ (s : State) (p : Port) (d : Fin 24) (v : W32),
    Taken s p (DEC_CORE_CTRL d) v → fieldGet v 1 1 = 1 → s.coreFenced d = true →
    ∃ t, exec (.decCoreUnfenceCmd p d v) s = .next t ∧ Succeeded t ∧ t.fld (DEC_CORE_CTRL_UNFENCE d) = 1 ∧
      t.fld (DEC_CORE_STAT_TEST d) = 1 ∧ t = { s with regs := t.regs, boot := t.boot, ctl := t.ctl } ∧
      Keeps s t [DEC_CORE_CTRL d, DEC_CORE_STAT d, CFG_BOOT_STAT]) ∧
  (∀ (s : State) (d : Fin 24),
    s.bit (DEC_CORE_CTRL_UNFENCE d) = true → (∀ c, c ∈ s.liveRecs 1 → s.recState 1 c ≠ 5) →
    ∃ t, exec (.decCoreUnfenceDone d true) s = .next t ∧ t.fld (DEC_CORE_STAT_FENCED d) = 0 ∧
      t.fld (DEC_CORE_CTRL_UNFENCE d) = 0 ∧ t.fld (DEC_CORE_STAT_TEST d) = 0 ∧ Raises s t 0x1402 d 0 ∧
      t = { s with regs := t.regs, evq := t.evq, ctl := t.ctl }) ∧
  (∀ (s : State) (d : Fin 24), s.bit (DEC_CORE_CTRL_UNFENCE d) = true →
    ∃ t, exec (.decCoreUnfenceDone d false) s = .next t ∧ t.fld (DEC_CORE_STAT_CAUSE d) = 1 ∧
      t.fld (DEC_CORE_STAT_FENCED d) = s.fld (DEC_CORE_STAT_FENCED d) ∧ t.fld (DEC_CORE_CTRL_UNFENCE d) = 0 ∧
      t = { s with regs := t.regs } ∧ Keeps s t [DEC_CORE_CTRL d, DEC_CORE_STAT d])

/-- A strip whose line sums match within one unit a sample is written, the lines of the three planes that lie in it and no other byte, and the
composition goes on to its next strip; layers that came back poisoned are mid-grey from then on and mark the output concealed (R184, R187, R191,
R452). The last strip completes the output: its descriptor of 64 bytes is written after the lines, and the next of the three buffers is taken
(R187, R188). A merge has no lines and completes at once (R195). A strip whose sums do not match fences its pipe with CAUSE 1 and 0x1601 with
the line, writes nothing, and is composed again (R191, R192). A bridge output whose composition completes is encoded: the picture answers what
intra picture was asked for, and the new target lands with it (R203, R237; what is sent to its receivers is log entry 97). A merge that has
waited RAP_WAIT for random-access points waits no more, and the inputs without one are substituted with 0x1605 (R194, R195). A passed test
slot changes nothing and a failed one fences the pipe; a taken write of 1 to FENCE fences it with CAUSE 3, one to UNFENCE of a fenced pipe
starts its test, and a pass ends the fence with 0x1602 (R192). What CAUSE reads after a failed test is a free value of the model (log entry
27), and nothing is said of it. -/
def Obligations.ComposerPipes : Prop :=
  (∀ (s : State) (key : Fin 4112) (sums : List Int) (poison : List Nat) (c : Comp),
    (s.comp key).run = some c → s.pipeFenced (s.compPipe key) = false → s.blockRuns (74 + s.compPipe key) = true → c.merge = false →
    lineMismatch (16 * c.strip) (s.stripSums (c.poisoned poison) sums) = none → (c.strip + 1) * 16 < c.lay.height →
    ∃ t, exec (.stripComposed key sums poison) s = .next t ∧
      t.comp key = { s.comp key with run := some { c.poisoned poison with strip := c.strip + 1 } } ∧ (∀ k, k ≠ key.val → t.comp k = s.comp k) ∧
      (∀ p y, c.InStrip p y → (∀ q z, c.InStrip q z → (q ≠ p ∨ z ≠ y) → ∀ i, i < int18Line (c.out.planeW p) →
          Off (c.lineAt p y + i) (c.lineAt q z) (int18Line (c.out.planeW q))) →
        t.dbytes (c.lineAt p y) (int18Line (c.out.planeW p)) = int18LineBytes (s.outLine (c.poisoned poison) p (y / subY c.lay.chroma p))) ∧
      (∀ a, (∀ p y, c.InStrip p y → Off a (c.lineAt p y) (int18Line (c.out.planeW p))) → t.dbyte a = s.dbyte a) ∧
      t = { s with brg := { s.brg with comps := t.brg.comps }, dram := t.dram }) ∧
  (∀ (s : State) (key : Fin 4112) (sums : List Int) (poison : List Nat) (c : Comp),
    (s.comp key).run = some c → s.pipeFenced (s.compPipe key) = false → s.blockRuns (74 + s.compPipe key) = true → c.merge = false →
    lineMismatch (16 * c.strip) (s.stripSums (c.poisoned poison) sums) = none →
    c.lay.height ≤ (c.strip + 1) * 16 → (key.val < 16 ∨ s.outServes (key - 16) = false) →
    ∃ t, exec (.stripComposed key sums poison) s = .next t ∧ (t.comp key).run = none ∧ (t.comp key).buf = ((s.comp key).buf + 1) % 3 ∧
      (∀ k, k ≠ key.val → t.comp k = s.comp k) ∧
      t.dbytes (s.compOut key + 64 * (s.comp key).buf) 64 =
        { c.out with flags := (if c.conc || !poison.isEmpty then nset c.out.flags 4 else nclr c.out.flags 4), media := s.now27, epoch := s.fld TB_EPOCH_EPOCH }.bytes ∧
      (∀ a, Off a (s.compOut key + 64 * (s.comp key).buf) 64 →
        (∀ p y, c.InStrip p y → Off a (c.lineAt p y) (int18Line (c.out.planeW p))) → t.dbyte a = s.dbyte a) ∧
      t = { s with brg := { s.brg with comps := t.brg.comps }, regs := t.regs, dram := t.dram }) ∧
  (∀ (s : State) (key : Fin 4112) (sums : List Int) (poison : List Nat) (c : Comp),
    (s.comp key).run = some c → s.pipeFenced (s.compPipe key) = false → s.blockRuns (74 + s.compPipe key) = true → c.merge = true → (key.val < 16 ∨ s.outServes (key - 16) = false) →
    ∃ t, exec (.stripComposed key sums poison) s = .next t ∧ (t.comp key).run = none ∧ (t.comp key).buf = ((s.comp key).buf + 1) % 3 ∧
      (∀ a, Off a (s.compOut key + 64 * (s.comp key).buf) 64 → t.dbyte a = s.dbyte a) ∧
      t = { s with brg := { s.brg with comps := t.brg.comps }, regs := t.regs, dram := t.dram }) ∧
  (∀ (s : State) (key : Fin 4112) (sums : List Int) (poison : List Nat) (c : Comp) (line : Nat),
    (s.comp key).run = some c → s.pipeFenced (s.compPipe key) = false → s.blockRuns (74 + s.compPipe key) = true → s.compPipe key < 16 → c.merge = false →
    lineMismatch (16 * c.strip) (s.stripSums (c.poisoned poison) sums) = some line →
    ∃ t, exec (.stripComposed key sums poison) s = .next t ∧ t.fld (CMP_PIPE_STAT_FENCED (s.compPipe key)) = 1 ∧
      t.fld (CMP_PIPE_STAT_CAUSE (s.compPipe key)) = 1 ∧ t.fld (CMP_PIPE_STAT_BUSY (s.compPipe key)) = 0 ∧
      (t.comp key).run = some c ∧ t.dram = s.dram) ∧
  (∀ (s : State) (o : Fin 4096) (sums : List Int) (poison : List Nat) (c : Comp),
    (s.comp (16 + o)).run = some c → s.pipeFenced (s.compPipe (16 + o)) = false → s.blockRuns (74 + s.compPipe (16 + o)) = true →
    (c.merge = true ∨ (lineMismatch (16 * c.strip) (s.stripSums (c.poisoned poison) sums) = none ∧ c.lay.height ≤ (c.strip + 1) * 16)) →
    s.outServes o = true → s.targets (2 ^ 31 + o) = [] →
    ∃ t, exec (.stripComposed ⟨16 + o.val, by omega⟩ sums poison) s = .next t ∧ (t.comp (16 + o)).run = none ∧
      t.brg.intraNext = s.brg.intraNext.filter (· ≠ o.val) ∧ (tfind t.brg.outSeq o).isSome = true ∧
      tget (fun _ => 0) t.brg.outNow o = tget (fun _ => 0) s.brg.outKbps o ∧
      t.enc = { s.enc with brgRan := nset s.enc.brgRan (s.rf 4 o 15 1) } ∧
      t = { s with brg := t.brg, regs := t.regs, dram := t.dram, fresh := t.fresh, enc := t.enc }) ∧
  (∀ (s : State) (p : Fin 16) (r : Nat) (lay : Layout),
    (s.comp p).waitRaw = some r → s.raw ≥ r + s.fld (CMP_PIPE_CFG_RAP_WAIT p) * 10 * msU → (s.comp p).good = some lay → lay.layers.length ≤ 64 →
    ∃ t, exec (.mergeRapWaitExpire p) s = .next t ∧ (t.comp p).waitRaw = none ∧ (t.comp p).irap = (s.comp p).irap ∧
      (∀ l, l ∈ lay.layers → tfind (s.comp p).irap l.src = none → (t.comp p).subst.contains l.src = true) ∧
      (∀ l, l ∈ lay.layers → tfind (s.comp p).irap l.src = none → (s.comp p).subst.contains l.src = false →
        Raises s t 0x1605 (s.compPipe p) (evArg [(0, 4, l.src), (4, 1, 0)])) ∧
      (∀ k, k ≠ p.val → t.comp k = s.comp k) ∧
      t = { s with brg := { s.brg with comps := t.brg.comps }, regs := t.regs, evq := t.evq, ctl := t.ctl } ∧ Keeps s t []) ∧
  (∀ (s : State) (p : Fin 16) (r : Nat),
    (s.comp p).waitRaw = some r → s.raw ≥ r + s.fld (CMP_PIPE_CFG_RAP_WAIT p) * 10 * msU → (s.comp p).good = none →
    exec (.mergeRapWaitExpire p) s = .next (s.setComp p { s.comp p with waitRaw := none })) ∧
  (∀ (s : State) (p : Fin 16), exec (.cmpTestSlot p true) s = .next s) ∧
  (∀ (s : State) (p : Fin 16), s.pipeFenced p = false →
    ∃ t, exec (.cmpTestSlot p false) s = .next t ∧ t.fld (CMP_PIPE_STAT_FENCED p) = 1 ∧ t.fld (CMP_PIPE_STAT_BUSY p) = 0 ∧
      t.dram = s.dram) ∧
  (∀ (s : State) (p : Port) (q : Fin 16) (v : W32),
    Taken s p (CMP_PIPE_CTRL q) v → fieldGet v 0 1 = 1 → s.pipeFenced q = false →
    ∃ t, exec (.cmpPipeFenceCmd p q v) s = .next t ∧ Succeeded t ∧ t.fld (CMP_PIPE_STAT_FENCED q) = 1 ∧
      t.fld (CMP_PIPE_STAT_CAUSE q) = 3 ∧ t.fld (CMP_PIPE_STAT_BUSY q) = 0 ∧ t.dram = s.dram ∧ t.cask = s.cask) ∧
  (∀ (s : State) (p : Port) (q : Fin 16) (v : W32),
    Taken s p (CMP_PIPE_CTRL q) v → fieldGet v 1 1 = 1 → s.pipeFenced q = true →
    ∃ t, exec (.cmpPipeUnfenceCmd p q v) s = .next t ∧ Succeeded t ∧ t.fld (CMP_PIPE_CTRL_UNFENCE q) = 1 ∧
      t = { s with regs := t.regs, boot := t.boot, ctl := t.ctl } ∧ Keeps s t [CMP_PIPE_CTRL q, CFG_BOOT_STAT]) ∧
  (∀ (s : State) (p : Fin 16), s.bit (CMP_PIPE_CTRL_UNFENCE p) = true →
    ∃ t, exec (.cmpPipeTestDone p true) s = .next t ∧ t.fld (CMP_PIPE_STAT_FENCED p) = 0 ∧
      t.fld (CMP_PIPE_CTRL_UNFENCE p) = 0 ∧ t.dram = s.dram ∧ t.brg.flows = s.brg.flows) ∧
  (∀ (s : State) (p : Fin 16), s.bit (CMP_PIPE_CTRL_UNFENCE p) = true →
    ∃ t, exec (.cmpPipeTestDone p false) s = .next t ∧ t.fld (CMP_PIPE_STAT_FENCED p) = s.fld (CMP_PIPE_STAT_FENCED p) ∧
      t.fld (CMP_PIPE_CTRL_UNFENCE p) = 0 ∧ t = { s with regs := t.regs, fresh := t.fresh } ∧
      Keeps s t [CMP_PIPE_CTRL p, CMP_PIPE_STAT p])

/-- A candidate set that reaches the mix unit of a session whose home is here within 4.5 ms of the cycle's start replaces that member's
candidates, and whoever is seated then was a competitor; other sessions keep their seats (R256, R257). A later set is counted and
reported, and changes nothing else; one for a session whose mix unit is not here changes nothing (R256, R260). A taken fetch of an audio
record puts its words with their CRC into the window; where its stored CRC does not match the fetch gives ERR 2, and the slot stops with
0x1A04 (R252); a type that does not exist gives ERR 1; a stage puts the window's words into the steep bank, and gives ERR 3 with 1,024
other records there; a discard takes the record out of it (R266).
Loudness values are written as measured, 0x8000 for none, and the true peak is the greatest so far (R264). -/
def Obligations.AudioWork : Prop :=
  (∀ (s : State) (x : Fin 32768) (member : Nat) (cands : List Cand),
    s.bit AUD_CFG_EN = true → s.recState 2 x = 1 → s.rf 2 x 2 2 % 4096 = s.ownAddr → s.raw - s.aud.cycRaw ≤ 4500 * usU →
    ∃ t, exec (.candidateSetRx x member cands) s = .next t ∧
      tget (fun _ => []) t.aud.cands x = (tget (fun _ => []) s.aud.cands x).filter (fun c => c.member ≠ member) ++
        cands.map (fun c => { c with member := member }) ∧
      (∀ y, y ∈ tget (fun _ => []) t.aud.seats x → ∃ q, q ∈ ({ s with aud := { s.aud with cands := t.aud.cands } }).competitors x
        s.lateUnits ∧ q.ident = y.2) ∧
      (∀ z, z ≠ x.val → tget (fun _ => []) t.aud.seats z = tget (fun _ => []) s.aud.seats z ∧
        tget (fun _ => []) t.aud.cands z = tget (fun _ => []) s.aud.cands z) ∧ t = { s with aud := t.aud }) ∧
  (∀ (s : State) (x : Fin 32768) (member : Nat) (cands : List Cand),
    s.bit AUD_CFG_EN = true → s.recState 2 x = 1 → s.rf 2 x 2 2 % 4096 = s.ownAddr → s.raw - s.aud.cycRaw > 4500 * usU →
    ∃ t, exec (.candidateSetRx x member cands) s = .next t ∧
      t.fld AUD_CNT_CAND_LATE_COUNT = min (s.fld AUD_CNT_CAND_LATE_COUNT + 1) (2 ^ 32 - 1) ∧
      Raises s t 0x1A02 x (evArg [(0, 1, 1), (4, 4, member)]) ∧
      t = { s with regs := t.regs, evq := t.evq, ctl := t.ctl } ∧ Keeps s t [AUD_CNT_CAND_LATE]) ∧
  (∀ (s : State) (x : Fin 32768) (member : Nat) (cands : List Cand),
    (s.bit AUD_CFG_EN = false ∨ s.recState 2 x ≠ 1 ∨ s.rf 2 x 2 2 % 4096 ≠ s.ownAddr) →
    exec (.candidateSetRx x member cands) s = .next s) ∧
  (∀ (s : State) (p : Port) (ty : Fin 16) (i : Nat) (w : List W32),
    Taken s p AUD_WIN_CMD (BitVec.ofNat 32 (1 * 2 ^ 28 + ty * 2 ^ 24 + i % 2 ^ 15)) →
    (ty.val = 0 ∧ i < 8192 ∧ tfind s.aud.slots i = some w ∨ ty.val = 1 ∧ i < 32768 ∧ tfind s.aud.sess i = some w) →
    ∃ t, exec (.audWinFetch p ty i false) s = .next t ∧ Succeeded t ∧ t.fld AUD_WIN_STAT_ERR = 0 ∧
      (∀ j v, j < 32 → (withCrc w)[j]? = some v → t.rd (AUD_WIN_DATA j) = v) ∧
      t = { s with regs := t.regs, ctl := t.ctl }) ∧
  (∀ (s : State) (p : Port) (i : Nat) (w : List W32),
    Taken s p AUD_WIN_CMD (BitVec.ofNat 32 (1 * 2 ^ 28 + 0 * 2 ^ 24 + i % 2 ^ 15)) → i < 8192 → tfind s.aud.slots i = some w → w.length = 32 →
    ∃ t, exec (.audWinFetch p 0 i true) s = .next t ∧ t.fld AUD_WIN_STAT_ERR = 2 ∧
      (∀ j v, j < 32 → (withCrc w)[j]? = some v → t.rd (AUD_WIN_DATA j) = v) ∧ t.sf i 0 1 = 3 ∧ Raises s t 0x1A04 i 0 ∧
      t = { s with regs := t.regs, evq := t.evq, ctl := t.ctl, aud := { s.aud with slots := t.aud.slots } }) ∧
  (∀ (s : State) (p : Port) (ty : Fin 16) (i : Nat) (bad : Bool),
    Taken s p AUD_WIN_CMD (BitVec.ofNat 32 (1 * 2 ^ 28 + ty * 2 ^ 24 + i % 2 ^ 15)) → (ty.val > 1 ∨ (ty.val = 0 ∧ 8192 ≤ i % 2 ^ 15)) →
    ∃ t, exec (.audWinFetch p ty i bad) s = .next t ∧ t.fld AUD_WIN_STAT_ERR = 1 ∧
      t = { s with regs := t.regs, ctl := t.ctl } ∧ Keeps s t [AUD_WIN_STAT]) ∧
  (∀ (s : State) (p : Port) (ty : Fin 16) (i : Nat),
    Taken s p AUD_WIN_CMD (BitVec.ofNat 32 (2 * 2 ^ 28 + ty * 2 ^ 24 + i % 2 ^ 15)) → s.stageStatus p.owner true = 0 →
    (ty.val = 0 ∧ i < 8192 ∨ ty.val = 1 ∧ i < 32768) → s.stage.records.length < 1024 →
    ∃ t, exec (.audWinStage p ty i) s = .next t ∧ Succeeded t ∧
      t.stage.records = s.stage.records.filter (fun x => ¬ (x.typ = 8 + ty.val ∧ x.index = i)) ++
        [⟨8 + ty.val, i, s.winGet (AUD_WIN_DATA 0) (if ty.val = 0 then 32 else 4)⟩] ∧
      t.stage.owner = p.owner ∧ t.fld CFG_STAGE_STAT_CHECKED = 0 ∧
      t = { s with regs := t.regs, ctl := t.ctl, stage := t.stage } ∧ Keeps s t [AUD_WIN_STAT, CFG_STAGE_STAT]) ∧
  (∀ (s : State) (p : Port) (ty : Fin 16) (i : Nat),
    Taken s p AUD_WIN_CMD (BitVec.ofNat 32 (2 * 2 ^ 28 + ty * 2 ^ 24 + i % 2 ^ 15)) → s.stageStatus p.owner true = 0 →
    (ty.val = 0 ∧ i < 8192 ∨ ty.val = 1 ∧ i < 32768) → 1024 ≤ s.stage.records.length →
    (∀ x, x ∈ s.stage.records → ¬ (x.typ = 8 + ty.val ∧ x.index = i)) →
    ∃ t, exec (.audWinStage p ty i) s = .next t ∧ t.fld AUD_WIN_STAT_ERR = 3 ∧ t.stage = s.stage ∧
      t = { s with regs := t.regs, ctl := t.ctl } ∧ Keeps s t [AUD_WIN_STAT]) ∧
  (∀ (s : State) (p : Port) (ty : Fin 16) (i : Nat),
    Taken s p AUD_WIN_CMD (BitVec.ofNat 32 (3 * 2 ^ 28 + ty * 2 ^ 24 + i % 2 ^ 15)) →
    (ty.val = 0 ∧ i < 8192 ∨ ty.val = 1 ∧ i < 32768) →
    ∃ t, exec (.audWinDiscard p ty i) s = .next t ∧ Succeeded t ∧
      t.stage.records = s.stage.records.filter (fun r => !(r.typ == 8 + ty.val && r.index == i)) ∧
      t = { s with regs := t.regs, ctl := t.ctl, stage := t.stage } ∧ Keeps s t [AUD_WIN_STAT, CFG_STAGE_STAT]) ∧
  (∀ (s : State) (n : Fin 16) (m sh int tp : Option Int),
    s.fld (AUD_BC_CTRL_LOUD_LAYOUT n) ≠ 0 → s.bit (AUD_BC_CTRL_EN n) = true → s.raw / (100 * msU) > tget (fun _ => 0) s.aud.due n →
    ∃ t, exec (.loudnessUpdate n m sh int tp) s = .next t ∧
      (int = none → t.fld (AUD_BC_LOUD_INTEGRATED n) = 0x8000) ∧
      (∀ v, int = some v → t.fld (AUD_BC_LOUD_INTEGRATED n) = ofSigned 16 v) ∧
      (sh = none → t.fld (AUD_BC_LOUD_SHORT n) = 0x8000) ∧ (∀ v, sh = some v → t.fld (AUD_BC_LOUD_SHORT n) = ofSigned 16 v) ∧
      (m = none → t.fld (AUD_BC_LOUD2_MOMENTARY n) = 0x8000) ∧
      (∀ v, m = some v → t.fld (AUD_BC_LOUD2_MOMENTARY n) = ofSigned 16 v) ∧
      (tp = none → t.fld (AUD_BC_LOUD2_TRUE_PEAK n) = s.fld (AUD_BC_LOUD2_TRUE_PEAK n)) ∧
      (∀ v, tp = some v → -32768 ≤ v → v < 32768 → s.fld (AUD_BC_LOUD2_TRUE_PEAK n) ≠ 0x8000 →
        t.sfld (AUD_BC_LOUD2_TRUE_PEAK n) = max (s.sfld (AUD_BC_LOUD2_TRUE_PEAK n)) v) ∧
      t = { s with regs := t.regs, aud := { s.aud with due := t.aud.due } } ∧ Keeps s t [AUD_BC_LOUD n, AUD_BC_LOUD2 n])

/-- The 32nd good frame of a port that is not enabled locks it with event 0x1B01, and a bad frame unlocks it with the same event (R330).
At the frame-sync of a transmitting port whose next frame is in its ring, the frame's words are fetched, those of a TDM port cut to DEPTH
bits, and the ring's read count moves on by the number of slots in the mask (R335, R338). A received frame of integer samples is written to the
receive ring, DEPTH bits at the top of each word, and the write count moves on (R335, R338). A slot that has waited ZC_MS for a zero
crossing begins its ramp and is counted (R341). A channel-status block of 192 frames that passes its CRC is copied, one that fails is
counted with 0x1B05, and a block of another length or one of a port that is not locked changes nothing (R333). An AES3 output whose reference is locked locks and raises 0x1B01 (R334). In each case no port but this one
changes. -/
def Obligations.AudioPorts : Prop :=
  (∀ (s : State) (p : Fin 16) (bits : Nat),
    s.NoPart (22 + p) → p.val < 12 → (s.apt p).locked = false → (s.apt p).good = 31 → s.aptOn p = false →
    s.dirRuns p false = false → s.dirRuns p true = false →
    ∃ t, exec (.aptFrameSync p true bits) s = .next t ∧ (t.apt p).locked = true ∧ (t.apt p).good = 32 ∧
      t.fld (APT_PORT_STAT_LOCKED p) = 1 ∧ Raises s t 0x1B01 p (evArg [(0, 1, 1)]) ∧
      (∀ q, q ≠ p.val → t.apt q = s.apt q) ∧
      t = { s with aud := { s.aud with ports := t.aud.ports }, regs := t.regs, evq := t.evq, ctl := t.ctl } ∧
      Keeps s t [APT_PORT_STAT p]) ∧
  (∀ (s : State) (p : Fin 16) (bits : Nat),
    s.NoPart (22 + p) → p.val < 12 → (s.apt p).locked = true →
    ∃ t, exec (.aptFrameSync p false bits) s = .next t ∧
      t.apt p = { s.apt p with locked := false, good := 0, aligned := false, txOut := [] } ∧
      t.fld (APT_PORT_STAT_LOCKED p) = 0 ∧ Raises s t 0x1B01 p 0 ∧ (∀ q, q ≠ p.val → t.apt q = s.apt q) ∧
      t = { s with aud := { s.aud with ports := t.aud.ports }, regs := t.regs, evq := t.evq, ctl := t.ctl } ∧
      Keeps s t [APT_PORT_STAT p]) ∧
  (∀ (s : State) (p : Fin 16) (bits n : Nat),
    s.NoPart (22 + p) → (p.val < 8 ∨ 12 ≤ p.val) → (s.apt p).locked = true → (s.apt p).started = true → s.aptGroup p = 0 →
    s.txOn p = true → s.dirRuns p false = false → s.fld (APT_PORT_TX_MASK_MASK p) = (s.apt p).txMask →
    (∀ k, k < 64 → ((s.apt p).z k).want = s.wantSilent p k) →
    (∀ k, k < 32 → ((s.apt p).z (32 + k)).silent = ((s.apt p).z (32 + k)).want ∧ ((s.apt p).z (32 + k)).ramp = none) →
    n = (bitsOf (s.apt p).txMask (s.aptSlots p)).length → (p.val < 8 → s.frameBits p ≤ bits) →
    n ≤ ((s.aptWord p 4).toNat + 2 ^ 32 - (s.apt p).txR) % 2 ^ 32 → s.bit (APT_PORT_CFG_FORMAT p) = false → s.safe.forced = false →
    ∃ t, exec (.aptFrameSync p true bits) s = .next t ∧ (t.apt p).txR = ((s.apt p).txR + n) % 2 ^ 32 ∧
      (t.apt p).txOut.length = n ∧ (t.apt p).idx = (s.apt p).idx + 1 ∧ t.fld (APT_PORT_STAT_UNDER p) = 0 ∧
      (∀ (j k : Nat), p.val < 8 → (bitsOf (s.apt p).txMask (s.aptSlots p))[j]? = some k → s.wantSilent p (32 + k) = false →
        (t.apt p).txOut[j]? = some (BitVec.ofNat 32 ((s.aptWord p (s.txWord p ((s.apt p).txR + j))).toNat /
          2 ^ (32 - s.aptDepth p) * 2 ^ (32 - s.aptDepth p)))) ∧
      (∀ q, q ≠ p.val → t.apt q = s.apt q) ∧
      t = { s with aud := { s.aud with ports := t.aud.ports }, ket := { s.ket with shared := t.ket.shared }, regs := t.regs } ∧
      Keeps s t [APT_PORT_STAT p]) ∧
  (∀ (s : State) (p : Fin 16) (samples : List (Nat × Nat)) (sync : Int),
    p.val < 8 → (s.apt p).locked = true → (s.apt p).started = true → s.dirRuns p false = true → s.aptSlots p ≤ samples.length →
    s.bit (APT_PORT_CFG_FORMAT p) = false → s.aptSlots p ≤ s.rxLen p →
    (∀ k, k < 32 → ((s.apt p).z k).silent = false ∧ ((s.apt p).z k).want = false ∧ ((s.apt p).z k).ramp = none) →
    ∃ t, exec (.aptRxFrameDone p samples 0 sync) s = .next t ∧
      (t.apt p).rxW = ((s.apt p).rxW + (bitsOf (s.apt p).rxMask (s.aptSlots p)).length) % 2 ^ 32 ∧
      (∀ (j k : Nat) (c : Nat × Nat), (bitsOf (s.apt p).rxMask (s.aptSlots p))[j]? = some k → samples[k]? = some c →
        t.aptWord p (s.rxWord p ((s.apt p).rxW + j)) =
          BitVec.ofNat 32 (c.1 % 2 ^ s.aptDepth p * 2 ^ (32 - s.aptDepth p))) ∧
      (∀ q, q ≠ p.val → t.apt q = s.apt q) ∧
      t = { s with
        aud := { s.aud with ports := t.aud.ports }, ket := { s.ket with shared := t.ket.shared },
        regs := t.regs, evq := t.evq, lims := t.lims, ctl := t.ctl } ∧ Keeps s t [APT_PORT_STAT p, APT_PORT_CNT_OVER p]) ∧
  (∀ (s : State) (p : Fin 16) (k : Fin 64),
    ((s.apt p).z k).silent ≠ ((s.apt p).z k).want → ((s.apt p).z k).ramp = none →
    s.raw - ((s.apt p).z k).since ≥ s.fld (APT_PORT_CFG_ZC_MS p) * msU →
    ∃ t, exec (.zcTimeout p k) s = .next t ∧ t.apt p = (s.apt p).setZ k { (s.apt p).z k with ramp := some 0 } ∧
      t.fld (APT_PORT_CNT_ZC_TO_COUNT p) = min (s.fld (APT_PORT_CNT_ZC_TO_COUNT p) + 1) (2 ^ 32 - 1) ∧
      (∀ q, q ≠ p.val → t.apt q = s.apt q) ∧ t = { s with aud := { s.aud with ports := t.aud.ports }, regs := t.regs } ∧
      Keeps s t [APT_PORT_CNT_ZC_TO p]) ∧
  (∀ (s : State) (p : Fin 16) (a b : List Byte),
    8 ≤ p.val → p.val ≤ 11 → (s.apt p).locked = true →
    ∃ t, exec (.aesCsBlockRx p 192 a b true) s = .next t ∧
      (∀ i, i < 6 → t.rd (APT_AES_CS p i) = BitVec.ofNat 32 (bytesAt a (4 * i) 4) ∧
        t.rd (APT_AES_CS p (6 + i)) = BitVec.ofNat 32 (bytesAt b (4 * i) 4)) ∧
      t = { s with regs := t.regs } ∧ Keeps s t ((List.range 12).map (fun i => APT_AES_CS p i))) ∧
  (∀ (s : State) (p : Fin 16) (a b : List Byte),
    8 ≤ p.val → p.val ≤ 11 → (s.apt p).locked = true → tget (fun _ => Lim.zero) s.lims (limKey 0x1B05 p) = Lim.zero →
    ∃ t, exec (.aesCsBlockRx p 192 a b false) s = .next t ∧
      t.fld (APT_PORT_CNT_ERR_COUNT p) = min (s.fld (APT_PORT_CNT_ERR_COUNT p) + 1) (2 ^ 32 - 1) ∧
      Raises s t 0x1B05 p (evArg [(0, 4, 1)]) ∧
      t = { s with regs := t.regs, evq := t.evq, lims := t.lims, ctl := t.ctl } ∧ Keeps s t [APT_PORT_CNT_ERR p]) ∧
  (∀ (s : State) (p : Fin 16) (frames : Nat) (a b : List Byte) (crcOk : Bool),
    (p.val < 8 ∨ 11 < p.val ∨ (s.apt p).locked = false ∨ frames ≠ 192) → exec (.aesCsBlockRx p frames a b crcOk) s = .next s) ∧
  (∀ (s : State) (p : Fin 16),
    12 ≤ p.val → (s.apt p).locked = false → s.txOn p = true → s.refLocked (s.fld (APT_AES_CTRL_REF p)) = true →
    ∃ t, exec (.aesOutputLocked p) s = .next t ∧ t.apt p = { s.apt p with locked := true } ∧
      t.fld (APT_PORT_STAT_LOCKED p) = 1 ∧ Raises s t 0x1B01 p (evArg [(0, 1, 1)]) ∧ (∀ q, q ≠ p.val → t.apt q = s.apt q) ∧
      t = { s with aud := { s.aud with ports := t.aud.ports }, regs := t.regs, evq := t.evq, ctl := t.ctl } ∧
      Keeps s t [APT_PORT_STAT p])

/-- A mismatch of a checked pair fences the unit with CAUSE 1, or 2 where a memory error explains it, raises 0x1C01 with the program counter and
places audio work anew (R269, R271); a kettle in split mode compares nothing. A test slot of a split core that passes takes 600,000 cycles
of one that runs, one that fails fences with CAUSE 3 (R270). A taken write of 1 to FENCE fences with CAUSE 4, one to UNFENCE of a fenced unit
starts its test; a pass clears FENCED, leaves a library unit in WAIT with its registers at reset, reloads a customer unit with its kernel,
which starts at P address 0, and raises 0x1C02, a failure leaves it fenced (R271, R303). HALT stops a customer unit at once at an accepting
boundary and is held until one otherwise, and RELEASE starts a halted one at P address 0 (R305). Apart from a reload and the writes under
way that a HALT completes, the other units and the P, X, Y and shared memories stay as they were. -/
def Obligations.KettleUnits : Prop :=
  (∀ (s : State) (c : Fin 96) (memErr : Bool), s.kSplit c = true → exec (.lockstepMismatch c memErr) s = .next s) ∧
  (∀ (s : State) (c : Fin 96) (memErr : Bool) (cause : Nat),
    s.kSplit c = false → s.kFenced (s.kKey c) = false → cause = (if memErr then 2 else 1) →
    ∃ t, exec (.lockstepMismatch c memErr) s = .next t ∧
      (∀ x, x ∈ s.kCores (s.kKey c) → t.fld (DSP_CORE_STAT_FENCED x) = 1 ∧ t.fld (DSP_CORE_STAT_CAUSE x) = cause ∧
        t.fld (DSP_CORE_PC_PC x) = (s.kc (s.kKey c)).pc % 2 ^ 14) ∧
      Raises s t 0x1C01 (s.kUnit c) (evArg [(0, 1, cause), (4, 4, (s.kc (s.kKey c)).pc)]) ∧
      t = { s with regs := t.regs, aud := { s.aud with place := true }, evq := t.evq, ctl := t.ctl, safe := t.safe, cask := t.cask } ∧
      Keeps s t ((s.kCores (s.kKey c)).map DSP_CORE_STAT ++ (s.kCores (s.kKey c)).map DSP_CORE_PC ++ [DSP_KET_STAT (s.kKey c / 8)])) ∧
  (∀ (s : State) (c : Fin 96),
    s.kSplit c = true → s.kFenced c = false → (s.kc c).boundary = true → (s.kc c).st ≠ 0 →
    ∃ t, exec (.kettleTestSlot c true) s = .next t ∧ (t.kc c).cycles = (s.kc c).cycles + 600000 ∧ (t.kc c).pc = (s.kc c).pc ∧
      (t.kc c).st = (s.kc c).st ∧ CoreOnly s t c []) ∧
  (∀ (s : State) (c : Fin 96), (s.kSplit c = false ∨ (s.kc c).st = 0) → exec (.kettleTestSlot c true) s = .next s) ∧
  (∀ (s : State) (c : Fin 96),
    s.kSplit c = true → s.kFenced c = false → (s.kc c).boundary = true →
    ∃ t, exec (.kettleTestSlot c false) s = .next t ∧ t.fld (DSP_CORE_STAT_FENCED c) = 1 ∧ t.fld (DSP_CORE_STAT_CAUSE c) = 3 ∧
      Raises s t 0x1C01 (s.kUnit c) (evArg [(0, 1, 3), (4, 4, (s.kc c).pc)]) ∧
      t = { s with regs := t.regs, aud := { s.aud with place := true }, evq := t.evq, ctl := t.ctl, safe := t.safe, cask := t.cask } ∧
      Keeps s t [DSP_CORE_STAT c, DSP_CORE_PC c, DSP_KET_STAT (c / 8)]) ∧
  (∀ (s : State) (p : Port) (c : Fin 96) (v : W32),
    Taken s p (DSP_CORE_CTRL c) v → fieldGet v 0 1 = 1 → s.kFenced (s.kKey c) = false →
    ∃ t, exec (.kettleFenceCmd p c v) s = .next t ∧ Succeeded t ∧
      (∀ x, x ∈ s.kCores (s.kKey c) → t.fld (DSP_CORE_STAT_FENCED x) = 1 ∧ t.fld (DSP_CORE_STAT_CAUSE x) = 4) ∧
      t = { s with regs := t.regs, aud := { s.aud with place := true }, evq := t.evq, ctl := t.ctl, boot := t.boot }) ∧
  (∀ (s : State) (p : Port) (c : Fin 96) (v : W32),
    Taken s p (DSP_CORE_CTRL c) v → fieldGet v 1 1 = 1 → s.kFenced (s.kKey c) = true →
    ∃ t, exec (.kettleUnfenceCmd p c v) s = .next t ∧ Succeeded t ∧
      (∀ x, x ∈ s.kCores (s.kKey c) → t.fld (DSP_CORE_CTRL_UNFENCE x) = 1) ∧
      t = { s with regs := t.regs, ctl := t.ctl, boot := t.boot } ∧
      Keeps s t ((s.kCores (s.kKey c)).map DSP_CORE_CTRL ++ [CFG_BOOT_STAT])) ∧
  (∀ (s : State) (c : Fin 96),
    s.bit (DSP_CORE_CTRL_UNFENCE (s.kKey c)) = true → s.kCust c = false → s.bit (DSP_KET_CFG_EN (c / 8)) = true →
    ∃ t, exec (.kettleUnitTestDone c true) s = .next t ∧ (t.kc (s.kKey c)).st = 1 ∧ (t.kc (s.kKey c)).regs = [] ∧
      (∀ x, x ∈ s.kCores (s.kKey c) → t.fld (DSP_CORE_STAT_FENCED x) = 0 ∧ t.fld (DSP_CORE_CTRL_UNFENCE x) = 0) ∧
      Raises s t 0x1C02 (s.kUnit c) 0 ∧ (∀ d, d ≠ s.kKey c → t.kc d = s.kc d) ∧
      t = { s with regs := t.regs, ket := { s.ket with cores := t.ket.cores }, aud := { s.aud with place := true }, evq := t.evq, ctl := t.ctl }) ∧
  (∀ (s : State) (c : Fin 96) (n : Kern),
    s.bit (DSP_CORE_CTRL_UNFENCE (s.kKey c)) = true → s.kCust c = true → s.bit (DSP_KET_CFG_EN (c / 8)) = true → s.kernOf (c / 8) = some n →
    nbit n.units (if n.split then s.kKey c % 8 else s.kKey c % 8 / 2) = true → n.p.length ≤ 16384 → n.x.length ≤ 65536 → n.y.length ≤ 65536 →
    ∃ t, exec (.kettleUnitTestDone c true) s = .next t ∧ (t.kc (s.kKey c)).st = 2 ∧ (t.kc (s.kKey c)).pc = 0 ∧
      t.kBase (s.kKey c) 0x44 = BitVec.ofNat 32 n.vbase ∧ (∀ r, r < 0x50 → r ≠ 0x44 → t.kBase (s.kKey c) r = kReset r) ∧
      (∀ i w, n.p[i]? = some w → tget (fun _ => 0) t.ket.p (s.kKey c * 65536 + i) = w) ∧
      (∀ i w, n.x[i]? = some w → tget (fun _ => 0) t.ket.x (s.kKey c * 65536 + i) = w) ∧
      (∀ i w, n.y[i]? = some w → tget (fun _ => 0) t.ket.y (s.kKey c * 65536 + i) = w) ∧
      (∀ x, x ∈ s.kCores (s.kKey c) → t.fld (DSP_CORE_STAT_FENCED x) = 0 ∧ t.fld (DSP_CORE_CTRL_UNFENCE x) = 0) ∧
      Raises s t 0x1C02 (s.kUnit c) 0 ∧ (∀ d, d ≠ s.kKey c → t.kc d = s.kc d) ∧ t.ket.shared = s.ket.shared ∧
      t = { s with regs := t.regs, ket := t.ket, aud := { s.aud with place := true }, evq := t.evq, ctl := t.ctl }) ∧
  (∀ (s : State) (c : Fin 96), s.bit (DSP_CORE_CTRL_UNFENCE (s.kKey c)) = true →
    ∃ t, exec (.kettleUnitTestDone c false) s = .next t ∧
      (∀ x, x ∈ s.kCores (s.kKey c) → t.fld (DSP_CORE_CTRL_UNFENCE x) = 0) ∧ t = { s with regs := t.regs } ∧
      Keeps s t ((s.kCores (s.kKey c)).map DSP_CORE_CTRL)) ∧
  (∀ (s : State) (p : Port) (c : Fin 96) (v : W32),
    Taken s p (DSP_CORE_CTRL c) v → fieldGet v 2 1 = 1 → s.kCust (s.kKey c) = true →
    (s.kc (s.kKey c)).st = 1 ∨ (s.kc (s.kKey c)).st = 2 → (s.kc (s.kKey c)).boundary = true → (s.kc (s.kKey c)).ih = false →
    ∃ t, exec (.kettleHaltCmd p c v) s = .next t ∧ Succeeded t ∧ (t.kc (s.kKey c)).st = 5 ∧ (t.kc (s.kKey c)).pend = [] ∧
      (∀ x, x ∈ s.kCores (s.kKey c) → t.fld (DSP_CORE_STAT_STATE x) = 5 ∧
        t.fld (DSP_CORE_PC_PC x) = (s.kc (s.kKey c)).pc % 2 ^ 14) ∧
      (∀ d, d ≠ s.kKey c → t.kc d = s.kc d) ∧ t.ket.p = s.ket.p ∧ t.ket.shared = s.ket.shared ∧
      t = { s with regs := t.regs, ket := t.ket, ctl := t.ctl, boot := t.boot }) ∧
  (∀ (s : State) (p : Port) (c : Fin 96) (v : W32),
    Taken s p (DSP_CORE_CTRL c) v → fieldGet v 2 1 = 1 → s.kCust (s.kKey c) = true →
    ((s.kc (s.kKey c)).st = 1 ∨ (s.kc (s.kKey c)).st = 2 ∨ (s.kc (s.kKey c)).st = 3) →
    ((s.kc (s.kKey c)).boundary = false ∨ (s.kc (s.kKey c)).ih = true) →
    ∃ t, exec (.kettleHaltCmd p c v) s = .next t ∧ Succeeded t ∧ t.kc (s.kKey c) = { s.kc (s.kKey c) with halt := true } ∧
      (∀ x, x ∈ s.kCores (s.kKey c) → t.fld (DSP_CORE_CTRL_HALT x) = 1) ∧ (∀ d, d ≠ s.kKey c → t.kc d = s.kc d) ∧
      t = { s with regs := t.regs, ket := { s.ket with cores := t.ket.cores }, ctl := t.ctl, boot := t.boot }) ∧
  (∀ (s : State) (p : Port) (c : Fin 96) (v : W32),
    Taken s p (DSP_CORE_CTRL c) v → fieldGet v 3 1 = 1 → s.kCust (s.kKey c) = true →
    (s.kc (s.kKey c)).st = 4 ∨ (s.kc (s.kKey c)).st = 5 →
    ∃ t, exec (.kettleReleaseCmd p c v) s = .next t ∧ Succeeded t ∧ (t.kc (s.kKey c)).st = 2 ∧ (t.kc (s.kKey c)).pc = 0 ∧
      (t.kc (s.kKey c)).cycles = 0 ∧ (t.kc (s.kKey c)).regs = (s.kc (s.kKey c)).regs ∧
      (∀ x, x ∈ s.kCores (s.kKey c) → t.fld (DSP_CORE_STAT_STATE x) = 2) ∧ (∀ d, d ≠ s.kKey c → t.kc d = s.kc d) ∧
      t = { s with regs := t.regs, ket := { s.ket with cores := t.ket.cores }, ctl := t.ctl, boot := t.boot })

/-- A taken write of the mailbox gives the core the word and requests vector 7 (R282). A core that accepts the lowest pending vector that its
masks let through completes its writes, saves the program counter, SR, loop counters and loops in the shadow set, clears the request,
and goes on at VBASE + 2 · vector in its handler with interrupts off, its other registers as the completed writes left them (R298, R299); with
no vector to take it accepts none. The timer of a waiting core runs to 0 and requests
vector 6 (R282). A rest that is over ends (R295). The other cores stay as they were. -/
def Obligations.KettleInterrupts : Prop :=
  (∀ (s : State) (p : Port) (c : Fin 96) (v : W32),
    Taken s p (DSP_CORE_MBOX c) v →
    ∃ t, exec (.mboxWrite p c v) s = .next t ∧ Succeeded t ∧ t.kBase (s.kKey c) 0x4C = v ∧
      (t.kc (s.kKey c)).req = nset (s.kc (s.kKey c)).req 7 ∧ (t.kc (s.kKey c)).pc = (s.kc (s.kKey c)).pc ∧
      (∀ r, r < 0x10000 → r ≠ 0x4C → t.kBase (s.kKey c) r = s.kBase (s.kKey c) r) ∧ (∀ d, d ≠ s.kKey c → t.kc d = s.kc d) ∧
      t = { s with regs := t.regs, ket := { s.ket with cores := t.ket.cores }, ctl := t.ctl } ∧ Keeps s t [DSP_CORE_MBOX c]) ∧
  (∀ (s : State) (c : Fin 96) (v : Nat),
    s.kFenced (s.kKey c) = false → ((s.kc (s.kKey c)).st = 2 ∨ (s.kc (s.kKey c)).st = 1 ∧ (s.kc (s.kKey c)).restEnd ≤ s.raw) →
    s.kVector (s.kKey c) = some v →
    ∃ t, exec (.interruptAccept c) s = .next t ∧ (t.kc (s.kKey c)).ih = true ∧ (t.kc (s.kKey c)).loops = [] ∧
      (t.kc (s.kKey c)).pc = (s.kRead (s.kKey c) 0x44 .lp).toNat + 2 * v ∧ (t.kc (s.kKey c)).req = nclr (s.kc (s.kKey c)).req v ∧
      (t.kc (s.kKey c)).pend = [] ∧ (t.kc (s.kKey c)).st = 3 ∧ (t.kc (s.kKey c)).shadow.pc = (s.kc (s.kKey c)).pc ∧
      (t.kc (s.kKey c)).shadow.loops = (s.kc (s.kKey c)).loops ∧ nbit (t.kBase (s.kKey c) 0x43).toNat 15 = false ∧
      (∀ x, x ∈ s.kCores (s.kKey c) → t.fld (DSP_CORE_STAT_STATE x) = 3) ∧ (∀ d, d ≠ s.kKey c → t.kc d = s.kc d) ∧
      (∀ r, r < 0x40 → t.kBase (s.kKey c) r = (s.kFlush (s.kKey c)).kBase (s.kKey c) r) ∧
      t = { s with regs := t.regs, ket := t.ket } ∧ t.ket.p = s.ket.p ∧ t.ket.shared = s.ket.shared ∧
      Keeps s t ((s.kCores (s.kKey c)).map DSP_CORE_STAT)) ∧
  (∀ (s : State) (c : Fin 96), s.kVector (s.kKey c) = none → exec (.interruptAccept c) s = .next s) ∧
  (∀ (s : State) (c : Fin 96),
    s.kFenced (s.kKey c) = false → (s.kc (s.kKey c)).st = 1 → (s.kBase (s.kKey c) 0x46).toNat ≠ 0 →
    ∃ t, exec (.kettleTimerExpire c) s = .next t ∧ t.kBase (s.kKey c) 0x46 = 0 ∧
      (t.kc (s.kKey c)).req = nset (s.kc (s.kKey c)).req 6 ∧
      (t.kc (s.kKey c)).cycles = (s.kc (s.kKey c)).cycles + (s.kBase (s.kKey c) 0x46).toNat ∧
      (∀ d, d ≠ s.kKey c → t.kc d = s.kc d) ∧ t = { s with ket := { s.ket with cores := t.ket.cores } }) ∧
  (∀ (s : State) (c : Fin 96), (s.kc (s.kKey c)).st = 1 → (s.kc (s.kKey c)).restEnd ≤ s.raw →
    exec (.restWaitEnd c) s = .next (s.setKc (s.kKey c) { s.kc (s.kKey c) with restEnd := 0 }))

/-- A descriptor copies the words of its rows from the source to the destination, whatever memories they are, when every address lies in its
space, none is written twice or read after it is written, and no word is uncorrectable or poisoned; nothing else is written. It requests
vector 4 if its flag says so and the channel goes on with the next descriptor or stops (R275, R276, R277). A descriptor that breaks the
layout, or whose first word is uncorrectable, moves nothing, stops the channel, sets its DMA_ERR bit and requests vector 2 (R275, R277). A
taken fetch of the window puts 64 words into DSP_WIN_DATA, with ERR 2 where one was uncorrectable; one outside a memory gives ERR 1. A taken
write to a customer kettle's shared memory, or to a local memory of a core that does not run, writes the 64 words and no other; one to another
kettle, or to a core that runs, gives ERR 3, one outside a memory ERR 1, and they write nothing (R305). -/
def Obligations.KettleMemories : Prop :=
  (∀ (s : State) (c : Fin 96) (n : Fin 4) (w : Nat → Nat) (len rows : Nat) (a b : Nat → Nat → Nat × Nat),
    ((s.kc (s.kKey c)).ch n).addr ≠ 0 → ((s.kc (s.kKey c)).ch n).addr + 7 ≤ 0xFFFF → s.kFenced (s.kKey c) = false →
    (∀ i, w i = (tget (fun _ => 0) s.ket.x (s.kKey c * 65536 + (((s.kc (s.kKey c)).ch n).addr + i) % 65536)).toNat) →
    w 4 = 4 * len → 0 < len → len ≤ 16384 → w 5 % 65536 = rows → 0 < rows → w 5 / 65536 ≤ 3 →
    (∀ r i, r < rows → i < len →
      s.dmaAddr (s.kKey c) (ofSigned 64 (((w 0 + 2 ^ 32 * w 1 : Nat) : Int) + r * toSigned 32 (w 6)) + 4 * i) 4 = some (a r i) ∧
      s.dmaAddr (s.kKey c) (ofSigned 64 (((w 2 + 2 ^ 32 * w 3 : Nat) : Int) + r * toSigned 32 (w 7)) + 4 * i) 4 = some (b r i)) →
    (∀ r i q j, r < rows → i < len → q < rows → j < len → a r i ≠ b q j ∧ (b r i = b q j → r = q ∧ i = j)) →
    (∀ r i, r < rows → i < len → (a r i).1 = 0 → s.poisoned (a r i).2 4 = false) →
    ∃ t, exec (.dmaDescriptorDone c n none) s = .next t ∧ (∀ r i, r < rows → i < len → t.dmaRead (b r i) = s.dmaRead (a r i)) ∧
      (∀ x, (∀ r i, r < rows → i < len → (b r i).1 = 0 → Off x (b r i).2 4) → t.dbyte x = s.dbyte x) ∧
      (∀ m : Nat × Nat, 1 ≤ m.1 → m.1 ≤ 4 → (∀ r i, r < rows → i < len → b r i ≠ m) → t.dmaRead m = s.dmaRead m) ∧
      (t.kc (s.kKey c)).ch n =
        (if w 5 / 65536 / 2 % 2 = 1 ∧ ((s.kc (s.kKey c)).ch n).stop = false then ⟨((s.kc (s.kKey c)).ch n).addr + 8, false⟩ else ⟨0, false⟩) ∧
      (t.kc (s.kKey c)).req = (if w 5 / 65536 % 2 = 1 then nset (s.kc (s.kKey c)).req 4 else (s.kc (s.kKey c)).req) ∧
      (∀ d, d ≠ s.kKey c → t.kc d = s.kc d) ∧ t = { s with ket := t.ket, dram := t.dram }) ∧
  (∀ (s : State) (c : Fin 96) (n : Fin 4) (bad : Option Nat) (w : Nat → Nat),
    ((s.kc (s.kKey c)).ch n).addr ≠ 0 → s.kFenced (s.kKey c) = false →
    (∀ i, w i = (tget (fun _ => 0) s.ket.x (s.kKey c * 65536 + (((s.kc (s.kKey c)).ch n).addr + i) % 65536)).toNat) →
    (((s.kc (s.kKey c)).ch n).addr + 7 > 0xFFFF ∨ w 4 = 0 ∨ w 4 > 65536 ∨ w 4 % 4 ≠ 0 ∨ w 5 % 65536 = 0 ∨ w 5 / 65536 > 3 ∨ bad = some 0) →
    ∃ t, exec (.dmaDescriptorDone c n bad) s = .next t ∧ (t.kc (s.kKey c)).ch n = ⟨0, false⟩ ∧
      (t.kc (s.kKey c)).req = nset (s.kc (s.kKey c)).req 2 ∧
      (∀ x, x ∈ s.kCores (s.kKey c) → nbit (t.fld (DSP_CORE_STAT_DMA_ERR x)) n = true) ∧
      (∀ d, d ≠ s.kKey c → t.kc d = s.kc d) ∧ t = { s with ket := { s.ket with cores := t.ket.cores }, regs := t.regs } ∧
      Keeps s t ((s.kCores (s.kKey c)).map DSP_CORE_STAT)) ∧
  (∀ (s : State) (p : Port) (sp k : Fin 16) (c : Fin 8) (v : W32) (bad : Bool),
    v = BitVec.ofNat 32 (1 * 2 ^ 28 + sp * 2 ^ 24 + k * 2 ^ 16 + c * 2 ^ 10) → Taken s p DSP_WIN_CMD v → (s.dspAddr v 0).isSome = true →
    ∃ t, exec (.dspWinFetch p sp k c bad) s = .next t ∧ Succeeded t ∧ t.fld DSP_WIN_STAT_ERR = (if bad then 2 else 0) ∧
      (∀ i m, i < 64 → s.dspAddr v i = some m → t.rd (DSP_WIN_DATA i) = s.dmaRead m) ∧
      t = { s with regs := t.regs, ctl := t.ctl } ∧ Keeps s t (DSP_WIN_STAT :: (List.range 64).map DSP_WIN_DATA)) ∧
  (∀ (s : State) (p : Port) (sp k : Fin 16) (c : Fin 8) (v : W32) (bad : Bool),
    v = BitVec.ofNat 32 (1 * 2 ^ 28 + sp * 2 ^ 24 + k * 2 ^ 16 + c * 2 ^ 10) → Taken s p DSP_WIN_CMD v → s.dspAddr v 0 = none →
    ∃ t, exec (.dspWinFetch p sp k c bad) s = .next t ∧ t.fld DSP_WIN_STAT_ERR = 1 ∧
      t = { s with regs := t.regs, ctl := t.ctl } ∧ Keeps s t [DSP_WIN_STAT]) ∧
  (∀ (s : State) (p : Port) (sp k : Fin 16) (c : Fin 8) (v : W32),
    v = BitVec.ofNat 32 (2 * 2 ^ 28 + sp * 2 ^ 24 + k * 2 ^ 16 + c * 2 ^ 10) → Taken s p DSP_WIN_CMD v → (s.dspAddr v 0).isSome = true →
    s.bit (DSP_KET_CFG_CUST k) = true → (sp.val = 1 ∨ ((s.kc (s.kKey (8 * k + c))).st ≠ 2 ∧ (s.kc (s.kKey (8 * k + c))).st ≠ 3)) →
    ∃ t, exec (.dspWinWrite p sp k c) s = .next t ∧ Succeeded t ∧ t.fld DSP_WIN_STAT_ERR = 0 ∧
      (∀ i m, i < 64 → s.dspAddr v i = some m → t.dmaRead m = s.rd (DSP_WIN_DATA i)) ∧
      (∀ m : Nat × Nat, 1 ≤ m.1 → m.1 ≤ 4 → (∀ i, i < 64 → s.dspAddr v i ≠ some m) → t.dmaRead m = s.dmaRead m) ∧ t.ket.cores = s.ket.cores ∧
      t = { s with regs := t.regs, ctl := t.ctl, boot := t.boot, ket := t.ket } ∧ Keeps s t [DSP_WIN_STAT, CFG_BOOT_STAT]) ∧
  (∀ (s : State) (p : Port) (sp k : Fin 16) (c : Fin 8) (v : W32),
    v = BitVec.ofNat 32 (2 * 2 ^ 28 + sp * 2 ^ 24 + k * 2 ^ 16 + c * 2 ^ 10) → Taken s p DSP_WIN_CMD v →
    (s.dspAddr v 0 = none ∨ s.bit (DSP_KET_CFG_CUST k) = false ∨
      (sp.val ≠ 1 ∧ ((s.kc (s.kKey (8 * k + c))).st = 2 ∨ (s.kc (s.kKey (8 * k + c))).st = 3))) →
    ∃ t, exec (.dspWinWrite p sp k c) s = .next t ∧ t.fld DSP_WIN_STAT_ERR = (if s.dspAddr v 0 = none then 1 else 3) ∧
      t = { s with regs := t.regs, ctl := t.ctl, boot := t.boot } ∧ Keeps s t [DSP_WIN_STAT, CFG_BOOT_STAT])

/-- An integer operation that issues reads its operands as an E1 reader sees them, writes its destination (CMP and TST write none) and,
but for CSEL, the flags (R287, R317): Z that the result is zero, N its sign, C a carry, no borrow, or the last bit shifted out, V that the
exact result of an operation of signed arithmetic does not fit. S clamps ADD, SUB, NEG, ABS, MUL and SHL to the exact result's nearest
32-bit value and sets SAT where that changes it; the other operations, and these without S, give the 32-bit result (R284). The flags of CMP
make the conditions EQ, LT and CS of R312 what they say of the operands. CSEL takes one operand by its condition and writes no flag. Commands ADD to
CSEL are codes 0 to 16 of R317. Registers and memory words not written stay as they were. -/
def Obligations.KettleInteger : Prop :=
  (∀ (s : State) (c : Fin 96) (code : Nat) (sat : Bool) (d a : Nat) (b : Option Nat) (imm : Int) (cond words n : Nat) (x y : W32) (e : Int) (clamps : Bool),
    Issues s c (.alu code sat d a b imm cond) words → code ≤ 15 → x = s.kD (s.kKey c) a →
    y = (match b with | some r => s.kD (s.kKey c) r | none => BitVec.ofInt 32 imm) → n = y.toNat % 32 →
    e = (match code with
      | 0 => x.toInt + y.toInt | 1 => x.toInt - y.toInt | 2 => -x.toInt | 3 => (x.toInt.natAbs : Int) | 4 => x.toInt * y.toInt
      | 13 => x.toInt - y.toInt | _ => x.toInt * 2 ^ n) →
    clamps = (sat && [0, 1, 2, 3, 4, 8].contains code) →
    ∃ t w f, exec (aluCmd code c) s = .next t ∧ Writes s t c 0x50 f .flag ∧
      (code ≠ 13 → code ≠ 14 → Writes s t c d w .alu) ∧ (nbit f.toNat 0 = true ↔ w = 0) ∧ nbit f.toNat 1 = w.msb ∧
      Issued s t c words (if code = 13 ∨ code = 14 then [0x50] else [0x50, d]) ∧
      (clamps = true → w.toInt = max (-2147483648) (min 2147483647 e) ∧
        (w.toInt ≠ e → (∀ v, v ∈ (s.kc (s.kKey c)).pend → v.reg ≠ 0x43) → nbit (t.kBase (s.kKey c) 0x43).toNat 6 = true)) ∧
      (clamps = false →
        (code = 0 → w = x + y) ∧ (code = 1 ∨ code = 13 → w = x - y) ∧ (code = 2 → w = -x) ∧ (code = 3 → w = if x.msb then -x else x) ∧
        (code = 4 → w = x * y) ∧ (code = 5 ∨ code = 14 → w = x &&& y) ∧ (code = 6 → w = x ||| y) ∧ (code = 7 → w = x ^^^ y) ∧
        (code = 8 → w = x <<< n) ∧ (code = 9 → w = x >>> n) ∧ (code = 10 → w = x.sshiftRight n) ∧
        (code = 11 → w = if x.sle y then x else y) ∧ (code = 12 → w = if y.sle x then x else y) ∧
        (code = 15 → (x = 0 → w = 32) ∧ (x ≠ 0 → w.toNat < 32 ∧ 2 ^ 31 ≤ x.toNat * 2 ^ w.toNat ∧ x.toNat * 2 ^ w.toNat < 2 ^ 32))) ∧
      (nbit f.toNat 2 = true ↔
        (code = 0 ∧ 2 ^ 32 ≤ x.toNat + y.toNat) ∨ ((code = 1 ∨ code = 13) ∧ y.toNat ≤ x.toNat) ∨ (code = 2 ∧ x = 0) ∨
        (code = 8 ∧ 0 < n ∧ x.getLsbD (32 - n) = true) ∨ ((code = 9 ∨ code = 10) ∧ 0 < n ∧ x.getLsbD (n - 1) = true)) ∧
      (nbit f.toNat 3 = true ↔ (code ≤ 4 ∨ code = 13) ∧ (e < -2147483648 ∨ 2147483647 < e)) ∧
      (code = 13 → condTrue 1 f = decide (x = y) ∧ condTrue 3 f = x.slt y ∧ condTrue 7 f = y.ule x)) ∧
  (∀ (s : State) (c : Fin 96) (sat : Bool) (d a r : Nat) (imm : Int) (cond words : Nat),
    Issues s c (.alu 16 sat d a (some r) imm cond) words →
    ∃ t, exec (.csel c) s = .next t ∧
      Writes s t c d (if condTrue cond (s.kRead (s.kKey c) 0x50 .e1) then s.kD (s.kKey c) a else s.kD (s.kKey c) r) .alu ∧
      Issued s t c words [d])

/-- A floating-point operation that issues writes its result, clamped to ±SATB with S, and one that is invalid sets NV (R283, R284, R318); FCMP
writes the flags and no register. The results of FNEG and FABS on normal numbers differ in the sign bit alone; I2F of a number that
F2I gives back loses nothing below 2²⁴. FMAC adds the product of its operands, with the sign that N gives it, to the accumulator, or to
zero with CLR, with one rounding; FMAC.M takes them from X and Y memory and post-modifies both address registers, and an address above
0xFFFF is FAULT 4 (R272, R319). Commands FADD to FRSQ are codes 0 to 12 of R318. -/
def Obligations.KettleFloat : Prop :=
  (∀ (s : State) (c : Fin 96) (code d a b words : Nat) (sat : Bool) (r : FRes),
    Issues s c (.fp code sat d a b) words → code ≤ 12 → code ≠ 7 → r = fpSem code (s.kD (s.kKey c) a) (s.kD (s.kKey c) b) →
    ∃ t, exec (fpCmd code c) s = .next t ∧
      Writes s t c d (if sat = true ∧ code ≠ 9 then (fpClamp (s.kRead (s.kKey c) 0x42 .e1) r.w).1 else r.w) .fp ∧
      (r.nv = true → (∀ w, w ∈ (s.kc (s.kKey c)).pend → w.reg ≠ 0x43) → nbit (t.kBase (s.kKey c) 0x43).toNat 7 = true) ∧
      Issued s t c words [d] ∧
      (code = 3 → 0 < fieldGet (s.kD (s.kKey c) a) 23 8 → fieldGet (s.kD (s.kKey c) a) 23 8 < 255 →
        r.w = s.kD (s.kKey c) a ^^^ 0x80000000) ∧
      (code = 4 → 0 < fieldGet (s.kD (s.kKey c) a) 23 8 → fieldGet (s.kD (s.kKey c) a) 23 8 < 255 →
        r.w = s.kD (s.kKey c) a &&& 0x7FFFFFFF) ∧
      (code = 8 → (s.kD (s.kKey c) a).toInt.natAbs < 2 ^ 24 → (fpSem 9 r.w 0).w = s.kD (s.kKey c) a)) ∧
  (∀ (s : State) (c : Fin 96) (d a b words : Nat) (sat : Bool),
    Issues s c (.fp 7 sat d a b) words →
    ∃ t, exec (.fcmp c) s = .next t ∧ Writes s t c 0x50 (fcmpFlags (s.kD (s.kKey c) a) (s.kD (s.kKey c) b)) .flag ∧
      Issued s t c words [0x50]) ∧
  (∀ (s : State) (c : Fin 96) (sat neg clr : Bool) (d a b words : Nat) (r : FRes),
    Issues s c (.mac sat neg clr d a b) words →
    r = fpMac neg (if clr then 0 else s.kRead (s.kKey c) d .acc) (s.kD (s.kKey c) a) (s.kD (s.kKey c) b) →
    ∃ t, exec (.fmac c) s = .next t ∧
      Writes s t c d (if sat then (fpClamp (s.kRead (s.kKey c) 0x42 .e1) r.w).1 else r.w) .mac ∧ Issued s t c words [d]) ∧
  (∀ (s : State) (c : Fin 96) (sat neg clr px py : Bool) (d x y words : Nat) (r : FRes),
    Issues s c (.macm sat neg clr d x px y py) words → (s.kA (s.kKey c) x).toNat ≤ 0xFFFF → (s.kA (s.kKey c) y).toNat ≤ 0xFFFF →
    r = fpMac neg (if clr then 0 else s.kRead (s.kKey c) d .acc) (s.kMem (s.kKey c) 0 (s.kA (s.kKey c) x).toNat)
      (s.kMem (s.kKey c) 1 (s.kA (s.kKey c) y).toNat) →
    ∃ t, exec (.fmacM c) s = .next t ∧
      Writes s t c d (if sat then (fpClamp (s.kRead (s.kKey c) 0x42 .e1) r.w).1 else r.w) .mac ∧
      (px = true → Writes s t c (0x20 + x) (postModify (s.kA (s.kKey c) x) (s.kM (s.kKey c) x)) .post) ∧
      (py = true → Writes s t c (0x20 + y) (postModify (s.kA (s.kKey c) y) (s.kM (s.kKey c) y)) .post) ∧
      Issued s t c words ([d] ++ (if px then [0x20 + x] else []) ++ (if py then [0x20 + y] else []))) ∧
  (∀ (s : State) (c : Fin 96) (sat neg clr px py : Bool) (d x y words : Nat),
    Issues s c (.macm sat neg clr d x px y py) words → ((s.kA (s.kKey c) x).toNat > 0xFFFF ∨ (s.kA (s.kKey c) y).toNat > 0xFFFF) →
    ∃ t, exec (.fmacM c) s = .next t ∧ Faulted s t c 4)

/-- A load writes its D register with the word at its address and a store writes the word; the address is A, A + displacement, or A before
a post-modify by M or by the displacement, which then writes A (R313, R320). An address above 0xFFFF is FAULT 4 (R272). MOVE copies a
register into one, MOVEI writes the sign-extended immediate, MOVEU the upper half with zeros below, MOVEL the lower half and leaves the upper
one (R321): D, A and M registers, VBASE and IMASK take the word, LC0 and LC1 its low half (R311), SATB a positive finite number and else 1.0
(R285), SR its control bits at once and its flags (R281), and TIMER takes it at once (R282). A word moved to DMA0 to DMA3 starts its channel
and clears the channel's error bit, and 0 stops it after the descriptor in flight (R275); one moved to DBELL raises vector 5 on the cores it
names (R282). A read of MBOX clears its request (R311). -/
def Obligations.KettleMoves : Prop :=
  (∀ (s : State) (c : Fin 96) (st : Bool) (bus am d a words ad : Nat) (disp : Int),
    Issues s c (.ls st bus am d a disp) words → am ≤ 3 →
    ad = (if am = 2 then s.kA (s.kKey c) a + BitVec.ofInt 32 disp else s.kA (s.kKey c) a).toNat → ad ≤ 0xFFFF →
    ∃ t, exec (if st then .st c else .ld c) s = .next t ∧
      (st = false → Writes s t c d (s.kMem (s.kKey c) bus ad) .load) ∧
      (st = true → Writes s t c (memCode bus ad) (s.kD (s.kKey c) d) .mem) ∧
      (am = 1 → Writes s t c (0x20 + a) (postModify (s.kA (s.kKey c) a) (s.kM (s.kKey c) a)) .post) ∧
      (am = 3 → Writes s t c (0x20 + a) (s.kA (s.kKey c) a + BitVec.ofInt 32 disp) .post) ∧
      Issued s t c words ([if st then memCode bus ad else d] ++ (if am = 1 ∨ am = 3 then [0x20 + a] else []))) ∧
  (∀ (s : State) (c : Fin 96) (st : Bool) (bus am d a words ad : Nat) (disp : Int),
    Issues s c (.ls st bus am d a disp) words → am ≤ 3 →
    ad = (if am = 2 then s.kA (s.kKey c) a + BitVec.ofInt 32 disp else s.kA (s.kKey c) a).toNat → ad > 0xFFFF →
    ∃ t, exec (if st then .st c else .ld c) s = .next t ∧ Faulted s t c 4) ∧
  (∀ (s : State) (c : Fin 96) (code rd f words : Nat),
    Issues s c (.mov code rd f) words → (rd < 0x40 ∨ rd = 0x44 ∨ rd = 0x45) →
    ∃ t, exec (moveCmd code c) s = .next t ∧ Writes s t c rd (s.moveVal c code rd f) (if rd < 0x20 then .alu else .move) ∧
      (code = 0 → f = 0x4C → nbit (t.kc (s.kKey c)).req 7 = false) ∧ Issued s t c words [rd]) ∧
  (∀ (s : State) (c : Fin 96) (code rd f words : Nat),
    Issues s c (.mov code rd f) words → (rd = 0x40 ∨ rd = 0x41) →
    ∃ t, exec (moveCmd code c) s = .next t ∧ Writes s t c rd (s.moveVal c code rd f &&& 0xFFFF) .move ∧ Issued s t c words [rd]) ∧
  (∀ (s : State) (c : Fin 96) (code f words : Nat),
    Issues s c (.mov code 0x42 f) words →
    ∃ t, exec (moveCmd code c) s = .next t ∧
      Writes s t c 0x42 (if fpPosFinite (s.moveVal c code 0x42 f) then s.moveVal c code 0x42 f else 0x3F800000) .satb ∧
      Issued s t c words [0x42]) ∧
  (∀ (s : State) (c : Fin 96) (code f words : Nat),
    Issues s c (.mov code 0x43 f) words → (∀ w, w ∈ (s.kc (s.kKey c)).pend → w.reg ≠ 0x43) →
    ∃ t, exec (moveCmd code c) s = .next t ∧ t.kBase (s.kKey c) 0x43 = s.moveVal c code 0x43 f &&& 0x80C0 ∧
      Writes s t c 0x50 (s.moveVal c code 0x43 f &&& 0xF) .flag ∧ Issued s t c words [0x50]) ∧
  (∀ (s : State) (c : Fin 96) (code f words : Nat),
    Issues s c (.mov code 0x46 f) words → (∀ w, w ∈ (s.kc (s.kKey c)).pend → w.reg ≠ 0x46) →
    ∃ t, exec (moveCmd code c) s = .next t ∧ t.kBase (s.kKey c) 0x46 = s.moveVal c code 0x46 f ∧ Issued s t c words []) ∧
  (∀ (s : State) (c : Fin 96) (code n f words : Nat),
    Issues s c (.mov code (0x48 + n) f) words → n < 4 →
    ∃ t, exec (moveCmd code c) s = .next t ∧
      (t.kc (s.kKey c)).ch n = (if s.moveVal c code (0x48 + n) f = 0 then { (s.kc (s.kKey c)).ch n with stop := ((s.kc (s.kKey c)).ch n).addr != 0 }
        else ⟨(s.moveVal c code (0x48 + n) f).toNat, false⟩) ∧
      (∀ m, m ≠ n → (t.kc (s.kKey c)).ch m = (s.kc (s.kKey c)).ch m) ∧
      (s.moveVal c code (0x48 + n) f ≠ 0 → ∀ x, x ∈ s.kCores (s.kKey c) → nbit (t.fld (DSP_CORE_STAT_DMA_ERR x)) n = false) ∧
      Untouched s t c [] ∧ CoreOnly s t c ((s.kCores (s.kKey c)).map DSP_CORE_STAT)) ∧
  (∀ (s : State) (c : Fin 96) (code f words : Nat),
    Issues s c (.mov code 0x4D f) words →
    ∃ t, exec (moveCmd code c) s = .next t ∧
      (∀ i, i < 8 → (s.moveVal c code 0x4D f).getLsbD i = true → nbit (t.kc (s.kKey (s.kKey c / 8 * 8 + i))).req 5 = true) ∧
      (∀ d, d ≠ s.kKey c → t.kc d = s.kc d ∨
        (t.kc d = { s.kc d with req := nset (s.kc d).req 5 } ∧
          ∃ i, i < 8 ∧ d = s.kKey (s.kKey c / 8 * 8 + i) ∧ (s.moveVal c code 0x4D f).getLsbD i = true)) ∧
      Untouched s t c [] ∧ t.ket.p = s.ket.p ∧ t.ket.shared = s.ket.shared ∧ t = { s with ket := t.ket, regs := t.regs } ∧
      Keeps s t ((s.kCores (s.kKey c)).map DSP_CORE_CNT_BUSY))

/-- NOP goes on. BRA whose condition holds, CALL and JMP name a target and go on with two delay slots; BRA whose condition fails names
none; CALL writes A15 with the address after its delay slots, each of one word or two (R315, R316). RTI completes what has issued, takes the
program counter, loops, counters, flags and control bits back from the shadow set and leaves the handler (R299). WAIT ends the invocation
with its rest where no request is pending (R294, R295). REP repeats the next instruction by its immediate or a register's low half, and a count of 0
skips it (R322); LOOP enters a block while its counter is not 0, alone or inside an enclosing loop, and skips it otherwise; a third level, the
enclosing loop's counter, and a block that outlasts the enclosing one are FAULT 2 (R323). No register or memory word changes but those named. -/
def Obligations.KettleFlow : Prop :=
  (∀ (s : State) (c : Fin 96) (words : Nat), Issues s c .nop words →
    ∃ t, exec (.nop c) s = .next t ∧ Issued s t c words []) ∧
  (∀ (s : State) (c : Fin 96) (cond words : Nat) (disp : Int),
    Issues s c (.bra cond disp) words →
    ∃ t, exec (.bra c) s = .next t ∧ (t.kc (s.kKey c)).slots = 2 ∧ (t.kc (s.kKey c)).pc = (s.kc (s.kKey c)).pc + words ∧
      (t.kc (s.kKey c)).target = (if condTrue cond (s.kRead (s.kKey c) 0x50 .br) then
        some (if ((s.kc (s.kKey c)).pc : Int) + disp < 0 then 0x4000 else (((s.kc (s.kKey c)).pc : Int) + disp).toNat, true) else none) ∧
      Untouched s t c [] ∧ CoreOnly s t c []) ∧
  (∀ (s : State) (c : Fin 96) (tgt words m n : Nat),
    Issues s c (.call tgt) words →
    m = (if fieldGet (s.kFetch (s.kKey c) ((s.kc (s.kKey c)).pc + 1)) 28 4 = 15 then 2 else 1) →
    n = (if fieldGet (s.kFetch (s.kKey c) ((s.kc (s.kKey c)).pc + 1 + m)) 28 4 = 15 then 2 else 1) →
    ∃ t, exec (.call c) s = .next t ∧ Writes s t c 0x2F (BitVec.ofNat 32 ((s.kc (s.kKey c)).pc + 1 + m + n)) .move ∧
      (t.kc (s.kKey c)).slots = 2 ∧ (t.kc (s.kKey c)).target = some (tgt, false) ∧
      (t.kc (s.kKey c)).pc = (s.kc (s.kKey c)).pc + words ∧ Untouched s t c [0x2F] ∧ CoreOnly s t c []) ∧
  (∀ (s : State) (c : Fin 96) (a words : Nat),
    Issues s c (.jmp a) words →
    ∃ t, exec (.jmp c) s = .next t ∧ (t.kc (s.kKey c)).slots = 2 ∧
      (t.kc (s.kKey c)).target = some ((s.kRead (s.kKey c) (0x20 + a) .jmp).toNat, false) ∧
      (t.kc (s.kKey c)).pc = (s.kc (s.kKey c)).pc + words ∧ Untouched s t c [] ∧ CoreOnly s t c []) ∧
  (∀ (s : State) (c : Fin 96) (words : Nat),
    Issues s c .rti words →
    ∃ t, exec (.rti c) s = .next t ∧ (t.kc (s.kKey c)).pc = (s.kc (s.kKey c)).shadow.pc ∧
      (t.kc (s.kKey c)).loops = (s.kc (s.kKey c)).shadow.loops ∧ (t.kc (s.kKey c)).ih = false ∧ (t.kc (s.kKey c)).st = 2 ∧
      t.kBase (s.kKey c) 0x40 = (s.kc (s.kKey c)).shadow.lc0 ∧ t.kBase (s.kKey c) 0x41 = (s.kc (s.kKey c)).shadow.lc1 ∧
      t.kBase (s.kKey c) 0x43 = (s.kc (s.kKey c)).shadow.sr &&& 0x80C0 ∧ t.kBase (s.kKey c) 0x50 = (s.kc (s.kKey c)).shadow.sr &&& 0xF ∧
      (∀ r, r < 0x40 → t.kBase (s.kKey c) r = (s.kFlush (s.kKey c)).kBase (s.kKey c) r) ∧ (t.kc (s.kKey c)).pend = [] ∧ CoreOnly s t c ((s.kCores (s.kKey c)).map DSP_CORE_STAT)) ∧
  (∀ (s : State) (c : Fin 96) (words : Nat),
    Issues s c .wait words → (s.kBase (s.kKey c) 0x46).toNat ≠ 1 →
    ∃ t, exec (.wait c) s = .next t ∧ (t.kc (s.kKey c)).st = 1 ∧ (t.kc (s.kKey c)).pc = (s.kc (s.kKey c)).pc + 1 ∧
      ((s.kc (s.kKey c)).req = 0 → (t.kc (s.kKey c)).inv = 0 ∧
        (t.kc (s.kKey c)).restEnd = s.raw + restTime ((s.kc (s.kKey c)).inv + 1) (s.fld (DSP_CORE_STAT_REST (s.kKey c)))) ∧
      ((s.kc (s.kKey c)).req ≠ 0 → (t.kc (s.kKey c)).inv = (s.kc (s.kKey c)).inv + 1 ∧ (t.kc (s.kKey c)).restEnd = (s.kc (s.kKey c)).restEnd) ∧
      (∀ x, x ∈ s.kCores (s.kKey c) → t.fld (DSP_CORE_STAT_STATE x) = 1) ∧ Untouched s t c [] ∧
      CoreOnly s t c ((s.kCores (s.kKey c)).map DSP_CORE_STAT)) ∧
  (∀ (s : State) (c : Fin 96) (n words : Nat),
    Issues s c (.repI n) words → 0 < n →
    ∃ t, exec (.rep c) s = .next t ∧ (t.kc (s.kKey c)).rep = some n ∧ (t.kc (s.kKey c)).pc = (s.kc (s.kKey c)).pc + 1 ∧
      Untouched s t c [] ∧ CoreOnly s t c []) ∧
  (∀ (s : State) (c : Fin 96) (i : KI) (d words m : Nat),
    Issues s c i words → (i = .repI 0 ∨ (i = .repD d ∧ (s.kRead (s.kKey c) d .rep).toNat % 65536 = 0)) →
    m = (if fieldGet (s.kFetch (s.kKey c) ((s.kc (s.kKey c)).pc + 1)) 28 4 = 15 then 2 else 1) →
    ∃ t, exec (if i = .repI 0 then .rep c else .repD c) s = .next t ∧ (t.kc (s.kKey c)).rep = (s.kc (s.kKey c)).rep ∧
      (t.kc (s.kKey c)).pc = (s.kc (s.kKey c)).pc + m + 1 ∧ Untouched s t c [] ∧ CoreOnly s t c []) ∧
  (∀ (s : State) (c : Fin 96) (d words : Nat),
    Issues s c (.repD d) words → (s.kRead (s.kKey c) d .rep).toNat % 65536 ≠ 0 →
    ∃ t, exec (.repD c) s = .next t ∧ (t.kc (s.kKey c)).rep = some ((s.kRead (s.kKey c) d .rep).toNat % 65536) ∧
      (t.kc (s.kKey c)).pc = (s.kc (s.kKey c)).pc + 1 ∧ Untouched s t c [] ∧ CoreOnly s t c []) ∧
  (∀ (s : State) (c : Fin 96) (k len words : Nat),
    Issues s c (.loop k len) words → k ≤ 1 → (s.kc (s.kKey c)).loops.length ≤ 1 →
    (∀ l, l ∈ (s.kc (s.kKey c)).loops → l.lc ≠ k ∧ (s.kc (s.kKey c)).pc + len ≤ l.last) → (s.kRead (s.kKey c) (0x40 + k) .lp).toNat % 65536 ≠ 0 →
    ∃ t, exec (.loop c) s = .next t ∧ (t.kc (s.kKey c)).pc = (s.kc (s.kKey c)).pc + 1 ∧
      (t.kc (s.kKey c)).loops = ⟨(s.kc (s.kKey c)).pc + 1, (s.kc (s.kKey c)).pc + len, k, none⟩ :: (s.kc (s.kKey c)).loops ∧
      Untouched s t c [] ∧ CoreOnly s t c []) ∧
  (∀ (s : State) (c : Fin 96) (k len words : Nat),
    Issues s c (.loop k len) words → k ≤ 1 → (s.kc (s.kKey c)).loops.length ≤ 1 →
    (∀ l, l ∈ (s.kc (s.kKey c)).loops → l.lc ≠ k ∧ (s.kc (s.kKey c)).pc + len < l.last) → (s.kRead (s.kKey c) (0x40 + k) .lp).toNat % 65536 = 0 →
    ∃ t, exec (.loop c) s = .next t ∧ (t.kc (s.kKey c)).pc = (s.kc (s.kKey c)).pc + len + 1 ∧
      (t.kc (s.kKey c)).loops = (s.kc (s.kKey c)).loops ∧
      Untouched s t c [] ∧ CoreOnly s t c []) ∧
  (∀ (s : State) (c : Fin 96) (k len words : Nat),
    Issues s c (.loop k len) words → (2 ≤ (s.kc (s.kKey c)).loops.length ∨
      ∃ l, (s.kc (s.kKey c)).loops = [l] ∧ (l.lc = k ∨ l.last < (s.kc (s.kKey c)).pc + len)) →
    ∃ t, exec (.loop c) s = .next t ∧ Faulted s t c 2)

/-- MAXI and MINI, on integers and in FP32, replace the best value and its index when the candidate, a register or the word at an address, is
strictly better, and else write neither; a NaN is never taken and sets NV; the memory form post-modifies its address register where PM says
so (R324). The parallel form issues its operation as it would issue alone, with its moves: loads, stores and post-modifies; a load into the
register that the operation writes leaves nothing (R288, R325). A search or a move of an address above 0xFFFF is FAULT 4 (R272). A reserved
word is FAULT 1 (R309), a program counter beyond P memory FAULT 3 (R272), and an instruction that R327 forbids in its place FAULT 2, shown of REP, each with
the fault's event and program counter (R286). -/
def Obligations.KettleSearch : Prop :=
  (∀ (s : State) (c : Fin 96) (int mn ix : Bool) (dm di ds a words : Nat) (v m : W32),
    Issues s c (.srch int mn ix dm di ds a) words → v = s.kD (s.kKey c) ds → m = s.kD (s.kKey c) dm →
    ∃ t, exec (if mn then .mini c else .maxi c) s = .next t ∧
      ((if int then (if mn then v.slt m else m.slt v) else (if mn then fLt v m else fLt m v)) = true → Writes s t c dm v .alu ∧
        Writes s t c di (if ix then s.kA (s.kKey c) a else BitVec.ofNat 32 ((s.kRead (s.kKey c) 0x40 .e1).toNat % 65536)) .alu ∧
        Issued s t c words [dm, di]) ∧
      ((if int then (if mn then v.slt m else m.slt v) else (if mn then fLt v m else fLt m v)) = false → Issued s t c words []) ∧
      (int = false → (fpUnpack v = .nan ∨ fpUnpack m = .nan) → (∀ w, w ∈ (s.kc (s.kKey c)).pend → w.reg ≠ 0x43) →
        nbit (t.kBase (s.kKey c) 0x43).toNat 7 = true)) ∧
  (∀ (s : State) (c : Fin 96) (int mn ix pm : Bool) (dm di bus a words : Nat) (v m : W32),
    Issues s c (.srchM int mn ix dm di bus a pm) words → (s.kA (s.kKey c) a).toNat ≤ 0xFFFF →
    v = s.kMem (s.kKey c) bus (s.kA (s.kKey c) a).toNat → m = s.kD (s.kKey c) dm →
    ∃ t, exec (if mn then .mini c else .maxi c) s = .next t ∧
      ((if int then (if mn then v.slt m else m.slt v) else (if mn then fLt v m else fLt m v)) = true → Writes s t c dm v .alu ∧
        Writes s t c di (if ix then s.kA (s.kKey c) a else BitVec.ofNat 32 ((s.kRead (s.kKey c) 0x40 .e1).toNat % 65536)) .alu) ∧
      ((if int then (if mn then v.slt m else m.slt v) else (if mn then fLt v m else fLt m v)) = false →
        Issued s t c words (if pm then [0x20 + a] else [])) ∧
      (pm = true → Writes s t c (0x20 + a) (postModify (s.kA (s.kKey c) a) (s.kM (s.kKey c) a)) .post) ∧
      Issued s t c words ([dm, di] ++ if pm then [0x20 + a] else [])) ∧
  (∀ (s : State) (c : Fin 96) (int mn ix pm : Bool) (dm di bus a words : Nat),
    Issues s c (.srchM int mn ix dm di bus a pm) words → (s.kA (s.kKey c) a).toNat > 0xFFFF →
    ∃ t, exec (if mn then .mini c else .maxi c) s = .next t ∧ Faulted s t c 4) ∧
  (∀ (s : State) (c : Fin 96) (x y : Option KMove) (op : KI) (words : Nat),
    Issues s c (.par x y op) words → s.kMoveBad (s.kKey c) x = false → s.kMoveBad (s.kKey c) y = false →
    ∃ t, exec (.parallelForm c) s = .next t ∧ (∀ w, w ∈ s.opWrites (s.kKey c) op → w ∈ (t.kc (s.kKey c)).pend) ∧
      Moved s t c 0 x op.dest ∧ Moved s t c 1 y op.dest ∧
      (∀ w, w ∈ (t.kc (s.kKey c)).pend → w.kind = .load → some w.reg = op.dest → w ∈ (s.kc (s.kKey c)).pend) ∧
      Issued s t c words ([0x50] ++ op.dest.toList ++ s.moveRegs (s.kKey c) 0 x ++ s.moveRegs (s.kKey c) 1 y)) ∧
  (∀ (s : State) (c : Fin 96) (x y : Option KMove) (op : KI) (words : Nat),
    Issues s c (.par x y op) words → (s.kMoveBad (s.kKey c) x = true ∨ s.kMoveBad (s.kKey c) y = true) →
    ∃ t, exec (.parallelForm c) s = .next t ∧ Faulted s t c 4) ∧
  (∀ (s : State) (c : Fin 96),
    ((s.kc (s.kKey c)).st = 2 ∨ (s.kc (s.kKey c)).st = 3) → s.kFenced (s.kKey c) = false → s.blockRuns (90 + c / 8) = true →
    (s.kc (s.kKey c)).pc ≤ 0x3FFF →
    decK (s.kFetch (s.kKey c) (s.kc (s.kKey c)).pc) (s.kFetch (s.kKey c) ((s.kc (s.kKey c)).pc + 1)) = none →
    ∃ t, exec (.reservedEncoding c) s = .next t ∧ Faulted s t c 1) ∧
  (∀ (s : State) (c : Fin 96),
    ((s.kc (s.kKey c)).st = 2 ∨ (s.kc (s.kKey c)).st = 3) → s.kFenced (s.kKey c) = false → s.blockRuns (90 + c / 8) = true →
    (s.kc (s.kKey c)).pc > 0x3FFF →
    ∃ t, exec (.nop c) s = .next t ∧ Faulted s t c 3) ∧
  (∀ (s : State) (c : Fin 96) (n words : Nat),
    ((s.kc (s.kKey c)).st = 2 ∨ (s.kc (s.kKey c)).st = 3) → s.kFenced (s.kKey c) = false → s.blockRuns (90 + c / 8) = true →
    (s.kc (s.kKey c)).pc ≤ 0x3FFF →
    decK (s.kFetch (s.kKey c) (s.kc (s.kKey c)).pc) (s.kFetch (s.kKey c) ((s.kc (s.kKey c)).pc + 1)) = some (.repI n, words) →
    (s.kc (s.kKey c)).marked = true →
    ∃ t, exec (.rep c) s = .next t ∧ Faulted s t c 2)

/-- A measurement of no more than the step limit, or any under the SLEW policy, leaves presented time where it was in every state of the servo
after start-up's acquisition, and writes the offset register and a rate within the limit (R348, R355, R360); it comes from a one-step Sync, a
Follow_Up with its Sync, or the mean of a millisecond of marker measurements (R353, R367), and none comes before the first path delay
(R353) or from another master, MAC or domain (R351). A greater one under the step policy moves presented time by itself and adds 1 to the
epoch (R355, R358, R359), without a new epoch in start-up's acquisition, and is discarded by a device that follows another's steps (R362); an upstream
step comes with its own epoch (R368). A Delay_Resp puts one mean path delay among the last eight and their median into the register; a
Delay_Req leaves at its interval (R353). A second Announce in time selects a master that is better than the selected one, with event
0x0606, and one of the selected master renews it; the loss of the selected one puts a LOCKED or TRACKing device into HOLDOVER without moving
presented time, and an acquisition without a measurement ends in FREERUN (R354, R356, R357). Marker stamps of the source port add one
measurement, those of another port none (R367), and a device that first locks takes the upstream epoch (R368). -/
def Obligations.TimebaseServo : Prop :=
  (∀ (s : State) (mac : Fin 17) (dom clk seq : Nat) (t1 corr m : Int),
    s.ptpTaken mac dom = true → s.fromMaster clk = true → s.tb.mpdWin ≠ [] →
    m = s.nowNs - t1 - corr - median s.tb.mpdWin - toSigned 32 (s.fld TB_ASYM_VALUE) → s.Measures m →
    ∃ t, exec (.ptpSyncRx mac dom clk seq false t1 corr) s = .next t ∧ Measured s t m) ∧
  (∀ (s : State) (mac : Fin 17) (dom clk seq : Nat) (t1 corr : Int),
    s.ptpTaken mac dom = true → s.fromMaster clk = true →
    exec (.ptpSyncRx mac dom clk seq true t1 corr) s =
      .next { s with tb := { s.tb with pendSync := some (seq, s.nowNs, corr) } }) ∧
  (∀ (s : State) (mac : Fin 17) (dom clk seq : Nat) (t1 corr : Int),
    s.ptpTaken mac dom = true → s.fromMaster clk = true → s.tb.mpdWin = [] →
    exec (.ptpSyncRx mac dom clk seq false t1 corr) s =
      .next { s with tb := { s.tb with syncDiff := some (s.nowNs - t1 - corr) } }) ∧
  (∀ (s : State) (mac : Fin 17) (dom clk seq : Nat) (two : Bool) (t1 t4 corr : Int) (int : Nat),
    (s.ptpTaken mac dom && s.fromMaster clk) = false →
    exec (.ptpSyncRx mac dom clk seq two t1 corr) s = .next s ∧ exec (.ptpFollowUpRx mac dom clk seq t1 corr) s = .next s ∧
    exec (.ptpDelayRespRx mac dom clk seq t4 corr int) s = .next s) ∧
  (∀ (s : State) (mac : Fin 17) (dom clk seq : Nat) (t1 t2 c corr m : Int),
    s.ptpTaken mac dom = true → s.fromMaster clk = true → s.tb.pendSync = some (seq, t2, c) → s.tb.mpdWin ≠ [] →
    m = t2 - t1 - c - corr - median s.tb.mpdWin - toSigned 32 (s.fld TB_ASYM_VALUE) → s.Measures m →
    ∃ t, exec (.ptpFollowUpRx mac dom clk seq t1 corr) s = .next t ∧ Measured s t m ∧ t.tb.pendSync = none) ∧
  (∀ (s : State) (mac : Fin 17) (dom clk seq : Nat) (t1 corr m : Int),
    s.ptpTaken mac dom = true → s.fromMaster clk = true → s.tb.mpdWin ≠ [] → (s.fld TB_STAT_STATE = 2 ∨ s.fld TB_STAT_STATE = 3) →
    m = s.nowNs - t1 - corr - median s.tb.mpdWin - toSigned 32 (s.fld TB_ASYM_VALUE) →
    m.natAbs > s.fld TB_SERVO_LIM_STEP_US * 1000 → s.bit TB_CTRL_POLICY = false → s.followsUpstream = false →
    s.fld TB_EPOCH_EPOCH < 2 ^ 32 - 1 →
    ∃ t, exec (.ptpSyncRx mac dom clk seq false t1 corr) s = .next t ∧ t.now = s.now - m * 65536 ∧
      t.fld TB_EPOCH_EPOCH = s.fld TB_EPOCH_EPOCH + 1 ∧ t.cask.epoch = s.fld TB_EPOCH_EPOCH + 1 ∧ t.tb.rate = s.tb.rate ∧
      t.tb.raw = s.tb.raw ∧ t.dram = s.dram ∧ t.enc = s.enc ∧ t.brg = s.brg) ∧
  (∀ (s : State) (mac : Fin 17) (dom clk seq : Nat) (t1 corr m : Int),
    s.ptpTaken mac dom = true → s.fromMaster clk = true → s.tb.mpdWin ≠ [] → s.fld TB_STAT_STATE = 1 → s.tb.startAcq = true →
    m = s.nowNs - t1 - corr - median s.tb.mpdWin - toSigned 32 (s.fld TB_ASYM_VALUE) →
    m.natAbs > s.fld TB_SERVO_LIM_STEP_US * 1000 → s.fld TB_EPOCH_EPOCH < 2 ^ 32 - 1 →
    ∃ t, exec (.ptpSyncRx mac dom clk seq false t1 corr) s = .next t ∧ t.now = s.now - m * 65536 ∧
      t.fld TB_EPOCH_EPOCH = s.fld TB_EPOCH_EPOCH ∧ t.cask = s.cask ∧ t.fld TB_STAT_STATE = 2 ∧ t.tb.startAcq = false ∧
      t.tb.raw = s.tb.raw ∧ t.dram = s.dram ∧ t.enc = s.enc ∧ t.brg = s.brg) ∧
  (∀ (s : State) (mac : Fin 17) (dom clk seq : Nat) (t1 corr m : Int),
    s.ptpTaken mac dom = true → s.fromMaster clk = true → s.tb.mpdWin ≠ [] → (s.fld TB_STAT_STATE = 2 ∨ s.fld TB_STAT_STATE = 3) →
    m = s.nowNs - t1 - corr - median s.tb.mpdWin - toSigned 32 (s.fld TB_ASYM_VALUE) →
    m.natAbs > s.fld TB_SERVO_LIM_STEP_US * 1000 → s.bit TB_CTRL_POLICY = false → s.followsUpstream = true →
    ∃ t, exec (.ptpSyncRx mac dom clk seq false t1 corr) s = .next t ∧ t.now = s.now ∧ t.tb.rate = s.tb.rate ∧
      t.fld TB_PTP_OFS_VALUE = ofSigned 32 m ∧ t = { s with tb := t.tb, regs := t.regs, fresh := t.fresh } ∧ Keeps s t [TB_PTP_OFS]) ∧
  (∀ (s : State) (mac : Fin 17) (dom clk seq : Nat) (t3 t4 corr d : Int) (int : Nat),
    s.ptpTaken mac dom = true → s.fromMaster clk = true → s.tb.delayReq = some (seq, t3) → s.tb.syncDiff = some d →
    ∃ t, exec (.ptpDelayRespRx mac dom clk seq t4 corr int) s = .next t ∧
      t.tb.mpdWin = ((d + (t4 - t3 - corr)) / 2 :: s.tb.mpdWin).take 8 ∧ t.tb.delayReq = none ∧ t.tb.delIntNs = int ∧
      t.fld TB_PTP_MPD_VALUE = ofSigned 32 (median t.tb.mpdWin) ∧ t.now = s.now ∧
      t = { s with tb := t.tb, regs := t.regs } ∧ Keeps s t [TB_PTP_MPD]) ∧
  (∀ (s : State) (seq : Nat),
    s.fld TB_CTRL_SRC = 1 → s.bit TB_STAT_MASTER = true → s.raw - s.tb.delLast ≥ s.tb.delIntNs * nsU →
    exec (.delayReqSend seq) s =
      .next { s with tb := { s.tb with delayReq := some (seq, s.nowNs), delLast := s.raw }, out := s.out ++ [.delayReq seq] }) ∧
  (∀ (s : State) (mac : Fin 17) (dom clk key int n last : Nat) (utc : Int),
    s.ptpTaken mac dom = true → (s.bit TB_STAT_MASTER = false ∨ (key < s.tb.masterKey ∧ s.tb.master ≠ clk)) →
    tget (fun _ => (0, 0)) s.tb.foreign clk = (n, last) → 0 < n → s.raw - last ≤ 4 * int * nsU →
    ∃ t, exec (.ptpAnnounceRx mac dom clk key int utc) s = .next t ∧ t.fld TB_STAT_MASTER = 1 ∧ t.tb.master = clk ∧
      t.tb.masterKey = key ∧ t.fld TB_UTC_VALUE = ofSigned 32 utc ∧ (s.tb.master ≠ clk → Raises s t 0x0606 0 (evArg [(0, 8, clk)])) ∧ t.now = s.now ∧
      t = { s with tb := t.tb, regs := t.regs, evq := t.evq, ctl := t.ctl } ∧ Keeps s t [TB_STAT, TB_UTC]) ∧
  (∀ (s : State) (mac : Fin 17) (dom clk key int n last : Nat) (utc : Int),
    s.ptpTaken mac dom = true → s.fromMaster clk = false → tget (fun _ => (0, 0)) s.tb.foreign clk = (n, last) →
    (n = 0 ∨ 4 * int * nsU < s.raw - last) →
    exec (.ptpAnnounceRx mac dom clk key int utc) s =
      .next { s with tb := { s.tb with foreign := tset (fun _ => (0, 0)) s.tb.foreign clk (1, s.raw) } }) ∧
  (∀ (s : State) (mac : Fin 17) (dom clk key int : Nat) (utc : Int),
    s.ptpTaken mac dom = true → s.fromMaster clk = true →
    ∃ t, exec (.ptpAnnounceRx mac dom clk key int utc) s = .next t ∧ t.tb.annRaw = s.raw ∧ t.tb.annIntNs = int ∧ t.tb.masterKey = key ∧
      t.tb.master = clk ∧ t.fld TB_UTC_VALUE = ofSigned 32 utc ∧ t.now = s.now ∧ t = { s with tb := t.tb, regs := t.regs } ∧ Keeps s t [TB_UTC]) ∧
  (∀ (s : State),
    s.bit TB_STAT_MASTER = true → s.raw - s.tb.annRaw ≥ s.fld TB_PTP_CFG_ANN_TIMEOUT * s.tb.annIntNs * nsU →
    (s.fld TB_STAT_STATE = 2 ∨ s.fld TB_STAT_STATE = 3) →
    ∃ t, exec .masterLost s = .next t ∧ t.fld TB_STAT_MASTER = 0 ∧ t.fld TB_STAT_STATE = 4 ∧ t.now = s.now ∧
      t.tb.preHold = s.fld TB_STAT_STATE ∧ t.tb.integ = s.tb.integ ∧
      Raises s t 0x0601 0 (evArg [(0, 1, 4), (1, 1, s.fld TB_STAT_STATE)]) ∧
      t = { s with tb := t.tb, regs := t.regs, evq := t.evq, ctl := t.ctl } ∧ Keeps s t [TB_STAT]) ∧
  (∀ (s : State),
    s.bit TB_STAT_MASTER = true → s.raw - s.tb.annRaw ≥ s.fld TB_PTP_CFG_ANN_TIMEOUT * s.tb.annIntNs * nsU →
    s.fld TB_STAT_STATE ≠ 2 → s.fld TB_STAT_STATE ≠ 3 →
    ∃ t, exec .masterLost s = .next t ∧ t.fld TB_STAT_MASTER = 0 ∧ t.fld TB_STAT_STATE = s.fld TB_STAT_STATE ∧
      t = { s with regs := t.regs } ∧ Keeps s t [TB_STAT]) ∧
  (∀ (s : State),
    s.fld TB_STAT_STATE = 1 → s.raw - s.tb.acqRaw ≥ s.fld TB_CTRL_ACQ_TIMEOUT * secU → s.atStep 7 = false →
    ∃ t, exec .acqTimeout s = .next t ∧ t.fld TB_STAT_STATE = 0 ∧ t.now = s.now ∧
      Raises s t 0x0601 0 (evArg [(0, 1, 0), (1, 1, 1)]) ∧
      t = { s with tb := t.tb, regs := t.regs, evq := t.evq, ctl := t.ctl } ∧ Keeps s t [TB_STAT]) ∧
  (∀ (s : State),
    s.fld TB_STAT_STATE = 1 → s.raw - s.tb.acqRaw ≥ s.fld TB_CTRL_ACQ_TIMEOUT * secU → s.atStep 7 = true →
    ∃ t, exec .acqTimeout s = .next t ∧ t.fld TB_STAT_STATE = 0 ∧ t.fld CFG_BOOT_STAT_STEP = 8 ∧ t.now = s.now ∧
      t = { s with tb := t.tb, regs := t.regs, evq := t.evq, ctl := t.ctl } ∧ Keeps s t [TB_STAT, CFG_BOOT_STAT]) ∧
  (∀ (s : State) (port : Fin 16) (t1 t2 t3 t4 : Int),
    s.fld TB_CTRL_SRC = 2 → s.fld TB_CTRL_YZ_PORT = port.val →
    ∃ t, exec (.yzStampExchange port t1 t2 t3 t4) s = .next t ∧ Sent s t [.stamps port] ∧
      t.tb.yzSum = s.tb.yzSum + s.yzOffset port t1 t2 t3 t4 ∧ t.tb.yzCnt = s.tb.yzCnt + 1 ∧
      tget (fun _ => []) t.tb.yzMpd port = s.yzPaths port t1 t2 t3 t4 ∧ t = { s with tb := t.tb, out := t.out }) ∧
  (∀ (s : State) (port : Fin 16) (t1 t2 t3 t4 : Int),
    (s.fld TB_CTRL_SRC ≠ 2 ∨ s.fld TB_CTRL_YZ_PORT ≠ port.val) →
    exec (.yzStampExchange port t1 t2 t3 t4) s = .next { s with out := s.out ++ [.stamps port] }) ∧
  (∀ (s : State) (up : Nat) (m : Int),
    s.fld TB_CTRL_SRC = 2 → s.tb.yzCnt > 0 → s.raw - s.tb.yzWin ≥ msU → m = s.tb.yzSum / (s.tb.yzCnt : Int) →
    s.fld TB_STAT_STATE = 3 → s.Measures m →
    ∃ t, exec (.yzTimeMeasure up) s = .next t ∧ Measured s t m ∧ t.tb.yzCnt = 0 ∧ t.tb.yzSum = 0) ∧
  (∀ (s : State) (up : Nat) (m : Int),
    s.fld TB_CTRL_SRC = 2 → s.tb.yzCnt > 0 → s.raw - s.tb.yzWin ≥ msU → m = s.tb.yzSum / (s.tb.yzCnt : Int) →
    s.fld TB_STAT_STATE = 2 → s.Measures m → 15 ≤ s.tb.nGood → m.natAbs ≤ s.fld TB_SERVO_LIM_LOCK_NS → up < 2 ^ 32 →
    ∃ t, exec (.yzTimeMeasure up) s = .next t ∧ t.now = s.now ∧ t.fld TB_STAT_STATE = 3 ∧ t.fld TB_EPOCH_EPOCH = up ∧
      t.cask.epoch = (if s.fld TB_EPOCH_EPOCH = up then s.cask.epoch else up) ∧ t.tb.yzCnt = 0 ∧ t.dram = s.dram ∧ t.enc = s.enc ∧ t.brg = s.brg) ∧
  (∀ (s : State) (epoch : Nat) (step : Int),
    s.fld TB_CTRL_SRC = 2 → epoch < 2 ^ 32 →
    ∃ t, exec (.upstreamStepRx epoch step) s = .next t ∧ t.now = s.now + step ∧ t.fld TB_EPOCH_EPOCH = epoch ∧ t.tb.rate = s.tb.rate ∧
      t.tb.raw = s.tb.raw ∧ t.dram = s.dram ∧ t.enc = s.enc ∧ t.brg = s.brg)

/-- A taken write of ARM = 1 puts the trigger of the written registers in force; one less than 1 µs ahead is LATE with event 0x0604, a
periodic one whose period is out of range fails the access with STATUS 4 and arms nothing; ARM = 0 disarms (R363, R364); writes of the
device's own triggers are ignored (R365). A user's unit takes presented time and epoch at the event of its source, an edge of its pin or an
event of its lane, and marks an unread record that it overwrites as overrun; another event leaves it; a device-owned unit takes its own and
never overruns (R366). A read of a
capture's epoch returns it and clears VALID; a read of TB_TIME_S_LO returns the seconds and latches all four words of presented time
(R349, R370). A running output pulse ends after its width (R366). No other trigger, capture or pin changes. -/
def Obligations.TriggersAndCaptures : Prop :=
  (∀ (s : State) (p : Port) (n : Fin 64) (v : W32),
    Taken s p (TB_TRIG_CFG n) v → n.val < 32 → s.armRefused n v = false → fieldGet v 0 1 = 1 → s.now + usU ≤ (s.armed n v).time →
    ∃ t, exec (.triggerArm p n v) s = .next t ∧ Succeeded t ∧ t.trig n = s.armed n v ∧ (∀ m, m ≠ n.val → t.trig m = s.trig m) ∧
      t = { s with tb := { s.tb with trigs := t.tb.trigs }, regs := t.regs, ctl := t.ctl } ∧ Keeps s t [TB_TRIG_CFG n]) ∧
  (∀ (s : State) (p : Port) (n : Fin 64) (v : W32),
    Taken s p (TB_TRIG_CFG n) v → n.val < 32 → s.armRefused n v = false → fieldGet v 0 1 = 1 → (s.armed n v).time < s.now + usU →
    ∃ t, exec (.triggerArm p n v) s = .next t ∧ Succeeded t ∧ t.trig n = { s.armed n v with late := true } ∧
      t.fld (TB_TRIG_CFG_LATE n) = 1 ∧ Raises s t 0x0604 n (evArg [(0, 8, ofSigned 64 (s.nowNs + 1))]) ∧
      t = { s with tb := { s.tb with trigs := t.tb.trigs }, regs := t.regs, ctl := t.ctl, evq := t.evq } ∧ Keeps s t [TB_TRIG_CFG n]) ∧
  (∀ (s : State) (p : Port) (n : Fin 64) (v : W32),
    Taken s p (TB_TRIG_CFG n) v → n.val < 32 → fieldGet v 0 1 = 1 → fieldGet v 1 1 = 1 →
    (s.fld (TB_TRIG_PER_NS_PERIOD n) < 1000 ∨ s.fld (TB_TRIG_PER_NS_PERIOD n) > 4000000000) →
    ∃ t, exec (.triggerArm p n v) s = .next t ∧ t.ctl.failed = true ∧ t.ctl.status = 4 ∧ t.tb = s.tb ∧
      t = { s with regs := t.regs, ctl := t.ctl, evq := t.evq, lims := t.lims } ∧ Keeps s t [SYS_HCP_ERR_ADDR]) ∧
  (∀ (s : State) (p : Port) (n : Fin 64) (v : W32),
    Taken s p (TB_TRIG_CFG n) v → n.val < 32 → fieldGet v 0 1 = 0 →
    ∃ t, exec (.triggerArm p n v) s = .next t ∧ Succeeded t ∧ t.trig n = Trig.zero ∧ (∀ m, m ≠ n.val → t.trig m = s.trig m) ∧
      t = { s with tb := { s.tb with trigs := t.tb.trigs }, regs := t.regs, ctl := t.ctl } ∧ Keeps s t [TB_TRIG_CFG n]) ∧
  (∀ (s : State) (p : Port) (n : Fin 64) (v : W32),
    32 ≤ n.val → s.writeStatus p (TB_TRIG_CFG n) v = 0 →
    ∃ t, exec (.triggerArm p n v) s = .next t ∧ Succeeded t ∧ t = { s with ctl := t.ctl }) ∧
  (∀ (s : State) (n : Fin 64) (src pin lane : Nat) (rising : Bool),
    n.val < 16 → s.fld (TB_CAP_CFG_SRC n) = src →
    ((src = 1 ∧ s.fld (TB_CAP_CFG_PIN n) = pin ∧ s.bit (TB_TIO_CFG_OUT pin) = false ∧
      (s.fld (TB_CAP_CFG_EDGE n) = 2 ∨ s.fld (TB_CAP_CFG_EDGE n) = (if rising then 0 else 1))) ∨
     (src = 2 ∧ s.fld (TB_CAP_CFG_LANE n) = lane) ∨ src = 3) →
    ∃ t, exec (.captureEvent n src pin lane rising) s = .next t ∧
      tget (fun _ => CapRec.zero) t.tb.caps n = ⟨true, s.nowNs, s.fld TB_EPOCH_EPOCH⟩ ∧
      (∀ m, m ≠ n.val → tget (fun _ => CapRec.zero) t.tb.caps m = tget (fun _ => CapRec.zero) s.tb.caps m) ∧
      ((tget (fun _ => CapRec.zero) s.tb.caps n).valid = true → t.fld (TB_CAP_CFG_OVERRUN n) = 1) ∧
      ((tget (fun _ => CapRec.zero) s.tb.caps n).valid = false → t = { s with tb := t.tb }) ∧
      t = { s with tb := { s.tb with caps := t.tb.caps }, regs := t.regs, evq := t.evq, lims := t.lims, ctl := t.ctl } ∧
      Keeps s t [TB_CAP_CFG n]) ∧
  (∀ (s : State) (n : Fin 64) (src pin lane : Nat) (rising : Bool),
    n.val < 16 → s.fld (TB_CAP_CFG_SRC n) ≠ src → exec (.captureEvent n src pin lane rising) s = .next s) ∧
  (∀ (s : State) (n : Fin 64) (src pin lane : Nat) (rising : Bool),
    16 ≤ n.val →
    ∃ t, exec (.captureEvent n src pin lane rising) s = .next t ∧
      tget (fun _ => CapRec.zero) t.tb.caps n = ⟨true, s.nowNs, s.fld TB_EPOCH_EPOCH⟩ ∧
      (∀ m, m ≠ n.val → tget (fun _ => CapRec.zero) t.tb.caps m = tget (fun _ => CapRec.zero) s.tb.caps m) ∧
      t = { s with tb := { s.tb with caps := t.tb.caps }, rdn := t.rdn, regs := t.regs, out := t.out } ∧
      (n.val < 32 → t = { s with tb := t.tb }) ∧ Keeps s t [RDN_RACK_SEQ_LO, RDN_RACK_SEQ_HI]) ∧
  (∀ (s : State) (p : Port) (n : Fin 64),
    s.readStatus p (TB_CAP_EPOCH n) = 0 → s.ctl.frozen = none →
    ∃ t, exec (.captureRead p n) s = .next t ∧ Succeeded t ∧
      t.ctl.rdData = BitVec.ofNat 32 (tget (fun _ => CapRec.zero) s.tb.caps n).epoch ∧
      tget (fun _ => CapRec.zero) t.tb.caps n = { tget (fun _ => CapRec.zero) s.tb.caps n with valid := false } ∧
      (∀ m, m ≠ n.val → tget (fun _ => CapRec.zero) t.tb.caps m = tget (fun _ => CapRec.zero) s.tb.caps m) ∧
      t = { s with tb := { s.tb with caps := t.tb.caps }, ctl := t.ctl }) ∧
  (∀ (s : State) (p : Port),
    s.readStatus p TB_TIME_S_LO = 0 →
    ∃ t, exec (.timeLatchRead p) s = .next t ∧ Succeeded t ∧ t.ctl.rdData = BitVec.ofNat 32 (timeSec s.now) ∧
      t.view TB_TIME_S_HI = BitVec.ofNat 32 (timeSec s.now / 2 ^ 32) ∧ t.view TB_TIME_NS = BitVec.ofNat 32 (timeNs s.now) ∧
      t.view TB_TIME_FRAC = BitVec.ofNat 32 (timeFrac s.now) ∧
      t = { s with tb := { s.tb with latch := s.now, latched := true }, ctl := t.ctl }) ∧
  (∀ (s : State) (i : Fin 8),
    tget (fun _ => 0) s.tb.tioOn i > 0 → s.raw + 1 - tget (fun _ => 0) s.tb.tioOn i ≥ s.fld (TB_TIO_CFG_WIDTH_US i) * usU →
    ∃ t, exec (.tioPulseEnd i) s = .next t ∧ Sent s t [.pin i (s.bit (TB_TIO_CFG_POL i))] ∧ tget (fun _ => 0) t.tb.tioOn i = 0 ∧
      (∀ j, j ≠ i.val → tget (fun _ => 0) t.tb.tioOn j = tget (fun _ => 0) s.tb.tioOn j) ∧
      t = { s with tb := { s.tb with tioOn := t.tb.tioOn }, out := t.out })

/-- A quad's PLL that locks shows it, starts the test functions of its lanes, takes a MAC that waited for it alone and does not negotiate to
its line rate, for training or alignment, and a bundle to 1.25 Gb/s (R377). Negotiation that ends takes the MAC to its rate, one that fails
ends the bring-up for its retry (R377, R378). A lane that runs shows its clock recovery; alignment shows each lane's skew (R383) and a MAC's
receive delay (R384), takes a bundle to its capability words, and a skew above 40 ns fails it. A lane that has trained shows its figure of
merit: the last of a MAC's lanes takes it on, and one that fails ends its bring-up; the last of a bundle's lanes takes it to the next rate, or
up with event 0x0C01 where none is left, and a failed rate takes it back with event 0x0803 (R377, R378). Without local fault a MAC is up with
event 0x0801; a link that goes down stops with the same event and its cause and starts again at step 1, and a failed bring-up starts again
after 100 ms, of a bundle after 1 s (R378, R380). After 10 s start-up step 6 ends (R381). -/
def Obligations.LinkBringup : Prop :=
  (∀ (s : State) (q : Fin 16),
    s.bit (LNK_QUAD_CFG_EN q) = true → s.bit (LNK_QUAD_STAT_PLL_LOCK q) = false → s.phy.idle.contains q.val = false →
    (∀ k, k < 32 → (s.link k).step ≠ 1 ∨ (s.linkQuads k).contains q.val = false) →
    ∃ t, exec (.quadPllLocked q) s = .next t ∧ t.fld (LNK_QUAD_STAT_PLL_LOCK q) = 1 ∧ t = { s with regs := t.regs } ∧
      (∀ i, i < 4 → s.tstOn (4 * q + i) = true → t.fld (TST_LANE_STAT_GEN_ON (4 * q + i)) = s.fld (TST_LANE_GEN_EN (4 * q + i)) ∧
        t.fld (TST_LANE_STAT_CHK_ON (4 * q + i)) = s.fld (TST_LANE_CHK_EN (4 * q + i))) ∧
      Keeps s t (LNK_QUAD_STAT q :: ((List.range 4).filter (fun i => s.tstOn (4 * q + i))).map (fun i => TST_LANE_STAT (4 * q + i)))) ∧
  (∀ (s : State) (q p : Fin 16),
    s.bit (LNK_QUAD_CFG_EN q) = true → s.bit (LNK_QUAD_STAT_PLL_LOCK q) = false → s.phy.idle.contains q.val = false →
    (s.link (16 + p)).step = 1 → (∀ k, k < 32 → k ≠ 16 + p.val → (s.link k).step ≠ 1) →
    q.val ∈ s.linkQuads (16 + p) → (∀ x, x ∈ s.linkQuads (16 + p) → x = q.val ∨ s.bit (LNK_QUAD_STAT_PLL_LOCK x) = true) →
    s.LanesIn (16 + p) →
    ∃ t, exec (.quadPllLocked q) s = .next t ∧ t.fld (LNK_QUAD_STAT_PLL_LOCK q) = 1 ∧
      t.link (16 + p) = { s.link (16 + p) with step := 2, rate := 1, prev := 1 } ∧
      (∀ l, l ∈ s.linkLanes (16 + p) → t.fld (LNK_LANE_STAT_RATE l) = 1 ∧ t.fld (LNK_LANE_STAT_PAM4 l) = 0) ∧
      (∀ k, k ≠ 16 + p.val → t.link k = s.link k) ∧ t = { s with regs := t.regs, phy := { s.phy with links := t.phy.links } }) ∧
  (∀ (s : State) (q m : Fin 16),
    s.bit (LNK_QUAD_CFG_EN q) = true → s.bit (LNK_QUAD_STAT_PLL_LOCK q) = false → s.phy.idle.contains q.val = false →
    (s.link m).step = 1 → (∀ k, k < 32 → k ≠ m.val → (s.link k).step ≠ 1) →
    q.val ∈ s.linkQuads m → (∀ x, x ∈ s.linkQuads m → x = q.val ∨ s.bit (LNK_QUAD_STAT_PLL_LOCK x) = true) →
    s.bit (LNK_MAC_CFG_AN m) = false →
    s.LanesIn m →
    ∃ t, exec (.quadPllLocked q) s = .next t ∧ t.fld (LNK_QUAD_STAT_PLL_LOCK q) = 1 ∧
      (t.link m).step = (if s.bit (LNK_MAC_CFG_TRAIN m) then 3 else 4) ∧ (t.link m).rate = s.macRate m ∧
      (∀ l, l ∈ s.linkLanes m → t.fld (LNK_LANE_STAT_RATE l) = s.macRate m ∧ t.fld (LNK_LANE_STAT_STATE l) = 2) ∧
      (∀ k, k ≠ m.val → t.link k = s.link k) ∧ t = { s with regs := t.regs, phy := { s.phy with links := t.phy.links } }) ∧
  (∀ (s : State) (m : Fin 16),
    (s.link m).step = 1 → s.bit (LNK_MAC_CFG_AN m) = true → s.linkPll m = true →
    s.LanesIn m →
    ∃ t, exec (.autoNegotiationDone m true) s = .next t ∧ (t.link m).step = (if s.bit (LNK_MAC_CFG_TRAIN m) then 3 else 4) ∧
      (t.link m).rate = s.macRate m ∧ (t.link m).done = [] ∧ (∀ k, k ≠ m.val → t.link k = s.link k) ∧
      t = { s with regs := t.regs, phy := { s.phy with links := t.phy.links } } ∧
      Keeps s t ((s.linkLanes m).map LNK_LANE_STAT ++ (s.linkQuads m).map LNK_QUAD_STAT)) ∧
  (∀ (s : State) (m : Fin 16),
    (s.link m).step = 1 → s.bit (LNK_MAC_CFG_AN m) = true → s.linkPll m = true →
    (s.atStep 6 = true → ∃ k, k < 32 ∧ k ≠ m.val ∧ s.linkEn k = true ∧ (s.link k).tried = false) →
    s.LanesIn m →
    ∃ t, exec (.autoNegotiationDone m false) s = .next t ∧ t.link m = { s.link m with step := 0, failRaw := s.raw + 1, tried := true } ∧
      (∀ l, l ∈ s.linkLanes m → t.fld (LNK_LANE_STAT_STATE l) = 4) ∧ (∀ k, k ≠ m.val → t.link k = s.link k) ∧
      t = { s with regs := t.regs, phy := { s.phy with links := t.phy.links } } ∧ Keeps s t ((s.linkLanes m).map LNK_LANE_STAT)) ∧
  (∀ (s : State) (l : Fin 64), s.fld (LNK_LANE_STAT_RATE l) ≠ 0 →
    ∃ t, exec (.cdrLocked l) s = .next t ∧ t.fld (LNK_LANE_STAT_CDR_LOCK l) = 1 ∧ t.fld (LNK_LANE_STAT_SIGNAL l) = 1 ∧
      t.fld (LNK_LANE_STAT_RATE l) = s.fld (LNK_LANE_STAT_RATE l) ∧ t.fld (LNK_LANE_STAT_STATE l) = s.fld (LNK_LANE_STAT_STATE l) ∧
      t = { s with regs := t.regs } ∧ Keeps s t [LNK_LANE_STAT l]) ∧
  (∀ (s : State) (k : Fin 32) (delays : List Nat) (rx : Nat),
    k.val < 16 → s.linkEn k = true → delays.length = (s.linkLanes k).length →
    (∀ l, l ∈ s.linkLanes k → s.bit (LNK_LANE_STAT_CDR_LOCK l) = true) → (s.link k).step = 4 →
    s.LanesIn k →
    ∃ t, exec (.alignmentLocked k delays rx) s = .next t ∧
      (∀ (i l d : Nat), (s.linkLanes k)[i]? = some l → delays[i]? = some d → t.fld (LNK_LANE_STAT_ALIGNED l) = 1 ∧
        t.fld (LNK_LANE_STAT_SKEW l) = skewSymbols d (s.fld (LNK_LANE_STAT_RATE l))) ∧
      t.fld (LNK_MAC_RX_DLY_DELAY k) = rx % 2 ^ (LNK_MAC_RX_DLY_DELAY k).width ∧ t = { s with regs := t.regs } ∧
      Keeps s t (LNK_MAC_RX_DLY k :: (s.linkLanes k).map LNK_LANE_STAT)) ∧
  (∀ (s : State) (k : Fin 32) (delays : List Nat) (rx : Nat),
    16 ≤ k.val → s.linkEn k = true → delays.length = (s.linkLanes k).length → (∀ d, d ∈ delays → d ≤ 40000) →
    (∀ l, l ∈ s.linkLanes k → s.bit (LNK_LANE_STAT_CDR_LOCK l) = true) → (s.link k).step = 2 →
    s.LanesIn k →
    ∃ t, exec (.alignmentLocked k delays rx) s = .next t ∧
      (∀ (i l d : Nat), (s.linkLanes k)[i]? = some l → delays[i]? = some d → t.fld (LNK_LANE_STAT_ALIGNED l) = 1 ∧
        t.fld (LNK_LANE_STAT_SKEW l) = skewSymbols d (s.fld (LNK_LANE_STAT_RATE l))) ∧
      t.link k = { s.link k with step := 3 } ∧ (∀ j, j ≠ k.val → t.link j = s.link j) ∧
      t.fld (YZ_PORT_STAT_STATE (k - 16)) = 2 ∧ t.fld (YZ_PORT_STAT_WIDTH (k - 16)) = s.fld (YZ_PORT_CFG_WIDTH (k - 16)) ∧
      (∀ j, j ≠ k.val - 16 → t.yzp j = s.yzp j) ∧
      t = { s with regs := t.regs, phy := { s.phy with links := t.phy.links }, yz := { s.yz with ports := t.yz.ports } } ∧
      Keeps s t (YZ_PORT_STAT (k - 16) :: (s.linkLanes k).map LNK_LANE_STAT)) ∧
  (∀ (s : State) (k : Fin 32) (delays : List Nat) (rx : Nat),
    16 ≤ k.val → s.linkEn k = true → delays.length = (s.linkLanes k).length → (∃ d, d ∈ delays ∧ 40000 < d) →
    (∀ l, l ∈ s.linkLanes k → s.bit (LNK_LANE_STAT_CDR_LOCK l) = true) → (s.link k).step = 2 →
    (s.atStep 6 = true → ∃ j, j < 32 ∧ j ≠ k.val ∧ s.linkEn j = true ∧ (s.link j).tried = false) →
    s.LanesIn k →
    ∃ t, exec (.alignmentLocked k delays rx) s = .next t ∧
      t.link k = { s.link k with step := 0, failRaw := s.raw + 1, tried := true } ∧ (∀ j, j ≠ k.val → t.link j = s.link j) ∧
      t.fld (YZ_PORT_STAT_STATE (k - 16)) = 6 ∧ t.fld (YZ_PORT_STAT_UP (k - 16)) = 0 ∧
      t = { s with regs := t.regs, phy := { s.phy with links := t.phy.links } } ∧
      Keeps s t (YZ_PORT_STAT (k - 16) :: (s.linkLanes k).map LNK_LANE_STAT)) ∧
  (∀ (s : State) (l : Fin 64) (ok : Bool) (fom : Fin 256) (k : Fin 16),
    s.linkOf l = some k.val → (s.link k).step = 3 → (s.link k).done.contains l.val = false →
    (ok = false → s.atStep 6 = true → ∃ j, j < 32 ∧ j ≠ k.val ∧ s.linkEn j = true ∧ (s.link j).tried = false) →
    s.LanesIn k →
    ∃ t, exec (.laneTrainingDone l ok fom) s = .next t ∧ t.fld (LNK_LANE_FOM_FOM l) = fom ∧
      t.fld (LNK_LANE_FOM_FOM_LOW l) = min (s.fld (LNK_LANE_FOM_FOM_LOW l)) fom ∧ (∀ j, j ≠ k.val → t.link j = s.link j) ∧
      (ok = true → (t.link k).done = l.val :: (s.link k).done ∧
        (t.link k).step = (if (s.link k).done.length + 1 = (s.linkLanes k).length then 4 else 3) ∧ Keeps s t [LNK_LANE_FOM l]) ∧
      (ok = false → t.link k = { s.link k with step := 0, failRaw := s.raw + 1, tried := true } ∧
        (∀ m, m ∈ s.linkLanes k → t.fld (LNK_LANE_STAT_STATE m) = 4) ∧
        Keeps s t (LNK_LANE_FOM l :: (s.linkLanes k).map LNK_LANE_STAT)) ∧
      t = { s with regs := t.regs, phy := { s.phy with links := t.phy.links } }) ∧
  (∀ (s : State) (l : Fin 64) (ok : Bool) (fom : Fin 256) (p : Fin 16),
    s.linkOf l = some (16 + p.val) → (s.link (16 + p)).step = 4 → (s.link (16 + p)).done.contains l.val = false →
    (s.link (16 + p)).done.length + 1 < (s.linkLanes (16 + p)).length →
    s.LanesIn (16 + p) →
    ∃ t, exec (.laneTrainingDone l ok fom) s = .next t ∧ t.fld (LNK_LANE_FOM_FOM l) = fom ∧
      t.fld (LNK_LANE_FOM_FOM_LOW l) = min (s.fld (LNK_LANE_FOM_FOM_LOW l)) fom ∧
      (t.link (16 + p)).done = l.val :: (s.link (16 + p)).done ∧
      (t.link (16 + p)).low = ((s.link (16 + p)).low || !ok || decide (fom.val < s.fld (LNK_LANE_FOM_FOM_MIN l))) ∧
      (∀ j, j ≠ 16 + p.val → t.link j = s.link j) ∧
      t = { s with regs := t.regs, phy := { s.phy with links := t.phy.links } } ∧ Keeps s t [LNK_LANE_FOM l]) ∧
  (∀ (s : State) (l : Fin 64) (ok : Bool) (fom : Fin 256) (p : Fin 16),
    s.linkOf l = some (16 + p.val) → (s.link (16 + p)).step = 4 → (s.link (16 + p)).done.contains l.val = false →
    (s.linkLanes (16 + p)).length ≤ (s.link (16 + p)).done.length + 1 → (s.link (16 + p)).back = false →
    ((s.link (16 + p)).low = true ∨ ok = false ∨ fom.val < s.fld (LNK_LANE_FOM_FOM_MIN l)) →
    s.LanesIn (16 + p) →
    ∃ t, exec (.laneTrainingDone l ok fom) s = .next t ∧ t.fld (LNK_LANE_FOM_FOM l) = fom ∧
      (t.link (16 + p)).back = true ∧ (t.link (16 + p)).rate = (s.link (16 + p)).prev ∧ (t.link (16 + p)).rates = [] ∧
      (t.link (16 + p)).done = [] ∧ (∀ m, m ∈ s.linkLanes (16 + p) → t.fld (LNK_LANE_STAT_RATE m) = (s.link (16 + p)).prev % 16) ∧
      Raises s t 0x0803 p (evArg [(0, 1, (s.link (16 + p)).rate), (1, 1, (s.link (16 + p)).prev)]) ∧
      (∀ j, j ≠ 16 + p.val → t.link j = s.link j) ∧
      t = { s with regs := t.regs, phy := { s.phy with links := t.phy.links }, evq := t.evq, ctl := t.ctl }) ∧
  (∀ (s : State) (l : Fin 64) (fom : Fin 256) (p : Fin 16) (r : Nat) (more : List Nat),
    s.linkOf l = some (16 + p.val) → (s.link (16 + p)).step = 4 → (s.link (16 + p)).done.contains l.val = false →
    (s.linkLanes (16 + p)).length ≤ (s.link (16 + p)).done.length + 1 → (s.link (16 + p)).back = false →
    (s.link (16 + p)).low = false → s.fld (LNK_LANE_FOM_FOM_MIN l) ≤ fom.val → (s.link (16 + p)).rates = r :: more →
    s.belowLimit (quadZone p) = false →
    s.LanesIn (16 + p) →
    ∃ t, exec (.laneTrainingDone l true fom) s = .next t ∧ t.fld (LNK_LANE_FOM_FOM l) = fom ∧
      (t.link (16 + p)).step = 4 ∧ (t.link (16 + p)).rate = r ∧ (t.link (16 + p)).prev = (s.link (16 + p)).rate ∧
      (t.link (16 + p)).rates = more ∧ (t.link (16 + p)).done = [] ∧
      (∀ m, m ∈ s.linkLanes (16 + p) → t.fld (LNK_LANE_STAT_RATE m) = r % 16 ∧ t.fld (LNK_LANE_STAT_STATE m) = 2) ∧
      t.fld (YZ_PORT_STAT_STATE p) = 3 ∧ (∀ j, j ≠ 16 + p.val → t.link j = s.link j) ∧
      t = { s with regs := t.regs, phy := { s.phy with links := t.phy.links } }) ∧
  (∀ (s : State) (l : Fin 64) (fom : Fin 256) (p : Fin 16),
    s.linkOf l = some (16 + p.val) → (s.link (16 + p)).step = 4 → (s.link (16 + p)).done.contains l.val = false →
    (s.linkLanes (16 + p)).length ≤ (s.link (16 + p)).done.length + 1 → (s.link (16 + p)).back = false →
    (s.link (16 + p)).low = false → s.fld (LNK_LANE_FOM_FOM_MIN l) ≤ fom.val → (s.link (16 + p)).rates = [] →
    s.atStep 6 = false →
    s.LanesIn (16 + p) →
    ∃ t, exec (.laneTrainingDone l true fom) s = .next t ∧ t.fld (LNK_LANE_FOM_FOM l) = fom ∧
      (t.link (16 + p)).step = 0 ∧ (t.link (16 + p)).tried = true ∧ t.fld (YZ_PORT_STAT_UP p) = 1 ∧ t.fld (YZ_PORT_STAT_STATE p) = 4 ∧
      t.fld (YZ_PORT_STAT_RATE p) = (s.link (16 + p)).rate % 16 ∧
      (∀ m, m ∈ s.linkLanes (16 + p) → t.fld (LNK_LANE_STAT_STATE m) = 3) ∧
      Raises s t 0x0C01 p (evArg [(0, 1, 1), (1, 1, (s.link (16 + p)).rate), (4, 2, s.fld (YZ_PORT_STAT_PEER p))]) ∧
      (∀ j, j ≠ 16 + p.val → t.link j = s.link j) ∧
      t = { s with regs := t.regs, phy := { s.phy with links := t.phy.links }, yz := { s.yz with ports := t.yz.ports }, evq := t.evq, ctl := t.ctl }) ∧
  (∀ (s : State) (m : Fin 16) (tx : Nat),
    (s.link m).step = 4 → (∀ l, l ∈ s.linkLanes m → s.bit (LNK_LANE_STAT_CDR_LOCK l) = true) →
    ((s.linkLanes m).length = 1 ∨ ∀ l, l ∈ s.linkLanes m → s.bit (LNK_LANE_STAT_ALIGNED l) = true) →
    (s.atStep 6 = true → ∃ k, k < 32 ∧ k ≠ m.val ∧ s.linkEn k = true ∧ (s.link k).tried = false) →
    s.LanesIn m →
    ∃ t, exec (.linkUp m tx) s = .next t ∧ t.fld (LNK_MAC_STAT_LINK m) = 1 ∧ t.fld (LNK_MAC_STAT_LOCAL_FAULT m) = 0 ∧
      t.fld (LNK_MAC_TX_DLY_DELAY m) = tx % 2 ^ (LNK_MAC_TX_DLY_DELAY m).width ∧ Raises s t 0x0801 m (evArg [(0, 1, 1)]) ∧
      t.link m = { s.link m with step := 0, tried := true } ∧ (∀ k, k ≠ m.val → t.link k = s.link k) ∧
      (∀ l, l ∈ s.linkLanes m → t.fld (LNK_LANE_STAT_STATE l) = 3) ∧
      t = { s with regs := t.regs, phy := { s.phy with links := t.phy.links }, evq := t.evq, ctl := t.ctl } ∧
      Keeps s t (LNK_MAC_STAT m :: LNK_MAC_TX_DLY m :: (s.linkLanes m).map LNK_LANE_STAT)) ∧
  (∀ (s : State) (k : Fin 32),
    0 < (s.link k).failRaw → s.linkEn k = true → s.raw + 1 - (s.link k).failRaw ≥ (if k.val < 16 then 100 else 1000) * msU →
    (∀ q, q ∈ s.linkQuads k → s.phy.idle.contains q = false ∧ s.belowLimit (quadZone q) = false) → s.linkPll k = false →
    (∀ l, l ∈ s.linkLanes k → s.bit (LNK_ES_CTRL_RUN l) = false) →
    s.LanesIn k →
    ∃ t, exec (.bringupRetry k) s = .next t ∧ t.link k = { LinkX.zero with step := 1, tried := (s.link k).tried } ∧
      (k.val < 16 → t.fld (LNK_MAC_STAT_LINK k) = 0) ∧
      (16 ≤ k.val → t.fld (YZ_PORT_STAT_UP (k - 16)) = 0 ∧ t.fld (YZ_PORT_STAT_STATE (k - 16)) = 1) ∧
      (∀ j, j ≠ k.val → t.link j = s.link j) ∧ t = { s with regs := t.regs, phy := { s.phy with links := t.phy.links } }) ∧
  (∀ (s : State) (k : Fin 32),
    0 < (s.link k).failRaw → s.linkEn k = true → s.raw + 1 - (s.link k).failRaw ≥ (if k.val < 16 then 100 else 1000) * msU →
    (∃ q, q ∈ s.linkQuads k ∧ s.phy.idle.contains q = true) → (∀ l, l ∈ s.linkLanes k → s.bit (LNK_ES_CTRL_RUN l) = false) →
    s.LanesIn k →
    ∃ t, exec (.bringupRetry k) s = .next t ∧ t.link k = { LinkX.zero with hold := true, tried := (s.link k).tried } ∧
      (∀ j, j ≠ k.val → t.link j = s.link j) ∧ t = { s with regs := t.regs, phy := { s.phy with links := t.phy.links } }) ∧
  (∀ (s : State), s.atStep 6 = true → s.raw - s.phy.step6 ≥ 10 * secU → s.fld TB_CTRL_SRC = 0 →
    ∃ t, exec .laneStepTimeout s = .next t ∧ t.fld CFG_BOOT_STAT_STEP = 8 ∧
      Raises s t 0x0403 0 (evArg [(0, 1, 6), (4, 4, s.bootMs)]) ∧ t = { s with regs := t.regs, evq := t.evq, ctl := t.ctl } ∧
      Keeps s t [CFG_BOOT_STAT]) ∧
  (∀ (s : State), s.atStep 6 = true → s.raw - s.phy.step6 ≥ 10 * secU → s.fld TB_CTRL_SRC ≠ 0 →
    ∃ t, exec .laneStepTimeout s = .next t ∧ t.fld CFG_BOOT_STAT_STEP = 7 ∧ t.fld TB_STAT_STATE = 1 ∧ t.tb.startAcq = true ∧
      t.now = s.now ∧ t = { s with regs := t.regs, evq := t.evq, ctl := t.ctl, tb := t.tb } ∧ Keeps s t [CFG_BOOT_STAT, TB_STAT]) ∧
  (∀ (s : State) (m : Fin 16) (cause : Fin 4), s.bit (LNK_MAC_STAT_LINK m) = true →
    s.LanesIn m →
    ∃ t, exec (.linkDown m cause) s = .next t ∧ t.fld (LNK_MAC_STAT_LINK m) = 0 ∧
      t.fld (LNK_MAC_STAT_LOCAL_FAULT m) = (if cause.val = 3 then 1 else 0) ∧
      Raises s t 0x0801 m (evArg [(0, 1, 0), (1, 1, cause + 1)]) ∧ (∀ k, k ≠ m.val → t.link k = s.link k) ∧
      ((∀ q, q ∈ s.linkQuads m → s.phy.idle.contains q = false ∧ s.belowLimit (quadZone q) = false) → s.linkPll m = false →
        (t.link m).step = 1) ∧
      t = { s with regs := t.regs, phy := { s.phy with links := t.phy.links }, evq := t.evq, ctl := t.ctl })

/-- The figure of merit of a window with errors is the greatest k up to 255 with 16 times the logarithm of the error ratio at most -k, and
FOM_LOW the least since its last read (R385). A window at FOM_MIN or above ends the count of bad ones, with event 0x0802 where the lane had
been reported (R387); every window keeps the adaptation step it judges where it is not worse, or reverts it, and the next step is made only
while adaptation is on, not frozen and no point is measured (R386). A window below FOM_MIN counts, the eighth in a row raises 0x0802 once
(R387), and one during an eye-scan point aborts the point with event 0x0805 (R390). A window without errors has a figure of merit that is a
free value of the model (log entry 32, fomZero). A taken RUN starts one point of an eye scan unless one is measured, and its end shows the
samples and errors (R388). -/
def Obligations.LaneQuality : Prop :=
  (∀ (s : State) (l : Fin 64) (num den : Nat) (next : Option Nat),
    s.fld (LNK_LANE_STAT_RATE l) ≠ 0 → num ≠ 0 → s.fld (LNK_LANE_FOM_FOM_MIN l) ≤ fomOf num den 255 → (s.laneX l).lowEv = false →
    ∃ t f, exec (.fomWindowEnd l num den next) s = .next t ∧ t.fld (LNK_LANE_FOM_FOM l) = f ∧ f ≤ 255 ∧
      (0 < f → num ^ 16 * 10 ^ f ≤ den ^ 16) ∧ (f < 255 → den ^ 16 < num ^ 16 * 10 ^ (f + 1)) ∧
      t.fld (LNK_LANE_FOM_FOM_LOW l) = min (s.fld (LNK_LANE_FOM_FOM_LOW l)) f ∧ (t.laneX l).lowRun = 0 ∧ (t.laneX l).lowEv = false ∧
      Judged s t l f next ∧
      (∀ m, m ≠ l.val → t.laneX m = s.laneX m) ∧ t = { s with regs := t.regs, phy := { s.phy with lanes := t.phy.lanes } } ∧
      Keeps s t [LNK_LANE_FOM l]) ∧
  (∀ (s : State) (l : Fin 64) (num den : Nat) (next : Option Nat),
    s.fld (LNK_LANE_STAT_RATE l) ≠ 0 → num ≠ 0 → s.fld (LNK_LANE_FOM_FOM_MIN l) ≤ fomOf num den 255 → (s.laneX l).lowEv = true →
    ∃ t, exec (.fomWindowEnd l num den next) s = .next t ∧ t.fld (LNK_LANE_FOM_FOM l) = fomOf num den 255 ∧
      (t.laneX l).lowRun = 0 ∧ (t.laneX l).lowEv = false ∧ Raises s t 0x0802 l (evArg [(0, 1, 1), (1, 1, fomOf num den 255)]) ∧
      Judged s t l (fomOf num den 255) next ∧ (∀ m, m ≠ l.val → t.laneX m = s.laneX m) ∧
      t = { s with regs := t.regs, phy := { s.phy with lanes := t.phy.lanes }, evq := t.evq, ctl := t.ctl } ∧
      Keeps s t [LNK_LANE_FOM l]) ∧
  (∀ (s : State) (l : Fin 64) (num den : Nat) (next : Option Nat),
    s.fld (LNK_LANE_STAT_RATE l) ≠ 0 → num ≠ 0 → fomOf num den 255 < s.fld (LNK_LANE_FOM_FOM_MIN l) → (s.laneX l).lowEv = false →
    (s.laneX l).lowRun = 7 → s.bit (LNK_ES_CTRL_RUN l) = false →
    ∃ t, exec (.fomWindowEnd l num den next) s = .next t ∧ t.fld (LNK_LANE_FOM_FOM l) = fomOf num den 255 ∧
      (t.laneX l).lowEv = true ∧ Raises s t 0x0802 l (evArg [(0, 1, 0), (1, 1, fomOf num den 255)]) ∧
      Judged s t l (fomOf num den 255) next ∧ (∀ m, m ≠ l.val → t.laneX m = s.laneX m) ∧
      t = { s with regs := t.regs, phy := { s.phy with lanes := t.phy.lanes }, evq := t.evq, ctl := t.ctl } ∧
      Keeps s t [LNK_LANE_FOM l]) ∧
  (∀ (s : State) (l : Fin 64) (num den : Nat) (next : Option Nat),
    s.fld (LNK_LANE_STAT_RATE l) ≠ 0 → num ≠ 0 → fomOf num den 255 < s.fld (LNK_LANE_FOM_FOM_MIN l) →
    ((s.laneX l).lowEv = true ∨ (s.laneX l).lowRun < 7) → s.bit (LNK_ES_CTRL_RUN l) = false →
    ∃ t, exec (.fomWindowEnd l num den next) s = .next t ∧ t.fld (LNK_LANE_FOM_FOM l) = fomOf num den 255 ∧
      (t.laneX l).lowRun = min ((s.laneX l).lowRun + 1) 8 ∧ Judged s t l (fomOf num den 255) next ∧
      (∀ m, m ≠ l.val → t.laneX m = s.laneX m) ∧ t = { s with regs := t.regs, phy := { s.phy with lanes := t.phy.lanes } } ∧
      Keeps s t [LNK_LANE_FOM l]) ∧
  (∀ (s : State) (l : Fin 64) (num den : Nat) (next : Option Nat),
    s.fld (LNK_LANE_STAT_RATE l) ≠ 0 → num ≠ 0 → fomOf num den 255 < s.fld (LNK_LANE_FOM_FOM_MIN l) →
    s.bit (LNK_ES_CTRL_RUN l) = true →
    ∃ t, exec (.fomWindowEnd l num den next) s = .next t ∧ t.fld (LNK_ES_CTRL_RUN l) = 0 ∧ t.fld (LNK_ES_STAT_ABORTED l) = 1 ∧
      Raises s t 0x0805 l (evArg [(0, 1, 0)]) ∧ t.fld (LNK_LANE_FOM_FOM l) = fomOf num den 255 ∧
      (∀ m, m ≠ l.val → t.laneX m = s.laneX m) ∧ Keeps s t [LNK_LANE_FOM l, LNK_ES_CTRL l, LNK_ES_STAT l]) ∧
  (∀ (s : State) (l : Fin 64) (den : Nat) (next : Option Nat), s.fld (LNK_LANE_STAT_RATE l) ≠ 0 →
    ∃ t f, exec (.fomWindowEnd l 0 den next) s = .next t ∧ t.fld (LNK_LANE_FOM_FOM l) = f ∧ f ≤ 255 ∧ t.fresh = s.fresh + 1 ∧
      t.fld (LNK_LANE_FOM_FOM_LOW l) = min (s.fld (LNK_LANE_FOM_FOM_LOW l)) f ∧ (∀ m, m ≠ l.val → t.laneX m = s.laneX m)) ∧
  (∀ (s : State) (p : Port) (l : Fin 64) (v : W32),
    Taken s p (LNK_ES_CTRL l) v → fieldGet v 0 1 = 1 → s.bit (LNK_ES_CTRL_RUN l) = false →
    ∃ t, exec (.eyeScanRun p l v) s = .next t ∧ Succeeded t ∧ t.fld (LNK_ES_CTRL_RUN l) = 1 ∧ t.fld (LNK_ES_STAT_DONE l) = 0 ∧
      t = { s with regs := t.regs, ctl := t.ctl } ∧ Keeps s t [LNK_ES_CTRL l, LNK_ES_STAT l]) ∧
  (∀ (s : State) (p : Port) (l : Fin 64) (v : W32),
    Taken s p (LNK_ES_CTRL l) v → fieldGet v 0 1 = 0 ∨ s.bit (LNK_ES_CTRL_RUN l) = true →
    ∃ t, exec (.eyeScanRun p l v) s = .next t ∧ Succeeded t ∧ t.fld (LNK_ES_CTRL_RUN l) = s.fld (LNK_ES_CTRL_RUN l) ∧
      t = { s with regs := t.regs, ctl := t.ctl } ∧ Keeps s t [LNK_ES_CTRL l]) ∧
  (∀ (s : State) (l : Fin 64) (errors : Nat), s.bit (LNK_ES_CTRL_RUN l) = true →
    ∃ t, exec (.eyeScanDone l errors) s = .next t ∧ t.fld (LNK_ES_CTRL_RUN l) = 0 ∧ t.fld (LNK_ES_STAT_DONE l) = 1 ∧
      t.fld (LNK_ES_ERRORS_COUNT l) = errors % 2 ^ (LNK_ES_ERRORS_COUNT l).width ∧
      t.fld (LNK_ES_SAMPLES_COUNT l) = 2 ^ s.fld (LNK_ES_DWELL_DWELL l) % 2 ^ (LNK_ES_SAMPLES_COUNT l).width ∧
      t = { s with regs := t.regs } ∧ Keeps s t [LNK_ES_CTRL l, LNK_ES_STAT l, LNK_ES_SAMPLES l, LNK_ES_ERRORS l])

/-- On a bundle that is up, a data flit with the expected number is accepted and its message delivered at its end; with nothing
unacknowledged or waiting its credits are counted and nothing else changes. Another number is discarded, counted and answered by a NAK, as a
failed CRC is, but for 2 µs after a NAK (R393, R396, R399). An ACK lets the flits before it go, and a NAK sends every unacknowledged flit again
in order, unless a replay is in progress (R398, R400); so does an ACK that does not advance for 10 µs, and the eighth time the bundle retrains
(R400, R403). A flit passed on returns one credit (R396). Every flit carries the ACK of its direction and the credits of one channel, in turn
(R396, R398), and a flit laid out in its 128 bytes reads back as it was (R393). Capability flits leave every 10 µs; a peer's is taken, and with
the own one echoed the numbers restart at 0, or refused with its cause, and the refused port tries again after 1 s (R401, R402, R404). A
retrain ends with the link up, an idle flit and a replay from the ACK received, or steps its rate down; a lane that is lost retrains the
bundle, and one not up within 500 ms is down with its messages indeterminate (R403, R404). No other port changes. The time that a replay is in
progress is the model's, from the flit rates of R394. -/
def Obligations.YudizorLink : Prop :=
  (∀ (s : State) (p : Fin 16) (bs : List Byte) (f : YzFlit),
    s.bit (YZ_PORT_STAT_UP p) = true → flitOf bs = some f → f.typ = 1 → f.seq = (s.yzp p).expect →
    ∃ t, exec (.flitRx p bs) s = .next t ∧ (t.yzp p).expect = ((s.yzp p).expect + 1) % 4096 ∧
      (f.eop = true → f.sop = true → (t.yzp p).msgs = (s.yzp p).msgs ++ [(f.vc, f.payload)]) ∧
      (f.eop = true → f.sop = false → (t.yzp p).msgs = (s.yzp p).msgs ++ [(f.vc, tget (fun _ => []) (s.yzp p).part f.vc ++ f.payload)]) ∧
      (f.eop = false → (t.yzp p).msgs = (s.yzp p).msgs) ∧
      t.fld (YZ_PORT_CREDIT_OCC p f.vc) = (s.fld (YZ_PORT_CREDIT_OCC p f.vc) + 1) % 2 ^ (YZ_PORT_CREDIT_OCC p f.vc).width ∧
      (∀ q, q ≠ p.val → t.yzp q = s.yzp q)) ∧
  (∀ (s : State) (p : Fin 16) (bs : List Byte) (f : YzFlit),
    s.bit (YZ_PORT_STAT_UP p) = true → flitOf bs = some f → f.nak = false → f.typ = 1 → f.seq = (s.yzp p).expect →
    (s.yzp p).replay = [] → (s.yzp p).wait = [] → s.raw - (s.yzp p).winRaw < secU →
    ∃ t, exec (.flitRx p bs) s = .next t ∧ t.fld (YZ_PORT_CREDIT_CREDITS p f.crdVc) = min (s.fld (YZ_PORT_CREDIT_CREDITS p f.crdVc) +
        (f.crd + 4096 - tget (fun _ => 0) (s.yzp p).lastCrd f.crdVc) % 4096) 4095 ∧
      t = { s with yz := { s.yz with ports := t.yz.ports }, regs := t.regs } ∧
      Keeps s t [YZ_PORT_CREDIT p f.vc, YZ_PORT_CREDIT p f.crdVc]) ∧
  (∀ (s : State) (p : Fin 16) (bs : List Byte) (f : YzFlit),
    s.bit (YZ_PORT_STAT_UP p) = true → flitOf bs = some f → f.nak = false → f.typ = 1 → f.seq ≠ (s.yzp p).expect →
    (s.yzp p).replay = [] → (s.yzp p).wait = [] → s.raw - (s.yzp p).winRaw < secU →
    ∃ t, exec (.flitRx p bs) s = .next t ∧ (t.yzp p).expect = (s.yzp p).expect ∧ (t.yzp p).msgs = (s.yzp p).msgs ∧
      t.fld (YZ_PORT_CNT_DISCARD_COUNT p) = min (s.fld (YZ_PORT_CNT_DISCARD_COUNT p) + 1) (2 ^ 32 - 1) ∧
      (((s.yzp p).nakRaw = 0 ∨ 2 * usU ≤ s.raw + 1 - (s.yzp p).nakRaw) →
        Sent s t [.flit p (s.idleFlit p true)] ∧ (t.yzp p).nakRaw = s.raw + 1) ∧
      (0 < (s.yzp p).nakRaw → s.raw + 1 - (s.yzp p).nakRaw < 2 * usU → t.out = s.out ∧ (t.yzp p).nakDisc = true) ∧
      (∀ q, q ≠ p.val → t.yzp q = s.yzp q) ∧
      t = { s with yz := { s.yz with ports := t.yz.ports }, regs := t.regs, out := t.out } ∧
      Keeps s t [YZ_PORT_CNT_DISCARD p, YZ_PORT_CREDIT p f.crdVc]) ∧
  (∀ (s : State) (p : Fin 16) (bs : List Byte),
    s.bit (YZ_PORT_STAT_UP p) = true → flitOf bs = none → s.raw - (s.yzp p).winRaw < secU →
    ∃ t, exec (.flitRx p bs) s = .next t ∧ (t.yzp p).expect = (s.yzp p).expect ∧ (t.yzp p).msgs = (s.yzp p).msgs ∧
      t.fld (YZ_PORT_CNT_CRC_COUNT p) = min (s.fld (YZ_PORT_CNT_CRC_COUNT p) + 1) (2 ^ 32 - 1) ∧
      (((s.yzp p).nakRaw = 0 ∨ 2 * usU ≤ s.raw + 1 - (s.yzp p).nakRaw) → Sent s t [.flit p (s.idleFlit p true)]) ∧
      (0 < (s.yzp p).nakRaw → s.raw + 1 - (s.yzp p).nakRaw < 2 * usU → t.out = s.out) ∧
      (t.yzp p).winBad = (s.yzp p).winBad + 1 ∧ (∀ q, q ≠ p.val → t.yzp q = s.yzp q) ∧
      t = { s with yz := { s.yz with ports := t.yz.ports }, regs := t.regs, out := t.out } ∧ Keeps s t [YZ_PORT_CNT_CRC p]) ∧
  (∀ (s : State) (p : Fin 16) (bs : List Byte) (f : YzFlit),
    s.bit (YZ_PORT_STAT_UP p) = true → flitOf bs = some f → f.nak = false → f.typ ≠ 1 → (s.yzp p).wait = [] →
    s.raw - (s.yzp p).winRaw < secU → s.acked p f.ack ≤ (s.yzp p).replay.length →
    ∃ t, exec (.flitRx p bs) s = .next t ∧ (t.yzp p).replay = (s.yzp p).replay.drop (s.acked p f.ack) ∧
      (t.yzp p).expect = (s.yzp p).expect ∧ (t.yzp p).msgs = (s.yzp p).msgs ∧ (∀ q, q ≠ p.val → t.yzp q = s.yzp q) ∧
      t = { s with yz := { s.yz with ports := t.yz.ports }, regs := t.regs } ∧
      Keeps s t [YZ_PORT_SEQ p, YZ_PORT_CREDIT p f.crdVc]) ∧
  (∀ (s : State) (p : Fin 16) (bs : List Byte) (f : YzFlit),
    s.bit (YZ_PORT_STAT_UP p) = true → flitOf bs = some f → f.nak = true → f.typ ≠ 1 → (s.yzp p).wait = [] →
    s.raw - (s.yzp p).winRaw < secU → s.acked p f.ack ≤ (s.yzp p).replay.length → (s.yzp p).replays < 7 →
    ∃ t, exec (.flitRx p bs) s = .next t ∧ (t.yzp p).replay = (s.yzp p).replay.drop (s.acked p f.ack) ∧
      ((s.yzp p).repEnd ≤ s.raw → Sent s t (s.replayOut p (s.acked p f.ack) 0)) ∧ (s.raw < (s.yzp p).repEnd → t.out = s.out) ∧
      (t.yzp p).expect = (s.yzp p).expect ∧ (t.yzp p).msgs = (s.yzp p).msgs ∧ (∀ q, q ≠ p.val → t.yzp q = s.yzp q) ∧
      t = { s with yz := { s.yz with ports := t.yz.ports }, regs := t.regs, out := t.out } ∧
      Keeps s t [YZ_PORT_SEQ p, YZ_PORT_CNT_REPLAY p, YZ_PORT_CREDIT p f.crdVc]) ∧
  (∀ (s : State) (p : Fin 16), 0 < (s.yzp p).nakRaw → s.raw + 1 - (s.yzp p).nakRaw ≥ 2 * usU →
    ∃ t, exec (.nakHoldoffExpire p) s = .next t ∧
      (((s.yzp p).nakDisc = true ∧ s.bit (YZ_PORT_STAT_UP p) = true) →
        Sent s t [.flit p (s.idleFlit p true)] ∧ (t.yzp p).nakRaw = s.raw + 1) ∧
      ((s.yzp p).nakDisc = false → t.out = s.out ∧ (t.yzp p).nakRaw = 0) ∧ (∀ q, q ≠ p.val → t.yzp q = s.yzp q) ∧
      t = { s with yz := { s.yz with ports := t.yz.ports }, out := t.out }) ∧
  (∀ (s : State) (p : Fin 16),
    s.bit (YZ_PORT_STAT_UP p) = true → (s.yzp p).replay ≠ [] → s.raw - (s.yzp p).ackRaw ≥ 10 * usU → (s.yzp p).replays < 7 →
    ∃ t, exec (.ackTimeout p) s = .next t ∧
      Sent s t (s.replayOut p 0 0) ∧
      t.fld (YZ_PORT_CNT_REPLAY_COUNT p) = min (s.fld (YZ_PORT_CNT_REPLAY_COUNT p) + (s.yzp p).replay.length) (2 ^ 32 - 1) ∧
      (t.yzp p).replays = (s.yzp p).replays + 1 ∧ (t.yzp p).ackRaw = s.raw ∧ (t.yzp p).replay = (s.yzp p).replay ∧
      (t.yzp p).crdVc = ((s.yzp p).crdVc + (s.yzp p).replay.length) % 8 ∧ (t.yzp p).expect = (s.yzp p).expect ∧ (∀ q, q ≠ p.val → t.yzp q = s.yzp q) ∧
      t = { s with yz := { s.yz with ports := t.yz.ports }, regs := t.regs, out := t.out } ∧ Keeps s t [YZ_PORT_CNT_REPLAY p]) ∧
  (∀ (s : State) (p : Fin 16),
    s.bit (YZ_PORT_STAT_UP p) = true → (s.yzp p).replay ≠ [] → s.raw - (s.yzp p).ackRaw ≥ 10 * usU → 7 ≤ (s.yzp p).replays →
    ∃ t, exec (.ackTimeout p) s = .next t ∧ t.fld (YZ_PORT_STAT_UP p) = 0 ∧ t.fld (YZ_PORT_STAT_STATE p) = 5 ∧
      t.fld (YZ_PORT_CNT_RETRAIN_COUNT p) = min (s.fld (YZ_PORT_CNT_RETRAIN_COUNT p) + 1) (2 ^ 32 - 1) ∧
      (t.yzp p).replay = (s.yzp p).replay ∧ Raises s t 0x0C02 p (evArg [(0, 1, 2)]) ∧ (∀ q, q ≠ p.val → t.yzp q = s.yzp q)) ∧
  (∀ (s : State) (p : Fin 16) (vc : Fin 8), s.fld (YZ_PORT_CREDIT_OCC p vc) ≠ 0 →
    ∃ t, exec (.creditReturn p vc) s = .next t ∧ t.fld (YZ_PORT_CREDIT_OCC p vc) = s.fld (YZ_PORT_CREDIT_OCC p vc) - 1 ∧
      tget (fun _ => 0) (t.yzp p).retCrd vc = (tget (fun _ => 0) (s.yzp p).retCrd vc + 1) % 4096 ∧
      (∀ q, q ≠ p.val → t.yzp q = s.yzp q) ∧ t = { s with yz := { s.yz with ports := t.yz.ports }, regs := t.regs } ∧
      Keeps s t [YZ_PORT_CREDIT p vc]) ∧
  (∀ (s : State) (p : Fin 16), s.fld (YZ_PORT_STAT_STATE p) = 2 →
    ((s.yzp p).capRaw = 0 ∨ s.raw + 1 - (s.yzp p).capRaw ≥ 10 * usU) →
    ∃ t, exec (.capabilitySend p) s = .next t ∧ Sent s t [.flit p { s.idleFlit p false with typ := 2, payload := s.capBytes p }] ∧ (s.capBytes p).length = 116 ∧
      t.yzp p = { s.yzp p with capRaw := s.raw + 1, crdVc := ((s.yzp p).crdVc + 1) % 8 } ∧ (∀ q, q ≠ p.val → t.yzp q = s.yzp q) ∧
      t = { s with yz := { s.yz with ports := t.yz.ports }, out := t.out }) ∧
  (∀ (s : State) (p : Fin 16) (bs : List Byte) (f : YzFlit),
    flitOf bs = some f → s.fld (YZ_PORT_STAT_STATE p) = 2 → f.typ = 2 → s.capRefuse p (capOf f.payload) = 0 →
    (capOf f.payload).seen = false → s.LanesIn (16 + p) →
    ∃ t, exec (.capabilityRx p bs) s = .next t ∧ t.fld (YZ_PORT_STAT_PEER p) = (capOf f.payload).addr ∧
      t.fld (YZ_PORT_STAT_WIDTH p) = min (s.fld (YZ_PORT_CFG_WIDTH p)) (widthCode (capOf f.payload).width) ∧
      (∀ v, v < 8 → t.fld (YZ_PORT_CREDIT_CREDITS p v) = min ((capOf f.payload).bufs.getD v 0) 4095) ∧ (t.yzp p).peerCap = true ∧
      (∀ q, q ≠ p.val → t.yzp q = s.yzp q) ∧ t = { s with yz := { s.yz with ports := t.yz.ports }, regs := t.regs }) ∧
  (∀ (s : State) (p : Fin 16) (bs : List Byte) (f : YzFlit),
    flitOf bs = some f → s.fld (YZ_PORT_STAT_STATE p) = 2 → f.typ = 2 → s.capRefuse p (capOf f.payload) = 0 →
    (capOf f.payload).seen = true → s.LanesIn (16 + p) →
    ∃ t, exec (.capabilityRx p bs) s = .next t ∧ t.fld (YZ_PORT_STAT_PEER p) = (capOf f.payload).addr ∧
      (t.yzp p).expect = 0 ∧ (t.yzp p).replay = [] ∧ t.fld (YZ_PORT_SEQ_NEXT_TX p) = 0 ∧ t.fld (YZ_PORT_SEQ_OUTSTANDING p) = 0 ∧
      (∀ v, v < 8 → t.fld (YZ_PORT_CREDIT_CREDITS p v) = min ((capOf f.payload).bufs.getD v 0) 4095 ∧
        t.fld (YZ_PORT_CREDIT_OCC p v) = 0) ∧
      (∀ q, q ≠ p.val → t.yzp q = s.yzp q)) ∧
  (∀ (s : State) (p : Fin 16) (bs : List Byte) (f : YzFlit),
    flitOf bs = some f → s.fld (YZ_PORT_STAT_STATE p) = 2 → f.typ = 2 → s.capRefuse p (capOf f.payload) ≠ 0 →
    (s.atStep 6 = true → ∃ j, j < 32 ∧ j ≠ 16 + p.val ∧ s.linkEn j = true ∧ (s.link j).tried = false) →
    ∃ t, exec (.capabilityRx p bs) s = .next t ∧ t.fld (YZ_PORT_STAT_STATE p) = 6 ∧ (t.yzp p).refused = s.raw + 1 ∧
      ((capOf f.payload).major ≠ 1 → Raises s t 0x0C03 p (evArg [(0, 1, 1), (4, 2, (capOf f.payload).addr)])) ∧
      ((capOf f.payload).major = 1 → (capOf f.payload).addr = s.fld YZ_CFG_ADDR →
        Raises s t 0x0C03 p (evArg [(0, 1, 2), (4, 2, (capOf f.payload).addr)])) ∧
      ((capOf f.payload).major = 1 → (capOf f.payload).addr ≠ s.fld YZ_CFG_ADDR →
        (capOf f.payload).addr / 16 = s.fld YZ_CFG_ADDR / 16 ∧ s.bit (YZ_ROUTE_VALID ((capOf f.payload).addr % 16)) = false ∧
        Raises s t 0x0C03 p (evArg [(0, 1, 3), (4, 2, (capOf f.payload).addr)])) ∧ (∀ q, q ≠ p.val → t.yzp q = s.yzp q) ∧
      t = { s with yz := { s.yz with ports := t.yz.ports }, regs := t.regs, phy := t.phy, evq := t.evq, ctl := t.ctl } ∧
      Keeps s t [YZ_PORT_STAT p]) ∧
  (∀ (s : State) (p : Fin 16), 0 < (s.yzp p).refused → s.raw + 1 - (s.yzp p).refused ≥ secU → s.linkEn (16 + p) = true →
    ∃ t, exec (.capabilityRetry p) s = .next t ∧ t.fld (YZ_PORT_STAT_STATE p) = 2 ∧
      t.yzp p = { s.yzp p with refused := 0, peerCap := false, capRaw := 0 } ∧ (∀ q, q ≠ p.val → t.yzp q = s.yzp q) ∧
      t = { s with yz := { s.yz with ports := t.yz.ports }, regs := t.regs } ∧ Keeps s t [YZ_PORT_STAT p]) ∧
  (∀ (s : State) (p : Fin 16) (ack : Fin 4096),
    s.fld (YZ_PORT_STAT_STATE p) = 5 → (s.yzp p).wait = [] → s.acked p ack ≤ (s.yzp p).replay.length → (s.yzp p).replays < 7 →
    s.LanesIn (16 + p) →
    ∃ t, exec (.retrainDone p true ack) s = .next t ∧ t.fld (YZ_PORT_STAT_STATE p) = 4 ∧ t.fld (YZ_PORT_STAT_UP p) = 1 ∧
      Sent s t (.flit p (s.idleFlit p false) :: s.replayOut p (s.acked p ack) 1) ∧
      (t.yzp p).replay = (s.yzp p).replay.drop (s.acked p ack) ∧ (t.yzp p).downRaw = 0 ∧ (∀ q, q ≠ p.val → t.yzp q = s.yzp q) ∧
      t = { s with yz := { s.yz with ports := t.yz.ports }, regs := t.regs, out := t.out } ∧
      Keeps s t (YZ_PORT_STAT p :: YZ_PORT_SEQ p :: YZ_PORT_CNT_REPLAY p :: (s.linkLanes (16 + p)).map LNK_LANE_STAT)) ∧
  (∀ (s : State) (p : Fin 16) (ack : Fin 4096) (low : Nat),
    s.fld (YZ_PORT_STAT_STATE p) = 5 → 0 < low → low < 16 →
    low = ((1 :: (s.yzp p).rates).filter (· < s.fld (YZ_PORT_STAT_RATE p))).foldl max 0 →
    ∃ t, exec (.retrainDone p false ack) s = .next t ∧ t.fld (YZ_PORT_STAT_RATE p) = low ∧
      t.fld (YZ_PORT_STAT_STATE p) = 5 ∧ Raises s t 0x0803 p (evArg [(0, 1, s.fld (YZ_PORT_STAT_RATE p)), (1, 1, low)]) ∧
      t.yz = s.yz ∧ t = { s with regs := t.regs, phy := t.phy, evq := t.evq, ctl := t.ctl }) ∧
  (∀ (s : State) (p : Fin 16),
    0 < (s.yzp p).downRaw → s.bit (YZ_PORT_STAT_UP p) = false → s.raw + 1 - (s.yzp p).downRaw ≥ 500 * msU →
    (s.atStep 6 = true → ∃ j, j < 32 ∧ j ≠ 16 + p.val ∧ s.linkEn j = true ∧ (s.link j).tried = false) → s.LanesIn (16 + p) →
    ∃ t, exec (.bundleDown p) s = .next t ∧ (t.yzp p).replay = [] ∧ t.fld (YZ_PORT_STAT_STATE p) = 6 ∧
      t.link (16 + p) = { s.link (16 + p) with step := 0, failRaw := s.raw + 1, tried := true } ∧
      Raises s t 0x0C01 p (evArg [(1, 1, s.fld (YZ_PORT_STAT_RATE p)), (4, 2, s.fld (YZ_PORT_STAT_PEER p))]) ∧
      ((s.yzp p).replay ≠ [] → Raises s t 0x0C04 p (evArg [(0, 4, (msgsOf (s.yzp p).replay).length)])) ∧ (∀ q, q ≠ p.val → t.yzp q = s.yzp q) ∧
      t = { s with yz := { s.yz with ports := t.yz.ports }, regs := t.regs, phy := t.phy, evq := t.evq, ctl := t.ctl }) ∧
  (∀ (s : State) (l : Fin 64) (cdr : Bool) (p : Fin 16),
    s.linkOf l = some (16 + p.val) → s.bit (YZ_PORT_STAT_UP p) = true → s.LanesIn (16 + p) →
    ∃ t, exec (.bundleLaneLoss l cdr) s = .next t ∧ t.fld (if cdr then LNK_LANE_STAT_CDR_LOCK l else LNK_LANE_STAT_ALIGNED l) = 0 ∧
      t.fld (YZ_PORT_STAT_UP p) = 0 ∧ t.fld (YZ_PORT_STAT_STATE p) = 5 ∧ Raises s t 0x0C02 p (evArg [(0, 1, 1)]) ∧
      t.fld (YZ_PORT_CNT_RETRAIN_COUNT p) = min (s.fld (YZ_PORT_CNT_RETRAIN_COUNT p) + 1) (2 ^ 32 - 1) ∧
      (t.yzp p).downRaw = s.raw + 1 ∧ (t.yzp p).replay = (s.yzp p).replay ∧ (∀ q, q ≠ p.val → t.yzp q = s.yzp q) ∧
      t = { s with yz := { s.yz with ports := t.yz.ports }, regs := t.regs, evq := t.evq, ctl := t.ctl }) ∧
  (∀ (f : YzFlit), f.typ < 8 → f.vc < 8 → f.seq < 4096 → f.ack < 4096 → f.crdVc < 8 → f.crd < 4096 → f.payload.length ≤ 116 →
    ((f.typ = 1 ∧ f.eop = true) ∨ f.payload.length = 116) → flitOf (flitBytes f) = some f)

/-- A whole message for this device is delivered: on a checked channel only with a good CRC, a unit that checks it and a new alive count,
which is noted, a skipped one counted; on the others as it is; else it is counted (R406). A picture of VC 5 updates LATEST of its mirror
(R415), a test message of another device goes back (R622). One for another device is relayed with HOPS less 1, but not with no relays left
nor on VC 5, and one that has no target is discarded and counted (R408). A datagram with the next number is delivered in order, one that comes
twice is dropped, one that comes early is held, one of another MAC or UDP port is none, one from an unknown address is counted, and one
without its ACK leaves again after 4 ms, eight times, after which its messages are indeterminate (R409). A heartbeat leaves for every
configured member each millisecond; one that comes updates the member and the view, with event 0x0C06 when its health changes, and a member
unheard for DEAD_MS leaves the view, as a coordinator unheard for 50 ms does (R412, R413). The coordinator of a group shows the sums of its
own and its members' capacity, every other device sends its own to it (R410). -/
def Obligations.FloorMessages : Prop :=
  (∀ (s : State) (p : Fin 16) (vc : Fin 8) (bs : List Byte) (m : Option (Nat × Nat)),
    vcChecked vc = true → (vc.val = 0 → m = none) → (s.yzp p).msgs.find? (fun x => x.1 == vc.val) = some (vc.val, bs) →
    s.msgTarget (msgHdr bs) = some s.ownAddr → msgGood vc bs = true → s.chkServed (vcFunc vc) = true →
    tget (fun _ => none) s.yz.aliveRx ((msgHdr bs).src * 8 + vc) ≠ some (msgHdr bs).alive →
    ∃ t, exec (.yzMessageRx p vc m) s = .next t ∧ Sent s t [.deliver vc (msgHdr bs).src (msgHdr bs).typ (msgHdr bs).len] ∧
      t.yzp p = { s.yzp p with msgs := (s.yzp p).msgs.erase (vc.val, bs) } ∧
      tget (fun _ => none) t.yz.aliveRx ((msgHdr bs).src * 8 + vc) = some (msgHdr bs).alive ∧
      ((tget (fun _ => none) s.yz.aliveRx ((msgHdr bs).src * 8 + vc) = none ∨
        tget (fun _ => none) s.yz.aliveRx ((msgHdr bs).src * 8 + vc) = some (((msgHdr bs).alive + 255) % 256)) → t.regs = s.regs) ∧
      (∀ a, tget (fun _ => none) s.yz.aliveRx ((msgHdr bs).src * 8 + vc) = some a → a ≠ ((msgHdr bs).alive + 255) % 256 →
        t.fld YZ_CNT_MSG_CHK_COUNT = min (s.fld YZ_CNT_MSG_CHK_COUNT + 1) (2 ^ YZ_CNT_MSG_CHK_COUNT.width - 1)) ∧
      (∀ q, q ≠ p.val → t.yzp q = s.yzp q) ∧ t = { s with yz := t.yz, regs := t.regs, out := t.out } ∧ Keeps s t [YZ_CNT_MSG_CHK]) ∧
  (∀ (s : State) (p : Fin 16) (vc : Fin 8) (bs : List Byte) (m : Option (Nat × Nat)),
    vc.val = 3 ∨ vc.val = 4 → (s.yzp p).msgs.find? (fun x => x.1 == vc.val) = some (vc.val, bs) →
    s.msgTarget (msgHdr bs) = some s.ownAddr → msgGood vc bs = true →
    ∃ t, exec (.yzMessageRx p vc m) s = .next t ∧ Sent s t [.deliver vc (msgHdr bs).src (msgHdr bs).typ (msgHdr bs).len] ∧
      t.yzp p = { s.yzp p with msgs := (s.yzp p).msgs.erase (vc.val, bs) } ∧ (∀ q, q ≠ p.val → t.yzp q = s.yzp q) ∧
      t = { s with yz := { s.yz with ports := t.yz.ports }, out := t.out }) ∧
  (∀ (s : State) (p : Fin 16) (bs : List Byte) (c d : Nat),
    (s.yzp p).msgs.find? (fun x => x.1 == 5) = some (5, bs) → s.msgTarget (msgHdr bs) = some s.ownAddr → msgGood 5 bs = true →
    ∃ u, exec (.yzMessageRx p 5 (some (c, d))) s = .next (u.rp 1 c 0x30 8 d) ∧
      Sent s u [.deliver 5 (msgHdr bs).src (msgHdr bs).typ (msgHdr bs).len] ∧
      u.yzp p = { s.yzp p with msgs := (s.yzp p).msgs.erase (5, bs) } ∧ (∀ q, q ≠ p.val → u.yzp q = s.yzp q) ∧
      u = { s with yz := { s.yz with ports := u.yz.ports }, out := u.out }) ∧
  (∀ (s : State) (p : Fin 16) (bs : List Byte) (m : Option (Nat × Nat)),
    (s.yzp p).msgs.find? (fun x => x.1 == 7) = some (7, bs) → (msgHdr bs).src ≠ s.ownAddr → msgGood 7 bs = true →
    s.msgTarget (msgHdr bs) ≠ none →
    ∃ t u, exec (.yzMessageRx p 7 m) s = .next t ∧ t = u.yzEnqueue p 7 bs ∧
      Sent s u [.deliver 7 (msgHdr bs).src (msgHdr bs).typ (msgHdr bs).len] ∧
      u.yzp p = { s.yzp p with msgs := (s.yzp p).msgs.erase (7, bs) } ∧ (∀ q, q ≠ p.val → t.yzp q = s.yzp q) ∧
      u = { s with yz := { s.yz with ports := u.yz.ports }, out := u.out }) ∧
  (∀ (s : State) (p : Fin 16) (vc : Fin 8) (bs : List Byte) (m : Option (Nat × Nat)),
    (s.yzp p).msgs.find? (fun x => x.1 == vc.val) = some (vc.val, bs) → vc.val ≠ 7 → s.msgTarget (msgHdr bs) = some s.ownAddr →
    (msgGood vc bs = false ∨ (vcChecked vc = true ∧ (s.chkServed (vcFunc vc) = false ∨
      tget (fun _ => none) s.yz.aliveRx ((msgHdr bs).src * 8 + vc) = some (msgHdr bs).alive))) →
    ∃ t, exec (.yzMessageRx p vc m) s = .next t ∧ t.yzp p = { s.yzp p with msgs := (s.yzp p).msgs.erase (vc.val, bs) } ∧
      t.fld YZ_CNT_MSG_CHK_COUNT = min (s.fld YZ_CNT_MSG_CHK_COUNT + 1) (2 ^ YZ_CNT_MSG_CHK_COUNT.width - 1) ∧
      t = { s with yz := { s.yz with ports := t.yz.ports }, regs := t.regs } ∧ Keeps s t [YZ_CNT_MSG_CHK]) ∧
  (∀ (s : State) (p : Fin 16) (vc : Fin 8) (bs : List Byte) (m : Option (Nat × Nat)),
    (s.yzp p).msgs.find? (fun x => x.1 == vc.val) = some (vc.val, bs) → vc.val < 7 →
    (s.msgTarget (msgHdr bs) = none ∨
      ∃ d, s.msgTarget (msgHdr bs) = some d ∧ d ≠ s.ownAddr ∧ ((msgHdr bs).hops = 0 ∨ vc.val = 5)) →
    ∃ t, exec (.yzMessageRx p vc m) s = .next t ∧ t.yzp p = { s.yzp p with msgs := (s.yzp p).msgs.erase (vc.val, bs) } ∧
      t.fld YZ_CNT_UNKNOWN_COUNT = min (s.fld YZ_CNT_UNKNOWN_COUNT + 1) (2 ^ YZ_CNT_UNKNOWN_COUNT.width - 1) ∧
      t = { s with yz := { s.yz with ports := t.yz.ports }, regs := t.regs } ∧ Keeps s t [YZ_CNT_UNKNOWN]) ∧
  (∀ (s : State) (p : Fin 16) (vc : Fin 8) (bs : List Byte) (m : Option (Nat × Nat)) (d : Nat),
    (s.yzp p).msgs.find? (fun x => x.1 == vc.val) = some (vc.val, bs) → vc.val < 7 → vc.val ≠ 5 →
    s.msgTarget (msgHdr bs) = some d → d ≠ s.ownAddr → 0 < (msgHdr bs).hops →
    ∃ u, exec (.yzMessageRx p vc m) s = .next (u.yzTo vc d (msgBytes vc
        { msgHdr bs with hops := (msgHdr bs).hops - 1 } ((bs.drop 16).take (msgHdr bs).len))) ∧
      u = s.setYzp p { s.yzp p with msgs := (s.yzp p).msgs.erase (vc.val, bs) }) ∧
  (∀ (s : State) (mac : Fin 64) (port : Fin 65536) (ip seq ack : Nat) (vc : Fin 8) (bs : List Byte),
    s.yzPort mac port = false → exec (.yzUdpRx mac port ip seq ack vc bs) s = .next s) ∧
  (∀ (s : State) (mac : Fin 64) (port : Fin 65536) (ip seq ack : Nat) (vc : Fin 8) (bs : List Byte),
    s.yzPort mac port = true → (s.peerOfIp ip = none ∨ (vc.val ≠ 0 ∧ vc.val ≠ 1 ∧ vc.val ≠ 6)) →
    ∃ t, exec (.yzUdpRx mac port ip seq ack vc bs) s = .next t ∧
      t.fld YZ_CNT_UNKNOWN_COUNT = min (s.fld YZ_CNT_UNKNOWN_COUNT + 1) (2 ^ YZ_CNT_UNKNOWN_COUNT.width - 1) ∧
      t = { s with regs := t.regs } ∧ Keeps s t [YZ_CNT_UNKNOWN]) ∧
  (∀ (s : State) (mac : Fin 64) (port : Fin 65536) (ip seq ack i : Nat) (vc : Fin 8) (bs : List Byte),
    s.yzPort mac port = true → s.peerOfIp ip = some i → (vc.val = 0 ∨ vc.val = 1 ∨ vc.val = 6) → seq = (s.udpx i vc).rx + 1 →
    (s.udpx i vc).held = [] → s.msgTarget (msgHdr bs) = some s.ownAddr → msgGood vc bs = true → s.chkServed (vcFunc vc) = true →
    tget (fun _ => none) s.yz.aliveRx ((msgHdr bs).src * 8 + vc) = none →
    ∃ t, exec (.yzUdpRx mac port ip seq ack vc bs) s = .next t ∧
      Sent s t [.deliver vc (msgHdr bs).src (msgHdr bs).typ (msgHdr bs).len] ∧
      t.udpx i vc = { s.udpx i vc with rx := seq, unack := (s.udpx i vc).unack.filter (fun u => u.1 > ack) } ∧
      tget (fun _ => none) t.yz.aliveRx ((msgHdr bs).src * 8 + vc) = some (msgHdr bs).alive ∧
      t = { s with yz := { s.yz with udp := t.yz.udp, aliveRx := t.yz.aliveRx }, out := t.out }) ∧
  (∀ (s : State) (mac : Fin 64) (port : Fin 65536) (ip seq ack i : Nat) (vc : Fin 8) (bs : List Byte),
    s.yzPort mac port = true → s.peerOfIp ip = some i → (vc.val = 0 ∨ vc.val = 1 ∨ vc.val = 6) →
    (seq ≤ (s.udpx i vc).rx ∨ (∃ m, m ∈ (s.udpx i vc).held ∧ m.1 = seq)) →
    ∃ t, exec (.yzUdpRx mac port ip seq ack vc bs) s = .next t ∧
      t.udpx i vc = { s.udpx i vc with unack := (s.udpx i vc).unack.filter (fun u => u.1 > ack) } ∧
      t = { s with yz := { s.yz with udp := t.yz.udp } }) ∧
  (∀ (s : State) (mac : Fin 64) (port : Fin 65536) (ip seq ack i : Nat) (vc : Fin 8) (bs : List Byte),
    s.yzPort mac port = true → s.peerOfIp ip = some i → (vc.val = 0 ∨ vc.val = 1 ∨ vc.val = 6) → (s.udpx i vc).rx + 1 < seq →
    (∀ m, m ∈ (s.udpx i vc).held → m.1 ≠ (s.udpx i vc).rx + 1 ∧ m.1 ≠ seq) → (s.udpx i vc).held.length < 64 →
    ∃ t, exec (.yzUdpRx mac port ip seq ack vc bs) s = .next t ∧ (t.udpx i vc).held = (s.udpx i vc).held ++ [(seq, bs)] ∧
      (t.udpx i vc).rx = (s.udpx i vc).rx ∧ t = { s with yz := { s.yz with udp := t.yz.udp } }) ∧
  (∀ (s : State) (i : Fin 64) (vc : Fin 8) (q r n : Nat) (bs : List Byte) (l : List (Nat × Nat × Nat × List Byte)),
    (s.udpx i vc).unack = (q, r, n, bs) :: l → s.raw - r ≥ 4 * msU → n < 8 →
    ∃ t, exec (.yzUdpResend i vc) s = .next t ∧ Sent s t [.udp i vc q (s.udpx i vc).rx bs] ∧
      t.udpx i vc = { s.udpx i vc with unack := l ++ [(q, s.raw, n + 1, bs)] } ∧
      t.fld YZ_CNT_UDP_RETX_COUNT = min (s.fld YZ_CNT_UDP_RETX_COUNT + 1) (2 ^ YZ_CNT_UDP_RETX_COUNT.width - 1) ∧
      t = { s with yz := { s.yz with udp := t.yz.udp }, regs := t.regs, out := t.out } ∧ Keeps s t [YZ_CNT_UDP_RETX]) ∧
  (∀ (s : State) (i : Fin 64) (vc : Fin 8) (q r n : Nat) (bs : List Byte) (l : List (Nat × Nat × Nat × List Byte)),
    (s.udpx i vc).unack = (q, r, n, bs) :: l → s.raw - r ≥ 4 * msU → 8 ≤ n →
    ∃ t, exec (.yzUdpResend i vc) s = .next t ∧ (∀ v, v < 8 → t.udpx i v = { s.udpx i v with unack := [] }) ∧
      Raises s t 0x0C04 0 (evArg [(0, 4, ((List.range 8).map (fun v => (s.udpx i v).unack.length)).sum), (4, 1, 1)]) ∧
      t = { s with yz := { s.yz with udp := t.yz.udp }, regs := t.regs, evq := t.evq, ctl := t.ctl } ∧ Keeps s t []) ∧
  (∀ (s : State),
    s.bit YZ_CFG_EN = true → s.raw - s.yz.hbRaw ≥ msU →
    ∃ t, exec .heartbeatSend s = .next t ∧ t.yz.hbRaw = s.raw ∧
      (∀ d, d < 16 → nbit (s.fld YZ_MEMBERS1_CONF) d = true → d ≠ s.ownAddr % 16 →
        Out.heartbeat (s.ownAddr / 16 * 16 + d) s.selfHealthy ∈ t.out) ∧
      t = { s with yz := t.yz, regs := t.regs, out := t.out, fresh := t.fresh }) ∧
  (∀ (s : State) (src : Fin 4096) (healthy : Bool) (view : Nat) (lvl : Fin 4),
    s.bit YZ_CFG_EN = true → src.val ≠ s.ownAddr → s.chkServed (vcFunc 0) = true → lvl.val ≤ 1 → s.sameGroup src = true →
    nbit (s.fld YZ_MEMBERS1_CONF) (src % 16) = true →
    ∃ t, exec (.heartbeatRx src healthy view lvl) s = .next t ∧
      tget (fun _ => MemberX.zero) t.yz.members src = ⟨s.raw + 1, healthy, view % 65536⟩ ∧
      nbit (t.fld YZ_MEMBERS1_HEARD) (src % 16) = healthy ∧
      ((decide ((tget (fun _ => MemberX.zero) s.yz.members src).raw > 0) && (tget (fun _ => MemberX.zero) s.yz.members src).healthy) ≠
        healthy → Raises s t 0x0C06 0 (evArg [(0, 2, src), (2, 1, b2n healthy)])) ∧
      (∀ m, m ≠ src.val → tget (fun _ => MemberX.zero) t.yz.members m = tget (fun _ => MemberX.zero) s.yz.members m) ∧
      t = { s with yz := t.yz, regs := t.regs, evq := t.evq, ctl := t.ctl }) ∧
  (∀ (s : State) (src : Fin 4096) (healthy : Bool) (view : Nat) (lvl : Fin 4),
    s.bit YZ_CFG_EN = true → src.val ≠ s.ownAddr → s.chkServed (vcFunc 0) = true →
    (lvl.val = 3 ∨ (lvl.val = 2 ∧ src.val / 256 = s.ownAddr / 256)) →
    ∃ t, exec (.heartbeatRx src healthy view lvl) s = .next t ∧
      tget (fun _ => 0) t.yz.coords (lvl * 4096 + src) = (if healthy then s.raw + 1 else 0) ∧
      (∀ m, m ≠ lvl * 4096 + src.val → tget (fun _ => 0) t.yz.coords m = tget (fun _ => 0) s.yz.coords m) ∧
      t.yz.members = s.yz.members ∧ t = { s with yz := t.yz, regs := t.regs, evq := t.evq, ctl := t.ctl }) ∧
  (∀ (s : State) (src : Fin 4096) (lvl : Fin 4),
    s.bit YZ_CFG_EN = true → src.val ≠ s.ownAddr → s.sameGroup src = true → lvl.val ≤ 1 →
    (tget (fun _ => MemberX.zero) s.yz.members src).raw ≠ 0 →
    s.raw + 1 - (tget (fun _ => MemberX.zero) s.yz.members src).raw ≥ s.fld YZ_CFG_DEAD_MS * msU →
    ∃ t, exec (.memberDead src lvl) s = .next t ∧ tget (fun _ => MemberX.zero) t.yz.members src = MemberX.zero ∧
      nbit (t.fld YZ_MEMBERS1_HEARD) (src % 16) = false ∧
      ((tget (fun _ => MemberX.zero) s.yz.members src).healthy = true → Raises s t 0x0C06 0 (evArg [(0, 2, src)])) ∧
      (s.liveRecs 2 = [] → t.brg = s.brg) ∧
      t = { s with yz := t.yz, regs := t.regs, evq := t.evq, ctl := t.ctl, brg := t.brg }) ∧
  (∀ (s : State) (src : Fin 4096) (lvl : Fin 4),
    1 < lvl.val → tget (fun _ => 0) s.yz.coords (lvl * 4096 + src) ≠ 0 →
    s.raw + 1 - tget (fun _ => 0) s.yz.coords (lvl * 4096 + src) ≥ 50 * msU →
    ∃ t, exec (.memberDead src lvl) s = .next t ∧ tget (fun _ => 0) t.yz.coords (lvl * 4096 + src) = 0 ∧
      t.yz.members = s.yz.members ∧ t = { s with yz := t.yz, regs := t.regs, evq := t.evq, ctl := t.ctl }) ∧
  (∀ (s : State) (r1 r2 r3 : List (Nat × Nat × Nat × Nat)),
    s.bit YZ_CFG_EN = true → s.raw - s.yz.capRaw ≥ 10 * msU → (s.bit YZ_COORD1_VALID = false ∨ s.bit YZ_COORD1_SELF = true) →
    ∃ t, exec (.capacityRefresh r1 r2 r3) s = .next t ∧ s.Shows t r1 r2 r3 ∧
      t = { s with yz := { s.yz with capRaw := s.raw, reports := t.yz.reports }, regs := t.regs } ∧
      Keeps s t ((List.range 3).flatMap (fun l => [YZ_CAP_TUN l, YZ_CAP_DEC l, YZ_CAP_CMP l, YZ_CAP_LEGS l]))) ∧
  (∀ (s : State) (r1 r2 r3 : List (Nat × Nat × Nat × Nat)),
    s.bit YZ_CFG_EN = true → s.raw - s.yz.capRaw ≥ 10 * msU → s.bit YZ_COORD1_VALID = true → s.bit YZ_COORD1_SELF = false →
    ∃ u, exec (.capacityRefresh r1 r2 r3) s = .next (u.yzSend 6 6 (s.fld YZ_COORD1_ADDR)) ∧ s.Shows u r1 r2 r3 ∧
      u = { s with yz := { s.yz with capRaw := s.raw, reports := u.yz.reports }, regs := u.regs } ∧
      Keeps s u ((List.range 3).flatMap (fun l => [YZ_CAP_TUN l, YZ_CAP_DEC l, YZ_CAP_CMP l, YZ_CAP_LEGS l])))

/-- A member of a group stages the registers and records of a change for the floor and starts its check; a coordinator of the level below asks
every one of its members for its part; what the bank refuses is answered as a failure. A commit in time moves the checked change to the pending
pitches for its trigger time, and a coordinator tells its members; 10 ms without one the change is discarded; and a coordinator whose member
does not answer within 10 ms gives the change up and reports the refusal to the coordinator above it or to the request that waits (R411). -/
def Obligations.FloorGroups : Prop :=
  (∀ (s : State) (lvl : Fin 4) (ident a : Nat) (v : W32) (r : RegRow),
    s.bit YZ_CFG_EN = true → regRow a = some r → r.stMask ≠ 0 → s.stageStatus 3 (rackedBlock a) = 0 → s.stage.records = [] →
    s.stage.checking = false → lvl.val < 2 →
    ∃ t, exec (.groupStageCheck lvl ident [(a, v)] []) s = .next t ∧
      tfind t.stage.writes a = some ((v &&& r.stMask) ||| (s.view a &&& ~~~r.stMask)) ∧
      (∀ b, b ≠ a → tfind t.stage.writes b = tfind s.stage.writes b) ∧ t.stage.owner = 3 ∧ t.stage.checking = true ∧
      t.fld CFG_STAGE_STAT_CHECKED = 0 ∧ t.fld CFG_CTRL_CHECK = 1 ∧ t.yz.grpId = some ident ∧ t.yz.grpRaw = 0 ∧
      t = { s with stage := t.stage, regs := t.regs, yz := t.yz, brg := t.brg } ∧ Keeps s t [CFG_STAGE_STAT, CFG_CTRL]) ∧
  (∀ (s : State) (lvl : Fin 4) (ident : Nat) (ws : List (Nat × W32)) (rs : List StagedRec),
    s.bit YZ_CFG_EN = true → s.stageStatus 3 (decide (rs ≠ []) || ws.any (fun w => rackedBlock w.1)) = 0 →
    (∀ w, w ∈ ws → stageable w.1 = true) → s.stage.records.length + rs.length ≤ 1024 →
    (lvl.val < 2 ∨ s.bit ⟨coordReg (lvl - 1), 30, 1⟩ = false) →
    ∃ u, exec (.groupStageCheck lvl ident ws rs) s = .next u.checkStart ∧
      u.stage = (s.stagedFor ws rs).stage ∧ u.yz = { s.yz with grpId := some ident, grpRaw := 0 } ∧
      u = { s with stage := u.stage, regs := u.regs, yz := u.yz } ∧ Keeps s u [CFG_STAGE_STAT]) ∧
  (∀ (s : State) (lvl : Fin 4) (ident : Nat) (ws : List (Nat × W32)) (rs : List StagedRec),
    s.bit YZ_CFG_EN = true → s.stageStatus 3 (decide (rs ≠ []) || ws.any (fun w => rackedBlock w.1)) = 0 →
    (∀ w, w ∈ ws → stageable w.1 = true) → s.stage.records.length + rs.length ≤ 1024 →
    2 ≤ lvl.val → s.bit ⟨coordReg (lvl - 1), 30, 1⟩ = true →
    ∃ t, exec (.groupStageCheck lvl ident ws rs) s = .next t ∧
      t.yz.group = some ⟨ident, lvl - 1, s.groupMembers (lvl - 1), s.groupMembers (lvl - 1), s.raw, true, true⟩ ∧
      (∀ m, m ∈ s.groupMembers (lvl - 1) → m ≠ s.ownAddr → ∃ ws' rs', Out.groupStage ident m ws' rs' ∈ t.out) ∧
      t.yz.grpId = some ident ∧ t.yz.grpRaw = 0 ∧ t.stage.checking = true) ∧
  (∀ (s : State) (lvl : Fin 4) (ident : Nat) (ws : List (Nat × W32)) (rs : List StagedRec),
    s.bit YZ_CFG_EN = true → (s.stageStatus 3 (decide (rs ≠ []) || ws.any (fun w => rackedBlock w.1)) ≠ 0 ∨
      (∃ w, w ∈ ws ∧ stageable w.1 = false) ∨ 1024 < s.stage.records.length + rs.length) →
    exec (.groupStageCheck lvl ident ws rs) s =
      .next { s with out := s.out ++ [.group 4 ident (s.fld ⟨coordReg lvl, 0, 12⟩) false] }) ∧
  (∀ (s : State) (ident pid : Nat) (atNs : Int),
    s.yz.grpId = some ident → s.yz.grpRaw ≠ 0 → s.yz.group = none → s.stage.owner = 3 → s.bit CFG_STAGE_STAT_CHECKED = true →
    s.stage.pitches.length < 8 →
    ∃ t p, exec (.groupCommit ident pid atNs) s = .next t ∧ t.stage.pitches = s.stage.pitches ++ [p] ∧ p.ident = pid ∧
      p.group = true ∧ p.writes = s.stage.writes ∧ p.records = s.stage.records ∧ atNs ≤ p.instant ∧ s.nowNs ≤ p.instant ∧
      t.stage.writes = [] ∧ t.stage.records = [] ∧ t.stage.owner = 0 ∧ t.yz.grpId = none ∧ t.dram = s.dram ∧ t.enc = s.enc ∧
      t.brg = s.brg) ∧
  (∀ (s : State) (ident pid : Nat) (atNs : Int) (g : GroupX),
    s.yz.grpId = some ident → s.yz.grpRaw ≠ 0 → s.yz.group = some g → g.up = true → g.ident = ident →
    ∃ t, exec (.groupCommit ident pid atNs) s = .next t ∧ t.yz.grpId = none ∧ t.yz.grpRaw = 0 ∧ t.yz.group = none ∧
      (∀ m, m ∈ g.all → m ≠ s.ownAddr → Out.group 2 ident m true ∈ t.out) ∧
      (s.stage.owner = 3 → s.bit CFG_STAGE_STAT_CHECKED = true → s.stage.pitches.length < 8 →
        t.stage.pitches.length = s.stage.pitches.length + 1)) ∧
  (∀ (s : State) (ident pid : Nat) (atNs : Int),
    s.yz.grpId = some ident → s.yz.grpRaw ≠ 0 → s.yz.group = none → s.stage.owner ≠ 3 ∨ s.bit CFG_STAGE_STAT_CHECKED = false →
    exec (.groupCommit ident pid atNs) s = .next { s with yz := { s.yz with grpId := none, grpRaw := 0 } }) ∧
  (∀ (s : State), s.yz.grpRaw ≠ 0 → s.raw + 1 - s.yz.grpRaw ≥ 10 * msU → s.stage.owner = 3 →
    ∃ t, exec .groupCommitTimeout s = .next t ∧ t.yz.grpId = none ∧ t.yz.grpRaw = 0 ∧ t.stage.writes = [] ∧ t.stage.records = [] ∧
      t.stage.owner = 0 ∧ t.stage.pitches = s.stage.pitches ∧
      (s.bit YZ_COORD1_SELF = true → Sent s t [.group 3 (s.yz.grpId.getD 0) 0 false]) ∧
      (s.bit YZ_COORD1_SELF = false → t.out = s.out) ∧
      t = { s with yz := t.yz, stage := t.stage, regs := t.regs, out := t.out } ∧ Keeps s t [CFG_STAGE_STAT]) ∧
  (∀ (s : State) (g : GroupX), s.yz.group = some g → g.wait ≠ [] → s.raw - g.raw ≥ 10 * msU → g.up = true →
    ∃ t, exec .groupAnswerTimeout s = .next t ∧ t.yz.group = none ∧ t.stage.writes = [] ∧ t.stage.records = [] ∧
      Sent s t [.group 3 g.ident 0 false, .group 4 g.ident (s.fld ⟨coordRegOf (g.lvl + 1), 0, 12⟩) false] ∧
      t = { s with yz := { s.yz with group := none }, stage := t.stage, regs := t.regs, out := t.out } ∧ Keeps s t [CFG_STAGE_STAT]) ∧
  (∀ (s : State) (g : GroupX), s.yz.group = some g → g.wait ≠ [] → s.raw - g.raw ≥ 10 * msU → g.up = false →
    ∃ u, exec .groupAnswerTimeout s = .next (u.replyWaiting 2 4 11 [s.rd CFG_CHECK_RES, s.rd CFG_CHECK_ADDR]) ∧
      u.yz.group = none ∧ u.stage.writes = [] ∧ u.stage.records = [] ∧ Sent s u [.group 3 g.ident 0 false] ∧
      u = { s with yz := { s.yz with group := none }, stage := u.stage, regs := u.regs, out := u.out } ∧ Keeps s u [CFG_STAGE_STAT])

/-- A STANDBY holds a record in sequence until its set commits, asks again from the expected number after a bad CRC, a check-value function
without a unit or a gap, drops one already applied, and acknowledges a committed set's last number (R428); LAST_SENT and CAPTURE records take
their effect at that commit and nothing else changes. An ACTIVE that sees a higher gyle stops (R437). The ACTIVE sends a numbered heartbeat
set when nothing was racked for 250 µs, and LAST_SENT each millisecond, with every flow's FLOW_STATE once in 100 ms (R422, R426, R427); it
resends from its journal, or sends a snapshot when it is asked for one, and is DEGRADED when the journal no longer holds the record or reads it
poisoned (R428, R430, R452); an acknowledgement empties the journal up to its number, frees the reservations it covers, ends the DEGRADED mark
once everything is ready (R430, R431), and ends a planned swap whose HANDOVER it covers; a set that waits longer than DEAD makes it DEGRADED,
with event 0x0D03. RESYNC of a STANDBY asks for a snapshot (R430); SWAP of an ACTIVE whose standby is READY racks LAST_SENT and HANDOVER once
no slot is in progress, and is ignored otherwise (R441); each day is counted, with event 0x0D08 from SWAP_DAYS on (R442). -/
def Obligations.TwinRacking : Prop :=
  (∀ (s : State) (r : RackRec) (snap : Bool),
    (s.role = 2 ∨ s.role = 4) → s.chkServed 1 = true → r.gyle ≤ s.gyleSeen → (s.rdn.expect = 0 → r.first = true) →
    (s.rdn.expect ≠ 0 → r.seq = s.rdn.expect) → r.commit = false →
    exec (.rackRecordRx r true snap) s =
      .next { s with rdn := { s.rdn with expect := r.seq + 1, held := if r.first then [r] else s.rdn.held ++ [r] } }) ∧
  (∀ (s : State) (r : RackRec) (crc snap : Bool),
    (s.role = 2 ∨ s.role = 4) → r.gyle ≤ s.gyleSeen →
    (crc = false ∨ s.chkServed 1 = false ∨ (s.rdn.expect ≠ 0 ∧ s.rdn.expect < r.seq)) →
    ∃ t, exec (.rackRecordRx r crc snap) s = .next t ∧ Sent s t [.rackResendReq s.rdn.expect] ∧ t = { s with out := t.out }) ∧
  (∀ (s : State) (r : RackRec) (snap : Bool),
    (s.role = 2 ∨ s.role = 4) → s.chkServed 1 = true → r.gyle ≤ s.gyleSeen → (r.seq < s.rdn.expect ∨ (s.rdn.expect = 0 ∧ r.first = false)) →
    exec (.rackRecordRx r true snap) s = .next s) ∧
  (∀ (s : State) (r : RackRec) (snap : Bool),
    (s.role = 2 ∨ s.role = 4) → s.chkServed 1 = true → (s.rdn.expect = 0 → r.first = true) → (s.rdn.expect ≠ 0 → r.seq = s.rdn.expect) →
    r.seq < 2 ^ 64 → r.commit = true →
    ∃ t, exec (.rackRecordRx r true snap) s = .next t ∧ Out.rackAck r.seq ∈ t.out ∧
      t.pairVal RDN_RACK_SEQ_LO RDN_RACK_SEQ_HI = r.seq) ∧
  (∀ (s : State) (r : RackRec) (snap : Bool),
    s.role = 1 → s.inPair = true → s.chkServed 1 = true → s.gyle < r.gyle → s.gyleSeen < r.gyle → r.gyle < 2 ^ 64 →
    ∃ t, exec (.rackRecordRx r true snap) s = .next t ∧ t.role = 2 ∧ t.rdn.leaseEnd = s.raw ∧ t.gyleSeen = r.gyle ∧
      Raises s t 0x0D06 0 (evArg [(0, 8, r.gyle)])) ∧
  (∀ (s : State) (r : RackRec) (f e : Nat),
    s.role = 2 → s.chkServed 1 = true → r.gyle ≤ s.gyleSeen → s.rdn.expect ≠ 0 → r.seq = s.rdn.expect → r.seq < 2 ^ 64 → r.first = true → r.commit = true →
    r.item = .lastSent f e →
    ∃ t, exec (.rackRecordRx r true false) s = .next t ∧ tget (fun _ => 0) t.rdn.lastSent f = e ∧
      (∀ g, g ≠ f → tget (fun _ => 0) t.rdn.lastSent g = tget (fun _ => 0) s.rdn.lastSent g) ∧ t.rdn.held = [] ∧
      t.rdn.expect = r.seq + 1 ∧ t.rdn.peerRaw = s.raw ∧ t.pairVal RDN_RACK_SEQ_LO RDN_RACK_SEQ_HI = r.seq ∧
      Sent s t [.rackAck r.seq] ∧ t = { s with rdn := t.rdn, regs := t.regs, out := t.out } ∧
      Keeps s t [RDN_RACK_SEQ_LO, RDN_RACK_SEQ_HI, RDN_STAT, RDN_CTRL]) ∧
  (∀ (s : State) (r : RackRec) (u : Nat) (tm : Int) (e : Nat),
    s.role = 2 → s.chkServed 1 = true → r.gyle ≤ s.gyleSeen → s.rdn.expect ≠ 0 → r.seq = s.rdn.expect → r.first = true → r.commit = true →
    r.item = .capture u tm e →
    ∃ t, exec (.rackRecordRx r true false) s = .next t ∧ tget (fun _ => CapRec.zero) t.tb.caps u = ⟨true, tm, e⟩ ∧
      Sent s t [.rackAck r.seq] ∧ t = { s with tb := { s.tb with caps := t.tb.caps }, rdn := t.rdn, regs := t.regs, out := t.out } ∧
      Keeps s t [RDN_RACK_SEQ_LO, RDN_RACK_SEQ_HI, RDN_STAT, RDN_CTRL]) ∧
  (∀ (s : State) (q : Nat),
    s.role = 1 → 0 < q → q < s.rdn.nextSeq → (∃ l r, l ∈ s.rdn.journal ∧ r ∈ l ∧ r.seq = q) →
    ∃ t, exec (.rackResendReqRx q false) s = .next t ∧
      Sent s t ((s.rdn.journal.map (fun l => l.filter (fun r => decide (q ≤ r.seq)))).filter (fun l => !l.isEmpty) |>.map Out.rackSet) ∧
      t = { s with regs := t.regs, out := t.out } ∧ Keeps s t [RDN_CNT_RESEND]) ∧
  (∀ (s : State) (q : Nat) (poison : Bool),
    s.role = 1 → 0 < q → q < s.rdn.nextSeq → (poison = true ∨ ∀ l r, l ∈ s.rdn.journal → r ∈ l → r.seq ≠ q) →
    ∃ t, exec (.rackResendReqRx q poison) s = .next t ∧ t.fld RDN_STAT_DEGRADED ≠ 0 ∧ t.fld RDN_STAT_READY = 0 ∧
      (s.bit RDN_STAT_DEGRADED = false → Raises s t 0x0D03 0 (evArg [(1, 1, 2)])) ∧ t.rdn.snapSeq + 1 = t.rdn.nextSeq ∧
      s.rdn.nextSeq < t.rdn.nextSeq ∧ t.rdn.warmReady = false ∧
      t = { s with rdn := t.rdn, regs := t.regs, out := t.out, evq := t.evq, ctl := t.ctl }) ∧
  (∀ (s : State) (poison : Bool), s.role = 1 →
    ∃ t, exec (.rackResendReqRx 0 poison) s = .next t ∧ t.fld RDN_STAT_READY = 0 ∧ t.rdn.snapSeq + 1 = t.rdn.nextSeq ∧
      s.rdn.nextSeq < t.rdn.nextSeq ∧ t.rdn.warmReady = false ∧ t.rdn.rendReady = [] ∧
      RacksItems s t (if s.flowItems ++ s.sessItems = [] then [.heartbeat] else s.flowItems ++ s.sessItems) ∧
      t = { s with rdn := t.rdn, regs := t.regs, out := t.out } ∧ Keeps s t [RDN_STAT, RDN_RACK_SEQ_LO, RDN_RACK_SEQ_HI]) ∧
  (∀ (s : State) (q : Nat),
    s.role = 1 → q < s.rdn.nextSeq → s.rdn.swapId = none →
    ∃ t, exec (.rackAckRx q) s = .next t ∧ t.rdn.unacked = s.rdn.unacked.filter (fun x => decide (x.1 > q)) ∧
      t.rdn.journal = s.rdn.journal.filter (fun l => l.any (fun r => decide (r.seq > q))) ∧
      (∀ f, 0 < (s.fx f).resv → (s.fx f).resvSeq ≤ q → (t.fx f).resvAck = (s.fx f).resv) ∧
      t = { s with rdn := t.rdn, brg := t.brg, regs := t.regs, evq := t.evq, ctl := t.ctl } ∧
      Keeps s t [RDN_RACK_ACK_LO, RDN_RACK_ACK_HI, RDN_STAT]) ∧
  (∀ (s : State) (q : Nat),
    s.role = 1 → q < s.rdn.nextSeq → s.rdn.swapId = none → s.rdn.warmReady = true → (∀ x, x ∈ s.rdn.unacked → x.1 ≤ q) →
    s.rendsReady = true → s.bit RDN_STAT_DEGRADED = true →
    ∃ t, exec (.rackAckRx q) s = .next t ∧ t.fld RDN_STAT_READY = 1 ∧ t.fld RDN_STAT_DEGRADED = 0 ∧
      Raises s t 0x0D03 0 (evArg [(0, 1, 1)])) ∧
  (∀ (s : State) (q i : Nat),
    s.role = 1 → q < s.rdn.nextSeq → s.rdn.swapId = some i → s.rdn.handSeq ≠ 0 → s.rdn.handSeq ≤ q →
    ∃ t, exec (.rackAckRx q) s = .next t ∧ t.role = 2 ∧ t.rdn.swapId = none ∧ t.fld RDN_CTRL_SWAP = 0 ∧ t.fld RDN_STAT_DAYS = 0 ∧
      t.fld RDN_STAT_READY = 0 ∧ t.rdn.leaseEnd = s.raw ∧
      Sent s t [.lease 4 false (s.fld YZ_CFG_ADDR) s.rdn.lseq s.gyle (s.fld RDN_CFG2_LEASE_MS * 1000)] ∧
      Raises s t 0x0D01 0 (evArg [(0, 1, 2), (1, 1, 1), (4, 8, s.gyle)])) ∧
  (∀ (s : State),
    s.role = 1 → s.raw - s.rdn.sinceSent ≥ 250 * usU → s.rdn.nextSeq < 2 ^ 64 →
    ∃ t, exec .rackHeartbeatSend s = .next t ∧ Sent s t [.rackSet [⟨s.rdn.nextSeq, true, true, s.gyle, .heartbeat⟩]] ∧
      t.rdn.nextSeq = s.rdn.nextSeq + 1 ∧ t.rdn.unacked = s.rdn.unacked ++ [(s.rdn.nextSeq, s.raw)] ∧ t.rdn.sinceSent = s.raw ∧
      t.pairVal RDN_RACK_SEQ_LO RDN_RACK_SEQ_HI = s.rdn.nextSeq ∧ t = { s with rdn := t.rdn, regs := t.regs, out := t.out } ∧
      Keeps s t [RDN_RACK_SEQ_LO, RDN_RACK_SEQ_HI]) ∧
  (∀ (s : State),
    s.role = 1 → s.raw - s.rdn.lsRaw ≥ msU → s.rdn.swapId = none →
    ∃ t, exec .lastSentRack s = .next t ∧
      RacksItems s t (s.rdn.lastSent.map (fun x => RackItem.lastSent x.1 x.2) ++
        (if s.raw / (100 * msU) = s.rdn.lsRaw / (100 * msU) then [] else s.flowItems)) ∧ t.rdn.lsRaw = s.raw ∧
      t = { s with rdn := t.rdn, regs := t.regs, out := t.out } ∧ Keeps s t [RDN_RACK_SEQ_LO, RDN_RACK_SEQ_HI]) ∧
  (∀ (s : State) (q r : Nat),
    s.role = 1 → (q, r) ∈ s.rdn.unacked → s.raw - r > s.fld RDN_CFG2_DEAD * 100 * usU → s.bit RDN_STAT_DEGRADED = false →
    ∃ t, exec .degradedEnter s = .next t ∧ t.fld RDN_STAT_DEGRADED = 1 ∧ t.fld RDN_STAT_READY = 0 ∧
      Raises s t 0x0D03 0 (evArg [(1, 1, if s.peerLinkDown then 3 else 1)]) ∧ t = { s with regs := t.regs, evq := t.evq, ctl := t.ctl } ∧
      Keeps s t [RDN_STAT]) ∧
  (∀ (s : State) (p : Port), Taken s p RDN_CTRL 2 → s.role = 2 →
    ∃ t, exec (.resyncCmd p) s = .next t ∧ Succeeded t ∧ t.fld RDN_CTRL_RESYNC = 1 ∧ t.fld RDN_STAT_READY = 0 ∧
      t.rdn.warmReady = false ∧ t.rdn.expect = 0 ∧ t.rdn.held = [] ∧ Sent s t [.rackResendReq 0] ∧
      (s.rdn.warmReady = true → Raises s t 0x0D05 0xFF (evArg [(0, 1, 0xFF)])) ∧
      t = { s with rdn := t.rdn, regs := t.regs, out := t.out, evq := t.evq, ctl := t.ctl } ∧ Keeps s t [RDN_CTRL, RDN_STAT]) ∧
  (∀ (s : State) (p : Port), Taken s p RDN_CTRL 2 → s.role ≠ 2 →
    ∃ t, exec (.resyncCmd p) s = .next t ∧ Succeeded t ∧ t = { s with ctl := t.ctl }) ∧
  (∀ (s : State) (p : Port),
    Taken s p RDN_CTRL 1 → s.role = 1 → s.bit RDN_STAT_READY = true → s.rdn.swapId = none →
    ∃ t, exec (.swapCmd p) s = .next t ∧ Succeeded t ∧ t.fld RDN_CTRL_SWAP = 1 ∧ t.rdn.swapId = some (s.rdn.nextSeq % 2 ^ 32) ∧
      (s.slotBusy = true → t.out = s.out ∧ t.rdn.handSeq = 0) ∧
      (s.slotBusy = false → t.rdn.handSeq + 1 = t.rdn.nextSeq ∧
        RacksItems s t (s.rdn.lastSent.map (fun x => RackItem.lastSent x.1 x.2) ++ [.handover (s.rdn.nextSeq % 2 ^ 32)])) ∧ t.role = 1 ∧
      t = { s with rdn := t.rdn, regs := t.regs, out := t.out, ctl := t.ctl } ∧
      Keeps s t [RDN_CTRL, RDN_RACK_SEQ_LO, RDN_RACK_SEQ_HI]) ∧
  (∀ (s : State) (p : Port),
    Taken s p RDN_CTRL 1 → (s.role ≠ 1 ∨ s.bit RDN_STAT_READY = false ∨ s.rdn.swapId ≠ none) →
    ∃ t, exec (.swapCmd p) s = .next t ∧ Succeeded t ∧ t = { s with ctl := t.ctl }) ∧
  (∀ (s : State), s.inPair = true → s.raw - s.rdn.dayRaw ≥ 86400 * secU →
    ∃ t, exec .swapDaysTick s = .next t ∧ t.fld RDN_STAT_DAYS = min (s.fld RDN_STAT_DAYS + 1) 65535 ∧
      t.rdn = { s.rdn with dayRaw := s.rdn.dayRaw + 86400 * secU } ∧
      (s.fld RDN_CFG3_SWAP_DAYS ≤ s.fld RDN_STAT_DAYS → Raises s t 0x0D08 0 (evArg [(0, 2, min (s.fld RDN_STAT_DAYS + 1) 65535)])) ∧
      t = { s with rdn := t.rdn, regs := t.regs, evq := t.evq, ctl := t.ctl } ∧ Keeps s t [RDN_STAT])

/-- A STANDBY whose peer is silent for DEAD, whose ACTIVE asks for it, or whose arbiter revokes the lease claims: it writes the highest gyle
seen plus 1 to the cask and to its register, is CLAIMING, and asks the arbiter (R436, R438); a device that has seen the last gyle raises 0x0D07
instead (R436). A grant makes a claimant ACTIVE until the request's instant plus the duration, with event 0x0D02 (R434, R439), or, when that is
over, makes it ask again; it extends an ACTIVE's lease and a shadow lease; one that names a higher gyle stops an ACTIVE that did not ask for it
(R437). A denial returns the claimant to STANDBY, and a revocation ends an ACTIVE's lease (R438). A message whose CRC or alive count fails, or
that no check-value unit checks, is counted and does nothing (R406). The holder renews at its interval, and a STANDBY of twin-both mode its
shadow lease (R434); a lease that runs out stops egress with event 0x0D09 (R437). A REFEREE grants only a higher gyle and only when no grant is
valid; a higher claim waits; other requests are denied; a release ends the grant (R435). A host arbiter's reply acts on the pending request
alone. At start-up a member that hears nothing for DEAD claims when it is preferred, or after 2 · LEASE_MS, and one that hears its peer is
STANDBY (R547). That a higher claim waits for the end of the grant, that a claimant whose lease has run out asks again, and that a claim without
an answer ends after LEASE_MS, are the model's reading (assumption log). -/
def Obligations.TwinLease : Prop :=
  (∀ (s : State),
    s.role = 2 → s.inPair = true → s.raw - s.rdn.peerRaw ≥ s.fld RDN_CFG2_DEAD * 100 * usU →
    (s.rdn.claimRaw ≤ s.rdn.peerRaw ∨ s.fld RDN_CFG2_LEASE_MS * msU ≤ s.raw - s.rdn.claimRaw) → s.MayClaim →
    ∃ t, exec .peerSilent s = .next t ∧ Claims s t 1) ∧
  (∀ (s : State),
    s.role = 2 → s.inPair = true → s.raw - s.rdn.peerRaw ≥ s.fld RDN_CFG2_DEAD * 100 * usU →
    (s.rdn.claimRaw ≤ s.rdn.peerRaw ∨ s.fld RDN_CFG2_LEASE_MS * msU ≤ s.raw - s.rdn.claimRaw) →
    (s.cask.identBad = true ∨ s.gyleSeen = 2 ^ 64 - 1) →
    ∃ t, exec .peerSilent s = .next t ∧ t.role = 2 ∧ t.cask = s.cask ∧ t.out = s.out ∧ Raises s t 0x0D07 0 0) ∧
  (∀ (s : State) (pair : Fin 256) (who : Fin 4096) (shadow : Bool) (lseq gyle dur : Nat),
    s.chkServed (vcFunc 0) = true → s.role = 3 → (s.arb pair shadow).endRaw ≤ s.raw → (s.arb pair shadow).gyle < gyle →
    ∃ t, exec (.leaseRequestRx true pair who shadow lseq gyle dur) s = .next t ∧ Sent s t [.lease 2 shadow who lseq gyle dur] ∧
      t.arb pair shadow = ⟨who, gyle, s.raw + dur * usU + s.fld RDN_CFG3_GUARD_US * 10 * usU, none⟩ ∧
      (∀ k, k ≠ 2 * pair.val + b2n shadow → tget (fun _ => ArbPair.zero) t.rdn.arb k = tget (fun _ => ArbPair.zero) s.rdn.arb k) ∧
      t = { s with rdn := { s.rdn with arb := t.rdn.arb }, out := t.out }) ∧
  (∀ (s : State) (pair : Fin 256) (who : Fin 4096) (shadow : Bool) (lseq gyle dur : Nat),
    s.chkServed (vcFunc 0) = true → s.role = 3 → s.raw < (s.arb pair shadow).endRaw → (s.arb pair shadow).gyle < gyle →
    (∀ w q g d, (s.arb pair shadow).waiting = some (w, q, g, d) → g < gyle ∨ who.val = w) →
    ∃ t, exec (.leaseRequestRx true pair who shadow lseq gyle dur) s = .next t ∧
      t.arb pair shadow = { s.arb pair shadow with waiting := some (who.val, lseq, gyle, dur) } ∧
      ((s.arb pair shadow).waiting = none → t.out = s.out) ∧
      (∀ w q g d, (s.arb pair shadow).waiting = some (w, q, g, d) → who.val ≠ w →
        Sent s t [.lease 3 shadow w q (s.arb pair shadow).gyle d]) ∧
      t = { s with rdn := { s.rdn with arb := t.rdn.arb }, out := t.out }) ∧
  (∀ (s : State) (pair : Fin 256) (who : Fin 4096) (shadow : Bool) (lseq gyle dur : Nat),
    s.chkServed (vcFunc 0) = true → s.role = 3 → s.raw < (s.arb pair shadow).endRaw → who.val = (s.arb pair shadow).holder →
    gyle = (s.arb pair shadow).gyle →
    ∃ t, exec (.leaseRequestRx true pair who shadow lseq gyle dur) s = .next t ∧
      ((s.arb pair shadow).waiting = none → Sent s t [.lease 2 shadow who lseq gyle dur] ∧
        t.arb pair shadow = ⟨who, gyle, s.raw + dur * usU + s.fld RDN_CFG3_GUARD_US * 10 * usU, none⟩) ∧
      ((s.arb pair shadow).waiting ≠ none → Sent s t [.lease 3 shadow who lseq gyle dur] ∧ t.rdn = s.rdn) ∧
      t = { s with rdn := { s.rdn with arb := t.rdn.arb }, out := t.out }) ∧
  (∀ (s : State) (pair : Fin 256) (who : Fin 4096) (shadow : Bool) (lseq gyle dur : Nat),
    s.chkServed (vcFunc 0) = true → s.role = 3 →
    ((gyle ≤ (s.arb pair shadow).gyle ∧
        (gyle < (s.arb pair shadow).gyle ∨ who.val ≠ (s.arb pair shadow).holder ∨ (s.arb pair shadow).endRaw ≤ s.raw)) ∨
      (s.raw < (s.arb pair shadow).endRaw ∧ (s.arb pair shadow).gyle < gyle ∧
        ∃ w q g d, (s.arb pair shadow).waiting = some (w, q, g, d) ∧ gyle ≤ g ∧ who.val ≠ w)) →
    ∃ t, exec (.leaseRequestRx true pair who shadow lseq gyle dur) s = .next t ∧
      Sent s t [.lease 3 shadow who lseq (s.arb pair shadow).gyle dur] ∧ t = { s with out := t.out }) ∧
  (∀ (s : State) (pair : Fin 256) (shadow : Bool) (w q g d : Nat),
    s.role = 3 → (s.arb pair shadow).endRaw ≤ s.raw → (s.arb pair shadow).waiting = some (w, q, g, d) →
    ∃ t, exec (.arbiterLeaseEnd pair shadow) s = .next t ∧ Sent s t [.lease 2 shadow w q g d] ∧
      t.arb pair shadow = ⟨w, g, s.raw + d * usU + s.fld RDN_CFG3_GUARD_US * 10 * usU, none⟩ ∧
      t = { s with rdn := { s.rdn with arb := t.rdn.arb }, out := t.out }) ∧
  (∀ (s : State) (pair : Fin 256) (shadow req : Bool),
    s.chkServed (vcFunc 0) = true → s.role = 3 →
    ∃ t, exec (.leaseReleaseRx true pair shadow req) s = .next t ∧
      ((s.arb pair shadow).waiting = none → t.out = s.out ∧
        t.arb pair shadow = { s.arb pair shadow with endRaw := min (s.arb pair shadow).endRaw s.raw }) ∧
      (∀ w q g d, (s.arb pair shadow).waiting = some (w, q, g, d) → Sent s t [.lease 2 shadow w q g d] ∧
        t.arb pair shadow = ⟨w, g, s.raw + d * usU + s.fld RDN_CFG3_GUARD_US * 10 * usU, none⟩) ∧
      t = { s with rdn := { s.rdn with arb := t.rdn.arb }, out := t.out }) ∧
  (∀ (s : State) (pair : Fin 256) (shadow req : Bool),
    s.chkServed (vcFunc 0) = true → s.role = 2 → s.inPair = true → s.MayClaim →
    ∃ t, exec (.leaseReleaseRx true pair shadow req) s = .next t ∧
      Claims s t (if req then 2 else if s.rdn.swapId.isSome then 3 else 4)) ∧
  (∀ (s : State) (who : Fin 4096) (lseq gyle dur : Nat) (r : LeaseReq),
    s.chkServed (vcFunc 0) = true → s.role = 4 → s.leaseReq who lseq = some r → r.shadow = false → gyle < 2 ^ 64 →
    s.raw < r.raw + dur * usU → s.atStep 9 = false →
    ∃ t, exec (.leaseGrantRx true who false lseq gyle dur) s = .next t ∧ t.role = 1 ∧ t.rdn.leaseEnd = r.raw + dur * usU ∧
      t.rdn.egressStop = false ∧ t.gyleSeen = max s.gyleSeen gyle ∧ t.brg.intraNext = s.liveRecs 4 ∧
      t.fld RDN_CNT_TAKEOVER_COUNT = min (s.fld RDN_CNT_TAKEOVER_COUNT + 1) (2 ^ 32 - 1) ∧ t.aud.takeover = true ∧
      (s.rdn.kept = [] → s.rdn.held = [] → s.rdn.forceRap = false → s.liveRecs 0 = [] → s.liveRecs 1 = [] →
        t.out = s.out ∧ t.brg = { s.brg with intraNext := s.liveRecs 4 }) ∧
      Raises s t 0x0D02 0 (evArg [(0, 1, s.rdn.cause), (4, 4, (s.raw - s.rdn.causeRaw) / usU)])) ∧
  (∀ (s : State) (who : Fin 4096) (lseq gyle dur : Nat) (r : LeaseReq),
    s.chkServed (vcFunc 0) = true → s.role = 4 → s.leaseReq who lseq = some r → r.shadow = false → gyle ≤ s.gyleSeen →
    r.raw + dur * usU ≤ s.raw →
    ∃ t, exec (.leaseGrantRx true who false lseq gyle dur) s = .next t ∧ t.role = 4 ∧ Asks s t false s.gyle ∧
      t = { s with rdn := t.rdn, regs := t.regs, out := t.out } ∧ Keeps s t [RDN_HG_REQ, RDN_HG_REQ_GYLE_LO, RDN_HG_REQ_GYLE_HI]) ∧
  (∀ (s : State) (who : Fin 4096) (lseq gyle dur : Nat) (r : LeaseReq),
    s.chkServed (vcFunc 0) = true → s.role = 1 → s.leaseReq who lseq = some r → r.shadow = false → gyle ≤ s.gyleSeen →
    exec (.leaseGrantRx true who false lseq gyle dur) s = .next { s with
      rdn := { s.rdn with
        reqs := s.rdn.reqs.filter (fun x => decide (x.lseq > lseq)), leaseEnd := max s.rdn.leaseEnd (r.raw + dur * usU), egressStop := false } }) ∧
  (∀ (s : State) (who : Fin 4096) (lseq gyle dur : Nat) (r : LeaseReq),
    s.chkServed (vcFunc 0) = true → s.leaseReq who lseq = some r → r.shadow = true → gyle ≤ s.gyleSeen →
    exec (.leaseGrantRx true who true lseq gyle dur) s = .next { s with
      rdn := { s.rdn with reqs := s.rdn.reqs.filter (fun x => decide (x.lseq > lseq)), shadowEnd := r.raw + dur * usU } }) ∧
  (∀ (s : State) (who : Fin 4096) (shadow : Bool) (lseq gyle dur : Nat),
    s.chkServed (vcFunc 0) = true → s.role = 1 → who.val ≠ s.fld YZ_CFG_ADDR → s.gyle < gyle → s.gyleSeen < gyle → gyle < 2 ^ 64 →
    ∃ t, exec (.leaseGrantRx true who shadow lseq gyle dur) s = .next t ∧ t.role = 2 ∧ t.rdn.leaseEnd = s.raw ∧
      t.fld RDN_STAT_READY = 0 ∧ t.gyleSeen = gyle ∧ t.cask.gyleSeen = max s.cask.gyleSeen gyle ∧
      t.fld RDN_CNT_GYLE_STOP_COUNT = min (s.fld RDN_CNT_GYLE_STOP_COUNT + 1) (2 ^ 32 - 1) ∧
      Raises s t 0x0D06 0 (evArg [(0, 8, gyle)])) ∧
  (∀ (s : State) (who : Fin 4096) (lseq gyle : Nat) (r : LeaseReq),
    s.chkServed (vcFunc 0) = true → s.role = 4 → s.leaseReq who lseq = some r → r.shadow = false → gyle < 2 ^ 64 → s.atStep 9 = false →
    ∃ t, exec (.leaseDenyRx true who lseq gyle) s = .next t ∧ t.role = 2 ∧ t.rdn.expect = 0 ∧ t.rdn.held = [] ∧
      t.gyleSeen = max s.gyleSeen gyle ∧ Sent s t [.rackResendReq 0] ∧ Raises s t 0x0D02 0 0 ∧
      t = { s with rdn := t.rdn, cask := { s.cask with gyleSeen := t.cask.gyleSeen }, regs := t.regs, out := t.out, evq := t.evq, ctl := t.ctl } ∧
      Keeps s t [RDN_STAT, RDN_GYLE_SEEN_LO, RDN_GYLE_SEEN_HI]) ∧
  (∀ (s : State) (gyle : Nat), s.chkServed (vcFunc 0) = true → s.role = 1 → gyle < 2 ^ 64 →
    ∃ t, exec (.leaseRevokeRx true gyle) s = .next t ∧ t.rdn = { s.rdn with leaseEnd := s.raw } ∧ t.gyleSeen = max s.gyleSeen gyle ∧
      t = { s with rdn := t.rdn, cask := { s.cask with gyleSeen := t.cask.gyleSeen }, regs := t.regs } ∧
      Keeps s t [RDN_GYLE_SEEN_LO, RDN_GYLE_SEEN_HI]) ∧
  (∀ (s : State) (gyle : Nat), s.chkServed (vcFunc 0) = true → s.role = 2 → gyle ≤ s.gyleSeen → s.MayClaim →
    ∃ t, exec (.leaseRevokeRx true gyle) s = .next t ∧ Claims s t 4) ∧
  (∀ (s : State) (sound : Bool) (pair : Fin 256) (who : Fin 4096) (shadow req : Bool) (lseq gyle dur : Nat),
    (sound = false ∨ s.chkServed (vcFunc 0) = false) →
    ∃ t, exec (.leaseRequestRx sound pair who shadow lseq gyle dur) s = .next t ∧ exec (.leaseGrantRx sound who shadow lseq gyle dur) s = .next t ∧
      exec (.leaseDenyRx sound who lseq gyle) s = .next t ∧ exec (.leaseReleaseRx sound pair shadow req) s = .next t ∧
      exec (.leaseRevokeRx sound gyle) s = .next t ∧
      t.fld YZ_CNT_MSG_CHK_COUNT = min (s.fld YZ_CNT_MSG_CHK_COUNT + 1) (2 ^ YZ_CNT_MSG_CHK_COUNT.width - 1) ∧
      t = { s with regs := t.regs } ∧ Keeps s t [YZ_CNT_MSG_CHK]) ∧
  (∀ (s : State) (shadow : Bool),
    (s.role = 1 ∧ shadow = false ∨ s.role = 2 ∧ s.bit RDN_CFG_MEDIA = true ∧ shadow = true) → s.safe.forced = false → s.inPair = true →
    s.raw - s.rdn.renewRaw ≥ s.fld RDN_CFG2_RENEW * 100 * usU →
    ∃ t, exec .leaseRenew s = .next t ∧ Asks s t shadow s.gyle ∧
      t.rdn = { s.rdn with
        lseq := s.rdn.lseq + 1, reqs := s.rdn.reqs ++ [⟨s.rdn.lseq + 1, s.raw, shadow, true⟩], renewRaw := s.raw } ∧
      t = { s with rdn := t.rdn, out := t.out, regs := t.regs } ∧ Keeps s t [RDN_HG_REQ, RDN_HG_REQ_GYLE_LO, RDN_HG_REQ_GYLE_HI]) ∧
  (∀ (s : State), s.role = 1 → s.rdn.egressStop = false → s.rdn.leaseEnd ≤ s.raw →
    ∃ t, exec .leaseExpire s = .next t ∧ t.rdn = { s.rdn with egressStop := true } ∧
      t.fld RDN_CNT_GYLE_STOP_COUNT = min (s.fld RDN_CNT_GYLE_STOP_COUNT + 1) (2 ^ 32 - 1) ∧
      Raises s t 0x0D09 0 (evArg [(0, 4, (s.raw - s.rdn.leaseEnd) / usU)]) ∧
      t = { s with rdn := t.rdn, regs := t.regs, evq := t.evq, ctl := t.ctl } ∧ Keeps s t [RDN_CNT_GYLE_STOP]) ∧
  (∀ (s : State), s.role = 4 → s.raw - s.rdn.claimRaw ≥ s.fld RDN_CFG2_LEASE_MS * msU → s.atStep 9 = false →
    ∃ t, exec .leaseClaimTimeout s = .next t ∧ t.role = 2 ∧ Sent s t [.rackResendReq 0] ∧
      Raises s t 0x0D01 0 (evArg [(0, 1, 2), (1, 1, 4), (4, 8, s.gyle)]) ∧
      t = { s with rdn := t.rdn, regs := t.regs, out := t.out, evq := t.evq, ctl := t.ctl } ∧ Keeps s t [RDN_STAT]) ∧
  (∀ (s : State),
    s.role = 2 → s.inPair = true → s.raw - s.rdn.claimRaw ≥ s.fld RDN_CFG2_LEASE_MS * msU →
    s.raw - s.rdn.peerRaw ≥ s.fld RDN_CFG2_DEAD * 100 * usU → s.MayClaim →
    ∃ t, exec .leaseClaimTimeout s = .next t ∧ Claims s t 1) ∧
  (∀ (s : State) (p : Port) (dur : Fin 32) (q : Fin 65536) (r : LeaseReq),
    Taken s p RDN_HG_CMD (BitVec.ofNat 32 (2 * 2 ^ 28 + dur.val * 2 ^ 23 + q.val)) → s.role = 1 → s.gyle ≤ s.gyleSeen →
    nbit (s.fld RDN_HG_REQ_VALUE) 31 = true → s.fld RDN_HG_REQ_VALUE % 65536 = q.val →
    s.rdn.reqs.find? (fun x => x.lseq % 65536 == q.val) = some r → r.shadow = false →
    ∃ t, exec (.hgGrant p dur q) s = .next t ∧ Succeeded t ∧ t.rdn.leaseEnd = max s.rdn.leaseEnd (r.raw + dur.val * 1000 * usU) ∧
      nbit (t.fld RDN_HG_REQ_VALUE) 31 = false ∧ t.rdn.reqs = s.rdn.reqs.filter (fun x => decide (x.lseq > r.lseq)) ∧
      t = { s with rdn := t.rdn, regs := t.regs, ctl := t.ctl } ∧ Keeps s t [RDN_HG_REQ]) ∧
  (∀ (s : State) (p : Port) (dur : Fin 32) (q : Fin 65536) (r : LeaseReq),
    Taken s p RDN_HG_CMD (BitVec.ofNat 32 (2 * 2 ^ 28 + dur.val * 2 ^ 23 + q.val)) → s.role = 4 → s.atStep 9 = false →
    nbit (s.fld RDN_HG_REQ_VALUE) 31 = true → s.fld RDN_HG_REQ_VALUE % 65536 = q.val →
    s.rdn.reqs.find? (fun x => x.lseq % 65536 == q.val) = some r → r.shadow = false → s.raw < r.raw + dur.val * 1000 * usU →
    ∃ t, exec (.hgGrant p dur q) s = .next t ∧ t.role = 1 ∧ t.rdn.leaseEnd = r.raw + dur.val * 1000 * usU ∧
      Raises s t 0x0D02 0 (evArg [(0, 1, s.rdn.cause), (4, 4, (s.raw - s.rdn.causeRaw) / usU)])) ∧
  (∀ (s : State) (p : Port) (dur : Fin 32) (q : Fin 65536),
    Taken s p RDN_HG_CMD (BitVec.ofNat 32 (2 * 2 ^ 28 + dur.val * 2 ^ 23 + q.val)) →
    (nbit (s.fld RDN_HG_REQ_VALUE) 31 = false ∨ s.fld RDN_HG_REQ_VALUE % 65536 ≠ q.val) →
    ∃ t, exec (.hgGrant p dur q) s = .next t ∧ Succeeded t ∧ t = { s with ctl := t.ctl }) ∧
  (∀ (s : State) (p : Port) (q : Fin 65536) (r : LeaseReq),
    Taken s p RDN_HG_CMD (BitVec.ofNat 32 (3 * 2 ^ 28 + q.val)) → s.role = 4 → s.atStep 9 = false →
    nbit (s.fld RDN_HG_REQ_VALUE) 31 = true → s.fld RDN_HG_REQ_VALUE % 65536 = q.val →
    s.rdn.reqs.find? (fun x => x.lseq % 65536 == q.val) = some r → r.shadow = false →
    ∃ t, exec (.hgDeny p q) s = .next t ∧ Succeeded t ∧ t.role = 2 ∧ nbit (t.fld RDN_HG_REQ_VALUE) 31 = false ∧
      Sent s t [.rackResendReq 0] ∧ Raises s t 0x0D02 0 0) ∧
  (∀ (s : State) (p : Port) (q : Fin 65536),
    Taken s p RDN_HG_CMD (BitVec.ofNat 32 (3 * 2 ^ 28 + q.val)) →
    (nbit (s.fld RDN_HG_REQ_VALUE) 31 = false ∨ s.fld RDN_HG_REQ_VALUE % 65536 ≠ q.val) →
    ∃ t, exec (.hgDeny p q) s = .next t ∧ Succeeded t ∧ t = { s with ctl := t.ctl }) ∧
  (∀ (s : State) (p : Port) (q : Fin 65536), Taken s p RDN_HG_CMD (BitVec.ofNat 32 (5 * 2 ^ 28 + q.val)) → s.role = 1 →
    ∃ t, exec (.hgRevoke p q) s = .next t ∧ Succeeded t ∧ t.rdn = { s.rdn with leaseEnd := s.raw } ∧ t.regs = s.regs ∧
      t = { s with rdn := t.rdn, ctl := t.ctl }) ∧
  (∀ (s : State) (p : Port) (q : Fin 65536),
    Taken s p RDN_HG_CMD (BitVec.ofNat 32 (5 * 2 ^ 28 + q.val)) → s.role = 2 → s.MayClaim →
    ∃ t, exec (.hgRevoke p q) s = .next t ∧ t.role = 4 ∧ t.gyle = s.claimGyle % 2 ^ 64 ∧ t.rdn.cause = 4 ∧
      t.rdn.reqs = s.rdn.reqs ++ [⟨s.rdn.lseq + 1, s.raw, false, false⟩]) ∧
  (∀ (s : State),
    s.atStep 9 = true → s.inPair = true → s.role ≠ 2 → s.role ≠ 4 → s.raw - s.rdn.listenRaw ≥ s.fld RDN_CFG2_DEAD * 100 * usU →
    s.rdn.peerRaw ≤ s.rdn.listenRaw → (s.bit RDN_CFG_PREFER = true ∨
      s.fld RDN_CFG2_DEAD * 100 * usU + 2 * (s.fld RDN_CFG2_LEASE_MS * msU) ≤ s.raw - s.rdn.listenRaw) → s.MayClaim →
    ∃ t, exec .roleListenEnd s = .next t ∧ t.role = 4 ∧ t.gyle = s.claimGyle % 2 ^ 64 ∧ t.cask.gyle = s.claimGyle ∧
      Asks s t false (s.claimGyle % 2 ^ 64) ∧ t.atStep 9 = true) ∧
  (∀ (s : State),
    s.atStep 9 = true → s.inPair = true → s.role ≠ 2 → s.role ≠ 4 → s.raw - s.rdn.listenRaw ≥ s.fld RDN_CFG2_DEAD * 100 * usU →
    s.rdn.listenRaw < s.rdn.peerRaw →
    ∃ t, exec .roleListenEnd s = .next t ∧ t.role = 2 ∧ Out.rackResendReq 0 ∈ t.out ∧ t.atStep 9 = false)

/-- A double-bit error of an SRAM fences the engine that owns it; a clean context-cache line is fetched again, a dirty one loses its flow, with
event 0x1703, and one that is not resident nothing (R450). A fabric flit that fails parity is sent again and counted; one that fails twice, or
the seventeenth of a link in 1 ms, puts the device in SAFE mode; at an engine's own port the engine is fenced (R453). A control-fabric parity
error makes the access fail, with the HCP's error register recording an access of the HCP (R453). SAFE mode is entered on a lockstep mismatch of
a pair while the other is left, a failed forwarding test slot, an error in the image copy and the SAFE command, each with its class and cause,
and a device in SAFE mode stays as it is; with no pair left only the safe states are forced (R449, R460, R461). Each class with corrected errors
gets one hourly record with ACTION 6 (R464). -/
def Obligations.SafeModeAndFaults : Prop :=
  (∀ (s : State) (o : MemOwner), s.ownerFenced o = false →
    ∃ t, exec (.sramUncorrectable o) s = .next t ∧ FencedBy t o 2) ∧
  (∀ (s : State) (u : Fin 12), s.bit (CHK_UNIT_STAT_FENCED u) = false → s.chkFuncs u = [] →
    ∃ t, exec (.sramUncorrectable (.chkUnit u)) s = .next t ∧
      (Raises s t 0x0701 u (evArg [(0, 1, 2), (1, 1, 0xFF), (2, 1, u.val)])) ∧
      (tget (fun _ => Lim.zero) s.safe.suppress (limKey 1 u) = Lim.zero →
        (t.cask.record s.cask.logSeq).code = 0x0701 ∧ (t.cask.record s.cask.logSeq).cls = 1 ∧ (t.cask.record s.cask.logSeq).action = 1) ∧
      t = { s with regs := t.regs, cask := t.cask, safe := t.safe, evq := t.evq, ctl := t.ctl } ∧ Keeps s t [CHK_UNIT_STAT u]) ∧
  (∀ (s : State) (f : Fin 2097152), (s.fx f).resident = false → exec (.sramUncorrectable (.ctxLine f)) s = .next s) ∧
  (∀ (s : State) (f : Fin 2097152), (s.fx f).resident = true → (s.fx f).dirty = true →
    ∃ t, exec (.sramUncorrectable (.ctxLine f)) s = .next t ∧ (t.fx f).resident = false ∧ (t.fx f).dirty = false ∧
      (s.recValid 0 f = true → t.recState 0 f = 3) ∧ Raises s t 0x1703 (s.ff f 8 2) (evArg [(4, 4, f)]) ∧
      (tget (fun _ => Lim.zero) s.safe.suppress (limKey 1 (s.ff f 8 2)) = Lim.zero →
        (t.cask.record s.cask.logSeq).cls = 1 ∧ (t.cask.record s.cask.logSeq).action = 0) ∧
      (∀ g, g ≠ f.val → t.fx g = s.fx g) ∧
      t = { s with brg := t.brg, regs := t.regs, cask := t.cask, safe := t.safe, evq := t.evq, ctl := t.ctl }) ∧
  (∀ (s : State) (f : Fin 2097152), (s.fx f).resident = true → (s.fx f).dirty = false → s.brg.fetches.contains f.val = false →
    ∃ t, exec (.sramUncorrectable (.ctxLine f)) s = .next t ∧ (t.fx f).resident = false ∧ t.brg.fetches = s.brg.fetches ++ [f.val] ∧
      (tget (fun _ => Lim.zero) s.safe.suppress (limKey 1 (s.ff f 8 2)) = Lim.zero →
        (t.cask.record s.cask.logSeq).cls = 1 ∧ (t.cask.record s.cask.logSeq).action = 2) ∧
      (∀ g, g ≠ f.val → t.fx g = s.fx g) ∧
      t = { s with brg := { s.brg with fx := t.brg.fx, fetches := t.brg.fetches }, cask := t.cask, safe := t.safe }) ∧
  (∀ (s : State), ∃ t, exec (.sramUncorrectable .fwdBuffer) s = .next t ∧
      (tget (fun _ => Lim.zero) s.safe.suppress (limKey 1 0) = Lim.zero →
        (t.cask.record s.cask.logSeq).cls = 1 ∧ (t.cask.record s.cask.logSeq).action = 0) ∧
      t = { s with cask := t.cask, safe := { s.safe with suppress := t.safe.suppress } }) ∧
  (∀ (s : State) (link : Fin 1024) (plane : Fin 2), s.safe.mode = false →
    ∃ t, exec (.fabricParityError link plane true none) s = .next t ∧ SafeEntered s t 3 3 0xFF) ∧
  (∀ (s : State) (link : Fin 1024) (plane : Fin 2),
    ((tget (fun _ => []) s.safe.linkWin link).filter (fun r => decide (s.raw < r + msU))).length < 16 →
    tget (fun _ => Lim.zero) s.lims (limKey 4 plane) = Lim.zero →
    ∃ t, exec (.fabricParityError link plane false none) s = .next t ∧ Raises s t 0x0004 plane (evArg [(0, 4, 1)]) ∧
      s.raw ∈ tget (fun _ => []) t.safe.linkWin link ∧ t.safe.mode = s.safe.mode ∧
      (tget (fun _ => Lim.zero) s.safe.suppress (limKey 3 plane) = Lim.zero →
        (t.cask.record s.cask.logSeq).code = 4 ∧ (t.cask.record s.cask.logSeq).cls = 3 ∧ (t.cask.record s.cask.logSeq).action = 2) ∧
      t = { s with
        safe := { s.safe with linkWin := t.safe.linkWin, suppress := t.safe.suppress }, cask := t.cask, lims := t.lims, regs := t.regs, evq := t.evq, ctl := t.ctl } ∧
      Keeps s t []) ∧
  (∀ (s : State) (link : Fin 1024) (plane : Fin 2),
    16 ≤ ((tget (fun _ => []) s.safe.linkWin link).filter (fun r => decide (s.raw < r + msU))).length → s.safe.mode = false →
    ∃ t, exec (.fabricParityError link plane false none) s = .next t ∧ SafeEntered s t 3 3 0xFF) ∧
  (∀ (s : State) (link : Fin 1024) (plane : Fin 2), s.safe.mode = true →
    ∃ t, exec (.fabricParityError link plane true none) s = .next t ∧ t = { s with safe := { s.safe with linkWin := t.safe.linkWin } }) ∧
  (∀ (s : State) (link : Fin 1024) (plane : Fin 2) (again : Bool) (o : MemOwner), s.ownerFenced o = false →
    ∃ t, exec (.fabricParityError link plane again (some o)) s = .next t ∧ FencedBy t o (portCause o) ∧ t.safe.mode = s.safe.mode) ∧
  (∀ (s : State) (p : Port) (a : Nat) (wr : Bool),
    ∃ t, exec (.controlParityError p a false wr) s = .next t ∧ t.ctl.failed = true ∧ t.ctl.rdData = 0 ∧ t.ctl.status = 5 ∧
      (p = .hcp → t.fld SYS_HCP_ERR_ADDR_VALID = 1 ∧ t.fld SYS_HCP_ERR_ADDR_WRITE = b2n wr ∧
        t.fld SYS_HCP_ERR_ADDR_ADDR = a / 4 % 2 ^ 20) ∧
      (tget (fun _ => Lim.zero) s.lims (limKey 3 p.errInst) = Lim.zero →
        Raises s t 0x0003 p.errInst (evArg [(0, 4, 1)] + evArg [(4, 4, a)])) ∧
      t = { s with regs := t.regs, lims := t.lims, evq := t.evq, ctl := t.ctl } ∧
      Keeps s t (if p = .hcp then [SYS_HCP_ERR_ADDR] else [])) ∧
  (∀ (s : State) (p : Port) (a : Nat) (wr : Bool), s.ctl.stale.contains a = false →
    exec (.controlParityError p a true wr) s = .next { s with ctl := { s.ctl with stale := a :: s.ctl.stale } }) ∧
  (∀ (s : State) (pair : Fin 2), s.safe.pairs = 3 →
    ∃ t, exec (.mgmtLockstepMismatch pair) s = .next t ∧ (s.safe.mode = false → SafeEntered s t 4 1 pair) ∧ t.safe.mode = true ∧
      t.safe.pairs = nclr 3 pair ∧ t.fld SYS_STAT_MGMT_OK = nclr 3 pair) ∧
  (∀ (s : State) (pair : Fin 2), nbit s.safe.pairs pair = true → nclr s.safe.pairs pair = 0 →
    ∃ t, exec (.mgmtLockstepMismatch pair) s = .next t ∧ t.safe.forced = true ∧ t.safe.mode = s.safe.mode ∧ t.safe.pairs = 0 ∧
      t.fld SYS_STAT_MGMT_OK = 0 ∧ t.cask = s.cask ∧
      ((∀ n, n < 16 → (s.chan n).stop = none) → t.evq = s.evq ∧ Keeps s t [SYS_STAT])) ∧
  (∀ (s : State) (pair : Fin 2), nbit s.safe.pairs pair = false → exec (.mgmtLockstepMismatch pair) s = .next s) ∧
  (∀ (s : State), s.raw - s.safe.hourRaw ≥ 3600 * secU → s.safe.hourCnt.length ≤ 8192 →
    ∃ t, exec .faultLogHourly s = .next t ∧ t.safe.hourCnt = [] ∧ t.safe.hourRaw = s.raw ∧
      t.cask.logSeq = s.cask.logSeq + s.safe.hourCnt.length ∧
      (∀ i c n, s.safe.hourCnt[i]? = some (c, n) → (t.cask.record (s.cask.logSeq + i)).cls = c ∧
        (t.cask.record (s.cask.logSeq + i)).action = 6 ∧ (t.cask.record (s.cask.logSeq + i)).arg = n % 2 ^ 32 ∧
        (t.cask.record (s.cask.logSeq + i)).seq = s.cask.logSeq + i) ∧
      t = { s with safe := t.safe, cask := { s.cask with log := t.cask.log, logSeq := t.cask.logSeq } }) ∧
  (∀ (s : State), s.safe.mode = false → ∃ t, exec (.fwdTestSlot false) s = .next t ∧ SafeEntered s t 6 2 0xFF) ∧
  (∀ (s : State), exec (.fwdTestSlot true) s = .next s) ∧
  (∀ (s : State) (dram : Bool), s.safe.mode = false →
    ∃ t, exec (.imageCopyError dram) s = .next t ∧ SafeEntered s t (if dram then 2 else 1) 4 0xFF) ∧
  (∀ (s : State) (dram : Bool), s.safe.mode = true →
    exec (.imageCopyError dram) s = .next s ∧ exec (.fwdTestSlot false) s = .next s) ∧
  (∀ (s : State) (p : Port) (v : W32), Taken s p SYS_CTRL v → fieldGet v 0 1 = 1 → s.safe.mode = false →
    ∃ t, exec (.safeCommand p v) s = .next t ∧ Succeeded t ∧ SafeEntered s t 0 5 0xFF)

/-- A feed of a software unit folds 1, 2 or 4 bytes of the word, least significant first, into the running value and counts (R467, R471);
START loads the initial value (R469); a written value is the running value (R470); ALG takes 0 to 5 and keeps its value on 6 or 7 (R466).
An alive value is accepted first after reset or ALIVE_RST, or one above the last; the same again is a repeat, counted, which leaves the last;
any other is a skip, with its distance (R472). Writes of units 0 to 11 are taken and change nothing (R476). A serving unit whose test
slot gives another value is fenced with cause 1, one with a memory error with cause 2, and its functions go to the lowest healthy spare, or are
shared with the lowest healthy unit, with events 0x0701 and 0x0702 (R473, R474). -/
def Obligations.CheckValueUnits : Prop :=
  (∀ (s : State) (p : Port) (u : Fin 16) (v : W32), Taken s p (CHK_UNIT_FEED_B u) v →
    ∃ t, exec (.chkFeedB p u v) s = .next t ∧ Succeeded t ∧
      t.rd (CHK_UNIT_VALUE u) = BitVec.ofNat 32 (chkFeed (s.rd (CHK_UNIT_CFG u)) (s.rd (CHK_UNIT_POLY u)) (s.rd (CHK_UNIT_INIT u))
        (s.rd (CHK_UNIT_XOROUT u)) (s.rd (CHK_UNIT_VALUE u)).toNat [v.toNat % 256]) ∧
      t.fld (CHK_UNIT_STAT_FEEDS u) = (s.fld (CHK_UNIT_STAT_FEEDS u) + 1) % 65536 ∧
      t = { s with regs := t.regs, ctl := t.ctl } ∧ Keeps s t [CHK_UNIT_VALUE u, CHK_UNIT_STAT u]) ∧
  (∀ (s : State) (p : Port) (u : Fin 16) (v : W32), Taken s p (CHK_UNIT_FEED_H u) v →
    ∃ t, exec (.chkFeedH p u v) s = .next t ∧ Succeeded t ∧
      t.rd (CHK_UNIT_VALUE u) = BitVec.ofNat 32 (chkFeed (s.rd (CHK_UNIT_CFG u)) (s.rd (CHK_UNIT_POLY u)) (s.rd (CHK_UNIT_INIT u))
        (s.rd (CHK_UNIT_XOROUT u)) (s.rd (CHK_UNIT_VALUE u)).toNat [v.toNat % 256, v.toNat / 256 % 256]) ∧
      t.fld (CHK_UNIT_STAT_FEEDS u) = (s.fld (CHK_UNIT_STAT_FEEDS u) + 1) % 65536 ∧
      t = { s with regs := t.regs, ctl := t.ctl } ∧ Keeps s t [CHK_UNIT_VALUE u, CHK_UNIT_STAT u]) ∧
  (∀ (s : State) (p : Port) (u : Fin 16) (v : W32), Taken s p (CHK_UNIT_FEED_W u) v →
    ∃ t, exec (.chkFeedW p u v) s = .next t ∧ Succeeded t ∧
      t.rd (CHK_UNIT_VALUE u) = BitVec.ofNat 32 (chkFeed (s.rd (CHK_UNIT_CFG u)) (s.rd (CHK_UNIT_POLY u)) (s.rd (CHK_UNIT_INIT u))
        (s.rd (CHK_UNIT_XOROUT u)) (s.rd (CHK_UNIT_VALUE u)).toNat
        [v.toNat % 256, v.toNat / 256 % 256, v.toNat / 65536 % 256, v.toNat / 16777216]) ∧
      t.fld (CHK_UNIT_STAT_FEEDS u) = (s.fld (CHK_UNIT_STAT_FEEDS u) + 1) % 65536 ∧
      t = { s with regs := t.regs, ctl := t.ctl } ∧ Keeps s t [CHK_UNIT_VALUE u, CHK_UNIT_STAT u]) ∧
  (∀ (s : State) (p : Port) (u : Fin 12) (w : Fin 16) (v : W32) (i : Instr × Nat), w.val = u.val →
    i ∈ [(.chkFeedB p w v, CHK_UNIT_FEED_B u), (.chkFeedH p w v, CHK_UNIT_FEED_H u),
      (.chkFeedW p w v, CHK_UNIT_FEED_W u), (.chkStart p w v, CHK_UNIT_CTRL u),
      (.chkAliveRst p w v, CHK_UNIT_CTRL u), (.chkValueWrite p w v, CHK_UNIT_VALUE u),
      (.chkCfgWrite p w v, CHK_UNIT_CFG u), (.chkAliveWrite p w v, CHK_UNIT_ALIVE u)] →
    s.writeStatus p i.2 v = 0 → ∃ t, exec i.1 s = .next t ∧ Succeeded t ∧ t = { s with ctl := t.ctl }) ∧
  (∀ (s : State) (p : Port) (u : Fin 16) (v : W32), Taken s p (CHK_UNIT_CTRL u) v →
    ∃ t, exec (.chkStart p u v) s = .next t ∧ exec (.chkAliveRst p u v) s = .next t ∧ Succeeded t ∧
      (fieldGet v 0 1 = 1 → t.rd (CHK_UNIT_VALUE u) = BitVec.ofNat 32 (chkStart (s.rd (CHK_UNIT_CFG u)) (s.rd (CHK_UNIT_POLY u))
        (s.rd (CHK_UNIT_INIT u)) (s.rd (CHK_UNIT_XOROUT u)))) ∧
      (fieldGet v 0 1 = 0 → t.regs = s.regs) ∧ (fieldGet v 1 1 = 1 → u.val ∉ t.chkLive) ∧ (fieldGet v 1 1 = 0 → t.chkLive = s.chkLive) ∧
      (∀ w, w ≠ u.val → (w ∈ t.chkLive ↔ w ∈ s.chkLive)) ∧
      t = { s with chkLive := t.chkLive, regs := t.regs, ctl := t.ctl } ∧ Keeps s t [CHK_UNIT_VALUE u]) ∧
  (∀ (s : State) (p : Port) (u : Fin 16) (v : W32), Taken s p (CHK_UNIT_VALUE u) v →
    ∃ t, exec (.chkValueWrite p u v) s = .next t ∧ Succeeded t ∧ t.rd (CHK_UNIT_VALUE u) = v ∧
      t = { s with regs := t.regs, ctl := t.ctl } ∧ Keeps s t [CHK_UNIT_VALUE u]) ∧
  (∀ (s : State) (p : Port) (u : Fin 16) (v : W32), Taken s p (CHK_UNIT_CFG u) v →
    ∃ t, exec (.chkCfgWrite p u v) s = .next t ∧ Succeeded t ∧
      t.fld (CHK_UNIT_CFG_ALG u) = (if fieldGet v 0 3 < 6 then fieldGet v 0 3 else s.fld (CHK_UNIT_CFG_ALG u)) ∧
      t.fld (CHK_UNIT_CFG_WIDTH u) = fieldGet v 4 2 ∧ t.fld (CHK_UNIT_CFG_REFIN u) = fieldGet v 6 1 ∧
      t.fld (CHK_UNIT_CFG_REFOUT u) = fieldGet v 7 1 ∧ t = { s with regs := t.regs, ctl := t.ctl } ∧ Keeps s t [CHK_UNIT_CFG u]) ∧
  (∀ (s : State) (p : Port) (u : Fin 16) (v : W32), Taken s p (CHK_UNIT_ALIVE u) v →
    (u.val ∉ s.chkLive ∨ fieldGet v 0 8 = (s.fld (CHK_UNIT_ALIVE_VALUE u) + 1) % 256) →
    ∃ t, exec (.chkAliveWrite p u v) s = .next t ∧ Succeeded t ∧ t.fld (CHK_UNIT_ALIVE_VALUE u) = fieldGet v 0 8 ∧
      t.fld (CHK_UNIT_ALIVE_VERDICT u) = 1 ∧ u.val ∈ t.chkLive ∧ t = { s with chkLive := t.chkLive, regs := t.regs, ctl := t.ctl } ∧
      Keeps s t [CHK_UNIT_ALIVE u]) ∧
  (∀ (s : State) (p : Port) (u : Fin 16) (v : W32), Taken s p (CHK_UNIT_ALIVE u) v → u.val ∈ s.chkLive →
    fieldGet v 0 8 = s.fld (CHK_UNIT_ALIVE_VALUE u) →
    ∃ t, exec (.chkAliveWrite p u v) s = .next t ∧ Succeeded t ∧ t.fld (CHK_UNIT_ALIVE_VALUE u) = s.fld (CHK_UNIT_ALIVE_VALUE u) ∧
      t.fld (CHK_UNIT_ALIVE_VERDICT u) = 2 ∧
      t.fld (CHK_UNIT_CNT_ALIVE_CNT_REPEAT u) = min (s.fld (CHK_UNIT_CNT_ALIVE_CNT_REPEAT u) + 1) 65535 ∧
      t = { s with regs := t.regs, ctl := t.ctl } ∧ Keeps s t [CHK_UNIT_ALIVE u, CHK_UNIT_CNT_ALIVE u]) ∧
  (∀ (s : State) (p : Port) (u : Fin 16) (v : W32) (d : Nat), Taken s p (CHK_UNIT_ALIVE u) v → u.val ∈ s.chkLive → 2 ≤ d → d ≤ 255 →
    fieldGet v 0 8 = (s.fld (CHK_UNIT_ALIVE_VALUE u) + d) % 256 →
    ∃ t, exec (.chkAliveWrite p u v) s = .next t ∧ Succeeded t ∧ t.fld (CHK_UNIT_ALIVE_VALUE u) = fieldGet v 0 8 ∧
      t.fld (CHK_UNIT_ALIVE_VERDICT u) = 3 ∧ t.fld (CHK_UNIT_ALIVE_SKIPPED u) = d - 1 ∧
      t.fld (CHK_UNIT_CNT_ALIVE_CNT_SKIP u) = min (s.fld (CHK_UNIT_CNT_ALIVE_CNT_SKIP u) + 1) 65535 ∧
      t = { s with regs := t.regs, ctl := t.ctl } ∧ Keeps s t [CHK_UNIT_ALIVE u, CHK_UNIT_CNT_ALIVE u]) ∧
  (∀ (s : State) (u : Fin 12) (r : W32) (mem : Bool),
    s.bit (CHK_UNIT_STAT_FENCED u) = false → (mem = true ∨ (s.chkFuncs u ≠ [] ∧ r.toNat ≠ s.chkExpected u)) →
    ∃ t, exec (.chkUnitTestSlot u r mem) s = .next t ∧ t.fld (CHK_UNIT_STAT_FENCED u) = 1 ∧
      t.fld (CHK_UNIT_STAT_CAUSE u) = (if mem then 2 else 1) ∧
      (∀ f v sh, f ∈ s.chkFuncs u → (s.put (CHK_UNIT_STAT_FENCED u) 1).chkNext = some (v, sh) → t.chkServing f = v ∧
        (sh = true → Raises s t 0x0702 u (evArg [(0, 1, f), (1, 1, v)]))) ∧
      (∀ f l v sh, s.chkFuncs u = f :: l → (s.put (CHK_UNIT_STAT_FENCED u) 1).chkNext = some (v, sh) →
        Raises s t 0x0701 u (evArg [(0, 1, if mem then 2 else 1), (1, 1, f), (2, 1, v)])) ∧
      (tget (fun _ => Lim.zero) s.safe.suppress (limKey (if mem then 1 else 6) u) = Lim.zero →
        (t.cask.record s.cask.logSeq).cls = (if mem then 1 else 6) ∧ (t.cask.record s.cask.logSeq).action = 1) ∧
      t = { s with regs := t.regs, cask := t.cask, safe := t.safe, evq := t.evq, ctl := t.ctl } ∧
      Keeps s t [CHK_UNIT_STAT u, CHK_ASSIGN_LO, CHK_ASSIGN_HI]) ∧
  (∀ (s : State) (u : Fin 12) (r : W32) (mem : Bool),
    (s.bit (CHK_UNIT_STAT_FENCED u) = true ∨ (mem = false ∧ (s.chkFuncs u = [] ∨ r.toNat = s.chkExpected u))) →
    exec (.chkUnitTestSlot u r mem) s = .next s)

/-- A read asks each burst that it touches (R485); one outside the populated windows is refused (R480, R169); one that no queued write touches waits
for DRAM and wakes its rank; one that queued writes cover is answered from them and counted (R487); without a credit it waits in the fabric
(R15, R485). Data return in order, good, or poisoned with event 0x0E01 and its count when their burst is poisoned or cannot be corrected; a retry
that is clean is counted and logged (R484, R488); no read of another class is issued while one of class T waits (R485); the block's ECC burst is
in the cache then (R482). A write changes exactly its bytes and is queued, and at the high watermark the queue drains to the low one (R483,
R486); an old one drains the queue, and a whole burst clears the poison bit (R483, R486). A refresh wakes its rank, an idle rank powers down
(R489, R490); a zero-filled segment reads as zero and nothing else changes (R492); a scrub read counts corrected words, raises 0x0E01 for a burst
it cannot correct, and goes to the next block, after the last one with another pass (R493). Which line leaves the ECC cache is a free value of
the model. -/
def Obligations.DramQueues : Prop :=
  (∀ (s : State) (req : Requester) (addr len : Nat),
    ∃ t, exec (.dramRead req addr len) s = .next t ∧ t.dr.num = s.dr.num + (burstsOf addr len).length) ∧
  (∀ (s : State) (req : Requester) (addr len : Nat), OneBurst addr len → s.populated addr len = false →
    ∃ t, exec (.dramRead req addr len) s = .next t ∧ t.dr.ret = s.dr.ret ++ [(s.dr.num, List.replicate len 0, 2)] ∧
      (∀ d, req = .decCore d → t.fld DEC_POOL_CNT_DMA_COUNT = min (s.fld DEC_POOL_CNT_DMA_COUNT + 1) (2 ^ 32 - 1)) ∧
      ((∀ d, req ≠ .decCore d) → t.regs = s.regs) ∧
      t = { s with dr := { s.dr with num := s.dr.num + 1, ret := t.dr.ret }, regs := t.regs } ∧ Keeps s t [DEC_POOL_CNT_DMA]) ∧
  (∀ (s : State) (req : Requester) (addr len c r : Nat),
    OneBurst addr len → s.populated addr len = true → s.DrFree c addr → r = s.rankOf addr → r < 2 →
    (∀ w, w ∈ (s.drc c).writes → Off (64 * w.burst + w.ofs) addr len ∧ Off addr (64 * w.burst + w.ofs) w.bytes.length) →
    ∃ t, exec (.dramRead req addr len) s = .next t ∧
      (t.drc c).reads = (s.drc c).reads ++ [⟨s.dr.num, req, addr, len, s.dbytes addr len, none⟩] ∧ t.dr.num = s.dr.num + 1 ∧
      t.dr.ret = s.dr.ret ∧ (t.drc c).writes = (s.drc c).writes ∧ (t.drc c).held = [] ∧ (t.drc c).poison = (s.drc c).poison ∧
      nbit (t.fld (DRM_CH_STAT_PD c)) r = false ∧ (∀ d, d ≠ c → t.drc d = s.drc d) ∧
      t = { s with dr := t.dr, regs := t.regs } ∧ Keeps s t [DRM_CH_STAT c]) ∧
  (∀ (s : State) (req : Requester) (addr len c : Nat),
    OneBurst addr len → s.populated addr len = true → s.DrFree c addr → (∀ q, q ∈ (s.drc c).reads → q.res = none ∧ q.req ≠ req) →
    (∀ i, i < len → queuedByte (s.drc c).writes (addr + i) = true) →
    ∃ t, exec (.dramRead req addr len) s = .next t ∧ t.dr.ret = s.dr.ret ++ [(s.dr.num, s.dbytes addr len, 0)] ∧
      t.drc c = { s.drc c with arb := (t.drc c).arb } ∧ (∀ d, d ≠ c → t.drc d = s.drc d) ∧
      t.fld (DRM_CH_CNT_FWD_COUNT c) = min (s.fld (DRM_CH_CNT_FWD_COUNT c) + 1) (2 ^ 32 - 1) ∧
      t = { s with dr := t.dr, regs := t.regs } ∧ Keeps s t [DRM_CH_CNT_FWD c]) ∧
  (∀ (s : State) (req : Requester) (addr len c : Nat),
    OneBurst addr len → s.populated addr len = true → c = s.chanOf addr → (s.drServes c addr = false ∨ 64 ≤ (s.drc c).reads.length) →
    (∀ q, q ∈ (s.drc c).held → s.drCredit c q = false) →
    ∃ t, exec (.dramRead req addr len) s = .next t ∧ (t.drc c).held = (s.drc c).held ++ [.read s.dr.num req addr len] ∧
      (t.drc c).reads = (s.drc c).reads ∧ (∀ d, d ≠ c → t.drc d = s.drc d) ∧ t = { s with dr := t.dr }) ∧
  (∀ (s : State) (c : Fin 24) (r : DrRead) (ce : Nat),
    (s.drc c).reads = [r] → r.res = none → (s.drc c).held = [] → s.chanOf r.addr = c.val →
    (∀ b, b ∈ burstsOf r.addr r.len → s.isPoison b = false) →
    ∃ t, exec (.dramReadReturn c r.num ce none) s = .next t ∧ t.dr.ret = s.dr.ret ++ [(r.num, r.data, 0)] ∧ (t.drc c).reads = [] ∧
      (t.drc c).writes = (s.drc c).writes ∧ (t.drc c).poison = (s.drc c).poison ∧ s.rawAddr r.addr / 512 ∈ (t.drc c).ecc.map (·.1) ∧
      (t.drc c).ecc.length ≤ max 256 (s.drc c).ecc.length ∧
      t.fld (DRM_CH_CNT_CE_COUNT c) = min (s.fld (DRM_CH_CNT_CE_COUNT c) + ce) (2 ^ 32 - 1) ∧ (∀ d, d ≠ c.val → t.drc d = s.drc d) ∧
      t = { s with dr := t.dr, regs := t.regs, safe := t.safe, fresh := t.fresh } ∧ Keeps s t [DRM_CH_CNT_CE c]) ∧
  (∀ (s : State) (c : Fin 24) (r : DrRead) (b ce : Nat) (ue : Option (Nat × Bool)),
    (s.drc c).reads = [r] → r.res = none → (s.drc c).held = [] → s.chanOf r.addr = c.val → burstsOf r.addr r.len = [b] →
    s.chanOf (64 * b) = c.val → (s.isPoison b = true ∨ ue = some (0, false)) →
    ∃ t, exec (.dramReadReturn c r.num ce ue) s = .next t ∧ t.dr.ret = s.dr.ret ++ [(r.num, r.data, 1)] ∧ t.isPoison b = true ∧
      t.fld (DRM_CH_CNT_POISON_COUNT c) = min (s.fld (DRM_CH_CNT_POISON_COUNT c) + 1) (2 ^ 32 - 1) ∧
      Raises s t 0x0E01 c (evArg [(1, 1, s.rankOf (64 * b)), (4, 8, s.rawAddr (64 * b))]) ∧
      t = { s with dr := t.dr, regs := t.regs, cask := t.cask, safe := t.safe, evq := t.evq, ctl := t.ctl, fresh := t.fresh } ∧
      Keeps s t [DRM_CH_CNT_POISON c, DRM_CH_CNT_CE c, DRM_CH_CNT_UE c]) ∧
  (∀ (s : State) (c : Fin 24) (r : DrRead) (b ce : Nat),
    (s.drc c).reads = [r] → r.res = none → (s.drc c).held = [] → s.chanOf r.addr = c.val → burstsOf r.addr r.len = [b] →
    s.isPoison b = false →
    ∃ t, exec (.dramReadReturn c r.num ce (some (0, true))) s = .next t ∧ t.dr.ret = s.dr.ret ++ [(r.num, r.data, 0)] ∧
      t.fld (DRM_CH_CNT_UE_COUNT c) = min (s.fld (DRM_CH_CNT_UE_COUNT c) + 1) (2 ^ 32 - 1) ∧
      t.fld (DRM_CH_CNT_RETRY_COUNT c) = min (s.fld (DRM_CH_CNT_RETRY_COUNT c) + 1) (2 ^ 32 - 1) ∧
      (tget (fun _ => Lim.zero) s.safe.suppress (limKey 2 c) = Lim.zero →
        (t.cask.record s.cask.logSeq).cls = 2 ∧ (t.cask.record s.cask.logSeq).action = 2)) ∧
  (∀ (s : State) (c : Fin 24) (num ce : Nat) (ue : Option (Nat × Bool)) (q : DrRead),
    q ∈ (s.drc c).reads → q.req.cls = .timed → q.res = none →
    (∀ r, r ∈ (s.drc c).reads → r.num = num → r.req.cls ≠ .timed ∨ r.res ≠ none) →
    exec (.dramReadReturn c num ce ue) s = .next s) ∧
  (∀ (s : State) (req : Requester) (burst : Nat) (ofs : Fin 64) (bs : List Byte) (ue : Bool) (c : Nat),
    bs ≠ [] → bs.length + ofs ≤ 64 → s.populated (64 * burst + ofs) bs.length = true → s.DrFree c (64 * burst + ofs) →
    ∃ t, exec (.dramWrite req burst ofs bs ue) s = .next t ∧
      (∀ i b, bs[i]? = some b → t.dbyte (64 * burst + ofs + i) = b) ∧
      (∀ a, Off a (64 * burst + ofs) bs.length → t.dbyte a = s.dbyte a) ∧
      ((s.drc c).writes.length + 1 < s.fld (DRM_CH_SCHED_WR_HIGH c) →
        (t.drc c).writes = (s.drc c).writes ++ [⟨burst, ofs, bs, ue, s.raw⟩] ∧ (t.drc c).poison = (s.drc c).poison ∧
        (∀ d, d ≠ c → t.drc d = s.drc d) ∧ t = { s with dram := t.dram, dr := t.dr, regs := t.regs }) ∧
      (s.fld (DRM_CH_SCHED_WR_HIGH c) ≤ (s.drc c).writes.length + 1 → (t.drc c).writes =
        ((s.drc c).writes ++ [(⟨burst, ofs, bs, ue, s.raw⟩ : DrWrite)]).drop ((s.drc c).writes.length + 1 - s.fld (DRM_CH_SCHED_WR_LOW c))) ∧
      t = { s with dram := t.dram, dr := t.dr, regs := t.regs, fresh := t.fresh } ∧ Keeps s t [DRM_CH_STAT c]) ∧
  (∀ (s : State) (req : Requester) (burst : Nat) (ofs : Fin 64) (bs : List Byte) (ue : Bool) (c : Nat),
    bs ≠ [] → bs.length + ofs ≤ 64 → s.populated (64 * burst + ofs) bs.length = true → c = s.chanOf (64 * burst + ofs) →
    (s.drServes c (64 * burst + ofs) = false ∨ 64 ≤ (s.drc c).writes.length) → (∀ q, q ∈ (s.drc c).held → s.drCredit c q = false) →
    ∃ t, exec (.dramWrite req burst ofs bs ue) s = .next t ∧ (t.drc c).held = (s.drc c).held ++ [.write req burst ofs bs ue] ∧
      (∀ d, d ≠ c → t.drc d = s.drc d) ∧ t = { s with dr := t.dr }) ∧
  (∀ (s : State) (req : Requester) (burst : Nat) (ofs : Fin 64) (bs : List Byte) (ue : Bool),
    bs ≠ [] → s.populated (64 * burst + ofs) (bs.take (64 - ofs)).length = false →
    ∃ t, exec (.dramWrite req burst ofs bs ue) s = .next t ∧
      (∀ d, req = .decCore d → t.fld DEC_POOL_CNT_DMA_COUNT = min (s.fld DEC_POOL_CNT_DMA_COUNT + 1) (2 ^ 32 - 1)) ∧
      t = { s with regs := t.regs } ∧ Keeps s t [DEC_POOL_CNT_DMA]) ∧
  (∀ (s : State) (c : Fin 24) (w : DrWrite) (l : List DrWrite),
    (s.drc c).writes = w :: l → s.raw - w.raw ≥ s.uclk c (s.fld (DRM_CH_SCHED_WR_AGE c)) → (s.drc c).held = [] →
    ∃ t, exec (.writeAgeExpire c) s = .next t ∧ (t.drc c).writes = [] ∧ (t.drc c).reads = (s.drc c).reads ∧
      (l = [] → w.ofs = 0 → 64 ≤ w.bytes.length → t.isPoison w.burst = false) ∧
      (l = [] → s.chanOf (64 * w.burst) = c.val → s.rawAddr (64 * w.burst) / 512 ∈ (t.drc c).ecc.map (·.1)) ∧
      t = { s with dr := t.dr, fresh := t.fresh }) ∧
  (∀ (s : State) (c : Fin 24) (r : Fin 2),
    ∃ t, exec (.refreshDue c r) s = .next t ∧ nbit (t.fld (DRM_CH_STAT_PD c)) r = false ∧
      (∀ q, q < 2 → q ≠ r.val → nbit (t.fld (DRM_CH_STAT_PD c)) q = nbit (s.fld (DRM_CH_STAT_PD c)) q) ∧
      t = { s with regs := t.regs } ∧ Keeps s t [DRM_CH_STAT c]) ∧
  (∀ (s : State) (c : Fin 24) (r : Fin 2),
    s.fld (DRM_CH_STAT_STATE c) = 3 → r.val < s.drRanks → s.bit (DRM_CH_PWR_PD_EN c) = true →
    (∀ q, q ∈ (s.drc c).reads → s.rankOf q.addr ≠ r.val) → (∀ w, w ∈ (s.drc c).writes → s.rankOf (64 * w.burst) ≠ r.val) →
    s.raw - (s.drc c).last.getD r 0 ≥ s.uclk c (s.fld (DRM_CH_PWR_PD_IDLE c)) →
    ∃ t, exec (.rankPowerDown c r) s = .next t ∧ nbit (t.fld (DRM_CH_STAT_PD c)) r = true ∧
      (∀ q, q < 2 → q ≠ r.val → nbit (t.fld (DRM_CH_STAT_PD c)) q = nbit (s.fld (DRM_CH_STAT_PD c)) q) ∧
      t = { s with regs := t.regs } ∧ Keeps s t [DRM_CH_STAT c]) ∧
  (∀ (s : State) (c : Fin 24) (g : Fin 16), s.fld (DRM_CH_STAT_STATE c) = 9 → (s.drc c).fill = [g.val] →
    ∃ t, exec (.zeroFillDone c g) s = .next t ∧
      (∀ a, s.xlate a ≠ none → s.chanOf a = c.val → s.segOf a = g.val → t.dbyte a = 0) ∧
      (∀ a, ¬(s.xlate a ≠ none ∧ s.chanOf a = c.val ∧ s.segOf a = g.val) → t.dbyte a = s.dbyte a) ∧ (t.drc c).fill = [] ∧
      t.fld (DRM_CH_STAT_STATE c) = 3 ∧ (∀ d, d ≠ c.val → t.drc d = s.drc d) ∧
      t = { s with dram := t.dram, dr := t.dr, regs := t.regs } ∧ Keeps s t [DRM_CH_STAT c]) ∧
  (∀ (s : State) (c : Fin 24) (ce : Nat) (ue : List (Fin 7)), s.fld (DRM_CH_STAT_STATE c) = 3 →
    s.fld (DRM_CH_SCRUB_BLOCK c) + 1 < 2 ^ 26 →
    ∃ t, exec (.scrubRead c ce ue) s = .next t ∧
      (s.fld (DRM_CH_SCRUB_BLOCK c) + 1 < s.drRaw / 512 → t.fld (DRM_CH_SCRUB_BLOCK c) = s.fld (DRM_CH_SCRUB_BLOCK c) + 1) ∧
      (s.drRaw / 512 ≤ s.fld (DRM_CH_SCRUB_BLOCK c) + 1 → t.fld (DRM_CH_SCRUB_BLOCK c) = 0 ∧
        t.fld (DRM_CH_SCRUB_PASSES c) = (s.fld (DRM_CH_SCRUB_PASSES c) + 1) % 2 ^ (DRM_CH_SCRUB_PASSES c).width) ∧
      t.fld (DRM_CH_CNT_CE_COUNT c) = min (s.fld (DRM_CH_CNT_CE_COUNT c) + ce) (2 ^ 32 - 1) ∧
      (0 < ce → tget (fun _ => 0) t.safe.hourCnt 2 = tget (fun _ => 0) s.safe.hourCnt 2 + 1) ∧ t.dram = s.dram ∧
      (∀ i b, i ∈ ue → b = s.sysOf c (s.fld (DRM_CH_SCRUB_BLOCK c) * 448 + i.val * 64) / 64 → t.isPoison b = true ∧
        Raises s t 0x0E01 (s.chanOf (64 * b)) (evArg [(0, 1, 1), (1, 1, s.rankOf (64 * b)), (4, 8, s.rawAddr (64 * b))])) ∧
      (ue = [] → t = { s with safe := t.safe, regs := t.regs } ∧ Keeps s t [DRM_CH_SCRUB c, DRM_CH_CNT_CE c]))

/-- A channel whose training verifies is in service with its values saved as last-good records and event 0x0E02 (R495, R496); a fast path that
fails runs full training (R497); a full training that fails runs once more and then the channel has failed (R495). The helpers run in
TRAIN mode alone, outside it ERR reads 1 (R499): a compare adds to the error counters, a sweep leaves edges and their centres, or ERR 2 where a
bit has none, the centres are applied, and SAVE makes them last-good records with SRC 3 (R494, R499). A write of DRM_XLATE_HI shows channel, rank, burst and raw
address of a populated address, and zeros of any other (R479). -/
def Obligations.DramTraining : Prop :=
  (∀ (s : State) (c : Fin 24) (ws : List W32),
    (s.fld (DRM_CH_STAT_STATE c) = 1 ∨ s.fld (DRM_CH_STAT_STATE c) = 2) →
    (s.atStep 5 = true → ∃ d, d ∈ s.drChans ∧ d ≠ c.val ∧ s.fld (DRM_CH_STAT_STATE d) ≠ 3 ∧ s.fld (DRM_CH_STAT_STATE d) ≠ 6) →
    ∃ t, exec (.dramTrainingDone c true ws) s = .next t ∧ t.fld (DRM_CH_STAT_STATE c) = (if (s.drc c).fill = [] then 3 else 9) ∧
      t.fld (DRM_CH_STAT_SRC c) = (if s.fld (DRM_CH_STAT_STATE c) = 2 then 2 else 1) ∧ nbit (t.fld DRM_STAT_READY) c = true ∧
      Raises s t 0x0E02 c (evArg [(0, 1, if s.fld (DRM_CH_STAT_STATE c) = 2 then 1 else if (s.drc c).fast then 2 else 0),
        (4, 4, (s.raw - (s.drc c).start) / msU)]) ∧
      (∀ r sp, r < s.drRanks → sp ∈ s.setPoints → (tget (fun _ => LastGood.zero) t.cask.lastGood (goodKey c r sp)).present = true ∧
        (tget (fun _ => LastGood.zero) t.cask.lastGood (goodKey c r sp)).words = ws) ∧
      t = { s with cask := { s.cask with lastGood := t.cask.lastGood }, dr := t.dr, regs := t.regs, evq := t.evq, ctl := t.ctl } ∧
      Keeps s t [DRM_CH_STAT c, DRM_STAT]) ∧
  (∀ (s : State) (c : Fin 24) (ws : List W32), s.fld (DRM_CH_STAT_STATE c) = 2 →
    ∃ t, exec (.dramTrainingDone c false ws) s = .next t ∧ t.fld (DRM_CH_STAT_STATE c) = 1 ∧ t = { s with regs := t.regs } ∧
      Keeps s t [DRM_CH_STAT c]) ∧
  (∀ (s : State) (c : Fin 24) (ws : List W32), s.fld (DRM_CH_STAT_STATE c) = 1 → (s.drc c).again = false →
    ∃ t, exec (.dramTrainingDone c false ws) s = .next t ∧ t.drc c = { s.drc c with again := true } ∧
      (∀ d, d ≠ c.val → t.drc d = s.drc d) ∧ t = { s with dr := t.dr }) ∧
  (∀ (s : State) (c : Fin 24) (ws : List W32), s.fld (DRM_CH_STAT_STATE c) = 1 → (s.drc c).again = true →
    (s.atStep 5 = true → ∃ d, d ∈ s.drChans ∧ d ≠ c.val ∧ s.fld (DRM_CH_STAT_STATE d) ≠ 3 ∧ s.fld (DRM_CH_STAT_STATE d) ≠ 6) →
    ∃ t, exec (.dramTrainingDone c false ws) s = .next t ∧ t.fld (DRM_CH_STAT_STATE c) = 6 ∧
      Raises s t 0x0E02 c (evArg [(0, 1, 3), (4, 4, (s.raw - (s.drc c).start) / msU)]) ∧
      t = { s with regs := t.regs, evq := t.evq, ctl := t.ctl } ∧ Keeps s t [DRM_CH_STAT c]) ∧
  (∀ (s : State) (p : Port) (c : Fin 24) (rank : Fin 2) (n : Fin 8192),
    Taken s p (DRM_TR_CMD c) (trWord 1 rank n) → s.boot.held = false → s.fld (DRM_CH_STAT_STATE c) = 4 →
    ∃ t, exec (.trPatternWrite p c rank n) s = .next t ∧ Succeeded t ∧ t.fld (DRM_TR_STAT_ERR c) = 0 ∧
      t = { s with regs := t.regs, ctl := t.ctl } ∧ Keeps s t [DRM_TR_STAT c]) ∧
  (∀ (s : State) (p : Port) (c : Fin 24) (rank : Fin 2) (n : Fin 8192) (es : List Nat),
    Taken s p (DRM_TR_CMD c) (trWord 2 rank n) → s.boot.held = false → s.fld (DRM_CH_STAT_STATE c) = 4 →
    ∃ t, exec (.trReadCompare p c rank n es) s = .next t ∧ Succeeded t ∧ t.fld (DRM_TR_STAT_ERR c) = 0 ∧
      (∀ b, b < 18 → t.fld (DRM_TR_ERR_COUNT c b) = min (s.fld (DRM_TR_ERR_COUNT c b) + es.getD b 0) (2 ^ 32 - 1)) ∧
      t = { s with regs := t.regs, ctl := t.ctl } ∧ Keeps s t (DRM_TR_STAT c :: (List.range 18).map (DRM_TR_ERR c))) ∧
  (∀ (s : State) (p : Port) (c : Fin 24) (rank : Fin 2) (n : Fin 8192) (es : List (Option (Nat × Nat))),
    Taken s p (DRM_TR_CMD c) (trWord 3 rank n) → s.boot.held = false → s.fld (DRM_CH_STAT_STATE c) = 4 →
    (∀ b, b < 18 → ∃ l r, es.getD b none = some (l, r) ∧ l ≤ r ∧ r < 256) →
    ∃ t, exec (.trSweep p c rank n es) s = .next t ∧ Succeeded t ∧ t.fld (DRM_TR_STAT_ERR c) = 0 ∧
      (∀ b l r, b < 18 → es.getD b none = some (l, r) → t.fld (DRM_TR_EDGE_LEFT c b) = l ∧ t.fld (DRM_TR_EDGE_RIGHT c b) = r ∧
        t.fld (DRM_TR_EDGE_CENTRE c b) = (l + r) / 2) ∧
      t = { s with dr := t.dr, regs := t.regs, ctl := t.ctl } ∧ Keeps s t (DRM_TR_STAT c :: (List.range 18).map (DRM_TR_EDGE c))) ∧
  (∀ (s : State) (p : Port) (c : Fin 24) (k : Nat) (cs : List Nat),
    Taken s p (DRM_TR_CMD c) (trWord 4 0 0) → s.boot.held = false → s.fld (DRM_CH_STAT_STATE c) = 4 → (s.drc c).sweep = some (k, cs) →
    ∃ t, exec (.trApplyCentres p c) s = .next t ∧ Succeeded t ∧ tfind (t.drc c).params k = some cs ∧
      (∀ j, j ≠ k → tfind (t.drc c).params j = tfind (s.drc c).params j) ∧ t = { s with dr := t.dr, regs := t.regs, ctl := t.ctl } ∧
      Keeps s t [DRM_TR_STAT c]) ∧
  (∀ (s : State) (p : Port) (c : Fin 24) (rank : Fin 2) (n : Fin 8192) (es : List (Option (Nat × Nat))) (b : Nat),
    Taken s p (DRM_TR_CMD c) (trWord 3 rank n) → s.boot.held = false → s.fld (DRM_CH_STAT_STATE c) = 4 → b < 18 → es.getD b none = none →
    ∃ t, exec (.trSweep p c rank n es) s = .next t ∧ Succeeded t ∧ t.fld (DRM_TR_STAT_ERR c) = 2) ∧
  (∀ (s : State) (p : Port) (c : Fin 24),
    Taken s p (DRM_TR_CMD c) (trWord 4 0 0) → s.boot.held = false → s.fld (DRM_CH_STAT_STATE c) = 4 → (s.drc c).sweep = none →
    ∃ t, exec (.trApplyCentres p c) s = .next t ∧ Succeeded t ∧ t = { s with regs := t.regs, ctl := t.ctl } ∧ Keeps s t [DRM_TR_STAT c]) ∧
  (∀ (s : State) (p : Port) (c : Fin 24) (rank : Fin 2) (n : Fin 8192) (ns : List Nat) (es : List (Option (Nat × Nat))) (i : Instr × W32),
    i ∈ [(.trPatternWrite p c rank n, trWord 1 rank n), (.trReadCompare p c rank n ns, trWord 2 rank n),
      (.trSweep p c rank n es, trWord 3 rank n), (.trApplyCentres p c, trWord 4 0 0)] →
    Taken s p (DRM_TR_CMD c) i.2 → s.boot.held = false → s.fld (DRM_CH_STAT_STATE c) ≠ 4 →
    ∃ t, exec i.1 s = .next t ∧ Succeeded t ∧ t.fld (DRM_TR_STAT_ERR c) = 1 ∧
      t = { s with regs := t.regs, ctl := t.ctl } ∧ Keeps s t [DRM_TR_STAT c]) ∧
  (∀ (s : State) (p : Port) (c : Fin 24) (v : W32),
    Taken s p (DRM_CH_CTRL c) v → fieldGet v 4 1 = 1 → s.fld (DRM_CH_STAT_STATE c) = 4 → s.boot.held = false →
    ∃ t, exec (.trSave p c v) s = .next t ∧ Succeeded t ∧ t.fld (DRM_CH_STAT_SRC c) = 3 ∧
      (∀ r sp, r < s.drRanks → sp ∈ s.setPoints → (tget (fun _ => LastGood.zero) t.cask.lastGood (goodKey c r sp)).words =
        (s.drc c).params.flatMap (fun kv => kv.2.map (BitVec.ofNat 32))) ∧
      t = { s with cask := { s.cask with lastGood := t.cask.lastGood }, stage := t.stage, regs := t.regs, ctl := t.ctl } ∧
      Keeps s t [DRM_CH_STAT c, CFG_STAGE_STAT]) ∧
  (∀ (s : State) (p : Port) (c : Fin 24) (v : W32),
    Taken s p (DRM_CH_CTRL c) v → (fieldGet v 4 1 = 0 ∨ s.fld (DRM_CH_STAT_STATE c) ≠ 4) → s.boot.held = false →
    ∃ t, exec (.trSave p c v) s = .next t ∧ Succeeded t ∧ t.fld (DRM_CH_STAT_SRC c) = s.fld (DRM_CH_STAT_SRC c) ∧ t.cask = s.cask) ∧
  (∀ (s : State) (p : Port) (v : W32) (a c d : Nat),
    Taken s p DRM_XLATE_HI v → a = (s.rd DRM_XLATE_LO).toNat + 2 ^ 32 * v.toNat → s.xlate a = some (c, d) → c < 24 →
    rawOf d / s.drRank < 2 → rawOf d < 2 ^ 64 →
    ∃ t, exec (.xlate p v) s = .next t ∧ Succeeded t ∧ t.fld DRM_XLATE_CH_VALID = 1 ∧ t.fld DRM_XLATE_CH_CHANNEL = c ∧
      t.fld DRM_XLATE_CH_RANK = rawOf d / s.drRank ∧ t.fld DRM_XLATE_CH_BURST = d % 448 / 64 ∧
      t.pairVal DRM_XLATE_PHYS_LO DRM_XLATE_PHYS_HI = rawOf d ∧ t = { s with regs := t.regs, ctl := t.ctl } ∧
      Keeps s t [DRM_XLATE_HI, DRM_XLATE_CH, DRM_XLATE_PHYS_LO, DRM_XLATE_PHYS_HI]) ∧
  (∀ (s : State) (p : Port) (v : W32),
    Taken s p DRM_XLATE_HI v → s.xlate ((s.rd DRM_XLATE_LO).toNat + 2 ^ 32 * v.toNat) = none →
    ∃ t, exec (.xlate p v) s = .next t ∧ Succeeded t ∧ t.rd DRM_XLATE_CH = 0 ∧ t.pairVal DRM_XLATE_PHYS_LO DRM_XLATE_PHYS_HI = 0 ∧
      t = { s with regs := t.regs, ctl := t.ctl } ∧ Keeps s t [DRM_XLATE_HI, DRM_XLATE_CH, DRM_XLATE_PHYS_LO, DRM_XLATE_PHYS_HI])

/-- A judging monitor that sees its clock stop, or a window out of tolerance or a PLL out of lock, marks it failed with event 0x0101 and
its class: a device-class clock forces the safe states, a quad-class one idles the quads that it clocks, an audio-class one unlocks the
ports that follow it, and a reference of the trim holds it (R508 to R510). A clock that has failed already only notes a stop, and a
monitor that does not judge changes nothing. A window within tolerance shows frequency and deviation; the first good one of a failed
clock starts the wait, and one that ends STABLE_MS later makes the clock good again, which ends the safe states where no other cause is
left (R511). From step 4 on a PLL that locks starts the switch of its root; a completed switch shows ROOT, a forced one is counted with
event 0x0102, and the last root ends step 4 (R506, R512). A trim measurement sets the trim at once in BOOT and as the value approached
later, within ±50,000 ppb with event 0x0103 where it is clipped; a source that gives none holds it (R507). -/
def Obligations.ClockMonitorsAndTrim : Prop :=
  (∀ (s : State) (m : Fin 48), s.monJudges m = true → s.failedMon m = false →
    ∃ t, exec (.clkStopDetect m) s = .next t ∧ t.failedMon m = true ∧ t.fld (CLK_MON_STAT_FAILED m) = 1 ∧
      t.fld (CLK_MON_STAT_STOPPED m) = 1 ∧ t.fld (CLK_MON_STAT_OK m) = 0 ∧ tget (fun _ => 0) t.clk.good m = 0 ∧
      (s.monClass m = 0 → t.safe.forced = true ∧ t.safe.clkFail = true) ∧ t.safe.mode = s.safe.mode ∧
      (∀ q, q ∈ s.audioFollow m → t.fld (APT_PORT_STAT_LOCKED q) = 0) ∧
      (s.monClass m = 1 → s.safe.forced = false → (∀ j, j < 48 → s.failedMon j = true → s.monClass j ≠ 0) →
        t.safe.forced = false ∧ ∀ q, q < 16 → (q ∈ t.phy.idle ↔ t.quadFailed q = true)) ∧
      ((m.val = 1 ∨ m.val = 2) → s.fld CLK_TRIM_CFG_SRC = m.val → t.fld CLK_TRIM_STAT_HELD = 1) ∧
      Raises s t 0x0101 m (evArg [(1, 1, 1), (2, 1, s.monClass m)])) ∧
  (∀ (s : State) (m : Fin 48), s.monJudges m = true → s.failedMon m = true →
    ∃ t, exec (.clkStopDetect m) s = .next t ∧ t.fld (CLK_MON_STAT_STOPPED m) = 1 ∧ t.fld (CLK_MON_STAT_OK m) = 0 ∧
      tget (fun _ => 0) t.clk.good m = 0 ∧ t = { s with clk := { s.clk with good := t.clk.good }, regs := t.regs } ∧
      Keeps s t [CLK_MON_STAT m]) ∧
  (∀ (s : State) (m : Fin 48) (hz : Nat) (dev : Int) (unlock : Bool), s.monJudges m = false →
    exec (.clkStopDetect m) s = .next s ∧ exec (.clkWindowEnd m hz dev unlock) s = .next s) ∧
  (∀ (s : State) (m : Fin 48) (hz : Nat) (dev : Int),
    s.monJudges m = true → s.failedMon m = false → dev.natAbs ≤ (if s.monClass m = 2 then 1000 else s.fld (CLK_MON_CFG_TOL_PPM m)) →
    ∃ t, exec (.clkWindowEnd m hz dev false) s = .next t ∧ t.fld (CLK_MON_STAT_OK m) = 1 ∧ t.fld (CLK_MON_FREQ_HZ m) = hz % 2 ^ 32 ∧
      t.sfld (CLK_MON_STAT_DEV_PPM m) = dev ∧ t = { s with regs := t.regs } ∧ Keeps s t [CLK_MON_STAT m, CLK_MON_FREQ m]) ∧
  (∀ (s : State) (m : Fin 48) (hz : Nat) (dev : Int) (unlock : Bool),
    s.monJudges m = true → s.failedMon m = false →
    (unlock = true ∨ (if s.monClass m = 2 then 1000 else s.fld (CLK_MON_CFG_TOL_PPM m)) < dev.natAbs) →
    ∃ t, exec (.clkWindowEnd m hz dev unlock) s = .next t ∧ t.failedMon m = true ∧ t.fld (CLK_MON_STAT_STOPPED m) = 0 ∧
      t.fld (CLK_MON_STAT_OK m) = 0 ∧ t.fld (CLK_MON_FREQ_HZ m) = hz % 2 ^ 32 ∧ (s.monClass m = 0 → t.safe.forced = true) ∧
      Raises s t 0x0101 m (evArg [(1, 1, 2), (2, 1, s.monClass m)])) ∧
  (∀ (s : State) (m : Fin 48) (hz : Nat) (dev : Int) (unlock : Bool),
    s.monJudges m = true → s.failedMon m = true →
    (unlock = true ∨ (if s.monClass m = 2 then 1000 else s.fld (CLK_MON_CFG_TOL_PPM m)) < dev.natAbs) →
    ∃ t, exec (.clkWindowEnd m hz dev unlock) s = .next t ∧ t.failedMon m = true ∧ t.fld (CLK_MON_STAT_OK m) = 0 ∧
      tget (fun _ => 0) t.clk.good m = 0 ∧ t = { s with clk := { s.clk with good := t.clk.good }, regs := t.regs } ∧
      Keeps s t [CLK_MON_STAT m, CLK_MON_FREQ m]) ∧
  (∀ (s : State) (m : Fin 48) (hz : Nat) (dev : Int) (g : Nat),
    s.monJudges m = true → s.failedMon m = true → dev.natAbs ≤ (if s.monClass m = 2 then 1000 else s.fld (CLK_MON_CFG_TOL_PPM m)) →
    g = (if tget (fun _ => 0) s.clk.good m = 0 then s.raw - windowU + 1 else tget (fun _ => 0) s.clk.good m) →
    s.raw + 1 - g < s.fld (CLK_MON_CFG_STABLE_MS m) * msU →
    ∃ t, exec (.clkWindowEnd m hz dev false) s = .next t ∧ t.failedMon m = true ∧ tget (fun _ => 0) t.clk.good m = g ∧
      t.fld (CLK_MON_STAT_OK m) = 1 ∧ t.safe = s.safe ∧ Keeps s t [CLK_MON_STAT m, CLK_MON_FREQ m]) ∧
  (∀ (s : State) (m : Fin 48) (hz : Nat) (dev : Int) (g : Nat),
    s.monJudges m = true → s.failedMon m = true → dev.natAbs ≤ (if s.monClass m = 2 then 1000 else s.fld (CLK_MON_CFG_TOL_PPM m)) →
    g = (if tget (fun _ => 0) s.clk.good m = 0 then s.raw - windowU + 1 else tget (fun _ => 0) s.clk.good m) →
    s.raw + 1 - g ≥ s.fld (CLK_MON_CFG_STABLE_MS m) * msU →
    ∃ t, exec (.clkWindowEnd m hz dev false) s = .next t ∧ t.failedMon m = false ∧ t.fld (CLK_MON_STAT_FAILED m) = 0 ∧
      t.fld (CLK_MON_STAT_STOPPED m) = 0 ∧ tget (fun _ => 0) t.clk.good m = 0 ∧
      (s.safe.mode = false → s.safe.hotCrit = false → s.safe.brownout = false →
        (∀ q, q < 48 → q ≠ m.val → s.failedMon q = true → s.monClass q ≠ 0) → t.safe.forced = false ∧ t.safe.clkFail = false) ∧
      Raises s t 0x0101 m (evArg [(0, 1, 1), (2, 1, s.monClass m)])) ∧
  (∀ (s : State) (p : Fin 7),
    4 ≤ s.fld CFG_BOOT_STAT_STEP → s.bit (CLK_PLL_STAT_LOCK p) = false → s.failedMon (s.fld (CLK_PLL_CFG_REF p)) = false →
    ∃ t, exec (.pllLocked p) s = .next t ∧ t.fld (CLK_PLL_STAT_LOCK p) = 1 ∧ tget (fun _ => 0) t.clk.mux p = 1 ∧
      t = { s with clk := { s.clk with mux := t.clk.mux }, regs := t.regs } ∧ Keeps s t [CLK_PLL_STAT p]) ∧
  (∀ (s : State) (p : Fin 7),
    (s.fld CFG_BOOT_STAT_STEP < 4 ∨ s.bit (CLK_PLL_STAT_LOCK p) = true ∨ s.failedMon (s.fld (CLK_PLL_CFG_REF p)) = true) →
    exec (.pllLocked p) s = .next s) ∧
  (∀ (s : State) (k : Fin 48), tget (fun _ => 0) s.clk.mux k ≠ 0 →
    ∃ t, exec (.muxSwitch k) s = .next t ∧ tget (fun _ => 0) t.clk.mux k = 0 ∧ (k.val < 7 → t.fld (CLK_PLL_STAT_ROOT k) = 1) ∧
      ((7 ≤ k.val ∨ s.atStep 4 = false ∨ ∃ p, p < 7 ∧ p ≠ k.val ∧ s.bit (CLK_PLL_STAT_ROOT p) = false) →
        t = { s with clk := { s.clk with mux := t.clk.mux }, regs := t.regs } ∧
        Keeps s t (if k.val < 7 then [CLK_PLL_STAT k] else [])) ∧
      (k.val < 7 → s.atStep 4 = true → (∀ p, p < 7 → p ≠ k.val → s.bit (CLK_PLL_STAT_ROOT p) = true) →
        (s.bistAtBoot = true → t.tst.boot = true ∧ t.fld TST_STAT_BIST = 1 ∧ t.fld CFG_BOOT_STAT_STEP = 4) ∧
        (s.bistAtBoot = false → 5 ≤ t.fld CFG_BOOT_STAT_STEP))) ∧
  (∀ (s : State) (k : Fin 48), tget (fun _ => 0) s.clk.mux k ≠ 0 →
    ∃ t, exec (.muxForcedSwitch k) s = .next t ∧ tget (fun _ => 0) t.clk.mux k = 0 ∧ (k.val < 7 → t.fld (CLK_PLL_STAT_ROOT k) = 1) ∧
      t.fld CLK_CNT_FORCED_COUNT = min (s.fld CLK_CNT_FORCED_COUNT + 1) (2 ^ 32 - 1) ∧
      Raises s t 0x0102 (tget (fun _ => 0) s.clk.mux k - 1) 0 ∧
      ((7 ≤ k.val ∨ s.atStep 4 = false ∨ ∃ p, p < 7 ∧ p ≠ k.val ∧ s.bit (CLK_PLL_STAT_ROOT p) = false) →
        t = { s with clk := { s.clk with mux := t.clk.mux }, regs := t.regs, evq := t.evq, ctl := t.ctl } ∧
        Keeps s t (if k.val < 7 then [CLK_PLL_STAT k, CLK_CNT_FORCED] else [CLK_CNT_FORCED]))) ∧
  (∀ (s : State) (k : Fin 48), tget (fun _ => 0) s.clk.mux k = 0 →
    exec (.muxSwitch k) s = .next s ∧ exec (.muxForcedSwitch k) s = .next s) ∧
  (∀ (s : State) (d m : Int) (src : Nat), s.fld CLK_TRIM_CFG_SRC = src → 0 < src → ((src = 1 ∨ src = 2) → s.failedMon src = false) →
    (src = 3 → s.fld TB_STAT_STATE = 3 ∧ d = s.tb.rate * 1000000000 / (2 ^ 48 : Int)) → (src ≠ 3 → d = m) →
    ∃ t, exec (.trimMeasure (some m)) s = .next t ∧ t.fld CLK_TRIM_STAT_TRACKING = 1 ∧
      (s.bit CLK_TRIM_STAT_TRACKING = false → t.fld CLK_TRIM_STAT_HELD = 0 ∧ Raises s t 0x0103 0 (evArg [(0, 1, 1)])) ∧
      (50000 < (s.sfld CLK_TRIM_STAT_TRIM_PPB + d).natAbs → Raises s t 0x0103 0 (evArg [(0, 1, 2)])) ∧
      (s.fld PWR_MODE_CUR = 1 → t.sfld CLK_TRIM_STAT_TRIM_PPB = clipSym 50000 (s.sfld CLK_TRIM_STAT_TRIM_PPB + d) ∧ t.clk = s.clk) ∧
      (s.fld PWR_MODE_CUR ≠ 1 → t.sfld CLK_TRIM_STAT_TRIM_PPB = s.sfld CLK_TRIM_STAT_TRIM_PPB ∧
        t.clk = { s.clk with trim := some (clipSym 50000 (s.sfld CLK_TRIM_STAT_TRIM_PPB + d)) }) ∧
      t = { s with clk := t.clk, regs := t.regs, evq := t.evq, ctl := t.ctl } ∧ Keeps s t [CLK_TRIM_STAT]) ∧
  (∀ (s : State) (m : Option Int), s.fld CLK_TRIM_CFG_SRC ≠ 0 → s.bit CLK_TRIM_STAT_HELD = false →
    (m = none ∨ (s.fld CLK_TRIM_CFG_SRC < 3 ∧ s.failedMon (s.fld CLK_TRIM_CFG_SRC) = true) ∨
      (s.fld CLK_TRIM_CFG_SRC = 3 ∧ s.fld TB_STAT_STATE ≠ 3)) →
    ∃ t, exec (.trimMeasure m) s = .next t ∧ t.fld CLK_TRIM_STAT_HELD = 1 ∧ t.fld CLK_TRIM_STAT_TRACKING = 0 ∧ t.clk.trim = none ∧
      t.sfld CLK_TRIM_STAT_TRIM_PPB = s.sfld CLK_TRIM_STAT_TRIM_PPB ∧ Raises s t 0x0103 0 0 ∧
      t = { s with clk := t.clk, regs := t.regs, evq := t.evq, ctl := t.ctl } ∧ Keeps s t [CLK_TRIM_STAT]) ∧
  (∀ (s : State) (m : Option Int), (s.fld CLK_TRIM_CFG_SRC = 0 ∨ (m = none ∧ s.bit CLK_TRIM_STAT_HELD = true)) →
    exec (.trimMeasure m) s = .next s)

/-- A closing gate stops its clock once its port is idle; after 1 µs the outstanding requests complete with errors, counted with event 0x0203
(R515). Domains go on in increasing and off in decreasing order, one at a time, with event 0x0202, in RUN and during start-up, with no
change of mode under way; a domain's gates are off with it, the kettles of domains 13 and 14 lose their cores, the tuns of
domains 4 to 7 their search windows, and the context cache loses its lines with domain 16 (R517, R518). A wake pin that is enabled starts the exit from SLEEP or DEEP once, unless HOSC has failed; during an
entry it starts the exit after it. The exit from DEEP trains the DRAM channels in self-refresh, and completes after that (R520). A
transition that completes changes the mode with event 0x0201; SLEEP and DEEP put the DRAM channels in self-refresh, DEEP turns domains 2 to
21 and the PLLs off that it does not use, and RUN puts the channels back in service (R519, R520). An AVSBus transaction is acknowledged,
which ends FAULT with event 0x0204, or tried again up to 3 times before FAULT, with event 0x0204 (R523). -/
def Obligations.GatesDomainsAndModes : Prop :=
  (∀ (s : State) (n : Fin 148), s.fld (CLK_GATE_STATE n) = 2 →
    ∃ t, exec (.gatePortIdle n) s = .next t ∧ t.fld (CLK_GATE_STATE n) = 1 ∧ t = { s with regs := t.regs } ∧ Keeps s t [CLK_GATE n]) ∧
  (∀ (s : State) (n : Fin 148) (k : Nat),
    s.fld (CLK_GATE_STATE n) = 2 → s.raw + 1 - tget (fun _ => 0) s.clk.gates n ≥ usU →
    ∃ t, exec (.gateDrainTimeout n k) s = .next t ∧ t.fld (CLK_GATE_STATE n) = 1 ∧
      t.fld PWR_CNT_GATE_ERR_COUNT = min (s.fld PWR_CNT_GATE_ERR_COUNT + k) (2 ^ 32 - 1) ∧
      (0 < k → Raises s t 0x0203 n (evArg [(0, 4, k)])) ∧
      t = { s with regs := t.regs, evq := t.evq, ctl := t.ctl } ∧ Keeps s t [CLK_GATE n, PWR_CNT_GATE_ERR]) ∧
  (∀ (s : State) (n : Fin 148) (k : Nat), s.fld (CLK_GATE_STATE n) ≠ 2 → exec (.gatePortIdle n) s = .next s) ∧
  (∀ (s : State) (n : Fin 148) (k : Nat),
    (s.fld (CLK_GATE_STATE n) ≠ 2 ∨ s.raw + 1 - tget (fun _ => 0) s.clk.gates n < usU) → exec (.gateDrainTimeout n k) s = .next s) ∧
  (∀ (s : State) (d : Fin 24),
    s.domainsMove = true → nbit (s.fld PWR_PD_STAT_ON) d = false → nbit s.wantDomains d = true →
    (∀ e, e < d.val → nbit s.wantDomains e = true → nbit (s.fld PWR_PD_STAT_ON) e = true) →
    ∃ t, exec (.domainPowerOn d) s = .next t ∧ nbit (t.fld PWR_PD_STAT_ON) d = true ∧
      (∀ e, e < 24 → e ≠ d.val → nbit (t.fld PWR_PD_STAT_ON) e = nbit (s.fld PWR_PD_STAT_ON) e) ∧
      (∀ n, n < 148 → gateDomain n = d.val → s.gateOn n = true → t.fld (CLK_GATE_STATE n) = 0) ∧
      Raises s t 0x0202 d (evArg [(0, 1, 1)]) ∧
      (d.val ≠ 13 → d.val ≠ 14 → t = { s with clk := t.clk, regs := t.regs, evq := t.evq, ctl := t.ctl } ∧
        Keeps s t (PWR_PD_STAT :: ((List.range 148).filter (fun n => gateDomain n == d.val)).map CLK_GATE))) ∧
  (∀ (s : State) (d : Fin 24) (l : List (Nat × Nat)),
    s.domainsMove = true → nbit (s.fld PWR_PD_STAT_ON) d = true → nbit s.wantDomains d = false →
    (∀ e, e < 24 → d.val < e → nbit (s.fld PWR_PD_STAT_ON) e = true → nbit s.wantDomains e = true) →
    ∃ t, exec (.domainPowerOff d l) s = .next t ∧ nbit (t.fld PWR_PD_STAT_ON) d = false ∧
      (∀ e, e < 24 → e ≠ d.val → nbit (t.fld PWR_PD_STAT_ON) e = nbit (s.fld PWR_PD_STAT_ON) e) ∧
      (∀ n, n < 148 → gateDomain n = d.val → t.fld (CLK_GATE_STATE n) = 3) ∧
      t.fld PWR_CNT_GATE_ERR_COUNT = min (s.fld PWR_CNT_GATE_ERR_COUNT + s.drained d l) (2 ^ 32 - 1) ∧
      (d.val = 16 → ∀ f, (t.fx f).resident = false) ∧ (d.val ≠ 16 → t.brg = s.brg) ∧
      ((d.val = 13 ∨ d.val = 14) → ∀ i, i < 48 → t.kc (48 * (d - 13) + i) = KCore.zero) ∧ Raises s t 0x0202 d 0 ∧
      (4 ≤ d.val → d.val ≤ 7 → ∀ k, k < 40 → k / 10 + 4 = d.val → t.win k = Win.zero) ∧
      (∀ k, (d.val < 4 ∨ 7 < d.val ∨ k / 10 + 4 ≠ d.val) → t.win k = s.win k) ∧
      (d.val ≠ 13 → d.val ≠ 14 →
        t = { s with brg := t.brg, enc := { s.enc with wins := t.enc.wins }, clk := t.clk, regs := t.regs, evq := t.evq, ctl := t.ctl } ∧
        Keeps s t (PWR_PD_STAT :: PWR_CNT_GATE_ERR :: ((List.range 148).filter (fun n => gateDomain n == d.val)).map CLK_GATE))) ∧
  (∀ (s : State) (d : Fin 24) (n k : Nat),
    s.domainsMove = true → nbit (s.fld PWR_PD_STAT_ON) d = true → nbit s.wantDomains d = false →
    (∀ e, e < 24 → d.val < e → nbit (s.fld PWR_PD_STAT_ON) e = true → nbit s.wantDomains e = true) →
    n < 148 → gateDomain n = d.val → (s.fld (CLK_GATE_STATE n) = 0 ∨ s.fld (CLK_GATE_STATE n) = 2) → 0 < k →
    ∃ t, exec (.domainPowerOff d [(n, k)]) s = .next t ∧ nbit (t.fld PWR_PD_STAT_ON) d = false ∧
      t.fld PWR_CNT_GATE_ERR_COUNT = min (s.fld PWR_CNT_GATE_ERR_COUNT + k) (2 ^ 32 - 1) ∧
      Raises s t 0x0203 n (evArg [(0, 4, k)]) ∧ Raises s t 0x0202 d 0) ∧
  (∀ (s : State) (d : Fin 24),
    (s.domainsMove = false ∨ nbit (s.fld PWR_PD_STAT_ON) d = true ∨ nbit s.wantDomains d = false ∨
      ∃ e, e < d.val ∧ nbit s.wantDomains e = true ∧ nbit (s.fld PWR_PD_STAT_ON) e = false) → exec (.domainPowerOn d) s = .next s) ∧
  (∀ (s : State) (d : Fin 24) (l : List (Nat × Nat)),
    (s.domainsMove = false ∨ nbit (s.fld PWR_PD_STAT_ON) d = false ∨ nbit s.wantDomains d = true ∨
      ∃ e, e < 24 ∧ d.val < e ∧ nbit (s.fld PWR_PD_STAT_ON) e = true ∧ nbit s.wantDomains e = false) →
    exec (.domainPowerOff d l) s = .next s) ∧
  (∀ (s : State), s.bit PWR_WAKE_PIN_EN = true → s.failedMon 0 = false → s.fld PWR_MODE_CUR = 3 →
    exec .wakePin s = .next { s with pwr := { s.pwr with trans := some 2 } }) ∧
  (∀ (s : State), s.bit PWR_WAKE_PIN_EN = true → s.failedMon 0 = false → s.fld PWR_MODE_CUR = 4 → s.pwr.trans = some 2 →
    exec .wakePin s = .next s) ∧
  (∀ (s : State) (c : Fin 24), s.bit PWR_WAKE_PIN_EN = true → s.failedMon 0 = false → s.fld PWR_MODE_CUR = 4 → s.pwr.trans ≠ some 2 →
    s.bit (DRM_CH_CFG_EN c) = true → s.fld (DRM_CH_STAT_STATE c) = 7 →
    ∃ t, exec .wakePin s = .next t ∧ t.pwr.trans = some 2 ∧ t.fld PWR_MODE_CUR = 4 ∧
      (s.belowLimit (drZone c) = false → t.fld (DRM_CH_STAT_STATE c) = 1 ∨ t.fld (DRM_CH_STAT_STATE c) = 2) ∧
      (s.belowLimit (drZone c) = true → t.fld (DRM_CH_STAT_STATE c) = 5) ∧
      exec .modeTransitionDone t = .next t) ∧
  (∀ (s : State), s.bit PWR_WAKE_PIN_EN = true → s.failedMon 0 = false → s.fld PWR_MODE_CUR = 2 →
    (s.pwr.trans = some 3 ∨ s.pwr.trans = some 4) → exec .wakePin s = .next { s with pwr := { s.pwr with wake := true } }) ∧
  (∀ (s : State), (s.bit PWR_WAKE_PIN_EN = false ∨ s.failedMon 0 = true ∨ (s.fld PWR_MODE_CUR = 2 ∧ s.pwr.trans = none)) →
    exec .wakePin s = .next s) ∧
  (∀ (s : State) (m : Nat), s.pwr.trans = some m → (m = 3 ∨ m = 4) → s.fld PWR_MODE_CUR = 2 → (m = 4 → s.pwr.wake = false) →
    ∃ t, exec .modeTransitionDone s = .next t ∧ t.fld PWR_MODE_CUR = m ∧ t.pwr.trans = (if s.pwr.wake then some 2 else none) ∧
      t.pwr.wake = false ∧ t.dram = s.dram ∧
      (∀ c, c < 24 → s.bit (DRM_CH_CFG_EN c) = true → s.fld (DRM_CH_STAT_STATE c) = 3 → t.fld (DRM_CH_STAT_STATE c) = 7) ∧
      (m = 4 → (∀ d, 2 ≤ d → d < 22 → nbit (t.fld PWR_PD_STAT_ON) d = false) ∧
        ∀ p, p ∈ [0, 1, 2, 5, 6] → t.fld (CLK_PLL_STAT_LOCK p) = 0 ∧ t.fld (CLK_PLL_STAT_ROOT p) = 0) ∧
      Raises s t 0x0201 0 (evArg [(0, 1, m), (1, 1, 2)])) ∧
  (∀ (s : State), s.pwr.trans = some 4 → s.fld PWR_MODE_CUR = 2 → s.pwr.wake = true →
    ∃ t, exec .modeTransitionDone s = .next t ∧ t.fld PWR_MODE_CUR = 4 ∧ t.pwr.trans = some 2 ∧ t.pwr.wake = false) ∧
  (∀ (s : State) (m : Nat), s.pwr.trans = some 2 → s.fld PWR_MODE_CUR = m → (m = 3 ∨ m = 4) → s.drTraining = false →
    ∃ t, exec .modeTransitionDone s = .next t ∧ t.fld PWR_MODE_CUR = 2 ∧ t.pwr.trans = none ∧ t.pwr.wake = false ∧ t.dram = s.dram ∧
      (∀ c, c < 24 → s.bit (DRM_CH_CFG_EN c) = true → s.fld (DRM_CH_STAT_STATE c) = 7 →
        t.fld (DRM_CH_STAT_STATE c) = (if (s.drc c).fill = [] then 3 else 9)) ∧
      Raises s t 0x0201 0 (evArg [(0, 1, 2), (1, 1, m)])) ∧
  (∀ (s : State), (s.pwr.trans = none ∨ s.fld PWR_MODE_CUR = 5 ∨ (s.pwr.trans = some 2 ∧ s.drTraining = true)) →
    exec .modeTransitionDone s = .next s) ∧
  (∀ (s : State), s.bit PWR_AVS_STAT_BUSY = true →
    ∃ t, exec (.avsTransactionDone true) s = .next t ∧ t.fld PWR_AVS_STAT_BUSY = 0 ∧ t.fld PWR_AVS_STAT_REQ_MV = s.pwr.avs % 65536 ∧
      t.fld PWR_AVS_STAT_FAULT = 0 ∧ (s.bit PWR_AVS_STAT_FAULT = true → Raises s t 0x0204 0 (evArg [(0, 1, 1), (4, 2, s.pwr.avs)])) ∧
      (s.bit PWR_AVS_STAT_FAULT = false → t = { s with regs := t.regs }) ∧
      t = { s with regs := t.regs, evq := t.evq, ctl := t.ctl } ∧ Keeps s t [PWR_AVS_STAT]) ∧
  (∀ (s : State), s.bit PWR_AVS_STAT_BUSY = true → s.pwr.tries < 3 →
    ∃ t, exec (.avsTransactionDone false) s = .next t ∧ t.pwr = { s.pwr with tries := s.pwr.tries + 1 } ∧
      t.fld PWR_CNT_AVS_ERR_COUNT = min (s.fld PWR_CNT_AVS_ERR_COUNT + 1) (2 ^ 32 - 1) ∧ t = { s with pwr := t.pwr, regs := t.regs } ∧
      Keeps s t [PWR_CNT_AVS_ERR]) ∧
  (∀ (s : State), s.bit PWR_AVS_STAT_BUSY = true → 3 ≤ s.pwr.tries →
    ∃ t, exec (.avsTransactionDone false) s = .next t ∧ t.fld PWR_AVS_STAT_FAULT = 1 ∧ t.fld PWR_AVS_STAT_BUSY = 0 ∧
      t.fld PWR_AVS_STAT_REQ_MV = s.fld PWR_AVS_STAT_REQ_MV ∧
      t.fld PWR_CNT_AVS_ERR_COUNT = min (s.fld PWR_CNT_AVS_ERR_COUNT + 1) (2 ^ 32 - 1) ∧
      (s.bit PWR_AVS_STAT_FAULT = false → Raises s t 0x0204 0 (evArg [(4, 2, s.pwr.avs)])) ∧
      t = { s with regs := t.regs, evq := t.evq, ctl := t.ctl } ∧ Keeps s t [PWR_AVS_STAT, PWR_CNT_AVS_ERR]) ∧
  (∀ (s : State) (a : Bool), s.bit PWR_AVS_STAT_BUSY = false → exec (.avsTransactionDone a) s = .next s)

/-- A kiln round takes place at least 2 ms after the one before and not while HOSC has failed; before start-up step 8 it reads the sensors
alone, and DRAM channels that wait for COLD_WARN train when it is reached (R527, R535). From step 8 on it counts itself, and step 8 ends in a
round with no zone at HOT_CRIT. From step 9 on: it shows the monitor values, with event 0x0304 when one leaves or enters its window (R528);
a zone's STATE follows its temperatures and limits, and its demand rises or falls by one at the pace of STEP_ROUNDS (R530, R532); tuns take
their rest from it within their bound, decode cores the whole of it (R532); the trim moves by 1 ppb (R507); and a higher core voltage is
asked for at once, a lower one after 10 rounds (R522). The comparator of a healthy sensor puts its zone in HOT_CRIT, which forces the safe
states and releases an ACTIVE's lease (R530, R534); a broken sensor's does nothing. REJOIN of a broken sensor is taken, of another ignored
(R529). -/
def Obligations.ThermalControl : Prop :=
  (∀ (s : State) (ts : List Int) (ms : List Nat) (xs : List (Nat × Nat × Nat)),
    (s.failedMon 0 = true ∨ s.fld CFG_BOOT_STAT_STEP < 2 ∨ (0 < s.thm.raw ∧ s.raw + 1 - s.thm.raw < 2 * msU)) →
    exec (.kilnRound ts ms xs) s = .next s) ∧
  (∀ (s : State) (ts : List Int) (ms : List Nat) (xs : List (Nat × Nat × Nat)),
    s.failedMon 0 = false → 2 ≤ s.fld CFG_BOOT_STAT_STEP → s.fld CFG_BOOT_STAT_STEP < 8 →
    (s.thm.raw = 0 ∨ s.raw + 1 - s.thm.raw ≥ 2 * msU) →
    ∃ t, exec (.kilnRound ts ms xs) s = .next t ∧ t.thm = { s.thm with raw := s.raw + 1 } ∧
      (∀ i x, i < 64 → ts[i]? = some x → t.fld (THM_SENS_TEMP i) = ofSigned 12 x) ∧ t.fld THM_ROUND_COUNT = s.fld THM_ROUND_COUNT ∧
      (∀ z, z < 16 → t.fld (THM_ZONE_STAT_T_HOT z) = ofSigned 8 (t.tHot z / 8) ∧
        t.fld (THM_ZONE_STAT_T_COLD z) = ofSigned 8 (t.tCold z / 8)) ∧
      (∀ c, c ∈ s.drChans → s.fld (DRM_CH_STAT_STATE c) = 5 → t.reachedWarn (drZone c) = true → t.belowLimit (drZone c) = false →
        t.fld (DRM_CH_STAT_STATE c) = 1 ∨ t.fld (DRM_CH_STAT_STATE c) = 2) ∧
      ((∀ c, c ∈ s.drChans → s.fld (DRM_CH_STAT_STATE c) ≠ 5) → (∀ k, k < 32 → (s.link k).cold = false) →
        t = { s with thm := t.thm, regs := t.regs } ∧ Keeps s t ((List.range 64).map THM_SENS ++ (List.range 16).map THM_ZONE_STAT))) ∧
  (∀ (s : State) (ts : List Int) (ms : List Nat) (xs : List (Nat × Nat × Nat)),
    s.failedMon 0 = false → s.fld CFG_BOOT_STAT_STEP = 8 → (s.thm.raw = 0 ∨ s.raw + 1 - s.thm.raw ≥ 2 * msU) →
    ∃ t, exec (.kilnRound ts ms xs) s = .next t ∧ t.thm.raw = s.raw + 1 ∧
      ((∃ z, z < 16 ∧ t.fld (THM_ZONE_STAT_STATE z) = 5) → t.fld CFG_BOOT_STAT_STEP = 8) ∧
      ((∀ z, z < 16 → t.fld (THM_ZONE_STAT_STATE z) ≠ 5) → t.fld CFG_BOOT_STAT_STEP ≠ 8)) ∧
  (∀ (s : State) (ts : List Int) (ms : List Nat) (xs : List (Nat × Nat × Nat)),
    s.failedMon 0 = false → 8 < s.fld CFG_BOOT_STAT_STEP → (s.thm.raw = 0 ∨ s.raw + 1 - s.thm.raw ≥ 2 * msU) →
    ∃ t, exec (.kilnRound ts ms xs) s = .next t ∧ t.thm.raw = s.raw + 1 ∧
      t.fld THM_ROUND_COUNT = (s.fld THM_ROUND_COUNT + 1) % 2 ^ 31 ∧
      (∀ i x, i < 64 → ts[i]? = some x → t.fld (THM_SENS_TEMP i) = ofSigned 12 x) ∧
      (∀ v x, v < 64 → ms[v]? = some x → t.fld (THM_MON_VALUE v) = x % 65536 ∧
        t.bit (THM_MON_OUT v) = (decide (x < Config.monLow v) || decide (Config.monHigh v < x)) ∧
        (t.bit (THM_MON_OUT v) ≠ s.bit (THM_MON_OUT v) →
          Raises s t 0x0304 v (evArg [(0, 1, b2n (!t.bit (THM_MON_OUT v))), (4, 2, x)]))) ∧
      (∀ z, z < 16 → t.fld (THM_ZONE_STAT_T_HOT z) = ofSigned 8 (t.tHot z / 8) ∧
        t.fld (THM_ZONE_STAT_T_COLD z) = ofSigned 8 (t.tCold z / 8)) ∧
      (s.bit THM_ROUND_FIRST_DONE = true → ∀ z, z < 16 →
        t.fld (THM_ZONE_STAT_STATE z) = s.zoneState z (s.fld (THM_ZONE_STAT_STATE z)) (t.tHot z) (t.tCold z)) ∧
      (∀ z, z < 16 → t.fld (THM_ZONE_STAT_DEMAND z) =
        (if s.limit (THM_ZONE_LIM_A_HOT_THROTTLE z) ≤ t.tHot z ∧ s.fld THM_CFG_STEP_ROUNDS ≤ (s.zone z).rise + 1 ∧
            s.fld (THM_ZONE_STAT_DEMAND z) < 7 then s.fld (THM_ZONE_STAT_DEMAND z) + 1
        else if t.tHot z < s.limit (THM_ZONE_LIM_A_HOT_THROTTLE z) - 8 * (s.fld THM_CFG_HYST : Int) ∧
            s.fld THM_CFG_STEP_ROUNDS ≤ (s.zone z).fall + 1 ∧ 0 < s.fld (THM_ZONE_STAT_DEMAND z) then s.fld (THM_ZONE_STAT_DEMAND z) - 1
        else s.fld (THM_ZONE_STAT_DEMAND z))) ∧
      (s.safe.hotCrit = false → (∀ k, k < 40 → t.fld (ENC_TUN_STAT_REST k) =
        (if t.tunFenced k = true ∨ t.bit (ENC_TUN_STAT_RERUN k) = true then 0
        else if t.bit (ENC_TUN_MAP_VALID k) = false ∨ t.fld (ENC_TUN_LOAD_LOAD k) = 0 then t.demand (restsTun · k)
        else min (t.demand (restsTun · k)) (restBound 8192 (t.fld (ENC_TUN_LOAD_LOAD k))))) ∧
        ∀ d, d < 24 → t.fld (DEC_CORE_STAT_REST d) = t.demand (restsCore · d)) ∧
      (∀ g, s.clk.trim = some g → g.natAbs ≤ 50000 →
        (s.sfld CLK_TRIM_STAT_TRIM_PPB < g → t.sfld CLK_TRIM_STAT_TRIM_PPB = s.sfld CLK_TRIM_STAT_TRIM_PPB + 1) ∧
        (g < s.sfld CLK_TRIM_STAT_TRIM_PPB → t.sfld CLK_TRIM_STAT_TRIM_PPB = s.sfld CLK_TRIM_STAT_TRIM_PPB - 1) ∧
        (g = s.sfld CLK_TRIM_STAT_TRIM_PPB → t.clk.trim = none)) ∧
      (s.bit PWR_AVS_CFG_EN = true → s.fld PWR_MODE_CUR ≠ 4 →
        (s.pwr.avs < t.avsTarget → t.pwr.avs = t.avsTarget ∧ t.fld PWR_AVS_STAT_BUSY = 1) ∧
        (t.avsTarget < s.pwr.avs → s.pwr.avsLow + 1 < 10 → t.pwr.avs = s.pwr.avs ∧ t.pwr.avsLow = s.pwr.avsLow + 1) ∧
        (t.avsTarget < s.pwr.avs → 10 ≤ s.pwr.avsLow + 1 → t.pwr.avs = t.avsTarget ∧ t.fld PWR_AVS_STAT_BUSY = 1))) ∧
  (∀ (s : State) (i : Fin 64), s.broken i = true → exec (.hotCritDetect i) s = .next s) ∧
  (∀ (s : State) (i : Fin 64), s.broken i = false →
    ∃ t, exec (.hotCritDetect i) s = .next t ∧ t.safe.hotCrit = true ∧ t.safe.forced = true ∧ t.safe.mode = s.safe.mode ∧
      t.thm.cool = 0 ∧ t.fld (THM_ZONE_STAT_STATE (i / 4)) = 5 ∧ (s.role = 1 → t.rdn.leaseEnd = s.raw) ∧
      s.limit (THM_ZONE_LIM_B_HOT_CRIT (i / 4)) ≤ t.limit (THM_ZONE_STAT_T_HOT (i / 4)) ∧
      (s.safe.forced = false → t.phy.idle = List.range 16 ∧ t.brg.pacers = []) ∧
      (s.fld (THM_ZONE_STAT_STATE (i / 4)) ≠ 5 →
        Raises s t 0x0301 (i / 4) (evArg [(0, 1, 5), (1, 1, t.fld (THM_ZONE_STAT_T_HOT (i / 4)))]))) ∧
  (∀ (s : State) (p : Port) (i : Fin 64) (v : W32), Taken s p (THM_SENS i) v → fieldGet v 17 1 = 1 → s.broken i = true →
    ∃ t, exec (.sensorRejoinCmd p i v) s = .next t ∧ Succeeded t ∧ t.fld (THM_SENS_REJOIN i) = 1 ∧ tget (fun _ => 0) t.thm.ok i = 0 ∧
      t = { s with thm := t.thm, regs := t.regs, ctl := t.ctl } ∧ Keeps s t [THM_SENS i]) ∧
  (∀ (s : State) (p : Port) (i : Fin 64) (v : W32), Taken s p (THM_SENS i) v → (fieldGet v 17 1 = 0 ∨ s.broken i = false) →
    ∃ t, exec (.sensorRejoinCmd p i v) s = .next t ∧ Succeeded t ∧ t = { s with ctl := t.ctl })

/-- A cold reset leaves every register but the two that show the TEST_EN ball at its reset value, the DRAM empty (log entry 3 names the bytes), and
keeps the cask (R538). A warm reset by the pin holds the device until release, by the command goes on at once with step 2; both keep the cask,
the raw count (R346) and every sticky field, the fence flags among them, and TST_BIST_CNT. A brownout forces the safe states (R606). A release
with valid supplies completes step 1 with event 0x0403 (R539, R605). Step 2 increments boot counter and epoch, loads the gyles (R358) and raises
event 0x0002; records that cannot be read count as absent, with a fault log record, and a device that R462 holds sets ERR 8. Step 3 boots the valid
image with the highest generation, slot A on a tie (R540), falls back with event 0x0404, and with no valid image sets ERR (R543). Start-up
BIST counts its repairs and fences the blocks that it cannot repair; a failure outside them stops start-up (R623). A command outside its step
does nothing. -/
def Obligations.ResetsAndStartUp : Prop :=
  (∀ (s : State), ∃ t, exec .coldReset s = .next t ∧ (∀ a, a ≠ SYS_STAT → a ≠ TST_JTAG_STAT → t.rd a = regReset a) ∧
      t.fld SYS_STAT_TEST_EN = s.fld SYS_STAT_TEST_EN ∧
      t = { State.reset with
        regs := t.regs, cask := s.cask, ctl := { Ctl.zero with flash := s.ctl.flash }, out := s.out, fresh := s.fresh,
        pending := s.pending }) ∧
  (∀ (s : State), ¬(s.boot.porHeld = true ∧ s.boot.cold = true) → twf regReset s.regs = true →
    ∃ t, exec .warmResetPin s = .next t ∧ t.boot.porHeld = true ∧ t.boot.cold = false ∧ t.raw = s.raw ∧ t.cask = s.cask ∧ t.dram = [] ∧
      t.stage = Stage.zero ∧ t.ket = Ket.zero ∧ (∀ u, u < 40 → t.fld (ENC_TUN_STAT_FENCED u) = s.fld (ENC_TUN_STAT_FENCED u)) ∧
      (∀ d, d < 24 → t.fld (DEC_CORE_STAT_FENCED d) = s.fld (DEC_CORE_STAT_FENCED d)) ∧
      (∀ k, k < 96 → t.fld (DSP_CORE_STAT_FENCED k) = s.fld (DSP_CORE_STAT_FENCED k)) ∧ KeepsSticky s t ∧
      t.rd TST_BIST_CNT_REPAIR = s.rd TST_BIST_CNT_REPAIR ∧ t.fld SYS_STAT_TEST_EN = s.fld SYS_STAT_TEST_EN ∧
      t.fld CFG_BOOT_STAT_STEP = 1) ∧
  (∀ (s : State), s.boot.porHeld = true → s.boot.cold = true → exec .warmResetPin s = .next s) ∧
  (∀ (s : State) (p : Port), Taken s p CFG_CTRL (s.ctrlWord p 8) → twf regReset s.regs = true →
    ∃ t, exec (.warmResetCmd p) s = .next t ∧ Succeeded t ∧ t.boot.porHeld = false ∧ t.boot.cold = false ∧ t.raw = s.raw ∧
      t.cask = s.cask ∧ t.dram = [] ∧ t.stage = Stage.zero ∧ t.fld CFG_BOOT_STAT_STEP = 2 ∧ t.fld CFG_BOOT_STAT_COLD = 0 ∧
      t.fld SYS_STAT_TEST_EN = s.fld SYS_STAT_TEST_EN ∧ KeepsSticky s t ∧ t.rd TST_BIST_CNT_REPAIR = s.rd TST_BIST_CNT_REPAIR ∧
      (∀ u, u < 40 → t.fld (ENC_TUN_STAT_FENCED u) = s.fld (ENC_TUN_STAT_FENCED u))) ∧
  (∀ (s : State), ∃ t, exec .brownout s = .next t ∧ t.safe.forced = true ∧ t.safe.brownout = true ∧ t.phy.idle = List.range 16 ∧
      t.cask = s.cask ∧ t.boot = Boot.zero ∧ t.dram = [] ∧ (∀ a, a ≠ SYS_STAT → a ≠ TST_JTAG_STAT → t.rd a = regReset a)) ∧
  (∀ (s : State), s.boot.porHeld = true → s.safe.brownout = false →
    ∃ t, exec (.resetPinRelease true) s = .next t ∧ t.boot = { s.boot with porHeld := false, startRaw := s.raw } ∧
      t.fld CFG_BOOT_STAT_COLD = b2n s.boot.cold ∧
      (s.fld CFG_BOOT_STAT_STEP = 1 → t.fld CFG_BOOT_STAT_STEP = 2 ∧ Raises s t 0x0403 0 (evArg [(0, 1, 1)])) ∧
      t = { s with boot := t.boot, regs := t.regs, evq := t.evq, ctl := t.ctl } ∧ Keeps s t [CFG_BOOT_STAT]) ∧
  (∀ (s : State) (r : Bool), (r = false ∨ s.boot.porHeld = false ∨ s.safe.brownout = true) → exec (.resetPinRelease r) s = .next s) ∧
  (∀ (s : State) (bad : Bool), s.fld CFG_BOOT_STAT_STEP = 2 →
    ∃ t, exec (.bootCaskOpened bad) s = .next t ∧ t.cask.boot = (if bad then 1 else (s.cask.boot + 1) % 2 ^ 32) ∧
      (t.rd CFG_BOOT_CNT).toNat = t.cask.boot ∧ t.fld TB_EPOCH_EPOCH = (if bad then 1 else min (s.cask.epoch + 1) (2 ^ 32 - 1)) ∧
      (bad = false → t.cask.epoch = min (s.cask.epoch + 1) (2 ^ 32 - 1) ∧
        t.pairVal RDN_GYLE_LO RDN_GYLE_HI = s.cask.gyle % 2 ^ 64 ∧ t.pairVal RDN_GYLE_SEEN_LO RDN_GYLE_SEEN_HI = s.cask.gyleSeen % 2 ^ 64) ∧
      (bad = true → tget (fun _ => Lim.zero) s.safe.suppress (limKey 12 0) = Lim.zero → t.cask.logSeq = s.cask.logSeq + 1 ∧
        (t.cask.record s.cask.logSeq).cls = 12) ∧
      t.fld CFG_BOOT_STAT_STEP = 3 ∧ Raises (s.put TB_EPOCH_EPOCH (t.fld TB_EPOCH_EPOCH)) t 0x0002 0
        (evArg [(0, 1, b2n !s.boot.cold), (4, 4, t.cask.boot)]) ∧
      (safeHeld s.cask.safeHist = true → t.boot.held = true ∧ t.fld CFG_BOOT_STAT_ERR = 8 ∧ t.cask.safeHist = []) ∧
      (safeHeld s.cask.safeHist = false → t.boot = s.boot ∧ t.cask.safeHist = s.cask.safeHist) ∧
      t = { s with cask := t.cask, boot := t.boot, safe := t.safe, regs := t.regs, evq := t.evq, ctl := t.ctl }) ∧
  (∀ (s : State) (bad : Bool), s.fld CFG_BOOT_STAT_STEP ≠ 2 → exec (.bootCaskOpened bad) s = .next s) ∧
  (∀ (s : State) (a b : Option Img) (k : Nat) (i : Img), s.fld CFG_BOOT_STAT_STEP = 3 → s.boot.held = false → FirstImage a b k i → i.verdict = 0 →
    ∃ t, exec (.imageReadDone a b) s = .next t ∧ t.boot.noImage = false ∧ t.boot.auth = i.auth ∧ t.boot.service = i.service ∧
      t.boot.svcRecs = i.recs ∧ t.boot.slotImg = [slotOf' a, slotOf' b] ∧ t.ket.kerns = i.kerns ∧ t.fld CFG_BOOT_STAT_SLOT = k ∧
      (t.rd CFG_IMAGE_GEN).toNat = i.gen % 2 ^ 32 ∧ t.fld DRM_CFG_RATE = i.mem.getD 3 0 ∧ t.fld DRM_CFG_ALT_RATE = i.mem.getD 4 0 ∧
      (∀ c, c < 24 → t.fld (DRM_CH_CFG_EN c) = 1 ∧ t.fld (DRM_CH_CFG_DENSITY c) = i.mem.getD 0 0 ∧
        t.fld (DRM_CH_CFG_RANKS c) = i.mem.getD 1 0) ∧
      t.fld CFG_BOOT_STAT_STEP = 4) ∧
  (∀ (s : State) (a b : Option Img) (k : Nat) (i j : Img), s.fld CFG_BOOT_STAT_STEP = 3 → s.boot.held = false →
    FirstImage a b k i → i.verdict ≠ 0 → (if k = 0 then b else a) = some j → j.header = true → j.verdict = 0 →
    ∃ t, exec (.imageReadDone a b) s = .next t ∧ t.boot.noImage = false ∧ t.boot.auth = j.auth ∧ t.boot.service = j.service ∧
      t.fld CFG_BOOT_STAT_SLOT = 1 - k ∧ (t.rd CFG_IMAGE_GEN).toNat = j.gen % 2 ^ 32 ∧
      t.fld CFG_BOOT_STAT_STEP = 4 ∧ Raises s t 0x0404 0 (evArg [(0, 1, k), (1, 1, i.verdict)])) ∧
  (∀ (s : State) (a b : Option Img) (k : Nat) (i j : Img), s.fld CFG_BOOT_STAT_STEP = 3 → s.boot.held = false →
    FirstImage a b k i → i.verdict ≠ 0 → (if k = 0 then b else a) = some j → j.header = true → j.verdict ≠ 0 →
    ∃ t, exec (.imageReadDone a b) s = .next t ∧ t.fld CFG_BOOT_STAT_ERR = j.verdict ∧ t.fld CFG_BOOT_STAT_STEP = 3 ∧
      t.boot.noImage = s.boot.noImage ∧ Raises s t 0x0404 0 (evArg [(0, 1, k), (1, 1, i.verdict)]) ∧
      Raises s t 0x0404 0 (evArg [(0, 1, 1 - k), (1, 1, j.verdict), (2, 1, 1)]) ∧
      t = { s with boot := { s.boot with slotImg := t.boot.slotImg }, regs := t.regs, evq := t.evq, ctl := t.ctl } ∧
      Keeps s t [CFG_BOOT_STAT]) ∧
  (∀ (s : State) (a b : Option Img) (k : Nat) (i : Img), s.fld CFG_BOOT_STAT_STEP = 3 → s.boot.held = false →
    FirstImage a b k i → i.verdict ≠ 0 → (∀ j, (if k = 0 then b else a) = some j → j.header = false) →
    ∃ t, exec (.imageReadDone a b) s = .next t ∧ t.fld CFG_BOOT_STAT_ERR = i.verdict ∧ t.fld CFG_BOOT_STAT_STEP = 3 ∧
      t.boot.noImage = s.boot.noImage ∧ Raises s t 0x0404 0 (evArg [(0, 1, k), (1, 1, i.verdict), (2, 1, 1)]) ∧
      t = { s with boot := { s.boot with slotImg := t.boot.slotImg }, regs := t.regs, evq := t.evq, ctl := t.ctl } ∧
      Keeps s t [CFG_BOOT_STAT]) ∧
  (∀ (s : State) (a b : Option Img), s.fld CFG_BOOT_STAT_STEP = 3 → s.boot.held = false → (∀ j, a = some j → j.header = false) →
    (∀ j, b = some j → j.header = false) →
    ∃ t, exec (.imageReadDone a b) s = .next t ∧ t.fld CFG_BOOT_STAT_ERR = 1 ∧ t.fld CFG_BOOT_STAT_STEP = 3 ∧
      Raises s t 0x0404 0 (evArg [(1, 1, 1), (2, 1, 1)]) ∧
      t = { s with boot := { s.boot with slotImg := t.boot.slotImg }, regs := t.regs, evq := t.evq, ctl := t.ctl } ∧
      Keeps s t [CFG_BOOT_STAT]) ∧
  (∀ (s : State) (a b : Option Img), (s.fld CFG_BOOT_STAT_STEP ≠ 3 ∨ s.boot.held = true) → exec (.imageReadDone a b) s = .next s) ∧
  (∀ (s : State) (n : Nat) (l : List MemOwner) (o : Option Nat), s.tst.boot = true →
    ∃ t, exec (.bootBistDone n l o) s = .next t ∧ t.tst.boot = false ∧ t.fld TST_STAT_BIST = 0 ∧
      (t.rd TST_BIST_CNT_REPAIR).toNat = min ((s.rd TST_BIST_CNT_REPAIR).toNat + n) (2 ^ 32 - 1) ∧
      (∀ m, m ∈ l → s.ownerFenced m = false → FencedBy t m 2)) ∧
  (∀ (s : State) (n a : Nat) (l : List MemOwner), s.tst.boot = true → a < 2 ^ 32 →
    ∃ t, exec (.bootBistDone n l (some a)) s = .next t ∧ t.tst = { s.tst with boot := false } ∧ t.fld TST_BIST_STAT_FAIL = 1 ∧
      (t.rd TST_BIST_FAIL_ADDR).toNat = a ∧ t.fld CFG_BOOT_STAT_STEP = s.fld CFG_BOOT_STAT_STEP ∧ Raises s t 0x2002 0 (evArg [(0, 4, a)]) ∧
      (l = [] → t = { s with tst := t.tst, regs := t.regs, evq := t.evq, ctl := t.ctl } ∧
        Keeps s t [TST_STAT, TST_BIST_STAT, TST_BIST_FAIL_ADDR, TST_BIST_CNT_REPAIR])) ∧
  (∀ (s : State) (n : Nat) (l : List MemOwner), s.tst.boot = true → s.fld CFG_BOOT_STAT_STEP = 4 →
    ∃ t, exec (.bootBistDone n l none) s = .next t ∧ t.tst.boot = false ∧ 5 ≤ t.fld CFG_BOOT_STAT_STEP ∧
      (s.drChans ≠ [] → t.tst = { s.tst with boot := false } ∧ t.fld CFG_BOOT_STAT_STEP = 5)) ∧
  (∀ (s : State) (n : Nat) (l : List MemOwner) (o : Option Nat), s.tst.boot = false → exec (.bootBistDone n l o) s = .next s)

/-- A taken write to a register with ST fields puts them into the bank, makes its port the owner and clears CHECKED, and changes nothing in
force (R550, R551); during a check it invalidates the check (R552). A port that does not own the bank is refused with STATUS 6 (R551), and a
refused write of any kind leaves the bank. CHECK starts a check and asks the homes of sessions elsewhere for admission (R210), and a check that
runs goes on. It completes with RESULT 3 when invalidated, 1 and CHECKED when no rule fails, else 2 with the rule and the place of the first
failure, a refusal by admission being counted (R202), and event 0x0402 (R552, R553, R558); at step 10 the device enters RUN, a pass being pitched
with identifier 0 (R548). DISCARD by the owner or under MAINTAIN empties the bank; by another port it fails. -/
def Obligations.StagingAndTheCheck : Prop :=
  (∀ (s : State) (p : Port) (a : Nat) (v : W32) (r : RegRow),
    regRow a = some r → r.stMask ≠ 0 → Taken s p a v →
    ∃ t w, exec (.stageWrite p a v) s = .next t ∧ Succeeded t ∧ tfind t.stage.writes a = some w ∧ w &&& r.stMask = v &&& r.stMask ∧
      t.stage.owner = p.owner ∧ t.stage.records = s.stage.records ∧ t.stage.pitches = s.stage.pitches ∧
      t.stage.invalid = (s.stage.invalid || s.stage.checking) ∧ t.fld CFG_STAGE_STAT_CHECKED = 0 ∧
      t.fld CFG_STAGE_STAT_WRITES = min (s.fld CFG_STAGE_STAT_WRITES + 1) 0xFFFF ∧ t.rd a &&& r.stMask = s.rd a &&& r.stMask ∧
      (s.boot.held = false → ¬(0xE0000 ≤ a ∧ a < 0xEC000 ∧ a % 0x800 = 0x10 ∧ fieldGet v 4 1 = 1) →
        t = { s with stage := t.stage, regs := t.regs, ctl := t.ctl } ∧ Keeps s t [a, CFG_STAGE_STAT])) ∧
  (∀ (s : State) (p : Port) (a : Nat) (v : W32) (r : RegRow),
    regRow a = some r → r.stMask ≠ 0 → a < 0x400000 → a % 4 = 0 → s.writeLevel p a v r ≤ s.level p → s.windowBusy a = false →
    s.safe.mode = false → s.stage.owner ≠ 0 → s.stage.owner ≠ p.owner →
    ∃ t, exec (.stageWrite p a v) s = .next t ∧ t.ctl.failed = true ∧ t.ctl.status = 6 ∧ t.stage = s.stage ∧
      Keeps s t [SYS_HCP_ERR_ADDR]) ∧
  (∀ (s : State) (p : Port) (a : Nat) (v : W32) (r : RegRow),
    regRow a = some r → r.stMask ≠ 0 → s.writeStatus p a v ≠ 0 →
    ∃ t, exec (.stageWrite p a v) s = .next t ∧ t.ctl.failed = true ∧ t.ctl.status = s.writeStatus p a v ∧ t.stage = s.stage ∧
      Keeps s t [SYS_HCP_ERR_ADDR]) ∧
  (∀ (s : State) (p : Port) (a : Nat) (v : W32), (∀ r, regRow a = some r → r.stMask = 0) → exec (.stageWrite p a v) s = .next s) ∧
  (∀ (s : State) (p : Port),
    Taken s p CFG_CTRL (s.ctrlWord p 1) → s.stage.checking = false →
    ∃ t, exec (.gravityCheck p) s = .next t ∧ Succeeded t ∧ t.stage = { s.stage with checking := true, invalid := false } ∧
      t.fld CFG_CTRL_CHECK = 1 ∧
      (∀ r, r ∈ s.stage.records → r.typ = 3 → rget r.words 0 1 ≠ 0 → s.recState 3 r.index = 0 →
        s.rf 2 (rget r.words 4 4) 2 2 % 4096 ≠ s.ownAddr → Out.admissionReq (rget r.words 4 4) r.index ∈ t.out) ∧
      ((∀ r, r ∈ s.stage.records → r.typ ≠ 3) → Sent s t [] ∧ t.brg = s.brg) ∧
      t = { s with stage := t.stage, brg := { s.brg with admits := t.brg.admits }, out := t.out, regs := t.regs, ctl := t.ctl } ∧
      Keeps s t [CFG_CTRL]) ∧
  (∀ (s : State) (p : Port), Taken s p CFG_CTRL (s.ctrlWord p 1) → s.stage.checking = true →
    ∃ t, exec (.gravityCheck p) s = .next t ∧ Succeeded t ∧ t = { s with ctl := t.ctl }) ∧
  (∀ (s : State) (p : Port), s.writeStatus p CFG_CTRL (s.ctrlWord p 1) ≠ 0 →
    ∃ t, exec (.gravityCheck p) s = .next t ∧ t.ctl.failed = true ∧ t.ctl.status = s.writeStatus p CFG_CTRL (s.ctrlWord p 1) ∧
      t.stage = s.stage ∧ Keeps s t [SYS_HCP_ERR_ADDR]) ∧
  (∀ (s : State), s.stage.checking = false → exec .gravityCheckDone s = .next s) ∧
  (∀ (s : State), s.stage.checking = true → s.stage.invalid = true →
    ∃ t, exec .gravityCheckDone s = .next t ∧ t.stage.checking = false ∧ t.fld CFG_CHECK_RES_RESULT = 3 ∧
      t.fld CFG_STAGE_STAT_CHECKED = 0 ∧ t.fld CFG_CTRL_CHECK = 0 ∧
      (s.fld CFG_BOOT_STAT_STEP ≠ 10 → Raises s t 0x0402 0 (evArg [(0, 1, 3)])) ∧
      (s.Unawaited → t.stage = { s.stage with checking := false, invalid := false } ∧
        t = { s with stage := t.stage, regs := t.regs, evq := t.evq, ctl := t.ctl } ∧
        Keeps s t [CFG_CHECK_RES, CFG_CHECK_ADDR, CFG_STAGE_STAT, CFG_CTRL])) ∧
  (∀ (s : State), s.stage.checking = true → s.stage.invalid = false → s.gravity = none →
    ∃ t, exec .gravityCheckDone s = .next t ∧ t.stage.checking = false ∧ t.fld CFG_CHECK_RES_RESULT = 1 ∧ t.fld CFG_CTRL_CHECK = 0 ∧
      (s.fld CFG_BOOT_STAT_STEP ≠ 10 → Raises s t 0x0402 0 (evArg [(0, 1, 1)])) ∧
      (s.yz.group = none → s.fld CFG_BOOT_STAT_STEP ≠ 10 → t.fld CFG_STAGE_STAT_CHECKED = 1) ∧
      (s.Unawaited → t.stage = { s.stage with checking := false, invalid := false } ∧
        t = { s with stage := t.stage, regs := t.regs, evq := t.evq, ctl := t.ctl } ∧
        Keeps s t [CFG_CHECK_RES, CFG_CHECK_ADDR, CFG_STAGE_STAT, CFG_CTRL])) ∧
  (∀ (s : State) (rule w : Nat),
    s.stage.checking = true → s.stage.invalid = false → s.gravity = some (rule, w) → w < 2 ^ 32 →
    ∃ t, exec .gravityCheckDone s = .next t ∧ t.stage.checking = false ∧ t.fld CFG_CHECK_RES_RESULT = 2 ∧
      t.fld CFG_CHECK_RES_RULE = rule ∧ t.fld CFG_CHECK_ADDR_WHERE = w ∧ t.fld CFG_STAGE_STAT_CHECKED = 0 ∧ t.fld CFG_CTRL_CHECK = 0 ∧
      (s.fld CFG_BOOT_STAT_STEP ≠ 10 → Raises s t 0x0402 0 (evArg [(0, 1, 2), (1, 1, rule), (4, 4, w)])) ∧
      (s.Unawaited → t.stage = { s.stage with checking := false, invalid := false } ∧
        t = { s with stage := t.stage, regs := t.regs, evq := t.evq, ctl := t.ctl } ∧
        (rule ≠ 6 → Keeps s t [CFG_CHECK_RES, CFG_CHECK_ADDR, CFG_STAGE_STAT, CFG_CTRL]) ∧
        Keeps s t [CFG_CHECK_RES, CFG_CHECK_ADDR, CFG_STAGE_STAT, CFG_CTRL, BRG_CNT_REFUSED] ∧
        (rule = 6 → s.projected.admitFails s.stage.records = true →
          t.fld BRG_CNT_REFUSED_COUNT = min (s.fld BRG_CNT_REFUSED_COUNT + 1) (2 ^ 32 - 1)))) ∧
  (∀ (s : State), s.stage.checking = true → s.fld CFG_BOOT_STAT_STEP = 10 → (∀ c, c ∈ s.drChans → s.fld (DRM_CH_STAT_STATE c) ≠ 6) →
    ∃ t, exec .gravityCheckDone s = .next t ∧ t.fld CFG_BOOT_STAT_STEP = 15 ∧ t.fld PWR_MODE_CUR = 2 ∧ t.stage.writes = [] ∧
      t.stage.records = [] ∧ t.fld CFG_BOOT_TIME_VALUE = s.bootMs % 2 ^ 32 ∧
      ((s.stage.invalid = true ∨ s.gravity ≠ none) → t.stage.pitches = s.stage.pitches) ∧
      (s.stage.invalid = false → s.gravity = none → s.yz.group = none →
        ∃ q, t.stage.pitches = s.stage.pitches ++ [q] ∧ q.ident = 0 ∧ q.writes = s.stage.writes ∧ q.records = s.stage.records)) ∧
  (∀ (s : State) (p : Port),
    Taken s p CFG_CTRL (s.ctrlWord p 2) → (s.stage.owner = 0 ∨ s.stage.owner = p.owner ∨ 4 ≤ s.level p) →
    ∃ t, exec (.stageDiscard p) s = .next t ∧ Succeeded t ∧
      t.stage = { s.stage with writes := [], records := [], owner := 0, invalid := s.stage.invalid || s.stage.checking } ∧
      t.fld CFG_STAGE_STAT_WRITES = 0 ∧ t.fld CFG_STAGE_STAT_CHECKED = 0 ∧
      t = { s with stage := t.stage, regs := t.regs, ctl := t.ctl } ∧ Keeps s t [CFG_STAGE_STAT]) ∧
  (∀ (s : State) (p : Port),
    s.writeStatus p CFG_CTRL (s.ctrlWord p 2) = 0 → s.stage.owner ≠ 0 → s.stage.owner ≠ p.owner → s.level p < 4 →
    ∃ t, exec (.stageDiscard p) s = .next t ∧ t.ctl.failed = true ∧ t.ctl.status = 6 ∧ t.stage = s.stage ∧
      Keeps s t [SYS_HCP_ERR_ADDR]) ∧
  (∀ (s : State) (p : Port), s.writeStatus p CFG_CTRL (s.ctrlWord p 2) ≠ 0 →
    ∃ t, exec (.stageDiscard p) s = .next t ∧ t.ctl.failed = true ∧ t.ctl.status = s.writeStatus p CFG_CTRL (s.ctrlWord p 2) ∧
      t.stage = s.stage ∧ Keeps s t [SYS_HCP_ERR_ADDR])

/-- A pitch command is refused with its ERR and leaves the bank (R554), or moves the bank's content to the end of the pending queue with its
identifier, the next sequence number and its instant: now for WHEN 0, the next input frame boundary of a channel for WHEN 1, the named time
for WHEN 2 with LATE when it has passed, 2 ms ahead on an ACTIVE, and not before the instant of the pitch before it (R555). Before its instant
nothing happens; at it a pitch whose placement fails is refused and changes no other register than the count of refused admissions (R556), and
a taken one puts its part of the instant in force. A subsystem at its boundary puts its part in force, not before a pitch that a deferral holds, a
kettle not while it runs a kernel (R295), a channel not before its slot, and a channel's part that needs a random-access point on a missing slot
is deferred by one. The head of the queue completes with its last part, with event 0x0401, CFG_PITCH_LAST and LAST_REFUSED (R555, R557). -/
def Obligations.Pitches : Prop :=
  (∀ (s : State) (p : Port) (v : W32), Taken s p CFG_PITCH v → fieldGet v 0 1 = 0 →
    ∃ t, exec (.pitchCommand p v) s = .next t ∧ Succeeded t ∧ t = { s with ctl := t.ctl }) ∧
  (∀ (s : State) (p : Port) (v : W32) (e : Nat),
    Taken s p CFG_PITCH v → fieldGet v 0 1 = 1 →
    ((e = 1 ∧ s.stage.owner ≠ 0 ∧ s.stage.owner ≠ p.owner) ∨
     ((s.stage.owner = 0 ∨ s.stage.owner = p.owner) ∧
      ((e = 2 ∧ s.bit CFG_STAGE_STAT_CHECKED = false) ∨
       (s.bit CFG_STAGE_STAT_CHECKED = true ∧
        ((e = 3 ∧ 8 ≤ s.stage.pitches.length) ∨
         (s.stage.pitches.length < 8 ∧
          ((e = 4 ∧ fieldGet v 1 2 = 1 ∧ s.bit (ENC_CH_CTRL_EN (fieldGet v 4 4)) = false) ∨ (e = 5 ∧ fieldGet v 1 2 = 3)))))))) →
    ∃ t, exec (.pitchCommand p v) s = .next t ∧ Succeeded t ∧ t.fld CFG_PITCH_STAT_ERR = e ∧ t = { s with regs := t.regs, ctl := t.ctl } ∧
      Keeps s t [CFG_PITCH_STAT]) ∧
  (∀ (s : State) (p : Port) (v : W32), s.writeStatus p CFG_PITCH v ≠ 0 →
    ∃ t, exec (.pitchCommand p v) s = .next t ∧ t.ctl.failed = true ∧ t.ctl.status = s.writeStatus p CFG_PITCH v ∧ t.stage = s.stage ∧
      Keeps s t [SYS_HCP_ERR_ADDR]) ∧
  (∀ (s : State) (p : Port) (v : W32) (want : Int),
    Taken s p CFG_PITCH v → fieldGet v 0 1 = 1 → (s.stage.owner = 0 ∨ s.stage.owner = p.owner) → s.bit CFG_STAGE_STAT_CHECKED = true →
    s.stage.pitches.length < 8 → fieldGet v 1 2 < 3 → (fieldGet v 1 2 = 1 → s.bit (ENC_CH_CTRL_EN (fieldGet v 4 4)) = true) →
    want = (if fieldGet v 1 2 = 1 then s.slotTime (fieldGet v 4 4) (s.slotAfter (fieldGet v 4 4) s.now) / (65536 : Int)
      else if fieldGet v 1 2 = 2 then
        toSigned 64 (s.pairVal CFG_PITCH_TIME_S_LO CFG_PITCH_TIME_S_HI) * 1000000000 + ((s.fld ⟨CFG_PITCH_TIME_NS, 0, 30⟩ : Nat) : Int)
      else s.nowNs) →
    ∃ t q, exec (.pitchCommand p v) s = .next t ∧ Succeeded t ∧
      t.stage = { s.stage with
        writes := [], records := [], owner := 0, invalid := s.stage.invalid || s.stage.checking, pitchSeq := s.stage.pitchSeq + 1,
        pitches := s.stage.pitches ++ [q] } ∧
      q = { Pitch.blank with
        ident := (s.rd CFG_PITCH_ID).toNat, seq := s.stage.pitchSeq + 1, instant := q.instant, late := decide (want < s.nowNs),
        writes := s.stage.writes, records := s.stage.records, host := s.stage.owner == 1 || s.stage.owner == 2 } ∧
      (s.stage.pitches = [] → s.role ≠ 1 → q.instant = max want s.nowNs) ∧
      (s.stage.pitches = [] → s.role = 1 → q.instant = max want (s.nowNs + 2000000)) ∧
      (∀ x, s.stage.pitches.getLast? = some x → s.role ≠ 1 → q.instant = max (max want s.nowNs) x.instant) ∧
      (∀ x, s.stage.pitches.getLast? = some x → s.role = 1 → q.instant = max (max want (s.nowNs + 2000000)) x.instant) ∧
      t.fld CFG_STAGE_STAT_CHECKED = 0 ∧ t.fld CFG_STAGE_STAT_WRITES = 0 ∧
      (s.role ≠ 1 → t = { s with stage := t.stage, regs := t.regs, ctl := t.ctl } ∧ Keeps s t [CFG_STAGE_STAT])) ∧
  (∀ (s : State), (∀ q, q ∈ s.stage.pitches → q.checked = true) → exec .pitchInstant s = .next s) ∧
  (∀ (s : State) (q : Pitch), s.stage.pitches.find? (fun x => !x.checked) = some q → s.nowNs < q.instant → exec .pitchInstant s = .next s) ∧
  (∀ (s : State) (q : Pitch) (l : List Pitch),
    s.stage.pitches = q :: l → q.checked = false → LaterPitches q l → q.instant ≤ s.nowNs →
    (s.placementOk q = false ∨ (q.group = true ∧ s.bit YZ_COORD1_VALID = false)) →
    ∃ t, exec .pitchInstant s = .next t ∧ t.stage = { s.stage with pitches := l } ∧ (t.rd CFG_PITCH_LAST).toNat = q.ident % 2 ^ 32 ∧
      t.fld CFG_PITCH_STAT_LAST_REFUSED = 1 ∧ Raises s t 0x0401 0 (evArg [(0, 4, q.ident), (4, 1, 1), (5, 1, b2n q.late), (8, 4, q.seq)]) ∧
      t = { s with stage := t.stage, regs := t.regs, evq := t.evq, ctl := t.ctl } ∧
      Keeps s t [CFG_PITCH_LAST, CFG_PITCH_STAT, BRG_CNT_REFUSED] ∧
      (((s.landWrites q.writes).runAssign).admitFails q.records = false → t.rd BRG_CNT_REFUSED = s.rd BRG_CNT_REFUSED) ∧
      (((s.landWrites q.writes).runAssign).admitFails q.records = true →
        t.fld BRG_CNT_REFUSED_COUNT = min (s.fld BRG_CNT_REFUSED_COUNT + 1) (2 ^ 32 - 1))) ∧
  (∀ (s : State) (q x : Pitch) (l : List Pitch),
    s.stage.pitches = x :: q :: l → x.checked = true → x.waiting ≠ [] → x.seq ≠ q.seq → q.checked = false → LaterPitches q l →
    q.instant ≤ s.nowNs → (s.placementOk q = false ∨ (q.group = true ∧ s.bit YZ_COORD1_VALID = false)) →
    ∃ t, exec .pitchInstant s = .next t ∧
      t.stage = { s.stage with pitches := x :: { q with checked := true, refused := true, waiting := [] } :: l } ∧
      t = { s with stage := t.stage, regs := t.regs } ∧ Keeps s t [BRG_CNT_REFUSED]) ∧
  (∀ (s : State) (q : Pitch) (l : List Pitch),
    s.stage.pitches = q :: l → q.checked = false → q.refused = false → LaterPitches q l → (q.group = false ∨ s.bit YZ_COORD1_VALID = true) →
    q.instant ≤ s.nowNs → s.placementOk q = true → (∀ e, e ∈ q.writes → e.1 / 0x10000 = 3 ∨ e.1 / 0x10000 = 13) →
    (q.writes.map (fun e => e.1)).Nodup → q.records = [] → q.skip = [] →
    ∃ t, exec .pitchInstant s = .next t ∧
      (∀ e r, e ∈ q.writes → regRow e.1 = some r → t.rd e.1 &&& r.stMask = e.2 &&& r.stMask) ∧
      t.stage = { s.stage with pitches := l } ∧ (t.rd CFG_PITCH_LAST).toNat = q.ident % 2 ^ 32 ∧
      t.fld CFG_PITCH_STAT_LAST_REFUSED = 0 ∧ Raises s t 0x0401 0 (evArg [(0, 4, q.ident), (5, 1, b2n q.late), (8, 4, q.seq)])) ∧
  (∀ (s : State) (q : Pitch) (l : List Pitch) (k : Nat),
    s.stage.pitches = q :: l → q.checked = false → q.refused = false → LaterPitches q l → (q.group = false ∨ s.bit YZ_COORD1_VALID = true) →
    q.instant ≤ s.nowNs → s.placementOk q = true → q.writes ≠ [] → (∀ e, e ∈ q.writes → partOf e.1 = k) → (17 ≤ k ∧ k < 22) →
    q.records = [] → q.skip = [] →
    ∃ t, exec .pitchInstant s = .next t ∧ t.stage = { s.stage with pitches := { q with checked := true, waiting := [k] } :: l } ∧
      ∀ e r, e ∈ q.writes → regRow e.1 = some r → t.rd e.1 &&& r.stMask = s.rd e.1 &&& r.stMask) ∧
  (∀ (s : State) (k : Fin 76) (g : Bool), (∀ q, q ∈ s.stage.pitches → q.checked = true → k.val ∉ q.waiting) →
    exec (.pitchBoundaryApply k g) s = .next s) ∧
  (∀ (s : State) (k : Fin 76) (g : Bool) (x q : Pitch) (l : List Pitch),
    s.stage.pitches = x :: q :: l → k.val ∉ x.waiting → x.skip ≠ [] → x.seq ≠ q.seq → q.checked = true → k.val ∈ q.waiting →
    exec (.pitchBoundaryApply k g) s = .next s) ∧
  (∀ (s : State) (k : Fin 76) (g : Bool) (q : Pitch) (l : List Pitch),
    (17 ≤ k.val ∧ k.val ≠ 21 ∧ k.val < 40) → s.stage.pitches = q :: l → LaterPitches q l → q.checked = true → q.waiting = [k.val] →
    q.records = [] →
    ∃ t, exec (.pitchBoundaryApply k g) s = .next t ∧ t.stage = { s.stage with pitches := l } ∧
      (t.rd CFG_PITCH_LAST).toNat = q.ident % 2 ^ 32 ∧ t.fld CFG_PITCH_STAT_LAST_REFUSED = b2n q.refused ∧
      Raises s t 0x0401 0 (evArg [(0, 4, q.ident), (4, 1, b2n q.refused), (5, 1, b2n q.late), (8, 4, q.seq)]) ∧
      t = { s with stage := t.stage, regs := t.regs, evq := t.evq, ctl := t.ctl } ∧
      Keeps (s.landWrites (s.portWrites q k)) t [CFG_PITCH_LAST, CFG_PITCH_STAT]) ∧
  (∀ (s : State) (k : Fin 76) (g : Bool) (q : Pitch) (l : List Pitch),
    (k.val = 21 ∨ 40 ≤ k.val) → (64 ≤ k.val → s.ketBusy (k - 64) = false) → s.stage.pitches = q :: l → LaterPitches q l → q.checked = true →
    q.waiting = [k.val] → q.records = [] →
    ∃ t, exec (.pitchBoundaryApply k g) s = .next t ∧ t.stage = { s.stage with pitches := l } ∧
      (∀ e r, e ∈ q.part k → tfind (q.part k) e.1 = some e.2 → ((q.part k).map (fun x => x.1)).Nodup → regRow e.1 = some r →
        t.rd e.1 &&& r.stMask = e.2 &&& r.stMask) ∧
      (t.rd CFG_PITCH_LAST).toNat = q.ident % 2 ^ 32 ∧ t.fld CFG_PITCH_STAT_LAST_REFUSED = b2n q.refused ∧
      Raises s t 0x0401 0 (evArg [(0, 4, q.ident), (4, 1, b2n q.refused), (5, 1, b2n q.late), (8, 4, q.seq)])) ∧
  (∀ (s : State) (k : Fin 76) (g : Bool) (q : Pitch) (l : List Pitch),
    64 ≤ k.val → s.ketBusy (k - 64) = true → s.stage.pitches = q :: l → q.checked = true → q.waiting = [k.val] →
    exec (.pitchBoundaryApply k g) s = .next s) ∧
  (∀ (s : State) (n : Fin 16) (k : Fin 76) (g : Bool) (q : Pitch) (l : List Pitch),
    k.val = n.val + 1 → s.stage.pitches = q :: l → q.checked = true → q.waiting = [k.val] → s.bit (ENC_CH_CTRL_EN n) = true →
    s.now < s.slotTime n ((tfind q.skip k).getD (s.slotAfter n (q.instant * 65536))) → exec (.pitchBoundaryApply k g) s = .next s) ∧
  (∀ (s : State) (n : Fin 16) (k : Fin 76) (g : Bool) (q : Pitch) (l : List Pitch) (u : State),
    k.val = n.val + 1 → s.stage.pitches = q :: l → LaterPitches q l → q.checked = true → q.waiting = [k.val] → q.records = [] →
    s.landChan n q g = some (u, none) →
    ∃ t, exec (.pitchBoundaryApply k g) s = .next t ∧ t.enc = u.enc ∧ t.stage = { s.stage with pitches := l } ∧
      (t.rd CFG_PITCH_LAST).toNat = q.ident % 2 ^ 32 ∧
      Raises u t 0x0401 0 (evArg [(0, 4, q.ident), (4, 1, b2n q.refused), (5, 1, b2n q.late), (8, 4, q.seq)])) ∧
  (∀ (s : State) (n : Fin 16) (k : Fin 76) (g : Bool) (q : Pitch) (l : List Pitch) (j : Nat),
    k.val = n.val + 1 → s.stage.pitches = q :: l → LaterPitches q l → q.checked = true → q.waiting = [k.val] →
    s.bit (ENC_CH_CTRL_EN n) = true → (s.landWrites (q.part k)).bit (ENC_CH_CTRL_EN n) = true →
    j = (tfind q.skip k).getD (s.slotAfter n (q.instant * 65536)) → s.slotTime n j ≤ s.now →
    (∃ r, r < 12 ∧ (s.rendRestarts (s.landWrites (q.part k)) n r = true ∨ s.rcForces (s.landWrites (q.part k)) n r = true)) →
    (((s.chan n).slot j).missing = true ∨ (g = true ∧ nbit ((s.chan n).slot j).decided 0 = false)) →
    ∃ t, exec (.pitchBoundaryApply k g) s = .next t ∧ t.stage = { s.stage with pitches := { q with skip := tput q.skip k (j + 1) } :: l } ∧
      t = { s with stage := t.stage })

/-- A taken write of a register without a command stores its RW fields, clears the W1C bits written 1, puts its ST fields in the bank and leaves
the rest (R561, R580, R582); a write of a command register acts as the command's own row. A refused access fails with its STATUS, data 0
(R562), an address outside the map with STATUS 5 (R578). A read returns the register's word, a firmware area's a free value (log entry 37), and
its RC fields lose the value read, a saturated one all of it (R563, R581); the read of the seconds latches the time (R370). A freeze keeps
registers, event queue, staging and timebase as they are, a second one changes nothing, a release or 10 µs end it (R564). EVQ_RD moves forward
within the queue or is refused (R590), and room lets the 0x0501 record in (R589). The cask window fetches the identity area, the last-good
records and the fault log, writes them under MAINTAIN, and reports what it refuses (R565, R567). -/
def Obligations.RegisterAccess : Prop :=
  (∀ (s : State) (p : Port) (a : Nat) (v : W32) (r : RegRow),
    regRow a = some r → r.fields = [⟨0, 32, .rw⟩] → a ≠ EVQ_RD → a ≠ DRM_XLATE_HI → a / 0x10000 ≠ 7 → Taken s p a v → s.boot.held = false →
    ∃ t, exec (.registerWrite p a v) s = .next t ∧ Succeeded t ∧ t.rd a = v ∧ t = { s with regs := t.regs, ctl := t.ctl } ∧ Keeps s t [a]) ∧
  (∀ (s : State) (p : Port) (v : W32), Taken s p TST_JTAG_STAT v → s.boot.held = false →
    ∃ t, exec (.registerWrite p TST_JTAG_STAT v) s = .next t ∧ Succeeded t ∧
      t.fld TST_JTAG_STAT_REFUSED = (if fieldGet v 9 1 = 1 then 0 else s.fld TST_JTAG_STAT_REFUSED) ∧
      t.fld TST_JTAG_STAT_IR = s.fld TST_JTAG_STAT_IR ∧ t = { s with regs := t.regs, ctl := t.ctl } ∧ Keeps s t [TST_JTAG_STAT]) ∧
  (∀ (s : State) (p : Port) (a : Nat) (v : W32) (r : RegRow),
    regRow a = some r → Taken s p a v → ownWrite a = false → (∀ t, State.regEffect s t p a v = t) →
    ∃ t, exec (.registerWrite p a v) s = .next t ∧ Succeeded t ∧
      (∀ f, f ∈ r.fields → (f.acc = .rw ∨ f.acc = .rws) → t.fld ⟨a, f.lo, f.width⟩ = fieldGet v f.lo f.width) ∧
      (∀ f, f ∈ r.fields → f.acc = .w1c →
        t.fld ⟨a, f.lo, f.width⟩ = s.fld ⟨a, f.lo, f.width⟩ &&& (2 ^ 32 - 1 - fieldGet v f.lo f.width)) ∧
      (∀ f, f ∈ r.fields → f.acc ≠ .rw → f.acc ≠ .rws → f.acc ≠ .w1c → a ≠ CFG_BOOT_STAT → a ≠ CFG_STAGE_STAT →
        t.fld ⟨a, f.lo, f.width⟩ = s.fld ⟨a, f.lo, f.width⟩) ∧
      (r.stMask ≠ 0 → ∃ w, tfind t.stage.writes a = some w ∧ w &&& r.stMask = v &&& r.stMask ∧ t.stage.owner = p.owner) ∧
      (r.stMask = 0 → t.stage = s.stage) ∧ Keeps s t [a, CFG_STAGE_STAT, CFG_BOOT_STAT] ∧
      t = { s with regs := t.regs, ctl := t.ctl, stage := t.stage, boot := t.boot }) ∧
  (∀ (s : State) (p : Port) (a : Nat) (v : W32), a < 0x400000 → a % 4 = 0 → regRow a = none → inFirmwareArea a = true → ownWrite a = false →
    (∀ t, State.regEffect s t p a v = t) → ignoredWrite a = false →
    ∃ t, exec (.registerWrite p a v) s = .next t ∧ Succeeded t ∧ t = { s with ctl := t.ctl }) ∧
  (∀ (s : State) (p : Port) (v : W32), exec (.registerWrite p CFG_PITCH v) s = exec (.pitchCommand p v) s ∧
    exec (.registerWrite p EVQ_RD v) s = exec (.evqRdWrite p v) s ∧ exec (.registerWrite p SYS_SNAP 1) s = exec (.snapFreeze p) s ∧
    exec (.registerWrite p SYS_CASK_CMD 0x20000000) s = exec (.caskWrite p) s ∧
    exec (.registerWrite p SYS_SNAP 0) s = exec (.snapRelease p) s ∧ exec (.registerWrite p SYS_CTRL v) s = exec (.safeCommand p v) s ∧
    exec (.registerWrite p DRM_XLATE_HI v) s = exec (.xlate p v) s ∧
    exec (.registerWrite p SYS_CASK_CMD 0x10000000) s = exec (.caskFetch p false) s) ∧
  (∀ (s : State) (p : Port) (v : W32) (n : Fin 16) (i l : Fin 64) (c : Fin 96),
    exec (.registerWrite p (ENC_CH_HINT n) v) s = exec (.chHintWrite p n v) s ∧
    exec (.registerWrite p (TB_TRIG_CFG i) v) s = exec (.triggerArm p i v) s ∧
    exec (.registerWrite p (THM_SENS i) v) s = exec (.sensorRejoinCmd p i v) s ∧
    exec (.registerWrite p (LNK_ES_CTRL l) v) s = exec (.eyeScanRun p l v) s ∧
    exec (.registerWrite p (DSP_CORE_MBOX c) v) s = exec (.mboxWrite p c v) s ∧
    exec (.registerWrite p (TST_LANE_GEN l) v) s = exec (.tstLaneGenWrite p l v) s ∧
    exec (.registerWrite p (TST_LANE_CHK l) v) s = exec (.tstLaneChkWrite p l v) s ∧
    exec (.registerWrite p (TST_LANE_LOOP l) v) s = exec (.tstLaneLoopWrite p l v) s) ∧
  (∀ (s : State) (p : Port) (a : Nat) (v : W32), s.writeStatus p a v ≠ 0 →
    ∃ t, exec (.registerWrite p a v) s = .next t ∧ t.ctl.failed = true ∧ t.ctl.status = s.writeStatus p a v ∧ t.ctl.rdData = 0 ∧
      Keeps s t [SYS_HCP_ERR_ADDR] ∧ (p = .hcp → t.fld SYS_HCP_ERR_ADDR_VALID = 1 ∧ t.fld SYS_HCP_ERR_ADDR_WRITE = 1)) ∧
  (∀ (s : State) (p : Port) (a : Nat) (v : W32), (0x400000 ≤ a ∨ a % 4 ≠ 0 ∨ (regRow a = none ∧ inFirmwareArea a = false)) →
    ∃ t, exec (.registerWrite p a v) s = .next t ∧ t.ctl.failed = true ∧ t.ctl.status = 5 ∧ t.ctl.rdData = 0 ∧
      Keeps s t [SYS_HCP_ERR_ADDR]) ∧
  (∀ (s : State) (p : Port) (a : Nat) (r : RegRow),
    s.readStatus p a = 0 → regRow a = some r → (∀ f, f ∈ r.fields → f.acc ≠ .rc) → a ≠ TB_TIME_S_LO → ¬(0x63000 ≤ a ∧ a < 0x63800) →
    ∃ t, exec (.rcRead p a) s = .next t ∧ Succeeded t ∧ t.ctl.rdData = s.readWord p a r ∧ t = { s with ctl := t.ctl }) ∧
  (∀ (s : State) (p : Port) (a : Nat) (r : RegRow) (f : FieldRow),
    s.readStatus p a = 0 → regRow a = some r → f ∈ r.fields → f.acc = .rc → ¬(0x80000 ≤ a ∧ a < 0xC0000 ∧ a % 0x1000 = 4) →
    s.ctl.frozen = none → s.view a = s.rd a → a ≠ TB_TIME_S_LO → ¬(0x63000 ≤ a ∧ a < 0x63800) →
    ∃ t, exec (.rcRead p a) s = .next t ∧ Succeeded t ∧ fieldGet t.ctl.rdData f.lo f.width = s.fld ⟨a, f.lo, f.width⟩ ∧
      t.fld ⟨a, f.lo, f.width⟩ = 0 ∧ t = { s with regs := t.regs, ctl := t.ctl } ∧ Keeps s t [a]) ∧
  (∀ (s : State) (p : Port) (a : Nat) (r : RegRow),
    s.readStatus p a = 0 → regRow a = some r → ¬(0x80000 ≤ a ∧ a < 0xC0000 ∧ a % 0x1000 = 4) →
    ∃ t, exec (.rcRead p a) s = .next t ∧ Succeeded t ∧ t.ctl.rdData = s.readWord p a r ∧
      (∀ f, f ∈ r.fields → f.acc = .rc → t.fld ⟨a, f.lo, f.width⟩ =
        (if fieldGet t.ctl.rdData f.lo f.width = 2 ^ f.width - 1 then 0
        else s.fld ⟨a, f.lo, f.width⟩ - fieldGet t.ctl.rdData f.lo f.width)) ∧
      (∀ f, f ∈ r.fields → f.acc ≠ .rc → t.fld ⟨a, f.lo, f.width⟩ = s.fld ⟨a, f.lo, f.width⟩) ∧
      t = { s with regs := t.regs, ctl := t.ctl, tb := t.tb } ∧ Keeps s t [a] ∧
      (a ≠ TB_TIME_S_LO → ¬(0x63000 ≤ a ∧ a < 0x63800 ∧ a % 0x20 = 0x10) → t.tb = s.tb)) ∧
  (∀ (s : State) (p : Port) (l : Fin 64) (r : RegRow) (f : FieldRow),
    s.readStatus p (0x80004 + 0x1000 * l) = 0 → regRow (0x80004 + 0x1000 * l) = some r → f ∈ r.fields → f.acc = .rc →
    ∃ t, exec (.rcRead p (0x80004 + 0x1000 * l)) s = .next t ∧ Succeeded t ∧ t.ctl.rdData = s.readWord p (0x80004 + 0x1000 * l) r ∧
      t.fld ⟨0x80004 + 0x1000 * l, f.lo, f.width⟩ = fieldGet (regReset (0x80004 + 0x1000 * l)) f.lo f.width) ∧
  (∀ (s : State) (p : Port), s.readStatus p TB_TIME_S_LO = 0 →
    ∃ t, exec (.rcRead p TB_TIME_S_LO) s = .next t ∧ Succeeded t ∧ t.tb = { s.tb with latch := s.now, latched := true } ∧
      t = { s with tb := t.tb, ctl := t.ctl }) ∧
  (∀ (s : State) (p : Port) (a : Nat), s.readStatus p a = 0 → regRow a = none →
    ∃ t, exec (.rcRead p a) s = .next t ∧ Succeeded t ∧ t.ctl.rdData = Config.firmwareWord a s.fresh ∧
      t = { s with ctl := t.ctl, fresh := s.fresh + 1 }) ∧
  (∀ (s : State) (p : Port) (a st : Nat), s.readStatus p a = st → st ≠ 0 →
    ∃ t, exec (.rcRead p a) s = .next t ∧ t.ctl.failed = true ∧ t.ctl.status = st ∧ t.ctl.rdData = 0 ∧ Keeps s t [SYS_HCP_ERR_ADDR] ∧
      (p = .hcp → t.fld SYS_HCP_ERR_ADDR_VALID = 1 ∧ t.fld SYS_HCP_ERR_ADDR_WRITE = 0)) ∧
  (∀ (s : State) (p : Port) (a : Nat) (r : RegRow) (f : Snap),
    s.readStatus p a = 0 → regRow a = some r → (∀ x, x ∈ r.fields → x.acc = .ro) → s.ctl.frozen = some f →
    ¬(0x60010 ≤ a ∧ a ≤ 0x6001C) → ¬(0x63000 ≤ a ∧ a < 0x63800) → a ≠ SYS_SNAP →
    ∃ t, exec (.rcRead p a) s = .next t ∧ Succeeded t ∧
      t.ctl.rdData = ({ s with regs := f.regs, evq := f.evq, stage := f.stage, tb := f.tb } : State).readWord p a r) ∧
  (∀ (s : State) (p : Port), Taken s p SYS_SNAP 1 → s.ctl.frozen = none →
    ∃ t f, exec (.snapFreeze p) s = .next t ∧ Succeeded t ∧ t.ctl.frozen = some f ∧ t.ctl.frozenRaw = s.raw ∧ f.evq = s.evq ∧
      f.stage = s.stage ∧ f.tb = s.tb ∧ (∀ a, a ≠ SYS_SNAP → tget regReset f.regs a = s.rd a) ∧ t.fld SYS_SNAP_EXPIRED = 0 ∧
      t = { s with regs := t.regs, ctl := t.ctl } ∧ Keeps s t [SYS_SNAP]) ∧
  (∀ (s : State) (p : Port) (f : Snap), Taken s p SYS_SNAP 1 → s.ctl.frozen = some f →
    ∃ t, exec (.snapFreeze p) s = .next t ∧ Succeeded t ∧ t.ctl.frozen = some f ∧ t.ctl.frozenRaw = s.ctl.frozenRaw ∧ Keeps s t [SYS_SNAP]) ∧
  (∀ (s : State) (p : Port), Taken s p SYS_SNAP 0 →
    ∃ t, exec (.snapRelease p) s = .next t ∧ Succeeded t ∧ t.ctl.frozen = none ∧ t = { s with regs := t.regs, ctl := t.ctl } ∧
      Keeps s t [SYS_SNAP]) ∧
  (∀ (s : State), s.ctl.frozen ≠ none → s.raw - s.ctl.frozenRaw ≥ 10 * usU →
    ∃ t, exec .snapExpire s = .next t ∧ t.ctl = { s.ctl with frozen := none } ∧ t.fld SYS_SNAP_EXPIRED = 1 ∧ t.fld SYS_SNAP_FREEZE = 0 ∧
      t = { s with regs := t.regs, ctl := t.ctl } ∧ Keeps s t [SYS_SNAP]) ∧
  (∀ (s : State), (s.ctl.frozen = none ∨ s.raw - s.ctl.frozenRaw < 10 * usU) → exec .snapExpire s = .next s) ∧
  (∀ (s : State) (p : Port) (v : W32),
    s.writeStatus p EVQ_RD v = 0 → (v - BitVec.ofNat 32 s.evq.rd).toNat ≤ s.evq.wr - s.evq.rd → s.evq.unrep = 0 →
    ∃ t, exec (.evqRdWrite p v) s = .next t ∧ Succeeded t ∧
      t = { s with evq := { s.evq with rd := s.evq.rd + (v - BitVec.ofNat 32 s.evq.rd).toNat }, ctl := t.ctl }) ∧
  (∀ (s : State) (p : Port) (v : W32),
    s.writeStatus p EVQ_RD v = 0 → (v - BitVec.ofNat 32 s.evq.rd).toNat ≤ s.evq.wr - s.evq.rd → 0 < s.evq.unrep →
    s.evMasked 0x0501 = true → s.evq.wr - (s.evq.rd + (v - BitVec.ofNat 32 s.evq.rd).toNat) < 1024 →
    ∃ t, exec (.evqRdWrite p v) s = .next t ∧ Succeeded t ∧ t.evq.unrep = 0 ∧ t.evq.wr = s.evq.wr + 1 ∧
      t.evq.record s.evq.wr = s.evRec 0x0501 0 (evArg [(0, 4, s.evq.unrep)]) ∧ t = { s with evq := t.evq, ctl := t.ctl }) ∧
  (∀ (s : State) (p : Port) (v : W32),
    s.writeStatus p EVQ_RD v = 0 → (v - BitVec.ofNat 32 s.evq.rd).toNat ≤ s.evq.wr - s.evq.rd →
    (s.evMasked 0x0501 = false ∨ 1024 ≤ s.evq.wr - (s.evq.rd + (v - BitVec.ofNat 32 s.evq.rd).toNat)) →
    ∃ t, exec (.evqRdWrite p v) s = .next t ∧ Succeeded t ∧
      t = { s with evq := { s.evq with rd := s.evq.rd + (v - BitVec.ofNat 32 s.evq.rd).toNat }, ctl := t.ctl }) ∧
  (∀ (s : State) (p : Port) (v : W32),
    s.writeStatus p EVQ_RD v = 0 → s.evq.wr - s.evq.rd < (v - BitVec.ofNat 32 s.evq.rd).toNat →
    ∃ t, exec (.evqRdWrite p v) s = .next t ∧ t.ctl.failed = true ∧ t.ctl.status = 4 ∧
      (s.evq.wr - s.evq.rd < 1000 → t.evq.rd = s.evq.rd) ∧ Keeps s t [SYS_HCP_ERR_ADDR]) ∧
  (∀ (s : State) (p : Port) (bad : Bool) (off : Nat),
    Taken s p SYS_CASK_CMD 0x10000000 → s.fld SYS_CASK_ADDR_BYTE = off → off % 256 = 0 → 0x20000 ≤ off → off < 0xA0000 →
    ∃ t, exec (.caskFetch p bad) s = .next t ∧ Succeeded t ∧ t.fld SYS_CASK_STAT_ERR = (if bad then 2 else 0) ∧
      (List.range 64).map (fun i => t.rd (SYS_CASK_DATA i)) = s.cask.recordWords ((off - 0x20000) / 64) 4 ∧
      (bad = true → tget (fun _ => Lim.zero) s.safe.suppress (limKey 12 0) = Lim.zero →
        (t.cask.record s.cask.logSeq).cls = 12 ∧ (t.cask.record s.cask.logSeq).action = 0) ∧ (bad = false → t.cask = s.cask) ∧
      t = { s with regs := t.regs, ctl := t.ctl, cask := t.cask, safe := { s.safe with suppress := t.safe.suppress } } ∧
      Keeps s t (SYS_CASK_STAT :: (List.range 64).map SYS_CASK_DATA)) ∧
  (∀ (s : State) (p : Port) (bad : Bool) (off : Nat),
    Taken s p SYS_CASK_CMD 0x10000000 → s.fld SYS_CASK_ADDR_BYTE = off → off % 256 = 0 → off < 0x19000 →
    ∃ t, exec (.caskFetch p bad) s = .next t ∧ Succeeded t ∧ t.fld SYS_CASK_STAT_ERR = (if bad then 2 else 0) ∧
      (off < 0x1000 → (List.range 64).map (fun i => t.rd (SYS_CASK_DATA i)) =
        (List.range 64).map (fun i => Config.identityWord (off / 4 + i) s.cask.boot s.cask.epoch s.cask.gyle s.cask.gyleSeen)) ∧
      (∀ g, 0x1000 ≤ off → g = tget (fun _ => LastGood.zero) s.cask.lastGood ((off - 0x1000) / 0x400) →
        (List.range 64).map (fun i => t.rd (SYS_CASK_DATA i)) =
          (List.range 64).map (fun i => Config.goodWord (off % 0x400 / 4 + i) g.present g.rate g.ident g.temp g.words)) ∧
      (bad = true → off < 0x1000 → t.cask.identBad = true ∧ (s.cask.identBad = false → Raises s t 0x0D07 0 0)) ∧
      (bad = false → t.cask = s.cask) ∧ Keeps s t (SYS_CASK_STAT :: (List.range 64).map SYS_CASK_DATA)) ∧
  (∀ (s : State) (p : Port) (bad : Bool) (off : Nat),
    Taken s p SYS_CASK_CMD 0x10000000 → s.fld SYS_CASK_ADDR_BYTE = off → off % 256 = 0 → 0xA0000 ≤ off →
    ∃ t, exec (.caskFetch p bad) s = .next t ∧ Succeeded t ∧ t.fld SYS_CASK_STAT_ERR = (if bad then 2 else 0) ∧
      (∀ i, i < 64 → t.rd (SYS_CASK_DATA i) = 0) ∧ Keeps s t (SYS_CASK_STAT :: (List.range 64).map SYS_CASK_DATA)) ∧
  (∀ (s : State) (p : Port) (bad : Bool) (off : Nat),
    Taken s p SYS_CASK_CMD 0x10000000 → s.fld SYS_CASK_ADDR_BYTE = off → (off % 256 ≠ 0 ∨ (0x19000 ≤ off ∧ off < 0x20000)) →
    ∃ t, exec (.caskFetch p bad) s = .next t ∧ Succeeded t ∧ t.fld SYS_CASK_STAT_ERR = 1 ∧ t = { s with regs := t.regs, ctl := t.ctl } ∧
      Keeps s t [SYS_CASK_STAT]) ∧
  (∀ (s : State) (p : Port) (off : Nat),
    Taken s p SYS_CASK_CMD 0x20000000 → s.fld SYS_CASK_ADDR_BYTE = off → off % 256 = 0 → 0x20000 ≤ off →
    off < 0xA0000 →
    ∃ t, exec (.caskWrite p) s = .next t ∧ Succeeded t ∧ t.fld SYS_CASK_STAT_ERR = 0 ∧
      (∀ j, j < 4 → t.cask.record ((off - 0x20000) / 64 + j) =
        faultOf ((List.range 16).map (fun i => s.rd (SYS_CASK_DATA (16 * j + i))))) ∧
      (∀ n, n < 8192 → (n < (off - 0x20000) / 64 ∨ (off - 0x20000) / 64 + 4 ≤ n) → t.cask.record n = s.cask.record n) ∧
      t = { s with cask := { s.cask with log := t.cask.log }, boot := t.boot, regs := t.regs, ctl := t.ctl } ∧ t.boot.held = false ∧
      Keeps s t [SYS_CASK_STAT, CFG_BOOT_STAT]) ∧
  (∀ (s : State) (p : Port) (off : Nat),
    Taken s p SYS_CASK_CMD 0x20000000 → s.fld SYS_CASK_ADDR_BYTE = off → (off % 256 ≠ 0 ∨ (0x19000 ≤ off ∧ off < 0x20000)) →
    ∃ t, exec (.caskWrite p) s = .next t ∧ Succeeded t ∧ t.fld SYS_CASK_STAT_ERR = 1 ∧ t.boot.held = false ∧
      t = { s with boot := t.boot, regs := t.regs, ctl := t.ctl } ∧ Keeps s t [SYS_CASK_STAT, CFG_BOOT_STAT]) ∧
  (∀ (s : State) (p : Port) (off : Nat),
    Taken s p SYS_CASK_CMD 0x20000000 → s.fld SYS_CASK_ADDR_BYTE = off → off % 256 = 0 → 0xA0000 ≤ off →
    ∃ t, exec (.caskWrite p) s = .next t ∧ Succeeded t ∧ t.fld SYS_CASK_STAT_ERR = 3 ∧ t.boot.held = false ∧
      t = { s with boot := t.boot, regs := t.regs, ctl := t.ctl } ∧ Keeps s t [SYS_CASK_STAT, CFG_BOOT_STAT]) ∧
  (∀ (s : State) (p : Port) (off b e g h : Nat),
    Taken s p SYS_CASK_CMD 0x20000000 → s.fld SYS_CASK_ADDR_BYTE = off → off % 256 = 0 → off < 0x1000 →
    Config.identityDecode ((List.range 64).map (fun i => s.rd (SYS_CASK_DATA i))) = (b, e, g, h) →
    ∃ t, exec (.caskWrite p) s = .next t ∧ Succeeded t ∧ t.boot.held = false ∧
      ((e < s.cask.epoch ∨ g < s.cask.gyle ∨ h < s.cask.gyleSeen) → t.fld SYS_CASK_STAT_ERR = 3 ∧ t.cask = s.cask) ∧
      (s.cask.epoch ≤ e → s.cask.gyle ≤ g → s.cask.gyleSeen ≤ h → t.fld SYS_CASK_STAT_ERR = 0 ∧
        t.cask = { s.cask with boot := b, epoch := e, gyle := g, gyleSeen := h, identBad := false }) ∧
      t = { s with cask := t.cask, boot := t.boot, regs := t.regs, ctl := t.ctl } ∧ Keeps s t [SYS_CASK_STAT, CFG_BOOT_STAT]) ∧
  (∀ (s : State) (p : Port) (off i : Nat) (g : LastGood),
    Taken s p SYS_CASK_CMD 0x20000000 → s.fld SYS_CASK_ADDR_BYTE = off → off % 256 = 0 → 0x1000 ≤ off → off < 0x19000 →
    i = (off - 0x1000) / 0x400 → g = tget (fun _ => LastGood.zero) s.cask.lastGood i →
    ∃ t x, exec (.caskWrite p) s = .next t ∧ Succeeded t ∧ t.fld SYS_CASK_STAT_ERR = 0 ∧ t.boot.held = false ∧
      tget (fun _ => LastGood.zero) t.cask.lastGood i = x ∧
      (x.present, x.rate, x.ident, x.temp, x.words) = Config.goodWrite (off % 0x400 / 0x100)
        ((List.range 64).map (fun j => s.rd (SYS_CASK_DATA j))) (g.present, g.rate, g.ident, g.temp, g.words) ∧
      (∀ j, j ≠ i → tget (fun _ => LastGood.zero) t.cask.lastGood j = tget (fun _ => LastGood.zero) s.cask.lastGood j) ∧
      t = { s with cask := { s.cask with lastGood := t.cask.lastGood }, boot := t.boot, regs := t.regs, ctl := t.ctl } ∧
      Keeps s t [SYS_CASK_STAT, CFG_BOOT_STAT])

/-- An operation runs when its request came by a port that takes requests, in its place, from a sender whose earlier request is over (R569 to R571);
a new sender's runs, a known sender's with another ALIVE begins anew and a skipped ALIVE is counted, and the same ALIVE again gets the stored reply
and nothing runs (R571). An operation refused for its version, size, group, class or mode answers its STATUS and does nothing else (R572, R573,
R575). READ and WRITE do what reads and writes of the port do, word by word up to the first that fails; STAGE_RECORD, CHECK (whose reply comes
with the check's end, of a group with the answers of its members), PITCH, DISCARD, STATUS, SUBSCRIBE, LOG, WINDOW, FLASH, SAFE and WARM_RESET
have each its effect, and what they refuse is answered with a STATUS. A subscription lapses 10 s after its last SUBSCRIBE; a datagram leaves when
44 records wait or 1 ms after the first (R577). A frame with a wrong CRC, or whose check no unit is left to do, is discarded and counted (R571, R473), ARP, ND and echo requests are answered (R568). The
result word of FLASH is a free value (log entry 37). -/
def Obligations.ManagementPort : Prop :=
  (∀ (s : State) (q : Req) (cls words : Nat) (o : Bool), NewRequest s q cls → words ≤ 300 →
    Runs s { s with ctl := { s.ctl with senders := addSender s.ctl.senders (Sender.start q s.raw) } } q (Sender.start q s.raw) cls words o) ∧
  (∀ (s : State) (q : Req) (x : Sender) (cls words : Nat) (o : Bool),
    q.port = .mgmt → s.mgmtPort .mgmt = true → q.item = 0 → s.senderOf .mgmt q.sender = some x → x.alive ≠ q.alive → x.busy = false →
    q.version = 1 → q.bytes ≤ 1472 → q.kind = 0 → cls ≤ s.level .mgmt → (4 ≤ cls ∨ o = true ∨ (s.safe.mode = false ∧ s.fld PWR_MODE_CUR ≠ 1)) →
    words ≤ 300 →
    ∃ u, Runs s u q (Sender.start q s.raw) cls words o ∧ u.fld SYS_MGMT_CNT_SKIP_COUNT =
      (if q.alive % 256 = (x.alive + 1) % 256 then s.fld SYS_MGMT_CNT_SKIP_COUNT else min (s.fld SYS_MGMT_CNT_SKIP_COUNT + 1) (2 ^ 32 - 1)) ∧
      u = { s with regs := u.regs, ctl := u.ctl } ∧ Keeps s u [SYS_MGMT_CNT_SKIP]) ∧
  (∀ (s : State) (q : Req) (x : Sender) (a n : Nat),
    q.port = .mgmt → s.mgmtPort .mgmt = true → q.item = 0 → s.senderOf .mgmt q.sender = some x → x.alive = q.alive →
    ∃ t, exec (.mgmtRead q a n) s = .next t ∧ Sent s t (if x.busy then [] else [.reply x.reply]) ∧
      t.fld SYS_MGMT_CNT_REPEAT_COUNT = min (s.fld SYS_MGMT_CNT_REPEAT_COUNT + 1) (2 ^ 32 - 1) ∧
      t = { s with regs := t.regs, ctl := t.ctl, out := t.out } ∧ Keeps s t [SYS_MGMT_CNT_REPEAT]) ∧
  (∀ (s : State) (q : Req) (x : Sender) (a n : Nat),
    q.port = .mgmt → q.item = 0 → s.senderOf .mgmt q.sender = some x → x.alive ≠ q.alive → x.busy = true →
    exec (.mgmtRead q a n) s = .next s) ∧
  (∀ (s : State) (q : Req) (a n : Nat), s.mgmtUp q.port = false → exec (.mgmtRead q a n) s = .next s) ∧
  (∀ (s u : State) (q : Req) (x : Sender) (a n st : Nat), s.mgmtSender q = (u, some x) → u.mgmtRefused q x 1 n true = st → st ≠ 0 →
    ∃ t, exec (.mgmtRead q a n) s = .next t ∧ Replied u t q x 1 st [BitVec.ofNat 32 (u.fld ⟨coordReg q.kind, 0, 12⟩)]) ∧
  (∀ (s u v : State) (q : Req) (x : Sender) (a n st : Nat) (l : List W32), Runs s u q x 1 n true → 0 < n → n ≤ 256 →
    WasRead q.port n a u v st l → ∃ t, exec (.mgmtRead q a n) s = .next t ∧ Replied v t q x 1 st l) ∧
  (∀ (s u : State) (q : Req) (x : Sender) (a n : Nat), Runs s u q x 1 n true → (n = 0 ∨ 256 < n) →
    ∃ t, exec (.mgmtRead q a n) s = .next t ∧ Replied u t q x 1 4 []) ∧
  (∀ (s : State) (q : Req) (a : Nat) (r : RegRow),
    NewRequest s q 1 → s.readStatus .mgmt a = 0 → regRow a = some r → (∀ f, f ∈ r.fields → f.acc ≠ .rc) → a ≠ TB_TIME_S_LO →
    ¬(0x63000 ≤ a ∧ a < 0x63800) →
    ∃ t, exec (.mgmtRead q a 1) s = .next t ∧ Answered s t q 0 [(0x8001, [s.readWord .mgmt a r])] ∧
      t = { s with ctl := t.ctl, out := t.out }) ∧
  (∀ (s : State) (q : Req) (a st : Nat), NewRequest s q 1 → s.readStatus .mgmt a = st → st ≠ 0 → st ≠ 9 →
    ∃ t, exec (.mgmtRead q a 1) s = .next t ∧ Answered s t q st [(0x8000, [0])] ∧ Keeps s t []) ∧
  (∀ (s u v : State) (q : Req) (x : Sender) (a st : Nat) (ws : List W32), Runs s u q x (s.wordsLevel q.port a ws) 0 false →
    Wrote q.port ws a u v st → ∃ t, exec (.mgmtWrite q a ws) s = .next t ∧ Replied v t q x 2 st []) ∧
  (∀ (s u : State) (q : Req) (x : Sender) (a st : Nat) (ws : List W32), s.mgmtSender q = (u, some x) →
    u.mgmtRefused q x (s.wordsLevel q.port a ws) 0 false = st → st ≠ 0 →
    ∃ t, exec (.mgmtWrite q a ws) s = .next t ∧ Replied u t q x 2 st [BitVec.ofNat 32 (u.fld ⟨coordReg q.kind, 0, 12⟩)]) ∧
  (∀ (s u : State) (q : Req) (x : Sender) (k i : Nat) (ws : List W32),
    Runs s u q x 2 0 false → u.stageStatus q.port.owner true = 0 → recordOk k i ws.length = true →
    (u.stage.records.length < 1024 ∨ ∃ r, r ∈ u.stage.records ∧ r.typ = k ∧ r.index = i) →
    ∃ v t, exec (.mgmtStageRecord q k i ws) s = .next t ∧ Replied v t q x 3 0 [] ∧
      v.stage = { u.stage with
        records := u.stage.records.filter (fun x => ¬(x.typ = k ∧ x.index = i)) ++ [⟨k, i, ws⟩], owner := q.port.owner,
        invalid := u.stage.invalid || u.stage.checking } ∧
      v.fld CFG_STAGE_STAT_CHECKED = 0 ∧ v = { u with stage := v.stage, regs := v.regs } ∧ Keeps u v [CFG_STAGE_STAT]) ∧
  (∀ (s u : State) (q : Req) (x : Sender) (k i : Nat) (ws : List W32), Runs s u q x 2 0 false → u.stageStatus q.port.owner true ≠ 0 →
    ∃ t, exec (.mgmtStageRecord q k i ws) s = .next t ∧ Replied u t q x 3 (u.stageStatus q.port.owner true) []) ∧
  (∀ (s u : State) (q : Req) (x : Sender) (k i : Nat) (ws : List W32), Runs s u q x 2 0 false → u.stageStatus q.port.owner true = 0 →
    (recordOk k i ws.length = false ∨
      (1024 ≤ u.stage.records.length ∧ ∀ r, r ∈ u.stage.records → ¬(r.typ = k ∧ r.index = i))) →
    ∃ t, exec (.mgmtStageRecord q k i ws) s = .next t ∧ Replied u t q x 3 4 []) ∧
  (∀ (s u : State) (q : Req) (x : Sender), Runs s u q x 2 2 false → q.kind = 0 → u.stage.checking = false →
    ∃ t, exec (.mgmtCheck q) s = .next t ∧ t.stage = { u.stage with checking := true, invalid := false } ∧ t.fld CFG_CTRL_CHECK = 1 ∧
      t.ctl = (u.setSender q.port { x with waits := 1, next := if q.last then none else some (q.item + 1) }).ctl ∧
      ((∀ r, r ∈ u.stage.records → r.typ ≠ 3) → Sent u t [] ∧ t.brg = u.brg) ∧
      t = { u with stage := t.stage, brg := t.brg, out := t.out, regs := t.regs, ctl := t.ctl } ∧ Keeps u t [CFG_CTRL]) ∧
  (∀ (s u : State) (q : Req) (x : Sender), Runs s u q x 2 2 false → q.kind = 0 → u.stage.checking = true →
    exec (.mgmtCheck q) s = .next (u.setSender q.port { x with waits := 1, next := if q.last then none else some (q.item + 1) })) ∧
  (∀ (s u : State) (q : Req) (x : Sender), Runs s u q x 2 2 false → q.kind ≠ 0 →
    ∃ t g, exec (.mgmtCheck q) s = .next t ∧ t.yz.group = some g ∧ g.ident = q.tag ∧ g.all = u.groupMembers q.kind ∧
      g.wait = u.groupMembers q.kind ∧ g.up = false ∧
      (∀ m, m ∈ u.groupMembers q.kind → m ≠ u.ownAddr → Out.groupStage q.tag m u.stage.writes (u.recsFor u.stage.records m) ∈ t.out) ∧
      t.stage.records = u.recsFor u.stage.records u.ownAddr ∧ t.stage.checking = true) ∧
  (∀ (s : State) (x : Sender),
    s.stage.checking = true → s.stage.invalid = true → s.yz.group = none → s.yz.grpId = none → s.fld CFG_BOOT_STAT_STEP ≠ 10 →
    s.ctl.senders = [x] → x.waits = 1 → x.next = none → s.ctl.yzSender.waits ≠ 1 →
    ∃ t, exec .gravityCheckDone s = .next t ∧
      Sent s t [.reply { x.reply with items := x.reply.items ++ [(0x8004, [t.rd CFG_CHECK_RES, t.rd CFG_CHECK_ADDR])] }]) ∧
  (∀ (s u : State) (q : Req) (x : Sender) (ident sec ns : Nat) (w : Fin 4) (c : Fin 16),
    Runs s u q x 2 1 false → q.kind = 0 → (u.stage.owner = 0 ∨ u.stage.owner = q.port.owner) → u.bit CFG_STAGE_STAT_CHECKED = true →
    u.stage.pitches.length < 8 → w.val < 3 → (w.val = 1 → u.bit (ENC_CH_CTRL_EN c) = true) →
    ∃ v t p, exec (.mgmtPitch q ident w c sec ns) s = .next t ∧ Replied v t q x 5 0 [0] ∧ v.stage.pitches = u.stage.pitches ++ [p] ∧
      p.ident = ident % 2 ^ 32 ∧ p.writes = u.stage.writes ∧ p.records = u.stage.records ∧ p.group = false ∧ v.stage.writes = [] ∧
      v.stage.records = [] ∧ v.stage.owner = 0 ∧ v.fld CFG_STAGE_STAT_CHECKED = 0 ∧
      (u.stage.pitches = [] → u.role ≠ 1 → w.val = 0 → p.instant = u.nowNs) ∧
      (u.stage.pitches = [] → u.role ≠ 1 → w.val = 2 →
        p.instant = max (toSigned 64 (sec % 2 ^ 64) * 1000000000 + ((ns % 2 ^ 30 : Nat) : Int)) u.nowNs) ∧
      (u.role ≠ 1 → v = { u with stage := v.stage, regs := v.regs } ∧
        Keeps u v [CFG_PITCH_ID, CFG_PITCH_TIME_S_LO, CFG_PITCH_TIME_S_HI, CFG_PITCH_TIME_NS, CFG_STAGE_STAT])) ∧
  (∀ (s u : State) (q : Req) (x : Sender) (ident sec ns e : Nat) (w : Fin 4) (c : Fin 16),
    Runs s u q x 2 1 false → e = u.pitchErr q.port.owner (BitVec.ofNat 32 (1 + 2 * w + 16 * c)) → e ≠ 0 →
    ∃ v t, exec (.mgmtPitch q ident w c sec ns) s = .next t ∧ Replied v t q x 5 (if e = 1 then 6 else 7) [] ∧
      v.fld CFG_PITCH_STAT_ERR = e ∧ v.stage = u.stage) ∧
  (∀ (s u : State) (q : Req) (x : Sender) (ident sec ns : Nat) (w : Fin 4) (c : Fin 16),
    Runs s u q x 2 1 false → q.kind ≠ 0 → u.pitchErr q.port.owner (BitVec.ofNat 32 (1 + 2 * w + 16 * c)) = 0 →
    (u.yz.group = none ∨ ∃ g, u.yz.group = some g ∧ (g.up = true ∨ g.wait ≠ [] ∨ g.ok = false)) →
    ∃ v t, exec (.mgmtPitch q ident w c sec ns) s = .next t ∧ Replied v t q x 5 7 [] ∧ v.stage = u.stage) ∧
  (∀ (s u : State) (q : Req) (x : Sender) (ident sec ns : Nat) (w : Fin 4) (c : Fin 16) (g : GroupX),
    Runs s u q x 2 1 false → q.kind ≠ 0 → u.pitchErr q.port.owner (BitVec.ofNat 32 (1 + 2 * w + 16 * c)) = 0 →
    u.yz.group = some g → g.up = false → g.wait = [] → g.ok = true →
    ∃ v t p, exec (.mgmtPitch q ident w c sec ns) s = .next t ∧ Replied v t q x 5 0 [0] ∧ v.stage.pitches = u.stage.pitches ++ [p] ∧
      p.group = true ∧ u.nowNs + 2000000 ≤ p.instant ∧ p.writes = u.stage.writes ∧ v.yz.group = none ∧
      (∀ m, m ∈ g.all → m ≠ u.ownAddr → Out.group 2 g.ident m true ∈ v.out)) ∧
  (∀ (s u : State) (q : Req) (x : Sender), Runs s u q x 2 0 false → (u.stage.owner = 0 ∨ u.stage.owner = q.port.owner ∨ 4 ≤ u.level q.port) →
    ∃ v t, exec (.mgmtDiscard q) s = .next t ∧ Replied v t q x 6 0 [] ∧
      v.stage = { u.stage with writes := [], records := [], owner := 0, invalid := u.stage.invalid || u.stage.checking } ∧
      v = { u with stage := v.stage, regs := v.regs } ∧ Keeps u v [CFG_STAGE_STAT]) ∧
  (∀ (s u : State) (q : Req) (x : Sender), Runs s u q x 2 0 false → u.stage.owner ≠ 0 → u.stage.owner ≠ q.port.owner → u.level q.port < 4 →
    ∃ t, exec (.mgmtDiscard q) s = .next t ∧ Replied u t q x 6 6 []) ∧
  (∀ (s u : State) (q : Req) (x : Sender), Runs s u q x 1 (if q.kind = 0 then 5 else 10) true →
    ∃ t, exec (.mgmtStatus q) s = .next t ∧ Replied u t q x 7 0 ([BitVec.ofNat 32 (u.fld PWR_MODE_CUR), u.view RDN_STAT,
      u.view CFG_BOOT_STAT, u.view CFG_PITCH_LAST, BitVec.ofNat 32 u.stage.pitches.length] ++
      (if q.kind = 0 then [] else [u.rd (YZ_CAP_TUN (q.kind - 1)), u.rd (YZ_CAP_DEC (q.kind - 1)), u.rd (YZ_CAP_CMP (q.kind - 1)),
        u.rd (YZ_CAP_LEGS (q.kind - 1)), BitVec.ofNat 32 (u.fld (membersHeard q.kind))]))) ∧
  (∀ (s u : State) (q : Req) (x : Sender) (mask i : Nat),
    Runs s u q x 1 1 false → (∀ j, j < 8 → (u.sub j).used = false ∨ (u.sub j).sender ≠ q.sender) → i = u.subPlace →
    ∃ v t, exec (.mgmtSubscribe q true mask) s = .next t ∧ Replied v t q x 8 0 [BitVec.ofNat 32 i] ∧ (v.sub i).used = true ∧
      (v.sub i).sender = q.sender ∧ (v.sub i).mask = mask ∧ (v.sub i).lastRaw = u.raw ∧
      (∀ j, j < 8 → j ≠ i → (v.sub j).sender = (u.sub j).sender ∧ (v.sub j).used = (u.sub j).used) ∧
      ((u.sub i).used = true → Raises u v 0x0502 0 (evArg [(0, 1, i), (1, 1, 2)])) ∧ Raises u v 0x0502 0 (evArg [(0, 1, i)]) ∧
      Keeps u v []) ∧
  (∀ (s u : State) (q : Req) (x : Sender) (mask : Nat),
    Runs s u q x 1 1 false → (∀ j, j < 8 → (u.sub j).used = false ∨ (u.sub j).sender ≠ q.sender) →
    ∃ t, exec (.mgmtSubscribe q false mask) s = .next t ∧ Replied u t q x 8 0 []) ∧
  (∀ (s u : State) (q : Req) (x : Sender) (mask i : Nat) (on : Bool),
    Runs s u q x 1 1 false → i < 8 → (u.sub i).used = true → (u.sub i).sender = q.sender →
    (∀ j, j < i → (u.sub j).used = false ∨ (u.sub j).sender ≠ q.sender) →
    ∃ v t, exec (.mgmtSubscribe q on mask) s = .next t ∧ Replied v t q x 8 0 [BitVec.ofNat 32 i] ∧
      v.sub i = (if on then { u.sub i with mask := mask, lastRaw := u.raw } else Subscriber.zero) ∧
      (∀ j, j ≠ i → v.sub j = u.sub j) ∧ v = { u with ctl := v.ctl }) ∧
  (∀ (s u : State) (q : Req) (x : Sender) (first n : Nat),
    Runs s u q x 1 (16 * n) true → 0 < n → n ≤ 20 →
    ∃ t l, exec (.mgmtLog q first n) s = .next t ∧ Replied u t q x 9 0 l ∧
      ((∀ i, i < n → (u.cask.record (first + i)).seq = first + i ∧ u.cask.record (first + i) ≠ FaultRec.zero) →
        l = u.cask.recordWords first n) ∧
      ((∀ i, i < n → (u.cask.record (first + i)).seq ≠ first + i) → l = [])) ∧
  (∀ (s u : State) (q : Req) (x : Sender) (first n : Nat), Runs s u q x 1 (16 * n) true → (n = 0 ∨ 20 < n) →
    ∃ t, exec (.mgmtLog q first n) s = .next t ∧ Replied u t q x 9 4 []) ∧
  (∀ (s : State) (q : Req) (addr : W32) (off : Nat),
    NewRequest s q 1 → s.bit SYS_CASK_STAT_READY = true → off = addr.toNat % 2 ^ 23 → off % 256 = 0 → 0x20000 ≤ off → off < 0xA0000 →
    ∃ t w, exec (.mgmtWindow q .cask 0x10000000 addr [] false) s = .next t ∧
      Answered s t q 0 [(0x800A, w :: s.cask.recordWords ((off - 0x20000) / 64) 4)] ∧ fieldGet w 4 4 = 0 ∧
      Keeps s t (SYS_CASK_ADDR :: SYS_CASK_STAT :: (List.range 64).map SYS_CASK_DATA)) ∧
  (∀ (s u a b c : State) (q : Req) (x : Sender) (w : MgWin) (v addr : W32) (data : List W32) (n : Nat),
    n = (if fieldGet v 28 4 = 1 then s.winFetchWords w else 0) → Runs s u q x (fieldLevel w.cmd 0 v) (1 + n) false →
    Wrote q.port data w.data u a 0 → (∀ r, w.addr = some r → exec (.registerWrite q.port r addr) a = .next b ∧ b.ctl.failed = false) →
    (w.addr = none → b = a) → exec (.registerWrite q.port w.cmd v) b = .next c → c.ctl.failed = false →
    ∃ t, exec (.mgmtWindow q w v addr data false) s = .next t ∧ Replied c t q x 10 0 (c.view w.stat :: c.winGet w.data n)) ∧
  (∀ (s u a : State) (q : Req) (x : Sender) (w : MgWin) (v addr : W32) (data : List W32) (bad : Bool) (n st : Nat),
    n = (if fieldGet v 28 4 = 1 then s.winFetchWords w else 0) → Runs s u q x (fieldLevel w.cmd 0 v) (1 + n) false →
    Wrote q.port data w.data u a st → st ≠ 0 →
    ∃ t, exec (.mgmtWindow q w v addr data bad) s = .next t ∧ Replied a t q x 10 st []) ∧
  (∀ (s u c : State) (q : Req) (x : Sender) (ty : Fin 16) (i : Nat) (addr : W32),
    Runs s u q x 1 129 false → exec (.brgWinFetch q.port ty i true) u = .next c → c.ctl.failed = false →
    ∃ t, exec (.mgmtWindow q .brg (BitVec.ofNat 32 (1 * 2 ^ 28 + ty * 2 ^ 24 + i % 2 ^ 22)) addr [] true) s = .next t ∧
      Replied c t q x 10 0 (c.view BRG_WIN_STAT :: c.winGet (BRG_WIN_DATA 0) 128)) ∧
  (∀ (s u c : State) (q : Req) (x : Sender) (ty : Fin 16) (i : Nat) (addr : W32),
    Runs s u q x 1 33 false → exec (.audWinFetch q.port ty i true) u = .next c → c.ctl.failed = false →
    ∃ t, exec (.mgmtWindow q .aud (BitVec.ofNat 32 (1 * 2 ^ 28 + ty * 2 ^ 24 + i % 2 ^ 15)) addr [] true) s = .next t ∧
      Replied c t q x 10 0 (c.view AUD_WIN_STAT :: c.winGet (AUD_WIN_DATA 0) 32)) ∧
  (∀ (s u : State) (q : Req) (x : Sender) (ofs base : Nat) (bs : List Byte),
    Runs s u q x 4 1 false → base = (if u.boot.noImage then 0 else (1 - u.fld CFG_BOOT_STAT_SLOT) * 0x10000000) →
    ofs + bs.length ≤ 0x10000000 →
    ∃ v t, exec (.mgmtFlash q 1 ofs bs) s = .next t ∧ Replied v t q x 11 0 [Config.flashResult true] ∧
      (∀ i x, bs[i]? = some x → tget (fun _ => 0xFF) v.ctl.flash (base + ofs + i) = x) ∧
      (∀ a, (a < base + ofs ∨ base + ofs + bs.length ≤ a) →
        tget (fun _ => 0xFF) v.ctl.flash a = tget (fun _ => 0xFF) u.ctl.flash a) ∧
      v = { u with ctl := { u.ctl with flash := v.ctl.flash } }) ∧
  (∀ (s u : State) (q : Req) (x : Sender) (base ofs : Nat) (bs : List Byte),
    Runs s u q x 4 1 false → base = (if u.boot.noImage then 0 else (1 - u.fld CFG_BOOT_STAT_SLOT) * 0x10000000) →
    ∃ v t, exec (.mgmtFlash q 0 ofs bs) s = .next t ∧ Replied v t q x 11 0 [Config.flashResult true] ∧
      (∀ a, base ≤ a → a < base + 0x10000000 → tget (fun _ => 0xFF) v.ctl.flash a = 0xFF) ∧
      (∀ a, (a < base ∨ base + 0x10000000 ≤ a) → tget (fun _ => 0xFF) v.ctl.flash a = tget (fun _ => 0xFF) u.ctl.flash a) ∧
      v = { u with ctl := { u.ctl with flash := v.ctl.flash } }) ∧
  (∀ (s u : State) (q : Req) (x : Sender) (ofs base : Nat) (bs : List Byte),
    Runs s u q x 4 1 false → base = (if u.boot.noImage then 0 else (1 - u.fld CFG_BOOT_STAT_SLOT) * 0x10000000) →
    ofs + bs.length ≤ 0x10000000 →
    ∃ t r, exec (.mgmtFlash q 2 ofs bs) s = .next t ∧ Replied u t q x 11 0 [Config.flashResult r] ∧
      (r = true ↔ ∀ i, i < bs.length → tget (fun _ => 0xFF) u.ctl.flash (base + ofs + i) = bs.getD i 0)) ∧
  (∀ (s u : State) (q : Req) (x : Sender) (op : Fin 3) (ofs : Nat) (bs : List Byte),
    Runs s u q x 4 1 false → op ≠ 0 → 0x10000000 < ofs + bs.length →
    ∃ t, exec (.mgmtFlash q op ofs bs) s = .next t ∧ Replied u t q x 11 4 []) ∧
  (∀ (s u : State) (q : Req) (x : Sender), Runs s u q x 4 0 false →
    ∃ v t, exec (.mgmtSafe q) s = .next t ∧ Replied v t q x 12 0 [] ∧ (u.safe.mode = false → SafeEntered u v 0 5 0xFF) ∧
      (u.safe.mode = true → v = u)) ∧
  (∀ (s u : State) (q : Req) (x : Sender), Runs s u q x 4 0 false → (x.item 13 0 q.item [] true).next = none →
    ∃ t, exec (.mgmtWarmReset q) s = .next t ∧ Sent u t [.reply (x.item 13 0 q.item [] true).reply] ∧ t.raw = u.raw ∧ t.cask = u.cask ∧
      t.stage = Stage.zero ∧ t.boot.cold = false ∧ t.fld CFG_BOOT_STAT_STEP = 2) ∧
  (∀ (s u : State) (q : Req) (x : Sender) (st : Nat), s.mgmtSender q = (u, some x) → u.mgmtRefused q x 4 0 false = st → st ≠ 0 →
    (∃ t, exec (.mgmtSafe q) s = .next t ∧ Replied u t q x 12 st [BitVec.ofNat 32 (u.fld ⟨coordReg q.kind, 0, 12⟩)]) ∧
    ∃ t, exec (.mgmtWarmReset q) s = .next t ∧ Replied u t q x 13 st [BitVec.ofNat 32 (u.fld ⟨coordReg q.kind, 0, 12⟩)]) ∧
  (∀ (s : State) (i : Fin 8), (s.sub i).used = true → s.raw - (s.sub i).lastRaw ≥ 10 * secU →
    ∃ t, exec (.subscriptionLapse i) s = .next t ∧ t.sub i = Subscriber.zero ∧ Raises s t 0x0502 0 (evArg [(0, 1, i), (1, 1, 1)]) ∧
      t = { s with regs := t.regs, evq := t.evq, ctl := t.ctl } ∧ Keeps s t []) ∧
  (∀ (s : State) (i : Fin 8), ((s.sub i).used = false ∨ s.raw - (s.sub i).lastRaw < 10 * secU) →
    exec (.subscriptionLapse i) s = .next s) ∧
  (∀ (s : State) (i : Fin 8) (r : Nat) (e : EvRec) (l : List (Nat × EvRec)),
    (s.sub i).queue = (r, e) :: l → (44 ≤ l.length + 1 ∨ s.raw - r ≥ msU) →
    ∃ t, exec (.eventStreamSend i) s = .next t ∧
      Sent s t [.stream i (s.sub i).tag ((((r, e) :: l).take 44).map (·.2)) (s.sub i).dropped] ∧
      t.sub i = { s.sub i with queue := ((r, e) :: l).drop 44, tag := (s.sub i).tag + 1, dropped := 0 } ∧
      t = { s with ctl := t.ctl, out := t.out }) ∧
  (∀ (s : State) (i : Fin 8),
    ((s.sub i).queue = [] ∨ ∃ r e l, (s.sub i).queue = (r, e) :: l ∧ l.length + 1 < 44 ∧ s.raw - r < msU) →
    exec (.eventStreamSend i) s = .next s) ∧
  (∀ (s : State), s.mgmtUp .mgmt = true →
    ∃ t, exec .mgmtCrcFail s = .next t ∧ t.fld SYS_MGMT_CNT_CRC_COUNT = min (s.fld SYS_MGMT_CNT_CRC_COUNT + 1) (2 ^ 32 - 1) ∧
      t = { s with regs := t.regs } ∧ Keeps s t [SYS_MGMT_CNT_CRC]) ∧
  (∀ (s : State) (n : Nat), s.mgmtUp .mgmt = true → exec (.mgmtArpNdEcho n) s = .next { s with out := s.out ++ [.arpEcho n] }) ∧
  (∀ (s : State) (n : Nat), s.mgmtUp .mgmt = false → exec .mgmtCrcFail s = .next s ∧ exec (.mgmtArpNdEcho n) s = .next s) ∧
  (∀ (s : State) (q : Req) (a n : Nat), q.port = .mgmt → s.mgmtUp .mgmt = true → s.chkServed 6 = false → q.item = 0 →
    ∃ t, exec (.mgmtRead q a n) s = .next t ∧ t.fld SYS_MGMT_CNT_CRC_COUNT = min (s.fld SYS_MGMT_CNT_CRC_COUNT + 1) (2 ^ 32 - 1) ∧
      t = { s with regs := t.regs } ∧ Keeps s t [SYS_MGMT_CNT_CRC])

/-- Where TEST_EN is low the TAP does nothing (R616). The instructions that drive, hold or float the outputs act in BOOT and SAFE mode only, show
their opcode in IR and, where they shift the boundary register, load it; in another mode they act as BYPASS and set REFUSED (R617). IDCODE,
SAMPLE_PRELOAD and BYPASS leave the outputs to the device. REG_ACCESS does what a write or a read of the test access port does, of any word and
with any outcome; the data register then holds the read data, 0 for a write, and ERR (R618; its low bits are a free value, log entry 37): what
that is for a plain register, for a register without read-clear fields and for a refused read is stated. TEST_EN falling is Test-Logic-Reset
(R616). -/
def Obligations.TestAccessPort : Prop :=
  (∀ (s : State) (c b : Nat) (we : Bool) (w : Fin 1048576) (d : W32), s.fld SYS_STAT_TEST_EN = 0 →
    exec (.extest c) s = .next s ∧ exec (.extestPulse c) s = .next s ∧ exec (.extestTrain c) s = .next s ∧ exec .clamp s = .next s ∧
    exec .highz s = .next s ∧ exec .idcode s = .next s ∧ exec (.samplePreload b c) s = .next s ∧ exec .bypass s = .next s ∧
    exec (.regAccess we w d) s = .next s) ∧
  (∀ (s : State) (c : Nat), s.fld SYS_STAT_TEST_EN = 1 → (s.fld PWR_MODE_CUR = 1 ∨ s.fld PWR_MODE_CUR = 5) →
    (∃ t, exec (.extest c) s = .next t ∧ t.fld TST_JTAG_STAT_IR = 0 ∧ t.tst = { s.tst with bound := c % 2 ^ 1486, drive := 1 } ∧
      t = { s with tst := t.tst, regs := t.regs } ∧ Keeps s t [TST_JTAG_STAT]) ∧
    (∃ t, exec (.extestPulse c) s = .next t ∧ t.fld TST_JTAG_STAT_IR = 5 ∧ t.tst = { s.tst with bound := c % 2 ^ 1486, drive := 6 } ∧
      t = { s with tst := t.tst, regs := t.regs } ∧ Keeps s t [TST_JTAG_STAT]) ∧
    (∃ t, exec (.extestTrain c) s = .next t ∧ t.fld TST_JTAG_STAT_IR = 6 ∧ t.tst = { s.tst with bound := c % 2 ^ 1486, drive := 7 } ∧
      t = { s with tst := t.tst, regs := t.regs } ∧ Keeps s t [TST_JTAG_STAT]) ∧
    (∃ t, exec .clamp s = .next t ∧ t.fld TST_JTAG_STAT_IR = 3 ∧ t.tst = { s.tst with drive := 4 } ∧
      t = { s with tst := t.tst, regs := t.regs } ∧ Keeps s t [TST_JTAG_STAT]) ∧
    (∃ t, exec .highz s = .next t ∧ t.fld TST_JTAG_STAT_IR = 4 ∧ t.tst = { s.tst with drive := 5 } ∧
      t = { s with tst := t.tst, regs := t.regs } ∧ Keeps s t [TST_JTAG_STAT])) ∧
  (∀ (s : State) (c : Nat), s.fld SYS_STAT_TEST_EN = 1 → s.fld PWR_MODE_CUR ≠ 1 → s.fld PWR_MODE_CUR ≠ 5 →
    ∃ t, exec (.extest c) s = .next t ∧ exec (.extestPulse c) s = .next t ∧ exec (.extestTrain c) s = .next t ∧ exec .clamp s = .next t ∧
      exec .highz s = .next t ∧ t.fld TST_JTAG_STAT_IR = 0xFF ∧ t.fld TST_JTAG_STAT_REFUSED = 1 ∧ t.tst = { s.tst with drive := 0 } ∧
      t = { s with tst := t.tst, regs := t.regs } ∧ Keeps s t [TST_JTAG_STAT]) ∧
  (∀ (s : State) (b c : Nat), s.fld SYS_STAT_TEST_EN = 1 →
    (∃ t, exec .idcode s = .next t ∧ t.fld TST_JTAG_STAT_IR = 1 ∧ t.tst = { s.tst with dr := (s.rd TST_IDCODE).toNat, drive := 0 } ∧
      t = { s with tst := t.tst, regs := t.regs } ∧ Keeps s t [TST_JTAG_STAT]) ∧
    (∃ t, exec (.samplePreload b c) s = .next t ∧ t.fld TST_JTAG_STAT_IR = 2 ∧
      t.tst = { s.tst with dr := b % 2 ^ 1486, bound := c % 2 ^ 1486, drive := 0 } ∧
      t = { s with tst := t.tst, regs := t.regs } ∧ Keeps s t [TST_JTAG_STAT]) ∧
    (∃ t, exec .bypass s = .next t ∧ t.fld TST_JTAG_STAT_IR = 0xFF ∧ t.tst = { s.tst with dr := 0, drive := 0 } ∧
      t = { s with tst := t.tst, regs := t.regs } ∧ Keeps s t [TST_JTAG_STAT])) ∧
  (∀ (s : State) (w : Fin 1048576) (d : W32), s.fld SYS_STAT_TEST_EN = 1 →
    ∃ u v t, exec (.registerWrite .jtag (4 * w) d) u = .next v ∧ exec (.regAccess true w d) s = .next t ∧
      u.fld TST_JTAG_STAT_IR = 0x20 ∧ u = { s with tst := { s.tst with drive := 0 }, regs := u.regs } ∧ Keeps s u [TST_JTAG_STAT] ∧
      t.tst.dr / 2 ^ 21 = b2n v.ctl.failed * 2 ^ 32 ∧ t = { v with tst := { v.tst with dr := t.tst.dr }, fresh := v.fresh + 1 }) ∧
  (∀ (s : State) (w : Fin 1048576) (d : W32), s.fld SYS_STAT_TEST_EN = 1 →
    ∃ u v t, exec (.rcRead .jtag (4 * w)) u = .next v ∧ exec (.regAccess false w d) s = .next t ∧
      u.fld TST_JTAG_STAT_IR = 0x20 ∧ u = { s with tst := { s.tst with drive := 0 }, regs := u.regs } ∧ Keeps s u [TST_JTAG_STAT] ∧
      t.tst.dr / 2 ^ 21 = v.ctl.rdData.toNat + b2n v.ctl.failed * 2 ^ 32 ∧
      t = { v with tst := { v.tst with dr := t.tst.dr }, fresh := v.fresh + 1 }) ∧
  (∀ (s : State) (w : Fin 1048576) (d : W32) (r : RegRow),
    s.fld SYS_STAT_TEST_EN = 1 → regRow (4 * w.val) = some r → r.fields = [⟨0, 32, .rw⟩] → 4 * w.val ≠ EVQ_RD → 4 * w.val ≠ DRM_XLATE_HI →
    4 * w.val / 0x10000 ≠ 7 → Taken s .jtag (4 * w.val) d →
    ∃ t, exec (.regAccess true w d) s = .next t ∧ t.rd (4 * w.val) = d ∧ t.fld TST_JTAG_STAT_IR = 0x20 ∧ t.tst.dr / 2 ^ 21 = 0 ∧
      t.tst.drive = 0 ∧ t = { s with tst := t.tst, regs := t.regs, ctl := t.ctl, boot := t.boot, fresh := s.fresh + 1 } ∧
      (s.boot.held = false → t.boot = s.boot ∧ Keeps s t [4 * w.val, TST_JTAG_STAT]) ∧
      Keeps s t [4 * w.val, TST_JTAG_STAT, CFG_BOOT_STAT]) ∧
  (∀ (s : State) (w : Fin 1048576) (d : W32) (r : RegRow),
    s.fld SYS_STAT_TEST_EN = 1 → s.readStatus .jtag (4 * w.val) = 0 → regRow (4 * w.val) = some r → (∀ f, f ∈ r.fields → f.acc ≠ .rc) →
    4 * w.val ≠ TB_TIME_S_LO → ¬(0x63000 ≤ 4 * w.val ∧ 4 * w.val < 0x63800) → 4 * w.val ≠ TST_JTAG_STAT →
    ∃ t, exec (.regAccess false w d) s = .next t ∧ t.tst.dr / 2 ^ 21 = (s.readWord .jtag (4 * w.val) r).toNat ∧
      t.fld TST_JTAG_STAT_IR = 0x20 ∧ t = { s with tst := t.tst, regs := t.regs, ctl := t.ctl, fresh := s.fresh + 1 } ∧
      Keeps s t [TST_JTAG_STAT]) ∧
  (∀ (s : State) (w : Fin 1048576) (d : W32) (st : Nat),
    s.fld SYS_STAT_TEST_EN = 1 → s.readStatus .jtag (4 * w.val) = st → st ≠ 0 →
    ∃ t, exec (.regAccess false w d) s = .next t ∧ t.tst.dr / 2 ^ 21 = 2 ^ 32 ∧ t.ctl.status = st ∧ Keeps s t [TST_JTAG_STAT]) ∧
  (∀ (s : State), ∃ t, exec .testEnFall s = .next t ∧ t.fld SYS_STAT_TEST_EN = 0 ∧ t.fld TST_JTAG_STAT_TEST_EN = 0 ∧
      t.fld TST_JTAG_STAT_IR = 0 ∧ t.tst = { s.tst with drive := 0 } ∧ t = { s with tst := t.tst, regs := t.regs } ∧
      Keeps s t [SYS_STAT, TST_JTAG_STAT]) ∧
  (∀ (s : State), ∃ t, exec .testEnRise s = .next t ∧ t.fld SYS_STAT_TEST_EN = 1 ∧ t.fld TST_JTAG_STAT_TEST_EN = 1 ∧
      t = { s with regs := t.regs } ∧ Keeps s t [SYS_STAT, TST_JTAG_STAT])

/-- Enabling a generator, a checker or loopback on a lane that serves, whose quad is disabled or too cold, or whose quad tests at another RATE, is
refused with STATUS 4 (R619); else the registers take what was written, the function runs once the quad's PLL is locked, and turned off it stops.
An injected error counts in near-end loopback where the checker is in sync, CLEAR clears the counters (R619, R620). A checker's sync and its loss
raise event 0x2001, a loss counts, and bits and errors count in sync only (R620). A test message leaves on VC 7 every INTERVAL and the oldest
returned one is compared and counted (R622). BIST and golden-vector commands act on fenced blocks alone, else ERR 1; one at a time of each; a
failing one reports its place with event 0x2002, a golden-vector result comes with event 0x2003, and BIST leaves a kettle unit's P at zero
(R623, R624, R626). A refused write of any of these registers fails with its STATUS. -/
def Obligations.TestFunctions : Prop :=
  (∀ (s : State) (p : Port) (l : Fin 64) (v : W32),
    s.writeStatus p (TST_LANE_GEN l) v = 0 → fieldGet v 0 1 = 1 → s.tstRefused l (fieldGet v 28 4) = true →
    ∃ t, exec (.tstLaneGenWrite p l v) s = .next t ∧ t.ctl.failed = true ∧ t.ctl.status = 4 ∧ t.tst = s.tst ∧
      Keeps s t [SYS_HCP_ERR_ADDR]) ∧
  (∀ (s : State) (l : Fin 64) (r : Nat),
    s.tstRefused l r = true ↔ s.laneServes l = true ∨ s.fld (LNK_QUAD_CFG_EN (l / 4)) = 0 ∨ s.belowLimit (quadZone (l / 4)) = true ∨
      ∃ k, k < 64 ∧ k ≠ l.val ∧ k / 4 = l.val / 4 ∧ s.fld (TST_LANE_GEN_RATE k) ≠ r ∧
        (s.fld (TST_LANE_GEN_EN k) = 1 ∨ s.fld (TST_LANE_CHK_EN k) = 1 ∨ s.fld (TST_LANE_LOOP_MODE k) ≠ 0)) ∧
  (∀ (s : State) (p : Port) (l : Fin 64) (v : W32),
    Taken s p (TST_LANE_GEN l) v → (fieldGet v 0 1 = 0 ∨ s.tstRefused l (fieldGet v 28 4) = false) →
    ∃ t, exec (.tstLaneGenWrite p l v) s = .next t ∧ Succeeded t ∧ t.fld (TST_LANE_GEN_EN l) = fieldGet v 0 1 ∧
      t.fld (TST_LANE_GEN_RATE l) = fieldGet v 28 4 ∧ t.fld (TST_LANE_GEN_PATTERN l) = fieldGet v 24 4 ∧
      t.fld (TST_LANE_GEN_INVERT l) = fieldGet v 3 1 ∧
      (s.bit (LNK_QUAD_STAT_PLL_LOCK (l / 4)) = true → t.fld (TST_LANE_STAT_GEN_ON l) = fieldGet v 0 1) ∧
      (s.bit (LNK_QUAD_STAT_PLL_LOCK (l / 4)) = false → fieldGet v 0 1 = 1 →
        t.fld (TST_LANE_STAT_GEN_ON l) = s.fld (TST_LANE_STAT_GEN_ON l)) ∧
      (fieldGet v 0 1 = 0 → s.bit (TST_LANE_CHK_EN l) = false → s.fld (TST_LANE_LOOP_MODE l) = 0 →
        t.fld (TST_LANE_STAT_GEN_ON l) = 0 ∧ t.fld (TST_LANE_STAT_CHK_ON l) = 0 ∧ t.fld (TST_LANE_STAT_SYNC l) = 0) ∧
      (fieldGet v 0 1 = 1 → t.fld (LNK_QUAD_STAT_RATE (l / 4)) = fieldGet v 28 4 ∧ t.fld TST_STAT_LANES = 1) ∧
      (s.bit (TST_LANE_CHK_EN l) = true → t.tst = s.tst ∧ t.fld (TST_LANE_STAT_SYNC l) = s.fld (TST_LANE_STAT_SYNC l)) ∧
      (fieldGet v 2 1 = 0 → t.pairVal (TST_LANE_CNT_ERR_LO l) (TST_LANE_CNT_ERR_HI l) =
        s.pairVal (TST_LANE_CNT_ERR_LO l) (TST_LANE_CNT_ERR_HI l)) ∧
      t = { s with tst := t.tst, regs := t.regs, ctl := t.ctl, boot := t.boot } ∧
      Keeps s t [TST_LANE_GEN l, TST_LANE_STAT l, TST_LANE_CNT_BITS_LO l, TST_LANE_CNT_BITS_HI l, TST_LANE_CNT_ERR_LO l,
        TST_LANE_CNT_ERR_HI l, LNK_QUAD_STAT (l / 4), TST_STAT, CFG_BOOT_STAT]) ∧
  (∀ (s : State) (p : Port) (l : Fin 64) (v : W32),
    s.writeStatus p (TST_LANE_CHK l) v = 0 → fieldGet v 0 1 = 1 → s.tstRefused l (s.fld (TST_LANE_GEN_RATE l)) = true →
    ∃ t, exec (.tstLaneChkWrite p l v) s = .next t ∧ t.ctl.failed = true ∧ t.ctl.status = 4 ∧ t.tst = s.tst ∧
      Keeps s t [SYS_HCP_ERR_ADDR]) ∧
  (∀ (s : State) (p : Port) (l : Fin 64) (v : W32),
    Taken s p (TST_LANE_CHK l) v → (fieldGet v 0 1 = 0 ∨ s.tstRefused l (s.fld (TST_LANE_GEN_RATE l)) = false) →
    ∃ t, exec (.tstLaneChkWrite p l v) s = .next t ∧ Succeeded t ∧ t.fld (TST_LANE_CHK_EN l) = fieldGet v 0 1 ∧
      t.fld (TST_LANE_CHK_PATTERN l) = fieldGet v 24 4 ∧ t.fld (TST_LANE_CHK_INVERT l) = fieldGet v 3 1 ∧
      (s.bit (LNK_QUAD_STAT_PLL_LOCK (l / 4)) = true → t.fld (TST_LANE_STAT_CHK_ON l) = fieldGet v 0 1) ∧
      (s.bit (LNK_QUAD_STAT_PLL_LOCK (l / 4)) = false → fieldGet v 0 1 = 1 →
        t.fld (TST_LANE_STAT_CHK_ON l) = s.fld (TST_LANE_STAT_CHK_ON l)) ∧
      (fieldGet v 0 1 = 0 → t.fld (TST_LANE_STAT_SYNC l) = 0) ∧
      (fieldGet v 0 1 = 1 → t.fld (TST_LANE_STAT_SYNC l) = s.fld (TST_LANE_STAT_SYNC l) ∧ t.fld TST_STAT_LANES = 1 ∧
        t.fld (LNK_QUAD_STAT_RATE (l / 4)) = s.fld (TST_LANE_GEN_RATE l)) ∧
      (fieldGet v 1 1 = 1 → t.pairVal (TST_LANE_CNT_ERR_LO l) (TST_LANE_CNT_ERR_HI l) = 0 ∧
        t.pairVal (TST_LANE_CNT_BITS_LO l) (TST_LANE_CNT_BITS_HI l) = 0 ∧ t.fld (TST_LANE_CNT_LOCK_COUNT l) = 0) ∧
      (fieldGet v 1 1 = 0 → (fieldGet v 0 1 = 1 → t.tst = s.tst) ∧ t.fld (TST_LANE_CNT_LOCK_COUNT l) = s.fld (TST_LANE_CNT_LOCK_COUNT l) ∧
        t.pairVal (TST_LANE_CNT_ERR_LO l) (TST_LANE_CNT_ERR_HI l) = s.pairVal (TST_LANE_CNT_ERR_LO l) (TST_LANE_CNT_ERR_HI l)) ∧
      t = { s with tst := t.tst, regs := t.regs, ctl := t.ctl, boot := t.boot } ∧
      Keeps s t [TST_LANE_CHK l, TST_LANE_STAT l, TST_LANE_CNT_BITS_LO l, TST_LANE_CNT_BITS_HI l, TST_LANE_CNT_ERR_LO l,
        TST_LANE_CNT_ERR_HI l, TST_LANE_CNT_LOCK l, LNK_QUAD_STAT (l / 4), TST_STAT, CFG_BOOT_STAT]) ∧
  (∀ (s : State) (p : Port) (l : Fin 64) (v : W32),
    s.writeStatus p (TST_LANE_LOOP l) v = 0 → fieldGet v 0 2 ≠ 0 → s.tstRefused l (s.fld (TST_LANE_GEN_RATE l)) = true →
    ∃ t, exec (.tstLaneLoopWrite p l v) s = .next t ∧ t.ctl.failed = true ∧ t.ctl.status = 4 ∧ t.tst = s.tst ∧
      Keeps s t [SYS_HCP_ERR_ADDR]) ∧
  (∀ (s : State) (p : Port) (l : Fin 64) (v : W32),
    Taken s p (TST_LANE_LOOP l) v → (fieldGet v 0 2 = 0 ∨ s.tstRefused l (s.fld (TST_LANE_GEN_RATE l)) = false) →
    ∃ t, exec (.tstLaneLoopWrite p l v) s = .next t ∧ Succeeded t ∧ t.fld (TST_LANE_LOOP_MODE l) = fieldGet v 0 2 ∧
      (fieldGet v 0 2 ≠ 0 → t.fld TST_STAT_LANES = 1 ∧ t.fld (LNK_QUAD_STAT_RATE (l / 4)) = s.fld (TST_LANE_GEN_RATE l)) ∧
      (s.bit (TST_LANE_CHK_EN l) = true → t.tst = s.tst ∧ t.fld (TST_LANE_STAT_SYNC l) = s.fld (TST_LANE_STAT_SYNC l)) ∧
      t = { s with tst := t.tst, regs := t.regs, ctl := t.ctl, boot := t.boot } ∧
      Keeps s t [TST_LANE_LOOP l, TST_LANE_STAT l, TST_LANE_CNT_BITS_LO l, TST_LANE_CNT_BITS_HI l, LNK_QUAD_STAT (l / 4), TST_STAT,
        CFG_BOOT_STAT]) ∧
  (∀ (s : State) (p : Port) (l : Fin 64) (v : W32), v = s.rd (TST_LANE_GEN l) ||| 4 →
    exec (.tstErrorInject p l) s = exec (.tstLaneGenWrite p l v) s ∧
    (Taken s p (TST_LANE_GEN l) v → (s.fld (TST_LANE_GEN_EN l) = 0 ∨ s.tstRefused l (s.fld (TST_LANE_GEN_RATE l)) = false) →
      ∃ t, exec (.tstErrorInject p l) s = .next t ∧ Succeeded t ∧
        t.pairVal (TST_LANE_CNT_ERR_LO l) (TST_LANE_CNT_ERR_HI l) =
          (if s.fld (TST_LANE_LOOP_MODE l) = 1 ∧ t.fld (TST_LANE_STAT_GEN_ON l) = 1 ∧ t.fld (TST_LANE_STAT_SYNC l) = 1 then
            (s.pairVal (TST_LANE_CNT_ERR_LO l) (TST_LANE_CNT_ERR_HI l) + 1) % 2 ^ 64
          else s.pairVal (TST_LANE_CNT_ERR_LO l) (TST_LANE_CNT_ERR_HI l)) ∧
        t = { s with tst := t.tst, regs := t.regs, ctl := t.ctl, boot := t.boot })) ∧
  (∀ (s : State) (p : Port) (l : Fin 64) (v : W32), v = s.rd (TST_LANE_CHK l) ||| 2 →
    exec (.tstChkClear p l) s = exec (.tstLaneChkWrite p l v) s ∧
    (Taken s p (TST_LANE_CHK l) v → (s.fld (TST_LANE_CHK_EN l) = 0 ∨ s.tstRefused l (s.fld (TST_LANE_GEN_RATE l)) = false) →
      ∃ t, exec (.tstChkClear p l) s = .next t ∧ Succeeded t ∧ t.pairVal (TST_LANE_CNT_ERR_LO l) (TST_LANE_CNT_ERR_HI l) = 0 ∧
        t.pairVal (TST_LANE_CNT_BITS_LO l) (TST_LANE_CNT_BITS_HI l) = 0 ∧ t.fld (TST_LANE_CNT_LOCK_COUNT l) = 0 ∧
        t = { s with tst := t.tst, regs := t.regs, ctl := t.ctl, boot := t.boot })) ∧
  (∀ (s : State) (p : Port) (l : Fin 64) (v : W32),
    (s.writeStatus p (TST_LANE_GEN l) v ≠ 0 → ∃ t, exec (.tstLaneGenWrite p l v) s = .next t ∧ t.ctl.failed = true ∧
      t.ctl.status = s.writeStatus p (TST_LANE_GEN l) v ∧ Keeps s t [SYS_HCP_ERR_ADDR]) ∧
    (s.writeStatus p (TST_LANE_CHK l) v ≠ 0 → ∃ t, exec (.tstLaneChkWrite p l v) s = .next t ∧ t.ctl.failed = true ∧
      t.ctl.status = s.writeStatus p (TST_LANE_CHK l) v ∧ Keeps s t [SYS_HCP_ERR_ADDR]) ∧
    (s.writeStatus p (TST_LANE_LOOP l) v ≠ 0 → ∃ t, exec (.tstLaneLoopWrite p l v) s = .next t ∧ t.ctl.failed = true ∧
      t.ctl.status = s.writeStatus p (TST_LANE_LOOP l) v ∧ Keeps s t [SYS_HCP_ERR_ADDR])) ∧
  (∀ (s : State) (l : Fin 64),
    s.bit (TST_LANE_STAT_CHK_ON l) = true → s.bit (TST_LANE_STAT_SYNC l) = false → s.phy.idle.contains (l.val / 4) = false →
    ∃ t, exec (.checkerSync l) s = .next t ∧ t.fld (TST_LANE_STAT_SYNC l) = 1 ∧ tget (fun _ => 0) t.tst.sync l = s.raw + 1 ∧
      Raises s t 0x2001 l (evArg [(0, 1, 1)]) ∧ t = { s with tst := t.tst, regs := t.regs, evq := t.evq, ctl := t.ctl } ∧
      Keeps s t [TST_LANE_STAT l]) ∧
  (∀ (s : State) (l : Fin 64),
    (s.bit (TST_LANE_STAT_CHK_ON l) = false ∨ s.bit (TST_LANE_STAT_SYNC l) = true ∨ s.phy.idle.contains (l.val / 4) = true) →
    exec (.checkerSync l) s = .next s) ∧
  (∀ (s : State) (l : Fin 64) (n : Nat), s.bit (TST_LANE_STAT_SYNC l) = true → n ≤ 16 →
    ∃ t, exec (.checkerSyncLoss l n) s = .next t ∧ t.fld (TST_LANE_STAT_SYNC l) = 1 ∧
      t.pairVal (TST_LANE_CNT_ERR_LO l) (TST_LANE_CNT_ERR_HI l) =
        (s.pairVal (TST_LANE_CNT_ERR_LO l) (TST_LANE_CNT_ERR_HI l) + n) % 2 ^ 64 ∧
      t = { s with regs := t.regs } ∧ Keeps s t [TST_LANE_CNT_ERR_LO l, TST_LANE_CNT_ERR_HI l]) ∧
  (∀ (s : State) (l : Fin 64) (n : Nat), s.bit (TST_LANE_STAT_SYNC l) = true → 16 < n →
    ∃ t, exec (.checkerSyncLoss l n) s = .next t ∧ t.fld (TST_LANE_STAT_SYNC l) = 0 ∧
      t.fld (TST_LANE_CNT_LOCK_COUNT l) = min (s.fld (TST_LANE_CNT_LOCK_COUNT l) + 1) (2 ^ 32 - 1) ∧ tget (fun _ => 0) t.tst.sync l = 0 ∧
      t.pairVal (TST_LANE_CNT_ERR_LO l) (TST_LANE_CNT_ERR_HI l) =
        (s.pairVal (TST_LANE_CNT_ERR_LO l) (TST_LANE_CNT_ERR_HI l) + min n 1024) % 2 ^ 64 ∧
      tget (fun _ => 0) t.tst.bits l = s.tstBits l ∧ t.pairVal (TST_LANE_CNT_BITS_LO l) (TST_LANE_CNT_BITS_HI l) = s.tstBits l % 2 ^ 64 ∧
      Raises s t 0x2001 l 0 ∧ t = { s with tst := t.tst, regs := t.regs, evq := t.evq, ctl := t.ctl } ∧
      Keeps s t [TST_LANE_STAT l, TST_LANE_CNT_ERR_LO l, TST_LANE_CNT_ERR_HI l, TST_LANE_CNT_BITS_LO l, TST_LANE_CNT_BITS_HI l,
        TST_LANE_CNT_LOCK l]) ∧
  (∀ (s : State) (l : Fin 64) (n : Nat), s.bit (TST_LANE_STAT_SYNC l) = false → exec (.checkerSyncLoss l n) s = .next s) ∧
  (∀ (s : State) (p : Fin 16),
    s.bit (TST_YZ_CTRL_EN p) = true → s.bit (YZ_PORT_STAT_UP p) = true →
    ((s.yzp p).testRaw = 0 ∨ s.raw + 1 - (s.yzp p).testRaw ≥ s.fld (TST_YZ_CTRL_INTERVAL p) * usU) →
    ∃ u, exec (.yzTestSend p) s = .next (u.yzEnqueue p 7 (s.yzTestBytes p)) ∧ u.yzp p = { s.yzp p with testRaw := s.raw + 1 } ∧
      (∀ k, k ≠ p.val → u.yzp k = s.yzp k) ∧
      u.fld (TST_YZ_CNT_SENT_COUNT p) = min (s.fld (TST_YZ_CNT_SENT_COUNT p) + 1) (2 ^ 32 - 1) ∧
      u = { s with yz := { s.yz with ports := u.yz.ports }, regs := u.regs, fresh := s.fresh + 1 } ∧ Keeps s u [TST_YZ_CNT_SENT p]) ∧
  (∀ (s : State) (p : Fin 16), (s.bit (TST_YZ_CTRL_EN p) = false ∨ s.bit (YZ_PORT_STAT_UP p) = false ∨
      ((s.yzp p).testRaw ≠ 0 ∧ s.raw + 1 - (s.yzp p).testRaw < s.fld (TST_YZ_CTRL_INTERVAL p) * usU)) →
    exec (.yzTestSend p) s = .next s) ∧
  (∀ (s : State) (p : Fin 16) (ok : Bool) (m : Nat × List Byte) (a l : List (Nat × List Byte)),
    (s.yzp p).msgs = a ++ m :: l → (∀ x, x ∈ a → x.1 ≠ 7 ∨ (msgHdr x.2).src ≠ s.ownAddr) → m.1 = 7 → (msgHdr m.2).src = s.ownAddr →
    ∃ t, exec (.yzTestMsgRx p ok) s = .next t ∧ (t.yzp p).msgs = a ++ l ∧
      t.fld (TST_YZ_CNT_BACK_COUNT p) = min (s.fld (TST_YZ_CNT_BACK_COUNT p) + 1) (2 ^ 32 - 1) ∧
      t.fld (TST_YZ_CNT_BAD_COUNT p) =
        (if ok then s.fld (TST_YZ_CNT_BAD_COUNT p) else min (s.fld (TST_YZ_CNT_BAD_COUNT p) + 1) (2 ^ 32 - 1)) ∧
      t.yzp p = { s.yzp p with msgs := a ++ l } ∧ (∀ k, k ≠ p.val → t.yzp k = s.yzp k) ∧
      t = { s with yz := { s.yz with ports := t.yz.ports }, regs := t.regs } ∧ Keeps s t [TST_YZ_CNT_BACK p, TST_YZ_CNT_BAD p]) ∧
  (∀ (s : State) (p : Fin 16) (ok : Bool), (∀ x, x ∈ (s.yzp p).msgs → x.1 ≠ 7 ∨ (msgHdr x.2).src ≠ s.ownAddr) →
    exec (.yzTestMsgRx p ok) s = .next s) ∧
  (∀ (s : State) (p : Port) (k : Fin 8) (i : Fin 128),
    Taken s p TST_BIST_CMD (tstWord k i) → s.tst.bist = none → s.blockFenced k i = true →
    ∃ t, exec (.tstBistCmd p k i) s = .next t ∧ Succeeded t ∧ t.tst = { s.tst with bist := some (k.val, i.val) } ∧
      t.fld TST_BIST_STAT_READY = 0 ∧ t.fld TST_BIST_STAT_ERR = 0 ∧ t.fld TST_STAT_BIST = 1 ∧
      t = { s with tst := t.tst, regs := t.regs, ctl := t.ctl, boot := t.boot } ∧ Keeps s t [TST_BIST_STAT, TST_STAT, CFG_BOOT_STAT]) ∧
  (∀ (s : State) (p : Port) (k : Fin 8) (i : Fin 128),
    Taken s p TST_BIST_CMD (tstWord k i) → s.tst.bist = none → s.blockFenced k i = false →
    ∃ t, exec (.tstBistCmd p k i) s = .next t ∧ Succeeded t ∧ t.fld TST_BIST_STAT_ERR = 1 ∧
      t.fld TST_BIST_STAT_READY = s.fld TST_BIST_STAT_READY ∧
      t = { s with regs := t.regs, ctl := t.ctl, boot := t.boot } ∧ Keeps s t [TST_BIST_STAT, CFG_BOOT_STAT]) ∧
  (∀ (s : State) (p : Port) (k : Fin 8) (i : Fin 128),
    Taken s p TST_GV_CMD (tstWord k i) → s.tst.gv = none → s.blockFenced k i = true →
    ∃ t, exec (.tstGvCmd p k i) s = .next t ∧ Succeeded t ∧ t.tst = { s.tst with gv := some (k.val, i.val) } ∧
      t.fld TST_GV_STAT_READY = 0 ∧ t.fld TST_GV_STAT_ERR = 0 ∧ t.fld TST_STAT_GV = 1 ∧
      t = { s with tst := t.tst, regs := t.regs, ctl := t.ctl, boot := t.boot } ∧ Keeps s t [TST_GV_STAT, TST_STAT, CFG_BOOT_STAT]) ∧
  (∀ (s : State) (p : Port) (k : Fin 8) (i : Fin 128),
    Taken s p TST_GV_CMD (tstWord k i) → s.tst.gv = none → s.blockFenced k i = false →
    ∃ t, exec (.tstGvCmd p k i) s = .next t ∧ Succeeded t ∧ t.fld TST_GV_STAT_ERR = 1 ∧
      t.fld TST_GV_STAT_READY = s.fld TST_GV_STAT_READY ∧
      t = { s with regs := t.regs, ctl := t.ctl, boot := t.boot } ∧ Keeps s t [TST_GV_STAT, CFG_BOOT_STAT]) ∧
  (∀ (s : State) (p : Port) (k : Fin 8) (i : Fin 128),
    (Taken s p TST_BIST_CMD (tstWord k i) → s.tst.bist ≠ none → ∃ t, exec (.tstBistCmd p k i) s = .next t ∧ Succeeded t ∧
      t = { s with regs := t.regs, ctl := t.ctl, boot := t.boot } ∧ Keeps s t [CFG_BOOT_STAT]) ∧
    (Taken s p TST_GV_CMD (tstWord k i) → s.tst.gv ≠ none → ∃ t, exec (.tstGvCmd p k i) s = .next t ∧ Succeeded t ∧
      t = { s with regs := t.regs, ctl := t.ctl, boot := t.boot } ∧ Keeps s t [CFG_BOOT_STAT])) ∧
  (∀ (s : State) (p : Port) (k : Fin 8) (i : Fin 128),
    (s.writeStatus p TST_BIST_CMD (tstWord k i) ≠ 0 → ∃ t, exec (.tstBistCmd p k i) s = .next t ∧ t.ctl.failed = true ∧
      t.ctl.status = s.writeStatus p TST_BIST_CMD (tstWord k i) ∧ t.tst = s.tst ∧ Keeps s t [SYS_HCP_ERR_ADDR]) ∧
    (s.writeStatus p TST_GV_CMD (tstWord k i) ≠ 0 → ∃ t, exec (.tstGvCmd p k i) s = .next t ∧ t.ctl.failed = true ∧
      t.ctl.status = s.writeStatus p TST_GV_CMD (tstWord k i) ∧ t.tst = s.tst ∧ Keeps s t [SYS_HCP_ERR_ADDR])) ∧
  (∀ (s : State) (k i a n : Nat), s.tst.bist = some (k, i) →
    ∃ t, exec (.tstTestDone false (some a) n) s = .next t ∧ t.tst = { s.tst with bist := none } ∧ t.fld TST_BIST_STAT_READY = 1 ∧
      t.fld TST_BIST_STAT_FAIL = 1 ∧ t.fld TST_BIST_FAIL_ADDR_VALUE = a % 2 ^ 32 ∧ t.fld TST_STAT_BIST = 0 ∧
      t.fld TST_BIST_CNT_REPAIR_VALUE = min (s.fld TST_BIST_CNT_REPAIR_VALUE + n) (2 ^ 32 - 1) ∧ Raises s t 0x2002 0 (evArg [(0, 4, a)]) ∧
      (k ≠ 4 → t.ket = s.ket) ∧ (k = 4 → ∀ b, b < 65536 → tget (fun _ => 0) t.ket.p (s.kKey i * 65536 + b) = 0) ∧
      t = { s with tst := t.tst, ket := t.ket, regs := t.regs, evq := t.evq, ctl := t.ctl } ∧
      Keeps s t [TST_STAT, TST_BIST_STAT, TST_BIST_FAIL_ADDR, TST_BIST_CNT_REPAIR]) ∧
  (∀ (s : State) (k i n : Nat), s.tst.bist = some (k, i) →
    ∃ t, exec (.tstTestDone false none n) s = .next t ∧ t.tst = { s.tst with bist := none } ∧ t.fld TST_BIST_STAT_READY = 1 ∧
      t.fld TST_BIST_STAT_FAIL = 0 ∧ t.fld TST_STAT_BIST = 0 ∧
      t.fld TST_BIST_CNT_REPAIR_VALUE = min (s.fld TST_BIST_CNT_REPAIR_VALUE + n) (2 ^ 32 - 1) ∧
      t = { s with tst := t.tst, ket := t.ket, regs := t.regs } ∧
      (k ≠ 4 → t.ket = s.ket) ∧ (k = 4 → ∀ a, a < 65536 → tget (fun _ => 0) t.ket.p (s.kKey i * 65536 + a) = 0) ∧
      Keeps s t [TST_STAT, TST_BIST_STAT, TST_BIST_CNT_REPAIR]) ∧
  (∀ (s : State) (k i n : Nat) (f : Option Nat), s.tst.gv = some (k, i) →
    ∃ t, exec (.tstTestDone true f n) s = .next t ∧ t.tst = { s.tst with gv := none } ∧ t.fld TST_GV_STAT_READY = 1 ∧
      t.fld TST_GV_STAT_FAIL = b2n f.isSome ∧ t.fld TST_GV_RESULT_VALUE = f.getD 0xFFFFFFFF % 2 ^ 32 ∧ t.fld TST_STAT_GV = 0 ∧
      Raises s t 0x2003 0 (evArg [(0, 1, k), (1, 1, i), (4, 4, f.getD 0xFFFFFFFF)]) ∧
      t = { s with tst := t.tst, regs := t.regs, evq := t.evq, ctl := t.ctl } ∧ Keeps s t [TST_STAT, TST_GV_STAT, TST_GV_RESULT]) ∧
  (∀ (s : State) (gv : Bool) (f : Option Nat) (n : Nat), (if gv then s.tst.gv else s.tst.bist) = none →
    exec (.tstTestDone gv f n) s = .next s)

/-- An RTP packet of a resident flow without SRTP and without a decode context, whose number follows within 3,000, advances EXT_SEQ, is counted
with its bytes, and counts the numbers it skips (R224); without a target nothing leaves. A copy for an audio send flow that goes on with the same
source takes the next EXT_SEQ and the offsets of the send flow's stretch, and waits in its leg's pacer (R231). A late packet, at most 100 behind,
is counted and leaves EXT_SEQ (R225); a number far off is discarded and remembered as a probe, and the one after a probe restarts the flow with
event 0x1806 (R224). A packet of a flow in STATE 3 is counted in BRG_CNT_CRC (R214), one of no flow or of no known kind in FWD_CNT_NOMATCH (R222),
one that fails authentication in FWD_CNT_AUTH (R229); STUN and DTLS go to the punt queue (R223). With forwarding or the bridge off, or with unsound
headers, nothing happens (R221). A unit whose check decoder computes another CRC is recorded in DEC_CHK_LAST and its tun is fenced with CAUSE 1
(R144, R145). -/
def Obligations.ReceiveAndForward : Prop :=
  (∀ (s : State) (p : RtpPkt) (f e d : Nat),
    s.RtpOk p f → (s.fx f).resident = true → (s.fx f).probe = none → (s.recState 0 f = 1 ∨ s.recState 0 f = 2) →
    (s.record 0 f).length = 128 → s.flag f 0 = false → s.ff f 0x36 1 = 0 → s.fresh0 f = false → 8192 ≤ s.ff f 0x3C 4 → s.targets f = [] →
    (p.rap = false ∨ p.auStart = false) →
    e = s.ff f 0xC8 8 → d = (p.seq + 65536 - e % 65536) % 65536 → 1 ≤ d → d ≤ 3000 →
    ∃ t, exec (.rtpPacketRx p) s = .next t ∧ t.ff f 0xC8 8 = (e + d) % 2 ^ 64 ∧ t.ff f 0x180 8 = (s.ff f 0x180 8 + 1) % 2 ^ 64 ∧
      t.ff f 0x188 8 = (s.ff f 0x188 8 + p.len) % 2 ^ 64 ∧ t.ff f 0x190 4 = (s.ff f 0x190 4 + (d - 1)) % 2 ^ 32 ∧
      t.ff f 0xDC 4 = p.ts % 2 ^ 32 ∧ t.ff f 0x1AC 4 = s.nowUs % 2 ^ 32 ∧
      (∀ g, g ≠ f → t.record 0 g = s.record 0 g ∧ t.fx g = s.fx g) ∧ (s.flag f 4 = false → t.dram = s.dram) ∧
      (s.isVideo f = true → t.aud = s.aud) ∧ t = { s with brg := t.brg, aud := t.aud, dram := t.dram }) ∧
  (∀ (s : State) (p : RtpPkt) (f g l e : Nat),
    s.RtpOk p f → (s.fx f).resident = true → (s.fx f).probe = none → (s.recState 0 f = 1 ∨ s.recState 0 f = 2) →
    (s.record 0 f).length = 128 → s.flag f 0 = false → s.flag f 4 = false → s.ff f 0x36 1 = 0 → s.fresh0 f = false → 8192 ≤ s.ff f 0x3C 4 →
    s.targets f = [g] → (p.rap = false ∨ p.auStart = false) →
    p.seq = (s.ff f 0xC8 8 + 1) % 65536 → (s.fx g).resident = true → s.recState 0 g = 1 → (s.record 0 g).length = 128 → g ≠ f →
    s.isVideo g = false → s.flag g 0 = false → (s.fx g).prevSrc = some f → (s.fx g).withheld = 0 → p.bad.contains g = false →
    f < 2097152 → s.isActive = false → s.flowLeg g = some l → (16 ≤ s.ff g 0x0A 1 ∨ s.egBridge (s.ff g 0x0A 1) + p.len ≤ 6291456) →
    e = s.ff g 0xC8 8 →
    ∃ t, exec (.rtpPacketRx p) s = .next t ∧ t.ff g 0xC8 8 = (e + 1) % 2 ^ 64 ∧ t.ff g 0xDC 4 = (p.ts + s.ff g 0xC4 4) % 2 ^ 32 ∧
      (tget (fun _ => Pacer.zero) t.brg.pacers l).queue = (tget (fun _ => Pacer.zero) s.brg.pacers l).queue ++
        [⟨g, (p.seq + s.ff g 0xC0 2) % 65536, e + 1, (p.ts + s.ff g 0xC4 4) % 2 ^ 32, p.len, s.raw, false, 0⟩] ∧
      (∀ k, k ≠ l → tget (fun _ => Pacer.zero) t.brg.pacers k = tget (fun _ => Pacer.zero) s.brg.pacers k) ∧
      (∀ h, h ≠ f → h ≠ g → t.record 0 h = s.record 0 h) ∧ t = { s with brg := t.brg, aud := t.aud }) ∧
  (∀ (s : State) (p : RtpPkt) (f e d : Nat),
    s.RtpOk p f → (s.fx f).resident = true → (s.fx f).probe = none → (s.recState 0 f = 1 ∨ s.recState 0 f = 2) →
    (s.record 0 f).length = 128 → s.flag f 0 = false → s.flag f 4 = false → s.ff f 0x36 1 = 0 → s.fresh0 f = false → 8192 ≤ s.ff f 0x3C 4 →
    s.targets f = [] → e = s.ff f 0xC8 8 → d = (p.seq + 65536 - e % 65536) % 65536 → (d = 0 ∨ 65536 - d ≤ 100) →
    ∃ t, exec (.rtpPacketRx p) s = .next t ∧ t.ff f 0xC8 8 = e ∧ t.ff f 0x180 8 = (s.ff f 0x180 8 + 1) % 2 ^ 64 ∧
      t.ff f 0x188 8 = (s.ff f 0x188 8 + p.len) % 2 ^ 64 ∧ t.ff f 0x190 4 = s.ff f 0x190 4 ∧
      (∀ y, y ∈ (t.fx f).gaps → y ∈ (s.fx f).gaps) ∧
      (∀ y, y ∈ (t.fx f).gaps → y.1 ≠ (if d = 0 then e else e - (65536 - d))) ∧
      (∀ g, g ≠ f → t.record 0 g = s.record 0 g ∧ t.fx g = s.fx g) ∧ t = { s with brg := t.brg }) ∧
  (∀ (s : State) (p : RtpPkt) (f d : Nat),
    s.RtpOk p f → (s.fx f).resident = true → (s.recState 0 f = 1 ∨ s.recState 0 f = 2) → s.flag f 0 = false → s.ff f 0x36 1 = 0 →
    ((∃ q, (s.fx f).probe = some q ∧ p.seq ≠ q) ∨ ((s.fx f).probe = none ∧ s.fresh0 f = false ∧
      d = (p.seq + 65536 - s.ff f 0xC8 8 % 65536) % 65536 ∧ 3000 < d ∧ 100 < 65536 - d)) →
    ∃ t, exec (.rtpPacketRx p) s = .next t ∧ (t.fx f).probe = some ((p.seq + 1) % 65536) ∧ t.brg.flows = s.brg.flows ∧
      (∀ g, g ≠ f → t.fx g = s.fx g) ∧ t = { s with brg := t.brg }) ∧
  (∀ (s : State) (p : RtpPkt) (f : Nat),
    s.RtpOk p f → (s.fx f).resident = true → (s.recState 0 f = 1 ∨ s.recState 0 f = 2) → (s.record 0 f).length = 128 → s.flag f 0 = false →
    s.flag f 4 = false → s.ff f 0x36 1 = 0 → 8192 ≤ s.ff f 0x3C 4 → s.targets f = [] → (p.rap = false ∨ p.auStart = false) →
    (s.fx f).probe = some p.seq →
    ∃ t, exec (.rtpPacketRx p) s = .next t ∧ t.ff f 0xC8 8 = p.seq % 2 ^ 64 ∧ (t.fx f).probe = none ∧
      t.ff f 0x180 8 = (s.ff f 0x180 8 + 1) % 2 ^ 64 ∧ Raises s t 0x1806 f (evArg [(0, 2, p.seq)]) ∧
      (∀ g, g ≠ f → t.record 0 g = s.record 0 g ∧ t.fx g = s.fx g) ∧
      t = { s with brg := t.brg, aud := t.aud, regs := t.regs, evq := t.evq, ctl := t.ctl } ∧ Keeps s t []) ∧
  (∀ (s : State) (p : RtpPkt) (f : Nat),
    s.RtpOk p f → (s.fx f).resident = true → s.recState 0 f = 3 →
    ∃ t, exec (.rtpPacketRx p) s = .next t ∧ t.fld BRG_CNT_CRC_COUNT = min (s.fld BRG_CNT_CRC_COUNT + 1) (2 ^ BRG_CNT_CRC_COUNT.width - 1) ∧
      t = { s with regs := t.regs } ∧ Keeps s t [BRG_CNT_CRC]) ∧
  (∀ (s : State) (p : RtpPkt),
    s.bit FWD_CFG_EN = true → s.bit BRG_CFG_EN = true → s.blockRuns 102 = true → p.hdrOk = true → 64 ≤ p.frame → p.frame ≤ 9216 → s.yzPort p.mac p.lport = false →
    ((p.b0 < 4 ∨ (20 ≤ p.b0 ∧ p.b0 < 64)) → s.classifyPorts p = none) →
    (128 ≤ p.b0 → p.b0 < 192 → 192 ≤ p.b1 → p.b1 < 224 → s.classifyRtcp p = none) →
    (128 ≤ p.b0 → p.b0 < 192 → ¬(192 ≤ p.b1 ∧ p.b1 < 224) → s.classify p = none) →
    ∃ t, exec (.rtpPacketRx p) s = .next t ∧
      t.fld FWD_CNT_NOMATCH_COUNT = min (s.fld FWD_CNT_NOMATCH_COUNT + 1) (2 ^ FWD_CNT_NOMATCH_COUNT.width - 1) ∧
      t = { s with regs := t.regs } ∧ Keeps s t [FWD_CNT_NOMATCH]) ∧
  (∀ (s : State) (p : RtpPkt) (f : Nat),
    s.bit FWD_CFG_EN = true → s.bit BRG_CFG_EN = true → s.blockRuns 102 = true → p.hdrOk = true → 64 ≤ p.frame → p.frame ≤ 9216 → s.yzPort p.mac p.lport = false →
    (p.b0 < 4 ∨ (20 ≤ p.b0 ∧ p.b0 < 64)) → s.classifyPorts p = some f → s.brg.punt.length < 256 → p.len ≤ 1536 →
    ∃ t, exec (.rtpPacketRx p) s = .next t ∧ t.brg = { s.brg with punt := s.brg.punt ++ [Punt.mk f p.len p.words] } ∧
      (s.brg.punt = [] → Raises s t 0x1807 0 (evArg [(4, 4, 1)])) ∧
      t = { s with brg := t.brg, regs := t.regs, evq := t.evq, ctl := t.ctl } ∧ Keeps s t [FWD_PUNT_STAT]) ∧
  (∀ (s : State) (p : RtpPkt) (f : Nat),
    s.RtpOk p f → (s.fx f).resident = true → (s.recState 0 f = 1 ∨ s.recState 0 f = 2) → (s.record 0 f).length = 128 → s.flag f 0 = true →
    p.authOk = false →
    ∃ t, exec (.rtpPacketRx p) s = .next t ∧ t.ff f 0x1A0 4 = (s.ff f 0x1A0 4 + 1) % 2 ^ 32 ∧ t.ff f 0xC8 8 = s.ff f 0xC8 8 ∧
      t.fld FWD_CNT_AUTH_COUNT = min (s.fld FWD_CNT_AUTH_COUNT + 1) (2 ^ FWD_CNT_AUTH_COUNT.width - 1) ∧ t.out = s.out ∧
      Keeps s t [FWD_CNT_AUTH]) ∧
  (∀ (s : State) (p : RtpPkt),
    (s.bit FWD_CFG_EN = false ∨ s.bit BRG_CFG_EN = false ∨ s.blockRuns 102 = false ∨ p.hdrOk = false ∨ p.frame < 64 ∨ 9216 < p.frame) →
    exec (.rtpPacketRx p) s = .next s) ∧
  (∀ (s : State) (n : Fin 16) (k : Nat) (rend : Fin 12) (u d : Nat) (p : RPic) (r : Option (List Int)),
    (s.chan n).pic k rend = some p → s.ChkNext n k rend u d p → u < 2048 → d < 8 →
    (∀ v, r = some v → (unitCrc (depthOf ((s.asOf n k).fld (ENC_CH_REND_CODEC_DEPTH n rend))) v).toNat ≠ (p.units.getD u UnitRec.zero).crc) →
    (p.units.getD u UnitRec.zero).tun < 40 → s.tunFenced (p.units.getD u UnitRec.zero).tun = false →
    ∃ t, exec (.checkUnitDecoded (.live n k rend u) r) s = .next t ∧ t.fld (DEC_CHK_LAST_UNIT d) = u ∧ t.fld (DEC_CHK_LAST_VALID d) = 1 ∧
      t.fld (DEC_CHK_LAST_TUN d) = (p.units.getD u UnitRec.zero).tun ∧ t.fld (DEC_CHK_LAST_REND d) = rend.val ∧
      t.fld (DEC_CHK_LAST_CHANNEL d) = n.val ∧ t.tunFenced (p.units.getD u UnitRec.zero).tun = true ∧
      t.fld (ENC_TUN_STAT_CAUSE (p.units.getD u UnitRec.zero).tun) = 1 ∧ t.dram = s.dram)

/-- Where no rule fails, the projected configuration keeps every zone's limits in strictly rising order with HOT_CRIT at most 115 °C (R531),
names no trigger of the device in a register (R365), asks for SLEEP or DEEP only with every channel, the bridge, audio and pairing off
(R520), stages nothing racked on a STANDBY (R421), places every rendition and keeps each one's buffer model sound (R75, R118), gives every
enabled channel a delay of at least its least D, with the pair's lead, and at most 8 frames (R32), configures every enabled MAC as R374's table
allows, keeps every write queue's watermarks in order (R486), leaves no gate off whose block has work (R516), and turns nothing on while the
core voltage has a FAULT (R523). -/
def Obligations.CheckedConfiguration : Prop :=
  ∀ (s : State), s.gravity = none →
    (∀ z, z < 16 →
      s.projected.sfld (THM_ZONE_LIM_A_COLD_LIMIT z) < s.projected.sfld (THM_ZONE_LIM_A_COLD_WARN z) ∧
      s.projected.sfld (THM_ZONE_LIM_A_COLD_WARN z) < s.projected.sfld (THM_ZONE_LIM_A_HOT_WARN z) ∧
      s.projected.sfld (THM_ZONE_LIM_A_HOT_WARN z) < s.projected.sfld (THM_ZONE_LIM_A_HOT_THROTTLE z) ∧
      s.projected.sfld (THM_ZONE_LIM_A_HOT_THROTTLE z) < s.projected.sfld (THM_ZONE_LIM_B_HOT_CRIT z) ∧
      s.projected.sfld (THM_ZONE_LIM_B_HOT_CRIT z) ≤ 115) ∧
    (∀ p, p < 16 → s.projected.fld (CMP_PIPE_CFG_TRIGGER p) < 32) ∧ s.projected.fld AUD_CFG_TRIGGER < 32 ∧
    (s.projected.fld PWR_MODE_REQ ≠ 0 →
      (∀ n, n < 16 → s.projected.chOn n = false) ∧ s.projected.bit BRG_CFG_EN = false ∧ s.projected.bit AUD_CFG_EN = false ∧
      s.projected.fld RDN_CFG_MODE = 0) ∧
    (s.isStandby = true → ∀ e, e ∈ s.stage.writes → rackedBlock e.1 = false) ∧ s.projected.assign.missing = [] ∧
    (∀ n, n < 16 → s.projected.chOn n = true →
      s.projected.minD n + s.projected.rackLead ≤ s.projected.delayD n ∧ s.projected.delayD n ≤ 8 * s.projected.tf n ∧
      ∀ k, k ∈ s.projected.rends n → s.projected.codecFits n k = true ∧ s.projected.bufferBad n k = false) ∧
    (∀ m, m < 16 → s.projected.bit (LNK_MAC_CFG_EN m) = true →
      macCfgOk (s.projected.fld (LNK_MAC_CFG_SPEED m)) (s.projected.fld (LNK_MAC_CFG_LANES m)) (s.projected.fld (LNK_MAC_CFG_FEC m)) = true) ∧
    (∀ c, c < 24 → 0 < s.projected.fld (DRM_CH_SCHED_WR_LOW c) ∧
      s.projected.fld (DRM_CH_SCHED_WR_LOW c) < s.projected.fld (DRM_CH_SCHED_WR_HIGH c) ∧ s.projected.fld (DRM_CH_SCHED_WR_HIGH c) ≤ 63) ∧
    (∀ g, g < 148 → s.projected.bit (CLK_GATE_RUN g) = false → s.projected.gateWork g = false) ∧
    (s.bit PWR_AVS_STAT_FAULT = true → ∀ f, f ∈ workEnables → s.projected.bit f = true → s.bit f = true)

/-- A step on a queue with a command at its front is that command's effect on the state with the rest of the queue (R561: writes take effect in
the order of their edges). On an empty queue one TCLK cycle passes, which is the model's choice (log entry 4): the raw counter advances by
65,536 (R346), every other part of the timebase is as it was, and nothing changes but the parts named. Where no transport stream runs and no mix
cycle's packets are due, only counters, events that were held back and the DRAM queues can change; where those are idle too, the DRAM is as it
was, and FWD_EG_STAT shows what the egress queues hold (R247). The packets of a mix cycle leave once 8 ms have passed since its trigger (R256),
and a device held in cold reset stands still (log entry 9). No word spells a command (log entry 39). -/
def Obligations.QueueTakesCommandsInOrder : Prop :=
  (∀ (c : Instr) (s : State) (l : List Instr), step { s with pending := c :: l } = exec c { s with pending := l }) ∧
  (∀ (s : State), s.pending = [] → s.boot.porHeld = true → s.boot.cold = true → step s = .next s) ∧
  (∀ (s : State), s.pending = [] → (s.boot.porHeld = false ∨ s.boot.cold = false) →
    ∃ t, step s = .next t ∧ t.tb = { s.tb with raw := s.raw + 65536 } ∧ t.ctl.stale = [] ∧
      t = { s with tb := t.tb, ctl := t.ctl, regs := t.regs, evq := t.evq, lims := t.lims, dr := t.dr, dram := t.dram, fresh := t.fresh, enc := t.enc, out := t.out, aud := t.aud, brg := t.brg, rdn := t.rdn, yz := t.yz, cask := t.cask, safe := t.safe }) ∧
  (∀ (s : State), s.pending = [] → (s.boot.porHeld = false ∨ s.boot.cold = false) →
    (s.aud.pack = false ∨ s.raw + 65536 < s.aud.cycRaw + 8 * msU) → (∀ c, c ∈ s.enc.chans → c.2.run = true → c.2.tsAt = []) →
    ∃ t, step s = .next t ∧ t.tb = { s.tb with raw := s.raw + 65536 } ∧ t.ctl.stale = [] ∧
      t = { s with tb := t.tb, ctl := t.ctl, regs := t.regs, evq := t.evq, lims := t.lims, dr := t.dr, dram := t.dram, fresh := t.fresh } ∧
      (s.dr.setPend = false → (∀ x, x ∈ s.dr.chs → x.2.writes = [] ∧ x.2.held = []) → t.dr = s.dr ∧ t.dram = s.dram ∧ t.fresh = s.fresh ∧
        ∀ m, m < 16 → t.fld (FWD_EG_STAT_LIVE_KB m) = min 2048 (s.egLive m / 1024) ∧
          t.fld (FWD_EG_STAT_BRIDGE_KB m) = min 6144 (s.egBridge m / 1024))) ∧
  (∀ (s : State), s.pending = [] → (s.boot.porHeld = false ∨ s.boot.cold = false) → s.aud.pack = true →
    s.raw + 65536 ≥ s.aud.cycRaw + 8 * msU → s.audSessions = [] →
    ∃ t, step s = .next t ∧ t.aud = { s.aud with pack := false } ∧ t.tb = { s.tb with raw := s.raw + 65536 }) ∧
  (∀ (s : State) (n w : Nat), s.withFetchWord n w = s)

/-- After reset no command waits, memory is canonical and empty, the event queue and the fault log are empty and in order, the raw counter is 0
(R346), start-up is in step 1, no image has been read and the control port has MAINTAIN (R543), and a register reads the reset value of its
table: identity, start-up, pair timing, and the pair's role. -/
def Obligations.ResetState : Prop :=
  State.reset.pending = [] ∧ Memory.wf State.reset.dram = true ∧ State.reset.evq.ok = true ∧ State.reset.cask.ok = true ∧
  State.reset.evq.fill = 0 ∧ State.reset.raw = 0 ∧ State.reset.fld CFG_BOOT_STAT_STEP = 1 ∧ State.reset.fld PWR_MODE_CUR = 1 ∧
  State.reset.level .hcp = 4 ∧ State.reset.rd SYS_ID = 0x4D4D8120 ∧ State.reset.rd RDN_CFG2 = 0x040A0A0A ∧
  State.reset.role = 0 ∧ State.reset.safe.mode = false ∧ State.reset.cask.logSeq = 0 ∧ State.reset.cask.gyle = 0 ∧
  (∀ a, State.reset.rd a = regReset a)

/-- No command of the table ends in a fault or a refusal, in any state: where the manual refuses a command, the device answers with a STATUS, an
ERR field or nothing (R562), and goes on. -/
def Obligations.NoCommandStops : Prop := ∀ (c : Instr) (s : State), ∃ t, exec c s = .next t

/-- From every state whose DRAM lists rising addresses and no byte that an unlisted address reads as, every step, whatever command or clock
cycle it is, gives a state whose DRAM has that form: no write path, DMA, fill or reset breaks it. -/
def Obligations.EveryStepKeepsMemoryCanonical : Prop :=
  ∀ s t : State, Memory.wf s.dram = true → step s = .next t → Memory.wf t.dram = true

/-- From every state in which the read count is at most the write count, at most 1,024 records wait and the ring's slots are those of R588, every
step gives such a state: an overwrite moves the read count (R589), a write of EVQ_RD stays within the queue (R590). The fault log's slots stay
within its 8,192 (R463). -/
def Obligations.EveryStepKeepsTheQueuesInOrder : Prop :=
  (∀ s t : State, s.evq.ok = true → step s = .next t → t.evq.ok = true) ∧
  (∀ s t : State, s.cask.ok = true → step s = .next t → t.cask.ok = true)

/-- Whatever a command does, the commands that wait behind it are as they were (R561), and the raw counter is as it was, for nothing but a tick
of the clock advances it, nothing writes it, and power-on and brownout alone return it to 0 (R346, R538). -/
def Obligations.CommandsLeaveQueueAndClock : Prop :=
  ∀ (c : Instr) (s t : State), exec c s = .next t →
    t.pending = s.pending ∧ (c ≠ .coldReset → c ≠ .brownout → t.raw = s.raw) ∧ ((c = .coldReset ∨ c = .brownout) → t.raw = 0)

/-- From every state, every step leaves the cask's gyle and highest gyle seen at least as high as they were: a claim raises the gyle (R436), a
higher gyle seen is held, a write of the identity area that would lower one is refused (R567), and a reset keeps the cask (R538). -/
def Obligations.GylesAreNeverLowered : Prop :=
  ∀ s t : State, step s = .next t → s.cask.gyle ≤ t.cask.gyle ∧ s.cask.gyleSeen ≤ t.cask.gyleSeen

/-- From every state in SAFE mode, every step leads to a state in SAFE mode, or to one that start-up has just begun in: a reset took place (R462,
R539). -/
def Obligations.SafeModeEndsOnlyAtReset : Prop :=
  ∀ s t : State, s.safe.mode = true → step s = .next t →
    t.safe.mode = true ∨ t.fld CFG_BOOT_STAT_STEP = 1 ∨ t.fld CFG_BOOT_STAT_STEP = 2

/-- A read of EVQ_RING, shown at 0x0005_4000, plus i × 0x20 + w × 4, for every slot i of 1,024 and word w of 8, by any port that may read, returns
word w of the record in slot i of the ring (or of the ring as a snapshot in force keeps it), succeeds, and changes nothing in the device. -/
def Obligations.EventRingReads : Prop :=
  ∀ (s : State) (p : Port) (i w : Nat), i < 1024 → w < 8 → 1 ≤ s.level p → s.ctl.stale.contains (0x54000 + i * 0x20 + w * 4) = false →
    ∃ t, exec (.rcRead p (0x54000 + i * 0x20 + w * 4)) s = .next t ∧ Succeeded t ∧ t = { s with ctl := t.ctl } ∧
      t.ctl.rdData = (tget (fun _ => EvRec.zero) s.shown.evq.ring i).word w

/-- Each of the 16 check-value units has its registers at the addresses shown for unit 0 plus u × 0x40: every one of them is occupied. A write that
a port may make to any register of a unit from 0 to 11 succeeds and changes no register and nothing else in the device; one that it may not
make is refused and changes none of them either. -/
def Obligations.DeviceCheckUnitsIgnoreWrites : Prop :=
  (∀ u, u < 16 →
    [CHK_UNIT_CFG u, CHK_UNIT_POLY u, CHK_UNIT_INIT u, CHK_UNIT_XOROUT u, CHK_UNIT_CTRL u, CHK_UNIT_VALUE u, CHK_UNIT_FEED_B u,
      CHK_UNIT_FEED_H u, CHK_UNIT_FEED_W u, CHK_UNIT_RESULT u, CHK_UNIT_ALIVE u, CHK_UNIT_STAT u, CHK_UNIT_CNT_ALIVE u] =
    [CHK_UNIT_CFG 0, CHK_UNIT_POLY 0, CHK_UNIT_INIT 0, CHK_UNIT_XOROUT 0, CHK_UNIT_CTRL 0, CHK_UNIT_VALUE 0, CHK_UNIT_FEED_B 0,
      CHK_UNIT_FEED_H 0, CHK_UNIT_FEED_W 0, CHK_UNIT_RESULT 0, CHK_UNIT_ALIVE 0, CHK_UNIT_STAT 0, CHK_UNIT_CNT_ALIVE 0].map (· + u * 0x40) ∧
    (∀ o, o ∈ [0x00, 0x04, 0x08, 0x0C, 0x10, 0x14, 0x18, 0x1C, 0x20, 0x24, 0x28, 0x2C, 0x30] → (regRow (0x70000 + u * 0x40 + o)).isSome = true)) ∧
  (∀ (s : State) (p : Port) (u o : Nat) (v : W32), u < 12 → o < 0x40 → s.writeStatus p (0x70000 + u * 0x40 + o) v = 0 →
    ∃ t, exec (.registerWrite p (0x70000 + u * 0x40 + o) v) s = .next t ∧ Succeeded t ∧ t = { s with ctl := t.ctl }) ∧
  (∀ (s : State) (p : Port) (u o : Nat) (v : W32), u < 12 → o < 0x40 → s.writeStatus p (0x70000 + u * 0x40 + o) v ≠ 0 →
    ∃ t, exec (.registerWrite p (0x70000 + u * 0x40 + o) v) s = .next t ∧ t.ctl.failed = true ∧ Keeps s t [SYS_HCP_ERR_ADDR])
end

