-- ==== Sys2Proof/Laws/Tab.lean ====
section
/-! SUPPORT. Sparse tables: what a read after a write gives, and that writes keep the canonical form. -/

namespace Sys2Proof.Machine

theorem tfind_tput_same {α : Type} (t : Tab α) (k : Nat) (v : α) : tfind (tput t k v) k = some v := by
  induction t with
  | nil => simp [tput, tfind]
  | cons h t ih =>
    obtain ⟨k', v'⟩ := h
    by_cases h1 : k < k'
    · simp [tput, tfind, h1]
    · by_cases h2 : k = k'
      · simp [tput, tfind, h2]
      · have h3 : ¬ k' = k := fun e => h2 e.symm
        simp [tput, tfind, h1, h2, h3, ih]

theorem tfind_tput_other {α : Type} (t : Tab α) (k j : Nat) (v : α) (hj : j ≠ k) : tfind (tput t k v) j = tfind t j := by
  have hk : ¬ k = j := fun e => hj e.symm
  induction t with
  | nil => simp [tput, tfind, hk]
  | cons h t ih =>
    obtain ⟨k', v'⟩ := h
    by_cases h1 : k < k'
    · simp [tput, tfind, h1, hk]
    · by_cases h2 : k = k'
      · subst h2; simp [tput, tfind, hk]
      · simp [tput, tfind, h1, h2, ih]

theorem tfind_tdel_same {α : Type} (t : Tab α) (k : Nat) : tfind (tdel t k) k = none := by
  induction t with
  | nil => simp [tdel, tfind]
  | cons h t ih =>
    obtain ⟨k', v'⟩ := h
    by_cases h2 : k = k'
    · simp [tdel, h2] at ih ⊢; simpa [h2] using ih
    · have h3 : ¬ k' = k := fun e => h2 e.symm
      simp [tdel, tfind, h2, h3, ih]

theorem tfind_tdel_other {α : Type} (t : Tab α) (k j : Nat) (hj : j ≠ k) : tfind (tdel t k) j = tfind t j := by
  induction t with
  | nil => simp [tdel, tfind]
  | cons h t ih =>
    obtain ⟨k', v'⟩ := h
    by_cases h2 : k = k'
    · subst h2; have hk : ¬ k = j := fun e => hj e.symm
      simp [tdel, tfind, hk, ih]
    · simp [tdel, tfind, h2, ih]

/-- A read of the key that was written gives the value written. -/
@[simp] theorem tget_tset_same {α : Type} [DecidableEq α] (d : Nat → α) (t : Tab α) (k : Nat) (v : α) :
    tget d (tset d t k v) k = v := by
  by_cases h : v = d k
  · simp [tget, tset, h, tfind_tdel_same]
  · simp [tget, tset, h, tfind_tput_same]

/-- A read of any other key gives what it gave before. -/
theorem tget_tset_other {α : Type} [DecidableEq α] (d : Nat → α) (t : Tab α) (k j : Nat) (v : α) (hj : j ≠ k) :
    tget d (tset d t k v) j = tget d t j := by
  by_cases h : v = d k
  · simp [tget, tset, h, tfind_tdel_other t k j hj]
  · simp [tget, tset, h, tfind_tput_other t k j v hj]

/-! ### The canonical form -/

/-- The keys of a table rise strictly, all above a bound when one is given. -/
theorem tsorted_weaken {α : Type} (lo k : Nat) (t : Tab α) (h : tsorted (some k) t = true) (hk : lo ≤ k) :
    tsorted (some lo) t = true := by
  cases t with
  | nil => rfl
  | cons x t =>
    simp only [tsorted, Bool.and_eq_true, decide_eq_true_eq] at h ⊢
    exact ⟨by omega, h.2⟩

theorem tsorted_none {α : Type} (lo : Nat) (t : Tab α) (h : tsorted (some lo) t = true) : tsorted none t = true := by
  cases t with
  | nil => rfl
  | cons x t => simp only [tsorted, Bool.and_eq_true] at h ⊢; exact h.2

theorem tsorted_tput {α : Type} (t : Tab α) (k : Nat) (v : α) (lo : Option Nat) (h : tsorted lo t = true)
    (hk : ∀ l, lo = some l → l < k) : tsorted lo (tput t k v) = true := by
  induction t generalizing lo with
  | nil => cases lo <;> simp [tput, tsorted]; exact hk _ rfl
  | cons x t ih =>
    obtain ⟨k', v'⟩ := x
    have hx : tsorted (some k') t = true := by
      cases lo with
      | none => simpa [tsorted] using h
      | some l => simp only [tsorted, Bool.and_eq_true] at h; exact h.2
    by_cases h1 : k < k'
    · simp only [tput, h1, if_true]
      cases lo with
      | none => simp [tsorted, h1, hx]
      | some l => simp [tsorted, h1, hx, hk l rfl]
    · by_cases h2 : k = k'
      · subst h2
        simp only [tput, Nat.lt_irrefl, if_false, if_true]
        cases lo with
        | none => simpa [tsorted] using hx
        | some l => simp [tsorted, hx, hk l rfl]
      · simp only [tput, h1, h2, if_false]
        have hr := ih (some k') hx (by intro l e; cases e; omega)
        cases lo with
        | none => simpa [tsorted] using hr
        | some l =>
          simp only [tsorted, Bool.and_eq_true, decide_eq_true_eq] at h ⊢
          exact ⟨h.1, hr⟩

theorem tsorted_tdel {α : Type} (t : Tab α) (k : Nat) (lo : Option Nat) (h : tsorted lo t = true) :
    tsorted lo (tdel t k) = true := by
  induction t generalizing lo with
  | nil => simpa [tdel] using h
  | cons x t ih =>
    obtain ⟨k', v'⟩ := x
    have hx : tsorted (some k') t = true := by
      cases lo with
      | none => simpa [tsorted] using h
      | some l => simp only [tsorted, Bool.and_eq_true] at h; exact h.2
    by_cases h2 : k = k'
    · simp only [tdel, h2, if_true]
      have hr := ih (some k') hx
      rw [h2] at hr
      cases lo with
      | none => exact tsorted_none _ _ hr
      | some l =>
        simp only [tsorted, Bool.and_eq_true, decide_eq_true_eq] at h
        exact tsorted_weaken l k' _ hr (by omega)
    · simp only [tdel, h2, if_false]
      have hr := ih (some k') hx
      cases lo with
      | none => simpa [tsorted] using hr
      | some l =>
        simp only [tsorted, Bool.and_eq_true, decide_eq_true_eq] at h ⊢
        exact ⟨h.1, hr⟩

/-- What a write lists besides the written entry was listed before. -/
theorem mem_tput {α : Type} (t : Tab α) (k : Nat) (v : α) (x : Nat × α) (h : x ∈ tput t k v) : x = (k, v) ∨ x ∈ t := by
  induction t with
  | nil => simp [tput] at h; exact .inl h
  | cons y t ih =>
    obtain ⟨k', v'⟩ := y
    by_cases h1 : k < k'
    · simp [tput, h1] at h ⊢; exact h
    · by_cases h2 : k = k'
      · simp [tput, h2] at h ⊢; rcases h with h | h
        · exact .inl h
        · exact .inr (.inr h)
      · simp [tput, h1, h2] at h ⊢
        rcases h with h | h
        · exact .inr (.inl h)
        · rcases ih h with h | h
          · exact .inl h
          · exact .inr (.inr h)

theorem mem_tdel {α : Type} (t : Tab α) (k : Nat) (x : Nat × α) (h : x ∈ tdel t k) : x ∈ t := by
  induction t with
  | nil => simp [tdel] at h
  | cons y t ih =>
    obtain ⟨k', v'⟩ := y
    by_cases h2 : k = k'
    · simp [tdel, h2] at h; exact List.mem_cons_of_mem _ (ih (by rw [h2]; exact h))
    · simp [tdel, h2] at h
      rcases h with h | h
      · exact h ▸ List.mem_cons_self
      · exact List.mem_cons_of_mem _ (ih h)

/-- A write keeps the canonical form. -/
theorem twf_tset {α : Type} [DecidableEq α] (d : Nat → α) (t : Tab α) (k : Nat) (v : α) (h : twf d t = true) :
    twf d (tset d t k v) = true := by
  simp only [twf, Bool.and_eq_true, List.all_eq_true, decide_eq_true_eq] at h ⊢
  by_cases hv : v = d k
  · simp only [tset, hv, if_true]
    exact ⟨tsorted_tdel t k none h.1, fun x hx => h.2 x (mem_tdel t k x hx)⟩
  · simp only [tset, hv, if_false]
    refine ⟨tsorted_tput t k v none h.1 (by intro l e; cases e), fun x hx => ?_⟩
    rcases mem_tput t k v x hx with e | hm
    · subst e; exact hv
    · exact h.2 x hm

theorem tsorted_filter {α : Type} (p : Nat × α → Bool) (t : Tab α) (lo : Option Nat) (h : tsorted lo t = true) :
    tsorted lo (t.filter p) = true := by
  induction t generalizing lo with
  | nil => simpa using h
  | cons x t ih =>
    obtain ⟨k', v'⟩ := x
    have hx : tsorted (some k') t = true := by
      cases lo with
      | none => simpa [tsorted] using h
      | some l => simp only [tsorted, Bool.and_eq_true] at h; exact h.2
    have hr := ih (some k') hx
    by_cases hp : p (k', v') = true
    · rw [List.filter_cons_of_pos hp]
      cases lo with
      | none => simpa [tsorted] using hr
      | some l =>
        simp only [tsorted, Bool.and_eq_true, decide_eq_true_eq] at h ⊢
        exact ⟨h.1, hr⟩
    · rw [List.filter_cons_of_neg hp]
      cases lo with
      | none => exact tsorted_none _ _ hr
      | some l =>
        simp only [tsorted, Bool.and_eq_true, decide_eq_true_eq] at h
        exact tsorted_weaken l k' _ hr (by omega)

/-- Taking entries out keeps the canonical form. -/
theorem twf_filter {α : Type} [DecidableEq α] (d : Nat → α) (p : Nat × α → Bool) (t : Tab α) (h : twf d t = true) :
    twf d (t.filter p) = true := by
  simp only [twf, Bool.and_eq_true, List.all_eq_true, decide_eq_true_eq] at h ⊢
  exact ⟨tsorted_filter p t none h.1, fun x hx => h.2 x (List.mem_filter.mp hx).1⟩

/-- Taking out the entries of some keys. -/
theorem tfind_filter {α : Type} (p : Nat → Bool) (t : Tab α) (k : Nat) :
    tfind (t.filter (fun e => p e.1)) k = if p k then tfind t k else none := by
  induction t with
  | nil => simp [tfind]
  | cons e t ih =>
    by_cases hk : e.1 = k
    · subst hk
      cases hp : p e.1 with
      | true => simp [hp, tfind]
      | false => rw [hp] at ih; simpa [hp, tfind] using ih
    · cases hp : p e.1 <;> simp [hp, tfind, hk, ih]

end Sys2Proof.Machine
end

