-- ==== Sys2Proof/Laws/Ops.lean ====
section
/-! SUPPORT. What the shared operations do: bit fields, registers and their fields, raising an event. -/

namespace Sys2Proof.Machine

/-! ### Bit fields -/

theorem testBit_mask (lo width i : Nat) (hw : lo + width ≤ 32) :
    ((2 ^ width - 1) <<< lo % 2 ^ 32).testBit i = (decide (lo ≤ i) && decide (i < lo + width)) := by
  have hlt : (2 ^ width - 1) <<< lo < 2 ^ 32 := by
    rw [Nat.shiftLeft_eq]
    calc (2 ^ width - 1) * 2 ^ lo < 2 ^ width * 2 ^ lo := by
          apply Nat.mul_lt_mul_of_pos_right _ (Nat.two_pow_pos lo)
          have := Nat.two_pow_pos width; omega
      _ = 2 ^ (width + lo) := (Nat.pow_add 2 width lo).symm
      _ ≤ 2 ^ 32 := Nat.pow_le_pow_right (by decide) (by omega)
  rw [Nat.mod_eq_of_lt hlt, Nat.testBit_shiftLeft, Nat.testBit_two_pow_sub_one]
  by_cases h : lo ≤ i
  · have e : (i - lo < width) = (i < lo + width) := by apply propext; omega
    simp [h, e]
  · simp [h]

theorem testBit_value (lo width v i : Nat) (hw : lo + width ≤ 32) :
    ((v % 2 ^ width) <<< lo % 2 ^ 32).testBit i = (decide (lo ≤ i) && decide (i < lo + width) && v.testBit (i - lo)) := by
  have hlt : (v % 2 ^ width) <<< lo < 2 ^ 32 := by
    rw [Nat.shiftLeft_eq]
    calc (v % 2 ^ width) * 2 ^ lo < 2 ^ width * 2 ^ lo :=
          Nat.mul_lt_mul_of_pos_right (Nat.mod_lt _ (Nat.two_pow_pos width)) (Nat.two_pow_pos lo)
      _ = 2 ^ (width + lo) := (Nat.pow_add 2 width lo).symm
      _ ≤ 2 ^ 32 := Nat.pow_le_pow_right (by decide) (by omega)
  rw [Nat.mod_eq_of_lt hlt, Nat.testBit_shiftLeft, Nat.testBit_mod_two_pow]
  by_cases h : lo ≤ i
  · have e : (i - lo < width) = (i < lo + width) := by apply propext; omega
    simp [h, e]
  · simp [h]

/-- The bits of a word with a field replaced. -/
theorem testBit_fieldPut (w : W32) (lo width v i : Nat) (hw : lo + width ≤ 32) :
    (fieldPut w lo width v).toNat.testBit i =
      if lo ≤ i ∧ i < lo + width then v.testBit (i - lo) else w.toNat.testBit i := by
  simp only [fieldPut, BitVec.toNat_or, BitVec.toNat_and, BitVec.toNat_not, BitVec.toNat_ofNat, Nat.testBit_or, Nat.testBit_and]
  rw [testBit_value lo width v i hw]
  have hn : (2 ^ 32 - 1 - (2 ^ width - 1) <<< lo % 2 ^ 32).testBit i =
      (decide (i < 32) && !((2 ^ width - 1) <<< lo % 2 ^ 32).testBit i) := by
    have hx : (2 ^ width - 1) <<< lo % 2 ^ 32 < 2 ^ 32 := Nat.mod_lt _ (by decide)
    have e : 2 ^ 32 - 1 - (2 ^ width - 1) <<< lo % 2 ^ 32 = 2 ^ 32 - ((2 ^ width - 1) <<< lo % 2 ^ 32 + 1) := by omega
    rw [e, Nat.testBit_two_pow_sub_succ hx]
  rw [hn, testBit_mask lo width i hw]
  by_cases h : lo ≤ i ∧ i < lo + width
  · simp [h.1, h.2]
  · simp only [h, if_false]
    have hf : (decide (lo ≤ i) && decide (i < lo + width)) = false := by
      rw [Bool.and_eq_false_iff]; simp only [decide_eq_false_iff_not]
      by_cases h1 : lo ≤ i
      · right; exact fun h2 => h ⟨h1, h2⟩
      · left; exact h1
    rw [hf]
    by_cases h32 : i < 32
    · simp [h32]
    · have : w.toNat.testBit i = false := Nat.testBit_lt_two_pow (Nat.lt_of_lt_of_le w.isLt (Nat.pow_le_pow_right (by decide) (by omega)))
      simp [this]

theorem testBit_fieldGet (w : W32) (lo width i : Nat) :
    (fieldGet w lo width).testBit i = (decide (i < width) && w.toNat.testBit (lo + i)) := by
  rw [fieldGet, Nat.testBit_mod_two_pow, Nat.testBit_shiftRight]

/-- A field reads what was put into it. -/
theorem fieldGet_fieldPut_same (w : W32) (lo width v : Nat) (hw : lo + width ≤ 32) :
    fieldGet (fieldPut w lo width v) lo width = v % 2 ^ width := by
  apply Nat.eq_of_testBit_eq
  intro i
  rw [testBit_fieldGet, testBit_fieldPut _ _ _ _ _ hw, Nat.testBit_mod_two_pow]
  by_cases h : i < width
  · simp [h]
  · simp [h]

/-- Fields beside it keep their value. -/
theorem fieldGet_fieldPut_other (w : W32) (lo width v lo' width' : Nat) (hw : lo + width ≤ 32)
    (hd : lo + width ≤ lo' ∨ lo' + width' ≤ lo) :
    fieldGet (fieldPut w lo width v) lo' width' = fieldGet w lo' width' := by
  apply Nat.eq_of_testBit_eq
  intro i
  rw [testBit_fieldGet, testBit_fieldGet, testBit_fieldPut _ _ _ _ _ hw]
  by_cases h : i < width'
  · have : ¬ (lo ≤ lo' + i ∧ lo' + i < lo + width) := by omega
    simp [this]
  · simp [h]

/-! ### Registers -/

@[simp] theorem rd_wr_same (s : State) (a : Nat) (v : W32) : (s.wr a v).rd a = v := by simp [State.rd, State.wr]

theorem rd_wr_other (s : State) (a b : Nat) (v : W32) (h : b ≠ a) : (s.wr a v).rd b = s.rd b := by
  simp [State.rd, State.wr, tget_tset_other regReset s.regs a b v h]

theorem rd_put_other (s : State) (f : FRef) (v b : Nat) (h : b ≠ f.addr) : (s.put f v).rd b = s.rd b :=
  rd_wr_other s f.addr b _ h

theorem rd_cnt_other (s : State) (f : FRef) (n b : Nat) (h : b ≠ f.addr) : (s.cnt f n).rd b = s.rd b :=
  rd_put_other s f _ b h

theorem fld_put_same (s : State) (f : FRef) (v : Nat) (hw : f.lo + f.width ≤ 32) : (s.put f v).fld f = v % 2 ^ f.width := by
  simp [State.fld, State.put, fieldGet_fieldPut_same _ _ _ _ hw]

theorem fld_put_other (s : State) (f g : FRef) (v : Nat) (hw : f.lo + f.width ≤ 32)
    (hd : g.addr ≠ f.addr ∨ f.lo + f.width ≤ g.lo ∨ g.lo + g.width ≤ f.lo) : (s.put f v).fld g = s.fld g := by
  by_cases ha : g.addr = f.addr
  · have hd' : f.lo + f.width ≤ g.lo ∨ g.lo + g.width ≤ f.lo := by
      rcases hd with h | h
      · exact absurd ha h
      · exact h
    simp [State.fld, State.put, ha, fieldGet_fieldPut_other _ _ _ _ _ _ hw hd']
  · simp [State.fld, rd_put_other s f v g.addr ha]

theorem fieldGet_lt (w : W32) (lo width : Nat) : fieldGet w lo width < 2 ^ width := Nat.mod_lt _ (Nat.two_pow_pos width)

/-- A counter goes up and stays at its greatest value. -/
theorem fld_cnt_same (s : State) (f : FRef) (n : Nat) (hw : f.lo + f.width ≤ 32) :
    (s.cnt f n).fld f = min (s.fld f + n) (2 ^ f.width - 1) := by
  rw [State.cnt, fld_put_same s f _ hw, Nat.mod_eq_of_lt]
  have := Nat.two_pow_pos f.width
  omega

end Sys2Proof.Machine
end

