-- ==== Sys2Proof/Laws/State.lean ====
section
/-! SUPPORT. Updates of the state: what each named update leaves as it was, field by field, and what its own part reads as after it. -/

namespace Sys2Proof.Machine

/-! ### Fields that an update leaves -/

@[simp] theorem State.wr_frame (s : State) (a : Nat) (v : W32) :
    (s.wr a v).tb = s.tb ∧ (s.wr a v).evq = s.evq ∧ (s.wr a v).lims = s.lims ∧ (s.wr a v).cask = s.cask ∧ (s.wr a v).stage = s.stage ∧
    (s.wr a v).boot = s.boot ∧ (s.wr a v).ctl = s.ctl ∧ (s.wr a v).safe = s.safe ∧ (s.wr a v).rdn = s.rdn ∧ (s.wr a v).enc = s.enc ∧
    (s.wr a v).brg = s.brg ∧ (s.wr a v).ket = s.ket ∧ (s.wr a v).aud = s.aud ∧ (s.wr a v).phy = s.phy ∧ (s.wr a v).yz = s.yz ∧
    (s.wr a v).dr = s.dr ∧ (s.wr a v).clk = s.clk ∧ (s.wr a v).pwr = s.pwr ∧ (s.wr a v).thm = s.thm ∧ (s.wr a v).tst = s.tst ∧
    (s.wr a v).dram = s.dram ∧ (s.wr a v).chkLive = s.chkLive ∧ (s.wr a v).out = s.out ∧ (s.wr a v).fresh = s.fresh ∧
    (s.wr a v).pending = s.pending :=
  ⟨rfl, rfl, rfl, rfl, rfl, rfl, rfl, rfl, rfl, rfl, rfl, rfl, rfl, rfl, rfl, rfl, rfl, rfl, rfl, rfl, rfl, rfl, rfl, rfl, rfl⟩

@[simp] theorem State.put_frame (s : State) (f : FRef) (v : Nat) :
    (s.put f v).tb = s.tb ∧ (s.put f v).evq = s.evq ∧ (s.put f v).lims = s.lims ∧ (s.put f v).cask = s.cask ∧
    (s.put f v).stage = s.stage ∧ (s.put f v).boot = s.boot ∧ (s.put f v).ctl = s.ctl ∧ (s.put f v).safe = s.safe ∧
    (s.put f v).rdn = s.rdn ∧ (s.put f v).enc = s.enc ∧ (s.put f v).brg = s.brg ∧ (s.put f v).ket = s.ket ∧ (s.put f v).aud = s.aud ∧
    (s.put f v).phy = s.phy ∧ (s.put f v).yz = s.yz ∧ (s.put f v).dr = s.dr ∧ (s.put f v).clk = s.clk ∧ (s.put f v).pwr = s.pwr ∧
    (s.put f v).thm = s.thm ∧ (s.put f v).tst = s.tst ∧ (s.put f v).dram = s.dram ∧ (s.put f v).chkLive = s.chkLive ∧
    (s.put f v).out = s.out ∧ (s.put f v).fresh = s.fresh ∧ (s.put f v).pending = s.pending :=
  ⟨rfl, rfl, rfl, rfl, rfl, rfl, rfl, rfl, rfl, rfl, rfl, rfl, rfl, rfl, rfl, rfl, rfl, rfl, rfl, rfl, rfl, rfl, rfl, rfl, rfl⟩

@[simp] theorem State.cnt_frame (s : State) (f : FRef) (n : Nat) :
    (s.cnt f n).tb = s.tb ∧ (s.cnt f n).evq = s.evq ∧ (s.cnt f n).lims = s.lims ∧ (s.cnt f n).cask = s.cask ∧
    (s.cnt f n).stage = s.stage ∧ (s.cnt f n).boot = s.boot ∧ (s.cnt f n).ctl = s.ctl ∧ (s.cnt f n).safe = s.safe ∧
    (s.cnt f n).rdn = s.rdn ∧ (s.cnt f n).enc = s.enc ∧ (s.cnt f n).brg = s.brg ∧ (s.cnt f n).ket = s.ket ∧ (s.cnt f n).aud = s.aud ∧
    (s.cnt f n).phy = s.phy ∧ (s.cnt f n).yz = s.yz ∧ (s.cnt f n).dr = s.dr ∧ (s.cnt f n).clk = s.clk ∧ (s.cnt f n).pwr = s.pwr ∧
    (s.cnt f n).thm = s.thm ∧ (s.cnt f n).tst = s.tst ∧ (s.cnt f n).dram = s.dram ∧ (s.cnt f n).chkLive = s.chkLive ∧
    (s.cnt f n).out = s.out ∧ (s.cnt f n).fresh = s.fresh ∧ (s.cnt f n).pending = s.pending :=
  ⟨rfl, rfl, rfl, rfl, rfl, rfl, rfl, rfl, rfl, rfl, rfl, rfl, rfl, rfl, rfl, rfl, rfl, rfl, rfl, rfl, rfl, rfl, rfl, rfl, rfl⟩

@[simp] theorem State.putPair_frame (s : State) (lo hi v : Nat) :
    (s.putPair lo hi v).tb = s.tb ∧ (s.putPair lo hi v).evq = s.evq ∧ (s.putPair lo hi v).lims = s.lims ∧
    (s.putPair lo hi v).cask = s.cask ∧ (s.putPair lo hi v).stage = s.stage ∧ (s.putPair lo hi v).boot = s.boot ∧
    (s.putPair lo hi v).ctl = s.ctl ∧ (s.putPair lo hi v).safe = s.safe ∧ (s.putPair lo hi v).rdn = s.rdn ∧
    (s.putPair lo hi v).enc = s.enc ∧ (s.putPair lo hi v).brg = s.brg ∧ (s.putPair lo hi v).ket = s.ket ∧
    (s.putPair lo hi v).aud = s.aud ∧ (s.putPair lo hi v).phy = s.phy ∧ (s.putPair lo hi v).yz = s.yz ∧ (s.putPair lo hi v).dr = s.dr ∧
    (s.putPair lo hi v).clk = s.clk ∧ (s.putPair lo hi v).pwr = s.pwr ∧ (s.putPair lo hi v).thm = s.thm ∧
    (s.putPair lo hi v).tst = s.tst ∧ (s.putPair lo hi v).dram = s.dram ∧ (s.putPair lo hi v).chkLive = s.chkLive ∧
    (s.putPair lo hi v).out = s.out ∧ (s.putPair lo hi v).fresh = s.fresh ∧ (s.putPair lo hi v).pending = s.pending :=
  ⟨rfl, rfl, rfl, rfl, rfl, rfl, rfl, rfl, rfl, rfl, rfl, rfl, rfl, rfl, rfl, rfl, rfl, rfl, rfl, rfl, rfl, rfl, rfl, rfl, rfl⟩

@[simp] theorem State.evPush_frame (s : State) (r : EvRec) :
    (s.evPush r).regs = s.regs ∧ (s.evPush r).tb = s.tb ∧ (s.evPush r).lims = s.lims ∧ (s.evPush r).cask = s.cask ∧
    (s.evPush r).stage = s.stage ∧ (s.evPush r).boot = s.boot ∧ (s.evPush r).ctl = s.ctl ∧ (s.evPush r).safe = s.safe ∧
    (s.evPush r).rdn = s.rdn ∧ (s.evPush r).enc = s.enc ∧ (s.evPush r).brg = s.brg ∧ (s.evPush r).ket = s.ket ∧
    (s.evPush r).aud = s.aud ∧ (s.evPush r).phy = s.phy ∧ (s.evPush r).yz = s.yz ∧ (s.evPush r).dr = s.dr ∧ (s.evPush r).clk = s.clk ∧
    (s.evPush r).pwr = s.pwr ∧ (s.evPush r).thm = s.thm ∧ (s.evPush r).tst = s.tst ∧ (s.evPush r).dram = s.dram ∧
    (s.evPush r).chkLive = s.chkLive ∧ (s.evPush r).out = s.out ∧ (s.evPush r).fresh = s.fresh ∧ (s.evPush r).pending = s.pending :=
  ⟨rfl, rfl, rfl, rfl, rfl, rfl, rfl, rfl, rfl, rfl, rfl, rfl, rfl, rfl, rfl, rfl, rfl, rfl, rfl, rfl, rfl, rfl, rfl, rfl, rfl⟩

@[simp] theorem State.evStream_frame (s : State) (r : EvRec) :
    (s.evStream r).regs = s.regs ∧ (s.evStream r).tb = s.tb ∧ (s.evStream r).evq = s.evq ∧ (s.evStream r).lims = s.lims ∧
    (s.evStream r).cask = s.cask ∧ (s.evStream r).stage = s.stage ∧ (s.evStream r).boot = s.boot ∧ (s.evStream r).safe = s.safe ∧
    (s.evStream r).rdn = s.rdn ∧ (s.evStream r).enc = s.enc ∧ (s.evStream r).brg = s.brg ∧ (s.evStream r).ket = s.ket ∧
    (s.evStream r).aud = s.aud ∧ (s.evStream r).phy = s.phy ∧ (s.evStream r).yz = s.yz ∧ (s.evStream r).dr = s.dr ∧
    (s.evStream r).clk = s.clk ∧ (s.evStream r).pwr = s.pwr ∧ (s.evStream r).thm = s.thm ∧ (s.evStream r).tst = s.tst ∧
    (s.evStream r).dram = s.dram ∧ (s.evStream r).chkLive = s.chkLive ∧ (s.evStream r).out = s.out ∧ (s.evStream r).fresh = s.fresh ∧
    (s.evStream r).pending = s.pending :=
  ⟨rfl, rfl, rfl, rfl, rfl, rfl, rfl, rfl, rfl, rfl, rfl, rfl, rfl, rfl, rfl, rfl, rfl, rfl, rfl, rfl, rfl, rfl, rfl, rfl, rfl⟩

@[simp] theorem State.logWrite_frame (s : State) (cls action code inst arg sup : Nat) :
    (s.logWrite cls action code inst arg sup).regs = s.regs ∧ (s.logWrite cls action code inst arg sup).tb = s.tb ∧
    (s.logWrite cls action code inst arg sup).evq = s.evq ∧ (s.logWrite cls action code inst arg sup).lims = s.lims ∧
    (s.logWrite cls action code inst arg sup).stage = s.stage ∧ (s.logWrite cls action code inst arg sup).boot = s.boot ∧
    (s.logWrite cls action code inst arg sup).ctl = s.ctl ∧ (s.logWrite cls action code inst arg sup).safe = s.safe ∧
    (s.logWrite cls action code inst arg sup).rdn = s.rdn ∧ (s.logWrite cls action code inst arg sup).enc = s.enc ∧
    (s.logWrite cls action code inst arg sup).brg = s.brg ∧ (s.logWrite cls action code inst arg sup).ket = s.ket ∧
    (s.logWrite cls action code inst arg sup).aud = s.aud ∧ (s.logWrite cls action code inst arg sup).phy = s.phy ∧
    (s.logWrite cls action code inst arg sup).yz = s.yz ∧ (s.logWrite cls action code inst arg sup).dr = s.dr ∧
    (s.logWrite cls action code inst arg sup).clk = s.clk ∧ (s.logWrite cls action code inst arg sup).pwr = s.pwr ∧
    (s.logWrite cls action code inst arg sup).thm = s.thm ∧ (s.logWrite cls action code inst arg sup).tst = s.tst ∧
    (s.logWrite cls action code inst arg sup).dram = s.dram ∧ (s.logWrite cls action code inst arg sup).chkLive = s.chkLive ∧
    (s.logWrite cls action code inst arg sup).out = s.out ∧ (s.logWrite cls action code inst arg sup).fresh = s.fresh ∧
    (s.logWrite cls action code inst arg sup).pending = s.pending :=
  ⟨rfl, rfl, rfl, rfl, rfl, rfl, rfl, rfl, rfl, rfl, rfl, rfl, rfl, rfl, rfl, rfl, rfl, rfl, rfl, rfl, rfl, rfl, rfl, rfl, rfl⟩

@[simp] theorem State.countCorrected_frame (s : State) (cls : Nat) :
    (s.countCorrected cls).regs = s.regs ∧ (s.countCorrected cls).tb = s.tb ∧ (s.countCorrected cls).evq = s.evq ∧
    (s.countCorrected cls).lims = s.lims ∧ (s.countCorrected cls).cask = s.cask ∧ (s.countCorrected cls).stage = s.stage ∧
    (s.countCorrected cls).boot = s.boot ∧ (s.countCorrected cls).ctl = s.ctl ∧ (s.countCorrected cls).rdn = s.rdn ∧
    (s.countCorrected cls).enc = s.enc ∧ (s.countCorrected cls).brg = s.brg ∧ (s.countCorrected cls).ket = s.ket ∧
    (s.countCorrected cls).aud = s.aud ∧ (s.countCorrected cls).phy = s.phy ∧ (s.countCorrected cls).yz = s.yz ∧
    (s.countCorrected cls).dr = s.dr ∧ (s.countCorrected cls).clk = s.clk ∧ (s.countCorrected cls).pwr = s.pwr ∧
    (s.countCorrected cls).thm = s.thm ∧ (s.countCorrected cls).tst = s.tst ∧ (s.countCorrected cls).dram = s.dram ∧
    (s.countCorrected cls).chkLive = s.chkLive ∧ (s.countCorrected cls).out = s.out ∧ (s.countCorrected cls).fresh = s.fresh ∧
    (s.countCorrected cls).pending = s.pending :=
  ⟨rfl, rfl, rfl, rfl, rfl, rfl, rfl, rfl, rfl, rfl, rfl, rfl, rfl, rfl, rfl, rfl, rfl, rfl, rfl, rfl, rfl, rfl, rfl, rfl, rfl⟩

@[simp] theorem State.draw_frame (s : State) :
    (s.draw).regs = s.regs ∧ (s.draw).tb = s.tb ∧ (s.draw).evq = s.evq ∧ (s.draw).lims = s.lims ∧ (s.draw).cask = s.cask ∧
    (s.draw).stage = s.stage ∧ (s.draw).boot = s.boot ∧ (s.draw).ctl = s.ctl ∧ (s.draw).safe = s.safe ∧ (s.draw).rdn = s.rdn ∧
    (s.draw).enc = s.enc ∧ (s.draw).brg = s.brg ∧ (s.draw).ket = s.ket ∧ (s.draw).aud = s.aud ∧ (s.draw).phy = s.phy ∧
    (s.draw).yz = s.yz ∧ (s.draw).dr = s.dr ∧ (s.draw).clk = s.clk ∧ (s.draw).pwr = s.pwr ∧ (s.draw).thm = s.thm ∧ (s.draw).tst = s.tst ∧
    (s.draw).dram = s.dram ∧ (s.draw).chkLive = s.chkLive ∧ (s.draw).out = s.out ∧ (s.draw).pending = s.pending :=
  ⟨rfl, rfl, rfl, rfl, rfl, rfl, rfl, rfl, rfl, rfl, rfl, rfl, rfl, rfl, rfl, rfl, rfl, rfl, rfl, rfl, rfl, rfl, rfl, rfl, rfl⟩

@[simp] theorem State.send_frame (s : State) (o : Out) :
    (s.send o).regs = s.regs ∧ (s.send o).tb = s.tb ∧ (s.send o).evq = s.evq ∧ (s.send o).lims = s.lims ∧ (s.send o).cask = s.cask ∧
    (s.send o).stage = s.stage ∧ (s.send o).boot = s.boot ∧ (s.send o).ctl = s.ctl ∧ (s.send o).safe = s.safe ∧ (s.send o).rdn = s.rdn ∧
    (s.send o).enc = s.enc ∧ (s.send o).brg = s.brg ∧ (s.send o).ket = s.ket ∧ (s.send o).aud = s.aud ∧ (s.send o).phy = s.phy ∧
    (s.send o).yz = s.yz ∧ (s.send o).dr = s.dr ∧ (s.send o).clk = s.clk ∧ (s.send o).pwr = s.pwr ∧ (s.send o).thm = s.thm ∧
    (s.send o).tst = s.tst ∧ (s.send o).dram = s.dram ∧ (s.send o).chkLive = s.chkLive ∧ (s.send o).fresh = s.fresh ∧
    (s.send o).pending = s.pending :=
  ⟨rfl, rfl, rfl, rfl, rfl, rfl, rfl, rfl, rfl, rfl, rfl, rfl, rfl, rfl, rfl, rfl, rfl, rfl, rfl, rfl, rfl, rfl, rfl, rfl, rfl⟩

@[simp] theorem State.setLease_frame (s : State) (e : Nat) :
    (s.setLease e).regs = s.regs ∧ (s.setLease e).tb = s.tb ∧ (s.setLease e).evq = s.evq ∧ (s.setLease e).lims = s.lims ∧
    (s.setLease e).cask = s.cask ∧ (s.setLease e).stage = s.stage ∧ (s.setLease e).boot = s.boot ∧ (s.setLease e).ctl = s.ctl ∧
    (s.setLease e).safe = s.safe ∧ (s.setLease e).enc = s.enc ∧ (s.setLease e).brg = s.brg ∧ (s.setLease e).ket = s.ket ∧
    (s.setLease e).aud = s.aud ∧ (s.setLease e).phy = s.phy ∧ (s.setLease e).yz = s.yz ∧ (s.setLease e).dr = s.dr ∧
    (s.setLease e).clk = s.clk ∧ (s.setLease e).pwr = s.pwr ∧ (s.setLease e).thm = s.thm ∧ (s.setLease e).tst = s.tst ∧
    (s.setLease e).dram = s.dram ∧ (s.setLease e).chkLive = s.chkLive ∧ (s.setLease e).out = s.out ∧ (s.setLease e).fresh = s.fresh ∧
    (s.setLease e).pending = s.pending :=
  ⟨rfl, rfl, rfl, rfl, rfl, rfl, rfl, rfl, rfl, rfl, rfl, rfl, rfl, rfl, rfl, rfl, rfl, rfl, rfl, rfl, rfl, rfl, rfl, rfl, rfl⟩

@[simp] theorem State.dput_frame (s : State) (a : Nat) (b : Byte) :
    (s.dput a b).regs = s.regs ∧ (s.dput a b).tb = s.tb ∧ (s.dput a b).evq = s.evq ∧ (s.dput a b).lims = s.lims ∧
    (s.dput a b).cask = s.cask ∧ (s.dput a b).stage = s.stage ∧ (s.dput a b).boot = s.boot ∧ (s.dput a b).ctl = s.ctl ∧
    (s.dput a b).safe = s.safe ∧ (s.dput a b).rdn = s.rdn ∧ (s.dput a b).enc = s.enc ∧ (s.dput a b).brg = s.brg ∧
    (s.dput a b).ket = s.ket ∧ (s.dput a b).aud = s.aud ∧ (s.dput a b).phy = s.phy ∧ (s.dput a b).yz = s.yz ∧ (s.dput a b).dr = s.dr ∧
    (s.dput a b).clk = s.clk ∧ (s.dput a b).pwr = s.pwr ∧ (s.dput a b).thm = s.thm ∧ (s.dput a b).tst = s.tst ∧
    (s.dput a b).chkLive = s.chkLive ∧ (s.dput a b).out = s.out ∧ (s.dput a b).fresh = s.fresh ∧ (s.dput a b).pending = s.pending :=
  ⟨rfl, rfl, rfl, rfl, rfl, rfl, rfl, rfl, rfl, rfl, rfl, rfl, rfl, rfl, rfl, rfl, rfl, rfl, rfl, rfl, rfl, rfl, rfl, rfl, rfl⟩

@[simp] theorem State.setChan_frame (s : State) (n : Nat) (c : Chan) :
    (s.setChan n c).regs = s.regs ∧ (s.setChan n c).tb = s.tb ∧ (s.setChan n c).evq = s.evq ∧ (s.setChan n c).lims = s.lims ∧
    (s.setChan n c).cask = s.cask ∧ (s.setChan n c).stage = s.stage ∧ (s.setChan n c).boot = s.boot ∧ (s.setChan n c).ctl = s.ctl ∧
    (s.setChan n c).safe = s.safe ∧ (s.setChan n c).rdn = s.rdn ∧ (s.setChan n c).brg = s.brg ∧ (s.setChan n c).ket = s.ket ∧
    (s.setChan n c).aud = s.aud ∧ (s.setChan n c).phy = s.phy ∧ (s.setChan n c).yz = s.yz ∧ (s.setChan n c).dr = s.dr ∧
    (s.setChan n c).clk = s.clk ∧ (s.setChan n c).pwr = s.pwr ∧ (s.setChan n c).thm = s.thm ∧ (s.setChan n c).tst = s.tst ∧
    (s.setChan n c).dram = s.dram ∧ (s.setChan n c).chkLive = s.chkLive ∧ (s.setChan n c).out = s.out ∧ (s.setChan n c).fresh = s.fresh ∧
    (s.setChan n c).pending = s.pending :=
  ⟨rfl, rfl, rfl, rfl, rfl, rfl, rfl, rfl, rfl, rfl, rfl, rfl, rfl, rfl, rfl, rfl, rfl, rfl, rfl, rfl, rfl, rfl, rfl, rfl, rfl⟩

@[simp] theorem State.setFx_frame (s : State) (f : Nat) (x : FlowX) :
    (s.setFx f x).regs = s.regs ∧ (s.setFx f x).tb = s.tb ∧ (s.setFx f x).evq = s.evq ∧ (s.setFx f x).lims = s.lims ∧
    (s.setFx f x).cask = s.cask ∧ (s.setFx f x).stage = s.stage ∧ (s.setFx f x).boot = s.boot ∧ (s.setFx f x).ctl = s.ctl ∧
    (s.setFx f x).safe = s.safe ∧ (s.setFx f x).rdn = s.rdn ∧ (s.setFx f x).enc = s.enc ∧ (s.setFx f x).ket = s.ket ∧
    (s.setFx f x).aud = s.aud ∧ (s.setFx f x).phy = s.phy ∧ (s.setFx f x).yz = s.yz ∧ (s.setFx f x).dr = s.dr ∧
    (s.setFx f x).clk = s.clk ∧ (s.setFx f x).pwr = s.pwr ∧ (s.setFx f x).thm = s.thm ∧ (s.setFx f x).tst = s.tst ∧
    (s.setFx f x).dram = s.dram ∧ (s.setFx f x).chkLive = s.chkLive ∧ (s.setFx f x).out = s.out ∧ (s.setFx f x).fresh = s.fresh ∧
    (s.setFx f x).pending = s.pending :=
  ⟨rfl, rfl, rfl, rfl, rfl, rfl, rfl, rfl, rfl, rfl, rfl, rfl, rfl, rfl, rfl, rfl, rfl, rfl, rfl, rfl, rfl, rfl, rfl, rfl, rfl⟩

@[simp] theorem State.setDx_frame (s : State) (c : Nat) (x : DecX) :
    (s.setDx c x).regs = s.regs ∧ (s.setDx c x).tb = s.tb ∧ (s.setDx c x).evq = s.evq ∧ (s.setDx c x).lims = s.lims ∧
    (s.setDx c x).cask = s.cask ∧ (s.setDx c x).stage = s.stage ∧ (s.setDx c x).boot = s.boot ∧ (s.setDx c x).ctl = s.ctl ∧
    (s.setDx c x).safe = s.safe ∧ (s.setDx c x).rdn = s.rdn ∧ (s.setDx c x).enc = s.enc ∧ (s.setDx c x).ket = s.ket ∧
    (s.setDx c x).aud = s.aud ∧ (s.setDx c x).phy = s.phy ∧ (s.setDx c x).yz = s.yz ∧ (s.setDx c x).dr = s.dr ∧
    (s.setDx c x).clk = s.clk ∧ (s.setDx c x).pwr = s.pwr ∧ (s.setDx c x).thm = s.thm ∧ (s.setDx c x).tst = s.tst ∧
    (s.setDx c x).dram = s.dram ∧ (s.setDx c x).chkLive = s.chkLive ∧ (s.setDx c x).out = s.out ∧ (s.setDx c x).fresh = s.fresh ∧
    (s.setDx c x).pending = s.pending :=
  ⟨rfl, rfl, rfl, rfl, rfl, rfl, rfl, rfl, rfl, rfl, rfl, rfl, rfl, rfl, rfl, rfl, rfl, rfl, rfl, rfl, rfl, rfl, rfl, rfl, rfl⟩

@[simp] theorem State.setComp_frame (s : State) (c : Nat) (x : CompX) :
    (s.setComp c x).regs = s.regs ∧ (s.setComp c x).tb = s.tb ∧ (s.setComp c x).evq = s.evq ∧ (s.setComp c x).lims = s.lims ∧
    (s.setComp c x).cask = s.cask ∧ (s.setComp c x).stage = s.stage ∧ (s.setComp c x).boot = s.boot ∧ (s.setComp c x).ctl = s.ctl ∧
    (s.setComp c x).safe = s.safe ∧ (s.setComp c x).rdn = s.rdn ∧ (s.setComp c x).enc = s.enc ∧ (s.setComp c x).ket = s.ket ∧
    (s.setComp c x).aud = s.aud ∧ (s.setComp c x).phy = s.phy ∧ (s.setComp c x).yz = s.yz ∧ (s.setComp c x).dr = s.dr ∧
    (s.setComp c x).clk = s.clk ∧ (s.setComp c x).pwr = s.pwr ∧ (s.setComp c x).thm = s.thm ∧ (s.setComp c x).tst = s.tst ∧
    (s.setComp c x).dram = s.dram ∧ (s.setComp c x).chkLive = s.chkLive ∧ (s.setComp c x).out = s.out ∧ (s.setComp c x).fresh = s.fresh ∧
    (s.setComp c x).pending = s.pending :=
  ⟨rfl, rfl, rfl, rfl, rfl, rfl, rfl, rfl, rfl, rfl, rfl, rfl, rfl, rfl, rfl, rfl, rfl, rfl, rfl, rfl, rfl, rfl, rfl, rfl, rfl⟩

@[simp] theorem State.setSx_frame (s : State) (i : Nat) (x : SlotX) :
    (s.setSx i x).regs = s.regs ∧ (s.setSx i x).tb = s.tb ∧ (s.setSx i x).evq = s.evq ∧ (s.setSx i x).lims = s.lims ∧
    (s.setSx i x).cask = s.cask ∧ (s.setSx i x).stage = s.stage ∧ (s.setSx i x).boot = s.boot ∧ (s.setSx i x).ctl = s.ctl ∧
    (s.setSx i x).safe = s.safe ∧ (s.setSx i x).rdn = s.rdn ∧ (s.setSx i x).enc = s.enc ∧ (s.setSx i x).brg = s.brg ∧
    (s.setSx i x).ket = s.ket ∧ (s.setSx i x).phy = s.phy ∧ (s.setSx i x).yz = s.yz ∧ (s.setSx i x).dr = s.dr ∧
    (s.setSx i x).clk = s.clk ∧ (s.setSx i x).pwr = s.pwr ∧ (s.setSx i x).thm = s.thm ∧ (s.setSx i x).tst = s.tst ∧
    (s.setSx i x).dram = s.dram ∧ (s.setSx i x).chkLive = s.chkLive ∧ (s.setSx i x).out = s.out ∧ (s.setSx i x).fresh = s.fresh ∧
    (s.setSx i x).pending = s.pending :=
  ⟨rfl, rfl, rfl, rfl, rfl, rfl, rfl, rfl, rfl, rfl, rfl, rfl, rfl, rfl, rfl, rfl, rfl, rfl, rfl, rfl, rfl, rfl, rfl, rfl, rfl⟩

@[simp] theorem State.setApt_frame (s : State) (p : Nat) (x : AptX) :
    (s.setApt p x).regs = s.regs ∧ (s.setApt p x).tb = s.tb ∧ (s.setApt p x).evq = s.evq ∧ (s.setApt p x).lims = s.lims ∧
    (s.setApt p x).cask = s.cask ∧ (s.setApt p x).stage = s.stage ∧ (s.setApt p x).boot = s.boot ∧ (s.setApt p x).ctl = s.ctl ∧
    (s.setApt p x).safe = s.safe ∧ (s.setApt p x).rdn = s.rdn ∧ (s.setApt p x).enc = s.enc ∧ (s.setApt p x).brg = s.brg ∧
    (s.setApt p x).ket = s.ket ∧ (s.setApt p x).phy = s.phy ∧ (s.setApt p x).yz = s.yz ∧ (s.setApt p x).dr = s.dr ∧
    (s.setApt p x).clk = s.clk ∧ (s.setApt p x).pwr = s.pwr ∧ (s.setApt p x).thm = s.thm ∧ (s.setApt p x).tst = s.tst ∧
    (s.setApt p x).dram = s.dram ∧ (s.setApt p x).chkLive = s.chkLive ∧ (s.setApt p x).out = s.out ∧ (s.setApt p x).fresh = s.fresh ∧
    (s.setApt p x).pending = s.pending :=
  ⟨rfl, rfl, rfl, rfl, rfl, rfl, rfl, rfl, rfl, rfl, rfl, rfl, rfl, rfl, rfl, rfl, rfl, rfl, rfl, rfl, rfl, rfl, rfl, rfl, rfl⟩

@[simp] theorem State.setLink_frame (s : State) (k : Nat) (x : LinkX) :
    (s.setLink k x).regs = s.regs ∧ (s.setLink k x).tb = s.tb ∧ (s.setLink k x).evq = s.evq ∧ (s.setLink k x).lims = s.lims ∧
    (s.setLink k x).cask = s.cask ∧ (s.setLink k x).stage = s.stage ∧ (s.setLink k x).boot = s.boot ∧ (s.setLink k x).ctl = s.ctl ∧
    (s.setLink k x).safe = s.safe ∧ (s.setLink k x).rdn = s.rdn ∧ (s.setLink k x).enc = s.enc ∧ (s.setLink k x).brg = s.brg ∧
    (s.setLink k x).ket = s.ket ∧ (s.setLink k x).aud = s.aud ∧ (s.setLink k x).yz = s.yz ∧ (s.setLink k x).dr = s.dr ∧
    (s.setLink k x).clk = s.clk ∧ (s.setLink k x).pwr = s.pwr ∧ (s.setLink k x).thm = s.thm ∧ (s.setLink k x).tst = s.tst ∧
    (s.setLink k x).dram = s.dram ∧ (s.setLink k x).chkLive = s.chkLive ∧ (s.setLink k x).out = s.out ∧ (s.setLink k x).fresh = s.fresh ∧
    (s.setLink k x).pending = s.pending :=
  ⟨rfl, rfl, rfl, rfl, rfl, rfl, rfl, rfl, rfl, rfl, rfl, rfl, rfl, rfl, rfl, rfl, rfl, rfl, rfl, rfl, rfl, rfl, rfl, rfl, rfl⟩

@[simp] theorem State.setLaneX_frame (s : State) (l : Nat) (x : LaneX) :
    (s.setLaneX l x).regs = s.regs ∧ (s.setLaneX l x).tb = s.tb ∧ (s.setLaneX l x).evq = s.evq ∧ (s.setLaneX l x).lims = s.lims ∧
    (s.setLaneX l x).cask = s.cask ∧ (s.setLaneX l x).stage = s.stage ∧ (s.setLaneX l x).boot = s.boot ∧ (s.setLaneX l x).ctl = s.ctl ∧
    (s.setLaneX l x).safe = s.safe ∧ (s.setLaneX l x).rdn = s.rdn ∧ (s.setLaneX l x).enc = s.enc ∧ (s.setLaneX l x).brg = s.brg ∧
    (s.setLaneX l x).ket = s.ket ∧ (s.setLaneX l x).aud = s.aud ∧ (s.setLaneX l x).yz = s.yz ∧ (s.setLaneX l x).dr = s.dr ∧
    (s.setLaneX l x).clk = s.clk ∧ (s.setLaneX l x).pwr = s.pwr ∧ (s.setLaneX l x).thm = s.thm ∧ (s.setLaneX l x).tst = s.tst ∧
    (s.setLaneX l x).dram = s.dram ∧ (s.setLaneX l x).chkLive = s.chkLive ∧ (s.setLaneX l x).out = s.out ∧
    (s.setLaneX l x).fresh = s.fresh ∧ (s.setLaneX l x).pending = s.pending :=
  ⟨rfl, rfl, rfl, rfl, rfl, rfl, rfl, rfl, rfl, rfl, rfl, rfl, rfl, rfl, rfl, rfl, rfl, rfl, rfl, rfl, rfl, rfl, rfl, rfl, rfl⟩

@[simp] theorem State.setYzp_frame (s : State) (p : Nat) (x : YzPort) :
    (s.setYzp p x).regs = s.regs ∧ (s.setYzp p x).tb = s.tb ∧ (s.setYzp p x).evq = s.evq ∧ (s.setYzp p x).lims = s.lims ∧
    (s.setYzp p x).cask = s.cask ∧ (s.setYzp p x).stage = s.stage ∧ (s.setYzp p x).boot = s.boot ∧ (s.setYzp p x).ctl = s.ctl ∧
    (s.setYzp p x).safe = s.safe ∧ (s.setYzp p x).rdn = s.rdn ∧ (s.setYzp p x).enc = s.enc ∧ (s.setYzp p x).brg = s.brg ∧
    (s.setYzp p x).ket = s.ket ∧ (s.setYzp p x).aud = s.aud ∧ (s.setYzp p x).phy = s.phy ∧ (s.setYzp p x).dr = s.dr ∧
    (s.setYzp p x).clk = s.clk ∧ (s.setYzp p x).pwr = s.pwr ∧ (s.setYzp p x).thm = s.thm ∧ (s.setYzp p x).tst = s.tst ∧
    (s.setYzp p x).dram = s.dram ∧ (s.setYzp p x).chkLive = s.chkLive ∧ (s.setYzp p x).out = s.out ∧ (s.setYzp p x).fresh = s.fresh ∧
    (s.setYzp p x).pending = s.pending :=
  ⟨rfl, rfl, rfl, rfl, rfl, rfl, rfl, rfl, rfl, rfl, rfl, rfl, rfl, rfl, rfl, rfl, rfl, rfl, rfl, rfl, rfl, rfl, rfl, rfl, rfl⟩

@[simp] theorem State.setUdpx_frame (s : State) (i vc : Nat) (x : UdpX) :
    (s.setUdpx i vc x).regs = s.regs ∧ (s.setUdpx i vc x).tb = s.tb ∧ (s.setUdpx i vc x).evq = s.evq ∧ (s.setUdpx i vc x).lims = s.lims ∧
    (s.setUdpx i vc x).cask = s.cask ∧ (s.setUdpx i vc x).stage = s.stage ∧ (s.setUdpx i vc x).boot = s.boot ∧
    (s.setUdpx i vc x).ctl = s.ctl ∧ (s.setUdpx i vc x).safe = s.safe ∧ (s.setUdpx i vc x).rdn = s.rdn ∧ (s.setUdpx i vc x).enc = s.enc ∧
    (s.setUdpx i vc x).brg = s.brg ∧ (s.setUdpx i vc x).ket = s.ket ∧ (s.setUdpx i vc x).aud = s.aud ∧ (s.setUdpx i vc x).phy = s.phy ∧
    (s.setUdpx i vc x).dr = s.dr ∧ (s.setUdpx i vc x).clk = s.clk ∧ (s.setUdpx i vc x).pwr = s.pwr ∧ (s.setUdpx i vc x).thm = s.thm ∧
    (s.setUdpx i vc x).tst = s.tst ∧ (s.setUdpx i vc x).dram = s.dram ∧ (s.setUdpx i vc x).chkLive = s.chkLive ∧
    (s.setUdpx i vc x).out = s.out ∧ (s.setUdpx i vc x).fresh = s.fresh ∧ (s.setUdpx i vc x).pending = s.pending :=
  ⟨rfl, rfl, rfl, rfl, rfl, rfl, rfl, rfl, rfl, rfl, rfl, rfl, rfl, rfl, rfl, rfl, rfl, rfl, rfl, rfl, rfl, rfl, rfl, rfl, rfl⟩

@[simp] theorem State.setDrc_frame (s : State) (c : Nat) (x : DrCh) :
    (s.setDrc c x).regs = s.regs ∧ (s.setDrc c x).tb = s.tb ∧ (s.setDrc c x).evq = s.evq ∧ (s.setDrc c x).lims = s.lims ∧
    (s.setDrc c x).cask = s.cask ∧ (s.setDrc c x).stage = s.stage ∧ (s.setDrc c x).boot = s.boot ∧ (s.setDrc c x).ctl = s.ctl ∧
    (s.setDrc c x).safe = s.safe ∧ (s.setDrc c x).rdn = s.rdn ∧ (s.setDrc c x).enc = s.enc ∧ (s.setDrc c x).brg = s.brg ∧
    (s.setDrc c x).ket = s.ket ∧ (s.setDrc c x).aud = s.aud ∧ (s.setDrc c x).phy = s.phy ∧ (s.setDrc c x).yz = s.yz ∧
    (s.setDrc c x).clk = s.clk ∧ (s.setDrc c x).pwr = s.pwr ∧ (s.setDrc c x).thm = s.thm ∧ (s.setDrc c x).tst = s.tst ∧
    (s.setDrc c x).dram = s.dram ∧ (s.setDrc c x).chkLive = s.chkLive ∧ (s.setDrc c x).out = s.out ∧ (s.setDrc c x).fresh = s.fresh ∧
    (s.setDrc c x).pending = s.pending :=
  ⟨rfl, rfl, rfl, rfl, rfl, rfl, rfl, rfl, rfl, rfl, rfl, rfl, rfl, rfl, rfl, rfl, rfl, rfl, rfl, rfl, rfl, rfl, rfl, rfl, rfl⟩

@[simp] theorem State.setZone_frame (s : State) (z : Nat) (x : ZoneX) :
    (s.setZone z x).regs = s.regs ∧ (s.setZone z x).tb = s.tb ∧ (s.setZone z x).evq = s.evq ∧ (s.setZone z x).lims = s.lims ∧
    (s.setZone z x).cask = s.cask ∧ (s.setZone z x).stage = s.stage ∧ (s.setZone z x).boot = s.boot ∧ (s.setZone z x).ctl = s.ctl ∧
    (s.setZone z x).safe = s.safe ∧ (s.setZone z x).rdn = s.rdn ∧ (s.setZone z x).enc = s.enc ∧ (s.setZone z x).brg = s.brg ∧
    (s.setZone z x).ket = s.ket ∧ (s.setZone z x).aud = s.aud ∧ (s.setZone z x).phy = s.phy ∧ (s.setZone z x).yz = s.yz ∧
    (s.setZone z x).dr = s.dr ∧ (s.setZone z x).clk = s.clk ∧ (s.setZone z x).pwr = s.pwr ∧ (s.setZone z x).tst = s.tst ∧
    (s.setZone z x).dram = s.dram ∧ (s.setZone z x).chkLive = s.chkLive ∧ (s.setZone z x).out = s.out ∧ (s.setZone z x).fresh = s.fresh ∧
    (s.setZone z x).pending = s.pending :=
  ⟨rfl, rfl, rfl, rfl, rfl, rfl, rfl, rfl, rfl, rfl, rfl, rfl, rfl, rfl, rfl, rfl, rfl, rfl, rfl, rfl, rfl, rfl, rfl, rfl, rfl⟩

@[simp] theorem State.setKc_frame (s : State) (c : Nat) (k : KCore) :
    (s.setKc c k).regs = s.regs ∧ (s.setKc c k).tb = s.tb ∧ (s.setKc c k).evq = s.evq ∧ (s.setKc c k).lims = s.lims ∧
    (s.setKc c k).cask = s.cask ∧ (s.setKc c k).stage = s.stage ∧ (s.setKc c k).boot = s.boot ∧ (s.setKc c k).ctl = s.ctl ∧
    (s.setKc c k).safe = s.safe ∧ (s.setKc c k).rdn = s.rdn ∧ (s.setKc c k).enc = s.enc ∧ (s.setKc c k).brg = s.brg ∧
    (s.setKc c k).aud = s.aud ∧ (s.setKc c k).phy = s.phy ∧ (s.setKc c k).yz = s.yz ∧ (s.setKc c k).dr = s.dr ∧
    (s.setKc c k).clk = s.clk ∧ (s.setKc c k).pwr = s.pwr ∧ (s.setKc c k).thm = s.thm ∧ (s.setKc c k).tst = s.tst ∧
    (s.setKc c k).dram = s.dram ∧ (s.setKc c k).chkLive = s.chkLive ∧ (s.setKc c k).out = s.out ∧ (s.setKc c k).fresh = s.fresh ∧
    (s.setKc c k).pending = s.pending :=
  ⟨rfl, rfl, rfl, rfl, rfl, rfl, rfl, rfl, rfl, rfl, rfl, rfl, rfl, rfl, rfl, rfl, rfl, rfl, rfl, rfl, rfl, rfl, rfl, rfl, rfl⟩

@[simp] theorem State.setArb_frame (s : State) (pair : Nat) (shadow : Bool) (a : ArbPair) :
    (s.setArb pair shadow a).regs = s.regs ∧ (s.setArb pair shadow a).tb = s.tb ∧ (s.setArb pair shadow a).evq = s.evq ∧
    (s.setArb pair shadow a).lims = s.lims ∧ (s.setArb pair shadow a).cask = s.cask ∧ (s.setArb pair shadow a).stage = s.stage ∧
    (s.setArb pair shadow a).boot = s.boot ∧ (s.setArb pair shadow a).ctl = s.ctl ∧ (s.setArb pair shadow a).safe = s.safe ∧
    (s.setArb pair shadow a).enc = s.enc ∧ (s.setArb pair shadow a).brg = s.brg ∧ (s.setArb pair shadow a).ket = s.ket ∧
    (s.setArb pair shadow a).aud = s.aud ∧ (s.setArb pair shadow a).phy = s.phy ∧ (s.setArb pair shadow a).yz = s.yz ∧
    (s.setArb pair shadow a).dr = s.dr ∧ (s.setArb pair shadow a).clk = s.clk ∧ (s.setArb pair shadow a).pwr = s.pwr ∧
    (s.setArb pair shadow a).thm = s.thm ∧ (s.setArb pair shadow a).tst = s.tst ∧ (s.setArb pair shadow a).dram = s.dram ∧
    (s.setArb pair shadow a).chkLive = s.chkLive ∧ (s.setArb pair shadow a).out = s.out ∧ (s.setArb pair shadow a).fresh = s.fresh ∧
    (s.setArb pair shadow a).pending = s.pending :=
  ⟨rfl, rfl, rfl, rfl, rfl, rfl, rfl, rfl, rfl, rfl, rfl, rfl, rfl, rfl, rfl, rfl, rfl, rfl, rfl, rfl, rfl, rfl, rfl, rfl, rfl⟩

@[simp] theorem State.setPitch_frame (s : State) (p : Pitch) :
    (s.setPitch p).regs = s.regs ∧ (s.setPitch p).tb = s.tb ∧ (s.setPitch p).evq = s.evq ∧ (s.setPitch p).lims = s.lims ∧
    (s.setPitch p).cask = s.cask ∧ (s.setPitch p).boot = s.boot ∧ (s.setPitch p).ctl = s.ctl ∧ (s.setPitch p).safe = s.safe ∧
    (s.setPitch p).rdn = s.rdn ∧ (s.setPitch p).enc = s.enc ∧ (s.setPitch p).brg = s.brg ∧ (s.setPitch p).ket = s.ket ∧
    (s.setPitch p).aud = s.aud ∧ (s.setPitch p).phy = s.phy ∧ (s.setPitch p).yz = s.yz ∧ (s.setPitch p).dr = s.dr ∧
    (s.setPitch p).clk = s.clk ∧ (s.setPitch p).pwr = s.pwr ∧ (s.setPitch p).thm = s.thm ∧ (s.setPitch p).tst = s.tst ∧
    (s.setPitch p).dram = s.dram ∧ (s.setPitch p).chkLive = s.chkLive ∧ (s.setPitch p).out = s.out ∧ (s.setPitch p).fresh = s.fresh ∧
    (s.setPitch p).pending = s.pending :=
  ⟨rfl, rfl, rfl, rfl, rfl, rfl, rfl, rfl, rfl, rfl, rfl, rfl, rfl, rfl, rfl, rfl, rfl, rfl, rfl, rfl, rfl, rfl, rfl, rfl, rfl⟩

@[simp] theorem State.setSub_frame (s : State) (i : Nat) (u : Subscriber) :
    (s.setSub i u).regs = s.regs ∧ (s.setSub i u).tb = s.tb ∧ (s.setSub i u).evq = s.evq ∧ (s.setSub i u).lims = s.lims ∧
    (s.setSub i u).cask = s.cask ∧ (s.setSub i u).stage = s.stage ∧ (s.setSub i u).boot = s.boot ∧ (s.setSub i u).safe = s.safe ∧
    (s.setSub i u).rdn = s.rdn ∧ (s.setSub i u).enc = s.enc ∧ (s.setSub i u).brg = s.brg ∧ (s.setSub i u).ket = s.ket ∧
    (s.setSub i u).aud = s.aud ∧ (s.setSub i u).phy = s.phy ∧ (s.setSub i u).yz = s.yz ∧ (s.setSub i u).dr = s.dr ∧
    (s.setSub i u).clk = s.clk ∧ (s.setSub i u).pwr = s.pwr ∧ (s.setSub i u).thm = s.thm ∧ (s.setSub i u).tst = s.tst ∧
    (s.setSub i u).dram = s.dram ∧ (s.setSub i u).chkLive = s.chkLive ∧ (s.setSub i u).out = s.out ∧ (s.setSub i u).fresh = s.fresh ∧
    (s.setSub i u).pending = s.pending :=
  ⟨rfl, rfl, rfl, rfl, rfl, rfl, rfl, rfl, rfl, rfl, rfl, rfl, rfl, rfl, rfl, rfl, rfl, rfl, rfl, rfl, rfl, rfl, rfl, rfl, rfl⟩

/-! ### Parts of the state: a read after a write -/

@[simp] theorem State.chan_setChan_same (s : State) (n : Nat) (c : Chan) : (s.setChan n c).chan n = c := tget_tset_same _ _ _ _
theorem State.chan_setChan_other (s : State) (n : Nat) (c : Chan) (j : Nat) (h : j ≠ n) : (s.setChan n c).chan j = s.chan j :=
  tget_tset_other _ _ _ _ _ h

@[simp] theorem State.fx_setFx_same (s : State) (f : Nat) (x : FlowX) : (s.setFx f x).fx f = x := tget_tset_same _ _ _ _
theorem State.fx_setFx_other (s : State) (f : Nat) (x : FlowX) (j : Nat) (h : j ≠ f) : (s.setFx f x).fx j = s.fx j :=
  tget_tset_other _ _ _ _ _ h

@[simp] theorem State.dx_setDx_same (s : State) (c : Nat) (x : DecX) : (s.setDx c x).dx c = x := tget_tset_same _ _ _ _
theorem State.dx_setDx_other (s : State) (c : Nat) (x : DecX) (j : Nat) (h : j ≠ c) : (s.setDx c x).dx j = s.dx j :=
  tget_tset_other _ _ _ _ _ h

@[simp] theorem State.comp_setComp_same (s : State) (c : Nat) (x : CompX) : (s.setComp c x).comp c = x := tget_tset_same _ _ _ _
theorem State.comp_setComp_other (s : State) (c : Nat) (x : CompX) (j : Nat) (h : j ≠ c) : (s.setComp c x).comp j = s.comp j :=
  tget_tset_other _ _ _ _ _ h

@[simp] theorem State.sx_setSx_same (s : State) (i : Nat) (x : SlotX) : (s.setSx i x).sx i = x := tget_tset_same _ _ _ _
theorem State.sx_setSx_other (s : State) (i : Nat) (x : SlotX) (j : Nat) (h : j ≠ i) : (s.setSx i x).sx j = s.sx j :=
  tget_tset_other _ _ _ _ _ h

@[simp] theorem State.apt_setApt_same (s : State) (p : Nat) (x : AptX) : (s.setApt p x).apt p = x := tget_tset_same _ _ _ _
theorem State.apt_setApt_other (s : State) (p : Nat) (x : AptX) (j : Nat) (h : j ≠ p) : (s.setApt p x).apt j = s.apt j :=
  tget_tset_other _ _ _ _ _ h

@[simp] theorem State.link_setLink_same (s : State) (k : Nat) (x : LinkX) : (s.setLink k x).link k = x := tget_tset_same _ _ _ _
theorem State.link_setLink_other (s : State) (k : Nat) (x : LinkX) (j : Nat) (h : j ≠ k) : (s.setLink k x).link j = s.link j :=
  tget_tset_other _ _ _ _ _ h

@[simp] theorem State.laneX_setLaneX_same (s : State) (l : Nat) (x : LaneX) : (s.setLaneX l x).laneX l = x := tget_tset_same _ _ _ _
theorem State.laneX_setLaneX_other (s : State) (l : Nat) (x : LaneX) (j : Nat) (h : j ≠ l) : (s.setLaneX l x).laneX j = s.laneX j :=
  tget_tset_other _ _ _ _ _ h

@[simp] theorem State.yzp_setYzp_same (s : State) (p : Nat) (x : YzPort) : (s.setYzp p x).yzp p = x := tget_tset_same _ _ _ _
theorem State.yzp_setYzp_other (s : State) (p : Nat) (x : YzPort) (j : Nat) (h : j ≠ p) : (s.setYzp p x).yzp j = s.yzp j :=
  tget_tset_other _ _ _ _ _ h

@[simp] theorem State.drc_setDrc_same (s : State) (c : Nat) (x : DrCh) : (s.setDrc c x).drc c = x := tget_tset_same _ _ _ _
theorem State.drc_setDrc_other (s : State) (c : Nat) (x : DrCh) (j : Nat) (h : j ≠ c) : (s.setDrc c x).drc j = s.drc j :=
  tget_tset_other _ _ _ _ _ h

@[simp] theorem State.zone_setZone_same (s : State) (z : Nat) (x : ZoneX) : (s.setZone z x).zone z = x := tget_tset_same _ _ _ _
theorem State.zone_setZone_other (s : State) (z : Nat) (x : ZoneX) (j : Nat) (h : j ≠ z) : (s.setZone z x).zone j = s.zone j :=
  tget_tset_other _ _ _ _ _ h

@[simp] theorem State.kc_setKc_same (s : State) (c : Nat) (k : KCore) : (s.setKc c k).kc c = k := tget_tset_same _ _ _ _
theorem State.kc_setKc_other (s : State) (c : Nat) (k : KCore) (j : Nat) (h : j ≠ c) : (s.setKc c k).kc j = s.kc j :=
  tget_tset_other _ _ _ _ _ h

@[simp] theorem Chan.slot_setSlot_same (c : Chan) (k : Nat) (r : SlotRec) : (c.setSlot k r).slot k = r := tget_tset_same _ _ _ _
theorem Chan.slot_setSlot_other (c : Chan) (k j : Nat) (r : SlotRec) (h : j ≠ k) : (c.setSlot k r).slot j = c.slot j :=
  tget_tset_other _ _ _ _ _ h
@[simp] theorem Chan.rc_setRc_same (c : Chan) (k : Nat) (r : RcRec) : (c.setRc k r).rc k = r := tget_tset_same _ _ _ _
theorem Chan.rc_setRc_other (c : Chan) (k j : Nat) (r : RcRec) (h : j ≠ k) : (c.setRc k r).rc j = c.rc j :=
  tget_tset_other _ _ _ _ _ h
@[simp] theorem Chan.pic_setPic_same (c : Chan) (k rend : Nat) (p : RPic) : (c.setPic k rend p).pic k rend = some p := tfind_tput_same _ _ _
theorem Chan.pic_setPic_other (c : Chan) (k rend k' rend' : Nat) (p : RPic) (h : k' * 16 + rend' ≠ k * 16 + rend) :
    (c.setPic k rend p).pic k' rend' = c.pic k' rend' := tfind_tput_other _ _ _ _ h
@[simp] theorem Chan.setSlot_frame (c : Chan) (k : Nat) (r : SlotRec) :
    (c.setSlot k r).pics = c.pics ∧ (c.setSlot k r).rcs = c.rcs ∧ (c.setSlot k r).run = c.run ∧ (c.setSlot k r).stop = c.stop ∧
    (c.setSlot k r).pace = c.pace := ⟨rfl, rfl, rfl, rfl, rfl⟩
@[simp] theorem Chan.setPic_frame (c : Chan) (k rend : Nat) (p : RPic) :
    (c.setPic k rend p).slots = c.slots ∧ (c.setPic k rend p).rcs = c.rcs ∧ (c.setPic k rend p).run = c.run ∧
    (c.setPic k rend p).stop = c.stop ∧ (c.setPic k rend p).pace = c.pace := ⟨rfl, rfl, rfl, rfl, rfl⟩
@[simp] theorem Chan.setRc_frame (c : Chan) (k : Nat) (r : RcRec) :
    (c.setRc k r).slots = c.slots ∧ (c.setRc k r).pics = c.pics ∧ (c.setRc k r).run = c.run ∧ (c.setRc k r).stop = c.stop ∧
    (c.setRc k r).pace = c.pace := ⟨rfl, rfl, rfl, rfl, rfl⟩

/-! ### Kettle registers -/

/-- What a write of every core of a unit leaves. -/
theorem State.kPut_regs (s : State) (c : Nat) (f : Nat → FRef) (v : Nat) : s.kPut c f v = { s with regs := (s.kPut c f v).regs } := by
  unfold State.kPut
  induction s.kCores c generalizing s with
  | nil => rfl
  | cons x l ih => rw [List.foldl_cons, ih]; rfl

end Sys2Proof.Machine
end

