-- ==== Sys2Proof/Laws/Events.lean ====
section
/-! SUPPORT. Raising an event and writing the fault log: the parts of the state that each changes, the record that enters the queue,
and the registers that stay. -/

namespace Sys2Proof.Machine

/-! ### What they change -/

theorem evReport_eq (s : State) : s.evReport = { s with evq := s.evReport.evq } := by
  unfold State.evReport; split <;> rfl

theorem evEnter_eq (s : State) (r : EvRec) :
    s.evEnter r = { s with evq := (s.evEnter r).evq, regs := (s.evEnter r).regs } := by
  have h : ∃ q g, s.evEnter r = { s with evq := q, regs := g } := by
    unfold State.evEnter
    split
    · dsimp only
      generalize (if r.code / 256 = 0 ∨ r.code = 0x0501 then 1024 else 1008) = cap
      split
      · exact ⟨_, s.regs, by rw [evReport_eq s]; rfl⟩
      · rw [evReport_eq]
        exact ⟨_, _, by rw [evReport_eq s]; rfl⟩
    · split
      · exact ⟨_, s.regs, rfl⟩
      · exact ⟨_, _, rfl⟩
  obtain ⟨q, g, h⟩ := h
  rw [h]

/-- Raising an event changes the queue, the subscriptions and the queue's registers, and nothing else (R586 to R590). -/
theorem emit_eq (s : State) (code inst arg : Nat) :
    s.emit code inst arg = { s with
      evq := (s.emit code inst arg).evq, ctl := (s.emit code inst arg).ctl, regs := (s.emit code inst arg).regs } := by
  unfold State.emit
  dsimp only
  split
  · rw [evEnter_eq]; rfl
  · rfl

theorem emitLim_eq (s : State) (code inst n arg : Nat) :
    s.emitLim code inst n arg = { s with
      lims := (s.emitLim code inst n arg).lims, evq := (s.emitLim code inst n arg).evq,
      ctl := (s.emitLim code inst n arg).ctl, regs := (s.emitLim code inst n arg).regs } := by
  unfold State.emitLim
  dsimp only
  split
  · rfl
  · rw [emit_eq]

/-- A fault log record changes the log and the counts of records held back (R463). -/
theorem logFault_eq (s : State) (cls action code inst arg : Nat) :
    s.logFault cls action code inst arg = { s with
      safe := (s.logFault cls action code inst arg).safe, cask := (s.logFault cls action code inst arg).cask } := by
  unfold State.logFault
  dsimp only
  split <;> rfl

/-! ### Registers that stay -/

theorem rd_evReport (s : State) (a : Nat) : s.evReport.rd a = s.rd a := by rw [evReport_eq]; rfl

theorem rd_evEnter (s : State) (r : EvRec) (a : Nat) (h : a ≠ EVQ_STAT) (h' : a ≠ EVQ_CNT_LOST) :
    (s.evEnter r).rd a = s.rd a := by
  have hl : ∀ t : State, t.evLost.rd a = t.rd a := fun t => rd_cnt_other t EVQ_CNT_LOST_COUNT 1 a h'
  unfold State.evEnter
  split
  · dsimp only
    generalize (if r.code / 256 = 0 ∨ r.code = 0x0501 then 1024 else 1008) = cap
    split
    · exact rd_evReport s a
    · rw [rd_evReport]; exact (hl _).trans (rd_evReport s a)
  · split
    · rfl
    · exact (rd_put_other _ EVQ_STAT_LAPPED 1 a h).trans (hl s)

/-- Raising an event writes no register but the two that count what the queue loses. -/
theorem rd_emit (s : State) (code inst arg a : Nat) (h : a ≠ EVQ_STAT) (h' : a ≠ EVQ_CNT_LOST) :
    (s.emit code inst arg).rd a = s.rd a := by
  unfold State.emit
  dsimp only
  split
  · exact (rd_evEnter _ _ a h h').trans rfl
  · rfl

theorem rd_emitLim (s : State) (code inst n arg a : Nat) (h : a ≠ EVQ_STAT) (h' : a ≠ EVQ_CNT_LOST) :
    (s.emitLim code inst n arg).rd a = s.rd a := by
  unfold State.emitLim
  dsimp only
  split
  · rfl
  · exact (rd_emit _ _ _ _ a h h').trans rfl

theorem rd_logFault (s : State) (cls action code inst arg a : Nat) : (s.logFault cls action code inst arg).rd a = s.rd a := by
  rw [logFault_eq]; rfl

theorem fld_emit (s : State) (code inst arg : Nat) (f : FRef) (h : f.addr ≠ EVQ_STAT) (h' : f.addr ≠ EVQ_CNT_LOST) :
    (s.emit code inst arg).fld f = s.fld f := by
  unfold State.fld; rw [rd_emit s code inst arg f.addr h h']

/-- No register but those of the queue changes, and what was sent stays. -/
theorem keeps_emit (s : State) (code inst arg : Nat) : Keeps s (s.emit code inst arg) [] :=
  fun a _ h h' => rd_emit s code inst arg a h h'

theorem Keeps.trans (s t u : State) (l m : List Nat) (h : Keeps s t l) (h' : Keeps t u m) : Keeps s u (l ++ m) := by
  intro a ha h1 h2
  rw [h' a (fun x => ha (List.mem_append.mpr (.inr x))) h1 h2, h a (fun x => ha (List.mem_append.mpr (.inl x))) h1 h2]

theorem Keeps.weaken (s t : State) (l m : List Nat) (h : Keeps s t l) (hs : ∀ a, a ∈ l → a ∈ m) : Keeps s t m :=
  fun a ha => h a (fun x => ha (hs a x))

theorem keeps_wr (s : State) (a : Nat) (v : W32) : Keeps s (s.wr a v) [a] :=
  fun b hb _ _ => rd_wr_other s a b v (fun e => hb (List.mem_singleton.mpr e))

/-! ### The record that enters -/

/-- In overwrite mode a record of an unmasked block enters at the place of the write count (R588, R589). -/
theorem evq_emit (s : State) (code inst arg : Nat) (hm : s.evMasked code = true) (hh : s.bit EVQ_CFG_HOLD = false) :
    (s.emit code inst arg).evq.wr = s.evq.wr + 1 ∧
    (s.emit code inst arg).evq.ring = tset (fun _ => EvRec.zero) s.evq.ring (s.evq.wr % 1024) (s.evRec code inst arg) := by
  have hm' : (s.evStream (s.evRec code inst arg)).evMasked code = true := hm
  have hh' : (s.evStream (s.evRec code inst arg)).bit EVQ_CFG_HOLD = false := hh
  unfold State.emit
  simp only [hm', if_true]
  unfold State.evEnter
  simp only [hh', Bool.false_eq_true, if_false]
  split <;> exact ⟨rfl, rfl⟩

/-- Raising an event raises it. -/
theorem raises_emit (s : State) (code inst arg : Nat) : Raises s (s.emit code inst arg) code inst arg := by
  intro hm hh
  obtain ⟨hw, hr⟩ := evq_emit s code inst arg hm hh
  refine ⟨s.evq.wr, Nat.le_refl _, by omega, ?_⟩
  unfold Evq.record
  rw [hr, tget_tset_same]

/-- A record of the last 1,023 stays when another event is raised. -/
theorem record_emit (s : State) (code inst arg n : Nat) (hm : s.evMasked code = true) (hh : s.bit EVQ_CFG_HOLD = false)
    (h : n < s.evq.wr) (h' : s.evq.wr < n + 1024) : (s.emit code inst arg).evq.record n = s.evq.record n := by
  unfold Evq.record
  rw [(evq_emit s code inst arg hm hh).2, tget_tset_other _ _ _ _ _ (by omega)]

end Sys2Proof.Machine
end

