-- ==== Sys2Proof/Laws/Mem.lean ====
section
/-! SUPPORT. DRAM bytes: what a read after a write gives, that every operation on them keeps the canonical form, and that a write of
bytes changes nothing but DRAM. -/

namespace Sys2Proof.Machine

@[simp] theorem dbyte_dput_same (s : State) (a : Nat) (b : Byte) : (s.dput a b).dbyte a = b := tget_tset_same _ _ _ _

theorem dbyte_dput_other (s : State) (a j : Nat) (b : Byte) (h : j ≠ a) : (s.dput a b).dbyte j = s.dbyte j :=
  tget_tset_other _ _ _ _ _ h

theorem Memory.wf_dput (s : State) (a : Nat) (b : Byte) (h : Memory.wf s.dram = true) : Memory.wf (s.dput a b).dram = true :=
  twf_tset _ _ _ _ h

/-- A write of bytes changes DRAM alone. -/
theorem dputs_eq (s : State) (a : Nat) (bs : List Byte) : s.dputs a bs = { s with dram := (s.dputs a bs).dram } := by
  induction bs generalizing s a with
  | nil => rfl
  | cons b t ih => rw [State.dputs, ih]; rfl

theorem Memory.wf_dputs (s : State) (a : Nat) (bs : List Byte) (h : Memory.wf s.dram = true) :
    Memory.wf (s.dputs a bs).dram = true := by
  induction bs generalizing s a with
  | nil => exact h
  | cons b t ih => exact ih (s.dput a b) (a + 1) (Memory.wf_dput s a b h)

/-- Zero fill: taking bytes out, which then read as zero. -/
theorem Memory.wf_filter (m : Tab Byte) (p : Nat × Byte → Bool) (h : Memory.wf m = true) : Memory.wf (m.filter p) = true :=
  twf_filter _ _ _ h

theorem Memory.wf_reset : Memory.wf State.reset.dram = true := rfl

/-- Bytes outside the ones written are as they were. -/
theorem dbyte_dputs_other (s : State) (a : Nat) (bs : List Byte) (j : Nat) (h : j < a ∨ a + bs.length ≤ j) :
    (s.dputs a bs).dbyte j = s.dbyte j := by
  induction bs generalizing s a with
  | nil => rfl
  | cons b t ih =>
    have hl : (b :: t).length = t.length + 1 := rfl
    rw [State.dputs, ih (s.dput a b) (a + 1) (by omega), dbyte_dput_other s a j b (by omega)]

/-- The bytes written read back. -/
theorem dbyte_dputs_same (s : State) (a : Nat) (bs : List Byte) (i : Nat) (h : i < bs.length) :
    (s.dputs a bs).dbyte (a + i) = bs.getD i 0 := by
  induction bs generalizing s a i with
  | nil => cases h
  | cons b t ih =>
    cases i with
    | zero => rw [State.dputs, dbyte_dputs_other _ _ _ _ (.inl (by omega))]; exact dbyte_dput_same s a b
    | succ i =>
      have hi : i < t.length := by simpa using h
      have e : a + (i + 1) = a + 1 + i := by omega
      rw [State.dputs, e, ih (s.dput a b) (a + 1) i hi]; rfl

/-! ### Descriptors, samples and cleared ranges -/

theorem putDesc_eq (s : State) (a : Nat) (d : PicDesc) : s.putDesc a d = { s with dram := (s.putDesc a d).dram } := dputs_eq s a _

theorem Memory.wf_putDesc (s : State) (a : Nat) (d : PicDesc) (h : Memory.wf s.dram = true) : Memory.wf (s.putDesc a d).dram = true :=
  Memory.wf_dputs s a _ h

theorem putSamples_eq (s : State) (line i : Nat) (vs : List Int) :
    s.putSamples line i vs = { s with dram := (s.putSamples line i vs).dram } := dputs_eq s _ _

theorem Memory.wf_putSamples (s : State) (line i : Nat) (vs : List Int) (h : Memory.wf s.dram = true) :
    Memory.wf (s.putSamples line i vs).dram = true := Memory.wf_dputs s _ _ h

theorem dzero_eq (s : State) (a n : Nat) : s.dzero a n = { s with dram := (s.dzero a n).dram } := rfl

theorem Memory.wf_dzero (s : State) (a n : Nat) (h : Memory.wf s.dram = true) : Memory.wf (s.dzero a n).dram = true :=
  Memory.wf_filter _ _ h

/-- A cleared range reads as zero, and the rest of DRAM as before. -/
theorem dbyte_dzero (s : State) (a n j : Nat) : (s.dzero a n).dbyte j = if a ≤ j ∧ j < a + n then 0 else s.dbyte j := by
  have e := tfind_filter (fun k => decide (k < a) || decide (a + n ≤ k)) s.dram j
  show (tfind (s.dram.filter (fun e => decide (e.1 < a) || decide (a + n ≤ e.1))) j).getD 0 = _
  rw [e]
  by_cases h : a ≤ j ∧ j < a + n
  · have hp : (decide (j < a) || decide (a + n ≤ j)) = false := by simp; omega
    simp [h, hp]
  · have hp : (decide (j < a) || decide (a + n ≤ j)) = true := by simp; omega
    rw [if_pos hp, if_neg h]; rfl

end Sys2Proof.Machine
end

