-- ==== Sys2Proof/Laws/Ports.lean ====
section
/-! SUPPORT. Register accesses by a port: a write that is taken, one that is ignored, one that is refused, and a read that is refused. -/

namespace Sys2Proof.Machine

/-- A write that is taken: its plain part, the answer, and the effect of its command bits (R561, R580). -/
theorem portWrite_taken (s : State) (p : Port) (a : Nat) (v : W32) (eff : State → State) (h : Taken s p a v) :
    s.portWrite p a v eff =
      eff (((if s.writeMaintain p a v then s.holdEnd else s).writePlain p a v).accessOk 0) := by
  unfold State.portWrite
  rw [h.1]
  simp [h.2]

/-- A refused write does nothing but fail with its STATUS (R561). -/
theorem portWrite_refused (s : State) (p : Port) (a : Nat) (v : W32) (eff : State → State) (h : s.writeStatus p a v ≠ 0) :
    s.portWrite p a v eff = s.accessFail p a true (s.writeStatus p a v) := by
  unfold State.portWrite
  generalize s.writeStatus p a v = st at h
  match st, h with
  | 0, h => exact absurd rfl h
  | _ + 1, _ => rfl

theorem portRead_refused (s : State) (p : Port) (a : Nat) (h : s.readStatus p a ≠ 0) :
    s.portRead p a = s.accessFail p a false (s.readStatus p a) := by
  unfold State.portRead
  generalize s.readStatus p a = st at h
  match st, h with
  | 0, h => exact absurd rfl h
  | _ + 1, _ => rfl

/-- An answer changes the port's state alone. -/
theorem accessOk_eq (s : State) (d : W32) : s.accessOk d = { s with ctl := (s.accessOk d).ctl } := rfl

end Sys2Proof.Machine
end

