-- ==== Sys2Proof/Laws/Records.lean ====
section
/-! SUPPORT. Records of flows, decode contexts, sessions, legs and outputs: a table of records after an update of one, and what a write
of a field leaves. -/

namespace Sys2Proof.Machine

/-- Replacing the records of a type changes the bridge's state alone, and of it no other type. -/
theorem State.setRecTab_brg (s : State) (ty : Nat) (t : Tab (List W32)) :
    s.setRecTab ty t = { s with brg := (s.setRecTab ty t).brg } := by
  unfold State.setRecTab; split <;> rfl

theorem State.recTab_setRecTab_same (s : State) (ty : Nat) (t : Tab (List W32)) : (s.setRecTab ty t).recTab ty = t := by
  match ty with
  | 0 | 1 | 2 | 3 => rfl
  | n + 4 => rfl

theorem State.recTab_setRecTab_other (s : State) (ty u : Nat) (t : Tab (List W32)) (h : u ≠ ty) (h1 : ty ≤ 4) (h2 : u ≤ 4) :
    (s.setRecTab ty t).recTab u = s.recTab u := by
  match ty, u, h1, h2 with
  | 0, 0, _, _ | 1, 1, _, _ | 2, 2, _, _ | 3, 3, _, _ | 4, 4, _, _ => exact absurd rfl h
  | 0, 1, _, _ | 0, 2, _, _ | 0, 3, _, _ | 0, 4, _, _ => rfl
  | 1, 0, _, _ | 1, 2, _, _ | 1, 3, _, _ | 1, 4, _, _ => rfl
  | 2, 0, _, _ | 2, 1, _, _ | 2, 3, _, _ | 2, 4, _, _ => rfl
  | 3, 0, _, _ | 3, 1, _, _ | 3, 2, _, _ | 3, 4, _, _ => rfl
  | 4, 0, _, _ | 4, 1, _, _ | 4, 2, _, _ | 4, 3, _, _ => rfl

/-- A write of a record's field changes the bridge's state alone. -/
theorem State.rp_eq (s : State) (ty i off n v : Nat) : s.rp ty i off n v = { s with brg := (s.rp ty i off n v).brg } := by
  unfold State.rp
  split
  · exact State.setRecTab_brg _ _ _
  · rfl

/-- It replaces that record, and creates none. -/
theorem State.record_rp (s : State) (ty i off n v : Nat) (h : s.recValid ty i = true) :
    (s.rp ty i off n v).record ty i = rput (s.record ty i) off n v := by
  unfold State.recValid at h
  unfold State.rp State.record
  cases e : tfind (s.recTab ty) i with
  | none => simp [e] at h
  | some w => rw [State.recTab_setRecTab_same, tfind_tput_same]; rfl

theorem State.record_rp_other (s : State) (ty i j off n v : Nat) (h : j ≠ i) :
    (s.rp ty i off n v).record ty j = s.record ty j := by
  unfold State.rp State.record
  cases tfind (s.recTab ty) i with
  | none => rfl
  | some w => dsimp only; rw [State.recTab_setRecTab_same, tfind_tput_other _ _ _ _ h]

end Sys2Proof.Machine
end

