-- ==== Sys2Proof/Machine/Balls.lean ====
section
/-! DEFINITION. The ball map of the package (R597 to R602): what each ball of the 76 × 76 array carries. No command changes it. -/

namespace Sys2Proof.Machine

/-- The five regions of the array (R598). -/
inductive BallRegion where
  | lanes | dramWest | dramEast | control | core
  deriving DecidableEq, Repr

/-- What a ball carries. `neg` is the N or complement ball of a pair. `dramSupply` is power or ground of a DRAM block: the manual gives
how many balls of VDD2H_LP, VDDQ_LP and VSS a region has and not which they are. -/
inductive Ball where
  | laneTx (lane : Nat) (neg : Bool) | laneRx (lane : Nat) (neg : Bool)
  | refclk (n : Nat) (neg : Bool) | rcalA | rcalB
  | vss | vddCore | vddSram | vddIo | vddAon | vddMram | vddaSd | vddhSd | dramSupply | reserved
  | dq (ch n : Nat) | dmi (ch n : Nat) | rdqs (ch n : Nat) (neg : Bool) | wck (ch n : Nat) (neg : Bool)
  | ca (ch n : Nat) | ck (ch : Nat) (neg : Bool) | cs (ch n : Nat) | dramReset (ch : Nat)
  | hcpD (n : Nat) | hcpA (n : Nat) | hcpClk | hcpCsN | hcpWeN | hcpErr | tio (n : Nat)
  | nvmSck | nvmCsN | nvmDq (n : Nat) | nvmDqs | nvmResetN
  | aesIn (n : Nat) | aesOut (n : Nat) | wclkIn
  | tdmBclk (p : Nat) | tdmFsync (p : Nat) | tdmSdi (p : Nat) | tdmSdo (p : Nat)
  | tck | tms | tdi | tdo | trstN | testEn | avsClk | avsMdata | avsSdata | porstN | wrstN | wakeN
  | mgmtTx (neg : Bool) | mgmtRx (neg : Bool) | coreSense (neg : Bool)
  deriving DecidableEq, Repr

/-- The region of the ball in row `r` and column `c`, each from 1 to 76. -/
def ballRegion (r c : Nat) : BallRegion :=
  if r ≤ 10 then .lanes
  else if c ≤ 12 then .dramWest
  else if 65 ≤ c then .dramEast
  else if 67 ≤ r then .control
  else .core

/-- The lane region (R599). -/
def laneBall (r c : Nat) : Ball :=
  let lane := c - 3
  let l := decide (3 ≤ c ∧ c ≤ 66)
  if r = 2 ∧ l then .laneTx lane false
  else if r = 3 ∧ l then .laneTx lane true
  else if r = 6 ∧ l then .laneRx lane false
  else if r = 7 ∧ l then .laneRx lane true
  else if (r = 4 ∨ r = 6) ∧ (c = 70 ∨ c = 71) then .refclk ((r - 4) / 2) (c == 71)
  else if r = 8 ∧ c = 69 then .rcalA
  else if r = 8 ∧ c = 72 then .rcalB
  else if r = 9 ∨ r = 10 ∧ c ≤ 36 then .vddaSd
  else if r = 10 then .vddhSd
  else .vss

/-- Row `k` of a DRAM channel's block, in the column of the West side (R600). -/
def dramBall (ch k c : Nat) : Ball :=
  match k with
  | 0 => if c ≤ 8 then .dq ch (c - 1) else if c = 9 then .dmi ch 0 else if c ≤ 11 then .rdqs ch 0 (c == 11) else .dramSupply
  | 1 => if c ≤ 2 then .wck ch 0 (c == 2) else .dramSupply
  | 2 => if c ≤ 8 then .dq ch (c + 7) else if c = 9 then .dmi ch 1 else if c ≤ 11 then .rdqs ch 1 (c == 11) else .dramSupply
  | 3 => if c ≤ 2 then .wck ch 1 (c == 2) else if c ≤ 9 then .ca ch (c - 3) else if c ≤ 11 then .ck ch (c == 11) else .dramSupply
  | _ => if c ≤ 2 then .cs ch (c - 1) else if c = 3 then .dramReset ch else .dramSupply

/-- The signals of the control region (R601); none where a ball carries power, ground or nothing. -/
def controlSignal (r c : Nat) : Option Ball :=
  match r with
  | 76 => if 13 ≤ c ∧ c ≤ 44 then some (.hcpD (c - 13)) else none
  | 74 =>
    if 13 ≤ c ∧ c ≤ 32 then some (.hcpA (c - 11))
    else if 40 ≤ c ∧ c ≤ 47 then some (.tio (c - 40))
    else match c with | 33 => some .hcpClk | 34 => some .hcpCsN | 35 => some .hcpWeN | 36 => some .hcpErr | _ => none
  | 72 =>
    if 15 ≤ c ∧ c ≤ 22 then some (.nvmDq (c - 15))
    else if 40 ≤ c ∧ c ≤ 43 then some (.aesIn (c - 40))
    else if 45 ≤ c ∧ c ≤ 48 then some (.aesOut (c - 45))
    else match c with
      | 13 => some .nvmSck | 14 => some .nvmCsN | 23 => some .nvmDqs | 24 => some .nvmResetN | 50 => some .wclkIn | _ => none
  | 70 =>
    if 13 ≤ c ∧ c < 13 + 4 * 8 then
      let p := (c - 13) / 4
      some (match (c - 13) % 4 with | 0 => .tdmBclk p | 1 => .tdmFsync p | 2 => .tdmSdi p | _ => .tdmSdo p)
    else none
  | 68 =>
    match c with
    | 13 => some .tck | 14 => some .tms | 15 => some .tdi | 16 => some .tdo | 17 => some .trstN | 18 => some .testEn
    | 20 => some .avsClk | 21 => some .avsMdata | 22 => some .avsSdata
    | 24 => some .porstN | 25 => some .wrstN | 26 => some .wakeN
    | 56 => some (.mgmtTx false) | 57 => some (.mgmtTx true) | 58 => some (.mgmtRx false) | 59 => some (.mgmtRx true)
    | 61 => some (.coreSense false) | 62 => some (.coreSense true)
    | _ => none
  | _ => none

/-- The other balls of the control region (R601). -/
def controlOther (r c : Nat) : Ball :=
  if 69 ≤ r ∧ r % 2 = 1 ∧ 49 ≤ c ∧ c ≤ 63 then .vddIo
  else if r = 67 ∧ 45 ≤ c ∧ c ≤ 56 then .vddAon
  else if r = 67 ∧ 57 ≤ c ∧ c ≤ 64 then .vddMram
  else if r = 67 ∧ 13 ≤ c ∧ c ≤ 32 then .reserved
  else .vss

/-- The ball in row `r` and column `c`. -/
def ball (r c : Nat) : Ball :=
  match ballRegion r c with
  | .lanes => laneBall r c
  | .dramWest => if r ≤ 70 then dramBall ((r - 11) / 5) ((r - 11) % 5) c else .dramSupply
  | .dramEast => if r ≤ 70 then dramBall (12 + (r - 11) / 5) ((r - 11) % 5) (77 - c) else .dramSupply
  | .control => (controlSignal r c).getD (controlOther r c)
  | .core => if (r + c) % 2 = 0 then .vss else if c ≤ 18 ∨ 59 ≤ c then .vddSram else .vddCore

end Sys2Proof.Machine
end

