-- ==== Sys2Proof/WellFormed.lean ====
section
/-! DEFINITION. Which commands can be sent: operands within the widths that the manual gives the thing they carry. The meanings are
total, so nothing rests on this but what a sender may do. -/

namespace Sys2Proof

open Sys2Proof.Machine

/-- An address that a port can name: the HCP and the test access port have HCP_A[21:2] (R559, R618); a request has 32 bits. -/
def addrOk (p : Port) (a : Nat) : Bool :=
  match p with
  | .hcp | .jtag => decide (a < 0x400000) && a % 4 == 0
  | .mgmt | .yz | .media => decide (a < 2 ^ 32)

/-- A request header within its widths (R569, R405), from a port that carries requests. -/
def Machine.Req.ok (q : Req) : Bool :=
  (q.port == .mgmt || q.port == .yz) && decide (q.alive < 256) && decide (q.tag < 2 ^ 32) && decide (q.version < 65536) &&
  decide (q.kind < 4) && decide (q.dst < 4096)

/-- Well-formed commands. -/
def Instr.wf (i : Instr) : Bool :=
  match i with
  | .videoPacketRx _ _ _ _ _ => true
  | .chPathSilent _ _ => true
  | .rowComplete _ _ _ => true
  | .rowStartDeadline _ _ _ => true
  | .classificationCut _ _ _ => true
  | .pictureEncodeStart _ _ => true
  | .triggerFire _ _ => true
  | .egressPacketSend _ _ _ _ _ _ => true
  | .bcAudioRelease _ _ => true
  | .chHintWrite _ _ _ => true
  | .unitStart _ _ _ _ _ => true
  | .unitEncodeDone _ _ _ _ _ _ _ => true
  | .tunFenceCmd _ _ _ => true
  | .tunUnfenceCmd _ _ _ => true
  | .tunSelftestDone _ _ => true
  | .millGroupDownscale _ _ _ _ _ _ _ => true
  | .millRowSearch _ _ _ => true
  | .windowStripLoad _ _ _ _ => true
  | .prefillDone _ => true
  | .checkUnitDecoded _ _ => true
  | .chkDecTestSlot _ _ => true
  | .chkDecFenceCmd _ _ _ => true
  | .chkDecUnfenceCmd _ _ _ => true
  | .rtpPacketRx _ => true
  | .contextFetchDone _ _ => true
  | .contextWriteback _ => true
  | .rtcpSrRrRx _ _ _ => true
  | .rtcpNackRx _ seqs _ => seqs.all (fun x => decide (x < 65536))
  | .rtcpPliFirRx _ _ => true
  | .rtcpFeedbackRx _ _ _ _ _ _ => true
  | .rtcpByeRx _ ssrc _ _ => decide (ssrc < 2 ^ 32)
  | .rtcpReportSend _ => true
  | .feedbackReportSend _ => true
  | .rxNackSend _ => true
  | .bweStep _ => true
  | .outputTargetUpdate _ => true
  | .layerRateUpdate _ => true
  | .pacedCopySend _ => true
  | .pacerDrop _ => true
  | .upswitchPliTimeout _ => true
  | .keyframeHoldEnd _ => true
  | .fwdUsageUpdate _ => true
  | .puntFetch _ => true
  | .puntSend _ _ => true
  | .brgWinFetch _ _ _ _ => true
  | .brgWinStage _ _ _ => true
  | .brgWinDiscard _ _ _ => true
  | .admissionRequestRx _ _ _ _ _ => true
  | .admissionGrantRx _ _ _ => true
  | .decodePictureStart _ _ => true
  | .decodeBudgetCut _ _ => true
  | .decodePictureDone _ _ => true
  | .keyframeReqRepeat _ => true
  | .decCoreTestSlot _ _ => true
  | .decCoreFenceCmd _ _ _ => true
  | .decCoreUnfenceCmd _ _ _ => true
  | .decCoreUnfenceDone _ _ => true
  | .stripComposed _ _ _ => true
  | .mergeRapWaitExpire _ => true
  | .cmpTestSlot _ _ => true
  | .cmpPipeFenceCmd _ _ _ => true
  | .cmpPipeUnfenceCmd _ _ _ => true
  | .candidateSetRx _ _ _ => true
  | .audWinFetch _ _ _ _ => true
  | .audWinStage _ _ _ => true
  | .audWinDiscard _ _ _ => true
  | .loudnessUpdate _ _ _ _ _ => true
  | .lockstepMismatch _ _ => true
  | .kettleTestSlot _ _ => true
  | .kettleFenceCmd _ _ _ => true
  | .kettleUnfenceCmd _ _ _ => true
  | .kettleHaltCmd _ _ _ => true
  | .kettleReleaseCmd _ _ _ => true
  | .mboxWrite _ _ _ => true
  | .interruptAccept _ => true
  | .kettleTimerExpire _ => true
  | .dmaDescriptorDone _ _ _ => true
  | .restWaitEnd _ => true
  | .dspWinFetch _ _ _ _ _ => true
  | .dspWinWrite _ _ _ _ => true
  | .nop _ => true
  | .bra _ => true
  | .call _ => true
  | .jmp _ => true
  | .rti _ => true
  | .wait _ => true
  | .add _ => true
  | .sub _ => true
  | .neg _ => true
  | .abs _ => true
  | .mul _ => true
  | .and _ => true
  | .or _ => true
  | .xor _ => true
  | .shl _ => true
  | .shr _ => true
  | .asr _ => true
  | .min _ => true
  | .max _ => true
  | .cmp _ => true
  | .tst _ => true
  | .clz _ => true
  | .csel _ => true
  | .fadd _ => true
  | .fsub _ => true
  | .fmul _ => true
  | .fneg _ => true
  | .fabs _ => true
  | .fmin _ => true
  | .fmax _ => true
  | .fcmp _ => true
  | .i2f _ => true
  | .f2i _ => true
  | .fscl _ => true
  | .frcp _ => true
  | .frsq _ => true
  | .fmac _ => true
  | .fmacM _ => true
  | .ld _ => true
  | .st _ => true
  | .move _ => true
  | .movei _ => true
  | .moveu _ => true
  | .movel _ => true
  | .rep _ => true
  | .repD _ => true
  | .loop _ => true
  | .maxi _ => true
  | .mini _ => true
  | .parallelForm _ => true
  | .aptFrameSync _ _ _ => true
  | .aptRxFrameDone _ _ _ _ => true
  | .zcTimeout _ _ => true
  | .aesCsBlockRx _ _ a b _ => a.length == 24 && b.length == 24
  | .aesOutputLocked _ => true
  | .triggerArm _ _ _ => true
  | .ptpSyncRx _ _ _ _ _ _ _ => true
  | .ptpFollowUpRx _ _ _ _ _ _ => true
  | .ptpDelayRespRx _ _ _ _ _ _ _ => true
  | .delayReqSend _ => true
  | .ptpAnnounceRx _ _ _ _ _ _ => true
  | .masterLost => true
  | .acqTimeout => true
  | .captureEvent _ _ _ _ _ => true
  | .captureRead _ _ => true
  | .timeLatchRead _ => true
  | .yzStampExchange _ _ _ _ _ => true
  | .yzTimeMeasure _ => true
  | .upstreamStepRx _ _ => true
  | .quadPllLocked _ => true
  | .autoNegotiationDone _ _ => true
  | .cdrLocked _ => true
  | .alignmentLocked _ _ _ => true
  | .laneTrainingDone _ _ _ => true
  | .linkUp _ _ => true
  | .bringupRetry _ => true
  | .laneStepTimeout => true
  | .linkDown _ _ => true
  | .fomWindowEnd _ _ _ _ => true
  | .eyeScanRun _ _ _ => true
  | .eyeScanDone _ _ => true
  | .flitRx _ bytes => bytes.length == 128
  | .nakHoldoffExpire _ => true
  | .ackTimeout _ => true
  | .creditReturn _ _ => true
  | .capabilitySend _ => true
  | .capabilityRx _ bytes => bytes.length == 116
  | .capabilityRetry _ => true
  | .retrainDone _ _ _ => true
  | .bundleDown _ => true
  | .yzMessageRx _ _ _ => true
  | .yzUdpRx _ _ ip seq ack _ _ => decide (ip < 2 ^ 128) && decide (seq < 2 ^ 32) && decide (ack < 2 ^ 32)
  | .yzUdpResend _ _ => true
  | .heartbeatSend => true
  | .heartbeatRx _ _ view lvl => decide (view < 65536) && decide (1 ≤ lvl.val)
  | .memberDead _ lvl => decide (1 ≤ lvl.val)
  | .capacityRefresh _ _ _ => true
  | .groupStageCheck lvl ident _ _ => decide (1 ≤ lvl.val) && decide (ident < 2 ^ 32)
  | .groupCommit ident pid _ => decide (ident < 2 ^ 32) && decide (pid < 2 ^ 32)
  | .groupCommitTimeout => true
  | .groupAnswerTimeout => true
  | .rackRecordRx _ _ _ => true
  | .rackResendReqRx _ _ => true
  | .rackAckRx _ => true
  | .rackHeartbeatSend => true
  | .lastSentRack => true
  | .degradedEnter => true
  | .resyncCmd _ => true
  | .peerSilent => true
  | .leaseRequestRx _ _ _ _ _ _ _ => true
  | .arbiterLeaseEnd _ _ => true
  | .leaseGrantRx _ _ _ _ _ _ => true
  | .leaseDenyRx _ _ _ _ => true
  | .leaseReleaseRx _ _ _ _ => true
  | .leaseRevokeRx _ _ => true
  | .leaseRenew => true
  | .leaseExpire => true
  | .swapCmd _ => true
  | .swapDaysTick => true
  | .hgGrant _ _ _ => true
  | .hgDeny _ _ => true
  | .hgRevoke _ _ => true
  | .sramUncorrectable _ => true
  | .fabricParityError _ _ _ _ => true
  | .controlParityError _ a _ _ => decide (a < 0x400000)
  | .mgmtLockstepMismatch _ => true
  | .faultLogHourly => true
  | .fwdTestSlot _ => true
  | .imageCopyError _ => true
  | .safeCommand _ _ => true
  | .chkFeedB _ _ _ => true
  | .chkFeedH _ _ _ => true
  | .chkFeedW _ _ _ => true
  | .chkStart _ _ _ => true
  | .chkValueWrite _ _ _ => true
  | .chkCfgWrite _ _ _ => true
  | .chkAliveWrite _ _ _ => true
  | .chkAliveRst _ _ _ => true
  | .chkUnitTestSlot _ _ _ => true
  | .dramRead _ _ _ => true
  | .dramReadReturn _ _ _ _ => true
  | .dramWrite _ _ ofs bytes _ => decide (ofs.val + bytes.length ≤ 64)
  | .writeAgeExpire _ => true
  | .refreshDue _ _ => true
  | .rankPowerDown _ _ => true
  | .zeroFillDone _ _ => true
  | .scrubRead _ _ _ => true
  | .dramTrainingDone _ _ _ => true
  | .trPatternWrite _ _ _ _ => true
  | .trReadCompare _ _ _ _ _ => true
  | .trSweep _ _ _ _ _ => true
  | .trApplyCentres _ _ => true
  | .trSave _ _ _ => true
  | .xlate _ _ => true
  | .clkStopDetect _ => true
  | .clkWindowEnd _ _ _ _ => true
  | .pllLocked _ => true
  | .muxSwitch _ => true
  | .muxForcedSwitch _ => true
  | .trimMeasure _ => true
  | .gatePortIdle _ => true
  | .gateDrainTimeout _ _ => true
  | .domainPowerOn _ => true
  | .domainPowerOff _ _ => true
  | .wakePin => true
  | .modeTransitionDone => true
  | .avsTransactionDone _ => true
  | .kilnRound _ _ _ => true
  | .hotCritDetect _ => true
  | .sensorRejoinCmd _ _ _ => true
  | .coldReset => true
  | .warmResetPin => true
  | .warmResetCmd _ => true
  | .brownout => true
  | .bootCaskOpened _ => true
  | .imageReadDone _ _ => true
  | .roleListenEnd => true
  | .stageWrite p a _ => addrOk p a
  | .gravityCheck _ => true
  | .gravityCheckDone => true
  | .stageDiscard _ => true
  | .pitchCommand _ _ => true
  | .pitchInstant => true
  | .pitchBoundaryApply _ _ => true
  | .registerWrite p a _ => addrOk p a
  | .rcRead p a => addrOk p a
  | .snapFreeze _ => true
  | .snapRelease _ => true
  | .snapExpire => true
  | .mgmtRead q a n => q.ok && decide (a < 2 ^ 32) && decide (n < 65536)
  | .mgmtWrite q a ws => q.ok && decide (a < 2 ^ 32) && decide (ws.length ≤ 362)
  | .mgmtStageRecord q _ _ ws => q.ok && decide (ws.length ≤ 362)
  | .mgmtCheck q => q.ok
  | .mgmtPitch q ident _ _ sec ns => q.ok && decide (ident < 2 ^ 32) && decide (sec < 2 ^ 64) && decide (ns < 2 ^ 30)
  | .mgmtDiscard q => q.ok
  | .mgmtStatus q => q.ok
  | .mgmtSubscribe q _ mask => q.ok && decide (mask < 2 ^ 64)
  | .mgmtLog q first _ => q.ok && decide (first < 2 ^ 64)
  | .mgmtWindow q _ _ _ data _ => q.ok && decide (data.length ≤ 362)
  | .mgmtFlash q _ ofs bytes => q.ok && decide (ofs < 2 ^ 32) && decide (bytes.length ≤ 1472)
  | .mgmtSafe q => q.ok
  | .mgmtWarmReset q => q.ok
  | .subscriptionLapse _ => true
  | .eventStreamSend _ => true
  | .caskFetch _ _ => true
  | .caskWrite _ => true
  | .evqRdWrite _ _ => true
  | .extest cells => decide (cells < 2 ^ 1486)
  | .idcode => true
  | .samplePreload balls cells => decide (balls < 2 ^ 1486) && decide (cells < 2 ^ 1486)
  | .clamp => true
  | .highz => true
  | .extestPulse cells => decide (cells < 2 ^ 1486)
  | .extestTrain cells => decide (cells < 2 ^ 1486)
  | .bypass => true
  | .regAccess _ _ _ => true
  | .testEnFall => true
  | .tstLaneGenWrite _ _ _ => true
  | .tstLaneChkWrite _ _ _ => true
  | .tstLaneLoopWrite _ _ _ => true
  | .tstErrorInject _ _ => true
  | .tstChkClear _ _ => true
  | .checkerSync _ => true
  | .checkerSyncLoss _ _ => true
  | .yzTestSend _ => true
  | .yzTestMsgRx _ _ => true
  | .tstBistCmd _ _ _ => true
  | .tstGvCmd _ _ _ => true
  | .tstTestDone _ _ _ => true
  | .chkDecTestDone _ _ => true
  | .cmpPipeTestDone _ _ => true
  | .kettleUnitTestDone _ _ => true
  | .bundleLaneLoss _ _ => true
  | .resetPinRelease _ => true
  | .testEnRise => true
  | .tioPulseEnd _ => true
  | .mgmtCrcFail => true
  | .mgmtArpNdEcho _ => true
  | .leaseClaimTimeout => true
  | .bootBistDone _ _ _ => true
  | .reservedEncoding _ => true

end Sys2Proof
end

