-- ==== Sys2Proof/Tests/Slice0.lean ====
section
/-! SUPPORT. Tests: ill-formed commands, worked examples of the manual, and for every clause of every obligation that has hypotheses a
state and operands that meet them all (the theorems `wit_…`, one conjunct for each such clause in the clauses' order). -/

namespace Sys2Proof.Tests
open Sys2Proof Sys2Proof.Machine
-- One evaluation at a time: all of them at once need more stacks than the check grants.
set_option Elab.async false

/-! ### Ill-formed terms, one for each check of WellFormed -/

/-- A request header in its widths, and headers each out of one of them. -/
def hdr : Req := ⟨.mgmt, 1, 1, 2, 1, 0, 0, 0, true, 64⟩
theorem test_wf_header : hdr.ok = true ∧ { hdr with port := .hcp }.ok = false ∧ { hdr with alive := 256 }.ok = false ∧
    { hdr with tag := 2 ^ 32 }.ok = false ∧ { hdr with version := 65536 }.ok = false ∧ { hdr with kind := 4 }.ok = false ∧
    { hdr with dst := 4096 }.ok = false := by decide
theorem test_wf_addresses : addrOk .hcp 0x3FFFFC = true ∧ addrOk .hcp 0x400000 = false ∧ addrOk .jtag 2 = false ∧
    addrOk .mgmt (2 ^ 32) = false ∧ (Instr.stageWrite .hcp 2 0).wf = false ∧ (Instr.registerWrite .jtag 0x400000 0).wf = false ∧
    (Instr.rcRead .yz (2 ^ 32)).wf = false ∧ (Instr.controlParityError .hcp 0x400000 true true).wf = false := by decide
theorem test_wf_packets : (Instr.rtcpNackRx 0 [65536] []).wf = false ∧ (Instr.rtcpByeRx 0 (2 ^ 32) 8 []).wf = false ∧
    (Instr.aesCsBlockRx 0 0 [] (List.replicate 24 0) true).wf = false ∧ (Instr.aesCsBlockRx 0 0 (List.replicate 24 0) [0] true).wf = false ∧
    (Instr.flitRx 0 [0]).wf = false ∧ (Instr.capabilityRx 0 (List.replicate 117 0)).wf = false ∧
    (Instr.yzUdpRx 0 0 (2 ^ 128) 0 0 0 []).wf = false ∧
    (Instr.yzUdpRx 0 0 0 (2 ^ 32) 0 0 []).wf = false ∧ (Instr.yzUdpRx 0 0 0 0 (2 ^ 32) 0 []).wf = false ∧
    (Instr.dramWrite .window 0 60 [0, 0, 0, 0, 0] false).wf = false := by decide
theorem test_wf_groups : (Instr.heartbeatRx 0 true 65536 1).wf = false ∧ (Instr.heartbeatRx 0 true 0 0).wf = false ∧
    (Instr.memberDead 0 0).wf = false ∧ (Instr.groupStageCheck 0 0 [] []).wf = false ∧ (Instr.groupStageCheck 1 (2 ^ 32) [] []).wf = false ∧
    (Instr.groupCommit (2 ^ 32) 0 0).wf = false ∧ (Instr.groupCommit 0 (2 ^ 32) 0).wf = false := by decide
theorem test_wf_requests : (Instr.mgmtRead hdr (2 ^ 32) 1).wf = false ∧ (Instr.mgmtRead hdr 0 65536).wf = false ∧
    (Instr.mgmtWrite hdr (2 ^ 32) []).wf = false ∧ (Instr.mgmtWrite hdr 0 (List.replicate 363 0)).wf = false ∧
    (Instr.mgmtStageRecord hdr 0 0 (List.replicate 363 0)).wf = false ∧ (Instr.mgmtPitch hdr (2 ^ 32) 0 0 0 0).wf = false ∧
    (Instr.mgmtPitch hdr 0 0 0 (2 ^ 64) 0).wf = false ∧ (Instr.mgmtPitch hdr 0 0 0 0 (2 ^ 30)).wf = false ∧
    (Instr.mgmtSubscribe hdr true (2 ^ 64)).wf = false ∧ (Instr.mgmtLog hdr (2 ^ 64) 0).wf = false ∧
    (Instr.mgmtWindow hdr .brg 0 0 (List.replicate 363 0) false).wf = false ∧ (Instr.mgmtFlash hdr 0 (2 ^ 32) []).wf = false ∧
    (Instr.mgmtFlash hdr 0 0 (List.replicate 1473 0)).wf = false := by decide +kernel
theorem test_wf_request_headers : let bad := { hdr with kind := 4 }
    (Instr.mgmtRead bad 0 1).wf = false ∧ (Instr.mgmtWrite bad 0 []).wf = false ∧ (Instr.mgmtStageRecord bad 0 0 []).wf = false ∧
    (Instr.mgmtCheck bad).wf = false ∧ (Instr.mgmtPitch bad 0 0 0 0 0).wf = false ∧ (Instr.mgmtDiscard bad).wf = false ∧
    (Instr.mgmtStatus bad).wf = false ∧ (Instr.mgmtSubscribe bad true 0).wf = false ∧ (Instr.mgmtLog bad 0 0).wf = false ∧
    (Instr.mgmtWindow bad .brg 0 0 [] false).wf = false ∧ (Instr.mgmtFlash bad 0 0 []).wf = false ∧ (Instr.mgmtSafe bad).wf = false ∧
    (Instr.mgmtWarmReset bad).wf = false := by decide
theorem test_wf_cells : (Instr.extest (2 ^ 1486)).wf = false ∧ (Instr.samplePreload (2 ^ 1486) 0).wf = false ∧
    (Instr.samplePreload 0 (2 ^ 1486)).wf = false ∧ (Instr.extestPulse (2 ^ 1486)).wf = false ∧
    (Instr.extestTrain (2 ^ 1486)).wf = false ∧ (Instr.extest (2 ^ 1486 - 1)).wf = true := by decide +kernel

/-- The table gives no bits, so no word spells a command. -/
theorem test_no_word : decodeTableWord 32 5 = none := by decide

/-! ### Small states -/

/-- The next state of an outcome. -/
def nx (o : Host.Outcome State Fault Refusal) : State := match o with | .next s => s | _ => State.reset
/-- Fields with values over a state. -/
def up (l : List (FRef × Nat)) (s : State) : State := l.foldl (fun s e => s.put e.1 e.2) s
/-- A device in RUN with start-up complete; the HCP has MAINTAIN. -/
def b1 : State := up [(CFG_BOOT_STAT_STEP, 15), (PWR_MODE_CUR, 2)] { State.reset with boot := { Boot.zero with porHeld := false, cold := false }, phy := { State.reset.phy with idle := [] } }
def at' (us : Nat) (s : State) : State := { s with tb := { s.tb with raw := us * usU } }
/-- Channel `n`: 1920 × 1080 at 60 Hz, HEVC, a delay of 50 ms, running since slot 0. -/
def vid (n : Nat) (f : Chan → Chan) (s : State) : State :=
  (up [(ENC_CH_CTRL_EN n, 1), (ENC_CH_CTRL_MODE n, 0), (ENC_CH_FMT_RATE n, 7), (ENC_CH_SIZE_HEIGHT n, 1080), (ENC_CH_SIZE_WIDTH n, 1920),
    (ENC_CH_REND_SIZE_WIDTH n 0, 1920), (ENC_CH_REND_SIZE_HEIGHT n 0, 1080), (ENC_CH_REND_CODEC_CODEC n 0, 1),
    (ENC_CH_DELAY_D_NS n, 50000000), (ENC_CH_RC_RATE_TARGET n 0, 80), (ENC_CH_RC_RATE_MAX n 0, 120),
    (ENC_CH_RC_BUF_SIZE n 0, 8000), (ENC_CH_RC_BUF_INIT n 0, 500), (ENC_CH_RC_MODE_QP_MAX n 0, 40)] s).setChan n
    (f { Chan.zero with run := true })
/-- A slot of it. -/
def sl (k : Nat) (r : SlotRec) (c : Chan) : Chan := c.setSlot k r
/-- A picture with budget and 17 units of which some are given. -/
def pic0 (us : List UnitRec) : RPic :=
  { q := 0, ord := 0, refs := [], tuns := [9], chk := [], gmv := ((0, 0), (0, 0)), media := 100, intra := false, rap := false, shape := 0, layer := 0,
    cplx := 100, budgeted := true, budget := 100000, hdr := 100, fill := 0, units := us ++ List.replicate (17 - us.length) UnitRec.zero,
    done := false, released := false, sent := 0, part := false, rerun := false, repRows := false, was := (0, false) }
/-- A record with fields (offset, bytes, value). -/
def rec' (ty i : Nat) (l : List (Nat × Nat × Nat)) (s : State) : State :=
  s.setRecTab ty (tput (s.recTab ty) i (l.foldl (fun w e => rput w e.1 e.2.1 e.2.2) (List.replicate (recWords ty) 0)))
/-- The engine's state of a flow. -/
def fx' (f : Nat) (x : FlowX) (s : State) : State := s.setFx f x
/-- Leg 2 with flows 8 and 9: 8 sends from source 5 with feedback at 1,000 kb/s between 100 and 5,000. -/
def leg2 (s : State) : State :=
  rec' 3 2 [(0, 1, 1), (8, 4, 8), (12, 1, 2)] (rec' 0 8 [(0, 1, 1), (1, 1, 1), (3, 1, 32), (4, 4, 2), (0x0A, 1, 255), (0x35, 1, 1),
    (0x3C, 4, 5), (0x100, 4, 1000), (0x104, 4, 500), (0x108, 4, 100), (0x10C, 4, 5000)] s)
def au0 : AuInfo :=
  { media := 90000, rap := true, gradual := none, par := ⟨0, 0, 0, 8, false⟩, layers := [⟨0, 1280, 720, false, false⟩], tid := 0, rasl := false,
    bytes := 1000, ctu := 64, oneSlice := true, plain := true, prevRef := true }
def pkt0 : RtpPkt :=
  { frame := 200, hdrOk := true, mac := 1, raddr := 2, laddr := 3, rport := 4, lport := 5, ssrc := 6, b0 := 128, b1 := 96, seq := 7, ts := 8,
    marker := false, sid := 0, tid := 0, rap := false, swT := false, swS := false, auStart := true, authOk := true, gyle := none, len := 100,
    au := au0, words := [], data := [], hdr := 12, bad := [] }
/-- Receive flow 5 that `pkt0` matches. -/
def flow5 (s : State) : State :=
  rec' 0 5 [(0, 1, 1), (4, 4, 0xFFFFFFFF), (0x0A, 1, 1), (0x0C, 4, 6), (0x10, 16, 2), (0x20, 16, 3), (0x30, 2, 4), (0x32, 2, 5)] s
/-- Decode context 7 runs on core 3, fed by flow 5. -/
def ctx7 (x : DecX) (s : State) : State :=
  (rec' 1 7 [(0, 1, 3), (2, 1, 3), (3, 1, 1), (4, 4, 5), (8, 2, 1280), (10, 2, 720), (12, 1, 30)] s).setDx 7 x
def lay0 (h : Nat) : Layout := ⟨0x1000, 640, h, 0, 0, none, []⟩
/-- A port that is locked and has started. -/
def apt' (p : Nat) (f : AptX → AptX) (s : State) : State := s.setApt p (f { AptX.zero with locked := true, started := true })
def zLoud : SlotZ := { SlotZ.zero with silent := false, want := false }
/-- Words of kettle instructions (R308 to R325). -/
def eAlu (op s d a b : Nat) : Nat := 2 ^ 28 + s * 2 ^ 27 + op * 2 ^ 22 + d * 2 ^ 17 + a * 2 ^ 12 + b * 2 ^ 6
def eAluI (op s d a imm : Nat) : Nat := 2 ^ 28 + s * 2 ^ 27 + op * 2 ^ 22 + d * 2 ^ 17 + a * 2 ^ 12 + 2 ^ 11 + imm
def eFp (op s d a b : Nat) : Nat := 2 * 2 ^ 28 + s * 2 ^ 27 + op * 2 ^ 23 + d * 2 ^ 18 + a * 2 ^ 13 + b * 2 ^ 8
def eMac (s n c d a b : Nat) : Nat := 3 * 2 ^ 28 + s * 2 ^ 27 + n * 2 ^ 25 + c * 2 ^ 24 + d * 2 ^ 19 + a * 2 ^ 14 + b * 2 ^ 9
def eMacM (s n c d x px y py : Nat) : Nat :=
  3 * 2 ^ 28 + s * 2 ^ 27 + 2 ^ 26 + n * 2 ^ 25 + c * 2 ^ 24 + d * 2 ^ 19 + x * 2 ^ 15 + px * 2 ^ 14 + y * 2 ^ 10 + py * 2 ^ 9
def eLs (st bus am d a disp : Nat) : Nat := 4 * 2 ^ 28 + st * 2 ^ 27 + bus * 2 ^ 26 + am * 2 ^ 24 + d * 2 ^ 19 + a * 2 ^ 15 + disp
def eMov (op rd v : Nat) : Nat := 5 * 2 ^ 28 + op * 2 ^ 24 + rd * 2 ^ 16 + v
def eSrch (t m ix dm di ds a : Nat) : Nat :=
  7 * 2 ^ 28 + t * 2 ^ 27 + m * 2 ^ 26 + ix * 2 ^ 24 + dm * 2 ^ 19 + di * 2 ^ 14 + ds * 2 ^ 9 + a * 2 ^ 5
def eSrchM (t m ix dm di bus a pm : Nat) : Nat :=
  7 * 2 ^ 28 + t * 2 ^ 27 + m * 2 ^ 26 + 2 ^ 25 + ix * 2 ^ 24 + dm * 2 ^ 19 + di * 2 ^ 14 + bus * 2 ^ 13 + a * 2 ^ 9 + pm * 2 ^ 8
def ePar (st d a pm st2 d2 a2 pm2 : Nat) : Nat :=
  15 * 2 ^ 28 + (2 ^ 13 + st * 2 ^ 12 + d * 2 ^ 7 + a * 8 + pm * 4) * 2 ^ 14 + (2 ^ 13 + st2 * 2 ^ 12 + d2 * 2 ^ 7 + a2 * 8 + pm2 * 4)
/-- Core 95 and its pair run these words from P address `pc` on; registers and the rest of the core as given. -/
def kp (pc : Nat) (ws : List Nat) (regs : List (Nat × W32)) (f : KCore → KCore) (s : State) : State :=
  { s with ket := { s.ket with
      p := (List.range ws.length).zip ws |>.map (fun x => (94 * 65536 + pc + x.1, BitVec.ofNat 32 x.2))
      cores := [(94, f { KCore.zero with st := 2, pc := pc, pos := 100, regs := regs })] } }

/-- Channel 3 of core pair 94 has a descriptor at X address 0xFFF0: 8 bytes from X address 0 to word 3 of shared memory 11. -/
def dma95 : State :=
  let x : Tab W32 := [(94 * 65536 + 0xFFF1, 0x26000000), (94 * 65536 + 0xFFF2, 12), (94 * 65536 + 0xFFF3, 0x10000000),
    (94 * 65536 + 0xFFF4, 8), (94 * 65536 + 0xFFF5, 0x30001), (94 * 65536, 11), (94 * 65536 + 1, 12)]
  { b1 with ket := { b1.ket with x := x.foldl (fun t e => tset (fun _ => 0) t e.1 e.2) [], cores := [(94, { KCore.zero with dma := [(3, ⟨0xFFF0, false⟩)] })] } }
/-- PTP on MAC 3 from master 9, LOCKED, at one second, with a mean path delay of 100 ns. -/
def ptp (f : Tb → Tb) (s : State) : State :=
  let s := up [(TB_CTRL_SRC, 1), (TB_PTP_CFG_MAC, 3), (TB_PTP_CFG_DOMAIN, 0), (TB_STAT_MASTER, 1), (TB_STAT_STATE, 3)] s
  { s with tb := f { s.tb with raw := 1000000000 * nsU, master := 9, masterKey := 9, mpdWin := [100], annIntNs := 1000000000 } }
def usr (l : List (FRef × Nat)) (t : Int) (n : Nat) : State :=
  at' 1000 (up ([(TB_TRIG_NS_TIME n, t.toNat)] ++ l) b1)
/-- `up` where a variable has that name. -/
def ups (l : List (FRef × Nat)) (s : State) : State := up l s
/-- MAC 9 on lanes 18 and 19 (quad 4) at SPEED 3 with a bring-up in a step; quad 4 enabled. -/
def mac9 (step an pll : Nat) (s : State) : State :=
  (up [(LNK_QUAD_CFG_EN 4, 1), (LNK_QUAD_CFG_PROTO 4, 0), (LNK_QUAD_STAT_PLL_LOCK 4, pll), (LNK_MAC_CFG_EN 9, 1), (LNK_MAC_CFG_LANES 9, 1),
    (LNK_MAC_CFG_FIRST_LANE 9, 18), (LNK_MAC_CFG_SPEED 9, 3), (LNK_MAC_CFG_AN 9, an), (LNK_LANE_STAT_RATE 18, 6), (LNK_LANE_STAT_RATE 19, 6)] s).setLink 9
    { LinkX.zero with step := step, rate := 6 }
/-- A flit: header fields, payload, CRC-32C. -/
def flitB (typ vc sop eop seq ack nak crdVc crd : Nat) (pl : List Byte) : List Byte :=
  let b := leBytes 8 (typ * 2 ^ 61 + vc * 2 ^ 58 + sop * 2 ^ 57 + eop * 2 ^ 56 + seq * 2 ^ 44 + ack * 2 ^ 32 + nak * 2 ^ 31 +
    crdVc * 2 ^ 28 + crd * 2 ^ 16 + pl.length * 2 ^ 9) ++ pl ++ List.replicate (116 - pl.length) 0
  b ++ leBytes 4 (crc32c b).toNat
/-- Port 15 in a state. -/
def port15 (up' st : Nat) (f : YzPort → YzPort) (s : State) : State :=
  (up [(YZ_PORT_STAT_UP 15, up'), (YZ_PORT_STAT_STATE 15, st)] s).setYzp 15 (f YzPort.zero)
def capB (major addr rates width : Nat) : List Byte :=
  leBytes 5 0 ++ leBytes 1 major ++ leBytes 2 addr ++ leBytes 2 rates ++ leBytes 1 width ++ leBytes 1 0 ++
    (List.range 8).flatMap (fun v => leBytes 2 (4090 + 2 * v)) ++ List.replicate 88 0
def msgB (dst kind src typ hops alive : Nat) (body : List Byte) : List Byte := msgBytes 1 ⟨dst, kind, src, typ, hops, alive, 0⟩ body
/-- A member of a pair with a role, at 10 s, gyle 4, highest gyle seen 5. -/
def twin (role : Nat) (f : Rdn → Rdn) (s : State) : State :=
  let s := at' 10000000 (up [(RDN_CFG_MODE, 1), (RDN_CFG_ARB, 1), (RDN_STAT_ROLE, role), (RDN_GYLE_LO_VALUE, 4), (RDN_GYLE_SEEN_LO_VALUE, 5)] s)
  { s with rdn := f s.rdn, cask := { s.cask with gyle := 4, gyleSeen := 5 } }
def rr (q : Nat) (a b : Bool) (i : RackItem) : RackRec := ⟨q, a, b, 5, i⟩
def us (n : Nat) : Nat := n * usU
/-- DRAM with two 64 Gb ranks per channel and 2 GiB of each channel global; channel 0 in service. -/
def drm (l : List (FRef × Nat)) (s : State) : State :=
  at' 1000 (up ([(DRM_CH_CFG_EN 0, 1), (DRM_CH_CFG_RANKS 0, 1), (DRM_CH_CFG_DENSITY 0, 4), (DRM_MAP_GLOBAL_GIB, 2),
    (DRM_CH_STAT_STATE 0, 3), (DRM_CH_PWR_PD_EN 0, 1)] ++ l) s)
def chd (f : DrCh → DrCh) (s : State) : State := s.setDrc 0 (f DrCh.zero)
def mon (l : List (FRef × Nat)) (f : Clk → Clk) (s : State) : State :=
  let s := at' 1000000 (up l s)
  { s with clk := f s.clk }
def rated (r : Int) (s : State) : State := { s with tb := { s.tb with rate := r } }
def zmax : List (FRef × Nat) := (List.range 16).flatMap (fun z =>
  [(THM_ZONE_LIM_B_HOT_CRIT z, 105), (THM_ZONE_LIM_A_HOT_THROTTLE z, 95), (THM_ZONE_LIM_A_HOT_WARN z, 85)])
def img (gen : Nat) (ok : Bool) : Img :=
  { header := true, gen := gen, types := [(1, true), (4, true), (8, true)], layout := true, crcs := ok, signed := true, sigOk := true,
    mem := [4, 1, 1, 3, 15, 2], bootRegs := [(CLK_TRIM_CFG, 3)], auth := [4, 3, 5, 0, 4], service := [(ENC_CH_CTRL 0, 1)], recs := [], kerns := [] }
/-- The steep bank and the queue of pitches. -/
def bank (f : Stage → Stage) (s : State) : State := at' 1000000 { s with stage := f s.stage }
def pit (ident seq : Nat) (f : Pitch → Pitch) : Pitch := f { Pitch.blank with ident := ident, seq := seq, instant := 1000000000 }
/-- A request of one operation at the management port, whose class is 4 in `m4`. -/
def rq : Req := ⟨.mgmt, 5, 9, 7, 1, 0, 0, 0, true, 100⟩
def m4 (s : State) : State := at' 1000000 { s with boot := { s.boot with noImage := false, auth := [4, 4, 5, 0, 4] } }
def snp (s : State) : State := { s with ctl := { s.ctl with frozen := some ⟨[(CFG_BOOT_STAT, 3)], s.evq, s.stage, s.tb⟩, frozenRaw := s.raw } }
def frec (q : Nat) : FaultRec := ⟨1, 2, 3, 4, 5, 6, 7, 8, 0, 0, 11, q, none⟩
def row (a : Nat) : RegRow := (regRow a).getD ⟨0, [], 0, []⟩
/-- TEST_EN high, a mode. -/
def tap (m : Nat) (s : State) : State := up [(SYS_STAT_TEST_EN, 1), (PWR_MODE_CUR, m)] s
/-- Quad 15 enabled and locked. -/
def q15 (l : List (FRef × Nat)) (s : State) : State :=
  at' 1000000 (up ([(LNK_QUAD_CFG_EN 15, 1), (LNK_QUAD_STAT_PLL_LOCK 15, 1)] ++ l) s)
def tstS (f : Tst → Tst) (s : State) : State := { s with tst := f s.tst }
/-- Forwarding on, flow 5 resident, with more fields; send flow 9 on leg 4 from it, an audio flow. -/
def fwd5 (l : List (Nat × Nat × Nat)) (f : FlowX → FlowX) (s : State) : State :=
  let s := flow5 (up [(FWD_CFG_EN, 1), (BRG_CFG_EN, 1)] s)
  let w := l.foldl (fun w e => rput w e.1 e.2.1 e.2.2) (s.record 0 5)
  (s.setRecTab 0 (tput (s.recTab 0) 5 (rput w 0x3C 4 0xFFFFFFFF))).setFx 5 (f { FlowX.zero with resident := true })
def send9 (l : Nat) (s : State) : State :=
  (rec' 0 9 [(0, 1, 1), (1, 1, 1), (2, 1, 1), (4, 4, l), (0x0A, 1, 255), (0x3C, 4, 5), (0xC0, 2, 3), (0xC4, 4, 0xFFFFFFFF), (0xC8, 8, 70000)] s).setFx 9
    { FlowX.zero with prevSrc := some 5, resident := true }
/-- Context 7 with a DRAM window, in populated DRAM. -/
def ctxW (x : DecX) (s : State) : State :=
  (rec' 1 7 [(0, 1, 3), (2, 1, 3), (3, 1, 1), (4, 4, 5), (8, 2, 1280), (10, 2, 720), (12, 1, 30), (0x10, 8, 0x1000), (0x18, 8, 0x9000000)] s).setDx 7 x
def lp0 : LayerPic := ⟨0, 1280, 720, false, false⟩
def res0 : DecRes := ⟨0x2000, 0x4000, [], true, false, false, none, [], [(0x4000, [1, 2])], []⟩
/-- A composition of a width of 8 in strip 0. -/
def cmp0 (h : Nat) (f : Comp → Comp) : Comp :=
  f ⟨⟨0x1000, 8, h, 0, 0, none, []⟩, [], int18Desc 0x100000 8 h 0 8 0 0 0 0, [], 0, false, [], false, false⟩
/-- Port 15 on lanes 60 and 61 (quad 15), in its bring-up; the quad's zone is warm. -/
def prt (pll : Nat) (f : LinkX → LinkX) (s : State) : State :=
  (up [(LNK_QUAD_CFG_EN 15, 1), (LNK_QUAD_CFG_PROTO 15, 1), (LNK_QUAD_STAT_PLL_LOCK 15, pll), (YZ_PORT_CFG_EN 15, 1), (YZ_PORT_CFG_WIDTH 15, 1),
    (YZ_PORT_STAT_STATE 15, 1), (YZ_PORT_STAT_WIDTH 15, 1), (LNK_LANE_STAT_RATE 60, 2), (LNK_LANE_STAT_RATE 61, 2), (LNK_LANE_STAT_CDR_LOCK 60, 1),
    (LNK_LANE_STAT_CDR_LOCK 61, 1), (THM_ZONE_STAT_T_COLD 9, 40)] s).setLink 31 (f LinkX.zero)
def msgV (vc dst src typ hops alive : Nat) (body : List Byte) : List Byte := msgBytes vc ⟨dst, 0, src, typ, hops, alive, 0⟩ body
/-- The encapsulation on MAC 3, port 4000, with peer entry 63. -/
def peer63 (x : UdpX) (s : State) : State :=
  (up [(YZ_UDP_CFG_EN, 1), (YZ_UDP_CFG_MAC, 3), (YZ_UDP_CFG_PORT, 4000), (YZ_PEER_CTRL_VALID 63, 1), (YZ_PEER_IP0_ADDR 63, 77)] s).setUdpx 63 1 x

/-! ### Worked examples of the manual -/

/-- Words of the FIR kernel (chapter 13, worked example). -/
theorem test_decode_movei : decK 0x514001E0 0 = some (.mov 1 0x40 480, 1) ∧ decK 0x51201000 0 = some (.mov 1 0x20 0x1000, 1) := by decide +kernel
theorem test_decode_loop_rep : decK 0x62000006 0 = some (.loop 0 6, 1) ∧ decK 0x6000003F 0 = some (.repI 63, 1) := by decide +kernel
theorem test_decode_fmac : decK 0x35006200 0 = some (.macm false false true 0 0 true 8 true, 1) ∧
    decK 0x34006200 0 = some (.macm false false false 0 0 true 8 true, 1) := by decide +kernel
theorem test_decode_ld_st : decK 0x43F87FC1 0 = some (.ls false 0 3 31 0 (-63), 1) ∧
    decK 0x4D048000 0 = some (.ls true 1 1 0 9 0, 1) := by decide +kernel
theorem test_decode_maxi_rti : decK 0x7308B500 0 = some (.srchM false false true 1 2 1 10 true, 1) ∧
    decK 0x04000000 0 = some (.rti, 1) := by decide +kernel

/-- The check values of R466 over "123456789". -/
theorem test_check_values : (crc32c (chkString.map (fun b => BitVec.ofNat 8 b))) = 0xE3069283 ∧
    chkResult 1 0 0 0 (chkFeed 1 0 0 0 (chkStart 1 0 0 0) chkString) = 0xCBF43926 ∧
    chkResult 2 0 0 0 (chkFeed 2 0 0 0 (chkStart 2 0 0 0) chkString) = 0x29B1 ∧
    chkResult 3 0 0 0 (chkFeed 3 0 0 0 (chkStart 3 0 0 0) chkString) = 0xF4 := by decide +kernel
/-- The Internet checksum saved and resumed (chapter 20, worked example). -/
theorem test_checksum_resumed : chkFeed 5 0 0 0 0 (chkString.take 8) = 0xD0D4 ∧ chkFeed 5 0 0 0 0xD0D4 [0x39] = 0x0139D0D4 ∧
    chkResult 5 0 0 0 0x0139D0D4 = 0xF62A := by decide +kernel

/-- The translated byte of chapter 21: two ranks of 64 Gb, GLOBAL_GIB = 2, address 0x80_0003_1A40. -/
theorem test_xlate : ((up [(DRM_CH_CFG_EN 0, 1), (DRM_CH_CFG_RANKS 0, 1), (DRM_CH_CFG_DENSITY 0, 4), (DRM_MAP_GLOBAL_GIB, 2)] State.reset).xlate
    0x8000031A40) = some (1, 12884912704) ∧ rawOf 12884912704 = 0x36DB70B80 := by decide +kernel

/-- The event record of chapter 26 (slot 904). -/
theorem test_event_words : (List.range 8).map (EvRec.word ⟨0x1001, 2, 42, 1750000000, 402166667, 3⟩) =
    [0x00021001, 0x0000002A, 0x684EE180, 0, 0x17F8938B, 3, 0, 0] := by decide +kernel

/-- The growing estimate of chapter 10: 1,080 to 1,166, 1,259 and 1,359 kb/s. -/
theorem test_estimate_grows : bweStep 1080 100 5000 ⟨116600, 0, 10, some 0⟩ 0 0 0 = 1166 ∧
    bweStep 1166 100 5000 ⟨125900, 0, 10, some 0⟩ 0 0 0 = 1259 ∧ bweStep 1259 100 5000 ⟨135900, 0, 10, some 0⟩ 0 0 0 = 1359 := by decide +kernel

/-- Session 40 of chapter 11: costs in kc, and the score −33.0 of leg 150. -/
theorem test_mix_costs : 380 * (decKc 0 false + 2) + 20 * (decKc 1 false + 2) + 6 * (encKc 0 false + 5) = 10710 ∧
    f32Int (-33) = 0xC2040000 := by decide +kernel

/-- The picture that runs out (chapter 5): X(0), units 6 to 9, and F(k + 1). -/
theorem test_budget_runs_out : rcX (100000 - 704) [] (List.replicate 17 672) = 87872 ∧
    rcUnit false 56859 672 6 10 = (672 + 21322, 43316, false) ∧ rcUnit false 14215 672 6 9 = (672 + 5686, 12044, false) ∧
    rcUnit false 2843 672 6 8 = (672 + 1218, 3108, false) ∧ rcUnit false 407 672 6 7 = (0, 672, true) := by decide +kernel
theorem test_fullness : rcNext 0 120 1 12000000 3000000 98313 (1500000 * 120) = 1501687 * 120 := by decide +kernel

/-- Channel 0 of chapters 2 and 3: VVC at 7680 × 4320, 120 fps, Balanced, MARGIN 4, with its 2160-line rung. -/
def ch8k : State := up [(ENC_CH_CTRL_EN 0, 1), (ENC_CH_CTRL_MARGIN 0, 4), (ENC_CH_FMT_RATE 0, 10), (ENC_CH_REND_SIZE_WIDTH 0 0, 7680),
  (ENC_CH_REND_SIZE_HEIGHT 0 0, 4320), (ENC_CH_REND_CODEC_CODEC 0 0, 2), (ENC_CH_REND_CODEC_EFFORT 0 0, 1),
  (ENC_CH_REND_SIZE_WIDTH 0 1, 3840), (ENC_CH_REND_SIZE_HEIGHT 0 1, 2160), (ENC_CH_REND_CODEC_EFFORT 0 1, 1), (ENC_CH_REND_CODEC_CODEC 0 1, 1),
  (ENC_CH_REND_CODEC_REUSE 0 1, 1)] State.reset
theorem test_cost_and_shares : ch8k.npartAuto 0 0 = 8 ∧ ch8k.share16 0 0 = 7963 ∧ ch8k.npartAuto 0 1 = 2 ∧ ch8k.share16 0 1 = 4778 := by decide +kernel
/-- t_row is 2.080 ms for rows 0 to 32 and 1.570 ms for row 33 (chapter 2). -/
theorem test_row_times : ch8k.tRow 0 0 = 2080 * usU ∧ ch8k.tRow 0 33 = 1570 * usU := by decide +kernel

/-- SKEW of the lanes of chapter 16: 7.2 ns at 28.125 GBd and at 1.25 GBd. -/
theorem test_skew : skewSymbols 7200 7 = 203 ∧ skewSymbols 7200 1 = 9 := by decide +kernel

/-- The zone full of broadcast work (chapter 23). -/
theorem test_rest_bounds : restBound 8192 7963 = 0 ∧ restBound 8192 7698 = 0 ∧ restBound 8192 4778 = 3 := by decide +kernel

/-- Ten seconds on lane 20 (chapter 28), and the ring word of frame 1000 (chapter 14). -/
theorem test_checker_bits : lineKb 8 * 1000 * 10 = 1062500000000 ∧ 1062500000000 = 247 * 2 ^ 32 + 1643077888 := by decide +kernel
theorem test_ring_word : (up [(APT_PORT_LEN_RX_LEN 0, 1536)] State.reset).rxWord 0 12000 = 16 + 1248 := by decide +kernel
/-- The start offsets of R132. -/
theorem test_start_offsets : (List.range 9).map startOfs = [3, 3, 3, 2, 2, 2, 1, 1, 0] := by decide +kernel

/-! ### The ball map: the counts of R598 and the places that R599 to R601 name -/

/-- How many balls of rows `r` on and columns `c` on, `nr` by `nc` of them, are of a kind. -/
def ballCount (r nr c nc : Nat) (b : Ball) : Nat := ((List.range (nr * nc)).filter (fun i => decide (ball (r + i / nc) (c + i % nc) = b))).length
theorem test_balls_lanes : ballCount 1 10 1 76 .vddaSd = 112 ∧ ballCount 1 10 1 76 .vss = 346 := by decide +kernel
theorem test_balls_dram : ballCount 11 66 1 12 .dramSupply = 60 + 84 + 192 ∧ ballCount 11 66 65 12 .dramSupply = 60 + 84 + 192 ∧
    ball 14 3 = .ca 0 0 ∧ ball 11 76 = .dq 12 0 := by decide +kernel
theorem test_balls_control : ballCount 67 10 13 52 .vss = 285 ∧ ballCount 67 10 13 52 .vddIo = 60 ∧
    ball 68 62 = .coreSense true := by decide +kernel
/-- Two rows of the core region, of 28 such pairs. -/
theorem test_balls_core : ballCount 11 2 13 52 .vddCore * 28 = 1120 ∧ ballCount 11 2 13 52 .vddSram * 28 = 336 ∧
    ballCount 11 2 13 52 .vss * 28 = 1456 := by decide +kernel

/-! ### Folds that the kernel does not unfold -/

/-- Folding a function that leaves a state alone leaves it alone. -/
theorem foldl_fix {α : Type} (f : State → α → State) (s : State) (l : List α) (h : ∀ x ∈ l, f s x = s) : l.foldl f s = s := by
  induction l with
  | nil => rfl
  | cons a l ih => rw [List.foldl_cons, h a List.mem_cons_self]; exact ih (fun x hx => h x (List.mem_cons_of_mem a hx))

/-- The assignment of R75 with no rendition. -/
def noAsg : Asg := ⟨List.replicate 40 0, List.replicate 40 0, List.replicate 40 0, [], [], []⟩

/-- The registers after one tun's part of it. -/
def tunRegs (s : State) (t : Nat) : Tab W32 :=
  let s := (s.put (ENC_TUN_LOAD_LOAD t) 0).put (ENC_TUN_MAP_VALID t) 0
  ((s.put (ENC_TUN_MAP_REND_MASK t) 0).put (ENC_TUN_MAP_CHANNEL t) 0).regs
theorem getD_zeros (n t : Nat) : (List.replicate n 0).getD t 0 = 0 := by
  by_cases h : t < n <;> simp [List.getD, h]
theorem putTun_fix (s : State) (t : Nat) (h : tunRegs s t = s.regs) : s.putTun noAsg t = s := by
  have e : s.putTun noAsg t = { s with regs := tunRegs s t } := by
    unfold State.putTun
    simp only [noAsg, getD_zeros, if_true]
    rfl
  rw [e, h]
/-- The registers after one rendition's part of it. -/
def rendRegs (s : State) (n k : Nat) : Tab W32 :=
  let t := s.ownRegs n
  let s := (s.put (ENC_CH_REND_TUNS_LO_TUNS n k) 0).put (ENC_CH_REND_TUNS_HI_TUNS n k) 0
  let s := s.put (ENC_CH_REND_TUNS_HI_NPART_USED n k) (if t.rendOn n k then t.npart n k else 0)
  (s.put (ENC_CH_REND_COST_COST n k) (if t.rendOn n k then t.cost16 n k else 0)).regs
theorem putRend_fix (s : State) (n k : Nat) (h : rendRegs s n k = s.regs) : s.putRend noAsg n k = s := by
  have e : s.putRend noAsg n k = { s with regs := rendRegs s n k } := by
    unfold State.putRend
    simp only [noAsg, tfind, Option.getD_none, ne_eq, not_true_eq_false, false_and, and_false, if_false]
    rfl
  rw [e, h]
theorem millLoad_fix (s : State) (m v : Nat) (h : (s.put (ENC_MILL_STAT_LOAD m) v).regs = s.regs) : s.put (ENC_MILL_STAT_LOAD m) v = s := by
  have e : s.put (ENC_MILL_STAT_LOAD m) v = { s with regs := (s.put (ENC_MILL_STAT_LOAD m) v).regs } := rfl
  rw [e, h]

/-- A state in which the assignment of R75 is in force: running it again changes nothing. -/
theorem runAssign_fix (s : State) (h0 : s.assign = noAsg) (h1 : ∀ t ∈ List.range 40, tunRegs s t = s.regs)
    (hs : s.enc.short = [])
    (h2 : ∀ n ∈ List.range 16, ∀ k ∈ List.range 12, rendRegs s n k = s.regs) (h3 : noAsg.place = s.enc.place)
    (h5 : ∀ m ∈ List.range 2, (s.put (ENC_MILL_STAT_LOAD m) (s.millLoad noAsg m)).regs = s.regs)
    (h6 : s.poolStat.runChkPlace.placeLive = s) : s.runAssign = s := by
  have h4 : noAsg.sides = [] := rfl
  have h7 : noAsg.missing = [] := rfl
  have h8 : { s with enc := { s.enc with place := s.enc.place, short := [] } } = s := by rw [← hs]
  have e1 := foldl_fix (fun s' t => s'.putTun noAsg t) s (List.range 40) (fun t ht => putTun_fix s t (h1 t ht))
  have e2 := foldl_fix (fun s' n => (List.range 12).foldl (fun s'' k => s''.putRend noAsg n k) s') s (List.range 16)
    (fun n hn => foldl_fix (fun s' k => s'.putRend noAsg n k) s (List.range 12) (fun k hk => putRend_fix s n k (h2 n hn k hk)))
  have e5 := foldl_fix (fun s' m => s'.put (ENC_MILL_STAT_LOAD m) (s'.millLoad noAsg m)) s (List.range 2) (fun m hm => millLoad_fix s m _ (h5 m hm))
  simp only [State.runAssign, h0, e1, e2, h3, h4, h7, h8, List.foldl_nil, e5, h6]

/-- `b1` with the decode pool's count in force. -/
def b2 : State := at' 1000000 (b1.wr 0x118000 0x50002800)
/-- The same with another staging state. -/
def b2s (st : Stage) : State := { b2 with stage := st }

theorem b2_tuns : ∀ t ∈ List.range 40, tunRegs b2 t = b2.regs := by decide +kernel
theorem b2_rends : ∀ n ∈ List.range 16, ∀ k ∈ List.range 12, rendRegs b2 n k = b2.regs := by decide +kernel
theorem b2_mills : ∀ m ∈ List.range 2, (b2.put (ENC_MILL_STAT_LOAD m) (b2.millLoad noAsg m)).regs = b2.regs := by decide +kernel
/-- The staging state has no part in it. -/
theorem b2s_fix (st : Stage) (h0 : (b2s st).assign = noAsg) (h3 : noAsg.place = (b2s st).enc.place)
    (h6 : (b2s st).poolStat.runChkPlace.placeLive = b2s st) : (b2s st).runAssign = b2s st :=
  runAssign_fix (b2s st) h0 b2_tuns rfl b2_rends h3 b2_mills h6
theorem b2_gravity : b2.gravity = none := by
  have e : b2.projected = b2 := b2s_fix b2.stage (by decide +kernel) (by decide +kernel) (by decide +kernel)
  rw [State.gravity, e]; decide +kernel

/-- The same with a check that runs. -/
def bankChk : State := b2s { b2.stage with checking := true }
theorem bankChk_gravity : bankChk.gravity = none := by
  have e : bankChk.projected = b2s { b2.stage with checking := true } := by
    unfold State.projected
    refine (congrArg State.runAssign ?_).trans (b2s_fix _ (by decide +kernel) (by decide +kernel) (by decide +kernel))
    decide +kernel
  rw [State.gravity, e]; decide +kernel

/-- A pitch whose records cannot land, and one that writes the reset value of a register of the pair. -/
def pitBad : Pitch := pit 1 2 (fun p => { p with records := [⟨8, 8192, []⟩] })
def bankBad : State := b2s { b2.stage with pitches := [pitBad] }
theorem bankBad_fix : ((bankBad.landWrites pitBad.writes).runAssign) = bankBad :=
  have w : bankBad.landWrites pitBad.writes = b2s { b2.stage with pitches := [pitBad] } := by decide +kernel
  (congrArg State.runAssign w).trans (b2s_fix _ (by decide +kernel) (by decide +kernel) (by decide +kernel))
theorem bankBad_placement : bankBad.placementOk pitBad = false := by rw [State.placementOk, bankBad_fix]; decide +kernel
theorem bankBad_admit : ((bankBad.landWrites pitBad.writes).runAssign).admitFails pitBad.records = false := by
  rw [bankBad_fix]; decide +kernel
def pitGood : Pitch := pit 1 2 (fun p => { p with writes := [(RDN_CFG2, 0x040A0A0A)], late := true })
def bankGood : State := b2s { b2.stage with pitches := [pitGood] }
theorem bankGood_placement : bankGood.placementOk pitGood = true := by
  have w : bankGood.landWrites pitGood.writes = b2s { b2.stage with pitches := [pitGood] } := by decide +kernel
  rw [State.placementOk, w, b2s_fix _ (by decide +kernel) (by decide +kernel) (by decide +kernel)]; decide +kernel
/-- A pitch that does not fit behind one that waits for a boundary, and one for the decode pool. -/
def pitWait : Pitch := pit 7 1 (fun p => { p with checked := true, waiting := [3] })
def bankTwo : State := b2s { b2.stage with pitches := [pitWait, pitBad] }
theorem bankTwo_placement : bankTwo.placementOk pitBad = false := by
  have w : bankTwo.landWrites pitBad.writes = b2s { b2.stage with pitches := [pitWait, pitBad] } := by decide +kernel
  rw [State.placementOk, w, b2s_fix _ (by decide +kernel) (by decide +kernel) (by decide +kernel)]; decide +kernel
def pitPart : Pitch := pit 1 2 (fun p => { p with writes := [(DEC_POOL_CFG, b2.rd DEC_POOL_CFG)] })
def bankPart : State := b2s { b2.stage with pitches := [pitPart] }
theorem bankPart_placement : bankPart.placementOk pitPart = true := by
  have w : bankPart.landWrites pitPart.writes = b2s { b2.stage with pitches := [pitPart] } := by decide +kernel
  rw [State.placementOk, w, b2s_fix _ (by decide +kernel) (by decide +kernel) (by decide +kernel)]; decide +kernel

/-! ### The hypotheses of the obligations can be met -/

theorem wit_LiveInput :
    (∃ (s : State) (n : Fin 16) (path : Fin 2) (ext : Nat) (cap : Int) (lines : List (Nat × Nat × List Byte)) (d : Int), (s.chan n).run = true ∧
      s.InKept n path ext 0 ∧ (s.chan n).pathSil.getD path false = false ∧ s.slotOk n (s.slotOf n cap) = true ∧
      ((s.chan n).slot (s.slotOf n cap)).cap = none ∧ ((s.chan n).slot (s.slotOf n cap)).decided = 0 ∧
      d * (65536 * ((s.asOf n (s.slotOf n cap)).chRate n).1 : Nat) ≤ s.capOffset n (s.slotOf n cap) cap ∧
      s.capOffset n (s.slotOf n cap) cap < (d + 1) * (65536 * ((s.asOf n (s.slotOf n cap)).chRate n).1 : Nat)) ∧
    (∃ (s : State) (n : Fin 16) (path : Fin 2) (ext : Nat) (i : Nat) (cap : Int) (x : Nat × List (List Int) × Bool), (s.chan n).run = true ∧
      s.InKept n path ext (1 + i) ∧ (s.chan n).pathSil.getD path false = false ∧ i < s.fld (AUD_BC_IN_NSTREAMS n)) ∧
    (∃ (s : State) (n : Fin 16) (path : Fin 2) (ext : Nat) (i : Nat) (cap : Int) (pkts : List (Nat × Nat × List Byte)), (s.chan n).run = true ∧
      s.InKept n path ext (9 + i) ∧ (s.chan n).pathSil.getD path false = false ∧ i < 2 ∧ s.slotOk n (s.slotOf n cap) = true ∧
      (s.chan n).released ≤ s.slotOf n cap) ∧
    (∃ (s : State) (n : Fin 16) (path : Fin 2) (ext : Nat) (cap : Int) (data : LiveIn), (s.chan n).run = true ∧ s.bit (ENC_CH_IN_PATH_DUAL n) = true ∧
      (s.chan n).pathSil.getD path false = false ∧ skewed ((s.chan n).seenOf data.stream) s.raw (s.fld (ENC_CH_IN_PATH_SKEW_US n)) path ext = true) ∧
    (∃ (s : State) (n : Fin 16) (path : Fin 2) (ext : Nat) (cap : Int) (data : LiveIn), (s.chan n).run = true ∧ s.bit (ENC_CH_IN_PATH_DUAL n) = true ∧
      (s.chan n).pathSil.getD path false = false ∧ skewed ((s.chan n).seenOf data.stream) s.raw (s.fld (ENC_CH_IN_PATH_SKEW_US n)) path ext = false ∧
      ((s.chan n).seenOf data.stream).any (fun x => x.1 == ext) = true) ∧
    (∃ (s : State) (n : Fin 16) (path : Fin 2), (s.chan n).run = true ∧ (s.chan n).pathSil.getD path false = false ∧
      (path.val = 0 ∨ s.bit (ENC_CH_IN_PATH_DUAL n) = true) ∧ s.raw ≥ (s.chan n).pathRaw.getD path 0 + 10 * msU) ∧
    (∃ (s : State) (n : Fin 16) (k : Nat) (r : Nat), s.slotOk n k = true ∧ nbit ((s.chan n).slot k).decided r = false ∧ s.rowFull n k r = true) :=
  ⟨⟨at' 50000 (vid 0 id b1), 0, 0, 17, 50001500, [(0, 960, [1, 2]), (1, 480, []), (0, 960, [3]), (1080, 3, [9])], 1500, by decide +kernel,
      by unfold State.InKept; decide +kernel, by decide +kernel, by decide +kernel, by decide +kernel, by decide +kernel, by decide +kernel,
      by decide +kernel⟩,
   ⟨at' 50000 (up [(AUD_BC_IN_NSTREAMS 0, 1)] (vid 0 id b1)), 0, 0, 3, 0, 0, (480, [[1, -2]], true), by decide +kernel,
      by unfold State.InKept; decide +kernel, by decide +kernel, by decide +kernel⟩,
   ⟨at' 50000 (vid 0 id b1), 0, 0, 0, 1, 50001500, [(0x61, 1, [5, 6])], by decide +kernel, by unfold State.InKept; decide +kernel, by decide +kernel,
      by decide +kernel, by decide +kernel, by decide +kernel⟩,
   ⟨at' 50000 (up [(ENC_CH_IN_PATH_DUAL 15, 1), (ENC_CH_IN_PATH_SKEW_US 15, 10)] (vid 15 (fun c => { c with seen := [(0, [(6, 49000 * usU, 0)])] }) b1)),
      15, 1, 5, 0, .video [(0, 9, [])], by decide +kernel⟩,
   ⟨at' 50000 (up [(ENC_CH_IN_PATH_DUAL 15, 1), (ENC_CH_IN_PATH_SKEW_US 15, 2000)] (vid 15 (fun c => { c with seen := [(0, [(6, 49900 * usU, 0)])] }) b1)),
      15, 1, 6, 0, .video [(0, 9, [])], by decide +kernel⟩,
   ⟨at' 10000 (vid 3 id b1), 3, 0, by decide +kernel⟩,
   ⟨vid 2 (sl 4 { SlotRec.zero with lines := (List.range 1080).map (fun l => (l, 1920)) }) b1, 2, 4, 16, by decide +kernel⟩⟩

theorem wit_ArrivalClasses :
    (∃ (s : State) (n : Fin 16) (k : Nat) (r : Nat) (cut : Bool), s.slotOk n k = true ∧ s.isStandby = false ∧ s.chMode n = 0 ∧ 0 < r ∧
      r < (s.asOf n k).nRows n 0 ∧ s.RowDue n k r cut ∧ ((s.chan n).slot k).isCls = false ∧ nbit ((s.chan n).slot k).decided r = false ∧
      nbit ((s.chan n).slot k).done r = true ∧ s.lacksTun n k r = false ∧ nset ((s.chan n).slot k).decided r ≠ 2 ^ (s.asOf n k).nRows n 0 - 1) ∧
    (∃ (s : State) (n : Fin 16) (k : Nat) (r : Nat) (cut : Bool), s.slotOk n k = true ∧ s.isStandby = false ∧ s.chMode n = 0 ∧ 0 < r ∧
      r < (s.asOf n k).nRows n 0 ∧ s.RowDue n k r cut ∧ ((s.chan n).slot k).isCls = false ∧ nbit ((s.chan n).slot k).decided r = false ∧
      nbit ((s.chan n).slot k).done r = false ∧ nset ((s.chan n).slot k).decided r ≠ 2 ^ (s.asOf n k).nRows n 0 - 1) ∧
    (∃ (s : State) (n : Fin 16) (k : Nat) (cut : Bool), s.slotOk n k = true ∧ s.isStandby = false ∧ s.chMode n = 0 ∧ 0 < (s.asOf n k).nRows n 0 ∧
      s.RowDue n k 0 cut ∧ ((s.chan n).slot k).isCls = false ∧ nbit ((s.chan n).slot k).decided 0 = false ∧ nbit ((s.chan n).slot k).done 0 = false) :=
  ⟨⟨at' 70000 (vid 0 (sl 0 { SlotRec.zero with done := 0x1ff }) { b1 with enc := { b1.enc with place := [(0, [3])] } }), 0, 0, 5, false,
      by decide +kernel, by decide +kernel, by decide +kernel, by decide +kernel, by decide +kernel, by unfold State.RowDue; decide +kernel,
      by decide +kernel, by decide +kernel, by decide +kernel, by decide +kernel, by decide +kernel⟩,
   ⟨at' 70000 (vid 0 (sl 0 { SlotRec.zero with done := 0x1f }) (up [(RDN_CFG_MODE, 1)] { b1 with enc := { b1.enc with place := [(0, [3])] } })), 0, 0, 5,
      true, by decide +kernel, by decide +kernel, by decide +kernel, by decide +kernel, by decide +kernel, by unfold State.RowDue; decide +kernel,
      by decide +kernel, by decide +kernel, by decide +kernel, by decide +kernel⟩,
   ⟨at' 70000 (vid 0 (sl 0 { SlotRec.zero with done := 0x1fe }) { b1 with enc := { b1.enc with place := [(0, [3])] } }), 0, 0, false, by decide +kernel,
      by decide +kernel, by decide +kernel, by decide +kernel, by unfold State.RowDue; decide +kernel, by decide +kernel, by decide +kernel,
      by decide +kernel⟩⟩

theorem wit_LivePictures :
    (∃ (s : State) (n : Fin 16) (k : Nat), s.chMode n ≠ 0 ∧ s.slotOk n k = true ∧ ((s.planGroup n).chan n).nextCoded = k ∧
      (∀ i, i ≤ s.lookL n → (s.planGroup n).slotKnown n (k + i) = true)) ∧
    (∃ (s : State) (n : Fin 16) (k : Nat) (rend : Fin 12) (u : Nat) (p : RPic) (a : Area), (s.chan n).pic k rend = some p ∧
      ((s.asOf n k).units n rend)[u]? = some a ∧ (p.units.getD u UnitRec.zero).phase = .waiting ∧
      s.unitReady n k rend u p a (p.units.getD u UnitRec.zero) = true ∧ (p.shape = 0 → s.badInput n k = none ∧ s.badRef n rend p = none)) ∧
    (∃ (s : State) (n : Fin 16) (k : Nat) (rend : Fin 12) (u : Nat) (ovh : Nat) (blocks : List BlkIn) (samples : List Int) (p : RPic) (a : Area),
      (s.chan n).pic k rend = some p ∧ ((s.asOf n k).units n rend)[u]? = some a ∧ u < p.units.length ∧ (p.units.getD u UnitRec.zero).phase = .coding ∧
      s.filterReady n k rend u p a = true ∧ s.wppReady n k rend u a.x1 p = true ∧ s.tunFenced (p.units.getD u UnitRec.zero).tun = false ∧
      s.blockRuns (p.units.getD u UnitRec.zero).tun = true ∧ s.bit (ENC_TUN_WIN_STAT_PREFILL (p.units.getD u UnitRec.zero).tun) = false) :=
  ⟨⟨up [(ENC_CH_CTRL_MODE 0, 1)] (vid 0 (fun c => sl 1 { SlotRec.zero with isCls := true } { c with grpStart := 1, grpLen := 1 }) b1), 0, 1,
      by decide +kernel⟩,
   ⟨vid 0 (fun c => (sl 1 { SlotRec.zero with done := 1, mill := { MillRec.zero with rows := [(0, [])] } } c).setPic 1 0 (pic0 [])) { b1 with enc := { b1.enc with place := [(0, [3])] } },
      0, 1, 0, 0, pic0 [], ⟨0, 0, 1920, 0, 64⟩, by decide +kernel⟩,
   ⟨vid 0 (fun c => c.setPic 1 0 (pic0 [{ UnitRec.zero with phase := .coding, tun := 9, cap := 700 }])) { b1 with enc := { b1.enc with place := [(0, [9])] } },
      0, 1, 0, 0, 100, [⟨300, 10, [], none⟩, ⟨500, 12, [], none⟩], [1, 2], pic0 [{ UnitRec.zero with phase := .coding, tun := 9, cap := 700 }],
      ⟨0, 0, 1920, 0, 64⟩, by decide +kernel⟩⟩

theorem wit_LiveEgress :
    (∃ (s : State) (n : Fin 16) (k : Nat) (rend : Fin 12) (bytes : Nat) (last : Bool) (p : RPic), (s.chan n).pic k rend = some p ∧
      s.sendReady n k rend p = true ∧ s.isStandby = false ∧ (s.chan n).stop = none ∧
      (∀ f, f ∈ s.livePaths n k rend → s.FlowSends f (s.liveExt ((s.asOf n k).fld (ENC_CH_OUT_FLOW_FLOW n rend))))) ∧
    (∃ (s : State) (n : Fin 16) (k : Nat) (rend : Fin 12) (bytes : Nat) (last : Bool) (p : RPic), (s.chan n).pic k rend = some p ∧
      s.sendReady n k rend p = true ∧ (s.chan n).stop = none) ∧
    (∃ (s : State) (n : Fin 16) (first : Nat), s.bit (AUD_BC_CTRL_EN n) = true ∧ (s.chan n).run = true ∧ s.bcDue n first = true ∧
      (s.chan n).bcNext ≤ first ∧ first % s.bcLen n = 0 ∧
      (s.fld (AUD_BC_CTRL_OUT n) ≠ 2 → s.fld (AUD_BC_OUT_STREAMS n) ≤ 8 ∧ ∀ q, q < s.fld (AUD_BC_OUT_STREAMS n) → ∀ o, o ∈ s.bcPaths n → s.FlowSends (s.fld (AUD_BC_FLOW_FLOW n) + q + o) (s.bcExt n q))) ∧
    (∃ (s : State) (p : Port) (n : Fin 16) (v : W32), Taken s p (ENC_CH_HINT n) v) ∧
    (∃ (s : State) (n : Fin 64) (mix : List MixIn), n.val < 32 ∧ s.trigDue n = true ∧ s.bit BRG_CFG_EN = false ∧
      (∀ q, q < 16 → ¬ (s.bit (CMP_PIPE_CFG_EN q) = true ∧ s.fld (CMP_PIPE_CFG_TRIGGER q) = n.val)) ∧
      (¬ (s.bit AUD_CFG_EN = true ∧ s.fld AUD_CFG_TRIGGER = n.val)) ∧ (∀ k, k < 12 → s.bit (DSP_KET_STAT_LOADED k) = false) ∧
      (¬ (s.bit PWR_WAKE_TRIG_EN = true ∧ s.fld PWR_WAKE_TRIGGER = n.val))) ∧
    (∃ (s : State) (n : Fin 64) (mix : List MixIn), n.val < 32 ∧ s.trigDue n = true ∧ s.bit BRG_CFG_EN = false ∧
      (∀ q, q < 16 → ¬ (s.bit (CMP_PIPE_CFG_EN q) = true ∧ s.fld (CMP_PIPE_CFG_TRIGGER q) = n.val)) ∧ s.bit AUD_CFG_EN = true ∧
      s.fld AUD_CFG_TRIGGER = n.val ∧ s.NoPart 21 ∧ s.aud.pack = false ∧ (∀ k, k < 12 → s.bit (DSP_KET_STAT_LOADED k) = false) ∧
      (¬ (s.bit PWR_WAKE_TRIG_EN = true ∧ s.fld PWR_WAKE_TRIGGER = n.val))) ∧
    (∃ (s : State) (n : Fin 64) (mix : List MixIn) (q : Nat), n.val < 32 ∧ s.trigDue n = true ∧ s.bit BRG_CFG_EN = false ∧ q < 16 ∧
      (∀ r, r < 16 → r ≠ q → ¬ (s.bit (CMP_PIPE_CFG_EN r) = true ∧ s.fld (CMP_PIPE_CFG_TRIGGER r) = n.val)) ∧
      (¬ (s.bit AUD_CFG_EN = true ∧ s.fld AUD_CFG_TRIGGER = n.val)) ∧ (∀ k, k < 12 → s.bit (DSP_KET_STAT_LOADED k) = false) ∧
      (¬ (s.bit PWR_WAKE_TRIG_EN = true ∧ s.fld PWR_WAKE_TRIGGER = n.val)) ∧ s.bit (CMP_PIPE_CFG_EN q) = true ∧ s.fld (CMP_PIPE_CFG_TRIGGER q) = n.val ∧
      s.NoPart (40 + q) ∧ s.pipeFenced q = false ∧ (s.comp q).run = none ∧ ((s.fetchLayout (s.compLayout q)).isSome = true ∨ (s.comp q).good.isSome = true)) ∧
    (∃ (s : State) (n : Fin 16) (m : Fin 64) (mix : List MixIn), m.val = 32 + 2 * n.val ∧ (s.chan n).run = true ∧ s.trigDue m = true ∧ s.NoPart (1 + n)) ∧
    (∃ (s : State) (n : Fin 16) (m : Fin 64) (mix : List MixIn), m.val = 33 + 2 * n.val ∧ (s.chan n).run = true ∧ s.trigDue m = true ∧
      (s.chan n).stop = none) :=
  ⟨⟨vid 0 (fun c => c.setPic 1 0 { pic0 [{ UnitRec.zero with phase := .coded }] with released := true }) (up [(LNK_MAC_STAT_LINK 0, 1)] b1), 0, 1, 0,
      1400, false, { pic0 [{ UnitRec.zero with phase := .coded }] with released := true }, by decide +kernel, by decide +kernel, by decide +kernel,
      by decide +kernel, by unfold State.FlowSends; decide +kernel⟩,
   ⟨vid 0 (fun c => c.setPic 1 0 { pic0 [{ UnitRec.zero with phase := .coded }] with released := true }) b1, 0, 1, 0, 1400, false,
      { pic0 [{ UnitRec.zero with phase := .coded }] with released := true }, by decide +kernel⟩,
   ⟨at' 50000 (up [(LNK_MAC_STAT_LINK 0, 1), (AUD_BC_CTRL_EN 0, 1), (AUD_BC_OUT_STREAMS 0, 1), (AUD_BC_OUT_CH_PER_STREAM 0, 1)] (vid 0 id b1)), 0, 0,
      by decide +kernel, by decide +kernel, by decide +kernel, by decide +kernel, by decide +kernel, by unfold State.FlowSends; decide +kernel⟩,
   ⟨vid 7 id b1, .hcp, 7, 0xFFFFFFFF, by unfold Taken; decide +kernel⟩,
   ⟨at' 100 (up [(TB_TIO_CFG_OUT 3, 1), (TB_TIO_CFG_TRIGGER 3, 31)] { b1 with tb := { b1.tb with trigs := [(31, { Trig.zero with armed := true, periodic := true, perNs := 5, time := 3 })] } }),
      31, [], by decide +kernel⟩,
   ⟨at' 100 (up [(AUD_CFG_EN, 1), (AUD_CFG_TRIGGER, 31)] { b1 with tb := { b1.tb with trigs := [(31, { Trig.zero with armed := true, periodic := true, perNs := 5, time := 3 })] } }),
      31, [], by decide +kernel, by decide +kernel, by decide +kernel, by decide +kernel, by decide +kernel, by decide +kernel,
      by unfold State.NoPart; decide +kernel, by decide +kernel, by decide +kernel, by decide +kernel⟩,
   ⟨at' 100 (up [(CMP_PIPE_CFG_EN 5, 1), (CMP_PIPE_CFG_TRIGGER 5, 31)] { b1 with tb := { b1.tb with trigs := [(31, { Trig.zero with armed := true, periodic := true, perNs := 5, time := 3 })] }, brg := { b1.brg with comps := [(5, { CompX.zero with good := some (lay0 16) })] } }),
      31, [], 5, by decide +kernel, by decide +kernel, by decide +kernel, by decide +kernel, by decide +kernel, by decide +kernel, by decide +kernel,
      by decide +kernel, by decide +kernel, by decide +kernel, by unfold State.NoPart; decide +kernel, by decide +kernel, by decide +kernel,
      by decide +kernel⟩,
   ⟨at' 70000 (vid 3 id b1), 3, 38, [], by decide +kernel, by decide +kernel, by decide +kernel, by unfold State.NoPart; decide +kernel⟩,
   ⟨at' 70000 (vid 3 id b1), 3, 39, [], by decide +kernel⟩⟩

theorem wit_TunFencing :
    (∃ (s : State) (p : Port) (t : Fin 40) (v : W32), Taken s p (ENC_TUN_CTRL t) v ∧ fieldGet v 0 1 = 1 ∧ s.tunFenced t = false) ∧
    (∃ (s : State) (p : Port) (t : Fin 40) (v : W32), Taken s p (ENC_TUN_CTRL t) v ∧ fieldGet v 1 1 = 1 ∧ s.tunFenced t = true) ∧
    (∃ (s : State) (t : Fin 40), s.bit (ENC_TUN_CTRL_UNFENCE t) = true) ∧
    (∃ (s : State) (t : Fin 40) (i : Nat), s.bit (ENC_TUN_CTRL_UNFENCE t) = true) ∧
    (∃ (s : State) (t : Fin 40) (i : Nat), s.bit (ENC_TUN_CTRL_UNFENCE t) = false ∧ s.tunFenced t = false) :=
  ⟨⟨up [(ENC_TUN_STAT_BUSY 39, 1), (ENC_TUN_MAP_VALID 39, 1), (ENC_TUN_STAT_REST 39, 3)] b1, .hcp, 39, 3, by unfold Taken; decide +kernel,
      by decide +kernel, by decide +kernel⟩,
   ⟨up [(ENC_TUN_STAT_FENCED 7, 1)] b1, .hcp, 7, 2, by unfold Taken; decide +kernel, by decide +kernel, by decide +kernel⟩,
   ⟨up [(ENC_TUN_STAT_FENCED 7, 1), (ENC_TUN_CTRL_UNFENCE 7, 1)] b1, 7, by decide +kernel⟩,
   ⟨up [(ENC_TUN_STAT_FENCED 7, 1), (ENC_TUN_CTRL_UNFENCE 7, 1)] b1, 7, 4095, by decide +kernel⟩,
   ⟨up [(ENC_TUN_STAT_REST 7, 1)] b1, 7, 4095, by decide +kernel⟩⟩

theorem wit_MillAndWindow :
    (∃ (s : State) (n : Fin 16) (k : Nat) (g : Nat) (l0 : List Nat) (l1 : List Nat) (l2 : List Nat) (l3 : List Nat), (s.chan n).run = true ∧
      s.blockRuns (40 + (s.chan n).side.getD 0) = true ∧ 4 * g + 4 ≤ s.fld (ENC_CH_SIZE_HEIGHT n) ∧
      (∀ i, i < 4 → s.fld (ENC_CH_SIZE_WIDTH n) ≤ tget (fun _ => 0) ((s.chan n).slot k).lines (4 * g + i))) ∧
    (∃ (s : State) (n : Fin 16) (k : Nat) (r : Nat) (r' : Nat), s.searchReady n k r = true ∧ r' < (s.asOf n k).nRows n 0 ∧ r' ≠ r ∧
      tfind ((s.chan n).slot k).mill.rows r' = none ∧ nbit ((s.chan n).slot k).late r' = false) ∧
    (∃ (s : State) (t : Fin 40) (corrected : Nat) (n : Nat) (k : Nat) (rend : Nat) (u : Nat) (l : List (Nat × Nat × Nat × Nat)) (p : RPic) (a : Area),
      s.tunFenced t = false ∧ s.inFlight t = (n, k, rend, u) :: l ∧ (s.chan n).pic k rend = some p ∧ ((s.asOf n k).units n rend)[u]? = some a ∧
      s.bit (ENC_TUN_WIN_STAT_PREFILL t) = false ∧ (p.units.getD u UnitRec.zero).prog + 1 < ceilDiv (a.x1 - a.x0) (searchSide ((s.asOf n k).codec n rend)) ∧
      s.wppReady n k rend u ((p.units.getD u UnitRec.zero).prog + 1) p = true) ∧
    (∃ (s : State) (t : Fin 40) (corrected : Nat) (poison : Bool), s.tunFenced t = false ∧ s.inFlight t ≠ []) ∧
    (∃ (s : State) (t : Fin 40) (corrected : Nat) (n : Nat) (k : Nat) (rend : Nat) (u : Nat) (l : List (Nat × Nat × Nat × Nat)), s.tunFenced t = false ∧
      s.inFlight t = (n, k, rend, u) :: l) ∧
    (∃ (s : State) (t : Fin 40), s.bit (ENC_TUN_WIN_STAT_PREFILL t) = true) :=
  ⟨⟨vid 0 (sl 3 { SlotRec.zero with lines := (List.range 1080).map (fun l => (l, 1920)) }) b1, 0, 3, 269, [1, 2, 3, 4], [5, 6, 7, 8], [9, 10, 11, 12],
      [13, 14, 15, 17], by decide +kernel⟩,
   ⟨vid 0 (sl 0 { SlotRec.zero with done := 1, mill := { MillRec.zero with copy := (List.range 16).map (fun g => (g, [g, 2 * g])) } }) b1, 0, 0, 0, 16,
      by decide +kernel⟩,
   ⟨vid 0 (fun c => c.setPic 1 0 (pic0 [{ UnitRec.zero with phase := .coding, tun := 4, cap := 700, prog := 3 }])) b1, 4, 2, 0, 1, 0, 0, [],
      pic0 [{ UnitRec.zero with phase := .coding, tun := 4, cap := 700, prog := 3 }], ⟨0, 0, 1920, 0, 64⟩, by decide +kernel⟩,
   ⟨vid 0 (fun c => c.setPic 1 0 (pic0 [{ UnitRec.zero with phase := .coding, tun := 4, cap := 700 }])) b1, 4, 2, false, by decide +kernel⟩,
   ⟨vid 0 (fun c => c.setPic 1 0 (pic0 [{ UnitRec.zero with phase := .coding, tun := 4, cap := 700 }])) b1, 4, 2, 0, 1, 0, 0, [], by decide +kernel⟩,
   ⟨up [(ENC_TUN_WIN_STAT_PREFILL 4, 1)] (vid 0 (fun c => c.setPic 1 0 (pic0 [{ UnitRec.zero with phase := .coding, tun := 4, cap := 700 }])) b1), 4,
      by decide +kernel⟩⟩

theorem wit_CheckDecoding :
    (∃ (s : State) (n : Fin 16) (k : Nat) (rend : Fin 12) (u : Nat) (d : Nat) (p : RPic) (v : List Int), (s.chan n).pic k rend = some p ∧
      s.ChkNext n k rend u d p ∧ (unitCrc (depthOf ((s.asOf n k).fld (ENC_CH_REND_CODEC_DEPTH n rend))) v).toNat = (p.units.getD u UnitRec.zero).crc ∧
      p.rerun = false) ∧
    (∃ (s : State) (n : Fin 16) (k : Nat) (rend : Fin 12) (u : Nat) (d : Nat) (p : RPic) (v : List Int), (s.chan n).pic k rend = some p ∧
      s.ChkNext n k rend u d p ∧ (unitCrc (depthOf ((s.asOf n k).fld (ENC_CH_REND_CODEC_DEPTH n rend))) v).toNat = (p.units.getD u UnitRec.zero).crc ∧
      p.rerun = true ∧ (∀ w, w < p.units.length → w ≠ u → (p.units.getD w UnitRec.zero).verified = true)) ∧
    (∃ (s : State) (n : Fin 16) (k : Nat) (rend : Fin 12) (u : Nat) (d : Nat) (p : RPic) (r : Option (List Int)), (s.chan n).pic k rend = some p ∧
      s.ChkNext n k rend u d p ∧ d < 8 ∧
      (∀ v, r = some v → (unitCrc (depthOf ((s.asOf n k).fld (ENC_CH_REND_CODEC_DEPTH n rend))) v).toNat ≠ (p.units.getD u UnitRec.zero).crc) ∧
      (p.units.getD u UnitRec.zero).tun < 40 ∧ s.tunFenced (p.units.getD u UnitRec.zero).tun = false) ∧
    (∃ (s : State) (o : Nat) (t : Nat) (u : Nat) (crc : Nat) (v : List Int), (unitCrc 8 v).toNat = crc) ∧
    (∃ (s : State) (o : Nat) (t : Nat) (u : Nat) (crc : Nat) (d : Nat) (r : Option (List Int)), t < 40 ∧ s.chkBridge = some d ∧ s.recState 4 o ≠ 0 ∧
      s.enc.brgUnchk.contains o = false ∧ (∀ v, r = some v → (unitCrc 8 v).toNat ≠ crc) ∧ s.tunFenced t = false) ∧
    (∃ (s : State) (d : Fin 8), s.chkFenced d = false) ∧
    (∃ (s : State) (p : Port) (d : Fin 8) (v : W32), Taken s p (DEC_CHK_CTRL d) v ∧ fieldGet v 0 1 = 1 ∧ s.chkFenced d = false) ∧
    (∃ (s : State) (p : Port) (d : Fin 8) (v : W32), Taken s p (DEC_CHK_CTRL d) v ∧ fieldGet v 1 1 = 1 ∧ s.chkFenced d = true) ∧
    (∃ (s : State) (d : Fin 8), s.bit (DEC_CHK_CTRL_UNFENCE d) = true) ∧
    (∃ (s : State) (d : Fin 8), s.bit (DEC_CHK_CTRL_UNFENCE d) = true) :=
  ⟨⟨vid 0 (fun c => c.setPic 1 0 ({ pic0 [{ UnitRec.zero with phase := .coded, tun := 9, cap := 700, crc := (unitCrc 8 [3, -4]).toNat }] with chk := [5] })) b1,
      0, 1, 0, 0, 5, { pic0 [{ UnitRec.zero with phase := .coded, tun := 9, cap := 700, crc := (unitCrc 8 [3, -4]).toNat }] with chk := [5] }, [3, -4],
      by decide +kernel, by unfold State.ChkNext; decide +kernel, by decide +kernel, by decide +kernel⟩,
   ⟨vid 0 (fun c => c.setPic 1 0 ({ pic0 ({ UnitRec.zero with phase := .coded, tun := 9, cap := 700, crc := (unitCrc 8 [3, -4]).toNat } :: List.replicate 16 { UnitRec.zero with phase := .coded, verified := true }) with chk := [5], rerun := true })) b1,
      0, 1, 0, 0, 5,
      { pic0 ({ UnitRec.zero with phase := .coded, tun := 9, cap := 700, crc := (unitCrc 8 [3, -4]).toNat } :: List.replicate 16 { UnitRec.zero with phase := .coded, verified := true }) with chk := [5], rerun := true },
      [3, -4], by decide +kernel, by unfold State.ChkNext; decide +kernel, by decide +kernel, by decide +kernel, by decide +kernel⟩,
   ⟨vid 0 (fun c => c.setPic 1 0 ({ pic0 [{ UnitRec.zero with phase := .coded, tun := 39, cap := 700, crc := 5 }] with chk := [7] })) b1, 0, 1, 0, 0, 7,
      { pic0 [{ UnitRec.zero with phase := .coded, tun := 39, cap := 700, crc := 5 }] with chk := [7] }, none, by decide +kernel,
      by unfold State.ChkNext; decide +kernel, by decide +kernel, by decide +kernel, by decide +kernel, by decide +kernel⟩,
   ⟨b1, 3, 2, 1, (unitCrc 8 [3, -4]).toNat, [3, -4], by decide +kernel⟩,
   ⟨rec' 4 3 [(0, 1, 1)] b1, 3, 2, 1, 5, 0, none, by decide +kernel⟩,
   ⟨b1, 7, by decide +kernel⟩,
   ⟨b1, .hcp, 7, 1, by unfold Taken; decide +kernel, by decide +kernel, by decide +kernel⟩,
   ⟨up [(DEC_CHK_STAT_FENCED 2, 1)] b1, .hcp, 2, 2, by unfold Taken; decide +kernel, by decide +kernel, by decide +kernel⟩,
   ⟨up [(DEC_CHK_STAT_FENCED 2, 1), (DEC_CHK_CTRL_UNFENCE 2, 1)] b1, 2, by decide +kernel⟩,
   ⟨up [(DEC_CHK_STAT_FENCED 2, 1), (DEC_CHK_CTRL_UNFENCE 2, 1)] b1, 2, by decide +kernel⟩⟩

theorem wit_ContextCache :
    (∃ (s : State) (p : RtpPkt) (f : Nat) (e : Nat) (gap : Nat), s.RtpOk p f ∧ (s.fx f).resident = true ∧ s.recState 0 f = 1 ∧ s.flag f 0 = false ∧
      s.ff f 0x36 1 = 0 ∧ seqCase (s.fresh0 f) (s.ff f 0xC8 8) (s.fx f).probe p.seq = .order e gap ∧ (s.record 0 f).length = 128) ∧
    (∃ (s : State) (p : RtpPkt) (f : Nat) (g : Nat) (e : Nat), s.RtpOk p f ∧ (s.fx f).resident = true ∧ s.recState 0 f = 1 ∧ s.flag f 0 = false ∧
      s.ff f 0x36 1 = 0 ∧ seqCase (s.fresh0 f) (s.ff f 0xC8 8) (s.fx f).probe p.seq = .order e 0 ∧ s.ff f 0x3C 4 ≥ 8192 ∧ s.targets f = [g] ∧
      (s.fx g).resident = true ∧ s.recState 0 g = 1 ∧ s.isVideo g = false ∧ (s.fx g).prevSrc = some f ∧ f < 2097152 ∧ (s.fx g).withheld = 0 ∧
      s.flag g 0 = false ∧ s.flag g 2 = false ∧ s.isActive = false ∧ s.egressOk false = true ∧ s.flowUp g = true ∧ s.flowLeg g = none ∧ s.sendFlows g = [] ∧
      p.bad.contains g = false ∧ g ≠ f) ∧
    (∃ (s : State) (p : RtpPkt) (f : Nat), s.RtpOk p f ∧ (s.fx f).resident = false) ∧
    (∃ (s : State) (f : Fin 2097152), (s.brg.fetches.take 64).contains f.val = true ∧ (s.fx f).waiting = []) ∧
    (∃ (s : State) (f : Fin 2097152) (w : List W32), (s.brg.fetches.take 64).contains f.val = true ∧ tfind s.brg.flows f = some w ∧ w.length = 128) ∧
    (∃ (s : State) (f : Fin 2097152), (s.fx f).resident = true ∧ (s.fx f).dirty = true ∧ s.raw ≥ (s.fx f).dirtyRaw + s.fld BRG_CFG_WB_MS * msU) :=
  ⟨⟨fx' 5 { FlowX.zero with resident := true } (flow5 (up [(FWD_CFG_EN, 1), (BRG_CFG_EN, 1)] b1)), pkt0, 5, 7, 0, by unfold State.RtpOk; decide +kernel,
      by decide +kernel, by decide +kernel, by decide +kernel, by decide +kernel, by decide +kernel, by decide +kernel⟩,
   ⟨send9 0xFFFFFFFF (fwd5 [] id b1), pkt0, 5, 9, 7, by unfold State.RtpOk; decide +kernel, by decide +kernel, by decide +kernel, by decide +kernel,
      by decide +kernel, by decide +kernel, by decide +kernel, by decide +kernel, by decide +kernel, by decide +kernel, by decide +kernel,
      by decide +kernel, by decide +kernel, by decide +kernel, by decide +kernel, by decide +kernel, by decide +kernel, by decide +kernel,
      by decide +kernel, by decide +kernel, by decide +kernel, by decide +kernel, by decide +kernel⟩,
   ⟨flow5 (up [(FWD_CFG_EN, 1), (BRG_CFG_EN, 1)] b1), pkt0, 5, by unfold State.RtpOk; decide +kernel, by decide +kernel⟩,
   ⟨flow5 { b1 with brg := { b1.brg with fetches := [5, 6] } }, 5, by decide +kernel⟩,
   ⟨let x := fx' 5 { FlowX.zero with waiting := [.rtp pkt0, .rtp pkt0] } (flow5 b1); { x with brg := { x.brg with fetches := [6, 5] } }, 5,
      (let x := fx' 5 { FlowX.zero with waiting := [.rtp pkt0, .rtp pkt0] } (flow5 b1); { x with brg := { x.brg with fetches := [6, 5] } }).record 0 5,
      by decide +kernel⟩,
   ⟨at' 1000000 (fx' 5 { FlowX.zero with resident := true, dirty := true } (flow5 b1)), 5, by decide +kernel⟩⟩

theorem wit_RtcpReceived :
    (∃ (s : State) (f : Fin 2097152) (lsr : Nat) (dlsr : Nat), s.RtcpOk f ∧ s.isSend f = true ∧ lsr ≠ 0) ∧
    (∃ (s : State) (f : Fin 2097152) (fir : Bool) (src : Nat), s.RtcpOk f ∧ s.isSend f = true ∧ src = s.ff f 0x3C 4 ∧ src < 2 ^ 31 ∧ src ≠ f.val ∧
      (s.fx src).holdRaw = none ∧ (s.record 0 f).length = 128 ∧ s.flag src 0 = false ∧ s.egressOk false = true) ∧
    (∃ (s : State) (f : Fin 2097152) (fir : Bool) (src : Nat) (r : Nat), s.RtcpOk f ∧ s.isSend f = true ∧ src = s.ff f 0x3C 4 ∧ src < 2 ^ 31 ∧
      src ≠ f.val ∧ (s.fx src).holdRaw = some r ∧ (s.record 0 f).length = 128) ∧
    (∃ (s : State) (f : Fin 2097152) (fir : Bool) (o : Nat), s.RtcpOk f ∧ s.isSend f = true ∧ s.ff f 0x3C 4 = 2 ^ 31 + o ∧ o < 2 ^ 31 ∧
      (s.record 0 f).length = 128) ∧
    (∃ (s : State) (f : Fin 2097152) (bits : Nat) (lost : Nat) (seen : Nat) (d : Int) (n : Nat) (l : Nat) (e : Nat), s.RtcpOk f ∧ s.isSend f = true ∧
      s.flowLeg f = some l ∧ s.estFlow l = some e) ∧
    (∃ (s : State) (f : Fin 2097152) (ssrc : Nat) (len : Nat) (ws : List W32), s.RtcpOk f ∧ s.brg.punt.length < 256 ∧ len ≤ 1536) ∧
    (∃ (s : State) (u : State) (f : Fin 2097152) (q : Nat) (bad : List Nat), s.RtcpOk f ∧ s.isSend f = true ∧ u = (s.useCtx f).fcnt f 0x198 4 1 ∧
      u.ff f 0x35 1 ≠ 0 ∧ mapFind (u.ff f 0xC8 8) q (u.fx f).smap = none) ∧
    (∃ (s : State) (u : State) (f : Fin 2097152) (q : Nat) (ofs : Nat) (src : Nat) (l : Nat) (h : HistRec), s.RtcpOk f ∧ s.isSend f = true ∧
      u = (s.useCtx f).fcnt f 0x198 4 1 ∧ u.ff f 0x35 1 ≠ 0 ∧ mapFind (u.ff f 0xC8 8) q (u.fx f).smap = some (ofs, src) ∧
      (u.fx src).hist.find? (fun h => h.ext % 65536 == (q + 65536 - ofs) % 65536) = some h ∧ u.flowLeg f = some l ∧
      ((u.legSends l).map (fun g => (u.fx g).rtxBits)).sum + 8 * h.len ≤ u.legEst l * 25 ∧ u.ff f 0x19C 4 < 2 ^ 32 - 1 ∧ (s.record 0 f).length = 128 ∧
      u.ringPoison src h.ofs (histLen h.len) = false ∧ u.histGood src h = true ∧ s.recState 0 f ≠ 2 ∧ s.flag f 0 = false ∧
      (16 ≤ u.ff f 0x0A 1 ∨ u.egBridge (u.ff f 0x0A 1) + h.len ≤ 6291456)) ∧
    (∃ (s : State) (f : Fin 2097152) (ssrc : Nat) (len : Nat) (ws : List W32), s.recState 0 f ≠ 0 ∧ (s.fx f).resident = false) :=
  ⟨⟨at' 10000000 (fx' 8 { FlowX.zero with resident := true } (leg2 b1)), 8, 0x80000, 77, by unfold State.RtcpOk; decide +kernel, by decide +kernel,
      by decide +kernel⟩,
   ⟨flow5 (fx' 8 { FlowX.zero with resident := true } (leg2 b1)), 8, true, 5, by unfold State.RtcpOk; decide +kernel, by decide +kernel,
      by decide +kernel, by decide +kernel, by decide +kernel, by decide +kernel, by decide +kernel, by decide +kernel, by decide +kernel⟩,
   ⟨fx' 5 { FlowX.zero with holdRaw := some 4 } (flow5 (fx' 8 { FlowX.zero with resident := true } (leg2 b1))), 8, true, 5, 4,
      by unfold State.RtcpOk; decide +kernel, by decide +kernel, by decide +kernel, by decide +kernel, by decide +kernel, by decide +kernel,
      by decide +kernel⟩,
   ⟨rec' 0 8 [(0, 1, 1), (1, 1, 1), (4, 4, 2), (0x3C, 4, 2 ^ 31 + 7)] (fx' 8 { FlowX.zero with resident := true } b1), 8, true, 7,
      by unfold State.RtcpOk; decide +kernel, by decide +kernel, by decide +kernel, by decide +kernel, by decide +kernel⟩,
   ⟨flow5 (fx' 8 { FlowX.zero with resident := true } (leg2 b1)), 8, 1000, 2, 9, -5, 3, 2, 8, by unfold State.RtcpOk; decide +kernel, by decide +kernel,
      by decide +kernel, by decide +kernel⟩,
   ⟨flow5 (fx' 5 { FlowX.zero with resident := true } (leg2 b1)), 5, 0x12345678, 1536, [1, 2], by unfold State.RtcpOk; decide +kernel, by decide +kernel,
      by decide +kernel⟩,
   ⟨flow5 (fx' 8 { FlowX.zero with resident := true } (leg2 b1)),
      ((flow5 (fx' 8 { FlowX.zero with resident := true } (leg2 b1))).useCtx (8)).fcnt (8) 0x198 4 1, 8, 60000, [3], by unfold State.RtcpOk; decide +kernel,
      by decide +kernel, by decide +kernel, by decide +kernel, by decide +kernel⟩,
   ⟨fx' 5 { FlowX.zero with hist := [⟨0, 65535, 9, 50, 0, 0, false⟩] } (fx' 8 { FlowX.zero with resident := true, smap := [(0, 1, 5)] } (flow5 (leg2 b1))),
      ((fx' 5 { FlowX.zero with hist := [⟨0, 65535, 9, 50, 0, 0, false⟩] } (fx' 8 { FlowX.zero with resident := true, smap := [(0, 1, 5)] } (flow5 (leg2 b1)))).useCtx (8)).fcnt (8) 0x198 4 1,
      8, 0, 1, 5, 2, ⟨0, 65535, 9, 50, 0, 0, false⟩, by unfold State.RtcpOk; decide +kernel, by decide +kernel, by decide +kernel, by decide +kernel,
      by decide +kernel, by decide +kernel, by decide +kernel, by decide +kernel, by decide +kernel, by decide +kernel, by decide +kernel,
      by decide +kernel, by decide +kernel, by decide +kernel, by decide +kernel⟩,
   ⟨flow5 b1, 5, 9, 8, [1, 2], by decide +kernel⟩⟩

theorem wit_RtcpSent :
    (∃ (s : State) (f : Fin 2097152), s.flowActive f = true ∧ s.SrtcpMay f ∧ s.egressOk false = true ∧ s.fld FWD_CFG2_RTCP_MS ≠ 0 ∧
      (s.fx f).repRaw < (s.raw + s.fld FWD_CFG2_RTCP_MS * msU - f.val % 64 * (s.fld FWD_CFG2_RTCP_MS * msU) / 64) / (s.fld FWD_CFG2_RTCP_MS * msU)) ∧
    (∃ (s : State) (f : Fin 2097152), s.flowActive f = true ∧ s.isSend f = false ∧ s.flag f 5 = true ∧ s.SrtcpMay f ∧ s.egressOk false = true ∧
      s.raw ≥ (s.fx f).fbkRaw + s.fld FWD_CFG_FB_MS * msU) ∧
    (∃ (s : State) (f : Fin 2097152) (e : Nat) (r : Nat) (gs : List (Nat × Nat)), (s.fx f).gaps = (e, r) :: gs ∧ s.raw ≥ r + 5 * msU ∧
      s.egressOk false = true ∧ s.SrtcpMay f) ∧
    (∃ (s : State) (p : Port) (q : Punt) (qs : List Punt), Taken s p FWD_PUNT_CMD (BitVec.ofNat 32 (1 * 2 ^ 28)) ∧ s.brg.punt = q :: qs) ∧
    (∃ (s : State) (p : Port), Taken s p FWD_PUNT_CMD (BitVec.ofNat 32 (1 * 2 ^ 28)) ∧ s.brg.punt = []) ∧
    (∃ (s : State) (p : Port) (f : Fin 2097152), Taken s p FWD_PUNT_CMD (BitVec.ofNat 32 (2 * 2 ^ 28 + f.val)) ∧ s.recState 0 f ≠ 0 ∧
      s.egressOk false = true) :=
  ⟨⟨at' 9000000 (up [(FWD_CFG2_RTCP_MS, 1000)] (leg2 b1)), 8, by decide +kernel, by unfold State.SrtcpMay; decide +kernel, by decide +kernel,
      by decide +kernel, by decide +kernel⟩,
   ⟨at' 9000000 (rec' 0 5 [(0, 1, 1), (3, 1, 32)] b1), 5, by decide +kernel, by decide +kernel, by decide +kernel,
      by unfold State.SrtcpMay; decide +kernel, by decide +kernel, by decide +kernel⟩,
   ⟨at' 9000000 (fx' 5 { FlowX.zero with gaps := [(65537, 7), (65538, 7), (65550, 8)] } (flow5 b1)), 5, 65537, 7, [(65538, 7), (65550, 8)],
      by decide +kernel, by decide +kernel, by decide +kernel, by unfold State.SrtcpMay; decide +kernel⟩,
   ⟨{ b1 with brg := { b1.brg with punt := [⟨7, 20, [1, 2, 3, 4, 5]⟩, ⟨8, 1, [9]⟩] } }, .hcp, ⟨7, 20, [1, 2, 3, 4, 5]⟩, [⟨8, 1, [9]⟩],
      by unfold Taken; decide +kernel, by decide +kernel⟩,
   ⟨b1, .hcp, by unfold Taken; decide +kernel, by decide +kernel⟩,
   ⟨flow5 b1, .hcp, 5, by unfold Taken; decide +kernel, by decide +kernel, by decide +kernel⟩⟩

theorem wit_Adaptation :
    (∃ (s : State) (l : Fin 262144) (f : Nat), s.recState 3 l = 1 ∧ s.raw / (100 * msU) > tget (fun _ => 0) s.brg.due l ∧ s.estFlow l = some f ∧
      s.raw - (s.fx f).fbRaw < 500 * msU ∧ 0 < (s.fx f).fbSeen ∧ (s.fx f).fbLost = 0 ∧ (s.fx f).fbCnt = 0 ∧ (s.record 0 f).length = 128) ∧
    (∃ (s : State) (o : Fin 4096), s.recState 4 o = 1 ∧ s.raw / (100 * msU) > tget (fun _ => 0) s.brg.due (3 * 2 ^ 24 + o)) ∧
    (∃ (s : State) (f : Fin 2097152), s.recState 0 f ≠ 0 ∧ s.isSend f = false ∧ s.raw / (100 * msU) > tget (fun _ => 0) s.brg.due (1 * 2 ^ 24 + f)) ∧
    (∃ (s : State) (l : Fin 262144) (c : Copy) (cs : List Copy) (r : Nat), tget (fun _ => Pacer.zero) s.brg.pacers l = ⟨c :: cs, r⟩ ∧ r ≤ s.raw ∧
      s.raw - c.raw ≤ s.fld FWD_CFG2_MAX_QDLY * msU ∧ s.fld FWD_CFG_PACE * s.legEst l ≠ 0 ∧ s.egressOk false = true ∧ s.flowUp c.flow = true ∧ c.rtx = true) ∧
    (∃ (s : State) (l : Fin 262144) (c : Copy) (cs : List Copy) (r : Nat), tget (fun _ => Pacer.zero) s.brg.pacers l = ⟨c :: cs, r⟩ ∧ r ≤ s.raw ∧
      s.raw - c.raw ≤ s.fld FWD_CFG2_MAX_QDLY * msU ∧ s.fld FWD_CFG_PACE * s.legEst l ≠ 0 ∧ s.egressOk false = true ∧ s.flowUp c.flow = true ∧
      c.rtx = false ∧ s.sendFlows c.flow = [] ∧ (s.record 0 c.flow).length = 128) ∧
    (∃ (s : State) (l : Fin 262144) (c : Copy) (cs : List Copy) (r : Nat), tget (fun _ => Pacer.zero) s.brg.pacers l = ⟨c :: cs, r⟩ ∧
      s.raw - c.raw > s.fld FWD_CFG2_MAX_QDLY * msU) ∧
    (∃ (s : State) (f : Fin 2097152) (r : Nat) (src : Nat), (s.fx f).upRaw = some r ∧ s.recState 0 f ≠ 0 ∧ s.isSend f = true ∧
      s.raw ≥ r + s.fld FWD_CFG2_KF_WAIT * 100 * msU ∧ src = s.ff f 0x3C 4 ∧ src < 2 ^ 31 ∧ src ≠ f.val ∧ (s.fx src).holdRaw = none ∧ s.flag src 0 = false ∧
      s.egressOk false = true) ∧
    (∃ (s : State) (f : Fin 2097152) (r : Nat), (s.fx f).holdRaw = some r ∧ s.raw ≥ r + s.fld FWD_CFG_KF_HOLD * 10 * msU) ∧
    (∃ (s : State) (x : Fin 32768) (w : List W32), s.recState 2 x = 1 ∧ tfind s.brg.sess x = some w ∧ w.length = 16 ∧ s.sessLegs x = [] ∧
      s.raw / (100 * msU) > tget (fun _ => 0) s.brg.due (2 * 2 ^ 24 + x) ∧ s.rf 2 x 16 4 = 0xFFFFFFFF ∧ s.rf 2 x 0x2C 4 = 0) :=
  ⟨⟨at' 200000 (fx' 8 { FlowX.zero with fbSeen := 10, fbBits := 60000 } (flow5 (leg2 b1))), 2, 8, by decide +kernel⟩,
   ⟨at' 200000 (rec' 3 3 [(0, 1, 1), (1, 1, 1), (8, 4, 8), (12, 1, 2), (0x14, 4, 4)] (rec' 4 4 [(0, 1, 1), (0x20, 4, 900)] (flow5 (leg2 b1)))), 4,
      by decide +kernel⟩,
   ⟨at' 200000 (fx' 5 { FlowX.zero with layBits := [(0, 7), (9, 100)] } (flow5 (leg2 b1))), 5, by decide +kernel⟩,
   ⟨let x := at' 200 (flow5 (leg2 b1)); { x with brg := { x.brg with pacers := [(2, ⟨[(⟨8, 5, 6, 7, 100, 5, true, 3⟩)], 9⟩)] } }, 2,
      ⟨8, 5, 6, 7, 100, 5, true, 3⟩, [], 9, by decide +kernel⟩,
   ⟨let x := at' 200 (flow5 (leg2 b1)); { x with brg := { x.brg with pacers := [(2, ⟨[(⟨8, 5, 6, 7, 100, 5, false, 3⟩)], 9⟩)] } }, 2,
      ⟨8, 5, 6, 7, 100, 5, false, 3⟩, [], 9, by decide +kernel⟩,
   ⟨let x := at' 900000 (flow5 (leg2 b1)); { x with brg := { x.brg with pacers := [(2, ⟨[(⟨8, 5, 6, 7, 100, 5, false, 3⟩)], 9⟩)] } }, 2,
      ⟨8, 5, 6, 7, 100, 5, false, 3⟩, [], 9, by decide +kernel⟩,
   ⟨at' 9000000 (fx' 8 { FlowX.zero with upRaw := some 6 } (flow5 (leg2 b1))), 8, 6, 5, by decide +kernel⟩,
   ⟨at' 9000000 (fx' 5 { FlowX.zero with holdRaw := some 6, pendReq := true } (flow5 (leg2 b1))), 5, 6, by decide +kernel⟩,
   ⟨at' 9000000 (rec' 2 3 [(0, 1, 1), (16, 4, 0xFFFFFFFF)] b1), 3, (at' 9000000 (rec' 2 3 [(0, 1, 1), (16, 4, 0xFFFFFFFF)] b1)).record 2 3,
      by decide +kernel⟩⟩

theorem wit_BridgeWindow :
    (∃ (s : State) (p : Port) (ty : Fin 16) (i : Nat) (bad : Bool), Taken s p BRG_WIN_CMD (BitVec.ofNat 32 (1 * 2 ^ 28 + ty * 2 ^ 24 + i % 2 ^ 22)) ∧
      ty.val ≤ 4 ∧ i < recCount ty) ∧
    (∃ (s : State) (p : Port) (ty : Fin 16) (i : Nat) (bad : Bool), Taken s p BRG_WIN_CMD (BitVec.ofNat 32 (1 * 2 ^ 28 + ty * 2 ^ 24 + i % 2 ^ 22)) ∧
      (ty.val > 4 ∨ recCount ty ≤ i % 2 ^ 22)) ∧
    (∃ (s : State) (p : Port) (ty : Fin 16) (i : Nat), Taken s p BRG_WIN_CMD (BitVec.ofNat 32 (2 * 2 ^ 28 + ty * 2 ^ 24 + i % 2 ^ 22)) ∧
      s.stageStatus p.owner true = 0 ∧ ty.val ≤ 4 ∧ i < recCount ty ∧ s.stage.records.length < 1024) ∧
    (∃ (s : State) (p : Port) (ty : Fin 16) (i : Nat), Taken s p BRG_WIN_CMD (BitVec.ofNat 32 (2 * 2 ^ 28 + ty * 2 ^ 24 + i % 2 ^ 22)) ∧
      s.stageStatus p.owner true = 0 ∧ ty.val ≤ 4 ∧ i < recCount ty ∧ 1024 ≤ s.stage.records.length ∧
      (∀ x, x ∈ s.stage.records → ¬ (x.typ = ty.val ∧ x.index = i))) ∧
    (∃ (s : State) (p : Port) (ty : Fin 16) (i : Nat), Taken s p BRG_WIN_CMD (BitVec.ofNat 32 (3 * 2 ^ 28 + ty * 2 ^ 24 + i % 2 ^ 22)) ∧ ty.val ≤ 4 ∧
      i < recCount ty) ∧
    (∃ (s : State) (x : Fin 32768) (leg : Nat) (fwd : Nat) (dec : Nat) (mix : Nat), s.recState 2 x = 1 ∧ s.rf 2 x 2 2 % 4096 = s.ownAddr ∧
      s.roomQ x 0 1 = true ∧ s.roomQ x 1 fwd = true ∧ s.roomQ x 2 dec = true ∧ s.roomQ x 3 mix = true) ∧
    (∃ (s : State) (x : Fin 32768) (leg : Nat) (fwd : Nat) (dec : Nat) (mix : Nat), s.recState 2 x = 1 ∧ s.rf 2 x 2 2 % 4096 = s.ownAddr ∧
      (s.roomQ x 0 1 && s.roomQ x 1 fwd && s.roomQ x 2 dec && s.roomQ x 3 mix) = false) :=
  ⟨⟨leg2 b1, .hcp, 0, 8, false, by unfold Taken; decide +kernel, by decide +kernel, by decide +kernel⟩,
   ⟨leg2 b1, .hcp, 4, 4096, false, by unfold Taken; decide +kernel, by decide +kernel⟩,
   ⟨{ b1 with stage := { b1.stage with records := [⟨3, 5, [1]⟩, ⟨3, 4, [2]⟩, ⟨3, 5, [3]⟩] } }, .hcp, 3, 5, by unfold Taken; decide +kernel,
      by decide +kernel, by decide +kernel, by decide +kernel, by decide +kernel⟩,
   ⟨{ b1 with stage := { b1.stage with records := List.replicate 1024 ⟨3, 4, [2]⟩ } }, .hcp, 3, 5, by unfold Taken; decide +kernel, by decide +kernel,
      by decide +kernel, by decide +kernel, by decide +kernel, by decide +kernel⟩,
   ⟨{ b1 with stage := { b1.stage with records := [⟨3, 5, [1]⟩, ⟨3, 4, [2]⟩, ⟨3, 5, [3]⟩] } }, .hcp, 3, 5, by unfold Taken; decide +kernel,
      by decide +kernel, by decide +kernel⟩,
   ⟨rec' 2 9 [(0, 1, 1), (8, 4, 9), (16, 4, 0xFFFFFFFF), (24, 4, 0xFFFFFFFF), (0x20, 2, 0xFFFF)] b1, 9, 3, 5, 6, 7, by decide +kernel⟩,
   ⟨rec' 2 9 [(0, 1, 1), (8, 4, 9), (12, 4, 9), (16, 4, 0xFFFFFFFF), (24, 4, 0xFFFFFFFF), (0x20, 2, 0xFFFF)] b1, 9, 3, 5, 6, 7, by decide +kernel⟩⟩

theorem wit_DecodePictures :
    (∃ (s : State) (d : Fin 24) (c : Nat) (q : QAu) (qs : List QAu) (l : LayerPic) (ls : List LayerPic), s.coreFenced d = false ∧
      s.blockRuns (42 + d) = true ∧ s.coreJob d = none ∧ s.coreNext d = some c ∧ (s.dx c).queue = q :: qs ∧ s.auRefuse c q.au = 0 ∧
      (s.recState 1 c ≠ 1 ∨ q.au.starts = true) ∧ (q.au.rasl = false ∨ (s.dx c).skip = false) ∧
      s.auLayers c q.au (effLayer (s.ctxTarget c) (s.dx c).eff q.au) = l :: ls) ∧
    (∃ (s : State) (d : Fin 24) (c : Nat) (q : QAu) (qs : List QAu) (w : List W32), s.coreFenced d = false ∧ s.blockRuns (42 + d) = true ∧
      s.coreJob d = none ∧ s.coreNext d = some c ∧ (s.dx c).queue = q :: qs ∧ tfind s.brg.decs c = some w ∧ w.length = 32) ∧
    (∃ (s : State) (d : Fin 24) (c : Nat) (q : QAu) (qs : List QAu) (w : List W32), s.coreFenced d = false ∧ s.blockRuns (42 + d) = true ∧
      s.coreJob d = none ∧ s.coreNext d = some c ∧ (s.dx c).queue = q :: qs ∧ s.auRefuse c q.au ≠ 0 ∧ tfind s.brg.decs c = some w ∧ w.length = 32) ∧
    (∃ (s : State) (d : Fin 24) (c : Nat) (j : DecJob) (l : LayerPic) (m : LayerPic) (ls : List LayerPic) (r : DecRes), s.coreJob d = some c ∧
      (s.dx c).job = some j ∧ j.todo = l :: m :: ls ∧ s.decViolation c r = none) ∧
    (∃ (s : State) (d : Fin 24) (c : Nat) (j : DecJob) (l : LayerPic) (r : DecRes) (w : List W32), s.coreJob d = some c ∧ (s.dx c).job = some j ∧
      j.todo = [l] ∧ j.got = [] ∧ l.sid < 4 ∧ tfind s.brg.decs c = some w ∧ w.length = 32 ∧ s.recState 1 c = 3 ∧ (s.dx c).next = none ∧ (s.dx c).held = 0 ∧
      (s.dx c).taint = false ∧ l.lost = false ∧ s.decViolation c r = none ∧ r.syntaxE = false ∧ r.lost = false ∧ r.hashOk ≠ some false ∧
      r.refs.any s.refMissing = false ∧ r.refs.any s.refConc = false ∧ r.areas = []) ∧
    (∃ (s : State) (d : Fin 24) (c : Nat) (j : DecJob) (l : LayerPic) (r : DecRes) (w : List W32), s.coreJob d = some c ∧ (s.dx c).job = some j ∧
      j.todo = [l] ∧ j.got = [] ∧ tfind s.brg.decs c = some w ∧ w.length = 32 ∧ (s.dx c).next = none ∧ (s.dx c).held = 0 ∧ (l.lost = true ∨ r.lost = true) ∧
      s.decViolation c r = none ∧ r.syntaxE = false ∧ r.hashOk ≠ some false) ∧
    (∃ (s : State) (d : Fin 24) (c : Nat) (j : DecJob) (l : LayerPic) (r : DecRes) (w : List W32), s.coreJob d = some c ∧ (s.dx c).job = some j ∧
      j.todo = [l] ∧ j.got = [] ∧ tfind s.brg.decs c = some w ∧ w.length = 32 ∧ j.budget ≤ s.jobCycles d j ∧ (s.dx c).next = none ∧ (s.dx c).held = 0 ∧
      s.decViolation c r = none) ∧
    (∃ (s : State) (c : Fin 8192) (w : List W32) (fir : Bool), (s.dx c).cond = true ∧ 0 < (s.dx c).reqs ∧
      s.raw ≥ (s.dx c).condRaw + (s.dx c).reqs * s.fld DEC_POOL_CFG_REQ_HOLD * 10 * msU ∧ tfind s.brg.decs c = some w ∧ w.length = 32 ∧
      s.rf 1 c 3 1 % 4 ≠ 0 ∧ fir = decide (2 ≤ s.rf 1 c 3 1 % 4) ∧ (s.fx (s.rf 1 c 4 4)).holdRaw = none ∧ s.egressOk false = true ∧
      s.SrtcpMay (s.rf 1 c 4 4)) :=
  ⟨⟨ctx7 { DecX.zero with queue := [⟨3, au0⟩, ⟨4, au0⟩] } b1, 3, 7, ⟨3, au0⟩, [⟨4, au0⟩], lp0, [], by decide +kernel⟩,
   ⟨ctx7 { DecX.zero with queue := [⟨3, au0⟩, ⟨4, au0⟩] } b1, 3, 7, ⟨3, au0⟩, [⟨4, au0⟩],
      (ctx7 { DecX.zero with queue := [⟨3, au0⟩, ⟨4, au0⟩] } b1).record 1 7, by decide +kernel⟩,
   ⟨ctx7 { DecX.zero with queue := [(⟨3, { au0 with par := ⟨0, 0, 0, 8, true⟩ }⟩), ⟨4, au0⟩] } b1, 3, 7, ⟨3, { au0 with par := ⟨0, 0, 0, 8, true⟩ }⟩,
      [⟨4, au0⟩], (ctx7 { DecX.zero with queue := [(⟨3, { au0 with par := ⟨0, 0, 0, 8, true⟩ }⟩), ⟨4, au0⟩] } b1).record 1 7, by decide +kernel⟩,
   ⟨ctxW { DecX.zero with job := some (⟨au0, [lp0, ⟨1, 640, 360, false, false⟩], 7, 0, 7, 65536, []⟩) } (drm [] b1), 3, 7,
      ⟨au0, [lp0, ⟨1, 640, 360, false, false⟩], 7, 0, 7, 65536, []⟩, lp0, ⟨1, 640, 360, false, false⟩, [], res0, by decide +kernel⟩,
   ⟨ctxW { DecX.zero with job := some (⟨au0, [lp0], 7, 0, 7, 65536, []⟩) } (drm [] b1), 3, 7, ⟨au0, [lp0], 7, 0, 7, 65536, []⟩, lp0, res0,
      (ctxW { DecX.zero with job := some (⟨au0, [lp0], 7, 0, 7, 65536, []⟩) } (drm [] b1)).record 1 7, by decide +kernel⟩,
   ⟨ctxW { DecX.zero with job := some (⟨au0, [{ lp0 with lost := true }], 7, 0, 7, 65536, []⟩) } (drm [] b1), 3, 7,
      ⟨au0, [{ lp0 with lost := true }], 7, 0, 7, 65536, []⟩, { lp0 with lost := true }, res0,
      (ctxW { DecX.zero with job := some (⟨au0, [{ lp0 with lost := true }], 7, 0, 7, 65536, []⟩) } (drm [] b1)).record 1 7, by decide +kernel⟩,
   ⟨at' 9000000 (ctxW { DecX.zero with job := some (⟨au0, [lp0], 7, 0, 7, 65536, []⟩) } (drm [] b1)), 3, 7, ⟨au0, [lp0], 7, 0, 7, 65536, []⟩, lp0, res0,
      (at' 9000000 (ctxW { DecX.zero with job := some (⟨au0, [lp0], 7, 0, 7, 65536, []⟩) } (drm [] b1))).record 1 7, by decide +kernel⟩,
   ⟨at' 9000000 (ctx7 { DecX.zero with cond := true, reqs := 2 } b1), 7, (at' 9000000 (ctx7 { DecX.zero with cond := true, reqs := 2 } b1)).record 1 7,
      false, by decide +kernel, by decide +kernel, by decide +kernel, by decide +kernel, by decide +kernel, by decide +kernel, by decide +kernel,
      by decide +kernel, by decide +kernel, by unfold State.SrtcpMay; decide +kernel⟩⟩

theorem wit_DecodeFencing :
    (∃ (s : State) (d : Fin 24), s.coreJob d = none) ∧
    (∃ (s : State) (d : Fin 24) (c : Nat) (j : DecJob), s.coreFenced d = false ∧ s.coreJob d = some c ∧ (s.dx c).job = some j) ∧
    (∃ (s : State) (d : Fin 24), s.coreFenced d = false ∧ s.coreCtx d = []) ∧
    (∃ (s : State) (p : Port) (d : Fin 24) (v : W32), Taken s p (DEC_CORE_CTRL d) v ∧ fieldGet v 0 1 = 1 ∧ s.coreFenced d = false ∧ s.coreCtx d = []) ∧
    (∃ (s : State) (p : Port) (d : Fin 24) (v : W32), Taken s p (DEC_CORE_CTRL d) v ∧ fieldGet v 1 1 = 1 ∧ s.coreFenced d = true) ∧
    (∃ (s : State) (d : Fin 24), s.bit (DEC_CORE_CTRL_UNFENCE d) = true ∧ (∀ c, c ∈ s.liveRecs 1 → s.recState 1 c ≠ 5)) ∧
    (∃ (s : State) (d : Fin 24), s.bit (DEC_CORE_CTRL_UNFENCE d) = true) :=
  ⟨⟨b1, 23, by decide +kernel⟩,
   ⟨ctx7 { DecX.zero with job := some (⟨au0, [lp0], 0, 5, 0, 65536, []⟩) } b1, 3, 7, ⟨au0, [lp0], 0, 5, 0, 65536, []⟩, by decide +kernel⟩,
   ⟨ctx7 DecX.zero b1, 23, by decide +kernel⟩,
   ⟨ctx7 DecX.zero b1, .hcp, 23, 3, by unfold Taken; decide +kernel, by decide +kernel, by decide +kernel, by decide +kernel⟩,
   ⟨up [(DEC_CORE_STAT_FENCED 23, 1)] b1, .hcp, 23, 2, by unfold Taken; decide +kernel, by decide +kernel, by decide +kernel⟩,
   ⟨up [(DEC_CORE_STAT_FENCED 23, 1), (DEC_CORE_CTRL_UNFENCE 23, 1)] (ctx7 DecX.zero b1), 23, by decide +kernel⟩,
   ⟨up [(DEC_CORE_STAT_FENCED 23, 1), (DEC_CORE_CTRL_UNFENCE 23, 1)] b1, 23, by decide +kernel⟩⟩

theorem wit_ComposerPipes :
    (∃ (s : State) (key : Fin 4112) (sums : List Int) (poison : List Nat) (c : Comp), (s.comp key).run = some c ∧ s.pipeFenced (s.compPipe key) = false ∧
      s.blockRuns (74 + s.compPipe key) = true ∧ c.merge = false ∧ lineMismatch (16 * c.strip) (s.stripSums (c.poisoned poison) sums) = none ∧
      (c.strip + 1) * 16 < c.lay.height) ∧
    (∃ (s : State) (key : Fin 4112) (sums : List Int) (poison : List Nat) (c : Comp), (s.comp key).run = some c ∧ s.pipeFenced (s.compPipe key) = false ∧
      s.blockRuns (74 + s.compPipe key) = true ∧ c.merge = false ∧ lineMismatch (16 * c.strip) (s.stripSums (c.poisoned poison) sums) = none ∧
      c.lay.height ≤ (c.strip + 1) * 16 ∧ (key.val < 16 ∨ s.outServes (key - 16) = false)) ∧
    (∃ (s : State) (key : Fin 4112) (sums : List Int) (poison : List Nat) (c : Comp), (s.comp key).run = some c ∧ s.pipeFenced (s.compPipe key) = false ∧
      s.blockRuns (74 + s.compPipe key) = true ∧ c.merge = true ∧ (key.val < 16 ∨ s.outServes (key - 16) = false)) ∧
    (∃ (s : State) (key : Fin 4112) (sums : List Int) (poison : List Nat) (c : Comp) (line : Nat), (s.comp key).run = some c ∧
      s.pipeFenced (s.compPipe key) = false ∧ s.blockRuns (74 + s.compPipe key) = true ∧ s.compPipe key < 16 ∧ c.merge = false ∧
      lineMismatch (16 * c.strip) (s.stripSums (c.poisoned poison) sums) = some line) ∧
    (∃ (s : State) (o : Fin 4096) (sums : List Int) (poison : List Nat) (c : Comp), (s.comp (16 + o)).run = some c ∧
      s.pipeFenced (s.compPipe (16 + o)) = false ∧ s.blockRuns (74 + s.compPipe (16 + o)) = true ∧
      (c.merge = true ∨ (lineMismatch (16 * c.strip) (s.stripSums (c.poisoned poison) sums) = none ∧ c.lay.height ≤ (c.strip + 1) * 16)) ∧
      s.outServes o = true ∧ s.targets (2 ^ 31 + o) = []) ∧
    (∃ (s : State) (p : Fin 16) (r : Nat) (lay : Layout), (s.comp p).waitRaw = some r ∧ s.raw ≥ r + s.fld (CMP_PIPE_CFG_RAP_WAIT p) * 10 * msU ∧
      (s.comp p).good = some lay ∧ lay.layers.length ≤ 64) ∧
    (∃ (s : State) (p : Fin 16) (r : Nat), (s.comp p).waitRaw = some r ∧ s.raw ≥ r + s.fld (CMP_PIPE_CFG_RAP_WAIT p) * 10 * msU ∧ (s.comp p).good = none) ∧
    (∃ (s : State) (p : Fin 16), s.pipeFenced p = false) ∧
    (∃ (s : State) (p : Port) (q : Fin 16) (v : W32), Taken s p (CMP_PIPE_CTRL q) v ∧ fieldGet v 0 1 = 1 ∧ s.pipeFenced q = false) ∧
    (∃ (s : State) (p : Port) (q : Fin 16) (v : W32), Taken s p (CMP_PIPE_CTRL q) v ∧ fieldGet v 1 1 = 1 ∧ s.pipeFenced q = true) ∧
    (∃ (s : State) (p : Fin 16), s.bit (CMP_PIPE_CTRL_UNFENCE p) = true) ∧
    (∃ (s : State) (p : Fin 16), s.bit (CMP_PIPE_CTRL_UNFENCE p) = true) :=
  ⟨⟨drm [] (b1.setComp 4000 { CompX.zero with run := some (cmp0 48 id) }), 4000, [], [], cmp0 48 id, by decide +kernel⟩,
   ⟨drm [] ((rec' 4 3984 [(0, 1, 1), (15, 1, 40), (0x18, 8, 0x4000)] b1).setComp 4000 { CompX.zero with run := some (cmp0 16 id), buf := 2 }), 4000, [],
      [], cmp0 16 id, by decide +kernel⟩,
   ⟨drm [] ((rec' 4 3984 [(0, 1, 1), (15, 1, 40), (0x18, 8, 0x4000)] b1).setComp 4000 { CompX.zero with run := some (cmp0 16 (fun c => { c with merge := true })), buf := 2 }),
      4000, [], [], cmp0 16 (fun c => { c with merge := true }), by decide +kernel⟩,
   ⟨drm [] (b1.setComp 5 { CompX.zero with run := some (cmp0 48 id) }), 5, [0, 900000], [1], cmp0 48 id, 1, by decide +kernel⟩,
   ⟨let s := (rec' 4 4095 [(0, 1, 1), (15, 1, 39), (0x18, 8, 0x4000)] b1).setComp 4111 { CompX.zero with run := some (cmp0 16 id), buf := 2 }; { s with brg := { s.brg with intraNext := [4095], outKbps := [(4095, 800)] } },
      4095, [], [], cmp0 16 id, by decide +kernel⟩,
   ⟨at' 9000000 (b1.setComp 15 { CompX.zero with waitRaw := some 5, irap := [(3, 7)], good := some (⟨0x1000, 640, 480, 0, 0, none, [⟨1, 1, 255, 0, 3, 0, 0, 0, 64, 64, 0, 0, 64, 64, 0, 0, 0, 0⟩, ⟨1, 1, 255, 0, 4, 0, 0, 0, 64, 64, 0, 0, 64, 64, 0, 0, 0, 0⟩]⟩) }),
      15, 5,
      ⟨0x1000, 640, 480, 0, 0, none, [⟨1, 1, 255, 0, 3, 0, 0, 0, 64, 64, 0, 0, 64, 64, 0, 0, 0, 0⟩, ⟨1, 1, 255, 0, 4, 0, 0, 0, 64, 64, 0, 0, 64, 64, 0, 0, 0, 0⟩]⟩,
      by decide +kernel⟩,
   ⟨at' 9000000 (b1.setComp 15 { CompX.zero with waitRaw := some 5, irap := [(3, 7)] }), 15, 5, by decide +kernel⟩,
   ⟨b1, 15, by decide +kernel⟩,
   ⟨b1, .hcp, 15, 1, by unfold Taken; decide +kernel, by decide +kernel, by decide +kernel⟩,
   ⟨up [(CMP_PIPE_STAT_FENCED 15, 1)] b1, .hcp, 15, 2, by unfold Taken; decide +kernel, by decide +kernel, by decide +kernel⟩,
   ⟨up [(CMP_PIPE_STAT_FENCED 15, 1), (CMP_PIPE_CTRL_UNFENCE 15, 1)] b1, 15, by decide +kernel⟩,
   ⟨up [(CMP_PIPE_STAT_FENCED 15, 1), (CMP_PIPE_CTRL_UNFENCE 15, 1)] b1, 15, by decide +kernel⟩⟩

theorem wit_AudioWork :
    (∃ (s : State) (x : Fin 32768) (member : Nat) (cands : List Cand), s.bit AUD_CFG_EN = true ∧ s.recState 2 x = 1 ∧ s.rf 2 x 2 2 % 4096 = s.ownAddr ∧
      s.raw - s.aud.cycRaw ≤ 4500 * usU) ∧
    (∃ (s : State) (x : Fin 32768) (member : Nat) (cands : List Cand), s.bit AUD_CFG_EN = true ∧ s.recState 2 x = 1 ∧ s.rf 2 x 2 2 % 4096 = s.ownAddr ∧
      s.raw - s.aud.cycRaw > 4500 * usU) ∧
    (∃ (s : State) (x : Fin 32768) (member : Nat) (cands : List Cand), (s.bit AUD_CFG_EN = false ∨ s.recState 2 x ≠ 1 ∨ s.rf 2 x 2 2 % 4096 ≠ s.ownAddr)) ∧
    (∃ (s : State) (p : Port) (ty : Fin 16) (i : Nat) (w : List W32), Taken s p AUD_WIN_CMD (BitVec.ofNat 32 (1 * 2 ^ 28 + ty * 2 ^ 24 + i % 2 ^ 15)) ∧
      (ty.val = 0 ∧ i < 8192 ∧ tfind s.aud.slots i = some w ∨ ty.val = 1 ∧ i < 32768 ∧ tfind s.aud.sess i = some w)) ∧
    (∃ (s : State) (p : Port) (i : Nat) (w : List W32), Taken s p AUD_WIN_CMD (BitVec.ofNat 32 (1 * 2 ^ 28 + 0 * 2 ^ 24 + i % 2 ^ 15)) ∧ i < 8192 ∧
      tfind s.aud.slots i = some w ∧ w.length = 32) ∧
    (∃ (s : State) (p : Port) (ty : Fin 16) (i : Nat) (bad : Bool), Taken s p AUD_WIN_CMD (BitVec.ofNat 32 (1 * 2 ^ 28 + ty * 2 ^ 24 + i % 2 ^ 15)) ∧
      (ty.val > 1 ∨ (ty.val = 0 ∧ 8192 ≤ i % 2 ^ 15))) ∧
    (∃ (s : State) (p : Port) (ty : Fin 16) (i : Nat), Taken s p AUD_WIN_CMD (BitVec.ofNat 32 (2 * 2 ^ 28 + ty * 2 ^ 24 + i % 2 ^ 15)) ∧
      s.stageStatus p.owner true = 0 ∧ (ty.val = 0 ∧ i < 8192 ∨ ty.val = 1 ∧ i < 32768) ∧ s.stage.records.length < 1024) ∧
    (∃ (s : State) (p : Port) (ty : Fin 16) (i : Nat), Taken s p AUD_WIN_CMD (BitVec.ofNat 32 (2 * 2 ^ 28 + ty * 2 ^ 24 + i % 2 ^ 15)) ∧
      s.stageStatus p.owner true = 0 ∧ (ty.val = 0 ∧ i < 8192 ∨ ty.val = 1 ∧ i < 32768) ∧ 1024 ≤ s.stage.records.length ∧
      (∀ x, x ∈ s.stage.records → ¬ (x.typ = 8 + ty.val ∧ x.index = i))) ∧
    (∃ (s : State) (p : Port) (ty : Fin 16) (i : Nat), Taken s p AUD_WIN_CMD (BitVec.ofNat 32 (3 * 2 ^ 28 + ty * 2 ^ 24 + i % 2 ^ 15)) ∧
      (ty.val = 0 ∧ i < 8192 ∨ ty.val = 1 ∧ i < 32768)) ∧
    (∃ (s : State) (n : Fin 16) (m : Option Int) (sh : Option Int) (int : Option Int) (tp : Option Int), s.fld (AUD_BC_CTRL_LOUD_LAYOUT n) ≠ 0 ∧
      s.bit (AUD_BC_CTRL_EN n) = true ∧ s.raw / (100 * msU) > tget (fun _ => 0) s.aud.due n) :=
  ⟨⟨rec' 2 9 [(0, 1, 1)] (up [(AUD_CFG_EN, 1)] { b1 with aud := { b1.aud with cands := [(9, [⟨4, 1, 2, 0, true, []⟩, ⟨5, 1, 2, 0xC2000000, true, []⟩])], seats := [(9, [(0, 77)])] } }),
      9, 4, [⟨0, 7, 9, 0xC2040000, true, []⟩], by decide +kernel⟩,
   ⟨at' 4501 (rec' 2 9 [(0, 1, 1)] (up [(AUD_CFG_EN, 1)] b1)), 9, 4, [], by decide +kernel⟩,
   ⟨at' 4501 (rec' 2 9 [(0, 1, 1)] b1), 9, 4, [], by decide +kernel⟩,
   ⟨{ b1 with aud := { b1.aud with slots := [(8191, List.replicate 32 5)] } }, .hcp, 0, 8191, List.replicate 32 5, by unfold Taken; decide +kernel,
      by decide +kernel⟩,
   ⟨{ b1 with aud := { b1.aud with slots := [(8191, List.replicate 32 5)] } }, .hcp, 8191, List.replicate 32 5, by unfold Taken; decide +kernel,
      by decide +kernel, by decide +kernel, by decide +kernel⟩,
   ⟨b1, .hcp, 0, 8192, false, by unfold Taken; decide +kernel, by decide +kernel⟩,
   ⟨{ b1 with stage := { b1.stage with records := [⟨9, 5, [1]⟩, ⟨9, 4, [2]⟩] } }, .hcp, 1, 5, by unfold Taken; decide +kernel, by decide +kernel,
      by decide +kernel, by decide +kernel⟩,
   ⟨{ b1 with stage := { b1.stage with records := List.replicate 1024 ⟨9, 4, [2]⟩ } }, .hcp, 1, 5, by unfold Taken; decide +kernel, by decide +kernel,
      by decide +kernel, by decide +kernel, by decide +kernel⟩,
   ⟨{ b1 with stage := { b1.stage with records := [⟨9, 5, [1]⟩, ⟨9, 4, [2]⟩] } }, .hcp, 1, 5, by unfold Taken; decide +kernel, by decide +kernel⟩,
   ⟨at' 200000 (up [(AUD_BC_CTRL_EN 3, 1), (AUD_BC_CTRL_LOUD_LAYOUT 3, 1), (AUD_BC_LOUD2_TRUE_PEAK 3, 0xFFF0)] b1), 3, some (-230), some (-100), none,
      some (-5), by decide +kernel⟩⟩

theorem wit_AudioPorts :
    (∃ (s : State) (p : Fin 16) (bits : Nat), s.NoPart (22 + p) ∧ p.val < 12 ∧ (s.apt p).locked = false ∧ (s.apt p).good = 31 ∧ s.aptOn p = false ∧
      s.dirRuns p false = false ∧ s.dirRuns p true = false) ∧
    (∃ (s : State) (p : Fin 16) (bits : Nat), s.NoPart (22 + p) ∧ p.val < 12 ∧ (s.apt p).locked = true) ∧
    (∃ (s : State) (p : Fin 16) (bits : Nat) (n : Nat), s.NoPart (22 + p) ∧ (p.val < 8 ∨ 12 ≤ p.val) ∧ (s.apt p).locked = true ∧
      (s.apt p).started = true ∧ s.aptGroup p = 0 ∧ s.txOn p = true ∧ s.dirRuns p false = false ∧ s.fld (APT_PORT_TX_MASK_MASK p) = (s.apt p).txMask ∧
      (∀ k, k < 64 → ((s.apt p).z k).want = s.wantSilent p k) ∧
      (∀ k, k < 32 → ((s.apt p).z (32 + k)).silent = ((s.apt p).z (32 + k)).want ∧ ((s.apt p).z (32 + k)).ramp = none) ∧
      n = (bitsOf (s.apt p).txMask (s.aptSlots p)).length ∧ (p.val < 8 → s.frameBits p ≤ bits) ∧
      n ≤ ((s.aptWord p 4).toNat + 2 ^ 32 - (s.apt p).txR) % 2 ^ 32 ∧ s.bit (APT_PORT_CFG_FORMAT p) = false ∧ s.safe.forced = false) ∧
    (∃ (s : State) (p : Fin 16) (samples : List (Nat × Nat)) (sync : Int), p.val < 8 ∧ (s.apt p).locked = true ∧ (s.apt p).started = true ∧
      s.dirRuns p false = true ∧ s.aptSlots p ≤ samples.length ∧ s.bit (APT_PORT_CFG_FORMAT p) = false ∧ s.aptSlots p ≤ s.rxLen p ∧
      (∀ k, k < 32 → ((s.apt p).z k).silent = false ∧ ((s.apt p).z k).want = false ∧ ((s.apt p).z k).ramp = none)) ∧
    (∃ (s : State) (p : Fin 16) (k : Fin 64), ((s.apt p).z k).silent ≠ ((s.apt p).z k).want ∧ ((s.apt p).z k).ramp = none ∧
      s.raw - ((s.apt p).z k).since ≥ s.fld (APT_PORT_CFG_ZC_MS p) * msU) ∧
    (∃ (s : State) (p : Fin 16) (a : List Byte) (b : List Byte), 8 ≤ p.val ∧ p.val ≤ 11 ∧ (s.apt p).locked = true) ∧
    (∃ (s : State) (p : Fin 16) (a : List Byte) (b : List Byte), 8 ≤ p.val ∧ p.val ≤ 11 ∧ (s.apt p).locked = true ∧
      tget (fun _ => Lim.zero) s.lims (limKey 0x1B05 p) = Lim.zero) ∧
    (∃ (s : State) (p : Fin 16) (frames : Nat) (a : List Byte) (b : List Byte) (crcOk : Bool),
      (p.val < 8 ∨ 11 < p.val ∨ (s.apt p).locked = false ∨ frames ≠ 192)) ∧
    (∃ (s : State) (p : Fin 16), 12 ≤ p.val ∧ (s.apt p).locked = false ∧ s.txOn p = true ∧ s.refLocked (s.fld (APT_AES_CTRL_REF p)) = true) :=
  ⟨⟨b1.setApt 11 { AptX.zero with good := 31 }, 11, 0, by unfold State.NoPart; decide +kernel, by decide +kernel, by decide +kernel, by decide +kernel,
      by decide +kernel, by decide +kernel, by decide +kernel⟩,
   ⟨apt' 11 id b1, 11, 0, by unfold State.NoPart; decide +kernel, by decide +kernel, by decide +kernel⟩,
   ⟨let x := apt' 7 (fun x => { x with txMask := 5, txR := 2, zs := (List.range 32).map (fun i => (32 + i, zLoud)) }) (up [(APT_PORT_CFG_TX_EN 7, 1), (APT_PORT_CFG_FORMAT 7, 0), (APT_PORT_TX_MASK_MASK 7, 5), (APT_PORT_FRAME_SLOTS 7, 7), (APT_PORT_FRAME_DEPTH 7, 2), (APT_PORT_LEN_TX_LEN 7, 8)] b1); ((x.aptPut 7 4 9).aptPut 7 (x.txWord 7 2) 0x12345678).aptPut 7 (x.txWord 7 3) 0x87654321,
      7, 256, 2, by unfold State.NoPart; decide +kernel, by decide +kernel, by decide +kernel, by decide +kernel, by decide +kernel, by decide +kernel,
      by decide +kernel, by decide +kernel, by decide +kernel, by decide +kernel, by decide +kernel, by decide +kernel, by decide +kernel,
      by decide +kernel, by decide +kernel⟩,
   ⟨apt' 7 (fun x => { x with rxMask := 5, rxW := 7, zs := (List.range 32).map (fun i => (i, zLoud)) }) (up [(APT_PORT_CFG_RX_EN 7, 1), (APT_PORT_CFG_FORMAT 7, 0), (APT_PORT_FRAME_SLOTS 7, 7), (APT_PORT_FRAME_DEPTH 7, 2), (APT_PORT_LEN_RX_LEN 7, 8)] b1),
      7, [(1, 0), (2, 0), (0xFFFFFFF, 0), (4, 0), (5, 0), (6, 0), (7, 0), (8, 0)], 0, by decide +kernel⟩,
   ⟨at' 9000000 (apt' 7 (fun x => { x with zs := [(40, { SlotZ.zero with silent := false })] }) b1), 7, 40, by decide +kernel⟩,
   ⟨apt' 8 id b1, 8, (List.range 24).map (BitVec.ofNat 8), (List.range 24).map (fun i => BitVec.ofNat 8 (i + 100)), by decide +kernel⟩,
   ⟨apt' 11 id b1, 11, [], [], by decide +kernel⟩,
   ⟨apt' 11 id b1, 11, 191, [], [], false, by decide +kernel⟩,
   ⟨up [(APT_PORT_CFG_TX_EN 12, 1)] b1, 12, by decide +kernel⟩⟩

theorem wit_KettleUnits :
    (∃ (s : State) (c : Fin 96) (memErr : Bool), s.kSplit c = true) ∧
    (∃ (s : State) (c : Fin 96) (memErr : Bool) (cause : Nat), s.kSplit c = false ∧ s.kFenced (s.kKey c) = false ∧ cause = (if memErr then 2 else 1)) ∧
    (∃ (s : State) (c : Fin 96), s.kSplit c = true ∧ s.kFenced c = false ∧ (s.kc c).boundary = true ∧ (s.kc c).st ≠ 0) ∧
    (∃ (s : State) (c : Fin 96), (s.kSplit c = false ∨ (s.kc c).st = 0)) ∧
    (∃ (s : State) (c : Fin 96), s.kSplit c = true ∧ s.kFenced c = false ∧ (s.kc c).boundary = true) ∧
    (∃ (s : State) (p : Port) (c : Fin 96) (v : W32), Taken s p (DSP_CORE_CTRL c) v ∧ fieldGet v 0 1 = 1 ∧ s.kFenced (s.kKey c) = false) ∧
    (∃ (s : State) (p : Port) (c : Fin 96) (v : W32), Taken s p (DSP_CORE_CTRL c) v ∧ fieldGet v 1 1 = 1 ∧ s.kFenced (s.kKey c) = true) ∧
    (∃ (s : State) (c : Fin 96), s.bit (DSP_CORE_CTRL_UNFENCE (s.kKey c)) = true ∧ s.kCust c = false ∧ s.bit (DSP_KET_CFG_EN (c / 8)) = true) ∧
    (∃ (s : State) (c : Fin 96) (n : Kern), s.bit (DSP_CORE_CTRL_UNFENCE (s.kKey c)) = true ∧ s.kCust c = true ∧ s.bit (DSP_KET_CFG_EN (c / 8)) = true ∧
      s.kernOf (c / 8) = some n ∧ nbit n.units (if n.split then s.kKey c % 8 else s.kKey c % 8 / 2) = true ∧ n.p.length ≤ 16384 ∧ n.x.length ≤ 65536 ∧
      n.y.length ≤ 65536) ∧
    (∃ (s : State) (c : Fin 96), s.bit (DSP_CORE_CTRL_UNFENCE (s.kKey c)) = true) ∧
    (∃ (s : State) (p : Port) (c : Fin 96) (v : W32), Taken s p (DSP_CORE_CTRL c) v ∧ fieldGet v 2 1 = 1 ∧ s.kCust (s.kKey c) = true ∧
      ((s.kc (s.kKey c)).st = 1 ∨ (s.kc (s.kKey c)).st = 2) ∧ (s.kc (s.kKey c)).boundary = true ∧ (s.kc (s.kKey c)).ih = false) ∧
    (∃ (s : State) (p : Port) (c : Fin 96) (v : W32), Taken s p (DSP_CORE_CTRL c) v ∧ fieldGet v 2 1 = 1 ∧ s.kCust (s.kKey c) = true ∧
      ((s.kc (s.kKey c)).st = 1 ∨ (s.kc (s.kKey c)).st = 2 ∨ (s.kc (s.kKey c)).st = 3) ∧ ((s.kc (s.kKey c)).boundary = false ∨ (s.kc (s.kKey c)).ih = true)) ∧
    (∃ (s : State) (p : Port) (c : Fin 96) (v : W32), Taken s p (DSP_CORE_CTRL c) v ∧ fieldGet v 3 1 = 1 ∧ s.kCust (s.kKey c) = true ∧
      ((s.kc (s.kKey c)).st = 4 ∨ (s.kc (s.kKey c)).st = 5)) :=
  ⟨⟨up [(DSP_KET_CFG_MODE 11, 1)] b1, 95, true, by decide +kernel⟩,
   ⟨b1.setKc 94 { KCore.zero with st := 2, pc := 9 }, 95, true, 2, by decide +kernel⟩,
   ⟨let x := up [(DSP_KET_CFG_MODE 11, 1)] b1; x.setKc 95 { KCore.zero with st := 2, pc := 9 }, 95, by decide +kernel⟩,
   ⟨up [(DSP_KET_CFG_MODE 11, 1)] b1, 95, by decide +kernel⟩,
   ⟨let x := up [(DSP_KET_CFG_MODE 11, 1)] b1; x.setKc 95 { KCore.zero with st := 2, pc := 9 }, 95, by decide +kernel⟩,
   ⟨b1, .hcp, 95, 1, by unfold Taken; decide +kernel, by decide +kernel, by decide +kernel⟩,
   ⟨up [(DSP_CORE_STAT_FENCED 94, 1), (DSP_CORE_STAT_FENCED 95, 1)] b1, .hcp, 95, 2, by unfold Taken; decide +kernel, by decide +kernel,
      by decide +kernel⟩,
   ⟨up [(DSP_KET_CFG_EN 11, 1), (DSP_CORE_STAT_FENCED 94, 1), (DSP_CORE_STAT_FENCED 95, 1), (DSP_CORE_CTRL_UNFENCE 94, 1), (DSP_CORE_CTRL_UNFENCE 95, 1)] (b1.setKc 94 { KCore.zero with st := 2, pc := 9, regs := [(1, 5)] }),
      95, by decide +kernel⟩,
   ⟨let z := up [(DSP_KET_CFG_EN 11, 1), (DSP_KET_CFG_CUST 11, 1), (DSP_KET_CFG_KSEL 11, 7), (DSP_CORE_STAT_FENCED 94, 1), (DSP_CORE_STAT_FENCED 95, 1), (DSP_CORE_CTRL_UNFENCE 94, 1), (DSP_CORE_CTRL_UNFENCE 95, 1)] (b1.setKc 94 { KCore.zero with st := 2, pc := 9, regs := [(1, 5)] }); { z with ket := { z.ket with kerns := [(⟨7, 0x100, false, 15, [1, 2, 3], [4], [5, 6]⟩)] } },
      95, ⟨7, 0x100, false, 15, [1, 2, 3], [4], [5, 6]⟩, by decide +kernel⟩,
   ⟨up [(DSP_CORE_STAT_FENCED 94, 1), (DSP_CORE_STAT_FENCED 95, 1), (DSP_CORE_CTRL_UNFENCE 94, 1), (DSP_CORE_CTRL_UNFENCE 95, 1)] b1, 95,
      by decide +kernel⟩,
   ⟨(up [(DSP_KET_CFG_CUST 11, 1)] b1).setKc 94 { KCore.zero with st := 2, pc := 9, pend := [⟨3, 5, 0, .alu⟩, ⟨0x20007, 5, 0, .mem⟩] }, .hcp, 95, 4,
      by unfold Taken; decide +kernel, by decide +kernel, by decide +kernel, by decide +kernel, by decide +kernel, by decide +kernel⟩,
   ⟨(up [(DSP_KET_CFG_CUST 11, 1)] b1).setKc 94 { KCore.zero with st := 2, pc := 9, slots := 1 }, .hcp, 95, 4, by unfold Taken; decide +kernel,
      by decide +kernel, by decide +kernel, by decide +kernel, by decide +kernel⟩,
   ⟨(up [(DSP_KET_CFG_CUST 11, 1)] b1).setKc 94 { KCore.zero with st := 5, pc := 9, regs := [(1, 5)], cycles := 8 }, .hcp, 95, 8,
      by unfold Taken; decide +kernel, by decide +kernel, by decide +kernel, by decide +kernel⟩⟩

theorem wit_KettleInterrupts :
    (∃ (s : State) (p : Port) (c : Fin 96) (v : W32), Taken s p (DSP_CORE_MBOX c) v) ∧
    (∃ (s : State) (c : Fin 96) (v : Nat), s.kFenced (s.kKey c) = false ∧
      ((s.kc (s.kKey c)).st = 2 ∨ (s.kc (s.kKey c)).st = 1 ∧ (s.kc (s.kKey c)).restEnd ≤ s.raw) ∧ s.kVector (s.kKey c) = some v) ∧
    (∃ (s : State) (c : Fin 96), s.kVector (s.kKey c) = none) ∧
    (∃ (s : State) (c : Fin 96), s.kFenced (s.kKey c) = false ∧ (s.kc (s.kKey c)).st = 1 ∧ (s.kBase (s.kKey c) 0x46).toNat ≠ 0) ∧
    (∃ (s : State) (c : Fin 96), (s.kc (s.kKey c)).st = 1 ∧ (s.kc (s.kKey c)).restEnd ≤ s.raw) :=
  ⟨⟨b1, .hcp, 95, 0x1234, by unfold Taken; decide +kernel⟩,
   ⟨b1.setKc 94 { KCore.zero with st := 2, pc := 9, req := 0xA0, regs := [(0x43, 0x8000), (0x44, 0x100), (0x45, 0xFF)], pend := [⟨3, 5, 0, .alu⟩], loops := [⟨3, 12, 0, none⟩] },
      95, 5, by decide +kernel⟩,
   ⟨b1.setKc 94 { KCore.zero with st := 2, pc := 9, req := 0xA0 }, 95, by decide +kernel⟩,
   ⟨b1.setKc 94 { KCore.zero with st := 1, regs := [(0x46, 700)] }, 95, by decide +kernel⟩,
   ⟨at' 50 (b1.setKc 94 { KCore.zero with st := 1, restEnd := 7 }), 95, by decide +kernel⟩⟩

theorem wit_KettleMemories :
    (∃ (s : State) (c : Fin 96) (n : Fin 4) (w : Nat → Nat) (len : Nat) (rows : Nat) (a : Nat → Nat → Nat × Nat) (b : Nat → Nat → Nat × Nat),
      ((s.kc (s.kKey c)).ch n).addr ≠ 0 ∧ ((s.kc (s.kKey c)).ch n).addr + 7 ≤ 0xFFFF ∧ s.kFenced (s.kKey c) = false ∧
      (∀ i, w i = (tget (fun _ => 0) s.ket.x (s.kKey c * 65536 + (((s.kc (s.kKey c)).ch n).addr + i) % 65536)).toNat) ∧ w 4 = 4 * len ∧ 0 < len ∧
      len ≤ 16384 ∧ w 5 % 65536 = rows ∧ 0 < rows ∧ w 5 / 65536 ≤ 3 ∧
      (∀ r i, r < rows → i < len → s.dmaAddr (s.kKey c) (ofSigned 64 (((w 0 + 2 ^ 32 * w 1 : Nat) : Int) + r * toSigned 32 (w 6)) + 4 * i) 4 = some (a r i) ∧ s.dmaAddr (s.kKey c) (ofSigned 64 (((w 2 + 2 ^ 32 * w 3 : Nat) : Int) + r * toSigned 32 (w 7)) + 4 * i) 4 = some (b r i)) ∧
      (∀ r i q j, r < rows → i < len → q < rows → j < len → a r i ≠ b q j ∧ (b r i = b q j → r = q ∧ i = j)) ∧
      (∀ r i, r < rows → i < len → (a r i).1 = 0 → s.poisoned (a r i).2 4 = false)) ∧
    (∃ (s : State) (c : Fin 96) (n : Fin 4) (bad : Option Nat) (w : Nat → Nat), ((s.kc (s.kKey c)).ch n).addr ≠ 0 ∧ s.kFenced (s.kKey c) = false ∧
      (∀ i, w i = (tget (fun _ => 0) s.ket.x (s.kKey c * 65536 + (((s.kc (s.kKey c)).ch n).addr + i) % 65536)).toNat) ∧
      (((s.kc (s.kKey c)).ch n).addr + 7 > 0xFFFF ∨ w 4 = 0 ∨ w 4 > 65536 ∨ w 4 % 4 ≠ 0 ∨ w 5 % 65536 = 0 ∨ w 5 / 65536 > 3 ∨ bad = some 0)) ∧
    (∃ (s : State) (p : Port) (sp : Fin 16) (k : Fin 16) (c : Fin 8) (v : W32) (bad : Bool),
      v = BitVec.ofNat 32 (1 * 2 ^ 28 + sp * 2 ^ 24 + k * 2 ^ 16 + c * 2 ^ 10) ∧ Taken s p DSP_WIN_CMD v ∧ (s.dspAddr v 0).isSome = true) ∧
    (∃ (s : State) (p : Port) (sp : Fin 16) (k : Fin 16) (c : Fin 8) (v : W32) (bad : Bool),
      v = BitVec.ofNat 32 (1 * 2 ^ 28 + sp * 2 ^ 24 + k * 2 ^ 16 + c * 2 ^ 10) ∧ Taken s p DSP_WIN_CMD v ∧ s.dspAddr v 0 = none) ∧
    (∃ (s : State) (p : Port) (sp : Fin 16) (k : Fin 16) (c : Fin 8) (v : W32), v = BitVec.ofNat 32 (2 * 2 ^ 28 + sp * 2 ^ 24 + k * 2 ^ 16 + c * 2 ^ 10) ∧
      Taken s p DSP_WIN_CMD v ∧ (s.dspAddr v 0).isSome = true ∧ s.bit (DSP_KET_CFG_CUST k) = true ∧
      (sp.val = 1 ∨ ((s.kc (s.kKey (8 * k + c))).st ≠ 2 ∧ (s.kc (s.kKey (8 * k + c))).st ≠ 3))) ∧
    (∃ (s : State) (p : Port) (sp : Fin 16) (k : Fin 16) (c : Fin 8) (v : W32), v = BitVec.ofNat 32 (2 * 2 ^ 28 + sp * 2 ^ 24 + k * 2 ^ 16 + c * 2 ^ 10) ∧
      Taken s p DSP_WIN_CMD v ∧
      (s.dspAddr v 0 = none ∨ s.bit (DSP_KET_CFG_CUST k) = false ∨ (sp.val ≠ 1 ∧ ((s.kc (s.kKey (8 * k + c))).st = 2 ∨ (s.kc (s.kKey (8 * k + c))).st = 3)))) :=
  ⟨⟨dma95, 95, 3, fun i => (tget (fun _ => 0) (dma95).ket.x (94 * 65536 + (0xFFF0 + i) % 65536)).toNat, 2, 1, fun _ i => (2, 94 * 65536 + i),
      fun _ i => (1, 11 * 524288 + 3 + i), by decide +kernel, by decide +kernel, by decide +kernel, fun _ => rfl, by decide +kernel, by decide +kernel,
      by decide +kernel, by decide +kernel, by decide +kernel, by decide +kernel,
      by intro r i hr hi; obtain rfl : r = 0 := (by omega); revert hi; revert i; decide +kernel,
      by intro r i q j hr hi hq hj; obtain rfl : r = 0 := (by omega); obtain rfl : q = 0 := (by omega); revert hj; revert j; revert hi; revert i; decide +kernel,
      by intro r i hr hi; obtain rfl : r = 0 := (by omega); revert hi; revert i; decide +kernel⟩,
   ⟨{ b1 with ket := { b1.ket with cores := [(94, { KCore.zero with dma := [(3, ⟨0xFFF0, false⟩)] })] } }, 95, 3, none,
      fun i => (tget (fun _ => 0) ({ b1 with ket := { b1.ket with cores := [(94, { KCore.zero with dma := [(3, ⟨0xFFF0, false⟩)] })] } }).ket.x (94 * 65536 + (0xFFF0 + i) % 65536)).toNat,
      by decide +kernel, by decide +kernel, fun _ => rfl, by decide +kernel⟩,
   ⟨up [(DSP_WIN_ADDR_WORD, 65472)] { b1 with ket := { b1.ket with y := [(94 * 65536 + 65535, 77)] } }, .hcp, 3, 11, 7,
      BitVec.ofNat 32 (1 * 2 ^ 28 + (3) * 2 ^ 24 + (11) * 2 ^ 16 + (7) * 2 ^ 10), false, by decide +kernel, by unfold Taken; decide +kernel,
      by decide +kernel⟩,
   ⟨b1, .hcp, 5, 11, 7, BitVec.ofNat 32 (1 * 2 ^ 28 + (5) * 2 ^ 24 + (11) * 2 ^ 16 + (7) * 2 ^ 10), false, by decide +kernel,
      by unfold Taken; decide +kernel, by decide +kernel⟩,
   ⟨up [(DSP_KET_CFG_CUST 11, 1), (DSP_WIN_ADDR_WORD, 524224)] (b1.wr (DSP_WIN_DATA 63) 5), .hcp, 1, 11, 7,
      BitVec.ofNat 32 (2 * 2 ^ 28 + 1 * 2 ^ 24 + (11) * 2 ^ 16 + (7) * 2 ^ 10), by decide +kernel, by unfold Taken; decide +kernel, by decide +kernel,
      by decide +kernel, by decide +kernel⟩,
   ⟨up [(DSP_WIN_ADDR_WORD, 524224)] b1, .hcp, 1, 11, 7, BitVec.ofNat 32 (2 * 2 ^ 28 + (1) * 2 ^ 24 + (11) * 2 ^ 16 + (7) * 2 ^ 10), by decide +kernel,
      by unfold Taken; decide +kernel, by decide +kernel⟩⟩

theorem wit_KettleInteger :
    (∃ (s : State) (c : Fin 96) (code : Nat) (sat : Bool) (d : Nat) (a : Nat) (b : Option Nat) (imm : Int) (cond : Nat) (words : Nat) (n : Nat) (x : W32) (y : W32) (e : Int) (clamps : Bool),
      Issues s c (.alu code sat d a b imm cond) words ∧ code ≤ 15 ∧ x = s.kD (s.kKey c) a ∧
      y = (match b with | some r => s.kD (s.kKey c) r | none => BitVec.ofInt 32 imm) ∧ n = y.toNat % 32 ∧
      e = (match code with | 0 => x.toInt + y.toInt | 1 => x.toInt - y.toInt | 2 => -x.toInt | 3 => (x.toInt.natAbs : Int) | 4 => x.toInt * y.toInt | 13 => x.toInt - y.toInt | _ => x.toInt * 2 ^ n) ∧
      clamps = (sat && [0, 1, 2, 3, 4, 8].contains code)) ∧
    (∃ (s : State) (c : Fin 96) (sat : Bool) (d : Nat) (a : Nat) (r : Nat) (imm : Int) (cond : Nat) (words : Nat),
      Issues s c (.alu 16 sat d a (some r) imm cond) words) :=
  ⟨⟨kp 7 [eAlu 0 0 4 2 3] [(2, 0xFFFFFFFF), (3, 1)] (id) b1, 95, 0, false, 4, 2, some 3, toSigned 11 (fieldGet (BitVec.ofNat 32 (eAlu 0 0 4 2 3)) 0 11),
      fieldGet (BitVec.ofNat 32 (eAlu 0 0 4 2 3)) 2 4, 1, ((1) : W32).toNat % 32, 0xFFFFFFFF, 1,
      match 0 with | 0 => ((0xFFFFFFFF) : W32).toInt + ((1) : W32).toInt | 1 => ((0xFFFFFFFF) : W32).toInt - ((1) : W32).toInt | 2 => -((0xFFFFFFFF) : W32).toInt | 3 => (((0xFFFFFFFF) : W32).toInt.natAbs : Int) | 4 => ((0xFFFFFFFF) : W32).toInt * ((1) : W32).toInt | 13 => ((0xFFFFFFFF) : W32).toInt - ((1) : W32).toInt | _ => ((0xFFFFFFFF) : W32).toInt * 2 ^ (((1) : W32).toNat % 32),
      (false) && [0, 1, 2, 3, 4, 8].contains (0), by unfold Issues; decide +kernel, by decide +kernel, by decide +kernel, by decide +kernel,
      by decide +kernel, by decide +kernel, by decide +kernel⟩,
   ⟨kp 7 [eAlu 16 0 4 2 3 + 4 * 5] [(2, 9), (3, 8), (0x50, 4)] (id) b1, 95, false, 4, 2, 3,
      toSigned 11 (fieldGet (BitVec.ofNat 32 (eAlu 16 0 4 2 3 + 4 * 5)) 0 11), 5, 1, by unfold Issues; decide +kernel⟩⟩

theorem wit_KettleFloat :
    (∃ (s : State) (c : Fin 96) (code : Nat) (d : Nat) (a : Nat) (b : Nat) (words : Nat) (sat : Bool) (r : FRes), Issues s c (.fp code sat d a b) words ∧
      code ≤ 12 ∧ code ≠ 7 ∧ r = fpSem code (s.kD (s.kKey c) a) (s.kD (s.kKey c) b)) ∧
    (∃ (s : State) (c : Fin 96) (d : Nat) (a : Nat) (b : Nat) (words : Nat) (sat : Bool), Issues s c (.fp 7 sat d a b) words) ∧
    (∃ (s : State) (c : Fin 96) (sat : Bool) (neg : Bool) (clr : Bool) (d : Nat) (a : Nat) (b : Nat) (words : Nat) (r : FRes),
      Issues s c (.mac sat neg clr d a b) words ∧ r = fpMac neg (if clr then 0 else s.kRead (s.kKey c) d .acc) (s.kD (s.kKey c) a) (s.kD (s.kKey c) b)) ∧
    (∃ (s : State) (c : Fin 96) (sat : Bool) (neg : Bool) (clr : Bool) (px : Bool) (py : Bool) (d : Nat) (x : Nat) (y : Nat) (words : Nat) (r : FRes),
      Issues s c (.macm sat neg clr d x px y py) words ∧ (s.kA (s.kKey c) x).toNat ≤ 0xFFFF ∧ (s.kA (s.kKey c) y).toNat ≤ 0xFFFF ∧
      r = fpMac neg (if clr then 0 else s.kRead (s.kKey c) d .acc) (s.kMem (s.kKey c) 0 (s.kA (s.kKey c) x).toNat) (s.kMem (s.kKey c) 1 (s.kA (s.kKey c) y).toNat)) ∧
    (∃ (s : State) (c : Fin 96) (sat : Bool) (neg : Bool) (clr : Bool) (px : Bool) (py : Bool) (d : Nat) (x : Nat) (y : Nat) (words : Nat),
      Issues s c (.macm sat neg clr d x px y py) words ∧ ((s.kA (s.kKey c) x).toNat > 0xFFFF ∨ (s.kA (s.kKey c) y).toNat > 0xFFFF)) :=
  ⟨⟨kp 7 [eFp 0 0 4 2 3] [(2, 0x3F800000), (3, 0xC0000000)] (id) b1, 95, 0, 4, 2, 3, 1, false,
      fpSem (0) ((kp 7 [eFp 0 0 4 2 3] [(2, 0x3F800000), (3, 0xC0000000)] (id) b1).kD ((kp 7 [eFp 0 0 4 2 3] [(2, 0x3F800000), (3, 0xC0000000)] (id) b1).kKey (95)) (2)) ((kp 7 [eFp 0 0 4 2 3] [(2, 0x3F800000), (3, 0xC0000000)] (id) b1).kD ((kp 7 [eFp 0 0 4 2 3] [(2, 0x3F800000), (3, 0xC0000000)] (id) b1).kKey (95)) (3)),
      by unfold Issues; decide +kernel, by decide +kernel, by decide +kernel, by decide +kernel⟩,
   ⟨kp 7 [eFp 7 0 0 2 3] [(2, 5), (3, 6)] (id) b1, 95, 0, 2, 3, 1, false, by unfold Issues; decide +kernel⟩,
   ⟨kp 7 [eMac 1 1 0 4 2 3] [(2, 0x40000000), (3, 0x40400000), (4, 0x3F800000)] (id) b1, 95, true, true, false, 4, 2, 3, 1,
      fpMac (true) (if (false) then 0 else (kp 7 [eMac 1 1 0 4 2 3] [(2, 0x40000000), (3, 0x40400000), (4, 0x3F800000)] (id) b1).kRead ((kp 7 [eMac 1 1 0 4 2 3] [(2, 0x40000000), (3, 0x40400000), (4, 0x3F800000)] (id) b1).kKey (95)) (4) .acc) ((kp 7 [eMac 1 1 0 4 2 3] [(2, 0x40000000), (3, 0x40400000), (4, 0x3F800000)] (id) b1).kD ((kp 7 [eMac 1 1 0 4 2 3] [(2, 0x40000000), (3, 0x40400000), (4, 0x3F800000)] (id) b1).kKey (95)) (2)) ((kp 7 [eMac 1 1 0 4 2 3] [(2, 0x40000000), (3, 0x40400000), (4, 0x3F800000)] (id) b1).kD ((kp 7 [eMac 1 1 0 4 2 3] [(2, 0x40000000), (3, 0x40400000), (4, 0x3F800000)] (id) b1).kKey (95)) (3)),
      by unfold Issues; decide +kernel, by decide +kernel⟩,
   ⟨let z := kp 7 [eMacM 0 0 1 4 2 1 3 1] [(0x22, 0xFFFF), (0x23, 5), (0x32, 0x40010003), (0x33, 0x3FFF0000)] (id) b1; { z with ket := { z.ket with x := [(94 * 65536 + 0xFFFF, 0x40000000)], y := [(94 * 65536 + 5, 0x40400000)] } },
      95, false, false, true, true, true, 4, 2, 3, 1,
      fpMac (false) (if (true) then 0 else (let z := kp 7 [eMacM 0 0 1 4 2 1 3 1] [(0x22, 0xFFFF), (0x23, 5), (0x32, 0x40010003), (0x33, 0x3FFF0000)] (id) b1; { z with ket := { z.ket with x := [(94 * 65536 + 0xFFFF, 0x40000000)], y := [(94 * 65536 + 5, 0x40400000)] } }).kRead ((let z := kp 7 [eMacM 0 0 1 4 2 1 3 1] [(0x22, 0xFFFF), (0x23, 5), (0x32, 0x40010003), (0x33, 0x3FFF0000)] (id) b1; { z with ket := { z.ket with x := [(94 * 65536 + 0xFFFF, 0x40000000)], y := [(94 * 65536 + 5, 0x40400000)] } }).kKey (95)) (4) .acc) ((let z := kp 7 [eMacM 0 0 1 4 2 1 3 1] [(0x22, 0xFFFF), (0x23, 5), (0x32, 0x40010003), (0x33, 0x3FFF0000)] (id) b1; { z with ket := { z.ket with x := [(94 * 65536 + 0xFFFF, 0x40000000)], y := [(94 * 65536 + 5, 0x40400000)] } }).kMem ((let z := kp 7 [eMacM 0 0 1 4 2 1 3 1] [(0x22, 0xFFFF), (0x23, 5), (0x32, 0x40010003), (0x33, 0x3FFF0000)] (id) b1; { z with ket := { z.ket with x := [(94 * 65536 + 0xFFFF, 0x40000000)], y := [(94 * 65536 + 5, 0x40400000)] } }).kKey (95)) 0 ((let z := kp 7 [eMacM 0 0 1 4 2 1 3 1] [(0x22, 0xFFFF), (0x23, 5), (0x32, 0x40010003), (0x33, 0x3FFF0000)] (id) b1; { z with ket := { z.ket with x := [(94 * 65536 + 0xFFFF, 0x40000000)], y := [(94 * 65536 + 5, 0x40400000)] } }).kA ((let z := kp 7 [eMacM 0 0 1 4 2 1 3 1] [(0x22, 0xFFFF), (0x23, 5), (0x32, 0x40010003), (0x33, 0x3FFF0000)] (id) b1; { z with ket := { z.ket with x := [(94 * 65536 + 0xFFFF, 0x40000000)], y := [(94 * 65536 + 5, 0x40400000)] } }).kKey (95)) (2)).toNat) ((let z := kp 7 [eMacM 0 0 1 4 2 1 3 1] [(0x22, 0xFFFF), (0x23, 5), (0x32, 0x40010003), (0x33, 0x3FFF0000)] (id) b1; { z with ket := { z.ket with x := [(94 * 65536 + 0xFFFF, 0x40000000)], y := [(94 * 65536 + 5, 0x40400000)] } }).kMem ((let z := kp 7 [eMacM 0 0 1 4 2 1 3 1] [(0x22, 0xFFFF), (0x23, 5), (0x32, 0x40010003), (0x33, 0x3FFF0000)] (id) b1; { z with ket := { z.ket with x := [(94 * 65536 + 0xFFFF, 0x40000000)], y := [(94 * 65536 + 5, 0x40400000)] } }).kKey (95)) 1 ((let z := kp 7 [eMacM 0 0 1 4 2 1 3 1] [(0x22, 0xFFFF), (0x23, 5), (0x32, 0x40010003), (0x33, 0x3FFF0000)] (id) b1; { z with ket := { z.ket with x := [(94 * 65536 + 0xFFFF, 0x40000000)], y := [(94 * 65536 + 5, 0x40400000)] } }).kA ((let z := kp 7 [eMacM 0 0 1 4 2 1 3 1] [(0x22, 0xFFFF), (0x23, 5), (0x32, 0x40010003), (0x33, 0x3FFF0000)] (id) b1; { z with ket := { z.ket with x := [(94 * 65536 + 0xFFFF, 0x40000000)], y := [(94 * 65536 + 5, 0x40400000)] } }).kKey (95)) (3)).toNat),
      by unfold Issues; decide +kernel, by decide +kernel, by decide +kernel, by decide +kernel⟩,
   ⟨kp 7 [eMacM 0 0 1 4 2 1 3 1] [(0x22, 0x10000), (0x23, 5)] (id) b1, 95, false, false, true, true, true, 4, 2, 3, 1, by unfold Issues; decide +kernel,
      by decide +kernel⟩⟩

theorem wit_KettleMoves :
    (∃ (s : State) (c : Fin 96) (st : Bool) (bus : Nat) (am : Nat) (d : Nat) (a : Nat) (words : Nat) (ad : Nat) (disp : Int),
      Issues s c (.ls st bus am d a disp) words ∧ am ≤ 3 ∧ ad = (if am = 2 then s.kA (s.kKey c) a + BitVec.ofInt 32 disp else s.kA (s.kKey c) a).toNat ∧
      ad ≤ 0xFFFF) ∧
    (∃ (s : State) (c : Fin 96) (st : Bool) (bus : Nat) (am : Nat) (d : Nat) (a : Nat) (words : Nat) (ad : Nat) (disp : Int),
      Issues s c (.ls st bus am d a disp) words ∧ am ≤ 3 ∧ ad = (if am = 2 then s.kA (s.kKey c) a + BitVec.ofInt 32 disp else s.kA (s.kKey c) a).toNat ∧
      ad > 0xFFFF) ∧
    (∃ (s : State) (c : Fin 96) (code : Nat) (rd : Nat) (f : Nat) (words : Nat), Issues s c (.mov code rd f) words ∧ (rd < 0x40 ∨ rd = 0x44 ∨ rd = 0x45)) ∧
    (∃ (s : State) (c : Fin 96) (code : Nat) (rd : Nat) (f : Nat) (words : Nat), Issues s c (.mov code rd f) words ∧ (rd = 0x40 ∨ rd = 0x41)) ∧
    (∃ (s : State) (c : Fin 96) (code : Nat) (f : Nat) (words : Nat), Issues s c (.mov code 0x42 f) words) ∧
    (∃ (s : State) (c : Fin 96) (code : Nat) (f : Nat) (words : Nat), Issues s c (.mov code 0x43 f) words ∧
      (∀ w, w ∈ (s.kc (s.kKey c)).pend → w.reg ≠ 0x43)) ∧
    (∃ (s : State) (c : Fin 96) (code : Nat) (f : Nat) (words : Nat), Issues s c (.mov code 0x46 f) words ∧
      (∀ w, w ∈ (s.kc (s.kKey c)).pend → w.reg ≠ 0x46)) ∧
    (∃ (s : State) (c : Fin 96) (code : Nat) (n : Nat) (f : Nat) (words : Nat), Issues s c (.mov code (0x48 + n) f) words ∧ n < 4) ∧
    (∃ (s : State) (c : Fin 96) (code : Nat) (f : Nat) (words : Nat), Issues s c (.mov code 0x4D f) words) :=
  ⟨⟨let z := kp 7 [eLs 0 1 0 4 2 0] [(0x22, 0xFFFF), (0x32, 0x00050000), (4, 9)] (id) b1; { z with ket := { z.ket with y := [(94 * 65536 + 0xFFFE, 77), (94 * 65536 + 0xFFFF, 78)] } },
      95, false, 1, 0, 4, 2, 1,
      (if (0) = 2 then (let z := kp 7 [eLs 0 1 0 4 2 0] [(0x22, 0xFFFF), (0x32, 0x00050000), (4, 9)] (id) b1; { z with ket := { z.ket with y := [(94 * 65536 + 0xFFFE, 77), (94 * 65536 + 0xFFFF, 78)] } }).kA ((let z := kp 7 [eLs 0 1 0 4 2 0] [(0x22, 0xFFFF), (0x32, 0x00050000), (4, 9)] (id) b1; { z with ket := { z.ket with y := [(94 * 65536 + 0xFFFE, 77), (94 * 65536 + 0xFFFF, 78)] } }).kKey (95)) (2) + BitVec.ofInt 32 (0) else (let z := kp 7 [eLs 0 1 0 4 2 0] [(0x22, 0xFFFF), (0x32, 0x00050000), (4, 9)] (id) b1; { z with ket := { z.ket with y := [(94 * 65536 + 0xFFFE, 77), (94 * 65536 + 0xFFFF, 78)] } }).kA ((let z := kp 7 [eLs 0 1 0 4 2 0] [(0x22, 0xFFFF), (0x32, 0x00050000), (4, 9)] (id) b1; { z with ket := { z.ket with y := [(94 * 65536 + 0xFFFE, 77), (94 * 65536 + 0xFFFF, 78)] } }).kKey (95)) (2)).toNat,
      0, by unfold Issues; decide +kernel, by decide +kernel, by decide +kernel, by decide +kernel⟩,
   ⟨kp 7 [eLs 0 1 0 4 2 0] [(0x22, 0x10001), (0x32, 0x00050000), (4, 9)] (id) b1, 95, false, 1, 0, 4, 2, 1,
      (if (0) = 2 then (kp 7 [eLs 0 1 0 4 2 0] [(0x22, 0x10001), (0x32, 0x00050000), (4, 9)] (id) b1).kA ((kp 7 [eLs 0 1 0 4 2 0] [(0x22, 0x10001), (0x32, 0x00050000), (4, 9)] (id) b1).kKey (95)) (2) + BitVec.ofInt 32 (0) else (kp 7 [eLs 0 1 0 4 2 0] [(0x22, 0x10001), (0x32, 0x00050000), (4, 9)] (id) b1).kA ((kp 7 [eLs 0 1 0 4 2 0] [(0x22, 0x10001), (0x32, 0x00050000), (4, 9)] (id) b1).kKey (95)) (2)).toNat,
      0, by unfold Issues; decide +kernel, by decide +kernel, by decide +kernel, by decide +kernel⟩,
   ⟨kp 7 [eMov 0 5 (0x31 * 256)] [(0x31, 0x12345678)] (id) b1, 95, 0, 5, 0x31, 1, by unfold Issues; decide +kernel, by decide +kernel⟩,
   ⟨kp 7 [eMov 0 65 (0x31 * 256)] [(0x31, 0x12345678)] (id) b1, 95, 0, 65, 0x31, 1, by unfold Issues; decide +kernel, by decide +kernel⟩,
   ⟨kp 7 [eMov 0 66 (0x31 * 256)] [(0x31, 0x12345678)] (id) b1, 95, 0, 0x31, 1, by unfold Issues; decide +kernel⟩,
   ⟨kp 7 [eMov 0 67 (0x31 * 256)] [(0x31, 0x12345678)] (id) b1, 95, 0, 0x31, 1, by unfold Issues; decide +kernel, by decide +kernel⟩,
   ⟨kp 7 [eMov 0 70 (0x31 * 256)] [(0x31, 0x12345678)] (id) b1, 95, 0, 0x31, 1, by unfold Issues; decide +kernel, by decide +kernel⟩,
   ⟨kp 7 [eMov 0 75 (0x31 * 256)] [(0x31, 0x12345678)] (fun k => { k with dma := [(3, ⟨0xFFF0, false⟩)] }) b1, 95, 0, 3, 0x31, 1,
      by unfold Issues; decide +kernel, by decide +kernel⟩,
   ⟨kp 7 [eMov 0 77 (0x31 * 256)] [(0x31, 0xFFFFFFAA)] (id) b1, 95, 0, 0x31, 1, by unfold Issues; decide +kernel⟩⟩

theorem wit_KettleFlow :
    (∃ (s : State) (c : Fin 96) (words : Nat), Issues s c .nop words) ∧
    (∃ (s : State) (c : Fin 96) (cond : Nat) (words : Nat) (disp : Int), Issues s c (.bra cond disp) words) ∧
    (∃ (s : State) (c : Fin 96) (tgt : Nat) (words : Nat) (m : Nat) (n : Nat), Issues s c (.call tgt) words ∧
      m = (if fieldGet (s.kFetch (s.kKey c) ((s.kc (s.kKey c)).pc + 1)) 28 4 = 15 then 2 else 1) ∧
      n = (if fieldGet (s.kFetch (s.kKey c) ((s.kc (s.kKey c)).pc + 1 + m)) 28 4 = 15 then 2 else 1)) ∧
    (∃ (s : State) (c : Fin 96) (a : Nat) (words : Nat), Issues s c (.jmp a) words) ∧
    (∃ (s : State) (c : Fin 96) (words : Nat), Issues s c .rti words) ∧
    (∃ (s : State) (c : Fin 96) (words : Nat), Issues s c .wait words ∧ (s.kBase (s.kKey c) 0x46).toNat ≠ 1) ∧
    (∃ (s : State) (c : Fin 96) (n : Nat) (words : Nat), Issues s c (.repI n) words ∧ 0 < n) ∧
    (∃ (s : State) (c : Fin 96) (i : KI) (d : Nat) (words : Nat) (m : Nat), Issues s c i words ∧
      (i = .repI 0 ∨ (i = .repD d ∧ (s.kRead (s.kKey c) d .rep).toNat % 65536 = 0)) ∧
      m = (if fieldGet (s.kFetch (s.kKey c) ((s.kc (s.kKey c)).pc + 1)) 28 4 = 15 then 2 else 1)) ∧
    (∃ (s : State) (c : Fin 96) (d : Nat) (words : Nat), Issues s c (.repD d) words ∧ (s.kRead (s.kKey c) d .rep).toNat % 65536 ≠ 0) ∧
    (∃ (s : State) (c : Fin 96) (k : Nat) (len : Nat) (words : Nat), Issues s c (.loop k len) words ∧ k ≤ 1 ∧ (s.kc (s.kKey c)).loops.length ≤ 1 ∧
      (∀ l, l ∈ (s.kc (s.kKey c)).loops → l.lc ≠ k ∧ (s.kc (s.kKey c)).pc + len ≤ l.last) ∧ (s.kRead (s.kKey c) (0x40 + k) .lp).toNat % 65536 ≠ 0) ∧
    (∃ (s : State) (c : Fin 96) (k : Nat) (len : Nat) (words : Nat), Issues s c (.loop k len) words ∧ k ≤ 1 ∧ (s.kc (s.kKey c)).loops.length ≤ 1 ∧
      (∀ l, l ∈ (s.kc (s.kKey c)).loops → l.lc ≠ k ∧ (s.kc (s.kKey c)).pc + len < l.last) ∧ (s.kRead (s.kKey c) (0x40 + k) .lp).toNat % 65536 = 0) ∧
    (∃ (s : State) (c : Fin 96) (k : Nat) (len : Nat) (words : Nat), Issues s c (.loop k len) words ∧
      (2 ≤ (s.kc (s.kKey c)).loops.length ∨ ∃ l, (s.kc (s.kKey c)).loops = [l] ∧ (l.lc = k ∨ l.last < (s.kc (s.kKey c)).pc + len))) :=
  ⟨⟨kp 7 [0] [] (id) b1, 95, 1, by unfold Issues; decide +kernel⟩,
   ⟨kp 7 [0x01100000 + 0xFFF9] [(0x50, 0)] (id) b1, 95, 1, 1, -7, by unfold Issues; decide +kernel⟩,
   ⟨kp 7 [0x02003FFF, 0xF0000000, 0, 0] [] (id) b1, 95, 0x3FFF, 1, 2, 1, by unfold Issues; decide +kernel, by decide +kernel, by decide +kernel⟩,
   ⟨kp 7 [0x0300000F] [(0x2F, 0x1234567)] (id) b1, 95, 15, 1, by unfold Issues; decide +kernel⟩,
   ⟨kp 7 [0x04000000] [(5, 6), (0x43, 0x8080)] (fun k => { k with st := 3, ih := true, shadow := ⟨55, 0x80C5, 7, 8, [⟨3, 9, 1, none⟩]⟩ }) b1, 95, 1,
      by unfold Issues; decide +kernel⟩,
   ⟨kp 7 [0x05000000] [] (fun k => { k with inv := 999 }) (up [(DSP_CORE_STAT_REST 94, 4), (DSP_CORE_STAT_REST 95, 4)] b1), 95, 1,
      by unfold Issues; decide +kernel, by decide +kernel⟩,
   ⟨kp 7 [0x6000003F, 0] [] (id) b1, 95, 63, 1, by unfold Issues; decide +kernel, by decide +kernel⟩,
   ⟨kp 7 [0x60000000, 0] [] (id) b1, 95, .repI 0, 3, 1, 1, by unfold Issues; decide +kernel, by decide +kernel, by decide +kernel⟩,
   ⟨kp 7 [0x61000003, 0] [(3, 0x1FFFF)] (id) b1, 95, 3, 1, by unfold Issues; decide +kernel, by decide +kernel⟩,
   ⟨kp 7 [0x62800005, 0] [(0x41, 3)] (id) b1, 95, 1, 5, 1, by unfold Issues; decide +kernel, by decide +kernel, by decide +kernel, by decide +kernel,
      by decide +kernel⟩,
   ⟨kp 7 [0x62800005, 0] [] (id) b1, 95, 1, 5, 1, by unfold Issues; decide +kernel, by decide +kernel, by decide +kernel, by decide +kernel,
      by decide +kernel⟩,
   ⟨kp 7 [0x62800005, 0] [] (fun k => { k with loops := [⟨3, 90, 0, none⟩, ⟨2, 95, 1, none⟩] }) b1, 95, 1, 5, 1, by unfold Issues; decide +kernel,
      Or.inl (by decide +kernel)⟩⟩

theorem wit_KettleSearch :
    (∃ (s : State) (c : Fin 96) (int : Bool) (mn : Bool) (ix : Bool) (dm : Nat) (di : Nat) (ds : Nat) (a : Nat) (words : Nat) (v : W32) (m : W32),
      Issues s c (.srch int mn ix dm di ds a) words ∧ v = s.kD (s.kKey c) ds ∧ m = s.kD (s.kKey c) dm) ∧
    (∃ (s : State) (c : Fin 96) (int : Bool) (mn : Bool) (ix : Bool) (pm : Bool) (dm : Nat) (di : Nat) (bus : Nat) (a : Nat) (words : Nat) (v : W32) (m : W32),
      Issues s c (.srchM int mn ix dm di bus a pm) words ∧ (s.kA (s.kKey c) a).toNat ≤ 0xFFFF ∧ v = s.kMem (s.kKey c) bus (s.kA (s.kKey c) a).toNat ∧
      m = s.kD (s.kKey c) dm) ∧
    (∃ (s : State) (c : Fin 96) (int : Bool) (mn : Bool) (ix : Bool) (pm : Bool) (dm : Nat) (di : Nat) (bus : Nat) (a : Nat) (words : Nat),
      Issues s c (.srchM int mn ix dm di bus a pm) words ∧ (s.kA (s.kKey c) a).toNat > 0xFFFF) ∧
    (∃ (s : State) (c : Fin 96) (x : Option KMove) (y : Option KMove) (op : KI) (words : Nat), Issues s c (.par x y op) words ∧
      s.kMoveBad (s.kKey c) x = false ∧ s.kMoveBad (s.kKey c) y = false) ∧
    (∃ (s : State) (c : Fin 96) (x : Option KMove) (y : Option KMove) (op : KI) (words : Nat), Issues s c (.par x y op) words ∧
      (s.kMoveBad (s.kKey c) x = true ∨ s.kMoveBad (s.kKey c) y = true)) ∧
    (∃ (s : State) (c : Fin 96), ((s.kc (s.kKey c)).st = 2 ∨ (s.kc (s.kKey c)).st = 3) ∧ s.kFenced (s.kKey c) = false ∧ s.blockRuns (90 + c / 8) = true ∧
      (s.kc (s.kKey c)).pc ≤ 0x3FFF ∧ decK (s.kFetch (s.kKey c) (s.kc (s.kKey c)).pc) (s.kFetch (s.kKey c) ((s.kc (s.kKey c)).pc + 1)) = none) ∧
    (∃ (s : State) (c : Fin 96), ((s.kc (s.kKey c)).st = 2 ∨ (s.kc (s.kKey c)).st = 3) ∧ s.kFenced (s.kKey c) = false ∧ s.blockRuns (90 + c / 8) = true ∧
      (s.kc (s.kKey c)).pc > 0x3FFF) ∧
    (∃ (s : State) (c : Fin 96) (n : Nat) (words : Nat), ((s.kc (s.kKey c)).st = 2 ∨ (s.kc (s.kKey c)).st = 3) ∧ s.kFenced (s.kKey c) = false ∧
      s.blockRuns (90 + c / 8) = true ∧ (s.kc (s.kKey c)).pc ≤ 0x3FFF ∧
      decK (s.kFetch (s.kKey c) (s.kc (s.kKey c)).pc) (s.kFetch (s.kKey c) ((s.kc (s.kKey c)).pc + 1)) = some (.repI n, words) ∧
      (s.kc (s.kKey c)).marked = true) :=
  ⟨⟨kp 7 [eSrch 1 0 1 1 2 3 4] [(1, 5), (3, 0xFFFFFFFF), (0x24, 99)] (id) b1, 95, true, false, true, 1, 2, 3, 4, 1, 0xFFFFFFFF, 5,
      by unfold Issues; decide +kernel, by decide +kernel, by decide +kernel⟩,
   ⟨let z := kp 7 [eSrchM 1 0 1 1 2 1 4 0] [(1, 5), (0x24, 0xFFFF), (0x34, 0x40010003)] (id) b1; { z with ket := { z.ket with y := [(94 * 65536 + 0xFFFF, 0xFFFFFFFF)] } },
      95, true, false, true, false, 1, 2, 1, 4, 1, 0xFFFFFFFF, 5, by unfold Issues; decide +kernel, by decide +kernel, by decide +kernel, by decide +kernel⟩,
   ⟨kp 7 [eSrchM 1 0 1 1 2 1 4 1] [(0x24, 0x10000)] (id) b1, 95, true, false, true, true, 1, 2, 1, 4, 1, by unfold Issues; decide +kernel,
      by decide +kernel⟩,
   ⟨kp 7 [ePar 0 6 1 0 1 7 2 0, eAlu 0 0 4 2 3] [(2, 5), (3, 6), (7, 8), (0x21, 9), (0x22, 0xFFFF)] (id) b1, 95, some ⟨false, 6, 1, false⟩,
      some ⟨true, 7, 2, false⟩,
      .alu 0 false 4 2 (some 3) (toSigned 11 (fieldGet (BitVec.ofNat 32 (eAlu 0 0 4 2 3)) 0 11)) (fieldGet (BitVec.ofNat 32 (eAlu 0 0 4 2 3)) 2 4), 2,
      by unfold Issues; decide +kernel, by decide +kernel, by decide +kernel⟩,
   ⟨kp 7 [ePar 0 6 1 0 1 7 2 0, eAlu 0 0 4 2 3] [(2, 5), (3, 6), (7, 8), (0x21, 9), (0x22, 0x10000)] (id) b1, 95, some ⟨false, 6, 1, false⟩,
      some ⟨true, 7, 2, false⟩,
      .alu 0 false 4 2 (some 3) (toSigned 11 (fieldGet (BitVec.ofNat 32 (eAlu 0 0 4 2 3)) 0 11)) (fieldGet (BitVec.ofNat 32 (eAlu 0 0 4 2 3)) 2 4), 2,
      by unfold Issues; decide +kernel, by decide +kernel⟩,
   ⟨kp 7 [0x80000000] [] (id) b1, 95, by decide +kernel⟩,
   ⟨kp 0x4000 [0] [] (id) b1, 95, by decide +kernel⟩,
   ⟨kp 7 [0x60000005] [] (fun k => { k with slots := 1 }) b1, 95, 5, 1, by decide +kernel⟩⟩

theorem wit_TimebaseServo :
    (∃ (s : State) (mac : Fin 17) (dom : Nat) (clk : Nat) (seq : Nat) (t1 : Int) (corr : Int) (m : Int), s.ptpTaken mac dom = true ∧
      s.fromMaster clk = true ∧ s.tb.mpdWin ≠ [] ∧ m = s.nowNs - t1 - corr - median s.tb.mpdWin - toSigned 32 (s.fld TB_ASYM_VALUE) ∧ s.Measures m) ∧
    (∃ (s : State) (mac : Fin 17) (dom : Nat) (clk : Nat) (seq : Nat) (t1 : Int) (corr : Int), s.ptpTaken mac dom = true ∧ s.fromMaster clk = true) ∧
    (∃ (s : State) (mac : Fin 17) (dom : Nat) (clk : Nat) (seq : Nat) (t1 : Int) (corr : Int), s.ptpTaken mac dom = true ∧ s.fromMaster clk = true ∧
      s.tb.mpdWin = []) ∧
    (∃ (s : State) (mac : Fin 17) (dom : Nat) (clk : Nat) (seq : Nat) (two : Bool) (t1 : Int) (t4 : Int) (corr : Int) (int : Nat),
      (s.ptpTaken mac dom && s.fromMaster clk) = false) ∧
    (∃ (s : State) (mac : Fin 17) (dom : Nat) (clk : Nat) (seq : Nat) (t1 : Int) (t2 : Int) (c : Int) (corr : Int) (m : Int), s.ptpTaken mac dom = true ∧
      s.fromMaster clk = true ∧ s.tb.pendSync = some (seq, t2, c) ∧ s.tb.mpdWin ≠ [] ∧
      m = t2 - t1 - c - corr - median s.tb.mpdWin - toSigned 32 (s.fld TB_ASYM_VALUE) ∧ s.Measures m) ∧
    (∃ (s : State) (mac : Fin 17) (dom : Nat) (clk : Nat) (seq : Nat) (t1 : Int) (corr : Int) (m : Int), s.ptpTaken mac dom = true ∧
      s.fromMaster clk = true ∧ s.tb.mpdWin ≠ [] ∧ (s.fld TB_STAT_STATE = 2 ∨ s.fld TB_STAT_STATE = 3) ∧
      m = s.nowNs - t1 - corr - median s.tb.mpdWin - toSigned 32 (s.fld TB_ASYM_VALUE) ∧ m.natAbs > s.fld TB_SERVO_LIM_STEP_US * 1000 ∧
      s.bit TB_CTRL_POLICY = false ∧ s.followsUpstream = false ∧ s.fld TB_EPOCH_EPOCH < 2 ^ 32 - 1) ∧
    (∃ (s : State) (mac : Fin 17) (dom : Nat) (clk : Nat) (seq : Nat) (t1 : Int) (corr : Int) (m : Int), s.ptpTaken mac dom = true ∧
      s.fromMaster clk = true ∧ s.tb.mpdWin ≠ [] ∧ s.fld TB_STAT_STATE = 1 ∧ s.tb.startAcq = true ∧
      m = s.nowNs - t1 - corr - median s.tb.mpdWin - toSigned 32 (s.fld TB_ASYM_VALUE) ∧ m.natAbs > s.fld TB_SERVO_LIM_STEP_US * 1000 ∧
      s.fld TB_EPOCH_EPOCH < 2 ^ 32 - 1) ∧
    (∃ (s : State) (mac : Fin 17) (dom : Nat) (clk : Nat) (seq : Nat) (t1 : Int) (corr : Int) (m : Int), s.ptpTaken mac dom = true ∧
      s.fromMaster clk = true ∧ s.tb.mpdWin ≠ [] ∧ (s.fld TB_STAT_STATE = 2 ∨ s.fld TB_STAT_STATE = 3) ∧
      m = s.nowNs - t1 - corr - median s.tb.mpdWin - toSigned 32 (s.fld TB_ASYM_VALUE) ∧ m.natAbs > s.fld TB_SERVO_LIM_STEP_US * 1000 ∧
      s.bit TB_CTRL_POLICY = false ∧ s.followsUpstream = true) ∧
    (∃ (s : State) (mac : Fin 17) (dom : Nat) (clk : Nat) (seq : Nat) (t3 : Int) (t4 : Int) (corr : Int) (d : Int) (int : Nat),
      s.ptpTaken mac dom = true ∧ s.fromMaster clk = true ∧ s.tb.delayReq = some (seq, t3) ∧ s.tb.syncDiff = some d) ∧
    (∃ (s : State) (seq : Nat), s.fld TB_CTRL_SRC = 1 ∧ s.bit TB_STAT_MASTER = true ∧ s.raw - s.tb.delLast ≥ s.tb.delIntNs * nsU) ∧
    (∃ (s : State) (mac : Fin 17) (dom : Nat) (clk : Nat) (key : Nat) (int : Nat) (n : Nat) (last : Nat) (utc : Int), s.ptpTaken mac dom = true ∧
      (s.bit TB_STAT_MASTER = false ∨ (key < s.tb.masterKey ∧ s.tb.master ≠ clk)) ∧ tget (fun _ => (0, 0)) s.tb.foreign clk = (n, last) ∧ 0 < n ∧
      s.raw - last ≤ 4 * int * nsU) ∧
    (∃ (s : State) (mac : Fin 17) (dom : Nat) (clk : Nat) (key : Nat) (int : Nat) (n : Nat) (last : Nat) (utc : Int), s.ptpTaken mac dom = true ∧
      s.fromMaster clk = false ∧ tget (fun _ => (0, 0)) s.tb.foreign clk = (n, last) ∧ (n = 0 ∨ 4 * int * nsU < s.raw - last)) ∧
    (∃ (s : State) (mac : Fin 17) (dom : Nat) (clk : Nat) (key : Nat) (int : Nat) (utc : Int), s.ptpTaken mac dom = true ∧ s.fromMaster clk = true) ∧
    (∃ (s : State), s.bit TB_STAT_MASTER = true ∧ s.raw - s.tb.annRaw ≥ s.fld TB_PTP_CFG_ANN_TIMEOUT * s.tb.annIntNs * nsU ∧
      (s.fld TB_STAT_STATE = 2 ∨ s.fld TB_STAT_STATE = 3)) ∧
    (∃ (s : State), s.bit TB_STAT_MASTER = true ∧ s.raw - s.tb.annRaw ≥ s.fld TB_PTP_CFG_ANN_TIMEOUT * s.tb.annIntNs * nsU ∧ s.fld TB_STAT_STATE ≠ 2 ∧
      s.fld TB_STAT_STATE ≠ 3) ∧
    (∃ (s : State), s.fld TB_STAT_STATE = 1 ∧ s.raw - s.tb.acqRaw ≥ s.fld TB_CTRL_ACQ_TIMEOUT * secU ∧ s.atStep 7 = false) ∧
    (∃ (s : State), s.fld TB_STAT_STATE = 1 ∧ s.raw - s.tb.acqRaw ≥ s.fld TB_CTRL_ACQ_TIMEOUT * secU ∧ s.atStep 7 = true) ∧
    (∃ (s : State) (port : Fin 16) (t1 : Int) (t2 : Int) (t3 : Int) (t4 : Int), s.fld TB_CTRL_SRC = 2 ∧ s.fld TB_CTRL_YZ_PORT = port.val) ∧
    (∃ (s : State) (port : Fin 16) (t1 : Int) (t2 : Int) (t3 : Int) (t4 : Int), (s.fld TB_CTRL_SRC ≠ 2 ∨ s.fld TB_CTRL_YZ_PORT ≠ port.val)) ∧
    (∃ (s : State) (up : Nat) (m : Int), s.fld TB_CTRL_SRC = 2 ∧ s.tb.yzCnt > 0 ∧ s.raw - s.tb.yzWin ≥ msU ∧ m = s.tb.yzSum / (s.tb.yzCnt : Int) ∧
      s.fld TB_STAT_STATE = 3 ∧ s.Measures m) ∧
    (∃ (s : State) (up : Nat) (m : Int), s.fld TB_CTRL_SRC = 2 ∧ s.tb.yzCnt > 0 ∧ s.raw - s.tb.yzWin ≥ msU ∧ m = s.tb.yzSum / (s.tb.yzCnt : Int) ∧
      s.fld TB_STAT_STATE = 2 ∧ s.Measures m ∧ 15 ≤ s.tb.nGood ∧ m.natAbs ≤ s.fld TB_SERVO_LIM_LOCK_NS ∧ up < 2 ^ 32) ∧
    (∃ (s : State) (epoch : Nat) (step : Int), s.fld TB_CTRL_SRC = 2 ∧ epoch < 2 ^ 32) :=
  ⟨⟨ptp id b1, 3, 0, 9, 0, 999999000, 5,
      (ptp id b1).nowNs - (999999000) - (5) - median (ptp id b1).tb.mpdWin - toSigned 32 ((ptp id b1).fld TB_ASYM_VALUE), by decide +kernel,
      by decide +kernel, by decide +kernel, by decide +kernel, by unfold State.Measures; decide +kernel⟩,
   ⟨ptp id b1, 3, 0, 9, 0, 0, 0, by decide +kernel⟩,
   ⟨ptp (fun t => { t with mpdWin := [] }) b1, 3, 0, 9, 0, 999999000, 0, by decide +kernel⟩,
   ⟨ptp (fun t => { t with pendSync := some (7, 999999000, 3) }) b1, 3, 0, 8, 7, false, 0, 0, 0, 0, by decide +kernel⟩,
   ⟨ptp (fun t => { t with pendSync := some (7, 999999000, 3) }) b1, 3, 0, 9, 7, 999998800, 999999000, 3, 0,
      (999999000) - (999998800) - (3) - (0) - median (ptp (fun t => { t with pendSync := some (7, 999999000, 3) }) b1).tb.mpdWin - toSigned 32 ((ptp (fun t => { t with pendSync := some (7, 999999000, 3) }) b1).fld TB_ASYM_VALUE),
      by decide +kernel, by decide +kernel, by decide +kernel, by decide +kernel, by decide +kernel, by unfold State.Measures; decide +kernel⟩,
   ⟨ptp id b1, 3, 0, 9, 0, 900000000, 0,
      (ptp id b1).nowNs - (900000000) - (0) - median (ptp id b1).tb.mpdWin - toSigned 32 ((ptp id b1).fld TB_ASYM_VALUE), by decide +kernel⟩,
   ⟨up [(TB_STAT_STATE, 1)] (ptp (fun t => { t with startAcq := true }) b1), 3, 0, 9, 0, 900000000, 0,
      (up [(TB_STAT_STATE, 1)] (ptp (fun t => { t with startAcq := true }) b1)).nowNs - (900000000) - (0) - median (up [(TB_STAT_STATE, 1)] (ptp (fun t => { t with startAcq := true }) b1)).tb.mpdWin - toSigned 32 ((up [(TB_STAT_STATE, 1)] (ptp (fun t => { t with startAcq := true }) b1)).fld TB_ASYM_VALUE),
      by decide +kernel⟩,
   ⟨up [(RDN_STAT_ROLE, 2)] (ptp id b1), 3, 0, 9, 0, 900000000, 0,
      (up [(RDN_STAT_ROLE, 2)] (ptp id b1)).nowNs - (900000000) - (0) - median (up [(RDN_STAT_ROLE, 2)] (ptp id b1)).tb.mpdWin - toSigned 32 ((up [(RDN_STAT_ROLE, 2)] (ptp id b1)).fld TB_ASYM_VALUE),
      by decide +kernel⟩,
   ⟨ptp (fun t => { t with delayReq := some (4, 500), syncDiff := some 77 }) b1, 3, 0, 9, 4, 500, 800, 0, 77, 5, by decide +kernel⟩,
   ⟨ptp id b1, 4, by decide +kernel⟩,
   ⟨up [(TB_STAT_MASTER, 0)] (ptp (fun t => { t with master := 0, foreign := [(9, (1, 5))] }) b1), 3, 0, 9, 6, 1000000000, 1, 5, -37, by decide +kernel⟩,
   ⟨ptp (fun t => { t with foreign := [(8, (1, 5))], raw := 99000000000 * nsU }) b1, 3, 0, 8, 6, 1000000000, 1, 5, -37, by decide +kernel⟩,
   ⟨ptp id b1, 3, 0, 9, 6, 1000000000, -37, by decide +kernel⟩,
   ⟨ptp (fun t => { t with raw := 99000000000 * nsU }) b1, by decide +kernel⟩,
   ⟨up [(TB_STAT_STATE, 4)] (ptp (fun t => { t with raw := 99000000000 * nsU }) b1), by decide +kernel⟩,
   ⟨up [(TB_STAT_STATE, 1)] (ptp (fun t => { t with raw := 99000000000 * nsU }) b1), by decide +kernel⟩,
   ⟨up [(TB_STAT_STATE, 1), (CFG_BOOT_STAT_STEP, 7)] (ptp (fun t => { t with raw := 99000000000 * nsU }) b1), by decide +kernel⟩,
   ⟨up [(TB_CTRL_SRC, 2), (TB_CTRL_YZ_PORT, 15)] b1, 15, 5, 19, 30, 40, by decide +kernel⟩,
   ⟨up [(TB_CTRL_SRC, 2), (TB_CTRL_YZ_PORT, 14)] b1, 15, 0, 0, 0, 0, by decide +kernel⟩,
   ⟨ups [(TB_CTRL_SRC, 2)] (ptp (fun t => { t with yzCnt := 2, yzSum := -9 }) b1), 3,
      (ups [(TB_CTRL_SRC, 2)] (ptp (fun t => { t with yzCnt := 2, yzSum := -9 }) b1)).tb.yzSum / ((ups [(TB_CTRL_SRC, 2)] (ptp (fun t => { t with yzCnt := 2, yzSum := -9 }) b1)).tb.yzCnt : Int),
      by decide +kernel, by decide +kernel, by decide +kernel, by decide +kernel, by decide +kernel, by unfold State.Measures; decide +kernel⟩,
   ⟨ups [(TB_CTRL_SRC, 2), (TB_STAT_STATE, 2)] (ptp (fun t => { t with yzCnt := 2, yzSum := -9, nGood := 15 }) b1), 3,
      (ups [(TB_CTRL_SRC, 2), (TB_STAT_STATE, 2)] (ptp (fun t => { t with yzCnt := 2, yzSum := -9, nGood := 15 }) b1)).tb.yzSum / ((ups [(TB_CTRL_SRC, 2), (TB_STAT_STATE, 2)] (ptp (fun t => { t with yzCnt := 2, yzSum := -9, nGood := 15 }) b1)).tb.yzCnt : Int),
      by decide +kernel, by decide +kernel, by decide +kernel, by decide +kernel, by decide +kernel, by unfold State.Measures; decide +kernel,
      by decide +kernel, by decide +kernel, by decide +kernel⟩,
   ⟨ups [(TB_CTRL_SRC, 2)] (ptp id b1), 8, -70000, by decide +kernel⟩⟩

theorem wit_TriggersAndCaptures :
    (∃ (s : State) (p : Port) (n : Fin 64) (v : W32), Taken s p (TB_TRIG_CFG n) v ∧ n.val < 32 ∧ s.armRefused n v = false ∧ fieldGet v 0 1 = 1 ∧
      s.now + usU ≤ (s.armed n v).time) ∧
    (∃ (s : State) (p : Port) (n : Fin 64) (v : W32), Taken s p (TB_TRIG_CFG n) v ∧ n.val < 32 ∧ s.armRefused n v = false ∧ fieldGet v 0 1 = 1 ∧
      (s.armed n v).time < s.now + usU) ∧
    (∃ (s : State) (p : Port) (n : Fin 64) (v : W32), Taken s p (TB_TRIG_CFG n) v ∧ n.val < 32 ∧ fieldGet v 0 1 = 1 ∧ fieldGet v 1 1 = 1 ∧
      (s.fld (TB_TRIG_PER_NS_PERIOD n) < 1000 ∨ s.fld (TB_TRIG_PER_NS_PERIOD n) > 4000000000)) ∧
    (∃ (s : State) (p : Port) (n : Fin 64) (v : W32), Taken s p (TB_TRIG_CFG n) v ∧ n.val < 32 ∧ fieldGet v 0 1 = 0) ∧
    (∃ (s : State) (p : Port) (n : Fin 64) (v : W32), 32 ≤ n.val ∧ s.writeStatus p (TB_TRIG_CFG n) v = 0) ∧
    (∃ (s : State) (n : Fin 64) (src : Nat) (pin : Nat) (lane : Nat) (rising : Bool), n.val < 16 ∧ s.fld (TB_CAP_CFG_SRC n) = src ∧
      ((src = 1 ∧ s.fld (TB_CAP_CFG_PIN n) = pin ∧ s.bit (TB_TIO_CFG_OUT pin) = false ∧ (s.fld (TB_CAP_CFG_EDGE n) = 2 ∨ s.fld (TB_CAP_CFG_EDGE n) = (if rising then 0 else 1))) ∨ (src = 2 ∧ s.fld (TB_CAP_CFG_LANE n) = lane) ∨ src = 3)) ∧
    (∃ (s : State) (n : Fin 64) (src : Nat) (pin : Nat) (lane : Nat) (rising : Bool), n.val < 16 ∧ s.fld (TB_CAP_CFG_SRC n) ≠ src) ∧
    (∃ (s : State) (n : Fin 64) (src : Nat) (pin : Nat) (lane : Nat) (rising : Bool), 16 ≤ n.val) ∧
    (∃ (s : State) (p : Port) (n : Fin 64), s.readStatus p (TB_CAP_EPOCH n) = 0 ∧ s.ctl.frozen = none) ∧
    (∃ (s : State) (p : Port), s.readStatus p TB_TIME_S_LO = 0) ∧
    (∃ (s : State) (i : Fin 8), tget (fun _ => 0) s.tb.tioOn i > 0 ∧ s.raw + 1 - tget (fun _ => 0) s.tb.tioOn i ≥ s.fld (TB_TIO_CFG_WIDTH_US i) * usU) :=
  ⟨⟨usr [(TB_TRIG_PER_NS_PERIOD 31, 1000)] 1001000 31, .hcp, 31, 3, by unfold Taken; decide +kernel, by decide +kernel, by decide +kernel,
      by decide +kernel, by decide +kernel⟩,
   ⟨usr [(TB_TRIG_PER_NS_PERIOD 31, 1000)] 1000999 31, .hcp, 31, 1, by unfold Taken; decide +kernel, by decide +kernel, by decide +kernel,
      by decide +kernel, by decide +kernel⟩,
   ⟨usr [(TB_TRIG_PER_NS_PERIOD 31, 999)] 1000999 31, .hcp, 31, 3, by unfold Taken; decide +kernel, by decide +kernel, by decide +kernel,
      by decide +kernel, by decide +kernel⟩,
   ⟨let x := usr [] 5 31; { x with tb := { x.tb with trigs := [(31, { Trig.zero with armed := true })] } }, .hcp, 31, 0, by unfold Taken; decide +kernel,
      by decide +kernel, by decide +kernel⟩,
   ⟨usr [] 5 31, .hcp, 32, 1, by decide +kernel⟩,
   ⟨at' 9 (up [(TB_CAP_CFG_SRC 15, 1), (TB_CAP_CFG_PIN 15, 7), (TB_CAP_CFG_EDGE 15, 1)] { b1 with tb := { b1.tb with caps := [(15, ⟨true, 5, 6⟩)] } }),
      15, 1, 7, 0, false, by decide +kernel⟩,
   ⟨at' 9 (up [(TB_CAP_CFG_SRC 15, 1)] b1), 15, 2, 0, 0, false, by decide +kernel⟩,
   ⟨at' 9 b1, 35, 0, 0, 0, false, by decide +kernel⟩,
   ⟨at' 9 { b1 with tb := { b1.tb with caps := [(15, ⟨true, 5, 6⟩)] } }, .hcp, 15, by decide +kernel⟩,
   ⟨at' 9123456789 b1, .hcp, by decide +kernel⟩,
   ⟨at' 9123456789 { b1 with tb := { b1.tb with tioOn := [(7, 6)] } }, 7, by decide +kernel⟩⟩

theorem wit_LinkBringup :
    (∃ (s : State) (q : Fin 16), s.bit (LNK_QUAD_CFG_EN q) = true ∧ s.bit (LNK_QUAD_STAT_PLL_LOCK q) = false ∧ s.phy.idle.contains q.val = false ∧
      (∀ k, k < 32 → (s.link k).step ≠ 1 ∨ (s.linkQuads k).contains q.val = false)) ∧
    (∃ (s : State) (q : Fin 16) (p : Fin 16), s.bit (LNK_QUAD_CFG_EN q) = true ∧ s.bit (LNK_QUAD_STAT_PLL_LOCK q) = false ∧
      s.phy.idle.contains q.val = false ∧ (s.link (16 + p)).step = 1 ∧ (∀ k, k < 32 → k ≠ 16 + p.val → (s.link k).step ≠ 1) ∧ q.val ∈ s.linkQuads (16 + p) ∧
      (∀ x, x ∈ s.linkQuads (16 + p) → x = q.val ∨ s.bit (LNK_QUAD_STAT_PLL_LOCK x) = true) ∧ s.LanesIn (16 + p)) ∧
    (∃ (s : State) (q : Fin 16) (m : Fin 16), s.bit (LNK_QUAD_CFG_EN q) = true ∧ s.bit (LNK_QUAD_STAT_PLL_LOCK q) = false ∧
      s.phy.idle.contains q.val = false ∧ (s.link m).step = 1 ∧ (∀ k, k < 32 → k ≠ m.val → (s.link k).step ≠ 1) ∧ q.val ∈ s.linkQuads m ∧
      (∀ x, x ∈ s.linkQuads m → x = q.val ∨ s.bit (LNK_QUAD_STAT_PLL_LOCK x) = true) ∧ s.bit (LNK_MAC_CFG_AN m) = false ∧ s.LanesIn m) ∧
    (∃ (s : State) (m : Fin 16), (s.link m).step = 1 ∧ s.bit (LNK_MAC_CFG_AN m) = true ∧ s.linkPll m = true ∧ s.LanesIn m) ∧
    (∃ (s : State) (m : Fin 16), (s.link m).step = 1 ∧ s.bit (LNK_MAC_CFG_AN m) = true ∧ s.linkPll m = true ∧
      (s.atStep 6 = true → ∃ k, k < 32 ∧ k ≠ m.val ∧ s.linkEn k = true ∧ (s.link k).tried = false) ∧ s.LanesIn m) ∧
    (∃ (s : State) (l : Fin 64), s.fld (LNK_LANE_STAT_RATE l) ≠ 0) ∧
    (∃ (s : State) (k : Fin 32) (delays : List Nat) (rx : Nat), k.val < 16 ∧ s.linkEn k = true ∧ delays.length = (s.linkLanes k).length ∧
      (∀ l, l ∈ s.linkLanes k → s.bit (LNK_LANE_STAT_CDR_LOCK l) = true) ∧ (s.link k).step = 4 ∧ s.LanesIn k) ∧
    (∃ (s : State) (k : Fin 32) (delays : List Nat) (rx : Nat), 16 ≤ k.val ∧ s.linkEn k = true ∧ delays.length = (s.linkLanes k).length ∧
      (∀ d, d ∈ delays → d ≤ 40000) ∧ (∀ l, l ∈ s.linkLanes k → s.bit (LNK_LANE_STAT_CDR_LOCK l) = true) ∧ (s.link k).step = 2 ∧ s.LanesIn k) ∧
    (∃ (s : State) (k : Fin 32) (delays : List Nat) (rx : Nat), 16 ≤ k.val ∧ s.linkEn k = true ∧ delays.length = (s.linkLanes k).length ∧
      (∃ d, d ∈ delays ∧ 40000 < d) ∧ (∀ l, l ∈ s.linkLanes k → s.bit (LNK_LANE_STAT_CDR_LOCK l) = true) ∧ (s.link k).step = 2 ∧
      (s.atStep 6 = true → ∃ j, j < 32 ∧ j ≠ k.val ∧ s.linkEn j = true ∧ (s.link j).tried = false) ∧ s.LanesIn k) ∧
    (∃ (s : State) (l : Fin 64) (ok : Bool) (fom : Fin 256) (k : Fin 16), s.linkOf l = some k.val ∧ (s.link k).step = 3 ∧
      (s.link k).done.contains l.val = false ∧ (ok = false → s.atStep 6 = true → ∃ j, j < 32 ∧ j ≠ k.val ∧ s.linkEn j = true ∧ (s.link j).tried = false) ∧
      s.LanesIn k) ∧
    (∃ (s : State) (l : Fin 64) (ok : Bool) (fom : Fin 256) (p : Fin 16), s.linkOf l = some (16 + p.val) ∧ (s.link (16 + p)).step = 4 ∧
      (s.link (16 + p)).done.contains l.val = false ∧ (s.link (16 + p)).done.length + 1 < (s.linkLanes (16 + p)).length ∧ s.LanesIn (16 + p)) ∧
    (∃ (s : State) (l : Fin 64) (ok : Bool) (fom : Fin 256) (p : Fin 16), s.linkOf l = some (16 + p.val) ∧ (s.link (16 + p)).step = 4 ∧
      (s.link (16 + p)).done.contains l.val = false ∧ (s.linkLanes (16 + p)).length ≤ (s.link (16 + p)).done.length + 1 ∧ (s.link (16 + p)).back = false ∧
      ((s.link (16 + p)).low = true ∨ ok = false ∨ fom.val < s.fld (LNK_LANE_FOM_FOM_MIN l)) ∧ s.LanesIn (16 + p)) ∧
    (∃ (s : State) (l : Fin 64) (fom : Fin 256) (p : Fin 16) (r : Nat) (more : List Nat), s.linkOf l = some (16 + p.val) ∧ (s.link (16 + p)).step = 4 ∧
      (s.link (16 + p)).done.contains l.val = false ∧ (s.linkLanes (16 + p)).length ≤ (s.link (16 + p)).done.length + 1 ∧ (s.link (16 + p)).back = false ∧
      (s.link (16 + p)).low = false ∧ s.fld (LNK_LANE_FOM_FOM_MIN l) ≤ fom.val ∧ (s.link (16 + p)).rates = r :: more ∧ s.belowLimit (quadZone p) = false ∧
      s.LanesIn (16 + p)) ∧
    (∃ (s : State) (l : Fin 64) (fom : Fin 256) (p : Fin 16), s.linkOf l = some (16 + p.val) ∧ (s.link (16 + p)).step = 4 ∧
      (s.link (16 + p)).done.contains l.val = false ∧ (s.linkLanes (16 + p)).length ≤ (s.link (16 + p)).done.length + 1 ∧ (s.link (16 + p)).back = false ∧
      (s.link (16 + p)).low = false ∧ s.fld (LNK_LANE_FOM_FOM_MIN l) ≤ fom.val ∧ (s.link (16 + p)).rates = [] ∧ s.atStep 6 = false ∧ s.LanesIn (16 + p)) ∧
    (∃ (s : State) (m : Fin 16) (tx : Nat), (s.link m).step = 4 ∧ (∀ l, l ∈ s.linkLanes m → s.bit (LNK_LANE_STAT_CDR_LOCK l) = true) ∧
      ((s.linkLanes m).length = 1 ∨ ∀ l, l ∈ s.linkLanes m → s.bit (LNK_LANE_STAT_ALIGNED l) = true) ∧
      (s.atStep 6 = true → ∃ k, k < 32 ∧ k ≠ m.val ∧ s.linkEn k = true ∧ (s.link k).tried = false) ∧ s.LanesIn m) ∧
    (∃ (s : State) (k : Fin 32), 0 < (s.link k).failRaw ∧ s.linkEn k = true ∧ s.raw + 1 - (s.link k).failRaw ≥ (if k.val < 16 then 100 else 1000) * msU ∧
      (∀ q, q ∈ s.linkQuads k → s.phy.idle.contains q = false ∧ s.belowLimit (quadZone q) = false) ∧ s.linkPll k = false ∧
      (∀ l, l ∈ s.linkLanes k → s.bit (LNK_ES_CTRL_RUN l) = false) ∧ s.LanesIn k) ∧
    (∃ (s : State) (k : Fin 32), 0 < (s.link k).failRaw ∧ s.linkEn k = true ∧ s.raw + 1 - (s.link k).failRaw ≥ (if k.val < 16 then 100 else 1000) * msU ∧
      (∃ q, q ∈ s.linkQuads k ∧ s.phy.idle.contains q = true) ∧ (∀ l, l ∈ s.linkLanes k → s.bit (LNK_ES_CTRL_RUN l) = false) ∧ s.LanesIn k) ∧
    (∃ (s : State), s.atStep 6 = true ∧ s.raw - s.phy.step6 ≥ 10 * secU ∧ s.fld TB_CTRL_SRC = 0) ∧
    (∃ (s : State), s.atStep 6 = true ∧ s.raw - s.phy.step6 ≥ 10 * secU ∧ s.fld TB_CTRL_SRC ≠ 0) ∧
    (∃ (s : State) (m : Fin 16) (cause : Fin 4), s.bit (LNK_MAC_STAT_LINK m) = true ∧ s.LanesIn m) :=
  ⟨⟨up [(LNK_QUAD_CFG_EN 15, 1)] b1, 15, by decide +kernel⟩,
   ⟨prt 0 (fun x => { x with step := 1 }) b1, 15, 15, by decide +kernel, by decide +kernel, by decide +kernel, by decide +kernel, by decide +kernel,
      by decide +kernel, by decide +kernel, by unfold State.LanesIn; decide +kernel⟩,
   ⟨mac9 1 0 0 b1, 4, 9, by decide +kernel, by decide +kernel, by decide +kernel, by decide +kernel, by decide +kernel, by decide +kernel,
      by decide +kernel, by decide +kernel, by unfold State.LanesIn; decide +kernel⟩,
   ⟨mac9 1 1 1 b1, 9, by decide +kernel, by decide +kernel, by decide +kernel, by unfold State.LanesIn; decide +kernel⟩,
   ⟨mac9 1 1 1 b1, 9, by decide +kernel, by decide +kernel, by decide +kernel, by decide +kernel, by unfold State.LanesIn; decide +kernel⟩,
   ⟨mac9 1 1 1 b1, 19, by decide +kernel⟩,
   ⟨up [(LNK_LANE_STAT_CDR_LOCK 18, 1), (LNK_LANE_STAT_CDR_LOCK 19, 1)] (mac9 4 0 1 b1), 9, [0, 7200], 5, by decide +kernel, by decide +kernel,
      by decide +kernel, by decide +kernel, by decide +kernel, by unfold State.LanesIn; decide +kernel⟩,
   ⟨prt 1 (fun x => { x with step := 2 }) b1, 31, [0, 7200], 5, by decide +kernel, by decide +kernel, by decide +kernel, by decide +kernel,
      by decide +kernel, by decide +kernel, by unfold State.LanesIn; decide +kernel⟩,
   ⟨prt 1 (fun x => { x with step := 2 }) b1, 31, [0, 40001], 5, by decide +kernel, by decide +kernel, by decide +kernel, by decide +kernel,
      by decide +kernel, by decide +kernel, by decide +kernel, by unfold State.LanesIn; decide +kernel⟩,
   ⟨up [(LNK_LANE_FOM_FOM_LOW 19, 255)] (mac9 3 0 1 b1), 19, true, 80, 9, by decide +kernel, by decide +kernel, by decide +kernel, by decide +kernel,
      by unfold State.LanesIn; decide +kernel⟩,
   ⟨prt 1 (fun x => { x with step := 4 }) b1, 61, true, 80, 15, by decide +kernel, by decide +kernel, by decide +kernel, by decide +kernel,
      by unfold State.LanesIn; decide +kernel⟩,
   ⟨prt 1 (fun x => { x with step := 4, done := [60], low := true, rate := 3, prev := 2, rates := [4] }) b1, 61, true, 80, 15, by decide +kernel,
      by decide +kernel, by decide +kernel, by decide +kernel, by decide +kernel, by decide +kernel, by unfold State.LanesIn; decide +kernel⟩,
   ⟨prt 1 (fun x => { x with step := 4, done := [60], rate := 3, prev := 2, rates := [4] }) b1, 61, 80, 15, 4, [], by decide +kernel, by decide +kernel,
      by decide +kernel, by decide +kernel, by decide +kernel, by decide +kernel, by decide +kernel, by decide +kernel, by decide +kernel,
      by unfold State.LanesIn; decide +kernel⟩,
   ⟨prt 1 (fun x => { x with step := 4, done := [60], rate := 4, prev := 3 }) b1, 61, 80, 15, by decide +kernel, by decide +kernel, by decide +kernel,
      by decide +kernel, by decide +kernel, by decide +kernel, by decide +kernel, by decide +kernel, by decide +kernel,
      by unfold State.LanesIn; decide +kernel⟩,
   ⟨up [(LNK_LANE_STAT_CDR_LOCK 18, 1), (LNK_LANE_STAT_CDR_LOCK 19, 1), (LNK_LANE_STAT_ALIGNED 18, 1), (LNK_LANE_STAT_ALIGNED 19, 1)] (mac9 4 0 1 b1), 9,
      77, by decide +kernel, by decide +kernel, by decide +kernel, by decide +kernel, by unfold State.LanesIn; decide +kernel⟩,
   ⟨at' 100001 ((up [(THM_ZONE_STAT_T_COLD 8, 40)] (mac9 0 0 0 b1)).setLink 9 { LinkX.zero with failRaw := 5, tried := true }), 9, by decide +kernel,
      by decide +kernel, by decide +kernel, by decide +kernel, by decide +kernel, by decide +kernel, by unfold State.LanesIn; decide +kernel⟩,
   ⟨at' 1000001 (prt 0 (fun x => { x with failRaw := 5, tried := true }) { b1 with phy := { b1.phy with idle := [15] } }), 31, by decide +kernel,
      by decide +kernel, by decide +kernel, by decide +kernel, by decide +kernel, by unfold State.LanesIn; decide +kernel⟩,
   ⟨at' 10000000 (up [(CFG_BOOT_STAT_STEP, 6), (TB_CTRL_SRC, 0)] b1), by decide +kernel⟩,
   ⟨at' 10000000 (up [(CFG_BOOT_STAT_STEP, 6), (TB_CTRL_SRC, 1)] b1), by decide +kernel⟩,
   ⟨up [(LNK_MAC_STAT_LINK 9, 1)] (mac9 0 0 1 b1), 9, 3, by decide +kernel, by unfold State.LanesIn; decide +kernel⟩⟩

theorem wit_LaneQuality :
    (∃ (s : State) (l : Fin 64) (num : Nat) (den : Nat) (next : Option Nat), s.fld (LNK_LANE_STAT_RATE l) ≠ 0 ∧ num ≠ 0 ∧
      s.fld (LNK_LANE_FOM_FOM_MIN l) ≤ fomOf num den 255 ∧ (s.laneX l).lowEv = false) ∧
    (∃ (s : State) (l : Fin 64) (num : Nat) (den : Nat) (next : Option Nat), s.fld (LNK_LANE_STAT_RATE l) ≠ 0 ∧ num ≠ 0 ∧
      s.fld (LNK_LANE_FOM_FOM_MIN l) ≤ fomOf num den 255 ∧ (s.laneX l).lowEv = true) ∧
    (∃ (s : State) (l : Fin 64) (num : Nat) (den : Nat) (next : Option Nat), s.fld (LNK_LANE_STAT_RATE l) ≠ 0 ∧ num ≠ 0 ∧
      fomOf num den 255 < s.fld (LNK_LANE_FOM_FOM_MIN l) ∧ (s.laneX l).lowEv = false ∧ (s.laneX l).lowRun = 7 ∧ s.bit (LNK_ES_CTRL_RUN l) = false) ∧
    (∃ (s : State) (l : Fin 64) (num : Nat) (den : Nat) (next : Option Nat), s.fld (LNK_LANE_STAT_RATE l) ≠ 0 ∧ num ≠ 0 ∧
      fomOf num den 255 < s.fld (LNK_LANE_FOM_FOM_MIN l) ∧ ((s.laneX l).lowEv = true ∨ (s.laneX l).lowRun < 7) ∧ s.bit (LNK_ES_CTRL_RUN l) = false) ∧
    (∃ (s : State) (l : Fin 64) (num : Nat) (den : Nat) (next : Option Nat), s.fld (LNK_LANE_STAT_RATE l) ≠ 0 ∧ num ≠ 0 ∧
      fomOf num den 255 < s.fld (LNK_LANE_FOM_FOM_MIN l) ∧ s.bit (LNK_ES_CTRL_RUN l) = true) ∧
    (∃ (s : State) (l : Fin 64) (den : Nat) (next : Option Nat), s.fld (LNK_LANE_STAT_RATE l) ≠ 0) ∧
    (∃ (s : State) (p : Port) (l : Fin 64) (v : W32), Taken s p (LNK_ES_CTRL l) v ∧ fieldGet v 0 1 = 1 ∧ s.bit (LNK_ES_CTRL_RUN l) = false) ∧
    (∃ (s : State) (p : Port) (l : Fin 64) (v : W32), Taken s p (LNK_ES_CTRL l) v ∧ (fieldGet v 0 1 = 0 ∨ s.bit (LNK_ES_CTRL_RUN l) = true)) ∧
    (∃ (s : State) (l : Fin 64) (errors : Nat), s.bit (LNK_ES_CTRL_RUN l) = true) :=
  ⟨⟨let x := mac9 0 0 1 b1; x.setLaneX 19 { LaneX.zero with lowRun := 3, coef := 7, trial := some (6, 255) }, 19, 1, 100000000000000, none,
      by decide +kernel⟩,
   ⟨let x := mac9 0 0 1 b1; x.setLaneX 19 { LaneX.zero with lowEv := true, coef := 7 }, 19, 1, 100000000000000, none, by decide +kernel⟩,
   ⟨let x := mac9 0 0 1 (up [(LNK_LANE_FOM_FOM_MIN 19, 96)] b1); x.setLaneX 19 { LaneX.zero with lowRun := 7 }, 19, 1, 1000, none, by decide +kernel⟩,
   ⟨let x := mac9 0 0 1 (up [(LNK_LANE_FOM_FOM_MIN 19, 96)] b1); x.setLaneX 19 { LaneX.zero with lowRun := 6 }, 19, 1, 1000, none, by decide +kernel⟩,
   ⟨let x := mac9 0 0 1 (up [(LNK_LANE_FOM_FOM_MIN 19, 96), (LNK_ES_CTRL_RUN 19, 1)] b1); x.setLaneX 19 { LaneX.zero with lowRun := 6 }, 19, 1, 1000,
      none, by decide +kernel⟩,
   ⟨mac9 0 0 1 b1, 19, 5, none, by decide +kernel⟩,
   ⟨up [(LNK_ES_STAT_DONE 63, 1)] b1, .hcp, 63, 1, by unfold Taken; decide +kernel, by decide +kernel, by decide +kernel⟩,
   ⟨up [(LNK_ES_CTRL_RUN 63, 1)] b1, .hcp, 63, 1, by unfold Taken; decide +kernel, by decide +kernel⟩,
   ⟨up [(LNK_ES_CTRL_RUN 63, 1), (LNK_ES_DWELL_DWELL 63, 32)] b1, 63, 5, by decide +kernel⟩⟩

theorem wit_YudizorLink :
    (∃ (s : State) (p : Fin 16) (bs : List Byte) (f : YzFlit), s.bit (YZ_PORT_STAT_UP p) = true ∧ flitOf bs = some f ∧ f.typ = 1 ∧
      f.seq = (s.yzp p).expect) ∧
    (∃ (s : State) (p : Fin 16) (bs : List Byte) (f : YzFlit), s.bit (YZ_PORT_STAT_UP p) = true ∧ flitOf bs = some f ∧ f.nak = false ∧ f.typ = 1 ∧
      f.seq = (s.yzp p).expect ∧ (s.yzp p).replay = [] ∧ (s.yzp p).wait = [] ∧ s.raw - (s.yzp p).winRaw < secU) ∧
    (∃ (s : State) (p : Fin 16) (bs : List Byte) (f : YzFlit), s.bit (YZ_PORT_STAT_UP p) = true ∧ flitOf bs = some f ∧ f.nak = false ∧ f.typ = 1 ∧
      f.seq ≠ (s.yzp p).expect ∧ (s.yzp p).replay = [] ∧ (s.yzp p).wait = [] ∧ s.raw - (s.yzp p).winRaw < secU) ∧
    (∃ (s : State) (p : Fin 16) (bs : List Byte), s.bit (YZ_PORT_STAT_UP p) = true ∧ flitOf bs = none ∧ s.raw - (s.yzp p).winRaw < secU) ∧
    (∃ (s : State) (p : Fin 16) (bs : List Byte) (f : YzFlit), s.bit (YZ_PORT_STAT_UP p) = true ∧ flitOf bs = some f ∧ f.nak = false ∧ f.typ ≠ 1 ∧
      (s.yzp p).wait = [] ∧ s.raw - (s.yzp p).winRaw < secU ∧ s.acked p f.ack ≤ (s.yzp p).replay.length) ∧
    (∃ (s : State) (p : Fin 16) (bs : List Byte) (f : YzFlit), s.bit (YZ_PORT_STAT_UP p) = true ∧ flitOf bs = some f ∧ f.nak = true ∧ f.typ ≠ 1 ∧
      (s.yzp p).wait = [] ∧ s.raw - (s.yzp p).winRaw < secU ∧ s.acked p f.ack ≤ (s.yzp p).replay.length ∧ (s.yzp p).replays < 7) ∧
    (∃ (s : State) (p : Fin 16), 0 < (s.yzp p).nakRaw ∧ s.raw + 1 - (s.yzp p).nakRaw ≥ 2 * usU) ∧
    (∃ (s : State) (p : Fin 16), s.bit (YZ_PORT_STAT_UP p) = true ∧ (s.yzp p).replay ≠ [] ∧ s.raw - (s.yzp p).ackRaw ≥ 10 * usU ∧ (s.yzp p).replays < 7) ∧
    (∃ (s : State) (p : Fin 16), s.bit (YZ_PORT_STAT_UP p) = true ∧ (s.yzp p).replay ≠ [] ∧ s.raw - (s.yzp p).ackRaw ≥ 10 * usU ∧ 7 ≤ (s.yzp p).replays) ∧
    (∃ (s : State) (p : Fin 16) (vc : Fin 8), s.fld (YZ_PORT_CREDIT_OCC p vc) ≠ 0) ∧
    (∃ (s : State) (p : Fin 16), s.fld (YZ_PORT_STAT_STATE p) = 2 ∧ ((s.yzp p).capRaw = 0 ∨ s.raw + 1 - (s.yzp p).capRaw ≥ 10 * usU)) ∧
    (∃ (s : State) (p : Fin 16) (bs : List Byte) (f : YzFlit), flitOf bs = some f ∧ s.fld (YZ_PORT_STAT_STATE p) = 2 ∧ f.typ = 2 ∧
      s.capRefuse p (capOf f.payload) = 0 ∧ (capOf f.payload).seen = false ∧ s.LanesIn (16 + p)) ∧
    (∃ (s : State) (p : Fin 16) (bs : List Byte) (f : YzFlit), flitOf bs = some f ∧ s.fld (YZ_PORT_STAT_STATE p) = 2 ∧ f.typ = 2 ∧
      s.capRefuse p (capOf f.payload) = 0 ∧ (capOf f.payload).seen = true ∧ s.LanesIn (16 + p)) ∧
    (∃ (s : State) (p : Fin 16) (bs : List Byte) (f : YzFlit), flitOf bs = some f ∧ s.fld (YZ_PORT_STAT_STATE p) = 2 ∧ f.typ = 2 ∧
      s.capRefuse p (capOf f.payload) ≠ 0 ∧ (s.atStep 6 = true → ∃ j, j < 32 ∧ j ≠ 16 + p.val ∧ s.linkEn j = true ∧ (s.link j).tried = false)) ∧
    (∃ (s : State) (p : Fin 16), 0 < (s.yzp p).refused ∧ s.raw + 1 - (s.yzp p).refused ≥ secU ∧ s.linkEn (16 + p) = true) ∧
    (∃ (s : State) (p : Fin 16) (ack : Fin 4096), s.fld (YZ_PORT_STAT_STATE p) = 5 ∧ (s.yzp p).wait = [] ∧ s.acked p ack ≤ (s.yzp p).replay.length ∧
      (s.yzp p).replays < 7 ∧ s.LanesIn (16 + p)) ∧
    (∃ (s : State) (p : Fin 16) (ack : Fin 4096) (low : Nat), s.fld (YZ_PORT_STAT_STATE p) = 5 ∧ 0 < low ∧ low < 16 ∧
      low = ((1 :: (s.yzp p).rates).filter (· < s.fld (YZ_PORT_STAT_RATE p))).foldl max 0) ∧
    (∃ (s : State) (p : Fin 16), 0 < (s.yzp p).downRaw ∧ s.bit (YZ_PORT_STAT_UP p) = false ∧ s.raw + 1 - (s.yzp p).downRaw ≥ 500 * msU ∧
      (s.atStep 6 = true → ∃ j, j < 32 ∧ j ≠ 16 + p.val ∧ s.linkEn j = true ∧ (s.link j).tried = false) ∧ s.LanesIn (16 + p)) ∧
    (∃ (s : State) (l : Fin 64) (cdr : Bool) (p : Fin 16), s.linkOf l = some (16 + p.val) ∧ s.bit (YZ_PORT_STAT_UP p) = true ∧ s.LanesIn (16 + p)) ∧
    (∃ (f : YzFlit), f.typ < 8 ∧ f.vc < 8 ∧ f.seq < 4096 ∧ f.ack < 4096 ∧ f.crdVc < 8 ∧ f.crd < 4096 ∧ f.payload.length ≤ 116 ∧
      ((f.typ = 1 ∧ f.eop = true) ∨ f.payload.length = 116)) :=
  ⟨⟨port15 1 4 (fun y => { y with expect := 4095, lastCrd := [(3, 4090)] }) b1, 15, flitB 1 2 1 1 4095 0 0 3 2 [1, 2, 3],
      (flitOf (flitB 1 2 1 1 4095 0 0 3 2 [1, 2, 3])).getD ⟨0, 0, false, false, 0, 0, false, 0, 0, []⟩, by decide +kernel⟩,
   ⟨port15 1 4 (fun y => { y with expect := 4095, lastCrd := [(3, 4090)] }) b1, 15, flitB 1 2 1 1 4095 0 0 3 2 [1, 2, 3],
      (flitOf (flitB 1 2 1 1 4095 0 0 3 2 [1, 2, 3])).getD ⟨0, 0, false, false, 0, 0, false, 0, 0, []⟩, by decide +kernel⟩,
   ⟨port15 1 4 (fun y => { y with expect := 4095, lastCrd := [(3, 4090)] }) b1, 15, flitB 1 2 1 1 4094 0 0 3 2 [1, 2, 3],
      (flitOf (flitB 1 2 1 1 4094 0 0 3 2 [1, 2, 3])).getD ⟨0, 0, false, false, 0, 0, false, 0, 0, []⟩, by decide +kernel⟩,
   ⟨port15 1 4 (fun y => { y with expect := 4095, lastCrd := [(3, 4090)] }) b1, 15, [1], by decide +kernel⟩,
   ⟨port15 1 4 (fun y => { y with replay := [⟨1, 2, true, false, [1]⟩, ⟨1, 2, false, true, [1]⟩] }) (up [(YZ_PORT_SEQ_NEXT_TX 15, 6), (YZ_PORT_SEQ_OUTSTANDING 15, 2)] b1),
      15, flitB 0 2 1 1 0 5 0 3 2 [], (flitOf (flitB 0 2 1 1 0 5 0 3 2 [])).getD ⟨0, 0, false, false, 0, 0, false, 0, 0, []⟩, by decide +kernel⟩,
   ⟨port15 1 4 (fun y => { y with replay := [⟨1, 2, true, false, [1]⟩, ⟨1, 2, false, true, [1]⟩], replays := 6 }) (up [(YZ_PORT_SEQ_NEXT_TX 15, 6), (YZ_PORT_SEQ_OUTSTANDING 15, 2)] b1),
      15, flitB 0 2 1 1 0 5 1 3 2 [], (flitOf (flitB 0 2 1 1 0 5 1 3 2 [])).getD ⟨0, 0, false, false, 0, 0, false, 0, 0, []⟩, by decide +kernel⟩,
   ⟨at' 5 (port15 1 4 (fun y => { y with nakRaw := 7, nakDisc := true }) b1), 15, by decide +kernel⟩,
   ⟨at' 15 (port15 1 4 (fun y => { y with replay := [⟨1, 2, true, false, [1]⟩, ⟨1, 2, false, true, [1]⟩], replays := 6 }) (up [(YZ_PORT_SEQ_NEXT_TX 15, 1)] b1)),
      15, by decide +kernel⟩,
   ⟨at' 15 (port15 1 4 (fun y => { y with replay := [⟨1, 2, true, false, [1]⟩, ⟨1, 2, false, true, [1]⟩], replays := 7 }) (up [(YZ_PORT_SEQ_NEXT_TX 15, 1)] b1)),
      15, by decide +kernel⟩,
   ⟨up [(YZ_PORT_CREDIT_OCC 15 7, 9)] (port15 1 4 (fun y => { y with retCrd := [(7, 4095)] }) b1), 15, 7, by decide +kernel⟩,
   ⟨at' 15 (port15 0 2 (fun y => { y with capRaw := 9 }) b1), 15, by decide +kernel⟩,
   ⟨port15 0 2 id (up [(YZ_ROUTE_VALID 3, 1), (YZ_PORT_CFG_WIDTH 15, 3), (YZ_PORT_CFG_MAX_RATE 15, 9)] b1), 15,
      flitB 2 0 1 1 0 0 0 0 0 (capB 1 3 0x2A8 4), (flitOf (flitB 2 0 1 1 0 0 0 0 0 (capB 1 3 0x2A8 4))).getD ⟨0, 0, false, false, 0, 0, false, 0, 0, []⟩,
      by decide +kernel, by decide +kernel, by decide +kernel, by decide +kernel, by decide +kernel, by unfold State.LanesIn; decide +kernel⟩,
   ⟨port15 0 2 id (up [(YZ_ROUTE_VALID 3, 1), (YZ_PORT_CFG_WIDTH 15, 3), (YZ_PORT_CFG_MAX_RATE 15, 9)] b1), 15,
      flitB 2 0 1 1 0 0 0 0 0 ((capB 1 3 0x2A8 4).set 11 1),
      (flitOf (flitB 2 0 1 1 0 0 0 0 0 ((capB 1 3 0x2A8 4).set 11 1))).getD ⟨0, 0, false, false, 0, 0, false, 0, 0, []⟩, by decide +kernel,
      by decide +kernel, by decide +kernel, by decide +kernel, by decide +kernel, by unfold State.LanesIn; decide +kernel⟩,
   ⟨port15 0 2 id (up [(YZ_CFG_ADDR, 3)] b1), 15, flitB 2 0 1 1 0 0 0 0 0 (capB 1 3 0x2A8 4),
      (flitOf (flitB 2 0 1 1 0 0 0 0 0 (capB 1 3 0x2A8 4))).getD ⟨0, 0, false, false, 0, 0, false, 0, 0, []⟩, by decide +kernel⟩,
   ⟨at' 1000001 (port15 0 6 (fun y => { y with refused := 9, capRaw := 3 }) (up [(YZ_PORT_CFG_EN 15, 1), (LNK_QUAD_CFG_EN 15, 1), (LNK_QUAD_CFG_PROTO 15, 1)] b1)),
      15, by decide +kernel⟩,
   ⟨port15 0 5 (fun y => { y with downRaw := 9, replay := [⟨1, 2, true, false, [1]⟩, ⟨1, 2, false, true, [1]⟩] }) (up [(YZ_PORT_SEQ_NEXT_TX 15, 6), (YZ_PORT_SEQ_OUTSTANDING 15, 2)] b1),
      15, 5, by decide +kernel, by decide +kernel, by decide +kernel, by decide +kernel, by unfold State.LanesIn; decide +kernel⟩,
   ⟨port15 0 5 (fun y => { y with rates := [3, 5, 7] }) (up [(YZ_PORT_STAT_RATE 15, 7)] b1), 15, 0,
      ((1 :: ((port15 0 5 (fun y => { y with rates := [3, 5, 7] }) (up [(YZ_PORT_STAT_RATE 15, 7)] b1)).yzp (15)).rates).filter (· < (port15 0 5 (fun y => { y with rates := [3, 5, 7] }) (up [(YZ_PORT_STAT_RATE 15, 7)] b1)).fld (YZ_PORT_STAT_RATE (15)))).foldl max 0,
      by decide +kernel⟩,
   ⟨at' 9000000 (port15 0 5 (fun y => { y with downRaw := 9, replay := [⟨1, 2, true, false, [1]⟩, ⟨1, 2, false, true, [1]⟩, ⟨4, 2, false, true, [1]⟩] }) b1),
      15, by decide +kernel, by decide +kernel, by decide +kernel, by decide +kernel, by unfold State.LanesIn; decide +kernel⟩,
   ⟨port15 1 4 id (up [(YZ_PORT_CFG_EN 15, 1), (LNK_QUAD_CFG_EN 15, 1), (LNK_QUAD_CFG_PROTO 15, 1), (YZ_PORT_STAT_WIDTH 15, 2), (LNK_LANE_STAT_CDR_LOCK 62, 1)] b1),
      62, true, 15, by decide +kernel, by decide +kernel, by unfold State.LanesIn; decide +kernel⟩,
   ⟨{ typ := 1, vc := 6, sop := true, eop := false, seq := 4095, ack := 77, nak := true, crdVc := 5, crd := 4090, payload := (List.range 116).map (BitVec.ofNat 8) },
      by decide +kernel⟩⟩

theorem wit_FloorMessages :
    (∃ (s : State) (p : Fin 16) (vc : Fin 8) (bs : List Byte) (m : Option (Nat × Nat)), vcChecked vc = true ∧ (vc.val = 0 → m = none) ∧
      (s.yzp p).msgs.find? (fun x => x.1 == vc.val) = some (vc.val, bs) ∧ s.msgTarget (msgHdr bs) = some s.ownAddr ∧ msgGood vc bs = true ∧
      s.chkServed (vcFunc vc) = true ∧ tget (fun _ => none) s.yz.aliveRx ((msgHdr bs).src * 8 + vc) ≠ some (msgHdr bs).alive) ∧
    (∃ (s : State) (p : Fin 16) (vc : Fin 8) (bs : List Byte) (m : Option (Nat × Nat)), (vc.val = 3 ∨ vc.val = 4) ∧
      (s.yzp p).msgs.find? (fun x => x.1 == vc.val) = some (vc.val, bs) ∧ s.msgTarget (msgHdr bs) = some s.ownAddr ∧ msgGood vc bs = true) ∧
    (∃ (s : State) (p : Fin 16) (bs : List Byte) (c : Nat) (d : Nat), (s.yzp p).msgs.find? (fun x => x.1 == 5) = some (5, bs) ∧
      s.msgTarget (msgHdr bs) = some s.ownAddr ∧ msgGood 5 bs = true) ∧
    (∃ (s : State) (p : Fin 16) (bs : List Byte) (m : Option (Nat × Nat)), (s.yzp p).msgs.find? (fun x => x.1 == 7) = some (7, bs) ∧
      (msgHdr bs).src ≠ s.ownAddr ∧ msgGood 7 bs = true ∧ s.msgTarget (msgHdr bs) ≠ none) ∧
    (∃ (s : State) (p : Fin 16) (vc : Fin 8) (bs : List Byte) (m : Option (Nat × Nat)),
      (s.yzp p).msgs.find? (fun x => x.1 == vc.val) = some (vc.val, bs) ∧ vc.val ≠ 7 ∧ s.msgTarget (msgHdr bs) = some s.ownAddr ∧
      (msgGood vc bs = false ∨ (vcChecked vc = true ∧ (s.chkServed (vcFunc vc) = false ∨ tget (fun _ => none) s.yz.aliveRx ((msgHdr bs).src * 8 + vc) = some (msgHdr bs).alive)))) ∧
    (∃ (s : State) (p : Fin 16) (vc : Fin 8) (bs : List Byte) (m : Option (Nat × Nat)),
      (s.yzp p).msgs.find? (fun x => x.1 == vc.val) = some (vc.val, bs) ∧ vc.val < 7 ∧
      (s.msgTarget (msgHdr bs) = none ∨ ∃ d, s.msgTarget (msgHdr bs) = some d ∧ d ≠ s.ownAddr ∧ ((msgHdr bs).hops = 0 ∨ vc.val = 5))) ∧
    (∃ (s : State) (p : Fin 16) (vc : Fin 8) (bs : List Byte) (m : Option (Nat × Nat)) (d : Nat),
      (s.yzp p).msgs.find? (fun x => x.1 == vc.val) = some (vc.val, bs) ∧ vc.val < 7 ∧ vc.val ≠ 5 ∧ s.msgTarget (msgHdr bs) = some d ∧ d ≠ s.ownAddr ∧
      0 < (msgHdr bs).hops) ∧
    (∃ (s : State) (mac : Fin 64) (port : Fin 65536) (ip : Nat) (seq : Nat) (ack : Nat) (vc : Fin 8) (bs : List Byte), s.yzPort mac port = false) ∧
    (∃ (s : State) (mac : Fin 64) (port : Fin 65536) (ip : Nat) (seq : Nat) (ack : Nat) (vc : Fin 8) (bs : List Byte), s.yzPort mac port = true ∧
      (s.peerOfIp ip = none ∨ (vc.val ≠ 0 ∧ vc.val ≠ 1 ∧ vc.val ≠ 6))) ∧
    (∃ (s : State) (mac : Fin 64) (port : Fin 65536) (ip : Nat) (seq : Nat) (ack : Nat) (i : Nat) (vc : Fin 8) (bs : List Byte),
      s.yzPort mac port = true ∧ s.peerOfIp ip = some i ∧ (vc.val = 0 ∨ vc.val = 1 ∨ vc.val = 6) ∧ seq = (s.udpx i vc).rx + 1 ∧ (s.udpx i vc).held = [] ∧
      s.msgTarget (msgHdr bs) = some s.ownAddr ∧ msgGood vc bs = true ∧ s.chkServed (vcFunc vc) = true ∧
      tget (fun _ => none) s.yz.aliveRx ((msgHdr bs).src * 8 + vc) = none) ∧
    (∃ (s : State) (mac : Fin 64) (port : Fin 65536) (ip : Nat) (seq : Nat) (ack : Nat) (i : Nat) (vc : Fin 8) (bs : List Byte),
      s.yzPort mac port = true ∧ s.peerOfIp ip = some i ∧ (vc.val = 0 ∨ vc.val = 1 ∨ vc.val = 6) ∧
      (seq ≤ (s.udpx i vc).rx ∨ (∃ m, m ∈ (s.udpx i vc).held ∧ m.1 = seq))) ∧
    (∃ (s : State) (mac : Fin 64) (port : Fin 65536) (ip : Nat) (seq : Nat) (ack : Nat) (i : Nat) (vc : Fin 8) (bs : List Byte),
      s.yzPort mac port = true ∧ s.peerOfIp ip = some i ∧ (vc.val = 0 ∨ vc.val = 1 ∨ vc.val = 6) ∧ (s.udpx i vc).rx + 1 < seq ∧
      (∀ m, m ∈ (s.udpx i vc).held → m.1 ≠ (s.udpx i vc).rx + 1 ∧ m.1 ≠ seq) ∧ (s.udpx i vc).held.length < 64) ∧
    (∃ (s : State) (i : Fin 64) (vc : Fin 8) (q : Nat) (r : Nat) (n : Nat) (bs : List Byte) (l : List (Nat × Nat × Nat × List Byte)),
      (s.udpx i vc).unack = (q, r, n, bs) :: l ∧ s.raw - r ≥ 4 * msU ∧ n < 8) ∧
    (∃ (s : State) (i : Fin 64) (vc : Fin 8) (q : Nat) (r : Nat) (n : Nat) (bs : List Byte) (l : List (Nat × Nat × Nat × List Byte)),
      (s.udpx i vc).unack = (q, r, n, bs) :: l ∧ s.raw - r ≥ 4 * msU ∧ 8 ≤ n) ∧
    (∃ (s : State), s.bit YZ_CFG_EN = true ∧ s.raw - s.yz.hbRaw ≥ msU) ∧
    (∃ (s : State) (src : Fin 4096) (healthy : Bool) (view : Nat) (lvl : Fin 4), s.bit YZ_CFG_EN = true ∧ src.val ≠ s.ownAddr ∧
      s.chkServed (vcFunc 0) = true ∧ lvl.val ≤ 1 ∧ s.sameGroup src = true ∧ nbit (s.fld YZ_MEMBERS1_CONF) (src % 16) = true) ∧
    (∃ (s : State) (src : Fin 4096) (healthy : Bool) (view : Nat) (lvl : Fin 4), s.bit YZ_CFG_EN = true ∧ src.val ≠ s.ownAddr ∧
      s.chkServed (vcFunc 0) = true ∧ (lvl.val = 3 ∨ (lvl.val = 2 ∧ src.val / 256 = s.ownAddr / 256))) ∧
    (∃ (s : State) (src : Fin 4096) (lvl : Fin 4), s.bit YZ_CFG_EN = true ∧ src.val ≠ s.ownAddr ∧ s.sameGroup src = true ∧ lvl.val ≤ 1 ∧
      (tget (fun _ => MemberX.zero) s.yz.members src).raw ≠ 0 ∧
      s.raw + 1 - (tget (fun _ => MemberX.zero) s.yz.members src).raw ≥ s.fld YZ_CFG_DEAD_MS * msU) ∧
    (∃ (s : State) (src : Fin 4096) (lvl : Fin 4), 1 < lvl.val ∧ tget (fun _ => 0) s.yz.coords (lvl * 4096 + src) ≠ 0 ∧
      s.raw + 1 - tget (fun _ => 0) s.yz.coords (lvl * 4096 + src) ≥ 50 * msU) ∧
    (∃ (s : State) (r1 : List (Nat × Nat × Nat × Nat)) (r2 : List (Nat × Nat × Nat × Nat)) (r3 : List (Nat × Nat × Nat × Nat)), s.bit YZ_CFG_EN = true ∧
      s.raw - s.yz.capRaw ≥ 10 * msU ∧ (s.bit YZ_COORD1_VALID = false ∨ s.bit YZ_COORD1_SELF = true)) ∧
    (∃ (s : State) (r1 : List (Nat × Nat × Nat × Nat)) (r2 : List (Nat × Nat × Nat × Nat)) (r3 : List (Nat × Nat × Nat × Nat)), s.bit YZ_CFG_EN = true ∧
      s.raw - s.yz.capRaw ≥ 10 * msU ∧ s.bit YZ_COORD1_VALID = true ∧ s.bit YZ_COORD1_SELF = false) :=
  ⟨⟨port15 1 4 (fun y => { y with msgs := [(1, msgV 1 0x123 0x345 7 2 9 [1, 2, 3]), (2, [1])] }) (up [(YZ_CFG_ADDR, 0x123)] b1), 15, 1,
      msgV 1 0x123 0x345 7 2 9 [1, 2, 3], none, by decide +kernel⟩,
   ⟨port15 1 4 (fun y => { y with msgs := [(3, msgV 3 0x123 0x345 7 2 9 [1, 2, 3]), (2, [1])] }) (up [(YZ_CFG_ADDR, 0x123)] b1), 15, 3,
      msgV 3 0x123 0x345 7 2 9 [1, 2, 3], none, by decide +kernel⟩,
   ⟨port15 1 4 (fun y => { y with msgs := [(5, msgV 5 0x123 0x345 7 2 9 [1, 2, 3]), (2, [1])] }) (up [(YZ_CFG_ADDR, 0x123)] b1), 15,
      msgV 5 0x123 0x345 7 2 9 [1, 2, 3], 4, 0x7000, by decide +kernel⟩,
   ⟨port15 1 4 (fun y => { y with msgs := [(7, msgV 7 0x124 0x345 7 2 9 [1, 2, 3]), (2, [1])] }) (up [(YZ_CFG_ADDR, 0x123)] b1), 15,
      msgV 7 0x124 0x345 7 2 9 [1, 2, 3], none, by decide +kernel⟩,
   ⟨let x := port15 1 4 (fun y => { y with msgs := [(1, (msgV 1 0x123 0x345 7 2 9 [1, 2, 3])), (5, [1])] }) (up [(YZ_CFG_ADDR, 0x123)] b1); { x with yz := { x.yz with aliveRx := [(0x345 * 8 + 1, some 9)] } },
      15, 1, msgV 1 0x123 0x345 7 2 9 [1, 2, 3], none, by decide +kernel⟩,
   ⟨port15 1 4 (fun y => { y with msgs := [(1, msgV 1 0x124 0x345 7 0 9 [1, 2, 3]), (2, [1])] }) (up [(YZ_CFG_ADDR, 0x123)] b1), 15, 1,
      msgV 1 0x124 0x345 7 0 9 [1, 2, 3], none, by decide +kernel⟩,
   ⟨port15 1 4 (fun y => { y with msgs := [(1, msgV 1 0x124 0x345 7 2 9 [1, 2, 3]), (2, [1])] }) (up [(YZ_CFG_ADDR, 0x123)] b1), 15, 1,
      msgV 1 0x124 0x345 7 2 9 [1, 2, 3], none, 0x124, by decide +kernel⟩,
   ⟨peer63 UdpX.zero b1, 3, 4001, 0, 0, 0, 0, [], by decide +kernel⟩,
   ⟨peer63 UdpX.zero b1, 3, 4000, 78, 0, 0, 1, [], by decide +kernel⟩,
   ⟨up [(YZ_CFG_ADDR, 0x123)] (peer63 { UdpX.zero with rx := 9, unack := [(4, 0, 1, [1]), (5, 0, 1, [2])] } b1), 3, 4000, 77, 10, 4, 63, 1,
      msgV 1 0x123 0x345 7 2 9 [1, 2, 3], by decide +kernel⟩,
   ⟨peer63 { UdpX.zero with rx := 9, unack := [(4, 0, 1, [1]), (5, 0, 1, [2])] } b1, 3, 4000, 77, 9, 4, 63, 1, [], by decide +kernel⟩,
   ⟨peer63 { UdpX.zero with rx := 9, unack := [(4, 0, 1, [1]), (5, 0, 1, [2])] } b1, 3, 4000, 77, 11, 4, 63, 1, [1], by decide +kernel⟩,
   ⟨at' 5000 (b1.setUdpx 63 1 { UdpX.zero with rx := 9, unack := [(4, 0, 1, [1]), (5, 0, 1, [2])] }), 63, 1, 4, 0, 1, [1], [(5, 0, 1, [2])],
      by decide +kernel⟩,
   ⟨at' 5000 (b1.setUdpx 63 1 { UdpX.zero with rx := 9, unack := [(4, 0, 8, [1]), (5, 0, 1, [2])] }), 63, 1, 4, 0, 8, [1], [(5, 0, 1, [2])],
      by decide +kernel⟩,
   ⟨at' 5000 (up [(YZ_CFG_EN, 1), (YZ_CFG_ADDR, 0x123), (YZ_MEMBERS1_CONF, 0x8009)] b1), by decide +kernel⟩,
   ⟨let x := at' 5000 (up [(YZ_CFG_EN, 1), (YZ_CFG_ADDR, 0x123), (YZ_MEMBERS1_CONF, 0x8009)] b1); { x with yz := { x.yz with members := [(0x12F, ⟨5, false, 7⟩)] } },
      0x12F, true, 0x18009, 1, by decide +kernel⟩,
   ⟨at' 5000 (up [(YZ_CFG_EN, 1), (YZ_CFG_ADDR, 0x123), (YZ_MEMBERS1_CONF, 0x8009)] b1), 0x13F, true, 0, 2, by decide +kernel⟩,
   ⟨let x := at' 500000 (up [(YZ_CFG_EN, 1), (YZ_CFG_ADDR, 0x123), (YZ_MEMBERS1_CONF, 0x8009), (YZ_MEMBERS1_HEARD, 0x8008)] b1); { x with yz := { x.yz with members := [(0x12F, ⟨5, true, 7⟩)] } },
      0x12F, 1, by decide +kernel⟩,
   ⟨let x := at' 500000 (up [(YZ_CFG_EN, 1), (YZ_CFG_ADDR, 0x123)] b1); { x with yz := { x.yz with coords := [(3 * 4096 + 0x200, 6)] } }, 0x200, 3,
      by decide +kernel⟩,
   ⟨at' 500000 (up [(YZ_CFG_EN, 1), (YZ_COORD1_SELF, 1)] b1), [(5, 6, 7, 8), (1, 2, 3, 4)], [], [], by decide +kernel⟩,
   ⟨at' 500000 (up [(YZ_CFG_EN, 1), (YZ_COORD1_VALID, 1), (YZ_COORD1_ADDR, 9)] b1), [(5, 6, 7, 8), (1, 2, 3, 4)], [], [], by decide +kernel⟩⟩

theorem wit_FloorGroups :
    (∃ (s : State) (lvl : Fin 4) (ident : Nat) (a : Nat) (v : W32) (r : RegRow), s.bit YZ_CFG_EN = true ∧ regRow a = some r ∧ r.stMask ≠ 0 ∧
      s.stageStatus 3 (rackedBlock a) = 0 ∧ s.stage.records = [] ∧ s.stage.checking = false ∧ lvl.val < 2) ∧
    (∃ (s : State) (lvl : Fin 4) (ident : Nat) (ws : List (Nat × W32)) (rs : List StagedRec), s.bit YZ_CFG_EN = true ∧
      s.stageStatus 3 (decide (rs ≠ []) || ws.any (fun w => rackedBlock w.1)) = 0 ∧ (∀ w, w ∈ ws → stageable w.1 = true) ∧
      s.stage.records.length + rs.length ≤ 1024 ∧ (lvl.val < 2 ∨ s.bit ⟨coordReg (lvl - 1), 30, 1⟩ = false)) ∧
    (∃ (s : State) (lvl : Fin 4) (ident : Nat) (ws : List (Nat × W32)) (rs : List StagedRec), s.bit YZ_CFG_EN = true ∧
      s.stageStatus 3 (decide (rs ≠ []) || ws.any (fun w => rackedBlock w.1)) = 0 ∧ (∀ w, w ∈ ws → stageable w.1 = true) ∧
      s.stage.records.length + rs.length ≤ 1024 ∧ 2 ≤ lvl.val ∧ s.bit ⟨coordReg (lvl - 1), 30, 1⟩ = true) ∧
    (∃ (s : State) (lvl : Fin 4) (ident : Nat) (ws : List (Nat × W32)) (rs : List StagedRec), s.bit YZ_CFG_EN = true ∧
      (s.stageStatus 3 (decide (rs ≠ []) || ws.any (fun w => rackedBlock w.1)) ≠ 0 ∨ (∃ w, w ∈ ws ∧ stageable w.1 = false) ∨ 1024 < s.stage.records.length + rs.length)) ∧
    (∃ (s : State) (ident : Nat) (pid : Nat) (atNs : Int), s.yz.grpId = some ident ∧ s.yz.grpRaw ≠ 0 ∧ s.yz.group = none ∧ s.stage.owner = 3 ∧
      s.bit CFG_STAGE_STAT_CHECKED = true ∧ s.stage.pitches.length < 8) ∧
    (∃ (s : State) (ident : Nat) (pid : Nat) (atNs : Int) (g : GroupX), s.yz.grpId = some ident ∧ s.yz.grpRaw ≠ 0 ∧ s.yz.group = some g ∧ g.up = true ∧
      g.ident = ident) ∧
    (∃ (s : State) (ident : Nat) (pid : Nat) (atNs : Int), s.yz.grpId = some ident ∧ s.yz.grpRaw ≠ 0 ∧ s.yz.group = none ∧
      (s.stage.owner ≠ 3 ∨ s.bit CFG_STAGE_STAT_CHECKED = false)) ∧
    (∃ (s : State), s.yz.grpRaw ≠ 0 ∧ s.raw + 1 - s.yz.grpRaw ≥ 10 * msU ∧ s.stage.owner = 3) ∧
    (∃ (s : State) (g : GroupX), s.yz.group = some g ∧ g.wait ≠ [] ∧ s.raw - g.raw ≥ 10 * msU ∧ g.up = true) ∧
    (∃ (s : State) (g : GroupX), s.yz.group = some g ∧ g.wait ≠ [] ∧ s.raw - g.raw ≥ 10 * msU ∧ g.up = false) :=
  ⟨⟨up [(YZ_CFG_EN, 1)] b1, 0, 5, ENC_CH_CTRL 3, 0x12345678, (regRow (ENC_CH_CTRL 3)).getD ⟨0, [], 0, []⟩, by decide +kernel⟩,
   ⟨up [(YZ_CFG_EN, 1)] b1, 0, 5, [(THM_ZONE_LIM_A 3, 5)], [⟨3, 5, [1]⟩], by decide +kernel⟩,
   ⟨up [(YZ_CFG_EN, 1), (YZ_CFG_ADDR, 0x120), (YZ_COORD1_SELF, 1), (YZ_COORD1_VALID, 1)] (let x := b1; { x with yz := { x.yz with members := [(0x12F, ⟨5, true, 7⟩)] } }),
      2, 5, [(THM_ZONE_LIM_A 3, 5)], [], by decide +kernel⟩,
   ⟨up [(YZ_CFG_EN, 1)] { b1 with stage := { b1.stage with owner := 1 } }, 0, 5, [(THM_ZONE_LIM_A 3, 5)], [], by decide +kernel⟩,
   ⟨up [(CFG_STAGE_STAT_CHECKED, 1), (CFG_STAGE_STAT_OWNER, 3)] { b1 with stage := { b1.stage with owner := 3, writes := [(THM_ZONE_LIM_A 3, 5)] }, yz := { b1.yz with grpId := some 5, grpRaw := 1 } },
      5, 9, 9000, by decide +kernel⟩,
   ⟨up [(CFG_STAGE_STAT_CHECKED, 1), (CFG_STAGE_STAT_OWNER, 3)] { b1 with stage := { b1.stage with owner := 3, writes := [(THM_ZONE_LIM_A 3, 5)] }, yz := { b1.yz with grpId := some 5, grpRaw := 1, group := some (⟨5, 1, [1, 2], [], 0, true, true⟩) } },
      5, 9, 9000, ⟨5, 1, [1, 2], [], 0, true, true⟩, by decide +kernel⟩,
   ⟨up [(CFG_STAGE_STAT_OWNER, 3)] { b1 with stage := { b1.stage with owner := 3, writes := [(THM_ZONE_LIM_A 3, 5)] }, yz := { b1.yz with grpId := some 5, grpRaw := 1 } },
      5, 0, 0, by decide +kernel⟩,
   ⟨at' 10000 (up [(CFG_STAGE_STAT_CHECKED, 1), (CFG_STAGE_STAT_OWNER, 3)] { b1 with stage := { b1.stage with owner := 3, writes := [(THM_ZONE_LIM_A 3, 5)] }, yz := { b1.yz with grpId := some 5, grpRaw := 1 } }),
      by decide +kernel⟩,
   ⟨at' 10000 { b1 with yz := { b1.yz with group := some (⟨5, 1, [1, 2], [2], 0, true, true⟩) } }, ⟨5, 1, [1, 2], [2], 0, true, true⟩, by decide +kernel⟩,
   ⟨at' 10000 { b1 with yz := { b1.yz with group := some (⟨5, 1, [1, 2], [2], 0, true, false⟩) } }, ⟨5, 1, [1, 2], [2], 0, true, false⟩,
      by decide +kernel⟩⟩

theorem wit_TwinRacking :
    (∃ (s : State) (r : RackRec) (snap : Bool), (s.role = 2 ∨ s.role = 4) ∧ s.chkServed 1 = true ∧ r.gyle ≤ s.gyleSeen ∧
      (s.rdn.expect = 0 → r.first = true) ∧ (s.rdn.expect ≠ 0 → r.seq = s.rdn.expect) ∧ r.commit = false) ∧
    (∃ (s : State) (r : RackRec) (crc : Bool) (snap : Bool), (s.role = 2 ∨ s.role = 4) ∧ r.gyle ≤ s.gyleSeen ∧
      (crc = false ∨ s.chkServed 1 = false ∨ (s.rdn.expect ≠ 0 ∧ s.rdn.expect < r.seq))) ∧
    (∃ (s : State) (r : RackRec) (snap : Bool), (s.role = 2 ∨ s.role = 4) ∧ s.chkServed 1 = true ∧ r.gyle ≤ s.gyleSeen ∧
      (r.seq < s.rdn.expect ∨ (s.rdn.expect = 0 ∧ r.first = false))) ∧
    (∃ (s : State) (r : RackRec) (snap : Bool), (s.role = 2 ∨ s.role = 4) ∧ s.chkServed 1 = true ∧ (s.rdn.expect = 0 → r.first = true) ∧
      (s.rdn.expect ≠ 0 → r.seq = s.rdn.expect) ∧ r.seq < 2 ^ 64 ∧ r.commit = true) ∧
    (∃ (s : State) (r : RackRec) (snap : Bool), s.role = 1 ∧ s.inPair = true ∧ s.chkServed 1 = true ∧ s.gyle < r.gyle ∧ s.gyleSeen < r.gyle ∧
      r.gyle < 2 ^ 64) ∧
    (∃ (s : State) (r : RackRec) (f : Nat) (e : Nat), s.role = 2 ∧ s.chkServed 1 = true ∧ r.gyle ≤ s.gyleSeen ∧ s.rdn.expect ≠ 0 ∧ r.seq = s.rdn.expect ∧
      r.seq < 2 ^ 64 ∧ r.first = true ∧ r.commit = true ∧ r.item = .lastSent f e) ∧
    (∃ (s : State) (r : RackRec) (u : Nat) (tm : Int) (e : Nat), s.role = 2 ∧ s.chkServed 1 = true ∧ r.gyle ≤ s.gyleSeen ∧ s.rdn.expect ≠ 0 ∧
      r.seq = s.rdn.expect ∧ r.first = true ∧ r.commit = true ∧ r.item = .capture u tm e) ∧
    (∃ (s : State) (q : Nat), s.role = 1 ∧ 0 < q ∧ q < s.rdn.nextSeq ∧ (∃ l r, l ∈ s.rdn.journal ∧ r ∈ l ∧ r.seq = q)) ∧
    (∃ (s : State) (q : Nat) (poison : Bool), s.role = 1 ∧ 0 < q ∧ q < s.rdn.nextSeq ∧ (poison = true ∨ ∀ l r, l ∈ s.rdn.journal → r ∈ l → r.seq ≠ q)) ∧
    (∃ (s : State) (poison : Bool), s.role = 1) ∧
    (∃ (s : State) (q : Nat), s.role = 1 ∧ q < s.rdn.nextSeq ∧ s.rdn.swapId = none) ∧
    (∃ (s : State) (q : Nat), s.role = 1 ∧ q < s.rdn.nextSeq ∧ s.rdn.swapId = none ∧ s.rdn.warmReady = true ∧ (∀ x, x ∈ s.rdn.unacked → x.1 ≤ q) ∧
      s.rendsReady = true ∧ s.bit RDN_STAT_DEGRADED = true) ∧
    (∃ (s : State) (q : Nat) (i : Nat), s.role = 1 ∧ q < s.rdn.nextSeq ∧ s.rdn.swapId = some i ∧ s.rdn.handSeq ≠ 0 ∧ s.rdn.handSeq ≤ q) ∧
    (∃ (s : State), s.role = 1 ∧ s.raw - s.rdn.sinceSent ≥ 250 * usU ∧ s.rdn.nextSeq < 2 ^ 64) ∧
    (∃ (s : State), s.role = 1 ∧ s.raw - s.rdn.lsRaw ≥ msU ∧ s.rdn.swapId = none) ∧
    (∃ (s : State) (q : Nat) (r : Nat), s.role = 1 ∧ (q, r) ∈ s.rdn.unacked ∧ s.raw - r > s.fld RDN_CFG2_DEAD * 100 * usU ∧
      s.bit RDN_STAT_DEGRADED = false) ∧
    (∃ (s : State) (p : Port), Taken s p RDN_CTRL 2 ∧ s.role = 2) ∧
    (∃ (s : State) (p : Port), Taken s p RDN_CTRL 2 ∧ s.role ≠ 2) ∧
    (∃ (s : State) (p : Port), Taken s p RDN_CTRL 1 ∧ s.role = 1 ∧ s.bit RDN_STAT_READY = true ∧ s.rdn.swapId = none) ∧
    (∃ (s : State) (p : Port), Taken s p RDN_CTRL 1 ∧ (s.role ≠ 1 ∨ s.bit RDN_STAT_READY = false ∨ s.rdn.swapId ≠ none)) ∧
    (∃ (s : State), s.inPair = true ∧ s.raw - s.rdn.dayRaw ≥ 86400 * secU) :=
  ⟨⟨twin 2 (fun r => { r with expect := 9, held := [rr 8 true false .heartbeat] }) b1, rr 9 false false .heartbeat, false, by decide +kernel⟩,
   ⟨twin 2 (fun r => { r with expect := 9 }) b1, rr 10 false false .heartbeat, true, false, by decide +kernel⟩,
   ⟨twin 2 (fun r => { r with expect := 9 }) b1, rr 8 false false .heartbeat, false, by decide +kernel⟩,
   ⟨twin 4 (fun r => { r with expect := 9, held := [rr 8 true false .heartbeat] }) b1, rr 9 false true (.lastSent 7 70000), false, by decide +kernel⟩,
   ⟨twin 1 id b1, ⟨9, true, true, 6, .heartbeat⟩, false, by decide +kernel⟩,
   ⟨twin 2 (fun r => { r with expect := 9, lastSent := [(3, 4)] }) b1, rr 9 true true (.lastSent 7 70000), 7, 70000, by decide +kernel⟩,
   ⟨twin 2 (fun r => { r with expect := 9, lastSent := [(3, 4)] }) b1, rr 9 true true (.capture 15 (-5) 6), 15, -5, 6, by decide +kernel⟩,
   ⟨twin 1 (fun r => { r with nextSeq := 9, journal := [[rr 5 true false .heartbeat, rr 6 false true .heartbeat], [rr 7 true true .heartbeat]] }) b1, 6,
      by decide +kernel, by decide +kernel, by decide +kernel,
      ⟨[rr 5 true false .heartbeat, rr 6 false true .heartbeat], rr 6 false true .heartbeat, by decide +kernel, by decide, by decide⟩⟩,
   ⟨twin 1 (fun r => { r with nextSeq := 9, journal := [[rr 7 true true .heartbeat]] }) b1, 6, false, by decide +kernel, by decide +kernel,
      by decide +kernel, Or.inr (by intro l r hl hr; exact (by decide +kernel : ∀ l ∈ [[rr 7 true true .heartbeat]], ∀ r ∈ l, r.seq ≠ 6) l hl r hr)⟩,
   ⟨twin 1 (fun r => { r with nextSeq := 9, warmReady := true, rendReady := [(3, true)] }) (up [(RDN_STAT_READY, 1)] (leg2 b1)), false,
      by decide +kernel⟩,
   ⟨(twin 1 (fun r => { r with nextSeq := 9, unacked := [(6, 1), (7, 2)], journal := [[rr 5 true false .heartbeat, rr 6 false true .heartbeat], [rr 7 true true .heartbeat]] }) b1).setFx 5 { FlowX.zero with resv := 77, resvSeq := 6 },
      6, by decide +kernel⟩,
   ⟨twin 1 (fun r => { r with nextSeq := 9, unacked := [(6, 1)], warmReady := true }) (up [(RDN_STAT_DEGRADED, 1)] b1), 6, by decide +kernel⟩,
   ⟨twin 1 (fun r => { r with nextSeq := 9, unacked := [(6, 1), (7, 2)], swapId := some 5, handSeq := 6 }) (up [(RDN_CTRL_SWAP, 1), (RDN_STAT_READY, 1), (RDN_STAT_DAYS, 90)] b1),
      6, 5, by decide +kernel⟩,
   ⟨twin 1 (fun r => { r with nextSeq := 0xFFFFFFFF }) b1, by decide +kernel⟩,
   ⟨at' 10050000 (twin 1 (fun r => { r with nextSeq := 9, lsRaw := 10049000 * usU, lastSent := [(3, 4), (5, 6)] }) b1), by decide +kernel⟩,
   ⟨twin 1 (fun r => { r with unacked := [(6, 1)] }) b1, 6, 1, by decide +kernel⟩,
   ⟨twin 2 (fun r => { r with expect := 9, warmReady := true, held := [rr 8 true false .heartbeat] }) b1, .hcp, by unfold Taken; decide +kernel,
      by decide +kernel⟩,
   ⟨twin 1 id b1, .hcp, by unfold Taken; decide +kernel, by decide +kernel⟩,
   ⟨twin 1 (fun r => { r with nextSeq := 9, lastSent := [(3, 4), (5, 6)] }) (up [(RDN_STAT_READY, 1)] b1), .hcp, by unfold Taken; decide +kernel,
      by decide +kernel, by decide +kernel, by decide +kernel⟩,
   ⟨twin 1 id b1, .hcp, by unfold Taken; decide +kernel, by decide +kernel⟩,
   ⟨at' 86400000000 (twin 1 id (up [(RDN_STAT_DAYS, 65535), (RDN_CFG3_SWAP_DAYS, 90)] b1)), by decide +kernel⟩⟩

theorem wit_TwinLease :
    (∃ (s : State), s.role = 2 ∧ s.inPair = true ∧ s.raw - s.rdn.peerRaw ≥ s.fld RDN_CFG2_DEAD * 100 * usU ∧
      (s.rdn.claimRaw ≤ s.rdn.peerRaw ∨ s.fld RDN_CFG2_LEASE_MS * msU ≤ s.raw - s.rdn.claimRaw) ∧ s.MayClaim) ∧
    (∃ (s : State), s.role = 2 ∧ s.inPair = true ∧ s.raw - s.rdn.peerRaw ≥ s.fld RDN_CFG2_DEAD * 100 * usU ∧
      (s.rdn.claimRaw ≤ s.rdn.peerRaw ∨ s.fld RDN_CFG2_LEASE_MS * msU ≤ s.raw - s.rdn.claimRaw) ∧ (s.cask.identBad = true ∨ s.gyleSeen = 2 ^ 64 - 1)) ∧
    (∃ (s : State) (pair : Fin 256) (who : Fin 4096) (shadow : Bool) (lseq : Nat) (gyle : Nat) (dur : Nat), s.chkServed (vcFunc 0) = true ∧ s.role = 3 ∧
      (s.arb pair shadow).endRaw ≤ s.raw ∧ (s.arb pair shadow).gyle < gyle) ∧
    (∃ (s : State) (pair : Fin 256) (who : Fin 4096) (shadow : Bool) (lseq : Nat) (gyle : Nat) (dur : Nat), s.chkServed (vcFunc 0) = true ∧ s.role = 3 ∧
      s.raw < (s.arb pair shadow).endRaw ∧ (s.arb pair shadow).gyle < gyle ∧
      (∀ w q g d, (s.arb pair shadow).waiting = some (w, q, g, d) → g < gyle ∨ who.val = w)) ∧
    (∃ (s : State) (pair : Fin 256) (who : Fin 4096) (shadow : Bool) (lseq : Nat) (gyle : Nat) (dur : Nat), s.chkServed (vcFunc 0) = true ∧ s.role = 3 ∧
      s.raw < (s.arb pair shadow).endRaw ∧ who.val = (s.arb pair shadow).holder ∧ gyle = (s.arb pair shadow).gyle) ∧
    (∃ (s : State) (pair : Fin 256) (who : Fin 4096) (shadow : Bool) (lseq : Nat) (gyle : Nat) (dur : Nat), s.chkServed (vcFunc 0) = true ∧ s.role = 3 ∧
      ((gyle ≤ (s.arb pair shadow).gyle ∧ (gyle < (s.arb pair shadow).gyle ∨ who.val ≠ (s.arb pair shadow).holder ∨ (s.arb pair shadow).endRaw ≤ s.raw)) ∨ (s.raw < (s.arb pair shadow).endRaw ∧ (s.arb pair shadow).gyle < gyle ∧ ∃ w q g d, (s.arb pair shadow).waiting = some (w, q, g, d) ∧ gyle ≤ g ∧ who.val ≠ w))) ∧
    (∃ (s : State) (pair : Fin 256) (shadow : Bool) (w : Nat) (q : Nat) (g : Nat) (d : Nat), s.role = 3 ∧ (s.arb pair shadow).endRaw ≤ s.raw ∧
      (s.arb pair shadow).waiting = some (w, q, g, d)) ∧
    (∃ (s : State) (pair : Fin 256) (shadow : Bool) (req : Bool), s.chkServed (vcFunc 0) = true ∧ s.role = 3) ∧
    (∃ (s : State) (pair : Fin 256) (shadow : Bool) (req : Bool), s.chkServed (vcFunc 0) = true ∧ s.role = 2 ∧ s.inPair = true ∧ s.MayClaim) ∧
    (∃ (s : State) (who : Fin 4096) (lseq : Nat) (gyle : Nat) (dur : Nat) (r : LeaseReq), s.chkServed (vcFunc 0) = true ∧ s.role = 4 ∧
      s.leaseReq who lseq = some r ∧ r.shadow = false ∧ gyle < 2 ^ 64 ∧ s.raw < r.raw + dur * usU ∧ s.atStep 9 = false) ∧
    (∃ (s : State) (who : Fin 4096) (lseq : Nat) (gyle : Nat) (dur : Nat) (r : LeaseReq), s.chkServed (vcFunc 0) = true ∧ s.role = 4 ∧
      s.leaseReq who lseq = some r ∧ r.shadow = false ∧ gyle ≤ s.gyleSeen ∧ r.raw + dur * usU ≤ s.raw) ∧
    (∃ (s : State) (who : Fin 4096) (lseq : Nat) (gyle : Nat) (dur : Nat) (r : LeaseReq), s.chkServed (vcFunc 0) = true ∧ s.role = 1 ∧
      s.leaseReq who lseq = some r ∧ r.shadow = false ∧ gyle ≤ s.gyleSeen) ∧
    (∃ (s : State) (who : Fin 4096) (lseq : Nat) (gyle : Nat) (dur : Nat) (r : LeaseReq), s.chkServed (vcFunc 0) = true ∧ s.leaseReq who lseq = some r ∧
      r.shadow = true ∧ gyle ≤ s.gyleSeen) ∧
    (∃ (s : State) (who : Fin 4096) (shadow : Bool) (lseq : Nat) (gyle : Nat) (dur : Nat), s.chkServed (vcFunc 0) = true ∧ s.role = 1 ∧
      who.val ≠ s.fld YZ_CFG_ADDR ∧ s.gyle < gyle ∧ s.gyleSeen < gyle ∧ gyle < 2 ^ 64) ∧
    (∃ (s : State) (who : Fin 4096) (lseq : Nat) (gyle : Nat) (r : LeaseReq), s.chkServed (vcFunc 0) = true ∧ s.role = 4 ∧ s.leaseReq who lseq = some r ∧
      r.shadow = false ∧ gyle < 2 ^ 64 ∧ s.atStep 9 = false) ∧
    (∃ (s : State) (gyle : Nat), s.chkServed (vcFunc 0) = true ∧ s.role = 1 ∧ gyle < 2 ^ 64) ∧
    (∃ (s : State) (gyle : Nat), s.chkServed (vcFunc 0) = true ∧ s.role = 2 ∧ gyle ≤ s.gyleSeen ∧ s.MayClaim) ∧
    (∃ (s : State) (sound : Bool) (pair : Fin 256) (who : Fin 4096) (shadow : Bool) (req : Bool) (lseq : Nat) (gyle : Nat) (dur : Nat),
      (sound = false ∨ s.chkServed (vcFunc 0) = false)) ∧
    (∃ (s : State) (shadow : Bool), (s.role = 1 ∧ shadow = false ∨ s.role = 2 ∧ s.bit RDN_CFG_MEDIA = true ∧ shadow = true) ∧ s.safe.forced = false ∧
      s.inPair = true ∧ s.raw - s.rdn.renewRaw ≥ s.fld RDN_CFG2_RENEW * 100 * usU) ∧
    (∃ (s : State), s.role = 1 ∧ s.rdn.egressStop = false ∧ s.rdn.leaseEnd ≤ s.raw) ∧
    (∃ (s : State), s.role = 4 ∧ s.raw - s.rdn.claimRaw ≥ s.fld RDN_CFG2_LEASE_MS * msU ∧ s.atStep 9 = false) ∧
    (∃ (s : State), s.role = 2 ∧ s.inPair = true ∧ s.raw - s.rdn.claimRaw ≥ s.fld RDN_CFG2_LEASE_MS * msU ∧
      s.raw - s.rdn.peerRaw ≥ s.fld RDN_CFG2_DEAD * 100 * usU ∧ s.MayClaim) ∧
    (∃ (s : State) (p : Port) (dur : Fin 32) (q : Fin 65536) (r : LeaseReq),
      Taken s p RDN_HG_CMD (BitVec.ofNat 32 (2 * 2 ^ 28 + dur.val * 2 ^ 23 + q.val)) ∧ s.role = 1 ∧ s.gyle ≤ s.gyleSeen ∧
      nbit (s.fld RDN_HG_REQ_VALUE) 31 = true ∧ s.fld RDN_HG_REQ_VALUE % 65536 = q.val ∧ s.rdn.reqs.find? (fun x => x.lseq % 65536 == q.val) = some r ∧
      r.shadow = false) ∧
    (∃ (s : State) (p : Port) (dur : Fin 32) (q : Fin 65536) (r : LeaseReq),
      Taken s p RDN_HG_CMD (BitVec.ofNat 32 (2 * 2 ^ 28 + dur.val * 2 ^ 23 + q.val)) ∧ s.role = 4 ∧ s.atStep 9 = false ∧
      nbit (s.fld RDN_HG_REQ_VALUE) 31 = true ∧ s.fld RDN_HG_REQ_VALUE % 65536 = q.val ∧ s.rdn.reqs.find? (fun x => x.lseq % 65536 == q.val) = some r ∧
      r.shadow = false ∧ s.raw < r.raw + dur.val * 1000 * usU) ∧
    (∃ (s : State) (p : Port) (dur : Fin 32) (q : Fin 65536), Taken s p RDN_HG_CMD (BitVec.ofNat 32 (2 * 2 ^ 28 + dur.val * 2 ^ 23 + q.val)) ∧
      (nbit (s.fld RDN_HG_REQ_VALUE) 31 = false ∨ s.fld RDN_HG_REQ_VALUE % 65536 ≠ q.val)) ∧
    (∃ (s : State) (p : Port) (q : Fin 65536) (r : LeaseReq), Taken s p RDN_HG_CMD (BitVec.ofNat 32 (3 * 2 ^ 28 + q.val)) ∧ s.role = 4 ∧
      s.atStep 9 = false ∧ nbit (s.fld RDN_HG_REQ_VALUE) 31 = true ∧ s.fld RDN_HG_REQ_VALUE % 65536 = q.val ∧
      s.rdn.reqs.find? (fun x => x.lseq % 65536 == q.val) = some r ∧ r.shadow = false) ∧
    (∃ (s : State) (p : Port) (q : Fin 65536), Taken s p RDN_HG_CMD (BitVec.ofNat 32 (3 * 2 ^ 28 + q.val)) ∧
      (nbit (s.fld RDN_HG_REQ_VALUE) 31 = false ∨ s.fld RDN_HG_REQ_VALUE % 65536 ≠ q.val)) ∧
    (∃ (s : State) (p : Port) (q : Fin 65536), Taken s p RDN_HG_CMD (BitVec.ofNat 32 (5 * 2 ^ 28 + q.val)) ∧ s.role = 1) ∧
    (∃ (s : State) (p : Port) (q : Fin 65536), Taken s p RDN_HG_CMD (BitVec.ofNat 32 (5 * 2 ^ 28 + q.val)) ∧ s.role = 2 ∧ s.MayClaim) ∧
    (∃ (s : State), s.atStep 9 = true ∧ s.inPair = true ∧ s.role ≠ 2 ∧ s.role ≠ 4 ∧ s.raw - s.rdn.listenRaw ≥ s.fld RDN_CFG2_DEAD * 100 * usU ∧
      s.rdn.peerRaw ≤ s.rdn.listenRaw ∧
      (s.bit RDN_CFG_PREFER = true ∨ s.fld RDN_CFG2_DEAD * 100 * usU + 2 * (s.fld RDN_CFG2_LEASE_MS * msU) ≤ s.raw - s.rdn.listenRaw) ∧ s.MayClaim) ∧
    (∃ (s : State), s.atStep 9 = true ∧ s.inPair = true ∧ s.role ≠ 2 ∧ s.role ≠ 4 ∧ s.raw - s.rdn.listenRaw ≥ s.fld RDN_CFG2_DEAD * 100 * usU ∧
      s.rdn.listenRaw < s.rdn.peerRaw) :=
  ⟨⟨twin 2 (fun r => { r with held := [rr 8 true false .heartbeat] }) b1, by decide +kernel, by decide +kernel, by decide +kernel, by decide +kernel,
      by unfold State.MayClaim; decide +kernel⟩,
   ⟨up [(RDN_GYLE_SEEN_LO_VALUE, 0xFFFFFFFF), (RDN_GYLE_SEEN_HI_VALUE, 0xFFFFFFFF)] (twin 2 id b1), by decide +kernel⟩,
   ⟨twin 3 (fun r => { r with arb := [(511, ⟨3, 6, 5, none⟩), (510, ⟨3, 8, 5, none⟩)] }) b1, 255, 4095, true, 0, 7, 5000, by decide +kernel⟩,
   ⟨twin 3 (fun r => { r with arb := [(511, ⟨3, 6, us 10000001, none⟩)] }) b1, 255, 4095, true, 0, 7, 5000, by decide +kernel, by decide +kernel,
      by decide +kernel, by decide +kernel, fun w q g d h => nomatch (show (none : Option (Nat × Nat × Nat × Nat)) = some (w, q, g, d) from h)⟩,
   ⟨twin 3 (fun r => { r with arb := [(511, ⟨3, 6, us 10000001, none⟩)] }) b1, 255, 3, true, 0, 6, 5000, by decide +kernel⟩,
   ⟨twin 3 (fun r => { r with arb := [(511, ⟨3, 6, us 10000001, none⟩)] }) b1, 255, 4, true, 0, 6, 5000, by decide +kernel, by decide +kernel,
      Or.inl (by decide +kernel)⟩,
   ⟨twin 3 (fun r => { r with arb := [(511, ⟨3, 6, us 9, some (4, 5, 7, 8)⟩)] }) b1, 255, true, 4, 5, 7, 8, by decide +kernel⟩,
   ⟨twin 3 (fun r => { r with arb := [(511, ⟨3, 6, us 10000001, none⟩)] }) b1, 255, true, false, by decide +kernel⟩,
   ⟨twin 2 id b1, 0, false, false, by decide +kernel, by decide +kernel, by decide +kernel, by unfold State.MayClaim; decide +kernel⟩,
   ⟨twin 4 (fun r => { r with reqs := [⟨9, us 9999000, false, false⟩], cause := 1, causeRaw := us 9999000 }) b1, 0, 9, 6, 20000,
      ⟨9, us 9999000, false, false⟩, by decide +kernel⟩,
   ⟨twin 4 (fun r => { r with reqs := [⟨9, us 9979000, false, false⟩], cause := 1 }) b1, 0, 9, 5, 20000, ⟨9, us 9979000, false, false⟩,
      by decide +kernel⟩,
   ⟨twin 1 (fun r => { r with reqs := [⟨9, us 9999000, false, false⟩], egressStop := true }) b1, 0, 9, 5, 20000, ⟨9, us 9999000, false, false⟩,
      by decide +kernel⟩,
   ⟨twin 2 (fun r => { r with reqs := [⟨9, us 9999000, true, false⟩] }) b1, 0, 9, 5, 20000, ⟨9, us 9999000, true, false⟩, by decide +kernel⟩,
   ⟨twin 1 (fun r => { r with reqs := [⟨9, us 9999000, false, false⟩] }) b1, 5, false, 9, 6, 0, by decide +kernel⟩,
   ⟨twin 4 (fun r => { r with reqs := [⟨9, us 9999000, false, false⟩] }) b1, 0, 9, 5, ⟨9, us 9999000, false, false⟩, by decide +kernel⟩,
   ⟨twin 1 id b1, 5, by decide +kernel⟩,
   ⟨twin 2 id b1, 5, by decide +kernel, by decide +kernel, by decide +kernel, by unfold State.MayClaim; decide +kernel⟩,
   ⟨twin 3 id b1, false, 255, 4095, false, false, 7, 8, 9, by decide +kernel⟩,
   ⟨twin 1 id b1, false, by decide +kernel⟩,
   ⟨twin 1 (fun r => { r with leaseEnd := us 9999999 }) b1, by decide +kernel⟩,
   ⟨twin 4 id b1, by decide +kernel⟩,
   ⟨twin 2 id b1, by decide +kernel, by decide +kernel, by decide +kernel, by decide +kernel, by unfold State.MayClaim; decide +kernel⟩,
   ⟨up [(RDN_CFG_ARB, 2), (RDN_HG_REQ_VALUE, 2 ^ 31 + 65535)] (twin 1 (fun r => { r with reqs := [⟨65535, us 9999999, false, true⟩] }) b1), .hcp, 31,
      65535, ⟨65535, us 9999999, false, true⟩, by unfold Taken; decide +kernel, by decide +kernel, by decide +kernel, by decide +kernel, by decide +kernel,
      by decide +kernel, by decide +kernel⟩,
   ⟨up [(RDN_CFG_ARB, 2), (RDN_HG_REQ_VALUE, 2 ^ 31 + 65535)] (twin 4 (fun r => { r with reqs := [⟨65535, us 9999999, false, true⟩] }) b1), .hcp, 31,
      65535, ⟨65535, us 9999999, false, true⟩, by unfold Taken; decide +kernel, by decide +kernel, by decide +kernel, by decide +kernel, by decide +kernel,
      by decide +kernel, by decide +kernel, by decide +kernel⟩,
   ⟨up [(RDN_CFG_ARB, 2), (RDN_HG_REQ_VALUE, 2 ^ 31 + 65535)] (twin 1 (fun r => { r with reqs := [⟨65535, us 9999999, false, true⟩] }) b1), .hcp, 31,
      65534, by unfold Taken; decide +kernel, by decide +kernel⟩,
   ⟨up [(RDN_CFG_ARB, 2), (RDN_HG_REQ_VALUE, 2 ^ 31 + 65535)] (twin 4 (fun r => { r with reqs := [⟨65535, us 9999999, false, true⟩] }) b1), .hcp, 65535,
      ⟨65535, us 9999999, false, true⟩, by unfold Taken; decide +kernel, by decide +kernel, by decide +kernel, by decide +kernel, by decide +kernel,
      by decide +kernel, by decide +kernel⟩,
   ⟨up [(RDN_CFG_ARB, 2), (RDN_HG_REQ_VALUE, 2 ^ 31 + 65535)] (twin 4 (fun r => { r with reqs := [⟨65535, us 9999999, false, true⟩] }) b1), .hcp, 65534,
      by unfold Taken; decide +kernel, by decide +kernel⟩,
   ⟨twin 1 id b1, .hcp, 65535, by unfold Taken; decide +kernel, by decide +kernel⟩,
   ⟨twin 2 id b1, .hcp, 65535, by unfold Taken; decide +kernel, by decide +kernel, by unfold State.MayClaim; decide +kernel⟩,
   ⟨up [(CFG_BOOT_STAT_STEP, 9), (RDN_CFG_PREFER, 1)] (twin 0 id b1), by decide +kernel, by decide +kernel, by decide +kernel, by decide +kernel,
      by decide +kernel, by decide +kernel, by decide +kernel, by unfold State.MayClaim; decide +kernel⟩,
   ⟨up [(CFG_BOOT_STAT_STEP, 9)] (twin 0 (fun r => { r with listenRaw := 5, peerRaw := us 100 }) b1), by decide +kernel⟩⟩

theorem wit_SafeModeAndFaults :
    (∃ (s : State) (o : MemOwner), s.ownerFenced o = false) ∧
    (∃ (s : State) (u : Fin 12), s.bit (CHK_UNIT_STAT_FENCED u) = false ∧ s.chkFuncs u = []) ∧
    (∃ (s : State) (f : Fin 2097152), (s.fx f).resident = false) ∧
    (∃ (s : State) (f : Fin 2097152), (s.fx f).resident = true ∧ (s.fx f).dirty = true) ∧
    (∃ (s : State) (f : Fin 2097152), (s.fx f).resident = true ∧ (s.fx f).dirty = false ∧ s.brg.fetches.contains f.val = false) ∧
    (∃ (s : State) (link : Fin 1024) (plane : Fin 2), s.safe.mode = false) ∧
    (∃ (s : State) (link : Fin 1024) (plane : Fin 2), ((tget (fun _ => []) s.safe.linkWin link).filter (fun r => decide (s.raw < r + msU))).length < 16 ∧
      tget (fun _ => Lim.zero) s.lims (limKey 4 plane) = Lim.zero) ∧
    (∃ (s : State) (link : Fin 1024) (plane : Fin 2), 16 ≤ ((tget (fun _ => []) s.safe.linkWin link).filter (fun r => decide (s.raw < r + msU))).length ∧
      s.safe.mode = false) ∧
    (∃ (s : State) (link : Fin 1024) (plane : Fin 2), s.safe.mode = true) ∧
    (∃ (s : State) (link : Fin 1024) (plane : Fin 2) (again : Bool) (o : MemOwner), s.ownerFenced o = false) ∧
    (∃ (s : State) (p : Port) (a : Nat) (wr : Bool), s.ctl.stale.contains a = false) ∧
    (∃ (s : State) (pair : Fin 2), s.safe.pairs = 3) ∧
    (∃ (s : State) (pair : Fin 2), nbit s.safe.pairs pair = true ∧ nclr s.safe.pairs pair = 0) ∧
    (∃ (s : State) (pair : Fin 2), nbit s.safe.pairs pair = false) ∧
    (∃ (s : State), s.raw - s.safe.hourRaw ≥ 3600 * secU ∧ s.safe.hourCnt.length ≤ 8192) ∧
    (∃ (s : State), s.safe.mode = false) ∧
    (∃ (s : State) (dram : Bool), s.safe.mode = false) ∧
    (∃ (s : State) (dram : Bool), s.safe.mode = true) ∧
    (∃ (s : State) (p : Port) (v : W32), Taken s p SYS_CTRL v ∧ fieldGet v 0 1 = 1 ∧ s.safe.mode = false) :=
  ⟨⟨b1, .tun 39, by decide +kernel⟩,
   ⟨b1, 11, by decide +kernel⟩,
   ⟨b1, 2097151, by decide +kernel⟩,
   ⟨fx' 5 { FlowX.zero with resident := true, dirty := true } (flow5 b1), 5, by decide +kernel⟩,
   ⟨fx' 2097151 { FlowX.zero with resident := true } b1, 2097151, by decide +kernel⟩,
   ⟨twin 1 id b1, 1023, 1, by decide +kernel⟩,
   ⟨at' 5000 { b1 with safe := { Safe.zero with linkWin := [(1023, List.replicate 15 (us 4500) ++ [us 4000])] } }, 1023, 1, by decide +kernel⟩,
   ⟨at' 5000 { b1 with safe := { Safe.zero with linkWin := [(1023, List.replicate 16 (us 4500))] } }, 1023, 1, by decide +kernel⟩,
   ⟨{ b1 with safe := { Safe.zero with mode := true } }, 1023, 0, by decide +kernel⟩,
   ⟨b1, 1023, 0, false, .tun 39, by decide +kernel⟩,
   ⟨b1, .hcp, 0x54000, false, by decide +kernel⟩,
   ⟨twin 1 id b1, 1, by decide +kernel⟩,
   ⟨{ b1 with safe := { Safe.zero with pairs := 2 } }, 1, by decide +kernel⟩,
   ⟨{ b1 with safe := { Safe.zero with pairs := 2 } }, 0, by decide +kernel⟩,
   ⟨at' 7200000000 { b1 with safe := { Safe.zero with hourCnt := [(1, 3), (2, 70000)] }, cask := { Cask.new with logSeq := 8191 } }, by decide +kernel⟩,
   ⟨twin 1 id b1, by decide +kernel⟩,
   ⟨b1, true, by decide +kernel⟩,
   ⟨{ b1 with safe := { Safe.zero with mode := true } }, true, by decide +kernel⟩,
   ⟨b1, .hcp, 1, by unfold Taken; decide +kernel, by decide +kernel, by decide +kernel⟩⟩

theorem wit_CheckValueUnits :
    (∃ (s : State) (p : Port) (u : Fin 16) (v : W32), Taken s p (CHK_UNIT_FEED_B u) v) ∧
    (∃ (s : State) (p : Port) (u : Fin 16) (v : W32), Taken s p (CHK_UNIT_FEED_H u) v) ∧
    (∃ (s : State) (p : Port) (u : Fin 16) (v : W32), Taken s p (CHK_UNIT_FEED_W u) v) ∧
    (∃ (s : State) (p : Port) (u : Fin 12) (w : Fin 16) (v : W32) (i : Instr × Nat), w.val = u.val ∧
      i ∈ [(.chkFeedB p w v, CHK_UNIT_FEED_B u), (.chkFeedH p w v, CHK_UNIT_FEED_H u), (.chkFeedW p w v, CHK_UNIT_FEED_W u), (.chkStart p w v, CHK_UNIT_CTRL u), (.chkAliveRst p w v, CHK_UNIT_CTRL u), (.chkValueWrite p w v, CHK_UNIT_VALUE u), (.chkCfgWrite p w v, CHK_UNIT_CFG u), (.chkAliveWrite p w v, CHK_UNIT_ALIVE u)] ∧
      s.writeStatus p i.2 v = 0) ∧
    (∃ (s : State) (p : Port) (u : Fin 16) (v : W32), Taken s p (CHK_UNIT_CTRL u) v) ∧
    (∃ (s : State) (p : Port) (u : Fin 16) (v : W32), Taken s p (CHK_UNIT_VALUE u) v) ∧
    (∃ (s : State) (p : Port) (u : Fin 16) (v : W32), Taken s p (CHK_UNIT_CFG u) v) ∧
    (∃ (s : State) (p : Port) (u : Fin 16) (v : W32), Taken s p (CHK_UNIT_ALIVE u) v ∧
      (u.val ∉ s.chkLive ∨ fieldGet v 0 8 = (s.fld (CHK_UNIT_ALIVE_VALUE u) + 1) % 256)) ∧
    (∃ (s : State) (p : Port) (u : Fin 16) (v : W32), Taken s p (CHK_UNIT_ALIVE u) v ∧ u.val ∈ s.chkLive ∧
      fieldGet v 0 8 = s.fld (CHK_UNIT_ALIVE_VALUE u)) ∧
    (∃ (s : State) (p : Port) (u : Fin 16) (v : W32) (d : Nat), Taken s p (CHK_UNIT_ALIVE u) v ∧ u.val ∈ s.chkLive ∧ 2 ≤ d ∧ d ≤ 255 ∧
      fieldGet v 0 8 = (s.fld (CHK_UNIT_ALIVE_VALUE u) + d) % 256) ∧
    (∃ (s : State) (u : Fin 12) (r : W32) (mem : Bool), s.bit (CHK_UNIT_STAT_FENCED u) = false ∧
      (mem = true ∨ (s.chkFuncs u ≠ [] ∧ r.toNat ≠ s.chkExpected u))) ∧
    (∃ (s : State) (u : Fin 12) (r : W32) (mem : Bool),
      (s.bit (CHK_UNIT_STAT_FENCED u) = true ∨ (mem = false ∧ (s.chkFuncs u = [] ∨ r.toNat = s.chkExpected u)))) :=
  ⟨⟨ups [(CHK_UNIT_CFG_ALG 15, 0), (CHK_UNIT_STAT_FEEDS 15, 65535)] b1, .hcp, 15, 0x12345678, by unfold Taken; decide +kernel⟩,
   ⟨ups [(CHK_UNIT_CFG_ALG 15, 1), (CHK_UNIT_CFG_WIDTH 15, 3)] b1, .hcp, 15, 0x12345678, by unfold Taken; decide +kernel⟩,
   ⟨ups [(CHK_UNIT_CFG_ALG 12, 5)] b1, .hcp, 12, 0x12345678, by unfold Taken; decide +kernel⟩,
   ⟨b1, .hcp, 11, 11, 0x12345678, (.chkFeedB (.hcp) (11) (0x12345678), CHK_UNIT_FEED_B (11)), by decide +kernel⟩,
   ⟨{ ups [(CHK_UNIT_INIT_VALUE 15, 0xFFFFFFFF), (CHK_UNIT_CFG_WIDTH 15, 3)] b1 with chkLive := [15, 12] }, .hcp, 15, 3, by unfold Taken; decide +kernel⟩,
   ⟨b1, .hcp, 15, 77, by unfold Taken; decide +kernel⟩,
   ⟨ups [(CHK_UNIT_CFG_ALG 15, 4)] b1, .hcp, 15, 0xF7, by unfold Taken; decide +kernel⟩,
   ⟨{ ups [(CHK_UNIT_ALIVE_VALUE 15, 255)] b1 with chkLive := [15] }, .hcp, 15, 0, by unfold Taken; decide +kernel, by decide +kernel⟩,
   ⟨{ ups [(CHK_UNIT_ALIVE_VALUE 15, 255)] b1 with chkLive := [15] }, .hcp, 15, 255, by unfold Taken; decide +kernel, by decide +kernel,
      by decide +kernel⟩,
   ⟨{ ups [(CHK_UNIT_ALIVE_VALUE 15, 255)] b1 with chkLive := [15] }, .hcp, 15, 1, 2, by unfold Taken; decide +kernel, by decide +kernel,
      by decide +kernel, by decide +kernel, by decide +kernel⟩,
   ⟨b1, 8, 0, false, by decide +kernel⟩,
   ⟨b1, 11, 0, false, by decide +kernel⟩⟩

theorem wit_DramQueues :
    (∃ (s : State) (req : Requester) (addr : Nat) (len : Nat), OneBurst addr len ∧ s.populated addr len = false) ∧
    (∃ (s : State) (req : Requester) (addr : Nat) (len : Nat) (c : Nat) (r : Nat), OneBurst addr len ∧ s.populated addr len = true ∧ s.DrFree c addr ∧
      r = s.rankOf addr ∧ r < 2 ∧ (∀ w, w ∈ (s.drc c).writes → Off (64 * w.burst + w.ofs) addr len ∧ Off addr (64 * w.burst + w.ofs) w.bytes.length)) ∧
    (∃ (s : State) (req : Requester) (addr : Nat) (len : Nat) (c : Nat), OneBurst addr len ∧ s.populated addr len = true ∧ s.DrFree c addr ∧
      (∀ q, q ∈ (s.drc c).reads → q.res = none ∧ q.req ≠ req) ∧ (∀ i, i < len → queuedByte (s.drc c).writes (addr + i) = true)) ∧
    (∃ (s : State) (req : Requester) (addr : Nat) (len : Nat) (c : Nat), OneBurst addr len ∧ s.populated addr len = true ∧ c = s.chanOf addr ∧
      (s.drServes c addr = false ∨ 64 ≤ (s.drc c).reads.length) ∧ (∀ q, q ∈ (s.drc c).held → s.drCredit c q = false)) ∧
    (∃ (s : State) (c : Fin 24) (r : DrRead) (ce : Nat), (s.drc c).reads = [r] ∧ r.res = none ∧ (s.drc c).held = [] ∧ s.chanOf r.addr = c.val ∧
      (∀ b, b ∈ burstsOf r.addr r.len → s.isPoison b = false)) ∧
    (∃ (s : State) (c : Fin 24) (r : DrRead) (b : Nat) (ce : Nat) (ue : Option (Nat × Bool)), (s.drc c).reads = [r] ∧ r.res = none ∧ (s.drc c).held = [] ∧
      s.chanOf r.addr = c.val ∧ burstsOf r.addr r.len = [b] ∧ s.chanOf (64 * b) = c.val ∧ (s.isPoison b = true ∨ ue = some (0, false))) ∧
    (∃ (s : State) (c : Fin 24) (r : DrRead) (b : Nat) (ce : Nat), (s.drc c).reads = [r] ∧ r.res = none ∧ (s.drc c).held = [] ∧ s.chanOf r.addr = c.val ∧
      burstsOf r.addr r.len = [b] ∧ s.isPoison b = false) ∧
    (∃ (s : State) (c : Fin 24) (num : Nat) (ce : Nat) (ue : Option (Nat × Bool)) (q : DrRead), q ∈ (s.drc c).reads ∧ q.req.cls = .timed ∧ q.res = none ∧
      (∀ r, r ∈ (s.drc c).reads → r.num = num → r.req.cls ≠ .timed ∨ r.res ≠ none)) ∧
    (∃ (s : State) (req : Requester) (burst : Nat) (ofs : Fin 64) (bs : List Byte) (ue : Bool) (c : Nat), bs ≠ [] ∧ bs.length + ofs ≤ 64 ∧
      s.populated (64 * burst + ofs) bs.length = true ∧ s.DrFree c (64 * burst + ofs)) ∧
    (∃ (s : State) (req : Requester) (burst : Nat) (ofs : Fin 64) (bs : List Byte) (ue : Bool) (c : Nat), bs ≠ [] ∧ bs.length + ofs ≤ 64 ∧
      s.populated (64 * burst + ofs) bs.length = true ∧ c = s.chanOf (64 * burst + ofs) ∧
      (s.drServes c (64 * burst + ofs) = false ∨ 64 ≤ (s.drc c).writes.length) ∧ (∀ q, q ∈ (s.drc c).held → s.drCredit c q = false)) ∧
    (∃ (s : State) (req : Requester) (burst : Nat) (ofs : Fin 64) (bs : List Byte) (ue : Bool), bs ≠ [] ∧
      s.populated (64 * burst + ofs) (bs.take (64 - ofs)).length = false) ∧
    (∃ (s : State) (c : Fin 24) (w : DrWrite) (l : List DrWrite), (s.drc c).writes = w :: l ∧ s.raw - w.raw ≥ s.uclk c (s.fld (DRM_CH_SCHED_WR_AGE c)) ∧
      (s.drc c).held = []) ∧
    (∃ (s : State) (c : Fin 24) (r : Fin 2), s.fld (DRM_CH_STAT_STATE c) = 3 ∧ r.val < s.drRanks ∧ s.bit (DRM_CH_PWR_PD_EN c) = true ∧
      (∀ q, q ∈ (s.drc c).reads → s.rankOf q.addr ≠ r.val) ∧ (∀ w, w ∈ (s.drc c).writes → s.rankOf (64 * w.burst) ≠ r.val) ∧
      s.raw - (s.drc c).last.getD r 0 ≥ s.uclk c (s.fld (DRM_CH_PWR_PD_IDLE c))) ∧
    (∃ (s : State) (c : Fin 24) (g : Fin 16), s.fld (DRM_CH_STAT_STATE c) = 9 ∧ (s.drc c).fill = [g.val]) ∧
    (∃ (s : State) (c : Fin 24) (ce : Nat) (ue : List (Fin 7)), s.fld (DRM_CH_STAT_STATE c) = 3 ∧ s.fld (DRM_CH_SCRUB_BLOCK c) + 1 < 2 ^ 26) :=
  ⟨⟨b1, .decCore 3, 0, 64, by unfold OneBurst; decide +kernel, by decide +kernel⟩,
   ⟨drm [(DRM_CH_STAT_PD 0, 3)] b1, .tun 3, 64, 64, 0, 0, by unfold OneBurst; decide +kernel, by decide +kernel, by unfold State.DrFree; decide +kernel,
      by decide +kernel, by decide +kernel, by unfold Off; decide +kernel⟩,
   ⟨(drm [] (chd (fun x => { x with writes := [⟨1, 0, List.replicate 64 7, false, 0⟩] }) b1)).dputs 64 [7, 7, 7, 7], .window, 64, 4, 0,
      by unfold OneBurst; decide +kernel, by decide +kernel, by unfold State.DrFree; decide +kernel, by decide +kernel, by decide +kernel⟩,
   ⟨drm [(DRM_CH_STAT_STATE 0, 1)] b1, .window, 64, 4, 0, by unfold OneBurst; decide +kernel, by decide +kernel, by decide +kernel, by decide +kernel,
      by decide +kernel⟩,
   ⟨drm [] (chd (fun x => { x with reads := [⟨5, .tun 3, 64, 4, [1, 2, 3, 4], none⟩] }) b1), 0, ⟨5, .tun 3, 64, 4, [1, 2, 3, 4], none⟩, 2,
      by decide +kernel⟩,
   ⟨drm [] (chd (fun x => { x with reads := [⟨5, .tun 3, 64, 4, [1, 2, 3, 4], none⟩], poison := [1] }) b1), 0, ⟨5, .tun 3, 64, 4, [1, 2, 3, 4], none⟩, 1,
      0, none, by decide +kernel⟩,
   ⟨drm [] (chd (fun x => { x with reads := [⟨5, .tun 3, 64, 4, [1, 2, 3, 4], none⟩] }) b1), 0, ⟨5, .tun 3, 64, 4, [1, 2, 3, 4], none⟩, 1, 0,
      by decide +kernel⟩,
   ⟨drm [] (chd (fun x => { x with reads := [⟨5, .tun 3, 64, 4, [1, 2, 3, 4], none⟩, ⟨6, .ingress 3, 128, 4, [1, 2, 3, 4], none⟩] }) b1), 0, 5, 0, none,
      ⟨6, .ingress 3, 128, 4, [1, 2, 3, 4], none⟩, by decide +kernel⟩,
   ⟨drm [(DRM_CH_SCHED_WR_HIGH 0, 48)] b1, .window, 1, 60, [1, 0, 3, 4], false, 0, by decide +kernel, by decide +kernel, by decide +kernel,
      by unfold State.DrFree; decide +kernel⟩,
   ⟨drm [(DRM_CH_STAT_STATE 0, 1)] b1, .window, 1, 60, [1, 0, 3, 4], false, 0, by decide +kernel⟩,
   ⟨b1, .decCore 3, 0, 0, [1], false, by decide +kernel⟩,
   ⟨drm [] (chd (fun x => { x with writes := [⟨1, 0, List.replicate 64 7, false, 0⟩], poison := [1, 2] }) b1), 0, ⟨1, 0, List.replicate 64 7, false, 0⟩,
      [], by decide +kernel⟩,
   ⟨drm [] b1, 0, 1, by decide +kernel⟩,
   ⟨(drm [(DRM_CH_STAT_STATE 0, 9)] (chd (fun x => { x with fill := [0], poison := [1] }) b1)).dputs 64 [7, 7, 7, 7], 0, 0, by decide +kernel⟩,
   ⟨drm [(DRM_CH_CNT_CE_COUNT 0, 0xFFFFFFFF)] b1, 0, 2, [], by decide +kernel⟩⟩

theorem wit_DramTraining :
    (∃ (s : State) (c : Fin 24) (ws : List W32), (s.fld (DRM_CH_STAT_STATE c) = 1 ∨ s.fld (DRM_CH_STAT_STATE c) = 2) ∧
      (s.atStep 5 = true → ∃ d, d ∈ s.drChans ∧ d ≠ c.val ∧ s.fld (DRM_CH_STAT_STATE d) ≠ 3 ∧ s.fld (DRM_CH_STAT_STATE d) ≠ 6)) ∧
    (∃ (s : State) (c : Fin 24) (ws : List W32), s.fld (DRM_CH_STAT_STATE c) = 2) ∧
    (∃ (s : State) (c : Fin 24) (ws : List W32), s.fld (DRM_CH_STAT_STATE c) = 1 ∧ (s.drc c).again = false) ∧
    (∃ (s : State) (c : Fin 24) (ws : List W32), s.fld (DRM_CH_STAT_STATE c) = 1 ∧ (s.drc c).again = true ∧
      (s.atStep 5 = true → ∃ d, d ∈ s.drChans ∧ d ≠ c.val ∧ s.fld (DRM_CH_STAT_STATE d) ≠ 3 ∧ s.fld (DRM_CH_STAT_STATE d) ≠ 6)) ∧
    (∃ (s : State) (p : Port) (c : Fin 24) (rank : Fin 2) (n : Fin 8192), Taken s p (DRM_TR_CMD c) (trWord 1 rank n) ∧ s.boot.held = false ∧
      s.fld (DRM_CH_STAT_STATE c) = 4) ∧
    (∃ (s : State) (p : Port) (c : Fin 24) (rank : Fin 2) (n : Fin 8192) (es : List Nat), Taken s p (DRM_TR_CMD c) (trWord 2 rank n) ∧
      s.boot.held = false ∧ s.fld (DRM_CH_STAT_STATE c) = 4) ∧
    (∃ (s : State) (p : Port) (c : Fin 24) (rank : Fin 2) (n : Fin 8192) (es : List (Option (Nat × Nat))), Taken s p (DRM_TR_CMD c) (trWord 3 rank n) ∧
      s.boot.held = false ∧ s.fld (DRM_CH_STAT_STATE c) = 4 ∧ (∀ b, b < 18 → ∃ l r, es.getD b none = some (l, r) ∧ l ≤ r ∧ r < 256)) ∧
    (∃ (s : State) (p : Port) (c : Fin 24) (k : Nat) (cs : List Nat), Taken s p (DRM_TR_CMD c) (trWord 4 0 0) ∧ s.boot.held = false ∧
      s.fld (DRM_CH_STAT_STATE c) = 4 ∧ (s.drc c).sweep = some (k, cs)) ∧
    (∃ (s : State) (p : Port) (c : Fin 24) (rank : Fin 2) (n : Fin 8192) (es : List (Option (Nat × Nat))) (b : Nat),
      Taken s p (DRM_TR_CMD c) (trWord 3 rank n) ∧ s.boot.held = false ∧ s.fld (DRM_CH_STAT_STATE c) = 4 ∧ b < 18 ∧ es.getD b none = none) ∧
    (∃ (s : State) (p : Port) (c : Fin 24), Taken s p (DRM_TR_CMD c) (trWord 4 0 0) ∧ s.boot.held = false ∧ s.fld (DRM_CH_STAT_STATE c) = 4 ∧
      (s.drc c).sweep = none) ∧
    (∃ (s : State) (p : Port) (c : Fin 24) (rank : Fin 2) (n : Fin 8192) (ns : List Nat) (es : List (Option (Nat × Nat))) (i : Instr × W32),
      i ∈ [(.trPatternWrite p c rank n, trWord 1 rank n), (.trReadCompare p c rank n ns, trWord 2 rank n), (.trSweep p c rank n es, trWord 3 rank n), (.trApplyCentres p c, trWord 4 0 0)] ∧
      Taken s p (DRM_TR_CMD c) i.2 ∧ s.boot.held = false ∧ s.fld (DRM_CH_STAT_STATE c) ≠ 4) ∧
    (∃ (s : State) (p : Port) (c : Fin 24) (v : W32), Taken s p (DRM_CH_CTRL c) v ∧ fieldGet v 4 1 = 1 ∧ s.fld (DRM_CH_STAT_STATE c) = 4 ∧
      s.boot.held = false) ∧
    (∃ (s : State) (p : Port) (c : Fin 24) (v : W32), Taken s p (DRM_CH_CTRL c) v ∧ (fieldGet v 4 1 = 0 ∨ s.fld (DRM_CH_STAT_STATE c) ≠ 4) ∧
      s.boot.held = false) ∧
    (∃ (s : State) (p : Port) (v : W32) (a : Nat) (c : Nat) (d : Nat), Taken s p DRM_XLATE_HI v ∧ a = (s.rd DRM_XLATE_LO).toNat + 2 ^ 32 * v.toNat ∧
      s.xlate a = some (c, d) ∧ c < 24 ∧ rawOf d / s.drRank < 2 ∧ rawOf d < 2 ^ 64) ∧
    (∃ (s : State) (p : Port) (v : W32), Taken s p DRM_XLATE_HI v ∧ s.xlate ((s.rd DRM_XLATE_LO).toNat + 2 ^ 32 * v.toNat) = none) :=
  ⟨⟨drm [(DRM_CH_STAT_STATE 0, 1)] b1, 0, [1, 2], by decide +kernel⟩,
   ⟨drm [(DRM_CH_STAT_STATE 0, 2)] b1, 0, [], by decide +kernel⟩,
   ⟨drm [(DRM_CH_STAT_STATE 0, 1)] b1, 0, [], by decide +kernel⟩,
   ⟨drm [(DRM_CH_STAT_STATE 0, 1)] (chd (fun x => { x with again := true }) b1), 0, [], by decide +kernel⟩,
   ⟨drm [(DRM_CH_STAT_STATE 23, 4), (DRM_TR_STAT_ERR 23, 1)] b1, .hcp, 23, 1, 8191, by unfold Taken; decide +kernel, by decide +kernel,
      by decide +kernel⟩,
   ⟨drm [(DRM_CH_STAT_STATE 23, 4), (DRM_TR_ERR_COUNT 23 17, 0xFFFFFFFE)] b1, .hcp, 23, 0, 0, List.replicate 18 5, by unfold Taken; decide +kernel,
      by decide +kernel, by decide +kernel⟩,
   ⟨drm [(DRM_CH_STAT_STATE 23, 4)] b1, .hcp, 23, 0, 0, List.replicate 18 (some (10, 255)), by unfold Taken; decide +kernel, by decide +kernel,
      by decide +kernel,
      fun b hb => ⟨10, 255, (by decide : ∀ b, b < 18 → (List.replicate 18 (some (10, 255))).getD b none = some (10, 255)) b hb, by decide, by decide⟩⟩,
   ⟨drm [(DRM_CH_STAT_STATE 0, 4)] (chd (fun x => { x with sweep := some (3, [1, 2]) }) b1), .hcp, 0, 3, [1, 2], by unfold Taken; decide +kernel,
      by decide +kernel, by decide +kernel, by decide +kernel⟩,
   ⟨drm [(DRM_CH_STAT_STATE 23, 4)] b1, .hcp, 23, 0, 0, List.replicate 17 (some (10, 255)), 17, by unfold Taken; decide +kernel, by decide +kernel,
      by decide +kernel, by decide +kernel, by decide +kernel⟩,
   ⟨drm [(DRM_CH_STAT_STATE 0, 4)] b1, .hcp, 0, by unfold Taken; decide +kernel, by decide +kernel, by decide +kernel, by decide +kernel⟩,
   ⟨drm [] b1, .hcp, 0, 1, 8191, [], [], (.trPatternWrite (.hcp) (0) (1) (8191), trWord 1 (1) (8191)), by decide +kernel,
      by unfold Taken; decide +kernel, by decide +kernel, by decide +kernel⟩,
   ⟨drm [(DRM_CH_STAT_STATE 0, 4)] (chd (fun x => { x with params := [(3, [1, 2]), (4, [5])] }) b1), .hcp, 0, 16, by unfold Taken; decide +kernel,
      by decide +kernel, by decide +kernel, by decide +kernel⟩,
   ⟨drm [] b1, .hcp, 0, 16, by unfold Taken; decide +kernel, by decide +kernel, by decide +kernel⟩,
   ⟨drm [(DRM_XLATE_LO_ADDR, 0x00031A40)] b1, .hcp, 0x80, (drm [(DRM_XLATE_LO_ADDR, 0x00031A40)] b1).rd DRM_XLATE_LO |>.toNat |> (· + 2^32 * 0x80),
      (((drm [(DRM_XLATE_LO_ADDR, 0x00031A40)] b1).xlate ((drm [(DRM_XLATE_LO_ADDR, 0x00031A40)] b1).rd DRM_XLATE_LO |>.toNat |> (· + 2^32 * 0x80))).getD (0,0)).1,
      (((drm [(DRM_XLATE_LO_ADDR, 0x00031A40)] b1).xlate ((drm [(DRM_XLATE_LO_ADDR, 0x00031A40)] b1).rd DRM_XLATE_LO |>.toNat |> (· + 2^32 * 0x80))).getD (0,0)).2,
      by unfold Taken; decide +kernel, by decide +kernel, by decide +kernel, by decide +kernel, by decide +kernel, by decide +kernel⟩,
   ⟨drm [] b1, .hcp, 0x40FF, by unfold Taken; decide +kernel, by decide +kernel⟩⟩

theorem wit_ClockMonitorsAndTrim :
    (∃ (s : State) (m : Fin 48), s.monJudges m = true ∧ s.failedMon m = false) ∧
    (∃ (s : State) (m : Fin 48), s.monJudges m = true ∧ s.failedMon m = true) ∧
    (∃ (s : State) (m : Fin 48) (hz : Nat) (dev : Int) (unlock : Bool), s.monJudges m = false) ∧
    (∃ (s : State) (m : Fin 48) (hz : Nat) (dev : Int), s.monJudges m = true ∧ s.failedMon m = false ∧
      dev.natAbs ≤ (if s.monClass m = 2 then 1000 else s.fld (CLK_MON_CFG_TOL_PPM m))) ∧
    (∃ (s : State) (m : Fin 48) (hz : Nat) (dev : Int) (unlock : Bool), s.monJudges m = true ∧ s.failedMon m = false ∧
      (unlock = true ∨ (if s.monClass m = 2 then 1000 else s.fld (CLK_MON_CFG_TOL_PPM m)) < dev.natAbs)) ∧
    (∃ (s : State) (m : Fin 48) (hz : Nat) (dev : Int) (unlock : Bool), s.monJudges m = true ∧ s.failedMon m = true ∧
      (unlock = true ∨ (if s.monClass m = 2 then 1000 else s.fld (CLK_MON_CFG_TOL_PPM m)) < dev.natAbs)) ∧
    (∃ (s : State) (m : Fin 48) (hz : Nat) (dev : Int) (g : Nat), s.monJudges m = true ∧ s.failedMon m = true ∧
      dev.natAbs ≤ (if s.monClass m = 2 then 1000 else s.fld (CLK_MON_CFG_TOL_PPM m)) ∧
      g = (if tget (fun _ => 0) s.clk.good m = 0 then s.raw - windowU + 1 else tget (fun _ => 0) s.clk.good m) ∧
      s.raw + 1 - g < s.fld (CLK_MON_CFG_STABLE_MS m) * msU) ∧
    (∃ (s : State) (m : Fin 48) (hz : Nat) (dev : Int) (g : Nat), s.monJudges m = true ∧ s.failedMon m = true ∧
      dev.natAbs ≤ (if s.monClass m = 2 then 1000 else s.fld (CLK_MON_CFG_TOL_PPM m)) ∧
      g = (if tget (fun _ => 0) s.clk.good m = 0 then s.raw - windowU + 1 else tget (fun _ => 0) s.clk.good m) ∧
      s.raw + 1 - g ≥ s.fld (CLK_MON_CFG_STABLE_MS m) * msU) ∧
    (∃ (s : State) (p : Fin 7), 4 ≤ s.fld CFG_BOOT_STAT_STEP ∧ s.bit (CLK_PLL_STAT_LOCK p) = false ∧ s.failedMon (s.fld (CLK_PLL_CFG_REF p)) = false) ∧
    (∃ (s : State) (p : Fin 7), (s.fld CFG_BOOT_STAT_STEP < 4 ∨ s.bit (CLK_PLL_STAT_LOCK p) = true ∨ s.failedMon (s.fld (CLK_PLL_CFG_REF p)) = true)) ∧
    (∃ (s : State) (k : Fin 48), tget (fun _ => 0) s.clk.mux k ≠ 0) ∧
    (∃ (s : State) (k : Fin 48), tget (fun _ => 0) s.clk.mux k ≠ 0) ∧
    (∃ (s : State) (k : Fin 48), tget (fun _ => 0) s.clk.mux k = 0) ∧
    (∃ (s : State) (d : Int) (m : Int) (src : Nat), s.fld CLK_TRIM_CFG_SRC = src ∧ 0 < src ∧ ((src = 1 ∨ src = 2) → s.failedMon src = false) ∧
      (src = 3 → s.fld TB_STAT_STATE = 3 ∧ d = s.tb.rate * 1000000000 / (2 ^ 48 : Int)) ∧ (src ≠ 3 → d = m)) ∧
    (∃ (s : State) (m : Option Int), s.fld CLK_TRIM_CFG_SRC ≠ 0 ∧ s.bit CLK_TRIM_STAT_HELD = false ∧
      (m = none ∨ (s.fld CLK_TRIM_CFG_SRC < 3 ∧ s.failedMon (s.fld CLK_TRIM_CFG_SRC) = true) ∨ (s.fld CLK_TRIM_CFG_SRC = 3 ∧ s.fld TB_STAT_STATE ≠ 3))) ∧
    (∃ (s : State) (m : Option Int), (s.fld CLK_TRIM_CFG_SRC = 0 ∨ (m = none ∧ s.bit CLK_TRIM_STAT_HELD = true))) :=
  ⟨⟨mon [] id b1, 4, by decide +kernel⟩,
   ⟨mon [(CLK_MON_CFG_EN 47, 1), (CLK_FAIL_HI_FAILED, 0x8000)] (fun c => { c with good := [(47, 5)] }) b1, 47, by decide +kernel⟩,
   ⟨up [(CLK_MON_CFG_EN 47, 0)] b1, 47, 0, 0, false, by decide +kernel⟩,
   ⟨mon [(CLK_MON_CFG_EN 32, 1)] id b1, 32, 12288000, -1000, by decide +kernel⟩,
   ⟨mon [] id b1, 10, 5, 101, false, by decide +kernel⟩,
   ⟨mon [(CLK_FAIL_LO_FAILED, 0x10)] (fun c => { c with good := [(4, 5)] }) b1, 4, 7, 0, true, by decide +kernel⟩,
   ⟨mon [(CLK_FAIL_LO_FAILED, 0x10), (CLK_MON_CFG_STABLE_MS 4, 10)] (fun c => { c with good := [(4, us 990001)] }) b1, 4, 0, 0, us 990001,
      by decide +kernel⟩,
   ⟨let s := mon [(CLK_FAIL_LO_FAILED, 0x10), (CLK_MON_CFG_STABLE_MS 4, 10)] (fun c => { c with good := [(4, us 990000 + 1)] }) b1; { s with safe := { s.safe with forced := true, clkFail := true } },
      4, 0, 0, us 990000 + 1, by decide +kernel⟩,
   ⟨b1, 6, by decide +kernel⟩,
   ⟨up [(CLK_PLL_STAT_LOCK 6, 1)] b1, 6, by decide +kernel⟩,
   ⟨mon [] (fun c => { c with mux := [(6, 1)] }) b1, 6, by decide +kernel⟩,
   ⟨mon [] (fun c => { c with mux := [(47, 3)] }) b1, 47, by decide +kernel⟩,
   ⟨b1, 47, by decide +kernel⟩,
   ⟨mon [(CLK_TRIM_CFG_SRC, 3), (TB_STAT_STATE, 3), (CLK_TRIM_STAT_TRACKING, 1), (CLK_TRIM_STAT_TRIM_PPB, 2 ^ 20 - 49999)] id (rated (-281474) b1), -1,
      7, 3, by decide +kernel⟩,
   ⟨mon [(CLK_TRIM_CFG_SRC, 3), (CLK_TRIM_STAT_TRACKING, 1), (CLK_TRIM_STAT_TRIM_PPB, 2 ^ 20 - 49999)] (fun c => { c with trim := some 3 }) b1, none,
      by decide +kernel⟩,
   ⟨up [(CLK_TRIM_CFG_SRC, 0)] b1, some 4, by decide +kernel⟩⟩

theorem wit_GatesDomainsAndModes :
    (∃ (s : State) (n : Fin 148), s.fld (CLK_GATE_STATE n) = 2) ∧
    (∃ (s : State) (n : Fin 148) (k : Nat), s.fld (CLK_GATE_STATE n) = 2 ∧ s.raw + 1 - tget (fun _ => 0) s.clk.gates n ≥ usU) ∧
    (∃ (s : State) (n : Fin 148) (k : Nat), s.fld (CLK_GATE_STATE n) ≠ 2) ∧
    (∃ (s : State) (n : Fin 148) (k : Nat), (s.fld (CLK_GATE_STATE n) ≠ 2 ∨ s.raw + 1 - tget (fun _ => 0) s.clk.gates n < usU)) ∧
    (∃ (s : State) (d : Fin 24), s.domainsMove = true ∧ nbit (s.fld PWR_PD_STAT_ON) d = false ∧ nbit s.wantDomains d = true ∧
      (∀ e, e < d.val → nbit s.wantDomains e = true → nbit (s.fld PWR_PD_STAT_ON) e = true)) ∧
    (∃ (s : State) (d : Fin 24) (l : List (Nat × Nat)), s.domainsMove = true ∧ nbit (s.fld PWR_PD_STAT_ON) d = true ∧ nbit s.wantDomains d = false ∧
      (∀ e, e < 24 → d.val < e → nbit (s.fld PWR_PD_STAT_ON) e = true → nbit s.wantDomains e = true)) ∧
    (∃ (s : State) (d : Fin 24) (n : Nat) (k : Nat), s.domainsMove = true ∧ nbit (s.fld PWR_PD_STAT_ON) d = true ∧ nbit s.wantDomains d = false ∧
      (∀ e, e < 24 → d.val < e → nbit (s.fld PWR_PD_STAT_ON) e = true → nbit s.wantDomains e = true) ∧ n < 148 ∧ gateDomain n = d.val ∧
      (s.fld (CLK_GATE_STATE n) = 0 ∨ s.fld (CLK_GATE_STATE n) = 2) ∧ 0 < k) ∧
    (∃ (s : State) (d : Fin 24),
      (s.domainsMove = false ∨ nbit (s.fld PWR_PD_STAT_ON) d = true ∨ nbit s.wantDomains d = false ∨ ∃ e, e < d.val ∧ nbit s.wantDomains e = true ∧ nbit (s.fld PWR_PD_STAT_ON) e = false)) ∧
    (∃ (s : State) (d : Fin 24) (l : List (Nat × Nat)),
      (s.domainsMove = false ∨ nbit (s.fld PWR_PD_STAT_ON) d = false ∨ nbit s.wantDomains d = true ∨ ∃ e, e < 24 ∧ d.val < e ∧ nbit (s.fld PWR_PD_STAT_ON) e = true ∧ nbit s.wantDomains e = false)) ∧
    (∃ (s : State), s.bit PWR_WAKE_PIN_EN = true ∧ s.failedMon 0 = false ∧ s.fld PWR_MODE_CUR = 3) ∧
    (∃ (s : State), s.bit PWR_WAKE_PIN_EN = true ∧ s.failedMon 0 = false ∧ s.fld PWR_MODE_CUR = 4 ∧ s.pwr.trans = some 2) ∧
    (∃ (s : State) (c : Fin 24), s.bit PWR_WAKE_PIN_EN = true ∧ s.failedMon 0 = false ∧ s.fld PWR_MODE_CUR = 4 ∧ s.pwr.trans ≠ some 2 ∧
      s.bit (DRM_CH_CFG_EN c) = true ∧ s.fld (DRM_CH_STAT_STATE c) = 7) ∧
    (∃ (s : State), s.bit PWR_WAKE_PIN_EN = true ∧ s.failedMon 0 = false ∧ s.fld PWR_MODE_CUR = 2 ∧ (s.pwr.trans = some 3 ∨ s.pwr.trans = some 4)) ∧
    (∃ (s : State), (s.bit PWR_WAKE_PIN_EN = false ∨ s.failedMon 0 = true ∨ (s.fld PWR_MODE_CUR = 2 ∧ s.pwr.trans = none))) ∧
    (∃ (s : State) (m : Nat), s.pwr.trans = some m ∧ (m = 3 ∨ m = 4) ∧ s.fld PWR_MODE_CUR = 2 ∧ (m = 4 → s.pwr.wake = false)) ∧
    (∃ (s : State), s.pwr.trans = some 4 ∧ s.fld PWR_MODE_CUR = 2 ∧ s.pwr.wake = true) ∧
    (∃ (s : State) (m : Nat), s.pwr.trans = some 2 ∧ s.fld PWR_MODE_CUR = m ∧ (m = 3 ∨ m = 4) ∧ s.drTraining = false) ∧
    (∃ (s : State), (s.pwr.trans = none ∨ s.fld PWR_MODE_CUR = 5 ∨ (s.pwr.trans = some 2 ∧ s.drTraining = true))) ∧
    (∃ (s : State), s.bit PWR_AVS_STAT_BUSY = true) ∧
    (∃ (s : State), s.bit PWR_AVS_STAT_BUSY = true ∧ s.pwr.tries < 3) ∧
    (∃ (s : State), s.bit PWR_AVS_STAT_BUSY = true ∧ 3 ≤ s.pwr.tries) ∧
    (∃ (s : State) (a : Bool), s.bit PWR_AVS_STAT_BUSY = false) :=
  ⟨⟨up [(CLK_GATE_STATE 147, 2)] b1, 147, by decide +kernel⟩,
   ⟨mon [(CLK_GATE_STATE 147, 2)] (fun c => { c with gates := [(147, us 999999 + 1)] }) b1, 147, 3, by decide +kernel⟩,
   ⟨b1, 147, 0, by decide +kernel⟩,
   ⟨mon [(CLK_GATE_STATE 147, 2)] (fun c => { c with gates := [(147, us 999999 + 2)] }) b1, 147, 3, by decide +kernel⟩,
   ⟨up [(PWR_PD_STAT_ON, 0xFEFFFF), (PWR_PD_CTRL_ON, 0xFFFFFF)] b1, 16, by decide +kernel⟩,
   ⟨(up [(PWR_PD_STAT_ON, 0xFFFFFF), (PWR_PD_CTRL_ON, 0xFEFFFF)] b1).setFx 9 { FlowX.zero with resident := true, dirty := true }, 16, [],
      by decide +kernel⟩,
   ⟨up [(PWR_PD_STAT_ON, 0xFFFFFF), (PWR_PD_CTRL_ON, 0xFEFFFF), (PWR_CNT_GATE_ERR_COUNT, 0xFFFFFFFE)] b1, 16, 103, 3, by decide +kernel⟩,
   ⟨b1, 16, by decide +kernel⟩,
   ⟨up [(PWR_MODE_CUR, 3)] b1, 23, [], by decide +kernel⟩,
   ⟨up [(PWR_WAKE_PIN_EN, 1), (PWR_MODE_CUR, 3)] b1, by decide +kernel⟩,
   ⟨let s := up [(PWR_WAKE_PIN_EN, 1), (PWR_MODE_CUR, 4)] b1; { s with pwr := { Pwr.zero with trans := some 2 } }, by decide +kernel⟩,
   ⟨up [(PWR_WAKE_PIN_EN, 1), (PWR_MODE_CUR, 4), (PWR_PD_STAT_ON, 0xC00003), (PWR_PD_CTRL_ON, 0xC60003), (DRM_CH_CFG_EN 23, 1), (DRM_CH_STAT_STATE 23, 7)] b1,
      23, by decide +kernel⟩,
   ⟨let s := up [(PWR_WAKE_PIN_EN, 1), (PWR_MODE_CUR, 2)] b1; { s with pwr := { Pwr.zero with trans := some 4 } }, by decide +kernel⟩,
   ⟨up [(PWR_WAKE_PIN_EN, 1), (PWR_MODE_CUR, 4), (CLK_FAIL_LO_FAILED, 1)] b1, by decide +kernel⟩,
   ⟨let s := up [(DRM_CH_CFG_EN 23, 1), (DRM_CH_STAT_STATE 23, 3)] b1; { s with pwr := { Pwr.zero with trans := some 3, wake := true } }, 3,
      by decide +kernel⟩,
   ⟨{ b1 with pwr := { Pwr.zero with trans := some 4, wake := true } }, by decide +kernel⟩,
   ⟨let s := up [(PWR_MODE_CUR, 4), (PWR_PD_STAT_ON, 0xC00003), (DRM_CH_CFG_EN 23, 1), (DRM_CH_STAT_STATE 23, 7)] b1; { s with pwr := { Pwr.zero with trans := some 2 } },
      4, by decide +kernel⟩,
   ⟨b1, by decide +kernel⟩,
   ⟨let s := up [(PWR_AVS_STAT_BUSY, 1)] b1; { s with pwr := { Pwr.zero with avs := 750 } }, by decide +kernel⟩,
   ⟨let s := up [(PWR_AVS_STAT_BUSY, 1)] b1; { s with pwr := { Pwr.zero with avs := 750, tries := 2 } }, by decide +kernel⟩,
   ⟨let s := up [(PWR_AVS_STAT_BUSY, 1)] b1; { s with pwr := { Pwr.zero with avs := 750, tries := 3 } }, by decide +kernel⟩,
   ⟨b1, false, by decide +kernel⟩⟩

theorem wit_ThermalControl :
    (∃ (s : State) (ts : List Int) (ms : List Nat) (xs : List (Nat × Nat × Nat)),
      (s.failedMon 0 = true ∨ s.fld CFG_BOOT_STAT_STEP < 2 ∨ (0 < s.thm.raw ∧ s.raw + 1 - s.thm.raw < 2 * msU))) ∧
    (∃ (s : State) (ts : List Int) (ms : List Nat) (xs : List (Nat × Nat × Nat)), s.failedMon 0 = false ∧ 2 ≤ s.fld CFG_BOOT_STAT_STEP ∧
      s.fld CFG_BOOT_STAT_STEP < 8 ∧ (s.thm.raw = 0 ∨ s.raw + 1 - s.thm.raw ≥ 2 * msU)) ∧
    (∃ (s : State) (ts : List Int) (ms : List Nat) (xs : List (Nat × Nat × Nat)), s.failedMon 0 = false ∧ s.fld CFG_BOOT_STAT_STEP = 8 ∧
      (s.thm.raw = 0 ∨ s.raw + 1 - s.thm.raw ≥ 2 * msU)) ∧
    (∃ (s : State) (ts : List Int) (ms : List Nat) (xs : List (Nat × Nat × Nat)), s.failedMon 0 = false ∧ 8 < s.fld CFG_BOOT_STAT_STEP ∧
      (s.thm.raw = 0 ∨ s.raw + 1 - s.thm.raw ≥ 2 * msU)) ∧
    (∃ (s : State) (i : Fin 64), s.broken i = true) ∧
    (∃ (s : State) (i : Fin 64), s.broken i = false) ∧
    (∃ (s : State) (p : Port) (i : Fin 64) (v : W32), Taken s p (THM_SENS i) v ∧ fieldGet v 17 1 = 1 ∧ s.broken i = true) ∧
    (∃ (s : State) (p : Port) (i : Fin 64) (v : W32), Taken s p (THM_SENS i) v ∧ (fieldGet v 17 1 = 0 ∨ s.broken i = false)) :=
  ⟨⟨{ at' 1001 b1 with thm := { Thm.zero with raw := 1 } }, [], [], [], by decide +kernel⟩,
   ⟨{ at' 2001 (up [(CFG_BOOT_STAT_STEP, 7)] b1) with thm := { Thm.zero with raw := us 1 + 1 } }, [320, -8] ++ List.replicate 62 100, [], [],
      by decide +kernel⟩,
   ⟨{ at' 2001 (up [(CFG_BOOT_STAT_STEP, 8)] b1) with thm := { Thm.zero with raw := us 1 + 1 } }, [320, -8] ++ List.replicate 62 100, [], [],
      by decide +kernel⟩,
   ⟨{ at' 2001 b1 with thm := { Thm.zero with raw := us 1 + 1 } }, [320, -8] ++ List.replicate 62 100, [70000, 800], [], by decide +kernel⟩,
   ⟨up [(THM_SENS_BROKEN 63, 1)] b1, 63, by decide +kernel⟩,
   ⟨twin 1 id (up zmax b1), 63, by decide +kernel⟩,
   ⟨{ up [(THM_SENS_BROKEN 63, 1)] b1 with thm := { Thm.zero with ok := [(63, 2)] } }, .hcp, 63, 0x20000, by unfold Taken; decide +kernel,
      by decide +kernel, by decide +kernel⟩,
   ⟨b1, .hcp, 63, 0x20000, by unfold Taken; decide +kernel, by decide +kernel⟩⟩

theorem wit_ResetsAndStartUp :
    (∃ (s : State), (¬(s.boot.porHeld = true ∧ s.boot.cold = true)) ∧ twf regReset s.regs = true) ∧
    (∃ (s : State), s.boot.porHeld = true ∧ s.boot.cold = true) ∧
    (∃ (s : State) (p : Port), Taken s p CFG_CTRL (s.ctrlWord p 8) ∧ twf regReset s.regs = true) ∧
    (∃ (s : State), s.boot.porHeld = true ∧ s.safe.brownout = false) ∧
    (∃ (s : State) (r : Bool), (r = false ∨ s.boot.porHeld = false ∨ s.safe.brownout = true)) ∧
    (∃ (s : State) (bad : Bool), s.fld CFG_BOOT_STAT_STEP = 2) ∧
    (∃ (s : State) (bad : Bool), s.fld CFG_BOOT_STAT_STEP ≠ 2) ∧
    (∃ (s : State) (a : Option Img) (b : Option Img) (k : Nat) (i : Img), s.fld CFG_BOOT_STAT_STEP = 3 ∧ s.boot.held = false ∧ FirstImage a b k i ∧
      i.verdict = 0) ∧
    (∃ (s : State) (a : Option Img) (b : Option Img) (k : Nat) (i : Img) (j : Img), s.fld CFG_BOOT_STAT_STEP = 3 ∧ s.boot.held = false ∧
      FirstImage a b k i ∧ i.verdict ≠ 0 ∧ (if k = 0 then b else a) = some j ∧ j.header = true ∧ j.verdict = 0) ∧
    (∃ (s : State) (a : Option Img) (b : Option Img) (k : Nat) (i : Img) (j : Img), s.fld CFG_BOOT_STAT_STEP = 3 ∧ s.boot.held = false ∧
      FirstImage a b k i ∧ i.verdict ≠ 0 ∧ (if k = 0 then b else a) = some j ∧ j.header = true ∧ j.verdict ≠ 0) ∧
    (∃ (s : State) (a : Option Img) (b : Option Img) (k : Nat) (i : Img), s.fld CFG_BOOT_STAT_STEP = 3 ∧ s.boot.held = false ∧ FirstImage a b k i ∧
      i.verdict ≠ 0 ∧ (∀ j, (if k = 0 then b else a) = some j → j.header = false)) ∧
    (∃ (s : State) (a : Option Img) (b : Option Img), s.fld CFG_BOOT_STAT_STEP = 3 ∧ s.boot.held = false ∧ (∀ j, a = some j → j.header = false) ∧
      (∀ j, b = some j → j.header = false)) ∧
    (∃ (s : State) (a : Option Img) (b : Option Img), (s.fld CFG_BOOT_STAT_STEP ≠ 3 ∨ s.boot.held = true)) ∧
    (∃ (s : State) (n : Nat) (l : List MemOwner) (o : Option Nat), s.tst.boot = true) ∧
    (∃ (s : State) (n : Nat) (a : Nat) (l : List MemOwner), s.tst.boot = true ∧ a < 2 ^ 32) ∧
    (∃ (s : State) (n : Nat) (l : List MemOwner), s.tst.boot = true ∧ s.fld CFG_BOOT_STAT_STEP = 4) ∧
    (∃ (s : State) (n : Nat) (l : List MemOwner) (o : Option Nat), s.tst.boot = false) :=
  ⟨⟨at' 7 (up [(SYS_STAT_TEST_EN, 1), (ENC_TUN_STAT_FENCED 3, 1), (TST_BIST_CNT_REPAIR_VALUE, 5)] b1), by decide +kernel⟩,
   ⟨State.reset, by decide +kernel⟩,
   ⟨at' 7 (up [(SYS_STAT_TEST_EN, 1), (ENC_TUN_STAT_FENCED 3, 1), (DEC_CORE_STAT_FENCED 23, 1)] b1), .hcp, by unfold Taken; decide +kernel,
      by decide +kernel⟩,
   ⟨State.reset, by decide +kernel⟩,
   ⟨b1, true, by decide +kernel⟩,
   ⟨let s := up [(CFG_BOOT_STAT_STEP, 2)] b1; { s with cask := { s.cask with boot := 2^32 - 1, epoch := 9, gyle := 2^33 + 1, gyleSeen := 2 ^ 40 } },
      false, by decide +kernel⟩,
   ⟨b1, false, by decide +kernel⟩,
   ⟨up [(CFG_BOOT_STAT_STEP, 3)] b1, some (img 6 true), some (img 7 true), 1, img 7 true, by decide +kernel, by decide +kernel,
      by unfold FirstImage; decide +kernel,
      by unfold Img.verdict; generalize Config.keyHashBlank = k; generalize Config.sigRequired = r; revert k r; decide +kernel⟩,
   ⟨up [(CFG_BOOT_STAT_STEP, 3)] b1, some (img 6 true), some (img 7 false), 1, img 7 false, img 6 true, by decide +kernel, by decide +kernel,
      by unfold FirstImage; decide +kernel,
      by unfold Img.verdict; generalize Config.keyHashBlank = k; generalize Config.sigRequired = r; revert k r; decide +kernel, by decide +kernel,
      by decide +kernel, by unfold Img.verdict; generalize Config.keyHashBlank = k; generalize Config.sigRequired = r; revert k r; decide +kernel⟩,
   ⟨up [(CFG_BOOT_STAT_STEP, 3)] b1, some (img 7 false), some (img 6 false), 0, img 7 false, img 6 false, by decide +kernel, by decide +kernel,
      by unfold FirstImage; decide +kernel,
      by unfold Img.verdict; generalize Config.keyHashBlank = k; generalize Config.sigRequired = r; revert k r; decide +kernel, by decide +kernel,
      by decide +kernel, by unfold Img.verdict; generalize Config.keyHashBlank = k; generalize Config.sigRequired = r; revert k r; decide +kernel⟩,
   ⟨up [(CFG_BOOT_STAT_STEP, 3)] b1, some (img 7 false), none, 0, img 7 false, by decide +kernel, by decide +kernel,
      by unfold FirstImage; decide +kernel,
      by unfold Img.verdict; generalize Config.keyHashBlank = k; generalize Config.sigRequired = r; revert k r; decide +kernel, (by intro j h; cases h)⟩,
   ⟨up [(CFG_BOOT_STAT_STEP, 3)] b1, none, none, by decide +kernel, by decide +kernel, (by intro j h; cases h), (by intro j h; cases h)⟩,
   ⟨b1, none, none, by decide +kernel⟩,
   ⟨{ b1 with tst := { Tst.zero with boot := true } }, 3, [.tun 39], some 5, by decide +kernel⟩,
   ⟨let s := up [(CFG_BOOT_STAT_STEP, 4)] b1; { s with tst := { Tst.zero with boot := true } }, 3, 0x12345678, [], by decide +kernel⟩,
   ⟨let s := up [(CFG_BOOT_STAT_STEP, 4), (DRM_CH_CFG_EN 23, 1)] b1; { s with tst := { Tst.zero with boot := true } }, 3, [], by decide +kernel⟩,
   ⟨b1, 0, [], none, by decide +kernel⟩⟩

theorem wit_StagingAndTheCheck :
    (∃ (s : State) (p : Port) (a : Nat) (v : W32) (r : RegRow), regRow a = some r ∧ r.stMask ≠ 0 ∧ Taken s p a v) ∧
    (∃ (s : State) (p : Port) (a : Nat) (v : W32) (r : RegRow), regRow a = some r ∧ r.stMask ≠ 0 ∧ a < 0x400000 ∧ a % 4 = 0 ∧
      s.writeLevel p a v r ≤ s.level p ∧ s.windowBusy a = false ∧ s.safe.mode = false ∧ s.stage.owner ≠ 0 ∧ s.stage.owner ≠ p.owner) ∧
    (∃ (s : State) (p : Port) (a : Nat) (v : W32) (r : RegRow), regRow a = some r ∧ r.stMask ≠ 0 ∧ s.writeStatus p a v ≠ 0) ∧
    (∃ (s : State) (p : Port) (a : Nat) (v : W32), (∀ r, regRow a = some r → r.stMask = 0)) ∧
    (∃ (s : State) (p : Port), Taken s p CFG_CTRL (s.ctrlWord p 1) ∧ s.stage.checking = false) ∧
    (∃ (s : State) (p : Port), Taken s p CFG_CTRL (s.ctrlWord p 1) ∧ s.stage.checking = true) ∧
    (∃ (s : State) (p : Port), s.writeStatus p CFG_CTRL (s.ctrlWord p 1) ≠ 0) ∧
    (∃ (s : State), s.stage.checking = false) ∧
    (∃ (s : State), s.stage.checking = true ∧ s.stage.invalid = true) ∧
    (∃ (s : State), s.stage.checking = true ∧ s.stage.invalid = false ∧ s.gravity = none) ∧
    (∃ (s : State) (rule : Nat) (w : Nat), s.stage.checking = true ∧ s.stage.invalid = false ∧ s.gravity = some (rule, w) ∧ w < 2 ^ 32) ∧
    (∃ (s : State), s.stage.checking = true ∧ s.fld CFG_BOOT_STAT_STEP = 10 ∧ (∀ c, c ∈ s.drChans → s.fld (DRM_CH_STAT_STATE c) ≠ 6)) ∧
    (∃ (s : State) (p : Port), Taken s p CFG_CTRL (s.ctrlWord p 2) ∧ (s.stage.owner = 0 ∨ s.stage.owner = p.owner ∨ 4 ≤ s.level p)) ∧
    (∃ (s : State) (p : Port), s.writeStatus p CFG_CTRL (s.ctrlWord p 2) = 0 ∧ s.stage.owner ≠ 0 ∧ s.stage.owner ≠ p.owner ∧ s.level p < 4) ∧
    (∃ (s : State) (p : Port), s.writeStatus p CFG_CTRL (s.ctrlWord p 2) ≠ 0) :=
  ⟨⟨bank (fun x => { x with checking := true }) (ups [(CFG_STAGE_STAT_CHECKED, 1), (CFG_STAGE_STAT_WRITES, 65535)] b1), .hcp, ENC_CH_CTRL 15, 0xFFFFFFFF,
      ((regRow (ENC_CH_CTRL 15)).getD ⟨0,[],0,[]⟩), by decide +kernel, by decide +kernel, by unfold Taken; decide +kernel⟩,
   ⟨bank (fun x => { x with owner := 2 }) b1, .hcp, ENC_CH_CTRL 15, 0xFFFFFFFF, ((regRow (ENC_CH_CTRL 15)).getD ⟨0,[],0,[]⟩), by decide +kernel⟩,
   ⟨bank (fun x => { x with owner := 2 }) b1, .hcp, ENC_CH_CTRL 15, 0xFFFFFFFF, ((regRow (ENC_CH_CTRL 15)).getD ⟨0,[],0,[]⟩), by decide +kernel⟩,
   ⟨b1, .hcp, 3, 0, (by intro r h; rw [show regRow 3 = none by decide +kernel] at h; cases h)⟩,
   ⟨bank id b1, .hcp, by unfold Taken; decide +kernel, by decide +kernel⟩,
   ⟨bank (fun x => { x with checking := true }) b1, .hcp, by unfold Taken; decide +kernel, by decide +kernel⟩,
   ⟨b1, .media, by decide +kernel⟩,
   ⟨bank id b1, by decide +kernel⟩,
   ⟨bank (fun x => { x with checking := true, invalid := true }) b1, by decide +kernel⟩,
   ⟨bankChk, by decide +kernel, by decide +kernel, bankChk_gravity⟩,
   ⟨bank (fun x => { x with checking := true, writes := [(RDN_CFG2, 0)] }) b1,
      ((bank (fun x => { x with checking := true, writes := [(RDN_CFG2, 0)] }) b1).gravity.getD (0, 0)).1,
      ((bank (fun x => { x with checking := true, writes := [(RDN_CFG2, 0)] }) b1).gravity.getD (0, 0)).2, by decide +kernel⟩,
   ⟨bank (fun x => { x with checking := true, invalid := true, writes := [(3, 0)] }) (up [(CFG_BOOT_STAT_STEP, 10)] b1), by decide +kernel⟩,
   ⟨bank (fun x => { x with checking := true, owner := 2, writes := [(RDN_CFG2, 0)] }) (ups [(CFG_STAGE_STAT_CHECKED, 1), (CFG_STAGE_STAT_WRITES, 65535)] b1),
      .hcp, by unfold Taken; decide +kernel, by decide +kernel⟩,
   ⟨bank (fun x => { x with owner := 1, writes := [(RDN_CFG2, 0)] }) b1, .mgmt, by decide +kernel⟩,
   ⟨b1, .media, by decide +kernel⟩⟩

theorem wit_Pitches :
    (∃ (s : State) (p : Port) (v : W32), Taken s p CFG_PITCH v ∧ fieldGet v 0 1 = 0) ∧
    (∃ (s : State) (p : Port) (v : W32) (e : Nat), Taken s p CFG_PITCH v ∧ fieldGet v 0 1 = 1 ∧
      ((e = 1 ∧ s.stage.owner ≠ 0 ∧ s.stage.owner ≠ p.owner) ∨ ((s.stage.owner = 0 ∨ s.stage.owner = p.owner) ∧ ((e = 2 ∧ s.bit CFG_STAGE_STAT_CHECKED = false) ∨ (s.bit CFG_STAGE_STAT_CHECKED = true ∧ ((e = 3 ∧ 8 ≤ s.stage.pitches.length) ∨ (s.stage.pitches.length < 8 ∧ ((e = 4 ∧ fieldGet v 1 2 = 1 ∧ s.bit (ENC_CH_CTRL_EN (fieldGet v 4 4)) = false) ∨ (e = 5 ∧ fieldGet v 1 2 = 3))))))))) ∧
    (∃ (s : State) (p : Port) (v : W32), s.writeStatus p CFG_PITCH v ≠ 0) ∧
    (∃ (s : State) (p : Port) (v : W32) (want : Int), Taken s p CFG_PITCH v ∧ fieldGet v 0 1 = 1 ∧ (s.stage.owner = 0 ∨ s.stage.owner = p.owner) ∧
      s.bit CFG_STAGE_STAT_CHECKED = true ∧ s.stage.pitches.length < 8 ∧ fieldGet v 1 2 < 3 ∧
      (fieldGet v 1 2 = 1 → s.bit (ENC_CH_CTRL_EN (fieldGet v 4 4)) = true) ∧
      want = (if fieldGet v 1 2 = 1 then s.slotTime (fieldGet v 4 4) (s.slotAfter (fieldGet v 4 4) s.now) / (65536 : Int) else if fieldGet v 1 2 = 2 then toSigned 64 (s.pairVal CFG_PITCH_TIME_S_LO CFG_PITCH_TIME_S_HI) * 1000000000 + ((s.fld ⟨CFG_PITCH_TIME_NS, 0, 30⟩ : Nat) : Int) else s.nowNs)) ∧
    (∃ (s : State), (∀ q, q ∈ s.stage.pitches → q.checked = true)) ∧
    (∃ (s : State) (q : Pitch), s.stage.pitches.find? (fun x => !x.checked) = some q ∧ s.nowNs < q.instant) ∧
    (∃ (s : State) (q : Pitch) (l : List Pitch), s.stage.pitches = q :: l ∧ q.checked = false ∧ LaterPitches q l ∧ q.instant ≤ s.nowNs ∧
      (s.placementOk q = false ∨ (q.group = true ∧ s.bit YZ_COORD1_VALID = false))) ∧
    (∃ (s : State) (q : Pitch) (x : Pitch) (l : List Pitch), s.stage.pitches = x :: q :: l ∧ x.checked = true ∧ x.waiting ≠ [] ∧ x.seq ≠ q.seq ∧
      q.checked = false ∧ LaterPitches q l ∧ q.instant ≤ s.nowNs ∧ (s.placementOk q = false ∨ (q.group = true ∧ s.bit YZ_COORD1_VALID = false))) ∧
    (∃ (s : State) (q : Pitch) (l : List Pitch), s.stage.pitches = q :: l ∧ q.checked = false ∧ q.refused = false ∧ LaterPitches q l ∧
      (q.group = false ∨ s.bit YZ_COORD1_VALID = true) ∧ q.instant ≤ s.nowNs ∧ s.placementOk q = true ∧
      (∀ e, e ∈ q.writes → e.1 / 0x10000 = 3 ∨ e.1 / 0x10000 = 13) ∧ (q.writes.map (fun e => e.1)).Nodup ∧ q.records = [] ∧ q.skip = []) ∧
    (∃ (s : State) (q : Pitch) (l : List Pitch) (k : Nat), s.stage.pitches = q :: l ∧ q.checked = false ∧ q.refused = false ∧ LaterPitches q l ∧
      (q.group = false ∨ s.bit YZ_COORD1_VALID = true) ∧ q.instant ≤ s.nowNs ∧ s.placementOk q = true ∧ q.writes ≠ [] ∧
      (∀ e, e ∈ q.writes → partOf e.1 = k) ∧ (17 ≤ k ∧ k < 22) ∧ q.records = [] ∧ q.skip = []) ∧
    (∃ (s : State) (k : Fin 76) (g : Bool), (∀ q, q ∈ s.stage.pitches → q.checked = true → k.val ∉ q.waiting)) ∧
    (∃ (s : State) (k : Fin 76) (g : Bool) (x : Pitch) (q : Pitch) (l : List Pitch), s.stage.pitches = x :: q :: l ∧ k.val ∉ x.waiting ∧ x.skip ≠ [] ∧
      x.seq ≠ q.seq ∧ q.checked = true ∧ k.val ∈ q.waiting) ∧
    (∃ (s : State) (k : Fin 76) (g : Bool) (q : Pitch) (l : List Pitch), (17 ≤ k.val ∧ k.val ≠ 21 ∧ k.val < 40) ∧ s.stage.pitches = q :: l ∧
      LaterPitches q l ∧ q.checked = true ∧ q.waiting = [k.val] ∧ q.records = []) ∧
    (∃ (s : State) (k : Fin 76) (g : Bool) (q : Pitch) (l : List Pitch), (k.val = 21 ∨ 40 ≤ k.val) ∧ (64 ≤ k.val → s.ketBusy (k - 64) = false) ∧
      s.stage.pitches = q :: l ∧ LaterPitches q l ∧ q.checked = true ∧ q.waiting = [k.val] ∧ q.records = []) ∧
    (∃ (s : State) (k : Fin 76) (g : Bool) (q : Pitch) (l : List Pitch), 64 ≤ k.val ∧ s.ketBusy (k - 64) = true ∧ s.stage.pitches = q :: l ∧
      q.checked = true ∧ q.waiting = [k.val]) ∧
    (∃ (s : State) (n : Fin 16) (k : Fin 76) (g : Bool) (q : Pitch) (l : List Pitch), k.val = n.val + 1 ∧ s.stage.pitches = q :: l ∧ q.checked = true ∧
      q.waiting = [k.val] ∧ s.bit (ENC_CH_CTRL_EN n) = true ∧ s.now < s.slotTime n ((tfind q.skip k).getD (s.slotAfter n (q.instant * 65536)))) ∧
    (∃ (s : State) (n : Fin 16) (k : Fin 76) (g : Bool) (q : Pitch) (l : List Pitch) (u : State), k.val = n.val + 1 ∧ s.stage.pitches = q :: l ∧
      LaterPitches q l ∧ q.checked = true ∧ q.waiting = [k.val] ∧ q.records = [] ∧ s.landChan n q g = some (u, none)) ∧
    (∃ (s : State) (n : Fin 16) (k : Fin 76) (g : Bool) (q : Pitch) (l : List Pitch) (j : Nat), k.val = n.val + 1 ∧ s.stage.pitches = q :: l ∧
      LaterPitches q l ∧ q.checked = true ∧ q.waiting = [k.val] ∧ s.bit (ENC_CH_CTRL_EN n) = true ∧
      (s.landWrites (q.part k)).bit (ENC_CH_CTRL_EN n) = true ∧ j = (tfind q.skip k).getD (s.slotAfter n (q.instant * 65536)) ∧ s.slotTime n j ≤ s.now ∧
      (∃ r, r < 12 ∧ (s.rendRestarts (s.landWrites (q.part k)) n r = true ∨ s.rcForces (s.landWrites (q.part k)) n r = true)) ∧
      (((s.chan n).slot j).missing = true ∨ (g = true ∧ nbit ((s.chan n).slot j).decided 0 = false))) :=
  ⟨⟨bank id b1, .hcp, 2, by unfold Taken; decide +kernel, by decide +kernel⟩,
   ⟨bank (fun x => { x with owner := 2 }) b1, .hcp, 1, 1, by unfold Taken; decide +kernel, by decide +kernel, by decide +kernel⟩,
   ⟨b1, .media, 1, by decide +kernel⟩,
   ⟨bank (fun x => { x with owner := 1, checking := true, writes := [(RDN_CFG2, 0)], pitchSeq := 6 }) (ups [(CFG_STAGE_STAT_CHECKED, 1), (CFG_STAGE_STAT_WRITES, 4), (CFG_PITCH_ID_ID, 77)] b1),
      .hcp, 1, 1000000000, by unfold Taken; decide +kernel, by decide +kernel, by decide +kernel, by decide +kernel, by decide +kernel, by decide +kernel,
      by decide +kernel, by decide +kernel⟩,
   ⟨bank (fun x => { x with pitches := [pit 1 2 (fun p => { p with checked := true, waiting := [3] })] }) b1, by decide +kernel⟩,
   ⟨at' 999 (bank (fun x => { x with pitches := [pit 1 2 id] }) b1), pit 1 2 id, by decide +kernel⟩,
   ⟨bankBad, pitBad, [], by decide +kernel, by decide +kernel, (by intro x h; cases h), by decide +kernel, Or.inl bankBad_placement⟩,
   ⟨bankTwo, pitBad, pitWait, [], by decide +kernel, by decide +kernel, by decide +kernel, by decide +kernel, by decide +kernel, (by intro x h; cases h),
      by decide +kernel, Or.inl bankTwo_placement⟩,
   ⟨bankGood, pitGood, [], by decide +kernel, by decide +kernel, by decide +kernel, (by intro x h; cases h), by decide +kernel, by decide +kernel,
      bankGood_placement, by decide +kernel, by decide +kernel, by decide +kernel, by decide +kernel⟩,
   ⟨bankPart, pitPart, [], 18, by decide +kernel, by decide +kernel, by decide +kernel, (by intro x h; cases h), by decide +kernel, by decide +kernel,
      bankPart_placement, by decide +kernel, by decide +kernel, by decide +kernel, by decide +kernel, by decide +kernel⟩,
   ⟨bank (fun x => { x with pitches := [pit 1 2 (fun p => { p with checked := true, waiting := [3] })] }) b1, 4, false, by decide +kernel⟩,
   ⟨bank (fun x => { x with pitches := [pit 1 2 (fun p => { p with checked := true, waiting := [3], skip := [(3, 7)] }), pit 1 3 (fun p => { p with checked := true, waiting := [4] })] }) b1,
      4, false, pit 1 2 (fun p => { p with checked := true, waiting := [3], skip := [(3, 7)] }),
      pit 1 3 (fun p => { p with checked := true, waiting := [4] }), [], by decide +kernel⟩,
   ⟨bank (fun x => { x with pitches := [pit 1 2 (fun p => { p with checked := true, waiting := [18], writes := [(DEC_POOL_CFG, 1)] })] }) (b1), 18,
      false, pit 1 2 (fun p => { p with checked := true, waiting := [18], writes := [(DEC_POOL_CFG, 1)] }), [], by decide +kernel, by decide +kernel,
      (by intro x h; cases h), by decide +kernel, by decide +kernel, by decide +kernel⟩,
   ⟨bank (fun x => { x with pitches := [pit 1 2 (fun p => { p with checked := true, waiting := [55], writes := [(CMP_PIPE_CFG 15, 3)] })] }) (b1), 55,
      false, pit 1 2 (fun p => { p with checked := true, waiting := [55], writes := [(CMP_PIPE_CFG 15, 3)] }), [], by decide +kernel, by decide +kernel,
      by decide +kernel, (by intro x h; cases h), by decide +kernel, by decide +kernel, by decide +kernel⟩,
   ⟨let s := bank (fun x => { x with pitches := [pit 1 2 (fun p => { p with checked := true, waiting := [75], writes := [] })] }) b1; up [(DSP_CORE_STAT_STATE 95, 3)] s,
      75, false, pit 1 2 (fun p => { p with checked := true, waiting := [75], writes := [] }), [], by decide +kernel⟩,
   ⟨bank (fun x => { x with pitches := [pit 1 2 (fun p => { p with checked := true, waiting := [16], writes := [], skip := [(16, 600)] })] }) (vid 15 id b1),
      15, 16, false, pit 1 2 (fun p => { p with checked := true, waiting := [16], writes := [], skip := [(16, 600)] }), [], by decide +kernel⟩,
   ⟨bank (fun x => { x with pitches := [pit 1 2 (fun p => { p with checked := true, waiting := [16], writes := [(ENC_CH_CTRL 15, 0)] })] }) (b1), 15, 16,
      false, pit 1 2 (fun p => { p with checked := true, waiting := [16], writes := [(ENC_CH_CTRL 15, 0)] }), [],
      (((bank (fun x => { x with pitches := [pit 1 2 (fun p => { p with checked := true, waiting := [16], writes := [(ENC_CH_CTRL 15, 0)] })] }) (b1)).landChan 15 (pit 1 2 (fun p => { p with checked := true, waiting := [16], writes := [(ENC_CH_CTRL 15, 0)] })) false).getD ((bank (fun x => { x with pitches := [pit 1 2 (fun p => { p with checked := true, waiting := [16], writes := [(ENC_CH_CTRL 15, 0)] })] }) (b1)), none)).1,
      by decide +kernel, by decide +kernel, (by intro x h; cases h), by decide +kernel, by decide +kernel, by decide +kernel, by decide +kernel⟩,
   ⟨at' 2000000 (bank (fun x => { x with pitches := [pit 1 2 (fun p => { p with checked := true, waiting := [16], writes := [(ENC_CH_CTRL 15, 1), (ENC_CH_REND_CODEC 15 0, 2)], skip := [(16, 5)], instant := 0 })] }) (vid 15 (fun c => sl 5 { SlotRec.zero with isCls := true, cls := 2 } c) b1)),
      15, 16, false,
      pit 1 2 (fun p => { p with checked := true, waiting := [16], writes := [(ENC_CH_CTRL 15, 1), (ENC_CH_REND_CODEC 15 0, 2)], skip := [(16, 5)], instant := 0 }),
      [], 5, by decide +kernel, by decide +kernel, (by intro x h; cases h), by decide +kernel, by decide +kernel, by decide +kernel, by decide +kernel,
      by decide +kernel, by decide +kernel, by decide +kernel, by decide +kernel⟩⟩

theorem wit_RegisterAccess :
    (∃ (s : State) (p : Port) (a : Nat) (v : W32) (r : RegRow), regRow a = some r ∧ r.fields = [⟨0, 32, .rw⟩] ∧ a ≠ EVQ_RD ∧ a ≠ DRM_XLATE_HI ∧
      a / 0x10000 ≠ 7 ∧ Taken s p a v ∧ s.boot.held = false) ∧
    (∃ (s : State) (p : Port) (v : W32), Taken s p TST_JTAG_STAT v ∧ s.boot.held = false) ∧
    (∃ (s : State) (p : Port) (a : Nat) (v : W32) (r : RegRow), regRow a = some r ∧ Taken s p a v ∧ ownWrite a = false ∧
      (∀ t, State.regEffect s t p a v = t)) ∧
    (∃ (s : State) (p : Port) (a : Nat) (v : W32), a < 0x400000 ∧ a % 4 = 0 ∧ regRow a = none ∧ inFirmwareArea a = true ∧ ownWrite a = false ∧
      (∀ t, State.regEffect s t p a v = t) ∧ ignoredWrite a = false) ∧
    (∃ (s : State) (p : Port) (a : Nat) (v : W32), s.writeStatus p a v ≠ 0) ∧
    (∃ (s : State) (p : Port) (a : Nat) (v : W32), (0x400000 ≤ a ∨ a % 4 ≠ 0 ∨ (regRow a = none ∧ inFirmwareArea a = false))) ∧
    (∃ (s : State) (p : Port) (a : Nat) (r : RegRow), s.readStatus p a = 0 ∧ regRow a = some r ∧ (∀ f, f ∈ r.fields → f.acc ≠ .rc) ∧ a ≠ TB_TIME_S_LO ∧
      (¬(0x63000 ≤ a ∧ a < 0x63800))) ∧
    (∃ (s : State) (p : Port) (a : Nat) (r : RegRow) (f : FieldRow), s.readStatus p a = 0 ∧ regRow a = some r ∧ f ∈ r.fields ∧ f.acc = .rc ∧
      (¬(0x80000 ≤ a ∧ a < 0xC0000 ∧ a % 0x1000 = 4)) ∧ s.ctl.frozen = none ∧ s.view a = s.rd a ∧ a ≠ TB_TIME_S_LO ∧ (¬(0x63000 ≤ a ∧ a < 0x63800))) ∧
    (∃ (s : State) (p : Port) (a : Nat) (r : RegRow), s.readStatus p a = 0 ∧ regRow a = some r ∧ (¬(0x80000 ≤ a ∧ a < 0xC0000 ∧ a % 0x1000 = 4))) ∧
    (∃ (s : State) (p : Port) (l : Fin 64) (r : RegRow) (f : FieldRow), s.readStatus p (0x80004 + 0x1000 * l) = 0 ∧
      regRow (0x80004 + 0x1000 * l) = some r ∧ f ∈ r.fields ∧ f.acc = .rc) ∧
    (∃ (s : State) (p : Port), s.readStatus p TB_TIME_S_LO = 0) ∧
    (∃ (s : State) (p : Port) (a : Nat), s.readStatus p a = 0 ∧ regRow a = none) ∧
    (∃ (s : State) (p : Port) (a : Nat) (st : Nat), s.readStatus p a = st ∧ st ≠ 0) ∧
    (∃ (s : State) (p : Port) (a : Nat) (r : RegRow) (f : Snap), s.readStatus p a = 0 ∧ regRow a = some r ∧ (∀ x, x ∈ r.fields → x.acc = .ro) ∧
      s.ctl.frozen = some f ∧ (¬(0x60010 ≤ a ∧ a ≤ 0x6001C)) ∧ (¬(0x63000 ≤ a ∧ a < 0x63800)) ∧ a ≠ SYS_SNAP) ∧
    (∃ (s : State) (p : Port), Taken s p SYS_SNAP 1 ∧ s.ctl.frozen = none) ∧
    (∃ (s : State) (p : Port) (f : Snap), Taken s p SYS_SNAP 1 ∧ s.ctl.frozen = some f) ∧
    (∃ (s : State) (p : Port), Taken s p SYS_SNAP 0) ∧
    (∃ (s : State), s.ctl.frozen ≠ none ∧ s.raw - s.ctl.frozenRaw ≥ 10 * usU) ∧
    (∃ (s : State), (s.ctl.frozen = none ∨ s.raw - s.ctl.frozenRaw < 10 * usU)) ∧
    (∃ (s : State) (p : Port) (v : W32), s.writeStatus p EVQ_RD v = 0 ∧ (v - BitVec.ofNat 32 s.evq.rd).toNat ≤ s.evq.wr - s.evq.rd ∧ s.evq.unrep = 0) ∧
    (∃ (s : State) (p : Port) (v : W32), s.writeStatus p EVQ_RD v = 0 ∧ (v - BitVec.ofNat 32 s.evq.rd).toNat ≤ s.evq.wr - s.evq.rd ∧ 0 < s.evq.unrep ∧
      s.evMasked 0x0501 = true ∧ s.evq.wr - (s.evq.rd + (v - BitVec.ofNat 32 s.evq.rd).toNat) < 1024) ∧
    (∃ (s : State) (p : Port) (v : W32), s.writeStatus p EVQ_RD v = 0 ∧ (v - BitVec.ofNat 32 s.evq.rd).toNat ≤ s.evq.wr - s.evq.rd ∧
      (s.evMasked 0x0501 = false ∨ 1024 ≤ s.evq.wr - (s.evq.rd + (v - BitVec.ofNat 32 s.evq.rd).toNat))) ∧
    (∃ (s : State) (p : Port) (v : W32), s.writeStatus p EVQ_RD v = 0 ∧ s.evq.wr - s.evq.rd < (v - BitVec.ofNat 32 s.evq.rd).toNat) ∧
    (∃ (s : State) (p : Port) (bad : Bool) (off : Nat), Taken s p SYS_CASK_CMD 0x10000000 ∧ s.fld SYS_CASK_ADDR_BYTE = off ∧ off % 256 = 0 ∧
      0x20000 ≤ off ∧ off < 0xA0000) ∧
    (∃ (s : State) (p : Port) (bad : Bool) (off : Nat), Taken s p SYS_CASK_CMD 0x10000000 ∧ s.fld SYS_CASK_ADDR_BYTE = off ∧ off % 256 = 0 ∧
      off < 0x19000) ∧
    (∃ (s : State) (p : Port) (bad : Bool) (off : Nat), Taken s p SYS_CASK_CMD 0x10000000 ∧ s.fld SYS_CASK_ADDR_BYTE = off ∧ off % 256 = 0 ∧
      0xA0000 ≤ off) ∧
    (∃ (s : State) (p : Port) (bad : Bool) (off : Nat), Taken s p SYS_CASK_CMD 0x10000000 ∧ s.fld SYS_CASK_ADDR_BYTE = off ∧
      (off % 256 ≠ 0 ∨ (0x19000 ≤ off ∧ off < 0x20000))) ∧
    (∃ (s : State) (p : Port) (off : Nat), Taken s p SYS_CASK_CMD 0x20000000 ∧ s.fld SYS_CASK_ADDR_BYTE = off ∧ off % 256 = 0 ∧ 0x20000 ≤ off ∧
      off < 0xA0000) ∧
    (∃ (s : State) (p : Port) (off : Nat), Taken s p SYS_CASK_CMD 0x20000000 ∧ s.fld SYS_CASK_ADDR_BYTE = off ∧
      (off % 256 ≠ 0 ∨ (0x19000 ≤ off ∧ off < 0x20000))) ∧
    (∃ (s : State) (p : Port) (off : Nat), Taken s p SYS_CASK_CMD 0x20000000 ∧ s.fld SYS_CASK_ADDR_BYTE = off ∧ off % 256 = 0 ∧ 0xA0000 ≤ off) ∧
    (∃ (s : State) (p : Port) (off : Nat) (b : Nat) (e : Nat) (g : Nat) (h : Nat), Taken s p SYS_CASK_CMD 0x20000000 ∧ s.fld SYS_CASK_ADDR_BYTE = off ∧
      off % 256 = 0 ∧ off < 0x1000 ∧ Config.identityDecode ((List.range 64).map (fun i => s.rd (SYS_CASK_DATA i))) = (b, e, g, h)) ∧
    (∃ (s : State) (p : Port) (off : Nat) (i : Nat) (g : LastGood), Taken s p SYS_CASK_CMD 0x20000000 ∧ s.fld SYS_CASK_ADDR_BYTE = off ∧ off % 256 = 0 ∧
      0x1000 ≤ off ∧ off < 0x19000 ∧ i = (off - 0x1000) / 0x400 ∧ g = tget (fun _ => LastGood.zero) s.cask.lastGood i) :=
  ⟨⟨b1, .hcp, CFG_PITCH_ID, 0xFFFFFFFF, row CFG_PITCH_ID, by decide +kernel, by decide +kernel, by decide +kernel, by decide +kernel, by decide +kernel,
      by unfold Taken; decide +kernel, by decide +kernel⟩,
   ⟨up [(TST_JTAG_STAT_REFUSED, 1)] b1, .hcp, 0x200, by unfold Taken; decide +kernel, by decide +kernel⟩,
   ⟨b1, .hcp, ENC_CH_CTRL 15, 0xFFFFFFFF, row (ENC_CH_CTRL 15), by decide +kernel, by unfold Taken; decide +kernel, by decide +kernel, (fun _ => rfl)⟩,
   ⟨b1, .hcp, 0x4F000, 7, by decide +kernel, by decide +kernel, by decide +kernel, by decide +kernel, by decide +kernel, (fun _ => rfl),
      by decide +kernel⟩,
   ⟨b1, .media, CFG_PITCH_ID, 1, by decide +kernel⟩,
   ⟨b1, .hcp, 0x400000, 0, by decide +kernel⟩,
   ⟨b1, .hcp, CFG_BOOT_STAT, row CFG_BOOT_STAT, by decide +kernel⟩,
   ⟨up [(SYS_MGMT_CNT_REPEAT_COUNT, 0xFFFFFFFF)] b1, .hcp, SYS_MGMT_CNT_REPEAT, row SYS_MGMT_CNT_REPEAT,
      (row SYS_MGMT_CNT_REPEAT).fields.headD ⟨0, 0, .ro⟩, by decide +kernel⟩,
   ⟨up [(SYS_MGMT_CNT_REPEAT_COUNT, 0xFFFFFFFF)] b1, .hcp, SYS_MGMT_CNT_REPEAT, row SYS_MGMT_CNT_REPEAT, by decide +kernel⟩,
   ⟨b1, .hcp, 63, row (0x80004 + 0x1000 * 63), ((row (0x80004 + 0x1000 * 63)).fields.filter (fun x => x.acc == .rc)).headD ⟨0, 0, .ro⟩,
      by decide +kernel⟩,
   ⟨b1, .hcp, by decide +kernel⟩,
   ⟨b1, .hcp, 0x4F000, by decide +kernel⟩,
   ⟨b1, .hcp, 0x400000, 5, by decide +kernel⟩,
   ⟨snp b1, .hcp, CFG_BOOT_STAT, row CFG_BOOT_STAT, ⟨[(CFG_BOOT_STAT, 3)], b1.evq, b1.stage, b1.tb⟩, by decide +kernel⟩,
   ⟨ups [(SYS_SNAP_EXPIRED, 1)] b1, .hcp, by unfold Taken; decide +kernel, by decide +kernel⟩,
   ⟨snp b1, .hcp, ⟨[(CFG_BOOT_STAT, 3)], b1.evq, b1.stage, b1.tb⟩, by unfold Taken; decide +kernel, by decide +kernel⟩,
   ⟨snp b1, .hcp, by unfold Taken; decide +kernel⟩,
   ⟨at' 10 (snp b1), by decide +kernel⟩,
   ⟨at' 9 (snp b1), by decide +kernel⟩,
   ⟨{ b1 with evq := ⟨2 ^ 32 + 3, 2 ^ 32 - 1, [], 0⟩ }, .hcp, 3, by decide +kernel⟩,
   ⟨{ b1 with evq := ⟨1024, 0, [], 3⟩ }, .hcp, 1, by decide +kernel⟩,
   ⟨ups [(EVQ_MASK_LO_BLOCKS, 0)] { b1 with evq := ⟨1024, 0, [], 3⟩ }, .hcp, 1, by decide +kernel⟩,
   ⟨{ b1 with evq := ⟨10, 5, [], 3⟩ }, .hcp, 11, by decide +kernel⟩,
   ⟨{ ups [(SYS_CASK_ADDR_BYTE, 0x9FF00), (SYS_CASK_STAT_READY, 1)] b1 with cask := { Cask.new with log := [(8191, frec 8191)] } }, .hcp, true, 0x9FF00,
      by unfold Taken; decide +kernel, by decide +kernel, by decide +kernel, by decide +kernel, by decide +kernel⟩,
   ⟨ups [(SYS_CASK_ADDR_BYTE, 0x18F00), (SYS_CASK_STAT_READY, 1)] b1, .hcp, false, 0x18F00, by unfold Taken; decide +kernel, by decide +kernel,
      by decide +kernel, by decide +kernel⟩,
   ⟨ups [(SYS_CASK_ADDR_BYTE, 0xA0000), (SYS_CASK_STAT_READY, 1)] b1, .hcp, false, 0xA0000, by unfold Taken; decide +kernel, by decide +kernel,
      by decide +kernel, by decide +kernel⟩,
   ⟨ups [(SYS_CASK_ADDR_BYTE, 0x19000), (SYS_CASK_STAT_READY, 1)] b1, .hcp, false, 0x19000, by unfold Taken; decide +kernel, by decide +kernel,
      by decide +kernel⟩,
   ⟨{ (ups [(SYS_CASK_ADDR_BYTE, 0x9FF00), (SYS_CASK_STAT_READY, 1)] b1).wr (SYS_CASK_DATA 63) 7 with cask := { Cask.new with log := [(8187, frec 8187), (8191, frec 8191)] } },
      .hcp, 0x9FF00, by unfold Taken; decide +kernel, by decide +kernel, by decide +kernel, by decide +kernel, by decide +kernel⟩,
   ⟨ups [(SYS_CASK_ADDR_BYTE, 0x1FF00), (SYS_CASK_STAT_READY, 1)] b1, .hcp, 0x1FF00, by unfold Taken; decide +kernel, by decide +kernel,
      by decide +kernel⟩,
   ⟨ups [(SYS_CASK_ADDR_BYTE, 0xA0000), (SYS_CASK_STAT_READY, 1)] b1, .hcp, 0xA0000, by unfold Taken; decide +kernel, by decide +kernel,
      by decide +kernel, by decide +kernel⟩,
   ⟨{ ups [(SYS_CASK_ADDR_BYTE, 0xF00), (SYS_CASK_STAT_READY, 1)] b1 with cask := { Cask.new with epoch := (Config.identityDecode (List.replicate 64 0)).2.1 + 1 } },
      .hcp, 0xF00, (Config.identityDecode (List.replicate 64 0)).1, (Config.identityDecode (List.replicate 64 0)).2.1,
      (Config.identityDecode (List.replicate 64 0)).2.2.1, (Config.identityDecode (List.replicate 64 0)).2.2.2, by unfold Taken; decide +kernel,
      by decide +kernel, by decide +kernel, by decide +kernel,
      by refine (congrArg Config.identityDecode ?_).trans (?_ : Config.identityDecode (List.replicate 64 0) = _); decide +kernel; rfl⟩,
   ⟨ups [(SYS_CASK_ADDR_BYTE, 0x18F00), (SYS_CASK_STAT_READY, 1)] b1, .hcp, 0x18F00, 95, LastGood.zero, by unfold Taken; decide +kernel,
      by decide +kernel, by decide +kernel, by decide +kernel, by decide +kernel, by decide +kernel, by decide +kernel⟩⟩

theorem wit_ManagementPort :
    (∃ (s : State) (q : Req) (cls : Nat) (words : Nat) (o : Bool), NewRequest s q cls ∧ words ≤ 300) ∧
    (∃ (s : State) (q : Req) (x : Sender) (cls : Nat) (words : Nat) (o : Bool), q.port = .mgmt ∧ s.mgmtPort .mgmt = true ∧ q.item = 0 ∧
      s.senderOf .mgmt q.sender = some x ∧ x.alive ≠ q.alive ∧ x.busy = false ∧ q.version = 1 ∧ q.bytes ≤ 1472 ∧ q.kind = 0 ∧ cls ≤ s.level .mgmt ∧
      (4 ≤ cls ∨ o = true ∨ (s.safe.mode = false ∧ s.fld PWR_MODE_CUR ≠ 1)) ∧ words ≤ 300) ∧
    (∃ (s : State) (q : Req) (x : Sender) (a : Nat) (n : Nat), q.port = .mgmt ∧ s.mgmtPort .mgmt = true ∧ q.item = 0 ∧
      s.senderOf .mgmt q.sender = some x ∧ x.alive = q.alive) ∧
    (∃ (s : State) (q : Req) (x : Sender) (a : Nat) (n : Nat), q.port = .mgmt ∧ q.item = 0 ∧ s.senderOf .mgmt q.sender = some x ∧ x.alive ≠ q.alive ∧
      x.busy = true) ∧
    (∃ (s : State) (q : Req) (a : Nat) (n : Nat), s.mgmtUp q.port = false) ∧
    (∃ (s : State) (u : State) (q : Req) (x : Sender) (a : Nat) (n : Nat) (st : Nat), s.mgmtSender q = (u, some x) ∧ u.mgmtRefused q x 1 n true = st ∧
      st ≠ 0) ∧
    (∃ (s : State) (u : State) (v : State) (q : Req) (x : Sender) (a : Nat) (n : Nat) (st : Nat) (l : List W32), Runs s u q x 1 n true ∧ 0 < n ∧ n ≤ 256 ∧
      WasRead q.port n a u v st l) ∧
    (∃ (s : State) (u : State) (q : Req) (x : Sender) (a : Nat) (n : Nat), Runs s u q x 1 n true ∧ (n = 0 ∨ 256 < n)) ∧
    (∃ (s : State) (q : Req) (a : Nat) (r : RegRow), NewRequest s q 1 ∧ s.readStatus .mgmt a = 0 ∧ regRow a = some r ∧ (∀ f, f ∈ r.fields → f.acc ≠ .rc) ∧
      a ≠ TB_TIME_S_LO ∧ (¬(0x63000 ≤ a ∧ a < 0x63800))) ∧
    (∃ (s : State) (q : Req) (a : Nat) (st : Nat), NewRequest s q 1 ∧ s.readStatus .mgmt a = st ∧ st ≠ 0 ∧ st ≠ 9) ∧
    (∃ (s : State) (u : State) (v : State) (q : Req) (x : Sender) (a : Nat) (st : Nat) (ws : List W32), Runs s u q x (s.wordsLevel q.port a ws) 0 false ∧
      Wrote q.port ws a u v st) ∧
    (∃ (s : State) (u : State) (q : Req) (x : Sender) (a : Nat) (st : Nat) (ws : List W32), s.mgmtSender q = (u, some x) ∧
      u.mgmtRefused q x (s.wordsLevel q.port a ws) 0 false = st ∧ st ≠ 0) ∧
    (∃ (s : State) (u : State) (q : Req) (x : Sender) (k : Nat) (i : Nat) (ws : List W32), Runs s u q x 2 0 false ∧ u.stageStatus q.port.owner true = 0 ∧
      recordOk k i ws.length = true ∧ (u.stage.records.length < 1024 ∨ ∃ r, r ∈ u.stage.records ∧ r.typ = k ∧ r.index = i)) ∧
    (∃ (s : State) (u : State) (q : Req) (x : Sender) (k : Nat) (i : Nat) (ws : List W32), Runs s u q x 2 0 false ∧ u.stageStatus q.port.owner true ≠ 0) ∧
    (∃ (s : State) (u : State) (q : Req) (x : Sender) (k : Nat) (i : Nat) (ws : List W32), Runs s u q x 2 0 false ∧ u.stageStatus q.port.owner true = 0 ∧
      (recordOk k i ws.length = false ∨ (1024 ≤ u.stage.records.length ∧ ∀ r, r ∈ u.stage.records → ¬(r.typ = k ∧ r.index = i)))) ∧
    (∃ (s : State) (u : State) (q : Req) (x : Sender), Runs s u q x 2 2 false ∧ q.kind = 0 ∧ u.stage.checking = false) ∧
    (∃ (s : State) (u : State) (q : Req) (x : Sender), Runs s u q x 2 2 false ∧ q.kind = 0 ∧ u.stage.checking = true) ∧
    (∃ (s : State) (u : State) (q : Req) (x : Sender), Runs s u q x 2 2 false ∧ q.kind ≠ 0) ∧
    (∃ (s : State) (x : Sender), s.stage.checking = true ∧ s.stage.invalid = true ∧ s.yz.group = none ∧ s.yz.grpId = none ∧
      s.fld CFG_BOOT_STAT_STEP ≠ 10 ∧ s.ctl.senders = [x] ∧ x.waits = 1 ∧ x.next = none ∧ s.ctl.yzSender.waits ≠ 1) ∧
    (∃ (s : State) (u : State) (q : Req) (x : Sender) (ident : Nat) (sec : Nat) (ns : Nat) (w : Fin 4) (c : Fin 16), Runs s u q x 2 1 false ∧ q.kind = 0 ∧
      (u.stage.owner = 0 ∨ u.stage.owner = q.port.owner) ∧ u.bit CFG_STAGE_STAT_CHECKED = true ∧ u.stage.pitches.length < 8 ∧ w.val < 3 ∧
      (w.val = 1 → u.bit (ENC_CH_CTRL_EN c) = true)) ∧
    (∃ (s : State) (u : State) (q : Req) (x : Sender) (ident : Nat) (sec : Nat) (ns : Nat) (e : Nat) (w : Fin 4) (c : Fin 16), Runs s u q x 2 1 false ∧
      e = u.pitchErr q.port.owner (BitVec.ofNat 32 (1 + 2 * w + 16 * c)) ∧ e ≠ 0) ∧
    (∃ (s : State) (u : State) (q : Req) (x : Sender) (ident : Nat) (sec : Nat) (ns : Nat) (w : Fin 4) (c : Fin 16), Runs s u q x 2 1 false ∧ q.kind ≠ 0 ∧
      u.pitchErr q.port.owner (BitVec.ofNat 32 (1 + 2 * w + 16 * c)) = 0 ∧
      (u.yz.group = none ∨ ∃ g, u.yz.group = some g ∧ (g.up = true ∨ g.wait ≠ [] ∨ g.ok = false))) ∧
    (∃ (s : State) (u : State) (q : Req) (x : Sender) (ident : Nat) (sec : Nat) (ns : Nat) (w : Fin 4) (c : Fin 16) (g : GroupX), Runs s u q x 2 1 false ∧
      q.kind ≠ 0 ∧ u.pitchErr q.port.owner (BitVec.ofNat 32 (1 + 2 * w + 16 * c)) = 0 ∧ u.yz.group = some g ∧ g.up = false ∧ g.wait = [] ∧ g.ok = true) ∧
    (∃ (s : State) (u : State) (q : Req) (x : Sender), Runs s u q x 2 0 false ∧ (u.stage.owner = 0 ∨ u.stage.owner = q.port.owner ∨ 4 ≤ u.level q.port)) ∧
    (∃ (s : State) (u : State) (q : Req) (x : Sender), Runs s u q x 2 0 false ∧ u.stage.owner ≠ 0 ∧ u.stage.owner ≠ q.port.owner ∧ u.level q.port < 4) ∧
    (∃ (s : State) (u : State) (q : Req) (x : Sender), Runs s u q x 1 (if q.kind = 0 then 5 else 10) true) ∧
    (∃ (s : State) (u : State) (q : Req) (x : Sender) (mask : Nat) (i : Nat), Runs s u q x 1 1 false ∧
      (∀ j, j < 8 → (u.sub j).used = false ∨ (u.sub j).sender ≠ q.sender) ∧ i = u.subPlace) ∧
    (∃ (s : State) (u : State) (q : Req) (x : Sender) (mask : Nat), Runs s u q x 1 1 false ∧
      (∀ j, j < 8 → (u.sub j).used = false ∨ (u.sub j).sender ≠ q.sender)) ∧
    (∃ (s : State) (u : State) (q : Req) (x : Sender) (mask : Nat) (i : Nat) (on : Bool), Runs s u q x 1 1 false ∧ i < 8 ∧ (u.sub i).used = true ∧
      (u.sub i).sender = q.sender ∧ (∀ j, j < i → (u.sub j).used = false ∨ (u.sub j).sender ≠ q.sender)) ∧
    (∃ (s : State) (u : State) (q : Req) (x : Sender) (first : Nat) (n : Nat), Runs s u q x 1 (16 * n) true ∧ 0 < n ∧ n ≤ 20) ∧
    (∃ (s : State) (u : State) (q : Req) (x : Sender) (first : Nat) (n : Nat), Runs s u q x 1 (16 * n) true ∧ (n = 0 ∨ 20 < n)) ∧
    (∃ (s : State) (q : Req) (addr : W32) (off : Nat), NewRequest s q 1 ∧ s.bit SYS_CASK_STAT_READY = true ∧ off = addr.toNat % 2 ^ 23 ∧ off % 256 = 0 ∧
      0x20000 ≤ off ∧ off < 0xA0000) ∧
    (∃ (s : State) (u : State) (a : State) (b : State) (c : State) (q : Req) (x : Sender) (w : MgWin) (v : W32) (addr : W32) (data : List W32) (n : Nat),
      n = (if fieldGet v 28 4 = 1 then s.winFetchWords w else 0) ∧ Runs s u q x (fieldLevel w.cmd 0 v) (1 + n) false ∧ Wrote q.port data w.data u a 0 ∧
      (∀ r, w.addr = some r → exec (.registerWrite q.port r addr) a = .next b ∧ b.ctl.failed = false) ∧ (w.addr = none → b = a) ∧
      exec (.registerWrite q.port w.cmd v) b = .next c ∧ c.ctl.failed = false) ∧
    (∃ (s : State) (u : State) (a : State) (q : Req) (x : Sender) (w : MgWin) (v : W32) (addr : W32) (data : List W32) (bad : Bool) (n : Nat) (st : Nat),
      n = (if fieldGet v 28 4 = 1 then s.winFetchWords w else 0) ∧ Runs s u q x (fieldLevel w.cmd 0 v) (1 + n) false ∧ Wrote q.port data w.data u a st ∧
      st ≠ 0) ∧
    (∃ (s : State) (u : State) (c : State) (q : Req) (x : Sender) (ty : Fin 16) (i : Nat) (addr : W32), Runs s u q x 1 129 false ∧
      exec (.brgWinFetch q.port ty i true) u = .next c ∧ c.ctl.failed = false) ∧
    (∃ (s : State) (u : State) (c : State) (q : Req) (x : Sender) (ty : Fin 16) (i : Nat) (addr : W32), Runs s u q x 1 33 false ∧
      exec (.audWinFetch q.port ty i true) u = .next c ∧ c.ctl.failed = false) ∧
    (∃ (s : State) (u : State) (q : Req) (x : Sender) (ofs : Nat) (base : Nat) (bs : List Byte), Runs s u q x 4 1 false ∧
      base = (if u.boot.noImage then 0 else (1 - u.fld CFG_BOOT_STAT_SLOT) * 0x10000000) ∧ ofs + bs.length ≤ 0x10000000) ∧
    (∃ (s : State) (u : State) (q : Req) (x : Sender) (base : Nat) (ofs : Nat) (bs : List Byte), Runs s u q x 4 1 false ∧
      base = (if u.boot.noImage then 0 else (1 - u.fld CFG_BOOT_STAT_SLOT) * 0x10000000)) ∧
    (∃ (s : State) (u : State) (q : Req) (x : Sender) (ofs : Nat) (base : Nat) (bs : List Byte), Runs s u q x 4 1 false ∧
      base = (if u.boot.noImage then 0 else (1 - u.fld CFG_BOOT_STAT_SLOT) * 0x10000000) ∧ ofs + bs.length ≤ 0x10000000) ∧
    (∃ (s : State) (u : State) (q : Req) (x : Sender) (op : Fin 3) (ofs : Nat) (bs : List Byte), Runs s u q x 4 1 false ∧ op ≠ 0 ∧
      0x10000000 < ofs + bs.length) ∧
    (∃ (s : State) (u : State) (q : Req) (x : Sender), Runs s u q x 4 0 false) ∧
    (∃ (s : State) (u : State) (q : Req) (x : Sender), Runs s u q x 4 0 false ∧ (x.item 13 0 q.item [] true).next = none) ∧
    (∃ (s : State) (u : State) (q : Req) (x : Sender) (st : Nat), s.mgmtSender q = (u, some x) ∧ u.mgmtRefused q x 4 0 false = st ∧ st ≠ 0) ∧
    (∃ (s : State) (i : Fin 8), (s.sub i).used = true ∧ s.raw - (s.sub i).lastRaw ≥ 10 * secU) ∧
    (∃ (s : State) (i : Fin 8), ((s.sub i).used = false ∨ s.raw - (s.sub i).lastRaw < 10 * secU)) ∧
    (∃ (s : State) (i : Fin 8) (r : Nat) (e : EvRec) (l : List (Nat × EvRec)), (s.sub i).queue = (r, e) :: l ∧ (44 ≤ l.length + 1 ∨ s.raw - r ≥ msU)) ∧
    (∃ (s : State) (i : Fin 8), ((s.sub i).queue = [] ∨ ∃ r e l, (s.sub i).queue = (r, e) :: l ∧ l.length + 1 < 44 ∧ s.raw - r < msU)) ∧
    (∃ (s : State), s.mgmtUp .mgmt = true) ∧
    (∃ (s : State) (n : Nat), s.mgmtUp .mgmt = true) ∧
    (∃ (s : State) (n : Nat), s.mgmtUp .mgmt = false) ∧
    (∃ (s : State) (q : Req) (a : Nat) (n : Nat), q.port = .mgmt ∧ s.mgmtUp .mgmt = true ∧ s.chkServed 6 = false ∧ q.item = 0) :=
  ⟨⟨m4 b1, rq, 4, 300, false, by unfold NewRequest; decide +kernel, by decide +kernel⟩,
   ⟨{ m4 b1 with ctl := { (m4 b1).ctl with senders := [⟨5, 7, ⟨5, 7, 7, 0, [(1, [2])]⟩, 0, none, 0⟩] } }, rq,
      ⟨5, 7, ⟨5, 7, 7, 0, [(1, [2])]⟩, 0, none, 0⟩, 4, 300, false, by decide +kernel⟩,
   ⟨{ m4 b1 with ctl := { (m4 b1).ctl with senders := [⟨5, 9, ⟨5, 9, 7, 0, [(1, [2])]⟩, 0, none, 0⟩] } }, rq,
      ⟨5, 9, ⟨5, 9, 7, 0, [(1, [2])]⟩, 0, none, 0⟩, 0, 1, by decide +kernel⟩,
   ⟨{ m4 b1 with ctl := { (m4 b1).ctl with senders := [⟨5, 7, ⟨5, 7, 7, 0, [(1, [2])]⟩, 0, none, 1⟩] } }, rq,
      ⟨5, 7, ⟨5, 7, 7, 0, [(1, [2])]⟩, 0, none, 1⟩, 0, 1, by decide +kernel⟩,
   ⟨{ m4 b1 with boot := { (m4 b1).boot with noImage := true } }, { rq with port := .media }, 0, 1, by decide +kernel⟩,
   ⟨m4 b1, ((m4 b1).mgmtSender ({ rq with version := 2 })).1, { rq with version := 2 },
      (((m4 b1).mgmtSender ({ rq with version := 2 })).2).getD (Sender.fresh 0), 0, 1, 2, by decide +kernel⟩,
   ⟨m4 b1, ((m4 b1).mgmtSender (rq)).1, nx (execRcRead .mgmt CFG_BOOT_STAT (((m4 b1).mgmtSender (rq)).1)), rq,
      (((m4 b1).mgmtSender (rq)).2).getD (Sender.fresh 0), CFG_BOOT_STAT, 1, 0,
      [(nx (execRcRead .mgmt CFG_BOOT_STAT (((m4 b1).mgmtSender (rq)).1))).ctl.rdData], by unfold Runs; decide +kernel, by decide +kernel,
      by decide +kernel,
      (by simp only [WasRead]; exact ⟨nx (exec (.rcRead .mgmt CFG_BOOT_STAT) ((m4 b1).mgmtSender rq).1), rfl, Or.inr ⟨by decide +kernel, [], by decide +kernel⟩⟩)⟩,
   ⟨m4 b1, ((m4 b1).mgmtSender (rq)).1, rq, (((m4 b1).mgmtSender (rq)).2).getD (Sender.fresh 0), 0, 257, by unfold Runs; decide +kernel,
      by decide +kernel⟩,
   ⟨m4 b1, rq, CFG_BOOT_STAT, row CFG_BOOT_STAT, by unfold NewRequest; decide +kernel, by decide +kernel, by decide +kernel, by decide +kernel,
      by decide +kernel, by decide +kernel⟩,
   ⟨m4 b1, rq, 0x4EFFC, 5, by unfold NewRequest; decide +kernel, by decide +kernel, by decide +kernel, by decide +kernel⟩,
   ⟨m4 b1, ((m4 b1).mgmtSender (rq)).1, nx (execRegisterWrite .mgmt CFG_PITCH_ID 0xFFFFFFFF (((m4 b1).mgmtSender (rq)).1)), rq,
      (((m4 b1).mgmtSender (rq)).2).getD (Sender.fresh 0), CFG_PITCH_ID, 0, [0xFFFFFFFF], by unfold Runs; decide +kernel,
      (by simp only [Wrote]; exact ⟨nx (exec (.registerWrite .mgmt CFG_PITCH_ID 0xFFFFFFFF) ((m4 b1).mgmtSender rq).1), rfl, Or.inr (by decide +kernel)⟩)⟩,
   ⟨{ m4 b1 with boot := { (m4 b1).boot with auth := [4, 1, 5, 0, 4] } },
      (({ m4 b1 with boot := { (m4 b1).boot with auth := [4, 1, 5, 0, 4] } }).mgmtSender (rq)).1, rq,
      ((({ m4 b1 with boot := { (m4 b1).boot with auth := [4, 1, 5, 0, 4] } }).mgmtSender (rq)).2).getD (Sender.fresh 0), CFG_PITCH_ID, 3, [1],
      by decide +kernel⟩,
   ⟨bank (fun x => { x with records := [⟨8, 8191, []⟩, ⟨8, 3, []⟩], checking := true }) (m4 b1),
      ((bank (fun x => { x with records := [⟨8, 8191, []⟩, ⟨8, 3, []⟩], checking := true }) (m4 b1)).mgmtSender (rq)).1, rq,
      (((bank (fun x => { x with records := [⟨8, 8191, []⟩, ⟨8, 3, []⟩], checking := true }) (m4 b1)).mgmtSender (rq)).2).getD (Sender.fresh 0), 8, 8191,
      List.replicate 32 3, by unfold Runs; decide +kernel, by decide +kernel, by decide +kernel, Or.inl (by decide +kernel)⟩,
   ⟨bank (fun x => { x with owner := 1 }) (m4 b1), ((bank (fun x => { x with owner := 1 }) (m4 b1)).mgmtSender ({ rq with port := .mgmt })).1,
      { rq with port := .mgmt }, (((bank (fun x => { x with owner := 1 }) (m4 b1)).mgmtSender ({ rq with port := .mgmt })).2).getD (Sender.fresh 0), 8,
      8191, List.replicate 32 3, by unfold Runs; decide +kernel, by decide +kernel⟩,
   ⟨m4 b1, ((m4 b1).mgmtSender (rq)).1, rq, (((m4 b1).mgmtSender (rq)).2).getD (Sender.fresh 0), 8, 8192, List.replicate 32 3,
      by unfold Runs; decide +kernel, by decide +kernel, by decide +kernel⟩,
   ⟨m4 b1, ((m4 b1).mgmtSender (rq)).1, rq, (((m4 b1).mgmtSender (rq)).2).getD (Sender.fresh 0), by unfold Runs; decide +kernel, by decide +kernel,
      by decide +kernel⟩,
   ⟨bank (fun x => { x with checking := true }) (m4 b1), ((bank (fun x => { x with checking := true }) (m4 b1)).mgmtSender (rq)).1, rq,
      (((bank (fun x => { x with checking := true }) (m4 b1)).mgmtSender (rq)).2).getD (Sender.fresh 0), by unfold Runs; decide +kernel, by decide +kernel,
      by decide +kernel⟩,
   ⟨ups [(⟨coordReg 1, 30, 1⟩, 1), (CFG_STAGE_STAT_CHECKED, 1)] (m4 b1),
      ((ups [(⟨coordReg 1, 30, 1⟩, 1), (CFG_STAGE_STAT_CHECKED, 1)] (m4 b1)).mgmtSender ({ rq with kind := 1 })).1, { rq with kind := 1 },
      (((ups [(⟨coordReg 1, 30, 1⟩, 1), (CFG_STAGE_STAT_CHECKED, 1)] (m4 b1)).mgmtSender ({ rq with kind := 1 })).2).getD (Sender.fresh 0),
      by unfold Runs; decide +kernel, by decide +kernel⟩,
   ⟨let s := bank (fun x => { x with checking := true, invalid := true }) (m4 b1); { s with ctl := { s.ctl with senders := [⟨5, 9, ⟨5, 9, 7, 0, [(1, [2])]⟩, 0, none, 1⟩] } },
      ⟨5, 9, ⟨5, 9, 7, 0, [(1, [2])]⟩, 0, none, 1⟩, by decide +kernel⟩,
   ⟨bank (fun x => { x with owner := 2, checking := true, writes := [(RDN_CFG2, 0)], pitchSeq := 6 }) (ups [(CFG_STAGE_STAT_CHECKED, 1)] (m4 b1)),
      ((bank (fun x => { x with owner := 2, checking := true, writes := [(RDN_CFG2, 0)], pitchSeq := 6 }) (ups [(CFG_STAGE_STAT_CHECKED, 1)] (m4 b1))).mgmtSender (rq)).1,
      rq,
      (((bank (fun x => { x with owner := 2, checking := true, writes := [(RDN_CFG2, 0)], pitchSeq := 6 }) (ups [(CFG_STAGE_STAT_CHECKED, 1)] (m4 b1))).mgmtSender (rq)).2).getD (Sender.fresh 0),
      77, 5, 6, 2, 0, by unfold Runs; decide +kernel, by decide +kernel, by decide +kernel, by decide +kernel, by decide +kernel, by decide +kernel,
      by decide +kernel⟩,
   ⟨m4 b1, ((m4 b1).mgmtSender (rq)).1, rq, (((m4 b1).mgmtSender (rq)).2).getD (Sender.fresh 0), 0, 0, 0, 2, 1, 15, by unfold Runs; decide +kernel,
      by decide +kernel, by decide +kernel⟩,
   ⟨ups [(⟨coordReg 1, 30, 1⟩, 1), (CFG_STAGE_STAT_CHECKED, 1)] (m4 b1),
      ((ups [(⟨coordReg 1, 30, 1⟩, 1), (CFG_STAGE_STAT_CHECKED, 1)] (m4 b1)).mgmtSender ({ rq with kind := 1 })).1, { rq with kind := 1 },
      (((ups [(⟨coordReg 1, 30, 1⟩, 1), (CFG_STAGE_STAT_CHECKED, 1)] (m4 b1)).mgmtSender ({ rq with kind := 1 })).2).getD (Sender.fresh 0), 0, 0, 0, 0, 0,
      by unfold Runs; decide +kernel, by decide +kernel, by decide +kernel, Or.inl (by decide +kernel)⟩,
   ⟨let s := ups [(⟨coordReg 1, 30, 1⟩, 1), (CFG_STAGE_STAT_CHECKED, 1)] (m4 b1); { s with yz := { s.yz with group := some ⟨8, 1, [5, 6], [], 0, true, false⟩ } },
      ((let s := ups [(⟨coordReg 1, 30, 1⟩, 1), (CFG_STAGE_STAT_CHECKED, 1)] (m4 b1); { s with yz := { s.yz with group := some ⟨8, 1, [5, 6], [], 0, true, false⟩ } }).mgmtSender ({ rq with kind := 1 })).1,
      { rq with kind := 1 },
      (((let s := ups [(⟨coordReg 1, 30, 1⟩, 1), (CFG_STAGE_STAT_CHECKED, 1)] (m4 b1); { s with yz := { s.yz with group := some ⟨8, 1, [5, 6], [], 0, true, false⟩ } }).mgmtSender ({ rq with kind := 1 })).2).getD (Sender.fresh 0),
      0, 0, 0, 0, 0, ⟨8, 1, [5, 6], [], 0, true, false⟩, by unfold Runs; decide +kernel, by decide +kernel, by decide +kernel, by decide +kernel,
      by decide +kernel, by decide +kernel, by decide +kernel⟩,
   ⟨bank (fun x => { x with owner := 1, checking := true, writes := [(RDN_CFG2, 0)] }) (m4 b1),
      ((bank (fun x => { x with owner := 1, checking := true, writes := [(RDN_CFG2, 0)] }) (m4 b1)).mgmtSender (rq)).1, rq,
      (((bank (fun x => { x with owner := 1, checking := true, writes := [(RDN_CFG2, 0)] }) (m4 b1)).mgmtSender (rq)).2).getD (Sender.fresh 0),
      by unfold Runs; decide +kernel, by decide +kernel⟩,
   ⟨bank (fun x => { x with owner := 1, checking := true, writes := [(RDN_CFG2, 0)] }) ({ m4 b1 with boot := { (m4 b1).boot with auth := [4, 3, 5, 0, 4] } }),
      ((bank (fun x => { x with owner := 1, checking := true, writes := [(RDN_CFG2, 0)] }) ({ m4 b1 with boot := { (m4 b1).boot with auth := [4, 3, 5, 0, 4] } })).mgmtSender (rq)).1,
      rq,
      (((bank (fun x => { x with owner := 1, checking := true, writes := [(RDN_CFG2, 0)] }) ({ m4 b1 with boot := { (m4 b1).boot with auth := [4, 3, 5, 0, 4] } })).mgmtSender (rq)).2).getD (Sender.fresh 0),
      by unfold Runs; decide +kernel, by decide +kernel, by decide +kernel, by decide +kernel⟩,
   ⟨m4 b1, ((m4 b1).mgmtSender (rq)).1, rq, (((m4 b1).mgmtSender (rq)).2).getD (Sender.fresh 0), by unfold Runs; decide +kernel⟩,
   ⟨m4 b1, ((m4 b1).mgmtSender (rq)).1, rq, (((m4 b1).mgmtSender (rq)).2).getD (Sender.fresh 0), 0xFFFFFFFFFFFFFFFF,
      (((m4 b1).mgmtSender (rq)).1).subPlace, by unfold Runs; decide +kernel, by decide +kernel, by decide +kernel⟩,
   ⟨m4 b1, ((m4 b1).mgmtSender (rq)).1, rq, (((m4 b1).mgmtSender (rq)).2).getD (Sender.fresh 0), 0xF, by unfold Runs; decide +kernel, by decide +kernel⟩,
   ⟨(m4 b1).setSub 7 { Subscriber.zero with used := true, sender := 5 },
      (((m4 b1).setSub 7 { Subscriber.zero with used := true, sender := 5 }).mgmtSender (rq)).1, rq,
      ((((m4 b1).setSub 7 { Subscriber.zero with used := true, sender := 5 }).mgmtSender (rq)).2).getD (Sender.fresh 0), 6, 7, true,
      by unfold Runs; decide +kernel, by decide +kernel, by decide +kernel, by decide +kernel, by decide +kernel⟩,
   ⟨{ m4 b1 with cask := { Cask.new with log := [(0, frec 8192), (8191, frec 8191)] } },
      (({ m4 b1 with cask := { Cask.new with log := [(0, frec 8192), (8191, frec 8191)] } }).mgmtSender (rq)).1, rq,
      ((({ m4 b1 with cask := { Cask.new with log := [(0, frec 8192), (8191, frec 8191)] } }).mgmtSender (rq)).2).getD (Sender.fresh 0), 8191, 2,
      by unfold Runs; decide +kernel, by decide +kernel, by decide +kernel⟩,
   ⟨m4 b1, ((m4 b1).mgmtSender (rq)).1, rq, (((m4 b1).mgmtSender (rq)).2).getD (Sender.fresh 0), 0, 21, by unfold Runs; decide +kernel,
      by decide +kernel⟩,
   ⟨{ ups [(SYS_CASK_STAT_READY, 1)] (m4 b1) with cask := { Cask.new with log := [(8191, frec 8191)] } }, rq, 0x8009FF00, 0x9FF00,
      by unfold NewRequest; decide +kernel, by decide +kernel, by decide +kernel, by decide +kernel, by decide +kernel, by decide +kernel⟩,
   ⟨ups [(SYS_CASK_STAT_READY, 1)] (m4 b1), ((ups [(SYS_CASK_STAT_READY, 1)] (m4 b1)).mgmtSender (rq)).1,
      (((ups [(SYS_CASK_STAT_READY, 1)] (m4 b1)).mgmtSender (rq)).1),
      nx (execRegisterWrite .mgmt SYS_CASK_ADDR (0x80020000) (((ups [(SYS_CASK_STAT_READY, 1)] (m4 b1)).mgmtSender (rq)).1)),
      nx (execRegisterWrite .mgmt SYS_CASK_CMD 0x10000000 (nx (execRegisterWrite .mgmt SYS_CASK_ADDR (0x80020000) (((ups [(SYS_CASK_STAT_READY, 1)] (m4 b1)).mgmtSender (rq)).1)))),
      rq, (((ups [(SYS_CASK_STAT_READY, 1)] (m4 b1)).mgmtSender (rq)).2).getD (Sender.fresh 0), .cask, 0x10000000, 0x80020000, [], 64, by decide +kernel,
      by unfold Runs; decide +kernel, by unfold Wrote; decide +kernel,
      (by intro r h; obtain rfl : SYS_CASK_ADDR = r := Option.some.inj h; exact ⟨rfl, by decide +kernel⟩), (fun h => absurd h (by decide)), rfl,
      by decide +kernel⟩,
   ⟨ups [(SYS_CASK_STAT_READY, 0)] (m4 b1), ((ups [(SYS_CASK_STAT_READY, 0)] (m4 b1)).mgmtSender (rq)).1,
      nx (execRegisterWrite .mgmt (SYS_CASK_DATA 0) 1 (((ups [(SYS_CASK_STAT_READY, 0)] (m4 b1)).mgmtSender (rq)).1)), rq,
      (((ups [(SYS_CASK_STAT_READY, 0)] (m4 b1)).mgmtSender (rq)).2).getD (Sender.fresh 0), .cask, 0x20000000, 0, [1], false, 0, 8, by decide +kernel,
      by unfold Runs; decide +kernel,
      (by simp only [Wrote]; exact ⟨nx (exec (.registerWrite .mgmt (SYS_CASK_DATA 0) 1) ((ups [(SYS_CASK_STAT_READY, 0)] (m4 b1)).mgmtSender rq).1), rfl, Or.inl (by decide +kernel)⟩),
      by decide +kernel⟩,
   ⟨m4 b1, ((m4 b1).mgmtSender (rq)).1, nx (execBrgWinFetch .mgmt (1) (5) true (((m4 b1).mgmtSender (rq)).1)), rq,
      (((m4 b1).mgmtSender (rq)).2).getD (Sender.fresh 0), 1, 5, 0, by unfold Runs; decide +kernel, rfl, by decide +kernel⟩,
   ⟨m4 b1, ((m4 b1).mgmtSender (rq)).1, nx (execAudWinFetch .mgmt (8) (5) true (((m4 b1).mgmtSender (rq)).1)), rq,
      (((m4 b1).mgmtSender (rq)).2).getD (Sender.fresh 0), 8, 5, 0, by unfold Runs; decide +kernel, rfl, by decide +kernel⟩,
   ⟨m4 b1, ((m4 b1).mgmtSender (rq)).1, rq, (((m4 b1).mgmtSender (rq)).2).getD (Sender.fresh 0), 0xFFFFFFE, 0x10000000, [1, 255],
      by unfold Runs; decide +kernel, by decide +kernel, by decide +kernel⟩,
   ⟨let s := m4 b1; { s with ctl := { s.ctl with flash := [(0xFFFFFFF, 3), (0x10000000, 4), (0x1FFFFFFF, 5)] } },
      ((let s := m4 b1; { s with ctl := { s.ctl with flash := [(0xFFFFFFF, 3), (0x10000000, 4), (0x1FFFFFFF, 5)] } }).mgmtSender (rq)).1, rq,
      (((let s := m4 b1; { s with ctl := { s.ctl with flash := [(0xFFFFFFF, 3), (0x10000000, 4), (0x1FFFFFFF, 5)] } }).mgmtSender (rq)).2).getD (Sender.fresh 0),
      0x10000000, 0, [], by unfold Runs; decide +kernel, by decide +kernel⟩,
   ⟨let s := m4 b1; { s with ctl := { s.ctl with flash := [(0x10000001, 3)] } },
      ((let s := m4 b1; { s with ctl := { s.ctl with flash := [(0x10000001, 3)] } }).mgmtSender (rq)).1, rq,
      (((let s := m4 b1; { s with ctl := { s.ctl with flash := [(0x10000001, 3)] } }).mgmtSender (rq)).2).getD (Sender.fresh 0), 1, 0x10000000, [3, 255],
      by unfold Runs; decide +kernel, by decide +kernel, by decide +kernel⟩,
   ⟨m4 b1, ((m4 b1).mgmtSender (rq)).1, rq, (((m4 b1).mgmtSender (rq)).2).getD (Sender.fresh 0), 1, 0xFFFFFFE, [1, 2, 3], by unfold Runs; decide +kernel,
      by decide +kernel, by decide +kernel⟩,
   ⟨m4 b1, ((m4 b1).mgmtSender (rq)).1, rq, (((m4 b1).mgmtSender (rq)).2).getD (Sender.fresh 0), by unfold Runs; decide +kernel⟩,
   ⟨m4 b1, ((m4 b1).mgmtSender (rq)).1, rq, (((m4 b1).mgmtSender (rq)).2).getD (Sender.fresh 0), by unfold Runs; decide +kernel, by decide +kernel⟩,
   ⟨{ m4 b1 with boot := { (m4 b1).boot with auth := [4, 3, 5, 0, 4] } },
      (({ m4 b1 with boot := { (m4 b1).boot with auth := [4, 3, 5, 0, 4] } }).mgmtSender (rq)).1, rq,
      ((({ m4 b1 with boot := { (m4 b1).boot with auth := [4, 3, 5, 0, 4] } }).mgmtSender (rq)).2).getD (Sender.fresh 0), 3, by decide +kernel⟩,
   ⟨at' 10000000 ((m4 b1).setSub 7 { Subscriber.zero with used := true, sender := 5 }), 7, by decide +kernel⟩,
   ⟨at' 9999999 ((m4 b1).setSub 7 { Subscriber.zero with used := true, sender := 5 }), 7, by decide +kernel⟩,
   ⟨at' 1000 (b1.setSub 7 { Subscriber.zero with used := true, queue := [(0, EvRec.zero), (5, EvRec.zero)], dropped := 3, tag := 8 }), 7, 0, EvRec.zero,
      [(5, EvRec.zero)], by decide +kernel⟩,
   ⟨at' 1000 (b1.setSub 7 { Subscriber.zero with used := true, tag := 8 }), 7, Or.inl (by decide +kernel)⟩,
   ⟨m4 b1, by decide +kernel⟩,
   ⟨m4 b1, 5, by decide +kernel⟩,
   ⟨State.reset, 5, by decide +kernel⟩,
   ⟨up [(CHK_UNIT_STAT_FENCED 6, 1)] (m4 b1), rq, 0, 0, by decide +kernel⟩⟩

theorem wit_TestAccessPort :
    (∃ (s : State) (c : Nat) (b : Nat) (we : Bool) (w : Fin 1048576) (d : W32), s.fld SYS_STAT_TEST_EN = 0) ∧
    (∃ (s : State) (c : Nat), s.fld SYS_STAT_TEST_EN = 1 ∧ (s.fld PWR_MODE_CUR = 1 ∨ s.fld PWR_MODE_CUR = 5)) ∧
    (∃ (s : State) (c : Nat), s.fld SYS_STAT_TEST_EN = 1 ∧ s.fld PWR_MODE_CUR ≠ 1 ∧ s.fld PWR_MODE_CUR ≠ 5) ∧
    (∃ (s : State) (b : Nat) (c : Nat), s.fld SYS_STAT_TEST_EN = 1) ∧
    (∃ (s : State) (w : Fin 1048576) (d : W32), s.fld SYS_STAT_TEST_EN = 1) ∧
    (∃ (s : State) (w : Fin 1048576) (d : W32), s.fld SYS_STAT_TEST_EN = 1) ∧
    (∃ (s : State) (w : Fin 1048576) (d : W32) (r : RegRow), s.fld SYS_STAT_TEST_EN = 1 ∧ regRow (4 * w.val) = some r ∧ r.fields = [⟨0, 32, .rw⟩] ∧
      4 * w.val ≠ EVQ_RD ∧ 4 * w.val ≠ DRM_XLATE_HI ∧ 4 * w.val / 0x10000 ≠ 7 ∧ Taken s .jtag (4 * w.val) d) ∧
    (∃ (s : State) (w : Fin 1048576) (d : W32) (r : RegRow), s.fld SYS_STAT_TEST_EN = 1 ∧ s.readStatus .jtag (4 * w.val) = 0 ∧
      regRow (4 * w.val) = some r ∧ (∀ f, f ∈ r.fields → f.acc ≠ .rc) ∧ 4 * w.val ≠ TB_TIME_S_LO ∧ (¬(0x63000 ≤ 4 * w.val ∧ 4 * w.val < 0x63800)) ∧
      4 * w.val ≠ TST_JTAG_STAT) ∧
    (∃ (s : State) (w : Fin 1048576) (d : W32) (st : Nat), s.fld SYS_STAT_TEST_EN = 1 ∧ s.readStatus .jtag (4 * w.val) = st ∧ st ≠ 0) :=
  ⟨⟨b1, 5, 0, true, 0x10009, 7, by decide +kernel⟩,
   ⟨tstS (fun x => { x with drive := 3 }) (tap 5 b1), 2 ^ 1486 + 5, by decide +kernel⟩,
   ⟨tstS (fun x => { x with drive := 3 }) (tap 2 b1), 5, by decide +kernel⟩,
   ⟨tap 2 b1, 2 ^ 1486 + 5, 2 ^ 1486 + 6, by decide +kernel⟩,
   ⟨tstS (fun x => { x with drive := 3 }) (tap 2 b1), 0x10009, 0xFFFFFFFF, by decide +kernel⟩,
   ⟨tstS (fun x => { x with drive := 3 }) (tap 2 b1), 0x10009, 0xFFFFFFFF, by decide +kernel⟩,
   ⟨tap 2 b1, 0x10009, 0xFFFFFFFF, row CFG_PITCH_ID, by decide +kernel, by decide +kernel, by decide +kernel, by decide +kernel, by decide +kernel,
      by decide +kernel, by unfold Taken; decide +kernel⟩,
   ⟨tap 2 b1, 0x10009, 0, row CFG_PITCH_ID, by decide +kernel⟩,
   ⟨tap 2 b1, 0x13BFF, 0, 5, by decide +kernel⟩⟩

theorem wit_TestFunctions :
    (∃ (s : State) (p : Port) (l : Fin 64) (v : W32), s.writeStatus p (TST_LANE_GEN l) v = 0 ∧ fieldGet v 0 1 = 1 ∧
      s.tstRefused l (fieldGet v 28 4) = true) ∧
    (∃ (s : State) (p : Port) (l : Fin 64) (v : W32), Taken s p (TST_LANE_GEN l) v ∧ (fieldGet v 0 1 = 0 ∨ s.tstRefused l (fieldGet v 28 4) = false)) ∧
    (∃ (s : State) (p : Port) (l : Fin 64) (v : W32), s.writeStatus p (TST_LANE_CHK l) v = 0 ∧ fieldGet v 0 1 = 1 ∧
      s.tstRefused l (s.fld (TST_LANE_GEN_RATE l)) = true) ∧
    (∃ (s : State) (p : Port) (l : Fin 64) (v : W32), Taken s p (TST_LANE_CHK l) v ∧
      (fieldGet v 0 1 = 0 ∨ s.tstRefused l (s.fld (TST_LANE_GEN_RATE l)) = false)) ∧
    (∃ (s : State) (p : Port) (l : Fin 64) (v : W32), s.writeStatus p (TST_LANE_LOOP l) v = 0 ∧ fieldGet v 0 2 ≠ 0 ∧
      s.tstRefused l (s.fld (TST_LANE_GEN_RATE l)) = true) ∧
    (∃ (s : State) (p : Port) (l : Fin 64) (v : W32), Taken s p (TST_LANE_LOOP l) v ∧
      (fieldGet v 0 2 = 0 ∨ s.tstRefused l (s.fld (TST_LANE_GEN_RATE l)) = false)) ∧
    (∃ (s : State) (p : Port) (l : Fin 64) (v : W32), v = s.rd (TST_LANE_GEN l) ||| 4) ∧
    (∃ (s : State) (p : Port) (l : Fin 64) (v : W32), v = s.rd (TST_LANE_CHK l) ||| 2) ∧
    (∃ (s : State) (l : Fin 64), s.bit (TST_LANE_STAT_CHK_ON l) = true ∧ s.bit (TST_LANE_STAT_SYNC l) = false ∧ s.phy.idle.contains (l.val / 4) = false) ∧
    (∃ (s : State) (l : Fin 64), (s.bit (TST_LANE_STAT_CHK_ON l) = false ∨ s.bit (TST_LANE_STAT_SYNC l) = true ∨ s.phy.idle.contains (l.val / 4) = true)) ∧
    (∃ (s : State) (l : Fin 64) (n : Nat), s.bit (TST_LANE_STAT_SYNC l) = true ∧ n ≤ 16) ∧
    (∃ (s : State) (l : Fin 64) (n : Nat), s.bit (TST_LANE_STAT_SYNC l) = true ∧ 16 < n) ∧
    (∃ (s : State) (l : Fin 64) (n : Nat), s.bit (TST_LANE_STAT_SYNC l) = false) ∧
    (∃ (s : State) (p : Fin 16), s.bit (TST_YZ_CTRL_EN p) = true ∧ s.bit (YZ_PORT_STAT_UP p) = true ∧
      ((s.yzp p).testRaw = 0 ∨ s.raw + 1 - (s.yzp p).testRaw ≥ s.fld (TST_YZ_CTRL_INTERVAL p) * usU)) ∧
    (∃ (s : State) (p : Fin 16),
      (s.bit (TST_YZ_CTRL_EN p) = false ∨ s.bit (YZ_PORT_STAT_UP p) = false ∨ ((s.yzp p).testRaw ≠ 0 ∧ s.raw + 1 - (s.yzp p).testRaw < s.fld (TST_YZ_CTRL_INTERVAL p) * usU))) ∧
    (∃ (s : State) (p : Fin 16) (ok : Bool) (m : Nat × List Byte) (a : List (Nat × List Byte)) (l : List (Nat × List Byte)),
      (s.yzp p).msgs = a ++ m :: l ∧ (∀ x, x ∈ a → x.1 ≠ 7 ∨ (msgHdr x.2).src ≠ s.ownAddr) ∧ m.1 = 7 ∧ (msgHdr m.2).src = s.ownAddr) ∧
    (∃ (s : State) (p : Fin 16) (ok : Bool), (∀ x, x ∈ (s.yzp p).msgs → x.1 ≠ 7 ∨ (msgHdr x.2).src ≠ s.ownAddr)) ∧
    (∃ (s : State) (p : Port) (k : Fin 8) (i : Fin 128), Taken s p TST_BIST_CMD (tstWord k i) ∧ s.tst.bist = none ∧ s.blockFenced k i = true) ∧
    (∃ (s : State) (p : Port) (k : Fin 8) (i : Fin 128), Taken s p TST_BIST_CMD (tstWord k i) ∧ s.tst.bist = none ∧ s.blockFenced k i = false) ∧
    (∃ (s : State) (p : Port) (k : Fin 8) (i : Fin 128), Taken s p TST_GV_CMD (tstWord k i) ∧ s.tst.gv = none ∧ s.blockFenced k i = true) ∧
    (∃ (s : State) (p : Port) (k : Fin 8) (i : Fin 128), Taken s p TST_GV_CMD (tstWord k i) ∧ s.tst.gv = none ∧ s.blockFenced k i = false) ∧
    (∃ (s : State) (k : Nat) (i : Nat) (a : Nat) (n : Nat), s.tst.bist = some (k, i)) ∧
    (∃ (s : State) (k : Nat) (i : Nat) (n : Nat), s.tst.bist = some (k, i)) ∧
    (∃ (s : State) (k : Nat) (i : Nat) (n : Nat) (f : Option Nat), s.tst.gv = some (k, i)) ∧
    (∃ (s : State) (gv : Bool) (f : Option Nat) (n : Nat), (if gv then s.tst.gv else s.tst.bist) = none) :=
  ⟨⟨q15 [(LNK_MAC_CFG_EN 9, 1), (LNK_MAC_CFG_LANES 9, 1), (LNK_MAC_CFG_FIRST_LANE 9, 62)] b1, .hcp, 63, 1, by decide +kernel⟩,
   ⟨q15 [] b1, .hcp, 63, 0x60000001, by unfold Taken; decide +kernel, by decide +kernel⟩,
   ⟨b1, .hcp, 63, 1, by decide +kernel⟩,
   ⟨q15 [] b1, .hcp, 63, 1, by unfold Taken; decide +kernel, by decide +kernel⟩,
   ⟨b1, .hcp, 63, 2, by decide +kernel⟩,
   ⟨q15 [] b1, .hcp, 63, 2, by unfold Taken; decide +kernel, by decide +kernel⟩,
   ⟨q15 [(TST_LANE_GEN_EN 63, 1), (TST_LANE_CHK_EN 63, 1), (TST_LANE_LOOP_MODE 63, 1), (TST_LANE_STAT_SYNC 63, 1), (TST_LANE_CNT_ERR_LO_COUNT 63, 0xFFFFFFFF)] b1,
      .hcp, 63,
      (q15 [(TST_LANE_GEN_EN 63, 1), (TST_LANE_CHK_EN 63, 1), (TST_LANE_LOOP_MODE 63, 1), (TST_LANE_STAT_SYNC 63, 1), (TST_LANE_CNT_ERR_LO_COUNT 63, 0xFFFFFFFF)] b1).rd (TST_LANE_GEN (63)) ||| 4,
      by decide +kernel⟩,
   ⟨tstS (fun x => { x with sync := [(63, 5)], bits := [(63, 9)] }) (q15 [(TST_LANE_CHK_EN 63, 1), (TST_LANE_STAT_SYNC 63, 1), (TST_LANE_CNT_ERR_LO_COUNT 63, 0xFFFFFFFF)] b1),
      .hcp, 63,
      (tstS (fun x => { x with sync := [(63, 5)], bits := [(63, 9)] }) (q15 [(TST_LANE_CHK_EN 63, 1), (TST_LANE_STAT_SYNC 63, 1), (TST_LANE_CNT_ERR_LO_COUNT 63, 0xFFFFFFFF)] b1)).rd (TST_LANE_CHK (63)) ||| 2,
      by decide +kernel⟩,
   ⟨q15 [(TST_LANE_STAT_CHK_ON 63, 1)] b1, 63, by decide +kernel⟩,
   ⟨b1, 63, by decide +kernel⟩,
   ⟨q15 [(TST_LANE_STAT_SYNC 63, 1), (TST_LANE_CNT_ERR_LO_COUNT 63, 0xFFFFFFFF)] b1, 63, 16, by decide +kernel⟩,
   ⟨tstS (fun x => { x with sync := [(63, 5)], bits := [(63, 9)] }) (q15 [(TST_LANE_STAT_SYNC 63, 1)] b1), 63, 17, by decide +kernel⟩,
   ⟨b1, 63, 17, by decide +kernel⟩,
   ⟨port15 1 2 (fun y => { y with testRaw := us 999990 + 1 }) (q15 [(TST_YZ_CTRL_EN 15, 1), (TST_YZ_CTRL_INTERVAL 15, 10)] b1), 15, by decide +kernel⟩,
   ⟨b1, 15, by decide +kernel⟩,
   ⟨port15 1 2 (fun y => { y with msgs := [(7, msgB 3 0 9 8 0 0 [1, 2]), (7, msgB 3 0 0 8 0 0 [1, 2]), (5, [])] }) b1, 15, false,
      (7, msgB 3 0 0 8 0 0 [1, 2]), [(7, msgB 3 0 9 8 0 0 [1, 2])], [(5, [])], by decide +kernel⟩,
   ⟨b1, 15, false, by decide +kernel⟩,
   ⟨up [(DSP_CORE_STAT_FENCED 95, 1), (DSP_CORE_STAT_FENCED 94, 1)] b1, .hcp, 4, 95, by unfold Taken; decide +kernel, by decide +kernel,
      by decide +kernel⟩,
   ⟨b1, .hcp, 7, 127, by unfold Taken; decide +kernel, by decide +kernel, by decide +kernel⟩,
   ⟨up [(CHK_UNIT_STAT_FENCED 11, 1)] b1, .hcp, 5, 11, by unfold Taken; decide +kernel, by decide +kernel, by decide +kernel⟩,
   ⟨b1, .hcp, 5, 11, by unfold Taken; decide +kernel, by decide +kernel, by decide +kernel⟩,
   ⟨tstS (fun x => { x with bist := some (5, 11) }) b1, 5, 11, 0xFFFFFFFF, 3, by decide +kernel⟩,
   ⟨tstS (fun x => { x with bist := some (4, 95) }) (kp 0 [1, 2] [] id b1), 4, 95, 3, by decide +kernel⟩,
   ⟨tstS (fun x => { x with gv := some (4, 95) }) b1, 4, 95, 0, none, by decide +kernel⟩,
   ⟨b1, true, none, 0, by decide +kernel⟩⟩

theorem wit_ReceiveAndForward :
    (∃ (s : State) (p : RtpPkt) (f : Nat) (e : Nat) (d : Nat), s.RtpOk p f ∧ (s.fx f).resident = true ∧ (s.fx f).probe = none ∧
      (s.recState 0 f = 1 ∨ s.recState 0 f = 2) ∧ (s.record 0 f).length = 128 ∧ s.flag f 0 = false ∧ s.ff f 0x36 1 = 0 ∧ s.fresh0 f = false ∧
      8192 ≤ s.ff f 0x3C 4 ∧ s.targets f = [] ∧ (p.rap = false ∨ p.auStart = false) ∧ e = s.ff f 0xC8 8 ∧ d = (p.seq + 65536 - e % 65536) % 65536 ∧ 1 ≤ d ∧
      d ≤ 3000) ∧
    (∃ (s : State) (p : RtpPkt) (f : Nat) (g : Nat) (l : Nat) (e : Nat), s.RtpOk p f ∧ (s.fx f).resident = true ∧ (s.fx f).probe = none ∧
      (s.recState 0 f = 1 ∨ s.recState 0 f = 2) ∧ (s.record 0 f).length = 128 ∧ s.flag f 0 = false ∧ s.flag f 4 = false ∧ s.ff f 0x36 1 = 0 ∧
      s.fresh0 f = false ∧ 8192 ≤ s.ff f 0x3C 4 ∧ s.targets f = [g] ∧ (p.rap = false ∨ p.auStart = false) ∧ p.seq = (s.ff f 0xC8 8 + 1) % 65536 ∧
      (s.fx g).resident = true ∧ s.recState 0 g = 1 ∧ (s.record 0 g).length = 128 ∧ g ≠ f ∧ s.isVideo g = false ∧ s.flag g 0 = false ∧
      (s.fx g).prevSrc = some f ∧ (s.fx g).withheld = 0 ∧ p.bad.contains g = false ∧ f < 2097152 ∧ s.isActive = false ∧ s.flowLeg g = some l ∧
      (16 ≤ s.ff g 0x0A 1 ∨ s.egBridge (s.ff g 0x0A 1) + p.len ≤ 6291456) ∧ e = s.ff g 0xC8 8) ∧
    (∃ (s : State) (p : RtpPkt) (f : Nat) (e : Nat) (d : Nat), s.RtpOk p f ∧ (s.fx f).resident = true ∧ (s.fx f).probe = none ∧
      (s.recState 0 f = 1 ∨ s.recState 0 f = 2) ∧ (s.record 0 f).length = 128 ∧ s.flag f 0 = false ∧ s.flag f 4 = false ∧ s.ff f 0x36 1 = 0 ∧
      s.fresh0 f = false ∧ 8192 ≤ s.ff f 0x3C 4 ∧ s.targets f = [] ∧ e = s.ff f 0xC8 8 ∧ d = (p.seq + 65536 - e % 65536) % 65536 ∧
      (d = 0 ∨ 65536 - d ≤ 100)) ∧
    (∃ (s : State) (p : RtpPkt) (f : Nat) (d : Nat), s.RtpOk p f ∧ (s.fx f).resident = true ∧ (s.recState 0 f = 1 ∨ s.recState 0 f = 2) ∧
      s.flag f 0 = false ∧ s.ff f 0x36 1 = 0 ∧
      ((∃ q, (s.fx f).probe = some q ∧ p.seq ≠ q) ∨ ((s.fx f).probe = none ∧ s.fresh0 f = false ∧ d = (p.seq + 65536 - s.ff f 0xC8 8 % 65536) % 65536 ∧ 3000 < d ∧ 100 < 65536 - d))) ∧
    (∃ (s : State) (p : RtpPkt) (f : Nat), s.RtpOk p f ∧ (s.fx f).resident = true ∧ (s.recState 0 f = 1 ∨ s.recState 0 f = 2) ∧
      (s.record 0 f).length = 128 ∧ s.flag f 0 = false ∧ s.flag f 4 = false ∧ s.ff f 0x36 1 = 0 ∧ 8192 ≤ s.ff f 0x3C 4 ∧ s.targets f = [] ∧
      (p.rap = false ∨ p.auStart = false) ∧ (s.fx f).probe = some p.seq) ∧
    (∃ (s : State) (p : RtpPkt) (f : Nat), s.RtpOk p f ∧ (s.fx f).resident = true ∧ s.recState 0 f = 3) ∧
    (∃ (s : State) (p : RtpPkt), s.bit FWD_CFG_EN = true ∧ s.bit BRG_CFG_EN = true ∧ s.blockRuns 102 = true ∧ p.hdrOk = true ∧ 64 ≤ p.frame ∧
      p.frame ≤ 9216 ∧ s.yzPort p.mac p.lport = false ∧ ((p.b0 < 4 ∨ (20 ≤ p.b0 ∧ p.b0 < 64)) → s.classifyPorts p = none) ∧
      (128 ≤ p.b0 → p.b0 < 192 → 192 ≤ p.b1 → p.b1 < 224 → s.classifyRtcp p = none) ∧
      (128 ≤ p.b0 → p.b0 < 192 → ¬(192 ≤ p.b1 ∧ p.b1 < 224) → s.classify p = none)) ∧
    (∃ (s : State) (p : RtpPkt) (f : Nat), s.bit FWD_CFG_EN = true ∧ s.bit BRG_CFG_EN = true ∧ s.blockRuns 102 = true ∧ p.hdrOk = true ∧ 64 ≤ p.frame ∧
      p.frame ≤ 9216 ∧ s.yzPort p.mac p.lport = false ∧ (p.b0 < 4 ∨ (20 ≤ p.b0 ∧ p.b0 < 64)) ∧ s.classifyPorts p = some f ∧ s.brg.punt.length < 256 ∧
      p.len ≤ 1536) ∧
    (∃ (s : State) (p : RtpPkt) (f : Nat), s.RtpOk p f ∧ (s.fx f).resident = true ∧ (s.recState 0 f = 1 ∨ s.recState 0 f = 2) ∧
      (s.record 0 f).length = 128 ∧ s.flag f 0 = true ∧ p.authOk = false) ∧
    (∃ (s : State) (p : RtpPkt),
      (s.bit FWD_CFG_EN = false ∨ s.bit BRG_CFG_EN = false ∨ s.blockRuns 102 = false ∨ p.hdrOk = false ∨ p.frame < 64 ∨ 9216 < p.frame)) ∧
    (∃ (s : State) (n : Fin 16) (k : Nat) (rend : Fin 12) (u : Nat) (d : Nat) (p : RPic) (r : Option (List Int)), (s.chan n).pic k rend = some p ∧
      s.ChkNext n k rend u d p ∧ u < 2048 ∧ d < 8 ∧
      (∀ v, r = some v → (unitCrc (depthOf ((s.asOf n k).fld (ENC_CH_REND_CODEC_DEPTH n rend))) v).toNat ≠ (p.units.getD u UnitRec.zero).crc) ∧
      (p.units.getD u UnitRec.zero).tun < 40 ∧ s.tunFenced (p.units.getD u UnitRec.zero).tun = false) :=
  ⟨⟨fwd5 [(0xC8, 8, 65540), (0x190, 4, 0xFFFFFFFF)] id b1, pkt0, 5, 65540, (7 + 65536 - 65540 % 65536) % 65536, by unfold State.RtpOk; decide +kernel,
      by decide +kernel, by decide +kernel, by decide +kernel, by decide +kernel, by decide +kernel, by decide +kernel, by decide +kernel,
      by decide +kernel, by decide +kernel, by decide +kernel, by decide +kernel, by decide +kernel, by decide +kernel, by decide +kernel⟩,
   ⟨send9 4 (fwd5 [(0xC8, 8, 65542)] id b1), pkt0, 5, 9, 4, 70000, by unfold State.RtpOk; decide +kernel, by decide +kernel, by decide +kernel,
      by decide +kernel, by decide +kernel, by decide +kernel, by decide +kernel, by decide +kernel, by decide +kernel, by decide +kernel,
      by decide +kernel, by decide +kernel, by decide +kernel, by decide +kernel, by decide +kernel, by decide +kernel, by decide +kernel,
      by decide +kernel, by decide +kernel, by decide +kernel, by decide +kernel, by decide +kernel, by decide +kernel, by decide +kernel,
      by decide +kernel, by decide +kernel, by decide +kernel⟩,
   ⟨fwd5 [(0xC8, 8, 65583)] id b1, pkt0, 5, 65583, 65496, by unfold State.RtpOk; decide +kernel, by decide +kernel, by decide +kernel, by decide +kernel,
      by decide +kernel, by decide +kernel, by decide +kernel, by decide +kernel, by decide +kernel, by decide +kernel, by decide +kernel,
      by decide +kernel, by decide +kernel, by decide +kernel⟩,
   ⟨fwd5 [(0xC8, 8, 65540)] (fun x => { x with probe := some 9 }) b1, pkt0, 5, 0, by unfold State.RtpOk; decide +kernel, by decide +kernel,
      by decide +kernel, by decide +kernel, by decide +kernel, Or.inl ⟨9, by decide +kernel, by decide +kernel⟩⟩,
   ⟨fwd5 [(0xC8, 8, 65540)] (fun x => { x with probe := some 7 }) b1, pkt0, 5, by unfold State.RtpOk; decide +kernel, by decide +kernel,
      by decide +kernel, by decide +kernel, by decide +kernel, by decide +kernel, by decide +kernel, by decide +kernel, by decide +kernel,
      by decide +kernel, by decide +kernel⟩,
   ⟨fwd5 [(0, 1, 3)] id b1, pkt0, 5, by unfold State.RtpOk; decide +kernel, by decide +kernel, by decide +kernel⟩,
   ⟨up [(FWD_CFG_EN, 1), (BRG_CFG_EN, 1)] b1, pkt0, by decide +kernel⟩,
   ⟨fwd5 [] id b1, { pkt0 with b0 := 22, words := [5] }, 5, by decide +kernel⟩,
   ⟨fwd5 [(3, 1, 1), (0xC8, 8, 65540)] id b1, { pkt0 with authOk := false }, 5, by unfold State.RtpOk; decide +kernel, by decide +kernel,
      by decide +kernel, by decide +kernel, by decide +kernel, by decide +kernel⟩,
   ⟨b1, pkt0, by decide +kernel⟩,
   ⟨let x := vid 0 (fun c => c.setPic 1 0 { pic0 [{ UnitRec.zero with phase := .coded, tun := 9, cap := 700, crc := 5 }] with chk := [5] }) b1; { x with enc := { x.enc with chkPlace := [(0, [5])] } },
      0, 1, 0, 0, 5, { pic0 [{ UnitRec.zero with phase := .coded, tun := 9, cap := 700, crc := 5 }] with chk := [5] }, none, by decide +kernel,
      by unfold State.ChkNext; decide +kernel, by decide +kernel, by decide +kernel, (by intro v h; cases h), by decide +kernel, by decide +kernel⟩⟩

theorem wit_CheckedConfiguration :
    ∃ (s : State), s.gravity = none :=
  ⟨b2, b2_gravity⟩

theorem wit_QueueTakesCommandsInOrder :
    (∃ (s : State), s.pending = [] ∧ s.boot.porHeld = true ∧ s.boot.cold = true) ∧
    (∃ (s : State), s.pending = [] ∧ (s.boot.porHeld = false ∨ s.boot.cold = false)) ∧
    (∃ (s : State), s.pending = [] ∧ (s.boot.porHeld = false ∨ s.boot.cold = false) ∧ (s.aud.pack = false ∨ s.raw + 65536 < s.aud.cycRaw + 8 * msU) ∧
      (∀ c, c ∈ s.enc.chans → c.2.run = true → c.2.tsAt = [])) ∧
    (∃ (s : State), s.pending = [] ∧ (s.boot.porHeld = false ∨ s.boot.cold = false) ∧ s.aud.pack = true ∧ s.raw + 65536 ≥ s.aud.cycRaw + 8 * msU ∧
      s.audSessions = []) :=
  ⟨⟨State.reset, by decide +kernel⟩,
   ⟨b1, by decide +kernel⟩,
   ⟨b1, by decide +kernel⟩,
   ⟨{ at' 9000 b1 with aud := { Aud.zero with pack := true, cycRaw := us 1000 } }, by decide +kernel⟩⟩

theorem wit_EveryStepKeepsMemoryCanonical :
    ∃ (s : State) (t : State), Memory.wf s.dram = true ∧ step s = .next t :=
  ⟨{ drm [(DRM_CH_SCHED_WR_HIGH 0, 48)] b1 with pending := [.dramWrite .window 1 60 [1, 0, 3, 4] false] },
      nx (step { drm [(DRM_CH_SCHED_WR_HIGH 0, 48)] b1 with pending := [.dramWrite .window 1 60 [1, 0, 3, 4] false] }), by decide +kernel, rfl⟩

theorem wit_EveryStepKeepsTheQueuesInOrder :
    (∃ (s : State) (t : State), s.evq.ok = true ∧ step s = .next t) ∧
    (∃ (s : State) (t : State), s.cask.ok = true ∧ step s = .next t) :=
  ⟨⟨{ b1 with evq := ⟨1024, 0, [], 0⟩, pending := [.fabricParityError 5 1 false none] },
      nx (step { b1 with evq := ⟨1024, 0, [], 0⟩, pending := [.fabricParityError 5 1 false none] }), by decide +kernel, rfl⟩,
   ⟨{ b1 with cask := { Cask.new with logSeq := 8191 }, pending := [.sramUncorrectable (.chkUnit 11)] },
      nx (step { b1 with cask := { Cask.new with logSeq := 8191 }, pending := [.sramUncorrectable (.chkUnit 11)] }), by decide +kernel, rfl⟩⟩

theorem wit_CommandsLeaveQueueAndClock :
    ∃ (c : Instr) (s : State) (t : State), exec c s = .next t :=
  ⟨.coldReset, at' 5 b1, nx (exec .coldReset (at' 5 b1)), rfl⟩

theorem wit_GylesAreNeverLowered :
    ∃ (s : State) (t : State), step s = .next t :=
  ⟨{ twin 2 id b1 with pending := [.peerSilent] }, nx (step { twin 2 id b1 with pending := [.peerSilent] }), rfl⟩

theorem wit_SafeModeEndsOnlyAtReset :
    ∃ (s : State) (t : State), s.safe.mode = true ∧ step s = .next t :=
  ⟨{ b1 with safe := { Safe.zero with mode := true }, pending := [.warmResetPin] },
      nx (step { b1 with safe := { Safe.zero with mode := true }, pending := [.warmResetPin] }), by decide +kernel, rfl⟩

theorem wit_EventRingReads :
    ∃ (s : State) (p : Port) (i : Nat) (w : Nat), i < 1024 ∧ w < 8 ∧ 1 ≤ s.level p ∧ s.ctl.stale.contains (0x54000 + i * 0x20 + w * 4) = false :=
  ⟨(b1.emit 0x0401 0 5), .hcp, 1023, 7, by decide +kernel⟩

theorem wit_DeviceCheckUnitsIgnoreWrites :
    (∃ (u : Nat), u < 16) ∧
    (∃ (s : State) (p : Port) (u : Nat) (o : Nat) (v : W32), u < 12 ∧ o < 0x40 ∧ s.writeStatus p (0x70000 + u * 0x40 + o) v = 0) ∧
    (∃ (s : State) (p : Port) (u : Nat) (o : Nat) (v : W32), u < 12 ∧ o < 0x40 ∧ s.writeStatus p (0x70000 + u * 0x40 + o) v ≠ 0) :=
  ⟨⟨15, by decide +kernel⟩,
   ⟨b1, .hcp, 11, 8, 0xFFFFFFFF, by decide +kernel⟩,
   ⟨b1, .hcp, 11, 3, 0, by decide +kernel⟩⟩

end Sys2Proof.Tests
end

/-!
# O9: RTCP about a flow

The facts stand in the order of the model's definitions: bytes of a record, the record and the engine's state of a flow
after a write, what an RTCP packet does, and then the obligation.
-/

namespace Sys2Proof.Machine

/-! ### Bytes of a record of words -/

theorem length_leBytes (n v : Nat) : (leBytes n v).length = n := by
  induction n generalizing v with
  | zero => rfl
  | succ n ih => simp [leBytes, ih]

theorem getElem?_leBytes (n v i : Nat) (h : i < n) : (leBytes n v)[i]? = some (BitVec.ofNat 8 (v >>> (8 * i))) := by
  induction n generalizing v i with
  | zero => omega
  | succ n ih =>
    cases i with
    | zero => simp [leBytes]
    | succ i =>
      have e : (v / 256) >>> (8 * i) = v >>> (8 * (i + 1)) := by
        rw [show 8 * (i + 1) = 8 + 8 * i by omega, Nat.shiftRight_add, Nat.shiftRight_eq_div_pow v 8]
      simp [leBytes, ih (v / 256) i (by omega), e]

/-- Byte `i` of a record is byte `i % 4` of its word `i / 4`. -/
theorem getElem?_wordsBytes (ws : List W32) (i : Nat) :
    (wordsBytes ws)[i]? = ws[i / 4]?.map (fun w => BitVec.ofNat 8 (w.toNat >>> (8 * (i % 4)))) := by
  induction ws generalizing i with
  | nil => simp [wordsBytes]
  | cons w ws ih =>
    have hc : wordsBytes (w :: ws) = leBytes 4 w.toNat ++ wordsBytes ws := rfl
    by_cases hi : i < 4
    · rw [hc, List.getElem?_append_left (by rw [length_leBytes]; exact hi), getElem?_leBytes _ _ _ hi,
        Nat.mod_eq_of_lt hi, Nat.div_eq_of_lt hi]
      rfl
    · have hd : i / 4 = (i - 4) / 4 + 1 := by omega
      have hm : i % 4 = (i - 4) % 4 := by omega
      rw [hc, List.getElem?_append_right (by rw [length_leBytes]; omega), length_leBytes, ih, hd, hm]
      rfl

/-- Writing one byte of a word keeps its other bytes. -/
theorem byte_putByte_other (w : W32) (i j v : Nat) (hi : i < 4) (hne : j ≠ i) :
    BitVec.ofNat 8 ((putByte w i v).toNat >>> (8 * j)) = BitVec.ofNat 8 (w.toNat >>> (8 * j)) := by
  have h := fieldGet_fieldPut_other w (8 * i) 8 v (8 * j) 8 (by omega) (by omega)
  apply BitVec.eq_of_toNat_eq
  simpa [fieldGet, putByte] using h

theorem getElem?_wordsBytes_modify (ws : List W32) (off v i : Nat) (h : i ≠ off) :
    (wordsBytes (ws.modify (off / 4) (putByte · (off % 4) v)))[i]? = (wordsBytes ws)[i]? := by
  rw [getElem?_wordsBytes, getElem?_wordsBytes, List.getElem?_modify]
  by_cases hw : off / 4 = i / 4
  · have hb := fun w => byte_putByte_other w (off % 4) (i % 4) v (by omega) (by omega)
    simp [hw, Function.comp_def, hb]
  · simp [hw]

theorem getElem?_wordsBytes_rput (ws : List W32) (off n v i : Nat) (h : i < off ∨ off + n ≤ i) :
    (wordsBytes (rput ws off n v))[i]? = (wordsBytes ws)[i]? := by
  induction n generalizing ws off v with
  | zero => rfl
  | succ n ih => rw [rput, ih _ _ _ (by omega), getElem?_wordsBytes_modify _ _ _ _ (by omega)]

/-- A field beside the one written reads as before. -/
theorem rget_rput_other (ws : List W32) (off n v off' n' : Nat) (h : off + n ≤ off' ∨ off' + n' ≤ off) :
    rget (rput ws off n v) off' n' = rget ws off' n' := by
  have e : ((wordsBytes (rput ws off n v)).drop off').take n' = ((wordsBytes ws).drop off').take n' := by
    apply List.ext_getElem?
    intro i
    by_cases hi : i < n'
    · rw [List.getElem?_take_of_lt hi, List.getElem?_take_of_lt hi, List.getElem?_drop, List.getElem?_drop,
        getElem?_wordsBytes_rput _ _ _ _ _ (by omega)]
    · rw [List.getElem?_take_eq_none (by omega), List.getElem?_take_eq_none (by omega)]
  rw [rget, rget, bytesAt, bytesAt, e]

/-! ### A flow's record and its engine's state -/

/-- A record that is not idle is listed. -/
theorem State.recValid_of_recState (s : State) (ty i : Nat) (h : s.recState ty i ≠ 0) : s.recValid ty i = true := by
  cases e : tfind (s.recTab ty) i with
  | some w => simp [State.recValid, e]
  | none =>
    have hz : s.recState ty i = rget (List.replicate (recWords ty) 0) 0 1 := by simp [State.recState, State.rf, State.record, e]
    have hw : 0 < recWords ty := by unfold recWords; split <;> decide
    obtain ⟨k, hk⟩ := Nat.exists_eq_succ_of_ne_zero (Nat.pos_iff_ne_zero.mp hw)
    rw [hz, hk, List.replicate_succ] at h
    exact absurd rfl h

@[simp] theorem State.record_setFx (s : State) (f : Nat) (x : FlowX) (ty i : Nat) : (s.setFx f x).record ty i = s.record ty i := rfl

/-- Using a context changes its place in the order of use alone (R214). -/
theorem State.useCtx_eq (s : State) (f : Nat) :
    s.useCtx f = { s with brg := { s.brg with useNum := (s.useCtx f).brg.useNum, fx := (s.useCtx f).brg.fx } } := rfl

@[simp] theorem State.record_useCtx (s : State) (f ty i : Nat) : (s.useCtx f).record ty i = s.record ty i := rfl

@[simp] theorem State.fx_useCtx_same (s : State) (f : Nat) :
    (s.useCtx f).fx f = { s.fx f with used := s.brg.useNum + 1 } := State.fx_setFx_same _ _ _

theorem State.fx_useCtx_other (s : State) (f g : Nat) (h : g ≠ f) : (s.useCtx f).fx g = s.fx g := State.fx_setFx_other _ _ _ _ h

/-- A write of a flow's field changes the records and the engine's states of flows alone. -/
theorem State.fp_eq (s : State) (f off n v : Nat) :
    s.fp f off n v = { s with brg := { s.brg with flows := (s.fp f off n v).brg.flows, fx := (s.fp f off n v).brg.fx } } := by
  unfold State.fp State.rp
  dsimp only
  split <;> rfl

theorem State.record_fp_same (s : State) (f off n v : Nat) (h : s.recValid 0 f = true) :
    (s.fp f off n v).record 0 f = rput (s.record 0 f) off n v := State.record_rp s 0 f off n v h

theorem State.record_fp_other (s : State) (f off n v g : Nat) (h : g ≠ f) : (s.fp f off n v).record 0 g = s.record 0 g :=
  State.record_rp_other s 0 f g off n v h

theorem State.fx_fp_same (s : State) (f off n v : Nat) :
    (s.fp f off n v).fx f = { s.fx f with dirty := true, dirtyRaw := if (s.fx f).dirty then (s.fx f).dirtyRaw else s.raw } :=
  State.fx_setFx_same _ _ _

theorem State.fx_fp_other (s : State) (f off n v g : Nat) (h : g ≠ f) : (s.fp f off n v).fx g = s.fx g := by
  have hr : (s.rp 0 f off n v).fx g = s.fx g := by unfold State.rp; split <;> rfl
  exact (State.fx_setFx_other _ _ _ _ h).trans hr

/-- Every flow's other fields read as before. -/
theorem State.ff_fp_other (s : State) (f off n v g off' n' : Nat) (h : off + n ≤ off' ∨ off' + n' ≤ off) :
    (s.fp f off n v).ff g off' n' = s.ff g off' n' := by
  unfold State.ff State.rf
  by_cases hg : g = f
  · subst hg
    cases hv : s.recValid 0 g with
    | true => rw [State.record_fp_same s g off n v hv, rget_rput_other _ _ _ _ _ _ h]
    | false =>
      have hn : tfind (s.recTab 0) g = none := by simpa [State.recValid] using hv
      have hr : s.rp 0 g off n v = s := by unfold State.rp; rw [hn]
      unfold State.fp
      rw [hr]; rfl
  · rw [State.record_fp_other s f off n v g hg]

/-! ### Registers, and parts of the state that change -/

theorem keeps_put (s : State) (f : FRef) (v : Nat) : Keeps s (s.put f v) [f.addr] := keeps_wr s f.addr _

theorem keeps_cnt (s : State) (f : FRef) (n : Nat) : Keeps s (s.cnt f n) [f.addr] := keeps_put s f _

/-- What a command changes in two stages: `F` and `G` put the parts of a second state that each stage may change into a first. -/
theorem State.frame_trans (F G : State → State → State) {s t u : State} (h : t = F s t) (h' : u = G t u)
    (hFG : G (F s t) u = G s u) : u = G s u :=
  h'.trans ((congrArg (G · u) h).trans hFG)

/-- Changes of the bridge's state add up to one. -/
theorem State.brg_trans {s t u : State} (h : t = { s with brg := t.brg }) (h' : u = { t with brg := u.brg }) :
    u = { s with brg := u.brg } :=
  State.frame_trans (fun s t => { s with brg := t.brg }) (fun s t => { s with brg := t.brg }) h h' rfl

theorem State.fld_of_brg {s t : State} (h : t = { s with brg := t.brg }) (f : FRef) : t.fld f = s.fld f := by rw [h]; rfl

theorem keeps_of_brg {s t : State} (h : t = { s with brg := t.brg }) : Keeps s t [] := fun a _ _ _ => by rw [h]; rfl

/-- What an event raised later says, the state before says too, where nothing that a record or the queue's rules read has changed. -/
theorem Raises.of_keeps {s m t : State} {l : List Nat} {code inst arg : Nat} (hk : Keeps s m l) (htb : m.tb = s.tb)
    (hl : ∀ a, a ∈ [TB_EPOCH, TB_STAT, EVQ_CFG, EVQ_MASK_LO, EVQ_MASK_HI] → a ∉ l)
    (hw : s.evMasked code = true → s.bit EVQ_CFG_HOLD = false → s.evq.wr ≤ m.evq.wr)
    (h : Raises m t code inst arg) : Raises s t code inst arg := by
  have hf : ∀ f : FRef, f.addr ∈ [TB_EPOCH, TB_STAT, EVQ_CFG, EVQ_MASK_LO, EVQ_MASK_HI] → m.fld f = s.fld f := by
    intro f hf
    have hq : f.addr ≠ EVQ_STAT ∧ f.addr ≠ EVQ_CNT_LOST := by
      constructor <;> intro e <;> rw [e] at hf <;> exact absurd hf (by decide)
    unfold State.fld
    rw [hk f.addr (hl _ hf) hq.1 hq.2]
  have hmask : m.evMasked code = s.evMasked code := by
    unfold State.evMasked
    rw [hf EVQ_MASK_LO_BLOCKS (by decide), hf EVQ_MASK_HI_BLOCKS (by decide)]
  have hhold : m.bit EVQ_CFG_HOLD = s.bit EVQ_CFG_HOLD := by unfold State.bit; rw [hf EVQ_CFG_HOLD (by decide)]
  have hrec : m.evRec code inst arg = s.evRec code inst arg := by
    unfold State.evRec State.timeLocked State.now
    rw [hf TB_EPOCH_EPOCH (by decide), hf TB_STAT_STATE (by decide), htb]
  intro hm hh
  obtain ⟨n, hn, hn', hr⟩ := h (hmask.trans hm) (hhold.trans hh)
  exact ⟨n, Nat.le_trans (hw hm hh) hn, hn', hr.trans hrec⟩

/-! ### The parts of the model that RTCP uses -/

/-- RTCP about a flow whose context is on chip uses it (R226, R214). -/
theorem State.rtcpIn_of_rtcpOk {s : State} {f : Nat} (h : s.RtcpOk f) (r : RtcpIn) : s.rtcpIn f r = (s.useCtx f).rtcpDo f r := by
  obtain ⟨h0, h3, hres⟩ := h
  simp [State.rtcpIn, h0, h3, hres]

theorem State.rtcpIn_of_missing {s : State} {f : Nat} (h0 : s.recState 0 f ≠ 0) (hres : (s.fx f).resident = false) (r : RtcpIn) :
    s.rtcpIn f r = s.ctxNeed f (.rtcp r) := by
  simp [State.rtcpIn, h0, hres]

/-- Waiting for a context changes the bridge's state and the count of misses (R23). -/
theorem State.ctxNeed_eq (s : State) (f : Nat) (w : CtxWait) :
    s.ctxNeed f w = { s.cnt BRG_CNT_MISS_COUNT 1 with brg := (s.ctxNeed f w).brg } := by
  unfold State.ctxNeed; dsimp only; split <;> rfl

theorem State.fx_ctxNeed_same (s : State) (f : Nat) (w : CtxWait) :
    (s.ctxNeed f w).fx f = { s.fx f with waiting := (s.fx f).waiting ++ [w] } := by
  unfold State.ctxNeed
  dsimp only
  split <;> exact State.fx_setFx_same _ _ _

theorem State.fetches_ctxNeed (s : State) (f : Nat) (w : CtxWait) : (s.ctxNeed f w).brg.fetches.contains f = true := by
  unfold State.ctxNeed
  dsimp only
  split
  case isTrue h => exact h
  case isFalse => simp

/-- The number of the next FIR of a source, and the present one with a PLI (R241). -/
def FlowX.firNum (x : FlowX) (fir : Bool) : Nat := if fir then (x.firSeq + 1) % 256 else x.firSeq

/-- A PLI or FIR leaves towards a source without SRTP while egress is allowed (R241). -/
theorem State.kfSend_plain {s : State} {f : Nat} (hp : s.flag f 0 = false) (he : s.egressOk false = true) (fir : Bool) :
    s.kfSend f fir = ((s.setFx f { s.fx f with firSeq := (s.fx f).firNum fir }).cnt FWD_CNT_KF_SENT_COUNT 1).send
      (.keyframeReq f fir ((s.fx f).firNum fir)) := by
  simp [State.kfSend, State.srtcpNext, FlowX.firNum, he, hp]

/-- The first request for such a source opens a hold, is counted and leaves (R241). -/
theorem State.kfRequest_first {s : State} {f : Nat} (hh : (s.fx f).holdRaw = none) (hp : s.flag f 0 = false)
    (he : s.egressOk false = true) (fir : Bool) :
    ∃ x y, y.holdRaw = some s.raw ∧
      s.kfRequest f fir = (((s.setFx f x).setFx f y).cnt FWD_CNT_KF_SENT_COUNT 1).send
        (.keyframeReq f fir ((s.fx f).firNum fir)) := by
  have ho : s.kfRequest f fir =
      (s.setFx f { s.fx f with holdRaw := some s.raw, pendReq := false, pendFir := false, rapSince := false }).kfSend f fir := by
    simp [State.kfRequest, hh]
  have hopen : ∀ x, (s.setFx f x).flag f 0 = false ∧ (s.setFx f x).egressOk false = true := fun _ => ⟨hp, he⟩
  rw [ho, State.kfSend_plain (hopen _).1 (hopen _).2, State.fx_setFx_same]
  exact ⟨_, _, rfl, rfl⟩

theorem State.kfRequest_hold {s : State} {f r : Nat} (h : (s.fx f).holdRaw = some r) (fir : Bool) :
    s.kfRequest f fir = s.setFx f { s.fx f with pendReq := true, pendFir := (s.fx f).pendFir || fir } := by
  simp [State.kfRequest, h]

theorem State.kfSource_flow {s : State} {src : Nat} (h : src < 2 ^ 31) (fir : Bool) : s.kfSource src fir = s.kfRequest src fir :=
  if_neg (Nat.not_le.mpr h)

/-- A request for a bridge output marks its next picture (R241). -/
theorem State.kfSource_output (s : State) (o : Nat) (h : o < 2 ^ 31) (fir : Bool) :
    o ∈ (s.kfSource (2 ^ 31 + o) fir).brg.intraNext ∧
      s.kfSource (2 ^ 31 + o) fir = { s with brg := { s.brg with intraNext := (s.kfSource (2 ^ 31 + o) fir).brg.intraNext } } := by
  have hm : (2 ^ 31 + o) % 2 ^ 31 = o := by omega
  unfold State.kfSource
  rw [if_pos (Nat.le_add_right _ _), hm]
  dsimp only
  split
  case isTrue hc => exact ⟨List.contains_iff_mem.mp hc, rfl⟩
  case isFalse => exact ⟨List.mem_append_right _ (List.mem_singleton_self o), rfl⟩

/-- A packet that the punt queue has room for (R223): the state before the event that the queue is no longer empty. -/
def State.punted (s : State) (f len : Nat) (ws : List W32) : State :=
  ({ s with brg := { s.brg with punt := s.brg.punt ++ [Punt.mk f len ws] } }).put FWD_PUNT_STAT_DEPTH (min (s.brg.punt.length + 1) 255)

theorem State.puntPut_room {s : State} {len : Nat} (hr : s.brg.punt.length < 256) (hl : len ≤ 1536) (f : Nat) (ws : List W32) :
    s.puntPut f len ws =
      if s.brg.punt.length = 0 then (s.punted f len ws).emit 0x1807 0 (evArg [(4, 4, 1)]) else s.punted f len ws := by
  simp [State.puntPut, State.punted, Nat.not_le.mpr hr, Nat.not_lt.mpr hl]

/-- A packet that has room enters the queue; registers change in FWD_PUNT_STAT alone. -/
theorem State.puntPut_spec {s : State} {len : Nat} (hr : s.brg.punt.length < 256) (hl : len ≤ 1536) (f : Nat) (ws : List W32) :
    (s.puntPut f len ws).brg = { s.brg with punt := s.brg.punt ++ [Punt.mk f len ws] } ∧
    s.puntPut f len ws = { s with
      brg := (s.puntPut f len ws).brg, regs := (s.puntPut f len ws).regs, evq := (s.puntPut f len ws).evq,
      ctl := (s.puntPut f len ws).ctl } ∧
    Keeps s (s.puntPut f len ws) [FWD_PUNT_STAT] ∧
    (s.evMasked 0x1807 = true → s.bit EVQ_CFG_HOLD = false → s.evq.wr ≤ (s.puntPut f len ws).evq.wr) := by
  have hk : Keeps s (s.punted f len ws) [FWD_PUNT_STAT] :=
    keeps_put { s with brg := { s.brg with punt := s.brg.punt ++ [Punt.mk f len ws] } } FWD_PUNT_STAT_DEPTH _
  rw [State.puntPut_room hr hl]
  split
  case isFalse => exact ⟨rfl, rfl, hk, fun _ _ => Nat.le_refl _⟩
  case isTrue =>
    have he := emit_eq (s.punted f len ws) 0x1807 0 (evArg [(4, 4, 1)])
    refine ⟨by rw [he]; rfl, by rw [he]; rfl, Keeps.trans _ _ _ _ _ hk (keeps_emit _ _ _ _), fun hm hh => ?_⟩
    have hfld : ∀ g : FRef, g.addr ≠ FWD_PUNT_STAT → (s.punted f len ws).fld g = s.fld g := fun g hg =>
      fld_put_other { s with brg := { s.brg with punt := s.brg.punt ++ [Punt.mk f len ws] } } FWD_PUNT_STAT_DEPTH g _
        (by decide) (.inl hg)
    have hm' : (s.punted f len ws).evMasked 0x1807 = true := by
      unfold State.evMasked at hm ⊢
      rw [hfld _ (by decide), hfld _ (by decide)]; exact hm
    have hh' : (s.punted f len ws).bit EVQ_CFG_HOLD = false := by
      unfold State.bit at hh ⊢
      rw [hfld _ (by decide)]; exact hh
    rw [(evq_emit _ _ _ _ hm' hh').1]
    exact Nat.le_succ _

/-- The bytes of bridge copies in a MAC's egress stage depend on the pacers and the MACs of the flows (R247). -/
theorem State.egBridge_congr {s t : State} (hp : t.brg.pacers = s.brg.pacers) (hm : ∀ g, t.ff g 0x0A 1 = s.ff g 0x0A 1) (m : Nat) :
    t.egBridge m = s.egBridge m := by
  simp only [State.egBridge, hp, hm]

/-- The state with a copy at the end of a leg's pacer (R236). -/
def State.inPacer (s : State) (l : Nat) (c : Copy) : State :=
  let p := tget (fun _ => Pacer.zero) s.brg.pacers l
  { s with brg := { s.brg with pacers := tset (fun _ => Pacer.zero) s.brg.pacers l { p with queue := p.queue ++ [c] } } }

@[simp] theorem State.record_inPacer (s : State) (l : Nat) (c : Copy) (ty i : Nat) : (s.inPacer l c).record ty i = s.record ty i := rfl
@[simp] theorem State.fx_inPacer (s : State) (l : Nat) (c : Copy) (g : Nat) : (s.inPacer l c).fx g = s.fx g := rfl

theorem State.pacer_inPacer_same (s : State) (l : Nat) (c : Copy) :
    (tget (fun _ => Pacer.zero) (s.inPacer l c).brg.pacers l).queue = (tget (fun _ => Pacer.zero) s.brg.pacers l).queue ++ [c] :=
  congrArg Pacer.queue (tget_tset_same _ _ _ _)

theorem State.pacer_inPacer_other (s : State) (l : Nat) (c : Copy) (k : Nat) (h : k ≠ l) :
    tget (fun _ => Pacer.zero) (s.inPacer l c).brg.pacers k = tget (fun _ => Pacer.zero) s.brg.pacers k :=
  tget_tset_other _ _ _ _ _ h

/-- A copy that the bridge queue of its MAC has room for joins its leg's pacer (R247). -/
theorem State.copyQueue_room {s : State} {c : Copy} {l : Nat} (hl : s.flowLeg c.flow = some l)
    (hr : 16 ≤ s.ff c.flow 0x0A 1 ∨ s.egBridge (s.ff c.flow 0x0A 1) + c.len ≤ 6291456) : s.copyQueue c = s.inPacer l c := by
  have hn : ¬ (s.ff c.flow 0x0A 1 < 16 ∧ s.egBridge (s.ff c.flow 0x0A 1) + c.len > 6291456) := by omega
  simp only [State.copyQueue, State.inPacer, hl, hn, if_false]

theorem State.rtxOne_notMapped {s : State} {f q : Nat} (h : mapFind (s.ff f 0xC8 8) q (s.fx f).smap = none) (bad : List Nat) :
    s.rtxOne f bad q = s.cnt FWD_CNT_NACK_MISS_COUNT 1 := by
  simp only [State.rtxOne, h]

/-- A requested packet can be sent again (R243): the map and the source's history hold it, the leg's share of retransmissions has room
for it, numbers are left, its record is sound, and the flow, without SRTP, is not stopped. -/
structure State.RtxReady (s : State) (f q ofs src l : Nat) (h : HistRec) : Prop where
  mapped  : mapFind (s.ff f 0xC8 8) q (s.fx f).smap = some (ofs, src)
  kept    : (s.fx src).hist.find? (fun h => h.ext % 65536 == (q + 65536 - ofs) % 65536) = some h
  leg     : s.flowLeg f = some l
  share   : ((s.legSends l).map (fun g => (s.fx g).rtxBits)).sum + 8 * h.len ≤ s.legEst l * 25
  numbers : s.ff f 0x19C 4 < 2 ^ 32 - 1
  clean   : s.ringPoison src h.ofs (histLen h.len) = false
  good    : s.histGood src h = true
  running : s.recState 0 f ≠ 2
  plain   : s.flag f 0 = false

/-- The state of a flow once a retransmission of `n` bytes has been counted (R243). -/
def State.rtxCounted (s : State) (f n : Nat) : State :=
  (s.setFx f { s.fx f with rtxBits := (s.fx f).rtxBits + 8 * n }).fcnt f 0x19C 4 1

theorem State.rtxCounted_eq (s : State) (f n : Nat) : s.rtxCounted f n = { s with brg := (s.rtxCounted f n).brg } := by
  unfold State.rtxCounted State.fcnt
  rw [State.fp_eq]; rfl

theorem State.pacers_rtxCounted (s : State) (f n : Nat) : (s.rtxCounted f n).brg.pacers = s.brg.pacers := by
  unfold State.rtxCounted State.fcnt
  rw [State.fp_eq]; rfl

theorem State.record_rtxCounted_other (s : State) (f n g : Nat) (h : g ≠ f) : (s.rtxCounted f n).record 0 g = s.record 0 g :=
  State.record_fp_other (s.setFx f _) f _ _ _ g h

theorem State.fx_rtxCounted_other (s : State) (f n g : Nat) (h : g ≠ f) : (s.rtxCounted f n).fx g = s.fx g :=
  (State.fx_fp_other (s.setFx f _) f _ _ _ g h).trans (State.fx_setFx_other s f _ g h)

/-- The fields before CNT_RTX read as before. -/
theorem State.ff_rtxCounted (s : State) (f n g off k : Nat) (h : off + k ≤ 0x19C) : (s.rtxCounted f n).ff g off k = s.ff g off k :=
  State.ff_fp_other (s.setFx f _) f _ _ _ g off k (.inr h)

/-- It is counted and joins the leg's pacer where the bridge queue of its MAC has room. -/
theorem State.rtxOne_ready {s : State} {f q ofs src l : Nat} {h : HistRec} (hr : s.RtxReady f q ofs src l h)
    (hroom : 16 ≤ s.ff f 0x0A 1 ∨ s.egBridge (s.ff f 0x0A 1) + h.len ≤ 6291456) :
    s.rtxOne f [] q = (s.rtxCounted f h.len).inPacer l ⟨f, s.ff f 0x19C 4, s.ff f 0x19C 4, 0, h.len, s.raw, true, q⟩ := by
  obtain ⟨hmap, hkept, hleg, hshare, hnum, hclean, hgood, hrun, hplain⟩ := hr
  have hnum' : ¬ 4294967295 ≤ s.ff f 0x19C 4 := by omega
  have hplain' : ∀ x, (s.setFx f x).flag f 0 = false := fun _ => hplain
  have hraw : ∀ x, (s.setFx f x).raw = s.raw := fun _ => rfl
  have hleg' : (s.rtxCounted f h.len).flowLeg f = some l := by
    unfold State.flowLeg
    rw [State.ff_rtxCounted s f _ f 4 4 (by decide)]; exact hleg
  have hmac : ∀ g, (s.rtxCounted f h.len).ff g 0x0A 1 = s.ff g 0x0A 1 := fun g => State.ff_rtxCounted s f _ g 0x0A 1 (by decide)
  rw [← hmac, ← State.egBridge_congr (State.pacers_rtxCounted s f h.len) hmac] at hroom
  have hq := State.copyQueue_room (c := ⟨f, s.ff f 0x19C 4, s.ff f 0x19C 4, 0, h.len, s.raw, true, q⟩) hleg' hroom
  rw [← hq]
  simp [State.rtxOne, State.rtxCounted, hmap, hkept, hleg, Nat.not_lt.mpr hshare, hnum', hclean, hgood, hrun, hplain, hplain', hraw]

/-! ### What RTCP about a flow does -/

/-- A flow after RTCP about it has counted in its record (R226): its context used, and one more in a counter of its record. -/
def State.rtcpCounted (s : State) (f off : Nat) : State := (s.useCtx f).fcnt f off 4 1

theorem State.rtcpCounted_eq (s : State) (f off : Nat) : s.rtcpCounted f off = { s with brg := (s.rtcpCounted f off).brg } :=
  State.brg_trans (State.useCtx_eq s f) (by unfold State.rtcpCounted State.fcnt; rw [State.fp_eq])

theorem State.record_rtcpCounted_same {s : State} {f : Nat} (h : s.recState 0 f ≠ 0) (off : Nat) :
    (s.rtcpCounted f off).record 0 f = rput (s.record 0 f) off 4 (s.ff f off 4 + 1) :=
  State.record_fp_same (s.useCtx f) f off 4 _ (State.recValid_of_recState s 0 f h)

theorem State.record_rtcpCounted_other (s : State) (f off g : Nat) (h : g ≠ f) :
    (s.rtcpCounted f off).record 0 g = s.record 0 g := State.record_fp_other (s.useCtx f) f off 4 _ g h

theorem State.fx_rtcpCounted_other (s : State) (f off g : Nat) (h : g ≠ f) : (s.rtcpCounted f off).fx g = s.fx g :=
  (State.fx_fp_other (s.useCtx f) f off 4 _ g h).trans (State.fx_useCtx_other s f g h)

/-- The fields before the counter read as before. -/
theorem State.ff_rtcpCounted (s : State) (f off off' n : Nat) (h : off' + n ≤ off) :
    (s.rtcpCounted f off).ff f off' n = s.ff f off' n := State.ff_fp_other (s.useCtx f) f off 4 _ f off' n (.inr h)

theorem State.pacers_rtcpCounted (s : State) (f off : Nat) : (s.rtcpCounted f off).brg.pacers = s.brg.pacers := by
  unfold State.rtcpCounted State.fcnt
  rw [State.fp_eq]; rfl

/-- A report block with LSR about a send flow (R226). -/
theorem State.rtcpIn_srRr {s : State} {f lsr : Nat} (hok : s.RtcpOk f) (hs : s.isSend f = true) (hl : lsr ≠ 0) (dlsr : Nat) :
    s.rtcpIn f (.srRr lsr dlsr) =
      (s.useCtx f).fp f 0x110 4 ((s.ntpMid + 2 ^ 33 - lsr % 2 ^ 32 - dlsr % 2 ^ 32) % 2 ^ 32 * 1000000 / 65536) :=
  (State.rtcpIn_of_rtcpOk hok _).trans (if_pos ⟨hs, hl⟩)

/-- A PLI or FIR about a send flow (R226, R241). -/
theorem State.rtcpIn_pliFir {s : State} {f : Nat} (hok : s.RtcpOk f) (hs : s.isSend f = true) (fir : Bool) :
    s.rtcpIn f (.pliFir fir) = (s.rtcpCounted f 0x1A8).kfSource (s.ff f 0x3C 4) fir :=
  (State.rtcpIn_of_rtcpOk hok _).trans (if_pos hs)

/-- The engine's state of an estimator flow once feedback has been added to it (R235). -/
def FlowX.addFeedback (x : FlowX) (raw bits lost seen : Nat) (d : Int) (n : Nat) : FlowX :=
  { x with
    fbBits := x.fbBits + bits, fbLost := x.fbLost + lost, fbSeen := x.fbSeen + seen
    fbDelay := x.fbDelay + d, fbCnt := x.fbCnt + n, fbRaw := raw
    outRaw := none }

/-- Feedback for a send flow of a leg with an estimator flow (R235). -/
theorem State.rtcpIn_feedback {s : State} {f l e : Nat} (hok : s.RtcpOk f) (hs : s.isSend f = true) (hl : s.flowLeg f = some l)
    (he : s.estFlow l = some e) (bits lost seen : Nat) (d : Int) (n : Nat) :
    s.rtcpIn f (.feedback bits lost seen d n) =
      ((s.useCtx f).setFx e (((s.useCtx f).fx e).addFeedback s.raw bits lost seen d n)).fp e 0x128 4 s.nowUs := by
  have hs' : (s.useCtx f).isSend f = true := hs
  have he' : ((s.useCtx f).flowLeg f).bind (s.useCtx f).estFlow = some e := by
    rw [show (s.useCtx f).flowLeg f = some l from hl]; exact he
  rw [State.rtcpIn_of_rtcpOk hok]
  simp only [State.rtcpDo, hs', he', Bool.not_true, Bool.false_eq_true, if_false]
  rfl

theorem State.rtcpIn_bye {s : State} {f : Nat} (hok : s.RtcpOk f) (ssrc len : Nat) (ws : List W32) :
    s.rtcpIn f (.bye ssrc len ws) = ((s.useCtx f).puntPut f len ws).emit 0x1809 f (evArg [(0, 4, ssrc)]) :=
  State.rtcpIn_of_rtcpOk hok _

/-- A generic NACK of one number about a send flow with retransmission (R243). -/
theorem State.rtcpIn_nack {s : State} {f : Nat} (hok : s.RtcpOk f) (hs : s.isSend f = true)
    (hr : (s.rtcpCounted f 0x198).ff f 0x35 1 ≠ 0) (q : Nat) (bad : List Nat) :
    s.rtcpIn f (.nack [q] bad) = (s.rtcpCounted f 0x198).rtxOne f bad q := by
  have hs' : (s.useCtx f).isSend f = true := hs
  unfold State.rtcpCounted at hr ⊢
  rw [State.rtcpIn_of_rtcpOk hok]
  simp only [State.rtcpDo, hs', Bool.not_true, Bool.false_eq_true, if_false, hr, List.foldl]

/-- A report block writes the round-trip time and touches no other flow (R226). -/
theorem rtcpSrRrRx_spec (s : State) (f : Fin 2097152) (lsr dlsr : Nat) (hok : s.RtcpOk f) (hs : s.isSend f = true) (hl : lsr ≠ 0) :
    ∃ t, exec (.rtcpSrRrRx f lsr dlsr) s = .next t ∧
      t.record 0 f = rput (s.record 0 f) 0x110 4
        ((s.ntpMid + 2 ^ 33 - lsr % 2 ^ 32 - dlsr % 2 ^ 32) % 2 ^ 32 * 1000000 / 65536) ∧
      (∀ g, g ≠ f.val → t.record 0 g = s.record 0 g ∧ t.fx g = s.fx g) ∧ t = { s with brg := t.brg } := by
  refine ⟨_, rfl, ?_⟩
  rw [State.rtcpIn_srRr hok hs hl]
  refine ⟨State.record_fp_same (s.useCtx f) _ _ _ _ (State.recValid_of_recState s 0 f hok.1), fun g hg => ?_,
    State.brg_trans (State.useCtx_eq s f) (by rw [State.fp_eq])⟩
  exact ⟨State.record_fp_other (s.useCtx f) _ _ _ _ _ hg,
    (State.fx_fp_other (s.useCtx f) _ _ _ _ _ hg).trans (State.fx_useCtx_other s f g hg)⟩

/-- A PLI or FIR while no hold of its source runs: a request leaves and a hold begins (R241). -/
theorem rtcpPliFirRx_first (s : State) (f : Fin 2097152) (fir : Bool) (src : Nat) (hok : s.RtcpOk f) (hs : s.isSend f = true)
    (hsrc : src = s.ff f 0x3C 4) (hlt : src < 2 ^ 31) (hne : src ≠ f.val) (hhold : (s.fx src).holdRaw = none)
    (hplain : s.flag src 0 = false) (heg : s.egressOk false = true) :
    ∃ t, exec (.rtcpPliFirRx f fir) s = .next t ∧
      t.record 0 f = rput (s.record 0 f) 0x1A8 4 (s.ff f 0x1A8 4 + 1) ∧ (t.fx src).holdRaw = some s.raw ∧
      Sent s t [.keyframeReq src fir (if fir then ((s.fx src).firSeq + 1) % 256 else (s.fx src).firSeq)] ∧
      t.fld FWD_CNT_KF_SENT_COUNT = min (s.fld FWD_CNT_KF_SENT_COUNT + 1) (2 ^ FWD_CNT_KF_SENT_COUNT.width - 1) ∧
      t = { s with brg := t.brg, regs := t.regs, out := t.out } ∧ Keeps s t [FWD_CNT_KF_SENT] := by
  have hb := State.rtcpCounted_eq s f 0x1A8
  have hrec := State.record_rtcpCounted_same hok.1 0x1A8
  have hfx := State.fx_rtcpCounted_other s f 0x1A8 src hne
  have hplain' : (s.rtcpCounted f 0x1A8).flag src 0 = false := by
    unfold State.flag State.ff State.rf
    rw [State.record_rtcpCounted_other s f _ src hne]; exact hplain
  have hrx : s.rtcpIn f (.pliFir fir) = (s.rtcpCounted f 0x1A8).kfRequest src fir := by
    rw [State.rtcpIn_pliFir hok hs, ← hsrc, State.kfSource_flow hlt]
  refine ⟨_, rfl, ?_⟩
  rw [hrx]
  generalize s.rtcpCounted f 0x1A8 = u at hb hrec hfx hplain'
  obtain ⟨x, y, hy, hreq⟩ := State.kfRequest_first (by rw [hfx]; exact hhold) hplain' (by rw [hb]; exact heg) fir
  have hw : (u.setFx src x).setFx src y = { s with brg := ((u.setFx src x).setFx src y).brg } := State.brg_trans hb rfl
  have hwrec : ((u.setFx src x).setFx src y).record 0 f = rput (s.record 0 f) 0x1A8 4 (s.ff f 0x1A8 4 + 1) := hrec
  have hwfx : (((u.setFx src x).setFx src y).fx src).holdRaw = some s.raw := by rw [State.fx_setFx_same, hy, hb]; rfl
  rw [hreq, hfx]
  generalize (u.setFx src x).setFx src y = w at hw hwrec hwfx
  have hcnt := fld_cnt_same w FWD_CNT_KF_SENT_COUNT 1 (by decide)
  have hkeep := Keeps.trans _ _ _ _ _ (keeps_of_brg hw) (keeps_cnt w FWD_CNT_KF_SENT_COUNT 1)
  rw [State.fld_of_brg hw] at hcnt
  refine ⟨hwrec, hwfx, congrArg (· ++ _) (by rw [hw]; rfl), hcnt, ?_, hkeep⟩
  exact State.frame_trans (fun s t => { s with brg := t.brg })
    (fun s t => { s with brg := t.brg, regs := t.regs, out := t.out }) hw rfl rfl

/-- A PLI or FIR during the hold of its source waits (R241). -/
theorem rtcpPliFirRx_hold (s : State) (f : Fin 2097152) (fir : Bool) (src r : Nat) (hok : s.RtcpOk f) (hs : s.isSend f = true)
    (hsrc : src = s.ff f 0x3C 4) (hlt : src < 2 ^ 31) (hne : src ≠ f.val) (hhold : (s.fx src).holdRaw = some r) :
    ∃ t, exec (.rtcpPliFirRx f fir) s = .next t ∧
      t.record 0 f = rput (s.record 0 f) 0x1A8 4 (s.ff f 0x1A8 4 + 1) ∧ (t.fx src).pendReq = true ∧
      (t.fx src).pendFir = ((s.fx src).pendFir || fir) ∧ t = { s with brg := t.brg } := by
  have hfx := State.fx_rtcpCounted_other s f 0x1A8 src hne
  have hb := State.rtcpCounted_eq s f 0x1A8
  have hrec := State.record_rtcpCounted_same hok.1 0x1A8
  have hheld : ((s.rtcpCounted f 0x1A8).fx src).holdRaw = some r := by rw [hfx]; exact hhold
  refine ⟨_, rfl, ?_⟩
  rw [State.rtcpIn_pliFir hok hs, ← hsrc, State.kfSource_flow hlt, State.kfRequest_hold hheld, State.fx_setFx_same, hfx]
  generalize s.rtcpCounted f 0x1A8 = u at hb hrec
  exact ⟨hrec, rfl, rfl, State.brg_trans hb rfl⟩

/-- A PLI or FIR about a flow of a bridge output: the output's next picture is intra (R241). -/
theorem rtcpPliFirRx_output (s : State) (f : Fin 2097152) (fir : Bool) (o : Nat) (hok : s.RtcpOk f) (hs : s.isSend f = true)
    (hsrc : s.ff f 0x3C 4 = 2 ^ 31 + o) (ho : o < 2 ^ 31) :
    ∃ t, exec (.rtcpPliFirRx f fir) s = .next t ∧ o ∈ t.brg.intraNext ∧
      t.record 0 f = rput (s.record 0 f) 0x1A8 4 (s.ff f 0x1A8 4 + 1) ∧ t = { s with brg := t.brg } := by
  have hb := State.rtcpCounted_eq s f 0x1A8
  have hrec := State.record_rtcpCounted_same hok.1 0x1A8
  refine ⟨_, rfl, ?_⟩
  rw [State.rtcpIn_pliFir hok hs, hsrc]
  generalize s.rtcpCounted f 0x1A8 = u at hb hrec
  obtain ⟨hmem, heq⟩ := State.kfSource_output u o ho fir
  exact ⟨hmem, by rw [heq]; exact hrec, State.brg_trans hb (by rw [heq])⟩

/-- RFC 8888 feedback is added to the estimator flow of the leg (R235). -/
theorem rtcpFeedbackRx_spec (s : State) (f : Fin 2097152) (bits lost seen : Nat) (d : Int) (n l e : Nat) (hok : s.RtcpOk f)
    (hs : s.isSend f = true) (hl : s.flowLeg f = some l) (he : s.estFlow l = some e) :
    ∃ t, exec (.rtcpFeedbackRx f bits lost seen d n) s = .next t ∧
      (t.fx e).fbBits = (s.fx e).fbBits + bits ∧ (t.fx e).fbLost = (s.fx e).fbLost + lost ∧
      (t.fx e).fbSeen = (s.fx e).fbSeen + seen ∧ (t.fx e).fbDelay = (s.fx e).fbDelay + d ∧
      (t.fx e).fbCnt = (s.fx e).fbCnt + n ∧ (t.fx e).fbRaw = s.raw ∧ (t.fx e).outRaw = none ∧
      (∀ g, g ≠ e → g ≠ f.val → t.fx g = s.fx g) ∧ (∀ g, g ≠ e → t.record 0 g = s.record 0 g) ∧ t = { s with brg := t.brg } := by
  have hused : ∃ k, (s.useCtx f).fx e = { s.fx e with used := k } := by
    by_cases hef : e = f.val
    · subst hef; exact ⟨_, State.fx_useCtx_same s f⟩
    · exact ⟨_, State.fx_useCtx_other s f e hef⟩
  obtain ⟨k, hk⟩ := hused
  refine ⟨_, rfl, ?_⟩
  rw [State.rtcpIn_feedback hok hs hl he, State.fx_fp_same, State.fx_setFx_same, hk]
  refine ⟨rfl, rfl, rfl, rfl, rfl, rfl, rfl, fun g hg hgf => ?_, fun g hg => ?_, ?_⟩
  · rw [State.fx_fp_other _ _ _ _ _ _ hg, State.fx_setFx_other _ _ _ _ hg, State.fx_useCtx_other _ _ _ hgf]
  · rw [State.record_fp_other _ _ _ _ _ _ hg, State.record_setFx, State.record_useCtx]
  · exact State.brg_trans (t := (s.useCtx f).setFx e _) rfl (by rw [State.fp_eq])

/-- A BYE enters the punt queue, and event 0x1809 says so (R223, R226). -/
theorem rtcpByeRx_punted (s : State) (f : Fin 2097152) (ssrc len : Nat) (ws : List W32) (hok : s.RtcpOk f)
    (hroom : s.brg.punt.length < 256) (hlen : len ≤ 1536) :
    ∃ t, exec (.rtcpByeRx f ssrc len ws) s = .next t ∧ t.brg.punt = s.brg.punt ++ [Punt.mk f len ws] ∧
      Raises s t 0x1809 f (evArg [(0, 4, ssrc)]) ∧ (∀ g, g ≠ f.val → t.fx g = s.fx g) ∧ t.brg.flows = s.brg.flows ∧
      t = { s with brg := t.brg, regs := t.regs, evq := t.evq, ctl := t.ctl } ∧
      Keeps s t [FWD_PUNT_STAT] := by
  obtain ⟨hbrg, heq, hkeep, hwr⟩ := State.puntPut_spec (s := s.useCtx f) hroom hlen f ws
  have hkeep' : Keeps s ((s.useCtx f).puntPut f len ws) [FWD_PUNT_STAT] := hkeep
  refine ⟨_, rfl, ?_⟩
  rw [State.rtcpIn_bye hok]
  generalize (s.useCtx f).puntPut f len ws = m at hbrg heq hkeep' hwr
  have hemit := emit_eq m 0x1809 f (evArg [(0, 4, ssrc)])
  have hbrg' : (m.emit 0x1809 f (evArg [(0, 4, ssrc)])).brg =
      { (s.useCtx f).brg with punt := s.brg.punt ++ [Punt.mk f len ws] } := by rw [hemit]; exact hbrg
  refine ⟨by rw [hbrg'], ?_, fun g hg => ?_, by rw [hbrg']; rfl, ?_, ?_⟩
  · exact Raises.of_keeps hkeep' (by rw [heq]; rfl) (by decide) hwr (raises_emit m _ _ _)
  · unfold State.fx
    rw [hbrg']
    exact State.fx_useCtx_other s f g hg
  · exact State.frame_trans (fun s t => { s with brg := t.brg, regs := t.regs, evq := t.evq, ctl := t.ctl })
      (fun s t => { s with brg := t.brg, regs := t.regs, evq := t.evq, ctl := t.ctl }) heq (by rw [hemit]) rfl
  · exact Keeps.trans _ _ _ _ [] hkeep' (keeps_emit m _ _ _)

/-- A number that the sequence map does not hold is counted as a miss (R243). -/
theorem rtcpNackRx_miss (s : State) (f : Fin 2097152) (q : Nat) (bad : List Nat) (hok : s.RtcpOk f) (hs : s.isSend f = true)
    (hrtx : (s.rtcpCounted f 0x198).ff f 0x35 1 ≠ 0)
    (hmap : mapFind ((s.rtcpCounted f 0x198).ff f 0xC8 8) q ((s.rtcpCounted f 0x198).fx f).smap = none) :
    ∃ t, exec (.rtcpNackRx f [q] bad) s = .next t ∧
      t.fld FWD_CNT_NACK_MISS_COUNT = min (s.fld FWD_CNT_NACK_MISS_COUNT + 1) (2 ^ FWD_CNT_NACK_MISS_COUNT.width - 1) ∧
      t = { s.rtcpCounted f 0x198 with regs := t.regs } ∧ Keeps s t [FWD_CNT_NACK_MISS] := by
  have hb := State.rtcpCounted_eq s f 0x198
  refine ⟨_, rfl, ?_⟩
  rw [State.rtcpIn_nack hok hs hrtx, State.rtxOne_notMapped hmap]
  generalize s.rtcpCounted f 0x198 = u at hb
  have hcnt := fld_cnt_same u FWD_CNT_NACK_MISS_COUNT 1 (by decide)
  rw [State.fld_of_brg hb] at hcnt
  exact ⟨hcnt, rfl, Keeps.trans _ _ _ _ _ (keeps_of_brg hb) (keeps_cnt u FWD_CNT_NACK_MISS_COUNT 1)⟩

/-- A packet that can be sent again waits in its leg's pacer (R243). -/
theorem rtcpNackRx_served (s : State) (f : Fin 2097152) (q ofs src l : Nat) (h : HistRec) (hok : s.RtcpOk f) (hs : s.isSend f = true)
    (hrtx : (s.rtcpCounted f 0x198).ff f 0x35 1 ≠ 0) (hr : (s.rtcpCounted f 0x198).RtxReady f q ofs src l h)
    (hroom : 16 ≤ (s.rtcpCounted f 0x198).ff f 0x0A 1 ∨
      (s.rtcpCounted f 0x198).egBridge ((s.rtcpCounted f 0x198).ff f 0x0A 1) + h.len ≤ 6291456) :
    ∃ t, exec (.rtcpNackRx f [q] []) s = .next t ∧
      (tget (fun _ => Pacer.zero) t.brg.pacers l).queue =
        (tget (fun _ => Pacer.zero) s.brg.pacers l).queue ++
          [⟨f, (s.rtcpCounted f 0x198).ff f 0x19C 4, (s.rtcpCounted f 0x198).ff f 0x19C 4, 0, h.len, s.raw, true, q⟩] ∧
      (∀ k, k ≠ l → tget (fun _ => Pacer.zero) t.brg.pacers k = tget (fun _ => Pacer.zero) s.brg.pacers k) ∧
      (∀ g, g ≠ f.val → t.record 0 g = s.record 0 g ∧ t.fx g = s.fx g) ∧ t = { s with brg := t.brg } := by
  have hb := State.rtcpCounted_eq s f 0x198
  have hrec := State.record_rtcpCounted_other s f 0x198
  have hfx := State.fx_rtcpCounted_other s f 0x198
  have hpac := State.pacers_rtcpCounted s f 0x198
  refine ⟨_, rfl, ?_⟩
  rw [State.rtcpIn_nack hok hs hrtx, State.rtxOne_ready hr hroom]
  generalize s.rtcpCounted f 0x198 = u at hb hrec hfx hpac
  have hraw : u.raw = s.raw := by rw [hb]; rfl
  have hv := State.brg_trans hb (State.rtxCounted_eq u f h.len)
  have hpac' := (State.pacers_rtxCounted u f h.len).trans hpac
  have hrec' := fun g hg => (State.record_rtxCounted_other u f h.len g hg).trans (hrec g hg)
  have hfx' := fun g hg => (State.fx_rtxCounted_other u f h.len g hg).trans (hfx g hg)
  generalize u.rtxCounted f h.len = v at hv hpac' hrec' hfx'
  rw [hraw, State.pacer_inPacer_same, hpac']
  refine ⟨rfl, fun k hk => ?_, fun g hg => ?_, State.brg_trans hv rfl⟩
  · rw [State.pacer_inPacer_other _ _ _ _ hk, hpac']
  · rw [State.record_inPacer, State.fx_inPacer]
    exact ⟨hrec' g hg, hfx' g hg⟩

/-- RTCP about a flow whose context is not on chip waits for its fetch (R23). -/
theorem rtcpByeRx_missing (s : State) (f : Fin 2097152) (ssrc len : Nat) (ws : List W32) (h0 : s.recState 0 f ≠ 0)
    (hres : (s.fx f).resident = false) :
    ∃ t, exec (.rtcpByeRx f ssrc len ws) s = .next t ∧
      t.fx f = { s.fx f with waiting := (s.fx f).waiting ++ [.rtcp (.bye ssrc len ws)] } ∧
      t.brg.fetches.contains f.val = true ∧ t = { s with brg := t.brg, regs := t.regs } ∧ Keeps s t [BRG_CNT_MISS] := by
  refine ⟨_, rfl, ?_⟩
  rw [State.rtcpIn_of_missing h0 hres]
  have heq := State.ctxNeed_eq s f (.rtcp (.bye ssrc len ws))
  refine ⟨State.fx_ctxNeed_same s f _, State.fetches_ctxNeed s f _, by rw [heq]; rfl, ?_⟩
  rw [heq]
  exact keeps_cnt s BRG_CNT_MISS_COUNT 1

/-- Settles O9: each kind of RTCP by what it does to a flow whose context is on chip, and the wait where it is not. -/
theorem rtcpReceived : Obligations.RtcpReceived := by
  unfold Obligations.RtcpReceived
  refine ⟨rtcpSrRrRx_spec, ?_, ?_, ?_, rtcpFeedbackRx_spec, rtcpByeRx_punted, ?_, ?_, rtcpByeRx_missing⟩
  · intro s f fir src hok hs hsrc hlt hne hhold _ hplain heg
    exact rtcpPliFirRx_first s f fir src hok hs hsrc hlt hne hhold hplain heg
  · intro s f fir src r hok hs hsrc hlt hne hhold _
    exact rtcpPliFirRx_hold s f fir src r hok hs hsrc hlt hne hhold
  · intro s f fir o hok hs hsrc ho _
    exact rtcpPliFirRx_output s f fir o hok hs hsrc ho
  · intro s u f q bad hok hs hu hrtx hmap
    subst hu
    exact rtcpNackRx_miss s f q bad hok hs hrtx hmap
  · intro s u f q ofs src l h hok hs hu hrtx hmap hkept hleg hshare hnum _ hclean hgood hrun hplain hroom
    subst hu
    have hrun' : (s.rtcpCounted f 0x198).recState 0 f ≠ 2 := fun e =>
      hrun ((State.ff_rtcpCounted s f 0x198 0 1 (by decide)).symm.trans e)
    have hplain' : (s.rtcpCounted f 0x198).flag f 0 = false :=
      (congrArg (nbit · 0) (State.ff_rtcpCounted s f 0x198 3 1 (by decide))).trans hplain
    exact rtcpNackRx_served s f q ofs src l h hok hs hrtx
      ⟨hmap, hkept, hleg, hshare, hnum, hclean, hgood, hrun', hplain'⟩ hroom

end Sys2Proof.Machine

/-!
# O6: the entries of a searched row, and settings that change behind it

A row search writes a row of entries as wide as rendition 0 is in the registers of the present (`State.rendW s`), while the row
belongs to a slot, whose picture keeps the registers of before a later landing (R56). The two part where the settings of a disabled
channel change while it still releases its last slots (R45, R58). The facts stand in the order: how many entries a search makes, what
the search leaves in the slot, the state that refutes the obligation.
-/

namespace Sys2Proof.Machine

/-! ### How many entries a search makes -/

theorem length_millRowGo (cur : MillCopy) (refs : List MillCopy) (by_ : Nat) (up : Nat → Option MillEntry) (bw bx : Nat)
    (left : Option MillEntry) : (millRowGo cur refs by_ up bw bx left).length = bw := by
  induction bw generalizing bx left with
  | zero => rfl
  | succ bw ih => simp [millRowGo, ih]

theorem length_millCtuRow (cur : MillCopy) (refs : List MillCopy) (bw rows b0 : Nat) (above : List MillEntry) :
    (millCtuRow cur refs bw rows b0 above).length = bw * rows := by
  induction rows generalizing b0 above with
  | zero => rfl
  | succ rows ih => rw [millCtuRow, List.length_append, length_millRowGo, ih, Nat.mul_succ, Nat.add_comm]

/-! ### What a search leaves in its slot -/

/-- While a row is neither searched nor late the picture is not decided (R98 step 4). -/
theorem State.millTry_of_rowMissing {s : State} {n k r : Nat} (hr : r < (s.asOf n k).nRows n 0)
    (hrow : tfind ((s.chan n).slot k).mill.rows r = none) (hlate : nbit ((s.chan n).slot k).late r = false) : s.millTry n k = s := by
  have hall : (List.range ((s.asOf n k).nRows n 0)).all
      (fun r => (tfind ((s.chan n).slot k).mill.rows r).isSome || nbit ((s.chan n).slot k).late r) = false :=
    List.all_eq_false.mpr ⟨r, List.mem_range.mpr hr, by simp [hrow, hlate]⟩
  simp [State.millTry, hall]

/-- BUSY of the mills changes no channel. -/
theorem State.chan_millBusy (s : State) (n : Nat) : s.millBusy.chan n = s.chan n := rfl

/-- The registers of a slot depend on a channel's landings alone. -/
theorem State.asOf_setChan {s : State} {n : Nat} {c : Chan} (h : c.past = (s.chan n).past) (k : Nat) :
    (s.setChan n c).asOf n k = (s.asOf n k).setChan n c := by
  unfold State.asOf
  rw [State.chan_setChan_same, h]
  dsimp only
  split <;> rfl

/-- Listing a row while another is missing does not end the picture. -/
theorem State.millTry_of_rowListed {s : State} {n k r r' : Nat} {m : MillRec} {es : List MillEntry} (hr' : r' < (s.asOf n k).nRows n 0)
    (hne : r' ≠ r) (hrow : tfind ((s.chan n).slot k).mill.rows r' = none) (hlate : nbit ((s.chan n).slot k).late r' = false)
    (hm : m.rows = tput ((s.chan n).slot k).mill.rows r es) :
    (s.setChan n ((s.chan n).setSlot k { (s.chan n).slot k with mill := m })).millTry n k =
      s.setChan n ((s.chan n).setSlot k { (s.chan n).slot k with mill := m }) := by
  have hpast : ((s.chan n).setSlot k { (s.chan n).slot k with mill := m }).past = (s.chan n).past := rfl
  apply State.millTry_of_rowMissing (r := r')
  · rw [State.asOf_setChan hpast]
    exact hr'
  · rw [State.chan_setChan_same, Chan.slot_setSlot_same, hm, tfind_tput_other _ _ _ _ hne]
    exact hrow
  · rw [State.chan_setChan_same, Chan.slot_setSlot_same]
    exact hlate

/-- A search with another row still missing lists entries for its row: as many across as rendition 0 has blocks in the present registers,
and as many block rows as the row has in the registers of the slot. -/
theorem millRowSearch_length {s t : State} {n : Fin 16} {k r r' : Nat} {es : List MillEntry} (hready : s.searchReady n k r = true)
    (hr' : r' < (s.asOf n k).nRows n 0) (hne : r' ≠ r) (hrow : tfind ((s.chan n).slot k).mill.rows r' = none)
    (hlate : nbit ((s.chan n).slot k).late r' = false) (ht : exec (.millRowSearch n k r) s = .next t)
    (hes : tfind ((t.chan n).slot k).mill.rows r = some es) :
    es.length = ceilDiv (s.rendW n 0) 64 * (s.asOf n k).blkRows n r := by
  change execMillRowSearch n k r s = .next t at ht
  unfold execMillRowSearch at ht
  rw [if_pos hready] at ht
  dsimp only at ht
  rw [State.millTry_of_rowListed hr' hne hrow hlate rfl] at ht
  injection ht with ht
  rw [← ht, State.chan_millBusy, State.chan_setChan_same, Chan.slot_setSlot_same, tfind_tput_same] at hes
  injection hes with hes
  rw [← hes, length_millCtuRow]

/-! ### A disabled channel whose settings change while its last slot is open -/

/-- ENC_CH_SIZE and ENC_CH_REND_SIZE of rendition 0 of channel 0, for a size. -/
def sizeWrites (w h : Nat) : Tab W32 :=
  let v := BitVec.ofNat 32 (h * 65536 + w)
  [(ENC_CH_SIZE 0, v), (ENC_CH_REND_SIZE 0 0, v)]

/-- Channel 0 has been disabled at 1280 × 720 in HEVC and still works on slot 0, its last: row 0 is complete in DRAM and downscaled
(R58, R98). -/
def lastSlotOpen : State :=
  ((State.reset.landWrites (sizeWrites 1280 720)).put (ENC_CH_REND_CODEC_CODEC 0 0) 1).setChan 0
    ({ Chan.zero with run := true, stop := some 1 }.setSlot 0
      { SlotRec.zero with done := 1, mill := { MillRec.zero with copy := (List.range 16).map (fun g => (g, List.replicate 320 0)) } })

/-- Then a pitch that sets the channel to 1920 × 1080 for its next run lands at slot 1 (R45, R56). -/
def resizedBehind : State :=
  ((lastSlotOpen.landChan 0 { Pitch.blank with writes := sizeWrites 1920 1080 } false).getD (lastSlotOpen, none)).1

theorem searchReady_resizedBehind : resizedBehind.searchReady (0 : Fin 16) 0 0 = true := by decide +kernel

theorem rowMissing_resizedBehind : 11 < (resizedBehind.asOf (0 : Fin 16) 0).nRows (0 : Fin 16) 0 ∧
    tfind ((resizedBehind.chan (0 : Fin 16)).slot 0).mill.rows 11 = none ∧
    nbit ((resizedBehind.chan (0 : Fin 16)).slot 0).late 11 = false := by decide +kernel

/-- The slot's picture has 20 blocks in its row 0. -/
theorem rowBlocks_resizedBehind : (resizedBehind.asOf (0 : Fin 16) 0).rowBlocks (0 : Fin 16) 0 = 20 := by decide +kernel

/-- The width in force since the landing gives 30. -/
theorem searchBlocks_resizedBehind :
    ceilDiv (resizedBehind.rendW (0 : Fin 16) 0) 64 * (resizedBehind.asOf (0 : Fin 16) 0).blkRows (0 : Fin 16) 0 = 30 := by decide +kernel

/-- The obligation asks that both widths give a row the same number of blocks. -/
theorem rowBlocks_of_millAndWindow (h : Obligations.MillAndWindow) {s : State} {n : Fin 16} {k r r' : Nat}
    (hready : s.searchReady n k r = true) (hr' : r' < (s.asOf n k).nRows n 0) (hne : r' ≠ r)
    (hrow : tfind ((s.chan n).slot k).mill.rows r' = none) (hlate : nbit ((s.chan n).slot k).late r' = false) :
    (s.asOf n k).rowBlocks n r = ceilDiv (s.rendW n 0) 64 * (s.asOf n k).blkRows n r := by
  obtain ⟨-, hsearch, -⟩ := h
  obtain ⟨t, es, ht, hes, hlen, -⟩ := hsearch s n k r r' hready hr' hne hrow hlate
  exact hlen.symm.trans (millRowSearch_length hready hr' hne hrow hlate ht hes)

/-- Refutes O6: the search of row 0 of the last slot of a disabled channel, after a landing has widened rendition 0 from 1280 to 1920,
writes 30 entries for the 20 blocks of the row (R56, R101). -/
theorem not_millAndWindow : ¬ Obligations.MillAndWindow := by
  intro h
  obtain ⟨hlt, hrow, hlate⟩ := rowMissing_resizedBehind
  have hsame := rowBlocks_of_millAndWindow h searchReady_resizedBehind hlt (by decide) hrow hlate
  rw [rowBlocks_resizedBehind, searchBlocks_resizedBehind] at hsame
  exact absurd hsame (by decide)

end Sys2Proof.Machine

/-!
# O7: the record of a fence, and the queue that its own events lap

A check decoder that is fenced raises 0x1443, and then 0x1444 for each bridge output that goes unchecked because of it (R152, R153). The
queue keeps the last 1,024 records (R588, R589), and the device holds up to 4,096 outputs (R198): where 1,024 of them go unchecked at once,
0x1443 is overwritten in the same command. The facts stand in the order: what a run of events of one code leaves in the queue, the
placement after a fence, the state that refutes the obligation.
-/

namespace Sys2Proof.Machine

/-! ### The queue after a run of events of one code -/

/-- Every event of this code enters the queue, the oldest record giving way where it must (R589, R590). -/
def State.Records (s : State) (code : Nat) : Prop := s.evMasked code = true ∧ s.bit EVQ_CFG_HOLD = false

/-- The last `k` records of the queue that it still holds have this code. -/
def Evq.LastAre (q : Evq) (code k : Nat) : Prop := ∀ n, n < q.wr → q.wr ≤ n + k → q.wr ≤ n + 1024 → (q.record n).code = code

theorem Evq.lastAre_zero (q : Evq) (code : Nat) : q.LastAre code 0 := fun _ _ _ _ => by omega

/-- Where the last 1,024 records have one code, no slot of the queue holds another. -/
theorem Evq.code_record_of_lastAre {q : Evq} {code k n : Nat} (h : q.LastAre code k) (hk : 1024 ≤ k) (hn : n < q.wr) :
    (q.record n).code = code := by
  have hslot : q.record n = q.record (n + 1024 * ((q.wr - 1 - n) / 1024)) := by
    unfold Evq.record
    rw [Nat.add_mul_mod_self_left]
  rw [hslot]
  apply h <;> omega

/-- The mask lets the events of a block in together (R590). -/
theorem State.Records.of_block {s : State} {code code' : Nat} (h : s.Records code) (hb : code' / 256 = code / 256) : s.Records code' := by
  obtain ⟨hm, hh⟩ := h
  refine ⟨?_, hh⟩
  unfold State.evMasked at hm ⊢
  rw [hb]
  exact hm

theorem State.Records.of_keeps {s t : State} {l : List Nat} {code : Nat} (h : s.Records code) (hk : Keeps s t l)
    (hl : ∀ a, a ∈ [EVQ_CFG, EVQ_MASK_LO, EVQ_MASK_HI] → a ∉ l) : t.Records code := by
  have hf : ∀ f : FRef, f.addr ∈ [EVQ_CFG, EVQ_MASK_LO, EVQ_MASK_HI] → t.fld f = s.fld f := by
    intro f hf
    have hq : f.addr ≠ EVQ_STAT ∧ f.addr ≠ EVQ_CNT_LOST := by
      constructor <;> intro e <;> rw [e] at hf <;> exact absurd hf (by decide)
    unfold State.fld
    rw [hk f.addr (hl _ hf) hq.1 hq.2]
  obtain ⟨hm, hh⟩ := h
  constructor
  · unfold State.evMasked
    rw [hf EVQ_MASK_LO_BLOCKS (by decide), hf EVQ_MASK_HI_BLOCKS (by decide)]
    exact hm
  · unfold State.bit
    rw [hf EVQ_CFG_HOLD (by decide)]
    exact hh

theorem State.Records.of_regs {s t : State} {code : Nat} (h : s.Records code) (hr : t.regs = s.regs) : t.Records code :=
  h.of_keeps (l := []) (fun a _ _ _ => by rw [State.rd, hr]; rfl) (fun _ _ => List.not_mem_nil)

theorem State.Records.emit {s : State} {code : Nat} (h : s.Records code) (c inst arg : Nat) : (s.emit c inst arg).Records code :=
  h.of_keeps (keeps_emit s c inst arg) (fun _ _ => List.not_mem_nil)

theorem State.Records.logFault {s : State} {code : Nat} (h : s.Records code) (cls action c inst arg : Nat) :
    (s.logFault cls action c inst arg).Records code :=
  h.of_regs (by rw [logFault_eq])

theorem State.Records.put {s : State} {code : Nat} (h : s.Records code) (f : FRef) (v : Nat)
    (hf : f.addr ∉ [EVQ_CFG, EVQ_MASK_LO, EVQ_MASK_HI]) : (s.put f v).Records code :=
  h.of_keeps (keeps_put s f v) (fun _ ha hl => hf (List.mem_singleton.mp hl ▸ ha))

/-- One more event of the code is one more of the last records. -/
theorem Evq.LastAre.emit {s : State} {code k : Nat} (h : s.evq.LastAre code k) (hr : s.Records code) (inst arg : Nat) :
    (s.emit code inst arg).evq.LastAre code (k + 1) := by
  obtain ⟨hm, hh⟩ := hr
  obtain ⟨hwr, hring⟩ := evq_emit s code inst arg hm hh
  intro n hn hk h1024
  rw [hwr] at hn hk h1024
  by_cases hlast : n = s.evq.wr
  · subst hlast
    unfold Evq.record
    rw [hring, tget_tset_same]
    rfl
  · rw [record_emit s code inst arg n hm hh (by omega) (by omega)]
    exact h n (by omega) (by omega) (by omega)

/-- A list of events of the code adds as many. -/
theorem Evq.LastAre.foldl_emit {α : Type} {code : Nat} (inst : Nat) (arg : α → Nat) (l : List α) {s : State} {k : Nat}
    (h : s.evq.LastAre code k) (hr : s.Records code) :
    (l.foldl (fun s x => s.emit code inst (arg x)) s).evq.LastAre code (k + l.length) ∧
      (l.foldl (fun s x => s.emit code inst (arg x)) s).Records code := by
  induction l generalizing s k with
  | nil => exact ⟨h, hr⟩
  | cons x l ih =>
    rw [List.length_cons, Nat.add_comm l.length, ← Nat.add_assoc]
    exact ih (h.emit hr inst (arg x)) (hr.emit code inst (arg x))

/-- A queue whose last 1,024 records have another code holds no record of an event, whenever it was raised. -/
theorem not_raises_of_lastAre {s t : State} {code code' k inst arg : Nat} (ht : t.evq.LastAre code' k) (hk : 1024 ≤ k) (hne : code ≠ code')
    (hr : s.Records code) : ¬ Raises s t code inst arg := by
  intro h
  obtain ⟨n, -, hn, hrec⟩ := h hr.1 hr.2
  have hcode := Evq.code_record_of_lastAre ht hk hn
  rw [hrec] at hcode
  exact hne hcode

/-! ### The placement after a fence (R142, R151, R152) -/

/-- The check grist that a placement leaves free, in 1/16 grist. -/
def State.chkPoolFree (s : State) : Nat :=
  ((List.range 8).filter (fun d => !s.chkFenced d)).foldl (fun x d => x + (40960 - (s.chkBest s.chkOrder.length).load.getD d 0)) 0

/-- The renditions that a placement leaves out. -/
def State.chkLeftOut (s : State) : List Nat := s.chkOrder.filter (fun x => (tfind (s.chkBest s.chkOrder.length).place x).isNone)

/-- The bridge outputs that were checked before a placement and are not after it. -/
def State.brgDropped (s : State) : List Nat :=
  (s.brgUncheck (!s.chkLeftOut.isEmpty) s.chkPoolFree).filter (fun o => !s.enc.brgUnchk.contains o)

/-- The loads of a placement. -/
def State.chkLoaded (s : State) : State :=
  (List.range 8).foldl (fun t d => t.put (DEC_CHK_LOAD_LOAD d) ((s.chkBest s.chkOrder.length).load.getD d 0)) s

/-- A placement before its events: the loads, the pool, and what is checked from now on. -/
def State.chkPlaced (s : State) : State :=
  let bun := s.brgUncheck (!s.chkLeftOut.isEmpty) s.chkPoolFree
  let t := s.chkLoaded.put DEC_CHK_POOL_FREE_GRIST (s.chkPoolFree / 16)
  let t := t.put DEC_CHK_POOL_FENCED ((List.range 8).countP t.chkFenced)
  let t := t.put DEC_CHK_POOL_UNCHECKED (s.chkLeftOut.length + bun.length)
  { t with enc := { t.enc with chkPlace := (s.chkBest s.chkOrder.length).place, unchecked := s.chkLeftOut, brgUnchk := bun } }

theorem State.Records.chkLoaded {s : State} {code : Nat} (h : s.Records code) : s.chkLoaded.Records code := by
  apply List.foldlRecOn (motive := fun t : State => t.Records code) _ _ h
  intro t ht d hd
  have hd8 := List.mem_range.mp hd
  apply ht.put
  simp only [DEC_CHK_LOAD_LOAD, DEC_CHK_LOAD, EVQ_CFG, EVQ_MASK_LO, EVQ_MASK_HI, List.mem_cons, List.not_mem_nil, or_false]
  omega

theorem State.Records.chkPlaced {s : State} {code : Nat} (h : s.Records code) : s.chkPlaced.Records code := by
  have hfree := h.chkLoaded.put DEC_CHK_POOL_FREE_GRIST (s.chkPoolFree / 16) (by decide)
  have hpool := fun n m => (hfree.put DEC_CHK_POOL_FENCED n (by decide)).put DEC_CHK_POOL_UNCHECKED m (by decide)
  exact (hpool _ _).of_regs rfl

/-- A placement raises 0x1444 for each output that it drops, and no event of another code. -/
theorem State.lastAre_placeChk {s : State} (h : s.Records 0x1444) (d : Nat) :
    ∃ k, s.brgDropped.length ≤ k ∧ (s.placeChk d).evq.LastAre 0x1444 k := by
  obtain ⟨h1, r1⟩ := Evq.LastAre.foldl_emit d (fun _ => evArg [(0, 1, 0xFF), (2, 1, 0)]) s.brgDropped
    (Evq.lastAre_zero s.chkPlaced.evq 0x1444) h.chkPlaced
  obtain ⟨h2, r2⟩ := Evq.LastAre.foldl_emit d (fun x => evArg [(0, 1, x / 16), (1, 1, x % 16), (2, 1, 0)])
    (s.chkLeftOut.filter (fun x => !s.enc.unchecked.contains x)) h1 r1
  obtain ⟨h3, r3⟩ := Evq.LastAre.foldl_emit d (fun x => evArg [(0, 1, x / 16), (1, 1, x % 16), (2, 1, 1)])
    (s.enc.unchecked.filter (fun x => !s.chkLeftOut.contains x && State.rendOn _ (x / 16) (x % 16))) h2 r2
  obtain ⟨h4, -⟩ := Evq.LastAre.foldl_emit d (fun _ => evArg [(0, 1, 0xFF), (2, 1, 1)])
    (s.enc.brgUnchk.filter (fun x => !(s.brgUncheck (!s.chkLeftOut.isEmpty) s.chkPoolFree).contains x &&
      (State.liveRecs _ 4).contains x)) h3 r3
  exact ⟨_, by omega, h4⟩

/-- A check decoder that fails its test stops, is logged and raises 0x1443, before its shares are placed again (R151). -/
def State.chkTestFailed (s : State) (d : Nat) : State :=
  ((((s.put (DEC_CHK_STAT_FENCED d) 1).put (DEC_CHK_STAT_CAUSE d) 1).put (DEC_CHK_STAT_BUSY d) 0).logFault 6 1 0x1443 d 1).emit
    0x1443 d (evArg [(0, 1, 1)])

theorem State.fenceChk_test {s : State} {d : Nat} (h : s.chkFenced d = false) : s.fenceChk d 1 = (s.chkTestFailed d).placeChk d := by
  simp [State.fenceChk, h, State.chkTestFailed]

theorem State.Records.chkTestFailed {s : State} {code : Nat} (h : s.Records code) (d : Nat) : (s.chkTestFailed d).Records code := by
  have hstat : DEC_CHK_STAT d ∉ [EVQ_CFG, EVQ_MASK_LO, EVQ_MASK_HI] := by
    simp only [DEC_CHK_STAT, EVQ_CFG, EVQ_MASK_LO, EVQ_MASK_HI, List.mem_cons, List.not_mem_nil, or_false]
    omega
  have hput := ((h.put (DEC_CHK_STAT_FENCED d) 1 hstat).put (DEC_CHK_STAT_CAUSE d) 1 hstat).put (DEC_CHK_STAT_BUSY d) 0 hstat
  exact (hput.logFault 6 1 0x1443 d 1).emit 0x1443 d _

/-- Where a failed test makes 1,024 outputs go unchecked, the record of the fence is gone. -/
theorem not_raises_fenceChk_of_brgDropped {s : State} {d : Nat} (hf : s.chkFenced d = false) (hr : s.Records 0x1443)
    (hdrop : 1024 ≤ (s.chkTestFailed d).brgDropped.length) (inst arg : Nat) : ¬ Raises s (s.fenceChk d 1) 0x1443 inst arg := by
  obtain ⟨k, hk, hlast⟩ := State.lastAre_placeChk ((hr.of_block rfl).chkTestFailed d) d
  rw [State.fenceChk_test hf]
  exact not_raises_of_lastAre hlast (Nat.le_trans hdrop hk) (by decide) hr

/-- With every check decoder fenced no check grist is free. -/
theorem State.chkPoolFree_of_allFenced {s : State} (h : ∀ d, d < 8 → s.chkFenced d = true) : s.chkPoolFree = 0 := by
  have hnone : (List.range 8).filter (fun d => !s.chkFenced d) = [] :=
    List.filter_eq_nil_iff.mpr (fun d hd => by simp [h d (List.mem_range.mp hd)])
  rw [State.chkPoolFree, hnone]
  rfl

/-- With no check grist free every output that costs some goes unchecked. -/
theorem State.brgUncheck_free_zero {s : State} (h : ∀ o, o ∈ s.liveRecs 4 → 0 < s.rf 4 o 0x28 4) (all : Bool) :
    s.brgUncheck all 0 = s.liveRecs 4 := by
  cases all with
  | true => rfl
  | false =>
    apply List.filter_eq_self.mpr
    intro o ho
    have hmem : s.rf 4 o 0x28 4 ∈ ((s.liveRecs 4).filter (fun x => decide (x ≤ o))).map (fun x => s.rf 4 x 0x28 4) :=
      List.mem_map_of_mem (List.mem_filter.mpr ⟨ho, decide_eq_true (Nat.le_refl o)⟩)
    exact decide_eq_true (List.sum_pos_iff_exists_pos_nat.mpr ⟨_, hmem, h o ho⟩)

/-! ### 1,024 bridge outputs on the last check decoder -/

/-- An active bridge output in HEVC, 384 × 288 at 30 pictures per second: its check cost is 40 units of 1/16 grist (R141). -/
def cifOutput : List W32 :=
  [(0x00, 1, 1), (0x01, 1, 1), (0x08, 2, 384), (0x0A, 2, 288), (0x0C, 1, 30), (0x28, 4, 40)].foldl (fun w e => rput w e.1 e.2.1 e.2.2)
    (List.replicate 16 0)

/-- The records of outputs 0 to 1,023. -/
def cifOutputs : Tab (List W32) := (List.range 1024).map (fun o => (o, cifOutput))

/-- A device in RUN whose check decoders 1 to 7 are fenced, with 1,024 outputs, which take all of decoder 0's 2,560 check grist. -/
def lastDecoderFull : State :=
  { State.reset with
    regs := (((List.range 8).drop 1).foldl (fun s d => s.put (DEC_CHK_STAT_FENCED d) 1) ((((State.reset.put CFG_BOOT_STAT_STEP 15).put
      PWR_MODE_CUR 2).put DEC_CHK_POOL_FENCED 7).put DEC_CHK_POOL_FREE_GRIST 2560)).regs
    boot := { Boot.zero with porHeld := false, cold := false }
    brg := { State.reset.brg with outs := cifOutputs } }

theorem records_lastDecoderFull : lastDecoderFull.Records 0x1443 := by
  constructor <;> decide +kernel

theorem chkFenced_lastDecoderFull : lastDecoderFull.chkFenced (0 : Fin 8) = false := by decide +kernel

theorem allFenced_lastDecoderFull : ∀ d, d < 8 → (lastDecoderFull.chkTestFailed (0 : Fin 8)).chkFenced d = true := by decide +kernel

theorem tfind_map_const {α : Type} (l : List Nat) (w : α) {o : Nat} (h : o ∈ l) : tfind (l.map (fun o => (o, w))) o = some w := by
  induction l with
  | nil => exact absurd h List.not_mem_nil
  | cons x l ih =>
    by_cases hx : x = o
    · simp [tfind, hx]
    · have hl : o ∈ l := (List.mem_cons.mp h).resolve_left (fun e => hx e.symm)
      simpa [tfind, hx] using ih hl

/-- A failed test changes nothing of the bridge, and what is unchecked. -/
theorem State.chkTestFailed_frame (s : State) (d : Nat) : (s.chkTestFailed d).brg = s.brg ∧ (s.chkTestFailed d).enc = s.enc := by
  unfold State.chkTestFailed
  rw [emit_eq, logFault_eq]
  exact ⟨rfl, rfl⟩

theorem State.recTab_chkTestFailed (s : State) (d : Nat) : (s.chkTestFailed d).recTab 4 = s.brg.outs :=
  congrArg Brg.outs (State.chkTestFailed_frame s d).1

theorem outs_lastDecoderFull : lastDecoderFull.brg.outs = cifOutputs := by
  rw [lastDecoderFull]

theorem liveRecs_lastDecoderFull : (lastDecoderFull.chkTestFailed (0 : Fin 8)).liveRecs 4 = List.range 1024 := by
  have hlive : cifOutputs.filter (fun x => rget x.2 0 1 != 0) = cifOutputs := by
    apply List.filter_eq_self.mpr
    intro x hx
    obtain ⟨o, -, rfl⟩ := List.mem_map.mp hx
    show (rget cifOutput 0 1 != 0) = true
    decide +kernel
  rw [State.liveRecs, State.recTab_chkTestFailed, outs_lastDecoderFull, hlive, cifOutputs, List.map_map]
  exact List.map_id _

theorem checkCost_lastDecoderFull {o : Nat} (h : o ∈ List.range 1024) :
    (lastDecoderFull.chkTestFailed (0 : Fin 8)).rf 4 o 0x28 4 = 40 := by
  rw [State.rf, State.record, State.recTab_chkTestFailed, outs_lastDecoderFull, cifOutputs, tfind_map_const _ _ h]
  show rget cifOutput 0x28 4 = 40
  decide +kernel

/-- The test of decoder 0 fails, and all 1,024 outputs go unchecked. -/
theorem brgDropped_lastDecoderFull : (lastDecoderFull.chkTestFailed (0 : Fin 8)).brgDropped.length = 1024 := by
  have hcost : ∀ o, o ∈ (lastDecoderFull.chkTestFailed (0 : Fin 8)).liveRecs 4 →
      0 < (lastDecoderFull.chkTestFailed (0 : Fin 8)).rf 4 o 0x28 4 := by
    intro o ho
    rw [liveRecs_lastDecoderFull] at ho
    rw [checkCost_lastDecoderFull ho]
    decide
  have hbefore : (lastDecoderFull.chkTestFailed (0 : Fin 8)).enc.brgUnchk = [] :=
    congrArg Enc.brgUnchk (State.chkTestFailed_frame lastDecoderFull (0 : Fin 8)).2
  rw [State.brgDropped, State.chkPoolFree_of_allFenced allFenced_lastDecoderFull, State.brgUncheck_free_zero hcost, hbefore,
    liveRecs_lastDecoderFull]
  have hall : (List.range 1024).filter (fun o => !([] : List Nat).contains o) = List.range 1024 :=
    List.filter_eq_self.mpr (fun _ _ => rfl)
  rw [hall, List.length_range]

/-- Refutes O7: the last check decoder in service fails its test slot while it checks 1,024 bridge outputs; the 1,024 events 0x1444 that
follow 0x1443 in the same command overwrite its record (R152, R589). -/
theorem not_checkDecoding : ¬ Obligations.CheckDecoding := by
  intro h
  obtain ⟨-, -, -, -, -, -, htest, -⟩ := h
  obtain ⟨t, ht, -, -, -, hraises, -⟩ := htest lastDecoderFull 0 chkFenced_lastDecoderFull
  have hnext : lastDecoderFull.fenceChk (0 : Fin 8) 1 = t := Host.Outcome.next.inj ht
  rw [← hnext] at hraises
  exact not_raises_fenceChk_of_brgDropped chkFenced_lastDecoderFull records_lastDecoderFull
    (Nat.le_of_eq brgDropped_lastDecoderFull.symm) _ _ hraises

end Sys2Proof.Machine

/-!
# O12: the record window, and admission across a group

The facts stand in the order of the model's definitions: words in a window's DATA registers, the steep bank, the word of a
window command and what a taken one does, the changes that usage makes to records, and then the obligation.
-/

namespace Sys2Proof.Machine

/-! ### Words in a window's DATA registers -/

/-- Writing one word of a window and going on to the next. -/
def winStep (base : Nat) (a : State × Nat) (w : W32) : State × Nat := (a.1.wr (base + 4 * a.2) w, a.2 + 1)

theorem State.winPut_eq_foldl (s : State) (base : Nat) (ws : List W32) : s.winPut base ws = (ws.foldl (winStep base) (s, 0)).1 := rfl

/-- Counting from word 1 is counting from word 0 of the window that begins a word later. -/
theorem foldl_winStep_succ (base : Nat) (ws : List W32) (s : State) (k : Nat) :
    (ws.foldl (winStep base) (s, k + 1)).1 = (ws.foldl (winStep (base + 4)) (s, k)).1 := by
  induction ws generalizing s k with
  | nil => rfl
  | cons w ws ih =>
    have haddr : base + 4 * (k + 1) = base + 4 + 4 * k := by omega
    rw [List.foldl_cons, List.foldl_cons, winStep, winStep, haddr]
    exact ih _ _

theorem State.winPut_cons (s : State) (base : Nat) (w : W32) (ws : List W32) :
    s.winPut base (w :: ws) = (s.wr base w).winPut (base + 4) ws := by
  rw [State.winPut_eq_foldl, State.winPut_eq_foldl]
  exact foldl_winStep_succ base ws (s.wr base w) 0

theorem State.winPut_eq (s : State) (base : Nat) (ws : List W32) : s.winPut base ws = { s with regs := (s.winPut base ws).regs } := by
  induction ws generalizing s base with
  | nil => rfl
  | cons w ws ih => rw [State.winPut_cons, ih]; rfl

theorem State.rd_winPut_below (s : State) (base : Nat) (ws : List W32) (a : Nat) (h : a < base) :
    (s.winPut base ws).rd a = s.rd a := by
  induction ws generalizing s base with
  | nil => rfl
  | cons w ws ih =>
    rw [State.winPut_cons, ih _ _ (by omega), rd_wr_other _ _ _ _ (by omega)]

/-- Word `j` of what was put into a window is read at its place. -/
theorem State.rd_winPut_word (s : State) (base : Nat) (ws : List W32) (j : Nat) (w : W32) (h : ws[j]? = some w) :
    (s.winPut base ws).rd (base + 4 * j) = w := by
  induction ws generalizing s base j with
  | nil => simp at h
  | cons v ws ih =>
    rw [State.winPut_cons]
    cases j with
    | zero =>
      rw [State.rd_winPut_below _ _ _ _ (by omega), Nat.mul_zero, Nat.add_zero, rd_wr_same]
      simpa using h
    | succ j =>
      have haddr : base + 4 * (j + 1) = base + 4 + 4 * j := by omega
      rw [haddr]
      exact ih _ _ _ (by simpa using h)

/-- Reading a window does not see a write below it. -/
theorem State.winGet_put (s : State) (f : FRef) (v base n : Nat) (h : f.addr < base) : (s.put f v).winGet base n = s.winGet base n :=
  List.map_congr_left (fun _ _ => rd_put_other s f v _ (by omega))

/-! ### The steep bank -/

theorem keeps_stageTouch (s : State) : Keeps s s.stageTouch [CFG_STAGE_STAT] :=
  keeps_put { s with stage := { s.stage with invalid := s.stage.invalid || s.stage.checking } } CFG_STAGE_STAT_CHECKED 0

theorem fld_checked_stageTouch (s : State) : s.stageTouch.fld CFG_STAGE_STAT_CHECKED = 0 :=
  fld_put_same _ CFG_STAGE_STAT_CHECKED 0 (by decide)

theorem keeps_stageRecPut (s : State) (owner : Nat) (r : StagedRec) : Keeps s (s.stageRecPut owner r) [CFG_STAGE_STAT] :=
  keeps_stageTouch { s with stage := { s.stage with
    records := s.stage.records.filter (fun x => ¬ (x.typ = r.typ ∧ x.index = r.index)) ++ [r], owner := owner } }

/-- The bank without the staged copies of one record (R217). -/
def State.unstaged (s : State) (ty i : Nat) : State :=
  { s with stage := { s.stage with records := s.stage.records.filter (fun r => !(r.typ == ty && r.index == i)) } }

theorem keeps_discard (s : State) (ty i : Nat) : Keeps s (s.unstaged ty i).stageTouch [CFG_STAGE_STAT] :=
  keeps_stageTouch (s.unstaged ty i)

/-! ### The word of a window command -/

/-- A word for BRG_WIN_CMD: the operation, the record's type and its index. -/
def brgWinCmd (op ty i : Nat) : W32 := BitVec.ofNat 32 (op * 2 ^ 28 + ty * 2 ^ 24 + i % 2 ^ 22)

theorem toNat_brgWinCmd {op ty : Nat} (hop : op < 16) (hty : ty < 16) (i : Nat) :
    (brgWinCmd op ty i).toNat = op * 2 ^ 28 + ty * 2 ^ 24 + i % 2 ^ 22 := by
  rw [brgWinCmd, BitVec.toNat_ofNat]
  omega

theorem brgWinCmd_op {op ty : Nat} (hop : op < 16) (hty : ty < 16) (i : Nat) : fieldGet (brgWinCmd op ty i) 28 4 = op := by
  rw [fieldGet, toNat_brgWinCmd hop hty, Nat.shiftRight_eq_div_pow]
  omega

theorem brgWinCmd_type {op ty : Nat} (hop : op < 16) (hty : ty < 16) (i : Nat) : fieldGet (brgWinCmd op ty i) 24 4 = ty := by
  rw [fieldGet, toNat_brgWinCmd hop hty, Nat.shiftRight_eq_div_pow]
  omega

theorem brgWinCmd_index {op ty : Nat} (hop : op < 16) (hty : ty < 16) (i : Nat) : fieldGet (brgWinCmd op ty i) 0 22 = i % 2 ^ 22 := by
  rw [fieldGet, toNat_brgWinCmd hop hty, Nat.shiftRight_eq_div_pow]
  omega

/-- Every index of a record fits the INDEX field (R198). -/
theorem recCount_lt (ty : Nat) : recCount ty < 2 ^ 22 := by
  unfold recCount
  split <;> decide

/-- A record that exists (R198): its type and its index. -/
structure IsRecord (ty i : Nat) : Prop where
  type  : ty ≤ 4
  index : i < recCount ty

theorem IsRecord.index_mod {ty i : Nat} (h : IsRecord ty i) : i % 2 ^ 22 = i := Nat.mod_eq_of_lt (Nat.lt_trans h.index (recCount_lt ty))

theorem IsRecord.type_lt {ty i : Nat} (h : IsRecord ty i) : ty < 16 := Nat.lt_of_le_of_lt h.type (by decide)

theorem winErr_brgWinCmd {op ty i : Nat} (hop : op < 16) (h : IsRecord ty i) : winErr (brgWinCmd op ty i) = 0 := by
  have htype := h.type
  have hindex := h.index
  simp only [winErr, brgWinCmd_type hop h.type_lt, brgWinCmd_index hop h.type_lt, h.index_mod]
  exact if_neg (by omega)

theorem winErr_brgWinCmd_missing {op ty i : Nat} (hop : op < 16) (hty : ty < 16) (h : ty > 4 ∨ recCount ty ≤ i % 2 ^ 22) :
    winErr (brgWinCmd op ty i) = 1 := by
  simp only [winErr, brgWinCmd_type hop hty, brgWinCmd_index hop hty]
  exact if_pos h

/-- What the window reads from a command for a record that exists. -/
theorem brgWinCmd_fields {op ty i : Nat} (hop : op < 16) (h : IsRecord ty i) :
    winErr (brgWinCmd op ty i) = 0 ∧ fieldGet (brgWinCmd op ty i) 28 4 = op ∧ fieldGet (brgWinCmd op ty i) 24 4 = ty ∧
    fieldGet (brgWinCmd op ty i) 0 22 = i :=
  ⟨winErr_brgWinCmd hop h, brgWinCmd_op hop h.type_lt i, brgWinCmd_type hop h.type_lt i,
    (brgWinCmd_index hop h.type_lt i).trans h.index_mod⟩

/-! ### A taken write of the window's command register -/

/-- The command register's row: three fields that only a write reaches (R566). -/
def brgWinRow : RegRow := ⟨0x170100, [], 0x0, [⟨28, 4, .wo⟩, ⟨24, 4, .wo⟩, ⟨0, 22, .wo⟩]⟩

theorem regRow_brgWinCmd : regRow BRG_WIN_CMD = some brgWinRow := by decide +kernel

/-- A window command needs OBSERVE or OPERATE, and never MAINTAIN (R575). -/
theorem State.writeMaintain_brgWinCmd (s : State) (p : Port) (v : W32) : s.writeMaintain p BRG_WIN_CMD v = false := by
  have hlevel : ∀ lo, fieldLevel BRG_WIN_CMD lo v ≤ 2 := by
    intro lo
    have h : fieldLevel BRG_WIN_CMD lo v = if fieldGet v 28 4 = 1 then 1 else 2 := rfl
    rw [h]
    split <;> decide
  have h28 := hlevel 28
  have h24 := hlevel 24
  have h0 := hlevel 0
  simp only [State.writeMaintain, regRow_brgWinCmd, State.writeLevel, brgWinRow, List.foldl_cons, List.foldl_nil, State.acts, if_true,
    decide_eq_false_iff_not]
  omega

theorem State.writePlain_brgWinCmd (s : State) (p : Port) (v : W32) : s.writePlain p BRG_WIN_CMD v = s := by
  rw [State.writePlain, regRow_brgWinCmd]
  rfl

/-- A taken command that the bank does not refuse has its effect, and nothing else is written (R566). -/
theorem State.brgWinWrite_taken {s : State} {p : Port} {v : W32} (h : Taken s p BRG_WIN_CMD v)
    (hst : fieldGet v 28 4 = 2 → s.stageStatus p.owner true = 0) (bad : Bool) :
    s.brgWinWrite p v bad = (s.accessOk 0).brgWin p v bad := by
  have hbank : (if fieldGet v 28 4 = 2 then s.stageStatus p.owner true else 0) = 0 := by
    split
    · exact hst ‹_›
    · rfl
  rw [State.brgWinWrite]
  simp only [hbank, ne_eq, not_true_eq_false, and_false, if_false]
  rw [portWrite_taken s p BRG_WIN_CMD v _ h, State.writeMaintain_brgWinCmd, if_neg Bool.false_ne_true, State.writePlain_brgWinCmd]

/-! ### A fetched record -/

/-- The state with the window's words the record's, and ERR clear (R217). -/
def State.fetched (s : State) (ty i : Nat) : State := (s.put BRG_WIN_STAT_ERR 0).winPut (BRG_WIN_DATA 0) (s.fetchRec ty i)

/-- Whether a fetch finds the CRC of a record in DRAM wrong (R217). -/
def State.fetchBad (s : State) (ty i : Nat) (bad : Bool) : Bool := bad && s.recValid ty i && !(ty == 0 && (s.fx i).resident)

/-- The state after a fetch (R217): a wrong CRC shows in ERR. -/
def State.fetchDone (s : State) (ty i : Nat) (bad : Bool) : State :=
  if s.fetchBad ty i bad then (s.fetched ty i).put BRG_WIN_STAT_ERR 2 else s.fetched ty i

theorem State.fetched_eq (s : State) (ty i : Nat) : s.fetched ty i = { s with regs := (s.fetched ty i).regs } := by
  rw [State.fetched, State.winPut_eq]
  rfl

theorem State.fetchDone_eq (s : State) (ty i : Nat) (bad : Bool) :
    s.fetchDone ty i bad = { s with regs := (s.fetchDone ty i bad).regs } := by
  unfold State.fetchDone
  split
  · rw [State.fetched_eq]; rfl
  · exact State.fetched_eq s ty i

theorem State.fld_err_fetchDone (s : State) (ty i : Nat) (bad : Bool) :
    (s.fetchDone ty i bad).fld BRG_WIN_STAT_ERR = if s.fetchBad ty i bad then 2 else 0 := by
  unfold State.fetchDone
  split
  · exact fld_put_same _ BRG_WIN_STAT_ERR 2 (by decide)
  · rw [State.fld, State.fetched, State.rd_winPut_below _ _ _ _ (by decide)]
    exact fld_put_same s BRG_WIN_STAT_ERR 0 (by decide)

theorem State.rd_data_fetchDone (s : State) (ty i : Nat) (bad : Bool) (j : Nat) (w : W32) (h : (s.fetchRec ty i)[j]? = some w) :
    (s.fetchDone ty i bad).rd (BRG_WIN_DATA j) = w := by
  have haddr : BRG_WIN_DATA j = BRG_WIN_DATA 0 + 4 * j := by unfold BRG_WIN_DATA; omega
  have hne : BRG_WIN_DATA j ≠ BRG_WIN_STAT := by unfold BRG_WIN_DATA BRG_WIN_STAT; omega
  have hword : (s.fetched ty i).rd (BRG_WIN_DATA j) = w := by
    rw [haddr]
    exact State.rd_winPut_word _ _ _ j w h
  unfold State.fetchDone
  split
  · exact (rd_put_other _ BRG_WIN_STAT_ERR 2 _ hne).trans hword
  · exact hword

/-! ### What each window command does -/

section
variable {ty i : Nat} (s : State) (p : Port) (bad : Bool)

/-- A type or an index that does not exist (R217). -/
theorem State.brgWin_missing {op : Nat} (hop : op < 16) (hty : ty < 16) (h : ty > 4 ∨ recCount ty ≤ i % 2 ^ 22) :
    s.brgWin p (brgWinCmd op ty i) bad = s.put BRG_WIN_STAT_ERR 1 := by
  simp only [State.brgWin, winErr_brgWinCmd_missing hop hty h, ne_eq, Nat.reduceEqDiff, not_false_eq_true, if_true]

theorem State.brgWin_fetch (h : IsRecord ty i) : s.brgWin p (brgWinCmd 1 ty i) bad = s.fetchDone ty i bad := by
  obtain ⟨hvalid, hfx⟩ : (s.fetched ty i).recValid ty i = s.recValid ty i ∧ (s.fetched ty i).fx i = s.fx i := by
    rw [State.fetched_eq]
    exact ⟨rfl, rfl⟩
  obtain ⟨herr, hop, htype, hindex⟩ := brgWinCmd_fields (op := 1) (by decide) h
  simp only [State.brgWin, herr, hop, htype, hindex, ne_eq, not_true_eq_false, if_false, if_true]
  rw [show (s.put BRG_WIN_STAT_ERR 0).winPut (BRG_WIN_DATA 0) ((s.put BRG_WIN_STAT_ERR 0).fetchRec ty i) = s.fetched ty i from rfl,
    hvalid, hfx]
  simp [State.fetchDone, State.fetchBad, and_assoc]

theorem State.brgWin_stage (h : IsRecord ty i) (hroom : s.stage.records.length < 1024) :
    s.brgWin p (brgWinCmd 2 ty i) bad =
      (s.put BRG_WIN_STAT_ERR 0).stageRecPut p.owner ⟨ty, i, s.winGet (BRG_WIN_DATA 0) (recWords ty)⟩ := by
  have hfull : ¬ ((s.put BRG_WIN_STAT_ERR 0).stage.records.length ≥ 1024) := Nat.not_le.mpr hroom
  obtain ⟨herr, hop, htype, hindex⟩ := brgWinCmd_fields (op := 2) (by decide) h
  simp only [State.brgWin, herr, hop, htype, hindex, hfull, ne_eq, not_true_eq_false, false_and, if_false, if_true,
    Nat.reduceEqDiff, State.winGet_put s BRG_WIN_STAT_ERR 0 (BRG_WIN_DATA 0) (recWords ty) (by decide)]

theorem State.brgWin_stage_full (h : IsRecord ty i) (hfull : 1024 ≤ s.stage.records.length)
    (hnew : ∀ x, x ∈ s.stage.records → ¬ (x.typ = ty ∧ x.index = i)) :
    s.brgWin p (brgWinCmd 2 ty i) bad = (s.put BRG_WIN_STAT_ERR 0).put BRG_WIN_STAT_ERR 3 := by
  have hany : (s.put BRG_WIN_STAT_ERR 0).stage.records.any (fun r => r.typ == ty && r.index == i) = false :=
    List.any_eq_false.mpr (fun x hx => by simpa using hnew x hx)
  have hfull' : (s.put BRG_WIN_STAT_ERR 0).stage.records.length ≥ 1024 := hfull
  obtain ⟨herr, hop, htype, hindex⟩ := brgWinCmd_fields (op := 2) (by decide) h
  simp only [State.brgWin, herr, hop, htype, hindex, hfull', hany, ne_eq, not_true_eq_false, if_false, if_true, Bool.not_false,
    and_self, Nat.reduceEqDiff]

theorem State.brgWin_discard (h : IsRecord ty i) :
    s.brgWin p (brgWinCmd 3 ty i) bad = ((s.put BRG_WIN_STAT_ERR 0).unstaged ty i).stageTouch := by
  obtain ⟨herr, hop, htype, hindex⟩ := brgWinCmd_fields (op := 3) (by decide) h
  simp only [State.brgWin, herr, hop, htype, hindex, ne_eq, not_true_eq_false, if_false, if_true, Nat.reduceEqDiff]
  rfl

end

/-! ### Records and usage -/

/-- The state `s` with the bridge's records of `t`. -/
def State.withRecords (s t : State) : State :=
  { s with brg := { s.brg with
    flows := t.brg.flows, decs := t.brg.decs, sess := t.brg.sess, legs := t.brg.legs, outs := t.brg.outs } }

/-- Between `s` and `t` only records of the bridge changed. -/
def State.RecordsOnly (s t : State) : Prop := t = s.withRecords t

theorem State.RecordsOnly.trans {s t u : State} (h : s.RecordsOnly t) (h' : t.RecordsOnly u) : s.RecordsOnly u :=
  State.frame_trans State.withRecords State.withRecords h h' rfl

theorem State.RecordsOnly.brg {s t : State} (h : s.RecordsOnly t) : t = { s with brg := t.brg } := by
  rw [h]; rfl

theorem State.RecordsOnly.remote {s t : State} (h : s.RecordsOnly t) : t.brg.remote = s.brg.remote := by
  rw [h]; rfl

theorem State.recordsOnly_rp (s : State) (ty i off n v : Nat) : s.RecordsOnly (s.rp ty i off n v) := by
  unfold State.RecordsOnly State.withRecords State.rp State.setRecTab
  split
  · split <;> rfl
  · rfl

theorem State.recordsOnly_foldl {α : Type} (f : State → α → State) (hf : ∀ (s : State) a, s.RecordsOnly (f s a)) (l : List α)
    (s : State) : s.RecordsOnly (l.foldl f s) := by
  induction l generalizing s with
  | nil => rfl
  | cons a l ih => exact (hf s a).trans (ih _)

theorem State.RecordsOnly.rp {s t : State} (h : s.RecordsOnly t) (ty i off n v : Nat) : s.RecordsOnly (t.rp ty i off n v) :=
  h.trans (State.recordsOnly_rp t ty i off n v)

/-- A session's usage is written to its record and its legs' (R204). -/
theorem State.recordsOnly_sessUse (s : State) (x : Nat) : s.RecordsOnly (s.sessUse x) := by
  have hlegs := State.recordsOnly_foldl
    (fun s l => s.rp 3 l 0x1C 4 (if s.legKind l = 1 then s.rf 1 (s.rf 3 l 0x10 4) 0x2C 4 else 0))
    (fun s l => State.recordsOnly_rp s 3 l 0x1C 4 _) (s.sessLegs x) s
  exact ((((hlegs.rp 2 x 0x0C 4 _).rp 2 x 0x1C 4 _).rp 2 x 0x22 2 _).rp 2 x 0x24 4 _).rp 2 x 0x28 4 _

theorem State.recordsOnly_fwdUse (s : State) (x : Nat) : s.RecordsOnly (s.fwdUse x) := by
  have hlegs := State.recordsOnly_foldl (fun s l => s.rp 3 l 0x18 4 (kbUnits (s.legFwd l)))
    (fun s l => State.recordsOnly_rp s 3 l 0x18 4 _) (s.sessLegs x) s
  exact hlegs.rp 2 x 0x14 4 _

/-! ### The window's commands as commands of the device -/

section
variable (s : State) (p : Port) (ty : Fin 16) (i : Nat)

/-- A taken command has the window's effect, and the access succeeds. -/
theorem next_brgWinWrite {p : Port} {s : State} {op : Nat} (hop : op < 16)
    (htaken : Taken s p BRG_WIN_CMD (brgWinCmd op ty i)) (hst : op = 2 → s.stageStatus p.owner true = 0) (bad : Bool) {t : State}
    (ht : (s.accessOk 0).brgWin p (brgWinCmd op ty i) bad = t) :
    (Host.Outcome.next (s.brgWinWrite p (brgWinCmd op ty i) bad) : Host.Outcome State Fault Refusal) = .next t := by
  rw [State.brgWinWrite_taken htaken (fun h => hst ((brgWinCmd_op hop ty.isLt i).symm.trans h)) bad, ht]

theorem brgWinFetch_spec (bad : Bool) (htaken : Taken s p BRG_WIN_CMD (brgWinCmd 1 ty i)) (h : IsRecord ty i) :
    ∃ t, exec (.brgWinFetch p ty i bad) s = .next t ∧ Succeeded t ∧
      t.fld BRG_WIN_STAT_ERR = (if s.fetchBad ty i bad then 2 else 0) ∧
      (∀ j w, (s.fetchRec ty i)[j]? = some w → t.rd (BRG_WIN_DATA j) = w) ∧
      t = { s with regs := t.regs, ctl := t.ctl } := by
  refine ⟨_, next_brgWinWrite (op := 1) ty i (by decide) htaken (fun h => absurd h (by decide)) bad (State.brgWin_fetch _ p bad h), ?_,
    State.fld_err_fetchDone _ ty i bad, State.rd_data_fetchDone (s.accessOk 0) ty i bad, ?_⟩
  · rw [State.fetchDone_eq]; exact ⟨rfl, rfl⟩
  · rw [State.fetchDone_eq]; rfl

theorem brgWinFetch_missing (bad : Bool) (htaken : Taken s p BRG_WIN_CMD (brgWinCmd 1 ty i))
    (h : ty.val > 4 ∨ recCount ty ≤ i % 2 ^ 22) :
    ∃ t, exec (.brgWinFetch p ty i bad) s = .next t ∧ t.fld BRG_WIN_STAT_ERR = 1 ∧
      t = { s with regs := t.regs, ctl := t.ctl } ∧ Keeps s t [BRG_WIN_CMD, BRG_WIN_STAT] := by
  refine ⟨_, next_brgWinWrite (op := 1) ty i (by decide) htaken (fun h => absurd h (by decide)) bad
    (State.brgWin_missing _ p bad (by decide) ty.isLt h), fld_put_same _ BRG_WIN_STAT_ERR 1 (by decide), rfl, ?_⟩
  exact (keeps_put (s.accessOk 0) BRG_WIN_STAT_ERR 1).weaken _ _ _ _ (fun _ ha => List.mem_cons_of_mem _ ha)

theorem brgWinStage_spec (htaken : Taken s p BRG_WIN_CMD (brgWinCmd 2 ty i)) (hst : s.stageStatus p.owner true = 0) (h : IsRecord ty i)
    (hroom : s.stage.records.length < 1024) :
    ∃ t, exec (.brgWinStage p ty i) s = .next t ∧ Succeeded t ∧
      t.stage.records = s.stage.records.filter (fun x => ¬ (x.typ = ty.val ∧ x.index = i)) ++
        [⟨ty, i, s.winGet (BRG_WIN_DATA 0) (recWords ty)⟩] ∧
      t.stage.owner = p.owner ∧ t.fld CFG_STAGE_STAT_CHECKED = 0 ∧
      t = { s with regs := t.regs, ctl := t.ctl, stage := t.stage } ∧ Keeps s t [BRG_WIN_CMD, BRG_WIN_STAT, CFG_STAGE_STAT] := by
  refine ⟨_, next_brgWinWrite (op := 2) ty i (by decide) htaken (fun _ => hst) false (State.brgWin_stage _ p false h hroom),
    ⟨rfl, rfl⟩, rfl, rfl, fld_checked_stageTouch _, rfl, ?_⟩
  exact ((keeps_put (s.accessOk 0) BRG_WIN_STAT_ERR 0).trans _ _ _ _ _ (keeps_stageRecPut _ p.owner _)).weaken _ _ _ _
    (fun _ ha => List.mem_cons_of_mem _ ha)

theorem brgWinStage_full (htaken : Taken s p BRG_WIN_CMD (brgWinCmd 2 ty i)) (hst : s.stageStatus p.owner true = 0) (h : IsRecord ty i)
    (hfull : 1024 ≤ s.stage.records.length) (hnew : ∀ x, x ∈ s.stage.records → ¬ (x.typ = ty.val ∧ x.index = i)) :
    ∃ t, exec (.brgWinStage p ty i) s = .next t ∧ t.fld BRG_WIN_STAT_ERR = 3 ∧ t.stage = s.stage ∧
      t = { s with regs := t.regs, ctl := t.ctl } ∧ Keeps s t [BRG_WIN_CMD, BRG_WIN_STAT] := by
  refine ⟨_, next_brgWinWrite (op := 2) ty i (by decide) htaken (fun _ => hst) false (State.brgWin_stage_full _ p false h hfull hnew),
    fld_put_same _ BRG_WIN_STAT_ERR 3 (by decide), rfl, rfl, ?_⟩
  exact ((keeps_put (s.accessOk 0) BRG_WIN_STAT_ERR 0).trans _ _ _ _ _ (keeps_put _ BRG_WIN_STAT_ERR 3)).weaken _ _ _ _
    (fun _ ha => (List.mem_append.mp ha).elim (List.mem_cons_of_mem _) (List.mem_cons_of_mem _))

theorem brgWinDiscard_spec (htaken : Taken s p BRG_WIN_CMD (brgWinCmd 3 ty i)) (h : IsRecord ty i) :
    ∃ t, exec (.brgWinDiscard p ty i) s = .next t ∧ Succeeded t ∧
      t.stage.records = s.stage.records.filter (fun r => !(r.typ == ty.val && r.index == i)) ∧
      t = { s with regs := t.regs, ctl := t.ctl, stage := t.stage } ∧ Keeps s t [BRG_WIN_CMD, BRG_WIN_STAT, CFG_STAGE_STAT] := by
  refine ⟨_, next_brgWinWrite (op := 3) ty i (by decide) htaken (fun h => absurd h (by decide)) false (State.brgWin_discard _ p false h),
    ⟨rfl, rfl⟩, rfl, rfl, ?_⟩
  exact ((keeps_put (s.accessOk 0) BRG_WIN_STAT_ERR 0).trans _ _ _ _ _ (keeps_discard _ ty i)).weaken _ _ _ _
    (fun _ ha => List.mem_cons_of_mem _ ha)

end

/-! ### Admission across a group -/

section
variable (s : State) (x : Fin 32768) (leg fwd dec mix : Nat)

/-- The home counts a granted addition in what other members hold of the session (R210). -/
def State.grantCounted : State :=
  let r := tget (fun _ => []) s.brg.remote x
  { s with brg := { s.brg with
    remote := tset (fun _ => []) s.brg.remote x [r.getD 0 0 + 1, r.getD 1 0 + fwd, r.getD 2 0 + dec, r.getD 3 0 + mix] } }

theorem State.remote_grantCounted : tget (fun _ => []) (s.grantCounted x fwd dec mix).brg.remote x =
    [(tget (fun _ => []) s.brg.remote x).getD 0 0 + 1, (tget (fun _ => []) s.brg.remote x).getD 1 0 + fwd,
     (tget (fun _ => []) s.brg.remote x).getD 2 0 + dec, (tget (fun _ => []) s.brg.remote x).getD 3 0 + mix] := by
  simp only [State.grantCounted]
  rw [tget_tset_same]

theorem admissionRequestRx_granted (hstate : s.recState 2 x = 1) (hhome : s.rf 2 x 2 2 % 4096 = s.ownAddr)
    (hleg : s.roomQ x 0 1 = true) (hfwd : s.roomQ x 1 fwd = true) (hdec : s.roomQ x 2 dec = true) (hmix : s.roomQ x 3 mix = true) :
    ∃ t, exec (.admissionRequestRx x leg fwd dec mix) s = .next t ∧ Sent s t [.admission x leg true] ∧
      tget (fun _ => []) t.brg.remote x =
        [(tget (fun _ => []) s.brg.remote x).getD 0 0 + 1, (tget (fun _ => []) s.brg.remote x).getD 1 0 + fwd,
         (tget (fun _ => []) s.brg.remote x).getD 2 0 + dec, (tget (fun _ => []) s.brg.remote x).getD 3 0 + mix] ∧
      t = { s with brg := t.brg, out := t.out } := by
  have hexec : exec (.admissionRequestRx x leg fwd dec mix) s =
      .next ((((s.grantCounted x fwd dec mix).sessUse x).fwdUse x).send (.admission x leg true)) := by
    show execAdmissionRequestRx x leg fwd dec mix s = _
    rw [execAdmissionRequestRx, if_neg (by simp [hstate, hhome]), if_pos ⟨hleg, hfwd, hdec, hmix⟩]
    rfl
  have huse := (State.recordsOnly_sessUse (s.grantCounted x fwd dec mix) x).trans (State.recordsOnly_fwdUse _ x)
  refine ⟨_, hexec, ?_⟩
  generalize ((s.grantCounted x fwd dec mix).sessUse x).fwdUse x = u at huse ⊢
  refine ⟨?_, (congrArg (tget (fun _ => []) · x.val) huse.remote).trans (State.remote_grantCounted s x fwd dec mix), ?_⟩
  · rw [huse.brg]; rfl
  · rw [huse.brg]; rfl

theorem admissionRequestRx_refused (hstate : s.recState 2 x = 1) (hhome : s.rf 2 x 2 2 % 4096 = s.ownAddr)
    (hfull : (s.roomQ x 0 1 && s.roomQ x 1 fwd && s.roomQ x 2 dec && s.roomQ x 3 mix) = false) :
    ∃ t, exec (.admissionRequestRx x leg fwd dec mix) s = .next t ∧ Sent s t [.admission x leg false] ∧
      t.fld BRG_CNT_REFUSED_COUNT = min (s.fld BRG_CNT_REFUSED_COUNT + 1) (2 ^ BRG_CNT_REFUSED_COUNT.width - 1) ∧
      t = { s with regs := t.regs, out := t.out } ∧ Keeps s t [BRG_CNT_REFUSED] := by
  have hexec : exec (.admissionRequestRx x leg fwd dec mix) s =
      .next ((s.cnt BRG_CNT_REFUSED_COUNT 1).send (.admission x leg false)) := by
    have hroom : ¬ (s.roomQ x 0 1 = true ∧ s.roomQ x 1 fwd = true ∧ s.roomQ x 2 dec = true ∧ s.roomQ x 3 mix = true) := by
      rintro ⟨hleg, hfwd, hdec, hmix⟩
      simp [hleg, hfwd, hdec, hmix] at hfull
    show execAdmissionRequestRx x leg fwd dec mix s = _
    rw [execAdmissionRequestRx, if_neg (by simp [hstate, hhome]), if_neg hroom]
  exact ⟨_, hexec, rfl, fld_cnt_same s BRG_CNT_REFUSED_COUNT 1 (by decide), rfl, keeps_cnt s BRG_CNT_REFUSED_COUNT 1⟩

theorem admissionGrantRx_spec (grant : Bool) :
    ∃ t, exec (.admissionGrantRx x leg grant) s = .next t ∧ t.brg.admits.length = s.brg.admits.length ∧
      (∀ (i : Nat) (a : Admit), s.brg.admits[i]? = some a → a.sess = x.val → a.leg = leg → a.grant = none →
        t.brg.admits[i]? = some { a with grant := some grant }) ∧
      (∀ (i : Nat) (a : Admit), s.brg.admits[i]? = some a → ¬ (a.sess = x.val ∧ a.leg = leg ∧ a.grant = none) →
        t.brg.admits[i]? = some a) ∧
      t = { s with brg := { s.brg with admits := t.brg.admits } } := by
  refine ⟨_, rfl, List.length_map _, fun i a ha hsess hleg hgrant => ?_, fun i a ha hother => ?_, rfl⟩
  · exact List.getElem?_map.trans ((congrArg _ ha).trans (congrArg some (if_pos ⟨hsess, hleg, hgrant⟩)))
  · exact List.getElem?_map.trans ((congrArg _ ha).trans (congrArg some (if_neg hother)))

end

/-- Settles O12: each command of the window by what it does to the window and the bank, and the admission request and its answer. -/
theorem bridgeWindow : Obligations.BridgeWindow := by
  unfold Obligations.BridgeWindow
  refine ⟨?_, fun s p ty i bad htaken hmissing => brgWinFetch_missing s p ty i bad htaken hmissing, ?_, ?_, ?_,
    admissionRequestRx_granted, admissionRequestRx_refused, admissionGrantRx_spec⟩
  · intro s p ty i bad htaken hty hi
    have hzero : (ty == 0) = (ty.val == 0) := by rw [Bool.eq_iff_iff, beq_iff_eq, beq_iff_eq, Fin.ext_iff]; rfl
    obtain ⟨t, ht, hok, herr, hdata, hframe⟩ := brgWinFetch_spec s p ty i bad htaken ⟨hty, hi⟩
    rw [hzero]
    exact ⟨t, ht, hok, herr, fun j w _ hw => hdata j w hw, hframe⟩
  · intro s p ty i htaken hst hty hi hroom
    exact brgWinStage_spec s p ty i htaken hst ⟨hty, hi⟩ hroom
  · intro s p ty i htaken hst hty hi hfull hnew
    exact brgWinStage_full s p ty i htaken hst ⟨hty, hi⟩ hfull hnew
  · intro s p ty i htaken hty hi
    exact brgWinDiscard_spec s p ty i htaken ⟨hty, hi⟩

end Sys2Proof.Machine

/-!
# O16: candidate sets, the audio window and loudness

The facts stand in the order of the model's definitions: slot records, selection and a candidate set, the audio window, loudness,
and then the obligation. The window of records of O12 gives the words in DATA registers, the steep bank and the word of a command.
-/

namespace Sys2Proof.Machine

/-! ### Slot records -/

/-- Between `s` and `t` only slot records changed. -/
def State.SlotsOnly (s t : State) : Prop := t = { s with aud := { s.aud with slots := t.aud.slots } }

theorem State.SlotsOnly.trans {s t u : State} (h : s.SlotsOnly t) (h' : t.SlotsOnly u) : s.SlotsOnly u :=
  State.frame_trans (fun s t => { s with aud := { s.aud with slots := t.aud.slots } })
    (fun s t => { s with aud := { s.aud with slots := t.aud.slots } }) h h' rfl

theorem State.slotsOnly_sp (s : State) (i off n v : Nat) : s.SlotsOnly (s.sp i off n v) := by
  unfold State.SlotsOnly State.sp
  split <;> rfl

theorem State.tfind_slots_sp {s : State} {i : Nat} {w : List W32} (h : tfind s.aud.slots i = some w) (off n v : Nat) :
    tfind (s.sp i off n v).aud.slots i = some (rput w off n v) := by
  have hsp : (s.sp i off n v).aud.slots = tput s.aud.slots i (rput w off n v) := by simp only [State.sp, h]
  rw [hsp, tfind_tput_same]

/-- The first byte of a record reads as what was written there. -/
theorem rget_rput_first (w : W32) (ws : List W32) (v : Nat) : rget (rput (w :: ws) 0 1 v) 0 1 = v % 2 ^ 8 := by
  have hbyte : rget (rput (w :: ws) 0 1 v) 0 1 = fieldGet (fieldPut w 0 8 v) 0 8 := by
    simp [rget, rput, bytesAt, wordsBytes, leBytes, ofLeBytes, putByte, fieldGet]
  rw [hbyte, fieldGet_fieldPut_same _ _ _ _ (by decide)]

/-! ### Selection (R257) -/

theorem mem_of_best11 {cs : List Comp11} {c : Comp11} (h : best11 cs = some c) : c ∈ cs := by
  induction cs generalizing c with
  | nil => cases h
  | cons d cs ih =>
    rw [best11] at h
    cases hbest : best11 cs with
    | none =>
      rw [hbest] at h
      exact Option.some.inj h ▸ List.mem_cons_self
    | some e =>
      have he : e ∈ d :: cs := List.mem_cons_of_mem _ (ih hbest)
      have hc : c = e ∨ c = d := by
        simp only [hbest] at h
        split at h
        · exact .inl (Option.some.inj h).symm
        · split at h
          · exact .inr (Option.some.inj h).symm
          · split at h
            · exact .inl (Option.some.inj h).symm
            · exact .inr (Option.some.inj h).symm
      rcases hc with rfl | rfl
      · exact he
      · exact List.mem_cons_self

/-- Whoever is chosen competed. -/
theorem ident_of_mem_choose11 {n id : Nat} {cs : List Comp11} (h : id ∈ choose11 n cs) : ∃ q, q ∈ cs ∧ q.ident = id := by
  induction n generalizing cs with
  | zero => cases h
  | succ n ih =>
    rw [choose11] at h
    cases hbest : best11 (cs.filter (fun c => fLt (f32Int (-1000)) c.score)) with
    | none => rw [hbest] at h; cases h
    | some c =>
      rw [hbest] at h
      rcases List.mem_cons.mp h with rfl | h
      · exact ⟨c, (List.mem_filter.mp (mem_of_best11 hbest)).1, rfl⟩
      · obtain ⟨q, hq, hid⟩ := ih h
        exact ⟨q, (List.mem_filter.mp hq).1, hid⟩

/-- Whoever holds a seat after selection was chosen. -/
theorem chosen_of_mem_seat11 {n : Nat} {prev : List (Nat × Nat)} {chosen : List Nat} {y : Nat × Nat} (h : y ∈ seat11 n prev chosen) :
    y.2 ∈ chosen := by
  revert y
  unfold seat11
  refine List.foldlRecOn _ _ (motive := fun seats => ∀ {y : Nat × Nat}, y ∈ seats → y.2 ∈ chosen) ?_ ?_
  · intro y hy
    exact List.contains_iff_mem.mp (List.mem_filter.mp hy).2
  · intro seats hseats c hc y hy
    split at hy
    · rcases List.mem_append.mp hy with hy | hy
      · exact hseats hy
      · exact List.mem_singleton.mp hy ▸ (List.mem_filter.mp hc).1
    · exact hseats hy

/-- The seats that a selection gives. -/
def State.seated (s : State) (x : Nat) (late : List Nat) : List (Nat × Nat) :=
  seat11 (s.sessN x) (tget (fun _ => []) s.aud.prev x) (choose11 (s.sessN x) (s.competitors x late))

theorem State.competitor_of_seated {s : State} {x : Nat} {late : List Nat} {y : Nat × Nat} (h : y ∈ s.seated x late) :
    ∃ q, q ∈ s.competitors x late ∧ q.ident = y.2 :=
  ident_of_mem_choose11 (chosen_of_mem_seat11 h)

/-- The state with these seats of a session. -/
def State.setSeats (s : State) (x : Nat) (seats : List (Nat × Nat)) : State :=
  { s with aud := { s.aud with seats := tset (fun _ => []) s.aud.seats x seats } }

/-- A selection sets the seats of its session; what it writes besides stands in slot records (SEL). -/
theorem State.slotsOnly_select (s : State) (x : Nat) (late : List Nat) :
    (s.setSeats x (s.seated x late)).SlotsOnly (s.select x late) := by
  unfold State.select
  exact List.foldlRecOn _ _ (motive := (s.setSeats x (s.seated x late)).SlotsOnly) rfl
    (fun t ht i _ => ht.trans (State.slotsOnly_sp t i 0x2B 1 _))

/-! ### A candidate set -/

section
variable (s : State) (x : Fin 32768) (member : Nat) (cands : List Cand)

/-- A session's candidates with one member's replaced (R256). -/
def State.candsWith : List Cand :=
  (tget (fun _ => []) s.aud.cands x).filter (fun c => c.member ≠ member) ++ cands.map (fun c => { c with member := member })

/-- The state with a set taken in. -/
def State.candsIn : State :=
  { s with aud := { s.aud with cands := tset (fun _ => []) s.aud.cands x (s.candsWith x member cands) } }

variable (hen : s.bit AUD_CFG_EN = true) (hstate : s.recState 2 x = 1) (hhome : s.rf 2 x 2 2 % 4096 = s.ownAddr)
include hen hstate hhome

theorem candidateSetRx_inTime (htime : s.raw - s.aud.cycRaw ≤ 4500 * usU) :
    ∃ t, exec (.candidateSetRx x member cands) s = .next t ∧
      tget (fun _ => []) t.aud.cands x = (tget (fun _ => []) s.aud.cands x).filter (fun c => c.member ≠ member) ++
        cands.map (fun c => { c with member := member }) ∧
      (∀ y, y ∈ tget (fun _ => []) t.aud.seats x → ∃ q, q ∈ ({ s with aud := { s.aud with cands := t.aud.cands } }).competitors x
        s.lateUnits ∧ q.ident = y.2) ∧
      (∀ z, z ≠ x.val → tget (fun _ => []) t.aud.seats z = tget (fun _ => []) s.aud.seats z ∧
        tget (fun _ => []) t.aud.cands z = tget (fun _ => []) s.aud.cands z) ∧ t = { s with aud := t.aud } := by
  have hexec : exec (.candidateSetRx x member cands) s = .next ((s.candsIn x member cands).select x s.lateUnits) := by
    show execCandidateSetRx x member cands s = _
    rw [execCandidateSetRx, if_neg (by simp [hen, hstate, hhome]), if_neg (Nat.not_lt.mpr htime)]
    rfl
  have hsel := State.slotsOnly_select (s.candsIn x member cands) x s.lateUnits
  refine ⟨_, hexec, ?_⟩
  generalize (s.candsIn x member cands).select x s.lateUnits = t at hsel ⊢
  have hcands : t.aud.cands = (s.candsIn x member cands).aud.cands := congrArg (·.aud.cands) hsel
  have hseats : t.aud.seats = tset (fun _ => []) s.aud.seats x ((s.candsIn x member cands).seated x s.lateUnits) :=
    congrArg (·.aud.seats) hsel
  rw [hcands, hseats, tget_tset_same]
  exact ⟨tget_tset_same _ _ _ _, fun y hy => State.competitor_of_seated hy,
    fun z hz => ⟨tget_tset_other _ _ _ _ _ hz, tget_tset_other _ _ _ _ _ hz⟩, by rw [hsel]; rfl⟩

theorem candidateSetRx_late (htime : s.raw - s.aud.cycRaw > 4500 * usU) :
    ∃ t, exec (.candidateSetRx x member cands) s = .next t ∧
      t.fld AUD_CNT_CAND_LATE_COUNT = min (s.fld AUD_CNT_CAND_LATE_COUNT + 1) (2 ^ 32 - 1) ∧
      Raises s t 0x1A02 x (evArg [(0, 1, 1), (4, 4, member)]) ∧
      t = { s with regs := t.regs, evq := t.evq, ctl := t.ctl } ∧ Keeps s t [AUD_CNT_CAND_LATE] := by
  have hexec : exec (.candidateSetRx x member cands) s =
      .next ((s.cnt AUD_CNT_CAND_LATE_COUNT 1).emit 0x1A02 x (evArg [(0, 1, 1), (4, 4, member)])) := by
    show execCandidateSetRx x member cands s = _
    rw [execCandidateSetRx, if_neg (by simp [hen, hstate, hhome]), if_pos htime]
  have hcnt := keeps_cnt s AUD_CNT_CAND_LATE_COUNT 1
  refine ⟨_, hexec, ?_, ?_, by rw [emit_eq]; rfl, hcnt.trans _ _ _ _ _ (keeps_emit _ _ _ _)⟩
  · rw [fld_emit _ _ _ _ _ (by decide) (by decide)]
    exact fld_cnt_same s AUD_CNT_CAND_LATE_COUNT 1 (by decide)
  · exact (raises_emit _ _ _ _).of_keeps hcnt rfl (by decide) (fun _ _ => Nat.le_refl _)

end

theorem candidateSetRx_ignored (s : State) (x : Fin 32768) (member : Nat) (cands : List Cand)
    (h : s.bit AUD_CFG_EN = false ∨ s.recState 2 x ≠ 1 ∨ s.rf 2 x 2 2 % 4096 ≠ s.ownAddr) :
    exec (.candidateSetRx x member cands) s = .next s := by
  show execCandidateSetRx x member cands s = _
  rw [execCandidateSetRx, if_pos (by simpa using h)]

/-! ### The word of an audio window command -/

/-- A word for AUD_WIN_CMD: the operation, the record's type and its index (R266). -/
def audWinCmd (op ty i : Nat) : W32 := BitVec.ofNat 32 (op * 2 ^ 28 + ty * 2 ^ 24 + i % 2 ^ 15)

/-- Its operation and its type stand where those of BRG_WIN_CMD do. -/
theorem audWinCmd_eq (op ty i : Nat) : audWinCmd op ty i = brgWinCmd op ty (i % 2 ^ 15) := by
  rw [audWinCmd, brgWinCmd, Nat.mod_mod_of_dvd' (by decide)]

theorem audWinCmd_op {op ty : Nat} (hop : op < 16) (hty : ty < 16) (i : Nat) : fieldGet (audWinCmd op ty i) 28 4 = op := by
  rw [audWinCmd_eq, brgWinCmd_op hop hty]

theorem audWinCmd_type {op ty : Nat} (hop : op < 16) (hty : ty < 16) (i : Nat) : fieldGet (audWinCmd op ty i) 24 4 = ty := by
  rw [audWinCmd_eq, brgWinCmd_type hop hty]

theorem audWinCmd_index {op ty : Nat} (hop : op < 16) (hty : ty < 16) (i : Nat) : fieldGet (audWinCmd op ty i) 0 15 = i % 2 ^ 15 := by
  rw [audWinCmd_eq, fieldGet, toNat_brgWinCmd hop hty, Nat.shiftRight_eq_div_pow]
  omega

/-- A record of the audio window that exists (R251, R252): a slot's or a session's. -/
def IsAudRecord (ty i : Nat) : Prop := ty = 0 ∧ i < 8192 ∨ ty = 1 ∧ i < 32768

theorem IsAudRecord.index_mod {ty i : Nat} (h : IsAudRecord ty i) : i % 2 ^ 15 = i := by
  unfold IsAudRecord at h
  omega

theorem IsAudRecord.type_lt {ty i : Nat} (h : IsAudRecord ty i) : ty < 16 := by
  unfold IsAudRecord at h
  omega

theorem IsAudRecord.not_missing {ty i : Nat} (h : IsAudRecord ty i) : ¬ (ty > 1 ∨ (ty = 0 ∧ i ≥ 8192)) := by
  unfold IsAudRecord at h
  omega

/-- What the window reads from a command for a record that exists. -/
theorem audWinCmd_fields {op ty i : Nat} (hop : op < 16) (h : IsAudRecord ty i) :
    fieldGet (audWinCmd op ty i) 28 4 = op ∧ fieldGet (audWinCmd op ty i) 24 4 = ty ∧ fieldGet (audWinCmd op ty i) 0 15 = i :=
  ⟨audWinCmd_op hop h.type_lt i, audWinCmd_type hop h.type_lt i, (audWinCmd_index hop h.type_lt i).trans h.index_mod⟩

/-! ### A taken write of the audio window's command register -/

/-- The command register's row: three fields that only a write reaches (R566). -/
def audWinRow : RegRow := ⟨0x1A0200, [], 0x0, [⟨28, 4, .wo⟩, ⟨24, 4, .wo⟩, ⟨0, 15, .wo⟩]⟩

theorem regRow_audWinCmd : regRow AUD_WIN_CMD = some audWinRow := by decide +kernel

/-- A write needs no more than the highest class that one of the register's fields may need (R575). -/
theorem State.writeLevel_le {s : State} {p : Port} {a n : Nat} {v : W32} {r : RegRow} (hn : 1 ≤ n)
    (h : ∀ f, f ∈ r.fields → fieldLevel a f.lo v ≤ n) : s.writeLevel p a v r ≤ n := by
  unfold State.writeLevel
  refine List.foldlRecOn _ _ (motive := (· ≤ n)) hn (fun l hl f hf => ?_)
  split
  · exact Nat.max_le.mpr ⟨hl, h f hf⟩
  · exact hl

/-- A window command needs OBSERVE or OPERATE, and never MAINTAIN (R575). -/
theorem State.writeMaintain_audWinCmd (s : State) (p : Port) (v : W32) : s.writeMaintain p AUD_WIN_CMD v = false := by
  have hlevel : s.writeLevel p AUD_WIN_CMD v audWinRow ≤ 2 := by
    refine State.writeLevel_le (by decide) (fun f _ => ?_)
    have h : fieldLevel AUD_WIN_CMD f.lo v = if fieldGet v 28 4 = 1 then 1 else 2 := rfl
    rw [h]
    split <;> decide
  simp only [State.writeMaintain, regRow_audWinCmd, decide_eq_false_iff_not]
  omega

theorem State.writePlain_audWinCmd (s : State) (p : Port) (v : W32) : s.writePlain p AUD_WIN_CMD v = s := by
  rw [State.writePlain, regRow_audWinCmd]
  rfl

/-- A taken command that the bank does not refuse has its effect, and nothing else is written (R566). -/
theorem State.audWinWrite_taken {s : State} {p : Port} {v : W32} (h : Taken s p AUD_WIN_CMD v)
    (hst : fieldGet v 28 4 = 2 → s.stageStatus p.owner true = 0) (bad : Bool) :
    s.audWinWrite p v bad = (s.accessOk 0).audWin p v bad := by
  have hbank : (if fieldGet v 28 4 = 2 then s.stageStatus p.owner true else 0) = 0 := by
    split
    · exact hst ‹_›
    · rfl
  rw [State.audWinWrite]
  simp only [hbank, ne_eq, not_true_eq_false, and_false, if_false]
  rw [portWrite_taken s p AUD_WIN_CMD v _ h, State.writeMaintain_audWinCmd, if_neg Bool.false_ne_true, State.writePlain_audWinCmd]

/-! ### A fetched audio record -/

/-- The state with a record's words in the window, and ERR clear (R266). -/
def State.audFetched (s : State) (w : List W32) : State := (s.put AUD_WIN_STAT_ERR 0).winPut (AUD_WIN_DATA 0) (withCrc w)

theorem State.audFetched_eq (s : State) (w : List W32) : s.audFetched w = { s with regs := (s.audFetched w).regs } := by
  rw [State.audFetched, State.winPut_eq]
  rfl

theorem State.fld_err_audFetched (s : State) (w : List W32) : (s.audFetched w).fld AUD_WIN_STAT_ERR = 0 := by
  rw [State.fld, State.audFetched, State.rd_winPut_below _ _ _ _ (by decide)]
  exact fld_put_same s AUD_WIN_STAT_ERR 0 (by decide)

theorem State.rd_data_audFetched (s : State) (w : List W32) (j : Nat) (v : W32) (h : (withCrc w)[j]? = some v) :
    (s.audFetched w).rd (AUD_WIN_DATA j) = v := by
  have haddr : AUD_WIN_DATA j = AUD_WIN_DATA 0 + 4 * j := by unfold AUD_WIN_DATA; omega
  rw [haddr]
  exact State.rd_winPut_word _ _ _ j v h

/-- Words put into a window change no register below it or behind it. -/
theorem keeps_winPut (s : State) (base : Nat) (ws : List W32) :
    Keeps s (s.winPut base ws) ((List.range ws.length).map (fun j => base + 4 * j)) := by
  induction ws generalizing s base with
  | nil => exact fun _ _ _ _ => rfl
  | cons w ws ih =>
    rw [State.winPut_cons]
    refine ((keeps_wr s base w).trans _ _ _ _ _ (ih _ _)).weaken _ _ _ _ (fun a ha => ?_)
    rw [List.length_cons, List.range_succ_eq_map, List.map_cons, List.map_map]
    have hstep : (fun j => base + 4 * j) ∘ Nat.succ = fun j => base + 4 + 4 * j := by funext j; simp only [Function.comp]; omega
    rw [hstep]
    simpa using ha

/-- The addresses that a fetch writes. -/
def audFetchAddrs (w : List W32) : List Nat :=
  AUD_WIN_STAT :: (List.range (withCrc w).length).map (fun j => AUD_WIN_DATA 0 + 4 * j)

theorem keeps_audFetched (s : State) (w : List W32) : Keeps s (s.audFetched w) (audFetchAddrs w) :=
  (keeps_put s AUD_WIN_STAT_ERR 0).trans _ _ _ _ _ (keeps_winPut _ _ _)

/-- The window lies above the registers that an event's record and the queue's rules read. -/
theorem not_mem_audFetchAddrs {a : Nat} (h : a < AUD_WIN_STAT) (w : List W32) : a ∉ audFetchAddrs w := by
  have hdata : AUD_WIN_STAT < AUD_WIN_DATA 0 := by decide
  rw [audFetchAddrs, List.mem_cons, List.mem_map]
  rintro (rfl | ⟨j, _, rfl⟩) <;> omega

/-- A slot record whose stored CRC does not match (R252): its words are in the window with ERR 2, and its slot stops. -/
def State.audFetchStop (s : State) (i : Nat) (w : List W32) : State := ((s.audFetched w).put AUD_WIN_STAT_ERR 2).sp i 0 1 3

theorem State.audFetchStop_eq (s : State) (i : Nat) (w : List W32) :
    s.audFetchStop i w = { s with
      regs := ((s.audFetched w).put AUD_WIN_STAT_ERR 2).regs, aud := { s.aud with slots := (s.audFetchStop i w).aud.slots } } := by
  have hput : (s.audFetched w).put AUD_WIN_STAT_ERR 2 = { s with regs := ((s.audFetched w).put AUD_WIN_STAT_ERR 2).regs } := by
    rw [State.audFetched_eq]
    rfl
  unfold State.audFetchStop
  generalize (s.audFetched w).put AUD_WIN_STAT_ERR 2 = t at hput ⊢
  refine Eq.trans (State.slotsOnly_sp t i 0 1 3) ?_
  generalize (t.sp i 0 1 3).aud.slots = slots
  rw [hput]

theorem State.rd_audFetchStop (s : State) (i : Nat) (w : List W32) (a : Nat) :
    (s.audFetchStop i w).rd a = ((s.audFetched w).put AUD_WIN_STAT_ERR 2).rd a := by
  rw [State.audFetchStop_eq]
  rfl

theorem keeps_audFetchStop (s : State) (i : Nat) (w : List W32) : Keeps s (s.audFetchStop i w) (audFetchAddrs w) := by
  have hput := (keeps_audFetched s w).trans _ _ _ _ _ (keeps_put (s.audFetched w) AUD_WIN_STAT_ERR 2)
  intro a ha h h'
  have herr : a ≠ AUD_WIN_STAT_ERR.addr := fun e => ha (e ▸ List.mem_cons_self)
  exact (State.rd_audFetchStop s i w a).trans (hput a (by simp [ha, herr]) h h')

theorem State.fld_err_audFetchStop (s : State) (i : Nat) (w : List W32) : (s.audFetchStop i w).fld AUD_WIN_STAT_ERR = 2 := by
  rw [State.fld, State.rd_audFetchStop]
  exact fld_put_same _ AUD_WIN_STAT_ERR 2 (by decide)

theorem State.rd_data_audFetchStop (s : State) (i : Nat) (w : List W32) (j : Nat) (v : W32) (h : (withCrc w)[j]? = some v) :
    (s.audFetchStop i w).rd (AUD_WIN_DATA j) = v := by
  have hne : AUD_WIN_DATA j ≠ AUD_WIN_STAT := by unfold AUD_WIN_DATA AUD_WIN_STAT; omega
  rw [State.rd_audFetchStop, rd_put_other _ AUD_WIN_STAT_ERR 2 _ hne, State.rd_data_audFetched s w j v h]

theorem State.sf_audFetchStop {s : State} {i : Nat} {w : List W32} (hw : tfind s.aud.slots i = some w) (hlen : w.length = 32) :
    (s.audFetchStop i w).sf i 0 1 = 3 := by
  obtain ⟨v, ws, rfl⟩ := List.exists_cons_of_length_eq_add_one hlen
  have hslot : tfind ((s.audFetched (v :: ws)).put AUD_WIN_STAT_ERR 2).aud.slots i = some (v :: ws) := by
    rw [State.audFetched_eq]
    exact hw
  rw [State.sf, State.audFetchStop, State.tfind_slots_sp hslot]
  exact rget_rput_first v ws 3

/-! ### What each audio window command does -/

section
variable {ty i : Nat} (s : State) (p : Port) (bad : Bool)

/-- A type or an index that does not exist (R266). -/
theorem State.audWin_missing {op : Nat} (hop : op < 16) (hty : ty < 16) (h : ty > 1 ∨ (ty = 0 ∧ 8192 ≤ i % 2 ^ 15)) :
    s.audWin p (audWinCmd op ty i) bad = s.put AUD_WIN_STAT_ERR 1 := by
  have h' : ty > 1 ∨ (ty = 0 ∧ i % 2 ^ 15 ≥ 8192) := h
  simp only [State.audWin, audWinCmd_type hop hty, audWinCmd_index hop hty, h', if_true, ne_eq, Nat.reduceEqDiff, not_false_eq_true]

theorem State.audWin_fetch {w : List W32} (h : IsAudRecord ty i) (hw : tfind (if ty = 0 then s.aud.slots else s.aud.sess) i = some w) :
    s.audWin p (audWinCmd 1 ty i) false = s.audFetched w := by
  obtain ⟨hop, htype, hindex⟩ := audWinCmd_fields (op := 1) (by decide) h
  have hw' : tfind (if ty = 0 then (s.put AUD_WIN_STAT_ERR 0).aud.slots else (s.put AUD_WIN_STAT_ERR 0).aud.sess) i = some w := hw
  simp only [State.audWin, hop, htype, hindex, h.not_missing, hw', if_false, if_true, ne_eq, not_true_eq_false, Option.getD_some,
    Bool.false_eq_true, false_and]
  rfl

theorem State.audWin_fetch_bad {w : List W32} (h : i < 8192) (hw : tfind s.aud.slots i = some w) :
    s.audWin p (audWinCmd 1 0 i) true = (s.audFetchStop i w).emit 0x1A04 i 0 := by
  obtain ⟨hop, htype, hindex⟩ := audWinCmd_fields (op := 1) (ty := 0) (by decide) (.inl ⟨rfl, h⟩)
  have hw' : tfind (s.put AUD_WIN_STAT_ERR 0).aud.slots i = some w := hw
  simp only [State.audWin, hop, htype, hindex, Nat.not_le.mpr h, hw', ge_iff_le, gt_iff_lt, Nat.not_lt_zero, and_false, or_false, if_false,
    if_true, ne_eq, not_true_eq_false, Option.getD_some, Option.isSome_some, and_self]
  rfl

theorem State.audWin_stage (h : IsAudRecord ty i) (hroom : s.stage.records.length < 1024) :
    s.audWin p (audWinCmd 2 ty i) bad =
      (s.put AUD_WIN_STAT_ERR 0).stageRecPut p.owner ⟨8 + ty, i, s.winGet (AUD_WIN_DATA 0) (if ty = 0 then 32 else 4)⟩ := by
  have hfull : ¬ ((s.put AUD_WIN_STAT_ERR 0).stage.records.length ≥ 1024) := Nat.not_le.mpr hroom
  obtain ⟨hop, htype, hindex⟩ := audWinCmd_fields (op := 2) (by decide) h
  simp only [State.audWin, hop, htype, hindex, h.not_missing, hfull, ne_eq, not_true_eq_false, false_and, if_false, if_true,
    Nat.reduceEqDiff, State.winGet_put s AUD_WIN_STAT_ERR 0 (AUD_WIN_DATA 0) _ (by decide)]

theorem State.audWin_stage_full (h : IsAudRecord ty i) (hfull : 1024 ≤ s.stage.records.length)
    (hnew : ∀ x, x ∈ s.stage.records → ¬ (x.typ = 8 + ty ∧ x.index = i)) :
    s.audWin p (audWinCmd 2 ty i) bad = (s.put AUD_WIN_STAT_ERR 0).put AUD_WIN_STAT_ERR 3 := by
  have hany : (s.put AUD_WIN_STAT_ERR 0).stage.records.any (fun r => r.typ == 8 + ty && r.index == i) = false :=
    List.any_eq_false.mpr (fun x hx => by simpa using hnew x hx)
  have hfull' : (s.put AUD_WIN_STAT_ERR 0).stage.records.length ≥ 1024 := hfull
  obtain ⟨hop, htype, hindex⟩ := audWinCmd_fields (op := 2) (by decide) h
  simp only [State.audWin, hop, htype, hindex, h.not_missing, hfull', hany, ne_eq, not_true_eq_false, if_false, if_true, Bool.not_false,
    and_self, Nat.reduceEqDiff]

theorem State.audWin_discard (h : IsAudRecord ty i) :
    s.audWin p (audWinCmd 3 ty i) bad = ((s.put AUD_WIN_STAT_ERR 0).unstaged (8 + ty) i).stageTouch := by
  obtain ⟨hop, htype, hindex⟩ := audWinCmd_fields (op := 3) (by decide) h
  simp only [State.audWin, hop, htype, hindex, h.not_missing, ne_eq, not_true_eq_false, if_false, if_true, Nat.reduceEqDiff]
  rfl

end

/-! ### The audio window's commands as commands of the device -/

section
variable (s : State) (p : Port) (ty : Fin 16) (i : Nat)

/-- A taken command has the window's effect, and the access succeeds. -/
theorem next_audWinWrite {p : Port} {s : State} {op : Nat} (hop : op < 16)
    (htaken : Taken s p AUD_WIN_CMD (audWinCmd op ty i)) (hst : op = 2 → s.stageStatus p.owner true = 0) (bad : Bool) {t : State}
    (ht : (s.accessOk 0).audWin p (audWinCmd op ty i) bad = t) :
    (Host.Outcome.next (s.audWinWrite p (audWinCmd op ty i) bad) : Host.Outcome State Fault Refusal) = .next t := by
  rw [State.audWinWrite_taken htaken (fun h => hst ((audWinCmd_op hop ty.isLt i).symm.trans h)) bad, ht]

theorem audWinFetch_spec {w : List W32} (htaken : Taken s p AUD_WIN_CMD (audWinCmd 1 ty i)) (h : IsAudRecord ty i)
    (hw : tfind (if ty.val = 0 then s.aud.slots else s.aud.sess) i = some w) :
    ∃ t, exec (.audWinFetch p ty i false) s = .next t ∧ Succeeded t ∧ t.fld AUD_WIN_STAT_ERR = 0 ∧
      (∀ j v, (withCrc w)[j]? = some v → t.rd (AUD_WIN_DATA j) = v) ∧ t = { s with regs := t.regs, ctl := t.ctl } := by
  refine ⟨_, next_audWinWrite (op := 1) ty i (by decide) htaken (fun h => absurd h (by decide)) false (State.audWin_fetch _ p h hw), ?_,
    State.fld_err_audFetched _ w, State.rd_data_audFetched (s.accessOk 0) w, ?_⟩
  · rw [State.audFetched_eq]; exact ⟨rfl, rfl⟩
  · rw [State.audFetched_eq]; rfl

theorem audWinFetch_bad {w : List W32} (htaken : Taken s p AUD_WIN_CMD (audWinCmd 1 0 i)) (h : i < 8192)
    (hw : tfind s.aud.slots i = some w) (hlen : w.length = 32) :
    ∃ t, exec (.audWinFetch p 0 i true) s = .next t ∧ t.fld AUD_WIN_STAT_ERR = 2 ∧
      (∀ j v, (withCrc w)[j]? = some v → t.rd (AUD_WIN_DATA j) = v) ∧ t.sf i 0 1 = 3 ∧ Raises s t 0x1A04 i 0 ∧
      t = { s with regs := t.regs, evq := t.evq, ctl := t.ctl, aud := { s.aud with slots := t.aud.slots } } := by
  refine ⟨_, next_audWinWrite (op := 1) 0 i (by decide) htaken (fun h => absurd h (by decide)) true (State.audWin_fetch_bad _ p h hw),
    ?_, fun j v hv => ?_, ?_, ?_, ?_⟩
  · rw [fld_emit _ _ _ _ _ (by decide) (by decide), State.fld_err_audFetchStop]
  · have hne : AUD_WIN_DATA j ≠ EVQ_STAT ∧ AUD_WIN_DATA j ≠ EVQ_CNT_LOST := by
      unfold AUD_WIN_DATA EVQ_STAT EVQ_CNT_LOST
      omega
    rw [rd_emit _ _ _ _ _ hne.1 hne.2, State.rd_data_audFetchStop _ i w j v hv]
  · rw [emit_eq]
    exact State.sf_audFetchStop hw hlen
  · have hstop := State.audFetchStop_eq (s.accessOk 0) i w
    refine (raises_emit _ _ _ _).of_keeps (s := s) (keeps_audFetchStop (s.accessOk 0) i w) (by rw [hstop]; rfl) (fun a ha => ?_)
      (fun _ _ => by rw [hstop]; exact Nat.le_refl _)
    have hbelow : ∀ a, a ∈ [TB_EPOCH, TB_STAT, EVQ_CFG, EVQ_MASK_LO, EVQ_MASK_HI] → a < AUD_WIN_STAT := by decide
    exact not_mem_audFetchAddrs (hbelow a ha) w
  · rw [emit_eq, State.audFetchStop_eq]
    rfl

theorem audWinFetch_missing (bad : Bool) (htaken : Taken s p AUD_WIN_CMD (audWinCmd 1 ty i))
    (h : ty.val > 1 ∨ (ty.val = 0 ∧ 8192 ≤ i % 2 ^ 15)) :
    ∃ t, exec (.audWinFetch p ty i bad) s = .next t ∧ t.fld AUD_WIN_STAT_ERR = 1 ∧
      t = { s with regs := t.regs, ctl := t.ctl } ∧ Keeps s t [AUD_WIN_STAT] :=
  ⟨_, next_audWinWrite (op := 1) ty i (by decide) htaken (fun h => absurd h (by decide)) bad
    (State.audWin_missing _ p bad (by decide) ty.isLt h), fld_put_same _ AUD_WIN_STAT_ERR 1 (by decide), rfl,
    keeps_put (s.accessOk 0) AUD_WIN_STAT_ERR 1⟩

theorem audWinStage_spec (htaken : Taken s p AUD_WIN_CMD (audWinCmd 2 ty i)) (hst : s.stageStatus p.owner true = 0)
    (h : IsAudRecord ty i) (hroom : s.stage.records.length < 1024) :
    ∃ t, exec (.audWinStage p ty i) s = .next t ∧ Succeeded t ∧
      t.stage.records = s.stage.records.filter (fun x => ¬ (x.typ = 8 + ty.val ∧ x.index = i)) ++
        [⟨8 + ty.val, i, s.winGet (AUD_WIN_DATA 0) (if ty.val = 0 then 32 else 4)⟩] ∧
      t.stage.owner = p.owner ∧ t.fld CFG_STAGE_STAT_CHECKED = 0 ∧
      t = { s with regs := t.regs, ctl := t.ctl, stage := t.stage } ∧ Keeps s t [AUD_WIN_STAT, CFG_STAGE_STAT] :=
  ⟨_, next_audWinWrite (op := 2) ty i (by decide) htaken (fun _ => hst) false (State.audWin_stage _ p false h hroom),
    ⟨rfl, rfl⟩, rfl, rfl, fld_checked_stageTouch _, rfl,
    (keeps_put (s.accessOk 0) AUD_WIN_STAT_ERR 0).trans _ _ _ _ _ (keeps_stageRecPut _ p.owner _)⟩

theorem audWinStage_full (htaken : Taken s p AUD_WIN_CMD (audWinCmd 2 ty i)) (hst : s.stageStatus p.owner true = 0)
    (h : IsAudRecord ty i) (hfull : 1024 ≤ s.stage.records.length)
    (hnew : ∀ x, x ∈ s.stage.records → ¬ (x.typ = 8 + ty.val ∧ x.index = i)) :
    ∃ t, exec (.audWinStage p ty i) s = .next t ∧ t.fld AUD_WIN_STAT_ERR = 3 ∧ t.stage = s.stage ∧
      t = { s with regs := t.regs, ctl := t.ctl } ∧ Keeps s t [AUD_WIN_STAT] := by
  refine ⟨_, next_audWinWrite (op := 2) ty i (by decide) htaken (fun _ => hst) false (State.audWin_stage_full _ p false h hfull hnew),
    fld_put_same _ AUD_WIN_STAT_ERR 3 (by decide), rfl, rfl, ?_⟩
  exact ((keeps_put (s.accessOk 0) AUD_WIN_STAT_ERR 0).trans _ _ _ _ _ (keeps_put _ AUD_WIN_STAT_ERR 3)).weaken _ _ _ _
    (fun _ ha => (List.mem_append.mp ha).elim id id)

theorem audWinDiscard_spec (htaken : Taken s p AUD_WIN_CMD (audWinCmd 3 ty i)) (h : IsAudRecord ty i) :
    ∃ t, exec (.audWinDiscard p ty i) s = .next t ∧ Succeeded t ∧
      t.stage.records = s.stage.records.filter (fun r => !(r.typ == 8 + ty.val && r.index == i)) ∧
      t = { s with regs := t.regs, ctl := t.ctl, stage := t.stage } ∧ Keeps s t [AUD_WIN_STAT, CFG_STAGE_STAT] :=
  ⟨_, next_audWinWrite (op := 3) ty i (by decide) htaken (fun h => absurd h (by decide)) false (State.audWin_discard _ p false h),
    ⟨rfl, rfl⟩, rfl, rfl, (keeps_put (s.accessOk 0) AUD_WIN_STAT_ERR 0).trans _ _ _ _ _ (keeps_discard _ (8 + ty) i)⟩

end

/-! ### Loudness (R264) -/

theorem ofSigned_lt (w : Nat) (v : Int) : ofSigned w v < 2 ^ w := by
  have hpos : (0 : Int) < ((2 ^ w : Nat) : Int) := Int.natCast_pos.mpr (Nat.two_pow_pos w)
  exact (Int.toNat_lt (Int.emod_nonneg v (Int.ne_of_gt hpos))).mpr (Int.emod_lt_of_pos v hpos)

/-- A number that fits a 16-bit field in two's complement reads back. -/
theorem toSigned_ofSigned_16 {v : Int} (hlo : -32768 ≤ v) (hhi : v < 32768) : toSigned 16 (ofSigned 16 v) = v := by
  have hval : (ofSigned 16 v : Int) = v % 65536 := Int.toNat_of_nonneg (Int.emod_nonneg v (by decide))
  have hlt : ofSigned 16 v < 2 ^ 16 := ofSigned_lt 16 v
  simp only [toSigned, Nat.mod_eq_of_lt hlt]
  split <;> omega

/-- How a field shows a loudness: 0x8000 while there is none. -/
def loudCode (v : Option Int) : Nat := match v with | some x => ofSigned 16 x | none => 0x8000

/-- What the field of the true peak shows after a measurement, from what it showed before. -/
def peakCode (old : Nat) (tp : Option Int) : Nat :=
  match tp with
  | none => old
  | some x => if old = 0x8000 ∨ toSigned 16 old < x then ofSigned 16 x else old

theorem loudCode_lt (v : Option Int) : loudCode v < 2 ^ 16 := by
  cases v with
  | none => decide
  | some x => exact ofSigned_lt 16 x

theorem peakCode_lt {old : Nat} (h : old < 2 ^ 16) (tp : Option Int) : peakCode old tp < 2 ^ 16 := by
  cases tp with
  | none => exact h
  | some x =>
    rw [peakCode]
    split
    · exact ofSigned_lt 16 x
    · exact h

/-- Once there is a value the true peak is the greatest so far. -/
theorem toSigned_peakCode {old : Nat} {v : Int} (hold : old ≠ 0x8000) (hlo : -32768 ≤ v) (hhi : v < 32768) :
    toSigned 16 (peakCode old (some v)) = max (toSigned 16 old) v := by
  rw [peakCode]
  split
  case isTrue h =>
    rw [toSigned_ofSigned_16 hlo hhi, Int.max_eq_right (Int.le_of_lt (h.resolve_left hold))]
  case isFalse h =>
    rw [Int.max_eq_left (Int.not_lt.mp (fun hlt => h (.inr hlt)))]

section
variable (s : State) (n : Nat) (m sh int : Option Int) (peak : Nat)

/-- The state once this 100 ms period of a channel is measured. -/
def State.loudTimed : State := { s with aud := { s.aud with due := tset (fun _ => 0) s.aud.due n (s.raw / (100 * msU)) } }

/-- The state with a channel's loudness fields written. -/
def State.loudPut : State :=
  (((s.put (AUD_BC_LOUD_INTEGRATED n) (loudCode int)).put (AUD_BC_LOUD_SHORT n) (loudCode sh)).put
    (AUD_BC_LOUD2_MOMENTARY n) (loudCode m)).put (AUD_BC_LOUD2_TRUE_PEAK n) peak

theorem audBcLoud_ne : AUD_BC_LOUD n ≠ AUD_BC_LOUD2 n := by unfold AUD_BC_LOUD AUD_BC_LOUD2; omega

/-- The two fields of a loudness register are the halves of its word. -/
theorem lowHalf_le : 0 + 16 ≤ 32 := by decide
theorem highHalf_le : 16 + 16 ≤ 32 := by decide

theorem State.fld_integrated_loudPut : (s.loudPut n m sh int peak).fld (AUD_BC_LOUD_INTEGRATED n) = loudCode int := by
  have hne := audBcLoud_ne n
  rw [State.loudPut, fld_put_other _ (AUD_BC_LOUD2_TRUE_PEAK n) _ _ lowHalf_le (.inl hne),
    fld_put_other _ (AUD_BC_LOUD2_MOMENTARY n) _ _ highHalf_le (.inl hne),
    fld_put_other _ (AUD_BC_LOUD_SHORT n) (AUD_BC_LOUD_INTEGRATED n) _ lowHalf_le (.inr (.inl (Nat.le_refl 16))),
    fld_put_same _ (AUD_BC_LOUD_INTEGRATED n) _ highHalf_le]
  exact Nat.mod_eq_of_lt (loudCode_lt int)

theorem State.fld_short_loudPut : (s.loudPut n m sh int peak).fld (AUD_BC_LOUD_SHORT n) = loudCode sh := by
  have hne := audBcLoud_ne n
  rw [State.loudPut, fld_put_other _ (AUD_BC_LOUD2_TRUE_PEAK n) _ _ lowHalf_le (.inl hne),
    fld_put_other _ (AUD_BC_LOUD2_MOMENTARY n) _ _ highHalf_le (.inl hne),
    fld_put_same _ (AUD_BC_LOUD_SHORT n) _ lowHalf_le]
  exact Nat.mod_eq_of_lt (loudCode_lt sh)

theorem State.fld_momentary_loudPut : (s.loudPut n m sh int peak).fld (AUD_BC_LOUD2_MOMENTARY n) = loudCode m := by
  rw [State.loudPut, fld_put_other _ (AUD_BC_LOUD2_TRUE_PEAK n) (AUD_BC_LOUD2_MOMENTARY n) _ lowHalf_le (.inr (.inl (Nat.le_refl 16))),
    fld_put_same _ (AUD_BC_LOUD2_MOMENTARY n) _ highHalf_le]
  exact Nat.mod_eq_of_lt (loudCode_lt m)

theorem State.fld_truePeak_loudPut (h : peak < 2 ^ 16) : (s.loudPut n m sh int peak).fld (AUD_BC_LOUD2_TRUE_PEAK n) = peak := by
  rw [State.loudPut, fld_put_same _ (AUD_BC_LOUD2_TRUE_PEAK n) _ lowHalf_le]
  exact Nat.mod_eq_of_lt h

theorem keeps_loudPut : Keeps s (s.loudPut n m sh int peak) [AUD_BC_LOUD n, AUD_BC_LOUD2 n] :=
  (((keeps_put s (AUD_BC_LOUD_INTEGRATED n) _).trans _ _ _ _ _ (keeps_put _ (AUD_BC_LOUD_SHORT n) _)).trans _ _ _ _ _
    ((keeps_put _ (AUD_BC_LOUD2_MOMENTARY n) _).trans _ _ _ _ _ (keeps_put _ (AUD_BC_LOUD2_TRUE_PEAK n) _))).weaken _ _ _ _
    (fun a ha => by simpa [AUD_BC_LOUD_INTEGRATED, AUD_BC_LOUD_SHORT, AUD_BC_LOUD2_MOMENTARY, AUD_BC_LOUD2_TRUE_PEAK] using ha)

end

theorem loudnessUpdate_spec (s : State) (n : Fin 16) (m sh int tp : Option Int) (hlay : s.fld (AUD_BC_CTRL_LOUD_LAYOUT n) ≠ 0)
    (hen : s.bit (AUD_BC_CTRL_EN n) = true) (hdue : s.raw / (100 * msU) > tget (fun _ => 0) s.aud.due n) :
    ∃ t, exec (.loudnessUpdate n m sh int tp) s = .next t ∧
      t.fld (AUD_BC_LOUD_INTEGRATED n) = loudCode int ∧ t.fld (AUD_BC_LOUD_SHORT n) = loudCode sh ∧
      t.fld (AUD_BC_LOUD2_MOMENTARY n) = loudCode m ∧
      t.fld (AUD_BC_LOUD2_TRUE_PEAK n) = peakCode (s.fld (AUD_BC_LOUD2_TRUE_PEAK n)) tp ∧
      t = { s with regs := t.regs, aud := { s.aud with due := t.aud.due } } ∧ Keeps s t [AUD_BC_LOUD n, AUD_BC_LOUD2 n] := by
  have hexec : exec (.loudnessUpdate n m sh int tp) s = .next
      ((s.loudTimed n).loudPut n m sh int (peakCode (s.fld (AUD_BC_LOUD2_TRUE_PEAK n)) tp)) := by
    show execLoudnessUpdate n m sh int tp s = _
    rw [execLoudnessUpdate, if_neg (by simp [hlay, hen]), if_neg (Nat.not_le.mpr hdue)]
    rfl
  exact ⟨_, hexec, State.fld_integrated_loudPut .., State.fld_short_loudPut .., State.fld_momentary_loudPut ..,
    State.fld_truePeak_loudPut _ _ _ _ _ _ (peakCode_lt (fieldGet_lt _ _ _) tp), rfl, keeps_loudPut _ _ _ _ _ _⟩

/-- Settles O16: a candidate set in time, late and not for here; each command of the audio window by what it does to the window and
the bank; and a channel's loudness. -/
theorem audioWork : Obligations.AudioWork := by
  unfold Obligations.AudioWork
  refine ⟨candidateSetRx_inTime, candidateSetRx_late, candidateSetRx_ignored, ?_, ?_, audWinFetch_missing,
    audWinStage_spec, audWinStage_full, audWinDiscard_spec, ?_⟩
  · intro s p ty i w htaken hw
    have hrec : IsAudRecord ty i := hw.imp (fun h => ⟨h.1, h.2.1⟩) (fun h => ⟨h.1, h.2.1⟩)
    have hlisted : tfind (if ty.val = 0 then s.aud.slots else s.aud.sess) i = some w := by
      rcases hw with ⟨hty, _, hw⟩ | ⟨hty, _, hw⟩
      · rwa [if_pos hty]
      · rwa [if_neg (by omega)]
    obtain ⟨t, ht, hok, herr, hdata, hframe⟩ := audWinFetch_spec s p ty i htaken hrec hlisted
    exact ⟨t, ht, hok, herr, fun j v _ hv => hdata j v hv, hframe⟩
  · intro s p i w htaken hi hw hlen
    obtain ⟨t, ht, herr, hdata, hstate, hevent, hframe⟩ := audWinFetch_bad s p i htaken hi hw hlen
    exact ⟨t, ht, herr, fun j v _ hv => hdata j v hv, hstate, hevent, hframe⟩
  · intro s n m sh int tp hlay hen hdue
    obtain ⟨t, ht, hint, hshort, hmom, hpeak, hframe, hkeep⟩ := loudnessUpdate_spec s n m sh int tp hlay hen hdue
    refine ⟨t, ht, ?_, ?_, ?_, ?_, ?_, ?_, ?_, ?_, hframe, hkeep⟩
    · rintro rfl; exact hint
    · rintro v rfl; exact hint
    · rintro rfl; exact hshort
    · rintro v rfl; exact hshort
    · rintro rfl; exact hmom
    · rintro v rfl; exact hmom
    · rintro rfl; exact hpeak
    · rintro v rfl hlo hhi hold
      rw [State.sfld, hpeak]
      exact toSigned_peakCode hold hlo hhi

end Sys2Proof.Machine

/-!
# O23 and O25: the counter of a running loop

Both statements bind every state, and neither says that its running loops count in LC0 or LC1. LOOP enters no others, since its counter
field has one bit (R322), but the record of a running loop holds the counter as a plain number (`KLoop.lc`), and the end of the block
counts down register code 0x40 plus that number. In a state whose loop holds 5 there, the end of the block counts IMASK (0x45) down: an
instruction at that place leaves a register changed that the statements say it leaves. The premise they lack is that every running loop
has `lc ≤ 1`.
-/

namespace Sys2Proof.Machine

/-- What a command leaves in a register code of a unit. -/
def baseAfter (i : Instr) (s : State) (c r : Nat) : Option W32 :=
  match exec i s with
  | .next t => some (t.kBase c r)
  | _ => none

theorem baseAfter_of_next {i : Instr} {s t : State} (h : exec i s = .next t) (c r : Nat) : baseAfter i s c r = some (t.kBase c r) := by
  simp [baseAfter, h]

/-- Core 0 runs the word `w` at P address 0, the last one of a block whose loop counts in IMASK (0x40 + 5), which holds 3. -/
def imaskLoop (w : W32) : State :=
  { State.reset with ket := { Ket.zero with
      p := [(0, w)]
      cores := [(0, { KCore.zero with st := 2, regs := [(0x45, 3)], loops := [⟨0, 0, 5, none⟩] })] } }

theorem kKey_imaskLoop (w : W32) : (imaskLoop w).kKey 0 = 0 := ite_self _

/-- A command that counts IMASK down at the end of that block does not leave it untouched. -/
theorem not_untouched_imaskLoop {i : Instr} {w : W32} {t : State} {l : List Nat} (ht : exec i (imaskLoop w) = .next t)
    (hcount : baseAfter i (imaskLoop w) 0 0x45 = some 2) (hl : 0x45 ∉ l) : ¬ Untouched (imaskLoop w) t 0 l := by
  intro h
  have hpend : ((imaskLoop w).kc ((imaskLoop w).kKey 0)).pend = [] := by rw [kKey_imaskLoop]; rfl
  obtain ⟨-, hkept⟩ := h 0x45 hl (by decide) (by simp [hpend])
  rw [kKey_imaskLoop] at hkept
  have hbefore : (imaskLoop w).kBase 0 0x45 = 3 := rfl
  have hafter : t.kBase 0 0x45 = 2 := Option.some.inj ((baseAfter_of_next ht 0 0x45).symm.trans hcount)
  exact absurd ((hbefore.symm.trans hkept.symm).trans hafter) (by decide)

/-- MOVEI D5, 7 (R321), and MAXI D1, D2, D3 of int32 whose index is A4 (R324). -/
def moveiWord : W32 := 0x51050007
def maxiWord : W32 := 0x79088680

theorem issues_moveiWord : Issues (imaskLoop moveiWord) 0 (.mov 1 5 7) 1 := by unfold Issues; decide +kernel

theorem issues_maxiWord : Issues (imaskLoop maxiWord) 0 (.srch true false true 1 2 3 4) 1 := by unfold Issues; decide +kernel

/-- At the end of the block both count IMASK down from 3 to 2. -/
theorem baseAfter_moveiWord : baseAfter (.movei 0) (imaskLoop moveiWord) 0 0x45 = some 2 := by decide +kernel

theorem baseAfter_maxiWord : baseAfter (.maxi 0) (imaskLoop maxiWord) 0 0x45 = some 2 := by decide +kernel

/-- Refutes O23: MOVEI D5 at the end of a block whose loop counts in IMASK changes IMASK, which the clause on moves into D, A and M
registers says it leaves. -/
theorem not_kettleMoves : ¬ Obligations.KettleMoves := by
  unfold Obligations.KettleMoves
  rintro ⟨-, -, hmove, -⟩
  obtain ⟨t, ht, -, -, -, -, huntouched, -⟩ := hmove _ 0 1 5 7 1 issues_moveiWord (.inl (by decide))
  exact not_untouched_imaskLoop ht baseAfter_moveiWord (by decide) huntouched

/-- Refutes O25: MAXI at the same place changes IMASK. Its candidate D3 and the best value D1 are both 0, so that it takes nothing, and
the clause on a register's candidate says that it then leaves every register. -/
theorem not_kettleSearch : ¬ Obligations.KettleSearch := by
  unfold Obligations.KettleSearch
  rintro ⟨hsearch, -⟩
  obtain ⟨t, ht, -, hkeeps, -⟩ := hsearch _ 0 true false true 1 2 3 4 1 _ _ issues_maxiWord rfl rfl
  obtain ⟨-, -, huntouched, -⟩ := hkeeps (by decide +kernel)
  exact not_untouched_imaskLoop ht baseAfter_maxiWord (by decide) huntouched

end Sys2Proof.Machine
